-- ==== Sys2Proof/Word.lean ====
section
/-! DEFINITION. The machine's words: a register word of 32 bits (R12), a byte of memory, and nothing else. -/

namespace Sys2Proof

/-- A register word (R12: registers are 32-bit). -/
abbrev Word := BitVec 32

/-- A byte of the internal address space, of a packet, or of a record. -/
abbrev Byte := BitVec 8

end Sys2Proof
end

