-- ==== Sys2Proof/Payload.lean ====
section
/-! DEFINITION. What a command carries from outside the model: the contents of packets, frames, images and samples, laid
out as the spec's tables name their fields. -/

namespace Sys2Proof

/-- An edge report of a timing channel (R49, R430): the flags, the count, the edge's time and, when an index loaded the
count, CPRE and DTI (R431). -/
structure EdgeReport where
  edge    : Bool
  reverse : Bool
  count   : Nat
  te      : Nat
  idx     : Bool
  cpre    : Nat
  dti     : Nat
  deriving DecidableEq, Repr

/-- A transition of A or B of a web input (R43): its sense before INV, and how many ns the new level lasts. -/
structure EncEdge where
  forward : Bool
  level   : Nat
  deriving DecidableEq, Repr

/-- The far end's times of a time exchange (R40, R251): when the request came, and when the answer left. -/
structure FarTimes where
  t2 : Nat
  t3 : Nat
  deriving DecidableEq, Repr

/-- The straps sampled at the rising edge of RESET_N (R543). -/
structure Straps where
  bootSrc : Nat
  pcieX16 : Nat
  refHq   : Nat
  refCam  : Nat
  refPeer : Nat
  refSys  : Nat
  deriving DecidableEq, Repr

/-- A faulted rail has been within its release level for 1 ms (R540): the rail, and the straps then (R543). -/
structure RailRecovery where
  rail   : Nat
  straps : Straps
  deriving DecidableEq, Repr

/-- What the boot ROM read (R488 to R490): from slot A (0), slot B (1) or the host (2), and the image's bytes, or none where the read
failed. -/
structure ReadImage where
  source : Nat
  image  : Option (List Nat)
  deriving DecidableEq, Repr

/-- A thermal sensor's sample (R497, R498): the reading in 1/16 °C, and 0 for a working sensor, 1 open, 2 shorted. -/
structure SensorReading where
  temp16 : Int
  defect : Nat
  deriving DecidableEq, Repr

/-- An ECC hit in on-die SRAM (R517, R519). `mem` is 0 to 63 for SEn's local SRAM, 64 SRAM-S, 65 the camera line
buffers, 66 ring memory, 67 compression contexts, 68 service memory; `lineData` says that an engine hit lies in the tile
cache or in output staging; `row` and `line` name the line concerned, and `who` the ring, the camera port or the context
slot whose data the word holds. -/
structure SramHit where
  mem           : Nat
  offset        : Nat
  uncorrectable : Bool
  lineData      : Bool
  row           : Nat
  line          : Nat
  who           : Nat
  deriving DecidableEq, Repr

/-- An IDENT status (R206). -/
structure Ident where
  ver      : Nat
  vendor   : Nat
  model    : Nat
  serial   : Nat
  rowmask  : Nat
  maxRate  : Nat
  nwaveM1  : Nat
  trimStep : Nat
  dual     : Nat
  hport    : Nat
  cols     : List Nat
  deriving DecidableEq, Repr

/-- A TIME status (R206). -/
structure TimeStatus where
  xid    : Nat
  locked : Bool
  theta  : Int
  t2     : Nat
  t3     : Nat
  deriving DecidableEq, Repr

/-- A HEALTH status of a head (R206): four temperatures in 1/16 °C and the eight counts CRC, DUP, LATE, OVF, CLOSE, WAVE,
FORMAT, UNLOCK. -/
structure HealthStatus where
  seq    : Nat
  mode   : Nat
  cap    : Nat
  locked : Bool
  tsrc   : Bool
  fault  : Bool
  temps  : List Int
  counts : List Nat
  deriving DecidableEq, Repr

/-- A sense word (R204). -/
structure SenseWord where
  flg  : Nat
  freq : Int
  amp  : Nat
  deriving DecidableEq, Repr

/-- A sense packet (R204). -/
structure SensePacket where
  row      : Nat
  seq      : Nat
  fireTime : Nat
  words    : List SenseWord
  deriving DecidableEq, Repr

/-- What a link's receiver sees in a state of its bring-up (R188, R248), lane by lane: whether signal is present, the clock is locked
or the marker has been found (states 1 to 3, and the conditions of state 7 that are not the port's own); the marker's sense, inverted or
not, and the position of its first bit counted from the present block boundary (R238); the blocks received at each of the 66 boundaries
(R189), boundary 0 the lane's as it was at reset; and the blocks received in step after block lock (R191, R192), as sync, s0 + 2 s1, and
payload. -/
structure BringupObs where
  ok      : Bool
  markers : List (Bool × Nat)
  seen    : List (List (List (Nat × Nat)))
  blocks  : List (List (Nat × Nat))
  deriving DecidableEq, Repr

/-- A packet as a link received it (R182, R200): the link lane of its SOP, and its blocks as sync and payload. -/
structure RxPacket where
  first  : Nat
  blocks : List (Nat × Nat)
  deriving DecidableEq, Repr

/-- What a locked lane's receiver finds beside its blocks: how many blocks since END came before these (R192); whether its elastic buffer
ran over or under; and whether, after deskew, SKIP or BEACON came at different counter values on the lanes. -/
structure RxFaults where
  afterEnd : Nat
  elastic  : Bool
  askew    : Bool
  deriving DecidableEq, Repr

/-- The receiver setting that a re-adaptation found (R235): L_RXEQ's word, and DFE taps 2 to 8. -/
structure RxSetting where
  rxeq : Word
  taps : List Nat
  deriving DecidableEq, Repr

/-- A frame on a barrier channel (R423): 0 to 2 TC0 to TC2, 3 CMD, 4 STS, 5 BCN_M and 6 BCN_F; and its 48 bits after the start. -/
structure WireFrame where
  channel : Nat
  bits    : Nat
  deriving DecidableEq, Repr

/-- What the axes sense at a control tick: the estimate of each axis' load angle |δ| in degrees, where its encoder is off and one exists
(R472); and of coils A and B of each axis the current samples since the last one, with their times in 100 ns (R469). -/
structure MotionSense where
  est : List (Option Nat)
  cs  : List (List (Nat × Int))
  deriving DecidableEq, Repr

/-- The moments of a lane self-test (R242): its loopback ends, with the bits in error lane by lane; its bring-up ends. -/
inductive LaneTestStep where
  | loopback (errors : List Nat)
  | bringup
  deriving DecidableEq, Repr

/-- What a training of one sub-channel ends with (R410): 1 PASS, 2 MARGINAL or 3 FAIL, the margins of MC_MARGIN, and the delays
found, as register offsets within the instance (MC_DQ_DLY to MC_VREF) and their words. -/
structure TrainOutcome where
  mc     : Nat
  result : Nat
  margin : Word
  delays : List (Nat × Word)
  deriving DecidableEq, Repr

/-- Two moments of a training: it starts, or it ends with the outcomes of its sub-channels. -/
inductive TrainStep where
  | start
  | done (outcomes : List TrainOutcome)
  deriving DecidableEq, Repr

/-- The moments of a full retrain (R412): a slot's write of MC_CTRL, service firmware's own request, or its end. -/
inductive RetrainStep where
  | write (slot : Nat) (data : Word)
  | firmware
  | done (outcome : TrainOutcome)
  deriving DecidableEq, Repr

/-- The refresh-rate status of one rank (R407). -/
structure RankStatus where
  mc      : Nat
  rank    : Nat
  doubled : Bool
  hotter  : Bool
  deriving DecidableEq, Repr

/-- What stops the DRAM controller (R416): the DPA of the burst, the cause (1 a demand read, 2 a scrub read, 3 a
command error), the class of the request, the syndrome summary, and the burst's 80 raw bytes (R522). -/
structure DramStop where
  dpa   : Nat
  cause : Nat
  cls   : Nat
  synd  : Nat
  raw   : List Byte
  deriving DecidableEq, Repr

/-- A corrected DRAM error (R414): the DPA of the burst, and whether it persists after the write-back. -/
structure DramCe where
  dpa      : Nat
  persists : Bool
  deriving DecidableEq, Repr

/-- The two moments of pairing (R318): DUE_CTRL.PAIR written on this member, by a slot; or on the peer, whose SIDE and PREF go with
it. -/
inductive PairStep where
  | own (slot : Nat)
  | peer (side pref : Nat)
  deriving DecidableEq, Repr

/-- What this member learns of its peer when pairing is judged (R318): DUE_CFG_DIGEST, the CRC-32 of its Starmap save streams, whether
every used port has DUAL, MER_CTRL.ROLE, whether its Meridian is LOCKED, and its mode. -/
structure PeerFacts where
  digest : Nat
  image  : Nat
  dual   : Bool
  role   : Nat
  locked : Bool
  mode   : Nat
  deriving DecidableEq, Repr

/-- What a camera's stream offers (R258, R259): a region header, compression, the stream's number (0 the first), its pixel format
as components per pixel and bits per component, and the heartbeats that came since the line before. -/
structure StreamHead where
  region     : Bool
  compressed : Bool
  stream     : Nat
  comps      : Nat
  bits       : Nat
  beats      : Nat
  deriving DecidableEq, Repr

/-- A stream line as a camera port takes it (R268): the stream's head, its components pixel by pixel, its packets with CRC errors,
and whether it finds the capture staging area full (R290). -/
structure StreamLine where
  head   : StreamHead
  pixels : List Nat
  crcErrors : Nat
  full   : Bool
  deriving DecidableEq, Repr

end Sys2Proof
end

