-- ==== Sys2Proof/Machine/Types.lean ====
section
/-! DEFINITION. The parts of the machine's state that are not registers: what the spec's units hold beside the registers
that report it. Every type is plain data. -/

namespace Sys2Proof.Machine

/-! ### Host interface (chapter 11) -/

/-- A submission descriptor that has been fetched and not completed: its ring index, its 64 bytes, and whether its
function has started it (R359). -/
structure Desc where
  index   : Nat
  bytes   : List Byte
  started : Bool
  deriving DecidableEq, Repr

/-- A record held for a full completion ring (R362): its 31 bytes before FLAGS, and the descriptor's IRQ flag. -/
structure HeldRec where
  bytes : List Byte
  irq   : Bool
  deriving DecidableEq, Repr

/-- What a ring holds beside its registers: descriptors in flight in ring order, records held under R362, the LOST mark
due under R363, the interrupt moderation of R366, how many descriptors an abort has completed, and when its last clock with a producer
doorbell was, with the producer index before that clock (R374). -/
structure RingSt where
  flight   : List Desc := []
  held     : List HeldRec := []
  lost     : Bool := false
  since    : Nat := 0
  firstRec : Option Nat := none
  aborted  : Nat := 0
  prodAt   : Option (Nat × Nat) := none
  deriving DecidableEq, Repr

/-- The host interface: per-slot _LO snapshots and write buffers (R13, R14), lease expiry times of the owner and the
claimants (R347), when the device was last claimed (R346), the owner before the last HANDOVER and when that came (R348), the rings that are not DISABLED, a device abort in progress (R369), BAR4's latched high words (R371),
the mailbox request's time (R372), the outstanding peer access (R373), the Unsupported Requests that each port has logged in AER
as advisory non-fatal errors (R351), whether each port's PERST_x_N is low and when it
answers configuration requests (R544), and the open values that say what each port's last training found (R243). -/
structure HostSt where
  loSnap   : List (Nat × Nat) := []
  loBuf    : List (Nat × Nat) := []
  lease    : List (Nat × Nat) := []
  claimAt  : Option Nat := none
  handed   : Option (Nat × Nat) := none
  rings    : List (Nat × RingSt) := []
  devAbort : Bool := false
  bar4Hi   : List (Nat × Nat) := []
  mbxAt    : Option Nat := none
  peerAt   : Option Nat := none
  peerTag  : Nat := 0
  aer      : List Nat := [0, 0]
  perst    : List Bool := [false, false]
  readyAt  : List Nat := [400000000, 400000000]
  trained  : List Nat := [0, 0]
  deriving DecidableEq, Repr

/-! ### Faults (chapter 17) -/

/-- A region test in progress (R517): the memory, the region's 4 KiB offset, the record's SEQ and its error code. -/
structure RegionTest where
  mem    : Nat
  region : Nat
  seqs   : List (Nat × Nat)
  ue     : Bool
  deriving DecidableEq, Repr

/-- What the performance counters did in this clock (R525, R526): the occurrences added, by counter; the counters from before a CLEAR;
and the PMC_MODE words from before a write, by address. -/
structure Tally where
  added : List (Nat × Nat) := []
  old   : Option (List (Nat × Word)) := none
  modes : List (Nat × Word) := []
  deriving DecidableEq, Repr

/-- The ERR unit: the records of one clock (its time; by rising SEQ the test, the SRC and the record's number of arrival) and the
records whose SEQ differs from that number (R527), the LOST mark of the next record, whether ERR_FRZ_RAW has been written (R522), region tests, remapped rows and spare rows used per macro (R518),
the words of on-die SRAM that the debug window has written (R34), rows marked faulty, the service-load window counts (R524), and the level conditions that held at the last cycle (R525). -/
structure ErrSt where
  recsAt    : Nat := 0
  recs      : List (Nat × Nat × Nat) := []
  moved     : List (Nat × Nat) := []
  lostNext  : Bool := false
  frzRaw    : Bool := false
  tests     : List RegionTest := []
  spareUsed : List (Nat × Nat) := []
  remapped  : List (Nat × Nat) := []
  sram      : List (Nat × Word) := []
  faulty    : List (Nat × Nat) := []
  lowRun    : Nat := 0
  levels    : List Nat := []
  spareLow  : Bool := false
  deriving DecidableEq, Repr

/-! ### Modes, power and thermal (chapters 16 and 18) -/

/-- A pending mode request (R483): its target, and the MODE descriptor (ring and index) that made it, if one did. -/
structure ModeReq where
  target : Nat
  desc   : Option (Nat × Nat)
  deriving DecidableEq, Repr

/-- A SPIT descriptor that runs (R509): its ring and index, its lines, PERIOD, LEVEL and WAVE; for each row slot its first fire time
and its next line; each port's spit count at acceptance; and the lines not sent. -/
structure Spit where
  ring   : Nat
  index  : Nat
  lines  : Nat
  period : Nat
  level  : Nat
  wave   : Nat
  rows   : List (Nat × Nat × Nat)
  base   : List (Nat × Nat)
  unsent : Nat
  deriving DecidableEq, Repr

/-- The power controller beside its registers: the pending mode request (R483); what holds the main die in reset (RESET_N low, R543; the
rails at fault and since when, R540; a thermal shutdown, R501) and since when; the straps; boot sources that failed and the port whose image
is read (R488, R490); whether the next thermal sample is the first (R500) and how many sensors read 113 °C or above (R501); since
when the thermal level falls and when the power level last rose (R504); Surge time (R507); a voltage raise that waits for its
acknowledgement (the level of the clock in force, the target, when it was commanded) and the level held after one failed (R541, R542);
the ports told hot (R502); the domains wanted by a request in progress (R492); whether service firmware has halted (R519); the cause
that holds M7 (R485); SPIT descriptors; the reference clocks that are lost (R228: 0 to 3 REFCLK_HQ, 4 CAM, 5 PEER, 6 PCIE); a Safe-stop entered in this clock
(its code and the last line on REF_ROW, R495, R510); the report boundary from which M6 publishes (R486); the estimates of PWR_EST,
newest first (R504); and the regulator's VOUT_MODE once read (R541). -/
structure PwrSt where
  modeReq    : Option ModeReq := none
  resetLow   : Bool := false
  rails      : List (Nat × Nat) := []
  shut       : Bool := false
  heldAt     : Nat := 0
  straps     : Straps := ⟨0, 0, 0, 0, 0, 0⟩
  bootFails  : List (Nat × Nat) := []
  bootPort   : Option Nat := none
  firstThm   : Bool := true
  hot        : Nat := 0
  fallAt     : Option Nat := none
  powerAt    : Option Nat := none
  surgeSince : Option Nat := none
  surgeUsed  : List (Nat × Nat) := []
  surgeBar   : Bool := false
  vrPend     : Option (Nat × Nat × Nat) := none
  vrHold     : Option (Nat × Nat) := none
  headHot    : List Nat := []
  domPend    : Option Nat := none
  svcHalted  : Bool := false
  derateCode : Nat := 0
  spits      : List Spit := []
  refLost    : List Nat := []
  stopTell   : Option (Nat × Nat) := none
  printFrom  : Nat := 0
  ests       : List Nat := []
  voutMode   : Option Nat := none
  deriving DecidableEq, Repr

/-! ### Timebase and Troika (chapter 02) -/

/-- One Troika sequencer (R51) and its standing in the vote (R61 to R64): position Q48.16, velocity Q16.48, time, high-water
position; whether it awaits its first report; the boundary of the last report received and its count; the last direction;
the time of the last outvote; shadow reports left and whether one differed; whether its self-test runs, whether the field die took
its REPLAY (R432), the boundary at which a channel that passed loads (R63), and the error record whose test that is (R516); and the index jumps removed so far (R46). -/
structure Seq where
  ps        : Int := 0
  v         : Int := 0
  ts        : Nat := 0
  hwm       : Int := 0
  fresh     : Bool := true
  lastTk    : Option Nat := none
  lastC     : Nat := 0
  lastRev   : Bool := false
  lastIdx   : Option Nat := none
  staleTk   : Option Nat := none
  outAt     : Option Nat := none
  shadow    : Option Nat := none
  shadowBad : Bool := false
  testing   : Bool := false
  replays   : Bool := false
  loadAt    : Option Nat := none
  errSeq    : Option Nat := none
  jump      : Int := 0
  deriving DecidableEq, Repr

/-- A row slot's running state: K_j (R53), the chain whose lines it publishes, the highest line published in it and how many
were, the last published line's fire time, the lines lost since the record that opened a late run and the last of them (R71),
whether it returns after a reverse (R69), the screen bank it uses (R144), the fire time of its last line in the outgoing
chain (R91), and the newest chain that it has left: it has passed every line of that chain and of those before it. -/
structure RowSt where
  kconst : Int := 0
  chain  : Option Nat := none
  pubHi  : Option Nat := none
  pubs   : Nat := 0
  lastTf : Option Nat := none
  lost   : Option (Nat × Nat) := none
  ret    : Bool := false
  bank   : Nat := 0
  rampTf : Option Nat := none
  past   : Nat := 0
  deriving DecidableEq, Repr

/-- A queued bar update (R55) and a queued cross-web update (R111). -/
structure BarUpd where
  line : Nat
  s    : Nat
  b    : Int
  deriving DecidableEq, Repr
structure XUpd where
  line : Nat
  sx   : Nat
  bx   : Int
  deriving DecidableEq, Repr

/-- A queued trim-temperature update (R125), with the chain its line counts in (0 before any chain). -/
structure TrimUpd where
  chain : Nat
  port  : Nat
  line  : Nat
  temp  : Int
  deriving DecidableEq, Repr

/-- A bar's values in a TRK context, before the updates queued for it (R55, R90, R111). -/
structure BarCtx where
  s      : Nat := 0x40000000
  b      : Int := 0
  aline  : Nat := 0
  sx     : Nat := 0x40000000
  bx     : Int := 0
  deriving DecidableEq, Repr

/-- The timebase: the 40-bit fraction (R37), the follower's loop rate and exchange counts (R40 to R42), quadrature-error
times (R44), the increments since the last 1 ms boundary (R45), the divider (R48), the three sequencers, the run of
reports without a majority (R65), since when reports are expected, and after a fall of TIME_LOCK the last boundary at which they were (R559), the direction of the last report (R58), the last valid
round trips of the follower's exchanges (R196), whether the present holdover has told its limit (R42), the buffered ENCOUT_N
(R48), whether the web has run in reverse and not yet passed its high-water mark again (R69), when the last PTM dialogue ran (R39), and
the levels of ENCOUT's A and B (0 low, 1 high, 2 high impedance; R48, R451), and the ROLE before the last change of it and when it changed
(R255). -/
structure TbSt where
  frac     : Nat := 0
  loopRate : Int := 0
  goodRun  : Nat := 0
  lastGood : Option Nat := none
  stepped  : Bool := false
  missed   : Nat := 0
  qerrs    : List Nat := []
  qburst   : Bool := false
  incMain  : Int := 0
  incChk   : Int := 0
  encoutAcc : Nat := 0
  encoutN  : Nat := 1
  encoutM  : Nat := 1
  encoutPend : Option (Nat × Nat) := none
  encoutCnt : Int := 0
  seqs     : List Seq := [{}, {}, {}]
  noMaj    : Bool := false
  lockFrom : Option Nat := none
  lockEnd  : Option Nat := none
  rtts     : List Int := []
  holdTold : Bool := false
  encoutBuf : Option Nat := none
  lastVote : Option Nat := none
  dirRev   : Bool := false
  returning : Bool := false
  ptmAt    : Option Nat := none
  encoutPins : Nat × Nat := (2, 2)
  roleWas  : Option (Nat × Nat) := none
  deriving DecidableEq, Repr

/-! ### Jobs (chapter 03) -/

/-- A row of a geometry table (R78). -/
structure GeoRow where
  k     : Nat
  bar   : Nat
  pos   : Nat
  pitch : Nat
  tofs  : Nat
  deriving DecidableEq, Repr

/-- A band of one bar (R82): where its stream lies, its progress, and when it was complete. -/
inductive BandState where
  | waiting | running (channel : Nat) | complete | failed (code : Nat)
  deriving DecidableEq, Repr
structure Band where
  addr : Nat
  len  : Nat
  bar  : Nat
  idx  : Nat
  st   : BandState
  doneAt : Nat
  deriving DecidableEq, Repr

/-- An accepted page (R81): its number, its first chain line, its lines, its flags, its bands, its descriptor, whether a band was
missed, and the missed bands' indices (R85). -/
structure Page where
  no     : Nat
  first  : Nat
  lines  : Nat
  zlib   : Bool
  last   : Bool
  tag    : Nat
  ring   : Nat
  index  : Nat
  bands  : List Band
  missed : Bool
  lost   : List Nat
  deriving DecidableEq, Repr

/-- The screen bank of a job (R92, R119): the bank, and whether its preload is in progress, valid or bad. -/
inductive Preload where
  | loading | valid | bad
  deriving DecidableEq, Repr

/-- An accepted job whose chain has not ended (R77): beside its descriptor's values, its reference row and lead, the REQ of its
window check (R80), its pages that have completed (number, first chain line, lines), and the descriptor of a calibration job
whose chain has not started (R98). -/
structure Job where
  id        : Nat
  chain     : Nat
  z         : Nat
  res       : Nat
  fmax      : Nat
  bandLines : Nat
  depth     : Nat
  cres      : Nat
  cw        : Nat
  xorg      : Int
  screenAddr : Nat
  screenLen : Nat
  bars      : List Nat
  stride    : Nat
  cal       : Bool
  geo       : List GeoRow
  total     : Option Nat
  nextPage  : Nat
  nextLine  : Nat
  pages     : List Page
  bank      : Nat
  preload   : Preload
  readyLine : Option Nat
  refRow    : Nat
  lead      : Nat
  req       : Nat
  done      : List (Nat × Nat × Nat)
  desc      : Option (Nat × Nat)
  deriving DecidableEq, Repr

/-- A chain, that is, a TRK context (R75, R90): whether it has started, how it starts, its origin, its geometry, reference
row, pitch and lead, its voted tick and highest reference line, its page ring (R84), the largest line spacing of its jobs (R94), the total
of its lines once its END page is known, whether ST_WINDOW_STRETCH and LEAD_SHORT have been told, its bars' values, and the
updates queued. -/
structure Chain where
  id       : Nat
  cal      : Bool
  gap      : Bool
  started  : Bool
  index    : Bool
  ofs      : Int
  origin   : Int
  geo      : List GeoRow
  refRow   : Nat
  lead     : Nat
  tick     : Nat
  refLine  : Option Nat
  ringW    : Nat
  lineBytes : Nat
  ringOfs  : Nat
  req      : Nat
  tmin     : Nat
  total    : Option Nat
  stretch  : Bool
  leadShort : Bool
  bars     : List (Nat × BarCtx)
  barQ     : List (Nat × BarUpd)
  xQ       : List (Nat × XUpd)
  deriving DecidableEq, Repr

/-- The work of one engine on a published line (R106): the block, its engine, when its reads were issued, whether its
segments are present, the segment's fire words once composed, and the cause that withholds it. -/
structure Blk where
  nb     : Nat
  engine : Option Nat
  issued : Option Nat
  present : Bool
  words  : Option (List Nat)
  cause  : Option Nat
  deriving DecidableEq, Repr

/-- A published line of one row that has not been settled (R59, R67): its chain and line, its number among the row's
published lines, its fire time and publication boundary, the cause that makes it late where one is known, its blocks, its
ink bar (R28), the cross-web values, trim temperature and screen bank that it uses (R131), and its waveform (R211). -/
structure PLine where
  chain : Nat
  row   : Nat
  line  : Nat
  idx   : Nat
  tf    : Nat
  tk    : Nat
  late  : Option Nat
  blocks : List Blk
  bar   : Nat
  sx    : Nat
  bx    : Int
  ttrim : Int
  bank  : Nat
  wave  : Nat
  deriving DecidableEq, Repr

/-- The job controller: chains and jobs, jobs refused since a page may still name them, published lines, the updates that
wait for the first chain, trim-temperature updates, where the last page ring ended (R84), the last screen set preloaded
(address, length, bank, its fate; R92), the job that keeps the shadow bank busy, and JOIN and JOB_ID of the job held under R93. -/
structure JobSt where
  nextChain : Nat := 1
  chains    : List Chain := []
  jobs      : List Job := []
  refused   : List Nat := []
  lines     : List PLine := []
  preBarQ   : List (Nat × BarUpd) := []
  preXQ     : List (Nat × XUpd) := []
  tupd      : List TrimUpd := []
  ringEnd   : Nat := 0
  lastSet   : Option (Nat × Nat × Nat × Preload) := none
  busyFor   : Option Nat := none
  held      : Option (Nat × Nat) := none
  deriving DecidableEq, Repr

/-! ### Swath engines (chapter 04) -/

/-- A move of R136 in progress: its engines, whether the target has loaded the records, the rows that hold moved
blocks, those of them that have switched, and those whose copy of the kernel history meets an uncorrectable error. -/
structure Move where
  src    : Nat
  dst    : Nat
  loaded : Bool
  rows   : List Nat
  switched : List Nat
  badRows : List Nat
  deriving DecidableEq, Repr

/-- The engines: the two screen banks' contents, the engines whose copy of a bank is bad (engine, bank), kernel histories
(idle and run counts per nozzle, R124) and up to which published line of which chain each block's history runs, a move,
self-tests running (engine, cause, start), blocks withheld until their row's next chain after a failed copy (block, row, chain;
R136), the error records whose test an engine's self-test is (engine, SEQ; R516), and each engine's clocks of work in the present
1 ms window, and until when its screen pipe is busy. -/
structure EngSt where
  bankA    : List Byte := []
  bankB    : List Byte := []
  badCopy  : List (Nat × Nat) := []
  hist     : List (Nat × (Nat × Nat)) := []
  front    : List (Nat × (Nat × Nat)) := []
  move     : Option Move := none
  tests    : List (Nat × Nat × Nat) := []
  withheld : List (Nat × Nat × Nat) := []
  seqs     : List (Nat × Nat) := []
  work     : List (Nat × Nat) := []
  busyTo   : List (Nat × Nat) := []
  deriving DecidableEq, Repr

/-! ### Compression (chapter 12) -/

/-- The stream of a context slot (R391 to R393): its opening OP, ZLIB and LEVEL, its input consumed so far, how many of its
output bytes have been delivered, and whether its final chunk has been consumed. What the hardware keeps of it (window, tables,
bit buffer) is a function of these. -/
structure ZCtx where
  op    : Nat
  zlib  : Bool
  level : Nat
  input : List Byte
  given : Nat
  final : Bool
  deriving DecidableEq, Repr

/-- A descriptor that runs on a channel (R386, R387): its ring and index, its context slot on a stream ring, and what it does. -/
structure ZJob where
  channel : Nat
  ring    : Nat
  index   : Nat
  slot    : Option Nat
  op      : Nat
  zlib    : Bool
  level   : Nat
  final   : Bool
  src     : Option (List Byte)
  dst     : Nat
  dstLen  : Nat
  result  : Nat
  lost    : Bool
  deriving DecidableEq, Repr

/-- The compression unit beside its registers: open contexts, running descriptors, the context slot whose stream a channel ran last (R391),
and each channel's bytes of input and output below a whole KiB. -/
structure ZipSt where
  ctxs : List (Nat × ZCtx) := []
  runs : List ZJob := []
  last : List (Nat × Nat) := []
  inB  : List (Nat × Nat) := []
  outB : List (Nat × Nat) := []
  deriving DecidableEq, Repr

/-! ### DRAM (chapter 13) -/

/-- The rank, the bank and the row that a command targets (R402). -/
structure DramRow where
  rank : Nat
  bg   : Nat
  ba   : Nat
  row  : Nat
  deriving DecidableEq, Repr

/-- A queued write of one burst: its place in acceptance order, its class (1 PAGE, 2 SYS, 3 BULK), and where it goes. -/
structure QWrite where
  seq : Nat
  cls : Nat
  at_ : DramRow
  deriving DecidableEq, Repr

/-- A waiting TICK read of one burst: its place in acceptance order, and the engine, row and line it is for. -/
structure QRead where
  seq : Nat
  key : Nat × Nat × Nat
  deriving DecidableEq, Repr

/-- A sub-channel's queues (R402, R403): writes in acceptance order; writes that wait in their requesters' buffers; TICK reads; in
in-order mode, the write it lasts until; the class whose turn it is and the slots left of its turn; since when each class has waited or
when it was served last; and when the burst on the bus ends. -/
structure SubQ where
  writes : List QWrite := []
  held   : List QWrite := []
  reads  : List QRead := []
  bound  : Option Nat := none
  turn   : Nat := 3
  left   : Nat := 0
  since  : List (Nat × Nat) := []
  freeAt : Nat := 0
  deriving DecidableEq, Repr

/-- The DRAM controller beside its registers: the TICK reads of each sub-channel in the last 8,000 mt (sub-channel, time, reads;
R405), the last refresh and the refreshes since the last tracking (R406, R412), when doubled refresh was asked for while it waits
for its multiple, and since when every rank has asked for normal refresh (R407), the corrected errors of the past hour (sub-channel, time; R414), the
settings that a retrain restores if it fails (sub-channel, address, word), the correction that tracking has applied to the write delays
of each sub-channel (R412), the ranks in power-down (sub-channel, rank) and when each rank last had a command (R408), the requests
accepted so far, and what waits in each sub-channel (R402). -/
structure DramSt where
  ticks   : List (Nat × Nat × Nat) := []
  lastRef : Option Nat := none
  refs    : Nat := 0
  wantDbl : Option Nat := none
  calmAt  : Option Nat := none
  ces     : List (Nat × Nat) := []
  saved   : List (Nat × Nat × Word) := []
  track   : List (Nat × Int) := []
  down    : List (Nat × Nat) := []
  lastCmd : List (Nat × Nat) := []
  accepted : Nat := 0
  subs    : List (Nat × SubQ) := []
  deriving DecidableEq, Repr

/-! ### Starmap (chapter 05) -/

/-- One nozzle's part of an accepted update record (R153, R154): its sequence number, the chain its effective line counts in,
the line, the ramp, the fields it sets, the nozzle, and the entry image. `main` marks the part that names the record; the
other part is the partner's (R151, R156). `pend` until the row passes the line; `uncovers` says that the target leaves the
column without a printer, and `enters` that the nozzle's target STATE changes (R175). -/
structure Rec where
  seq   : Nat
  chain : Nat
  line  : Nat
  ramp  : Nat
  mask  : Nat
  gn    : Nat
  vals  : List Nat
  main  : Bool
  delivered : Bool
  pend  : Bool
  uncovers : Bool
  enters : Bool
  deriving DecidableEq, Repr

/-- The Starmap store: the entries in force before the records listed (eight words, by GN; an unlisted nozzle's entry in
force is its target entry), the records, the sequence counter, the ports loaded since reset (R171), the transfer in progress
(first port, ports, whether it saves, the slot whose port it uses), the frames of an inspection delivery that are barred (R164: nozzle, first and last
line, chain), the ports whose spare alarm has been told (R175), and rows withheld under R173 (row, chain, line). -/
structure SmpSt where
  base     : List (Nat × List Nat) := []
  recs     : List Rec := []
  nextSeq  : Nat := 0
  loaded   : List Nat := []
  xfer     : Option (Nat × Nat × Bool × Nat) := none
  settle   : List (Nat × Nat × Nat × Nat) := []
  lowTold  : List Nat := []
  withheld : List (Nat × Nat × Nat) := []
  deriving DecidableEq, Repr

/-! ### Head ports (chapter 06) -/

/-- A link's transmitter (R180, R184, R187): the blocks sent on each lane, the moment the last of them ends, in 1/100 mt, COUNT of the
next TRAIN block, and each lane's last 58 scrambled bits. -/
structure TxSt where
  blocks : Nat := 0
  freeAt : Nat := 0
  count  : Nat := 0
  scr    : List Nat := []
  deriving DecidableEq, Repr

/-- A head command awaiting its ACK (R205, R220): its ID, OP and blocks, when it was last sent (none while it waits to be), and the
resends. -/
structure HeadCmd where
  id      : Nat
  op      : Nat
  blocks  : List Nat
  sentAt  : Option Nat
  resends : Nat
  row     : Nat
  deriving DecidableEq, Repr

/-- A tap change of one row (R210): the chain and line it takes effect at, the bank it loads, whether the load has been sent and
acknowledged, and whether it is to be sent to that same bank again. -/
structure TapChange where
  row    : Nat
  chain  : Nat
  line   : Nat
  bank   : Nat
  sent   : Bool
  acked  : Bool
  again  : Bool := false
  deriving DecidableEq, Repr

/-- A line sent with SENSE (R204): its row, SEQ, chain and line, and its fire time. -/
structure Sensed where
  row   : Nat
  seq   : Nat
  chain : Nat
  line  : Nat
  tf    : Nat
  deriving DecidableEq, Repr

/-- The last sent line of a row: its fire time and waveform (R211). -/
structure SentRow where
  row   : Nat
  tf    : Nat
  wave  : Nat
  deriving DecidableEq, Repr

/-- A time exchange in progress (R195): its XID, t1 and t4. -/
structure Exchange where
  xid : Nat
  t1  : Nat
  t4  : Option Nat
  deriving DecidableEq, Repr

/-- A head port beside its registers: when its bring-up state began; the last valid round trips and delays (R196); the XID last
issued, the exchanges in progress, when the last was asked for, and the void ones in a row; the head's LOCKED; commands awaiting
ACK; tap changes and each row's bank in use; last sent lines; sent lines of a row (row, fire time, bank) that the head still holds
(R208, R210); the IDENT in force, the one recorded at Ready, and whether one has been accepted since data mode began; fatal fault;
head changed; when the last HEALTH came and the head's CRC count in it; CRC error times; when a bring-up failed that will be retried;
the rate in force; whether the uplink relocks after Twilight (R218); its spit count (R509); its transmitter, and whether that still
trains in state 7 (R192); head-control packets that wait to be sent (R208); the line packet on the link and when it ends, in 1/100 mt
(R223); and the lines sent with SENSE that may still be answered. -/
structure PortSt where
  since    : Nat := 0
  rtts     : List Int := []
  ddowns   : List Int := []
  xid      : Nat := 0
  exch     : List Exchange := []
  reqAt    : Option Nat := none
  voids    : Nat := 0
  locked   : Bool := false
  cmds     : List HeadCmd := []
  nextId   : Nat := 0
  taps     : List TapChange := []
  tbank    : List (Nat × Nat) := []
  lastSent : List SentRow := []
  inHead   : List (Nat × Nat × Nat) := []
  ident    : Option Ident := none
  ready    : Option Ident := none
  named    : Bool := false
  fatal    : Bool := false
  changed  : Bool := false
  lastHealth : Option Nat := none
  headCrc  : Option Nat := none
  crcTimes : List Nat := []
  failedAt : Option Nat := none
  rate     : Nat := 1
  relock   : Bool := false
  spits    : Nat := 0
  tx       : TxSt := {}
  training : Bool := false
  hctl     : List (List Nat) := []
  onLink   : Option (PLine × Nat) := none
  sensed   : List Sensed := []
  deriving DecidableEq, Repr

/-! ### Field island (chapter 14) -/

/-- The field die's states (R440). -/
inductive FieldState where
  | off | start | held | active | orphan | pwrFail
  deriving DecidableEq, Repr

/-- A field-held write that waits for its CFG_ACK (R433, R434): the register's BAR0 address, its index, its data, the times
it has been sent, and when it was last sent. -/
structure Commit where
  addr  : Nat
  index : Nat
  data  : Word
  tries : Nat
  sent  : Nat
  deriving DecidableEq, Repr

/-- The field die, and the main die's end of the barrier. Field die: its state, its time lock (R427), the last BCN_M, the
settings applied and stored (R435), its inputs and outputs (R441 to R449), SPEED_CEIL, replays (R432). Main die: the last
BCN_F and 64 round trips (R426), waiting commits, OUT_SET's value and resends (R436), discards and their test (R425, R516),
the heartbeat sent (R429), the interlock and web-break inputs told and acted on (R443), and the console's line so far (R453). The timestampers (R430): the last edge of the interval, the
last index load of the interval (CPRE and time), and the last boundary reported. Pins: when each output last changed (R446), the
level of DUET_OWN (2 high impedance), SPEED_CEIL as a frequency (Hz over DIV, 0 low, `none` high impedance), and whether the reset
actions keep DUET_HB_OUT low until ARM (R449). `outUndo` is what OUT_SET found recorded, until OUT_STATE answers it (R436). -/
structure FldSt where
  state    : FieldState := .off
  lock     : Bool := false
  good     : Nat := 0
  missing  : Nat := 0
  bad      : Nat := 0
  lastM    : Option Nat := none
  drive    : Bool := true
  own      : Bool := true
  hb       : Nat := 0
  applied  : List (Nat × Word) := []
  level    : Nat := 0
  band     : Nat := 0
  outRec   : Nat := 0
  outVal   : Nat := 0
  outOn    : Nat := 0
  latched  : Nat := 0
  ownPin   : Bool := false
  ceil     : Option Nat := none
  outAt    : List Nat := [0, 0, 0, 0, 0, 0, 0, 0]
  outUndo  : Option Nat := none
  ownLvl   : Nat := 2
  speed    : Option (Nat × Nat) := none
  hbLow    : Bool := false
  replay   : List (Nat × Nat) := []
  uvAt     : Option Nat := none
  lastF    : Option Nat := none
  lost     : Bool := false
  rtts     : List Int := []
  commits  : List Commit := []
  outTries : Nat := 0
  spdSent  : Option Nat := none
  hbSent   : Option Nat := none
  discards : List (Nat × Nat) := []
  test     : Option (Nat × Nat × Nat) := none
  untested : Option Nat := none
  line     : List Nat := []
  beat     : Option Nat := none
  actI     : Nat := 0
  actB     : Nat := 0
  openI    : Nat := 0
  openB    : Nat := 0
  mainI    : Nat := 0
  mainB    : Nat := 0
  edgeAt   : Option Nat := none
  idxAt    : Option (Nat × Nat) := none
  rptAt    : Option Nat := none
  deriving DecidableEq, Repr

/-! ### Calibration (chapter 09) -/

/-- A cell of a batch (R300): its number, its pass, the first chain line of its slot, the nozzles that fire in it, those not
yet measured, those whose mark was void (R302), and whether its first firing line has been published. -/
structure CalCell where
  no   : Nat
  pass : Nat
  slot : Option Nat
  gns  : List Nat
  left : List Nat
  void : List Nat
  fired : Bool
  deriving DecidableEq, Repr

/-- A taken nozzle (R298 to R306): its pre-take entry and when it was taken; how many threshold cells are measured, T_on, and the
position results x_c and y_m of the present pass; the TAP in force; ey and ex; whether TAP' was clamped; whether it is finished; and the
TRIM of its position cells once one has a slot (R300). -/
structure CalNoz where
  gn    : Nat
  pre   : List Nat
  since : Nat
  thr   : Nat := 0
  ton   : Option Int := none
  pxs   : List Rat := []
  pys   : List Rat := []
  tap   : Nat
  ex    : Rat := 0
  ey    : Rat := 0
  clamped : Bool := false
  fin   : Bool := false
  posTrim : Option Int := none
  deriving DecidableEq, Repr

/-- A batch (R297): its number, its run's port, its bar and chain, the stitch set it is (0 a run's batch, 1 set A, 2 set B of
R308), the first line its cells may lie on, its nozzles and cells, its pass, mx and my (R304), its void cells and the cells it began
with, and the sum and number of the TICKs voted over the pass's firing lines. -/
structure CalBatch where
  id    : Nat
  port  : Nat
  bar   : Nat
  chain : Nat
  set   : Nat
  first : Nat
  ne    : Nat
  noz   : List CalNoz
  cells : List CalCell
  pass  : Nat
  mid   : Option (Rat × Rat)
  voids : Nat
  total : Nat
  tsum  : Nat
  tn    : Nat
  deriving DecidableEq, Repr

/-- What the camera has seen of a nozzle's cell (R302): the nozzle, its chain and its slot's first line, A, the sums of a·X(p) and of
a·(2q + 1), the camera lines of its window processed, and whether one of them was absent or SETTLING. -/
structure MarkSum where
  gn    : Nat
  chain : Nat
  slot  : Nat
  a     : Int := 0
  ax    : Int := 0
  aq    : Int := 0
  lines : Nat := 0
  gap   : Bool := false
  deriving DecidableEq, Repr

/-- A gutter band in chain lines (R299). -/
structure Gutter where
  chain : Nat
  bars  : Nat
  first : Nat
  last  : Nat
  blank : Bool
  deriving DecidableEq, Repr

/-- A run (R296): its port and bar, the nozzles calibrated or skipped, how many of them have returned calibrated, the CALQ values given,
and whether one of its nozzles reached MAX_TIME; and a RUN descriptor with the ports, or the bar of a stitch, that it waits for. -/
structure CalRun where
  port : Nat
  bar  : Nat
  done : List Nat
  returned : Nat
  qs   : List Nat
  late : Bool
  deriving DecidableEq, Repr
structure RunDesc where
  ring  : Nat
  index : Nat
  ports : List Nat
  bar   : Option Nat
  status : Nat
  deriving DecidableEq, Repr

/-- A stitch of a bar in progress (R308): the ports in order, how many pairs are done, c_x and c_y of the ports done (the
last one first), and the errors of set A once measured. -/
structure Stitch where
  bar   : Nat
  ports : List Nat
  pair  : Nat
  cs    : List (Nat × Rat × Rat)
  ea    : Option (Rat × Rat)
  deriving DecidableEq, Repr

/-- The calibration unit: row-lines late, skipped or suppressed while a batch fires (row, chain, line; R302), the corrections of R309
that wait row by row (row, MASK, change of XPOS, change of TAP), due ports in order; each port's last T_head sums (four temperatures of up to 64 statuses) and whether
T_cal has been taken; runs, batches, gutter bands, RUN descriptors, the stitch and those waiting; consecutive MISSING outcomes
(nozzle, count); rows that a late plan withholds (R311); the marks being seen (R302); ports waiting without a camera already told; and the last lane sweep and
the lanes it still has to re-adapt (R310). -/
structure CalSt where
  lost    : List (Nat × Nat × Nat) := []
  apply   : List (Nat × Nat × Int × Int) := []
  due     : List Nat := []
  thead   : List (Nat × List Int) := []
  tcal    : List Nat := []
  runs    : List CalRun := []
  batches : List CalBatch := []
  nextId  : Nat := 0
  bands   : List Gutter := []
  descs   : List RunDesc := []
  stitch  : Option Stitch := none
  stitchQ : List Nat := []
  missing : List (Nat × Nat) := []
  withheld : List (Nat × Nat × Nat) := []
  marks   : List MarkSum := []
  noCam   : List Nat := []
  sweepAt : Nat := 0
  sweep   : List Nat := []
  sweeping : List Nat := []
  periodic : Bool := false
  deriving DecidableEq, Repr

/-! ### Serial lanes (chapter 07) -/

/-- An item of the state copy (R326): a Starmap record, a bar update, a cross-web update, a trim-temperature update, a
calibration plan, a port's T_cal and CAL_PORT_TS, a nozzle's consecutive MISSING outcomes, a ring's consumer index, an axis (target,
segment, REMAIN, regulator mode), the field outputs, and DUE_CFG_DIGEST. -/
inductive CopyItem where
  | smpRec (seq line ramp mask gn src : Nat) (vals : List Nat)
  | bar (bar line sc : Nat) (ofs : Int)
  | xweb (bar line sc : Nat) (ofs : Int)
  | trim (port line : Nat) (temp : Int)
  | plan (b : CalBatch)
  | calPort (port tcal ts : Nat)
  | missing (gn n : Nat)
  | queue (ring index : Nat)
  | axis (n : Nat) (target : Int) (seg : Nat) (remain : Int) (mode : Nat)
  | outputs (value : Nat)
  | digest (value : Nat)
  deriving DecidableEq, Repr

/-- A receiver's values in force (R230): L_RXEQ bits [15:4], CTLE and TAP1, and DFE taps 2 to 8. -/
structure RxVals where
  rxeq : Nat := 0
  taps : List Nat := []
  deriving DecidableEq, Repr

/-- The checker of a lane's PRBS (R240): the error-free bits so far, and the 1/32 bits that the last cycle left over. -/
structure ChkSt where
  run  : Nat := 0
  frac : Nat := 0
  deriving DecidableEq, Repr

/-- A lane beside its registers: a re-adaptation running, when it began, whether calibration asked for it (R235, R310), and whether its
measurement serves one that was asked for (R255); DFE taps 2 to 8 in force (R230); the last good receiver setting (R234); when an eye
measurement began and when one last ended, the QUAL measured in the present bring-up (R233), the step of its self-test (0 none, 1
loopback, 2 bring-up), whether that test was requested, the error records whose test it is (R516), the temperature at its last
re-adaptation in 1/16 °C, when a bit slip in progress began (R236), whether the present bring-up failed for want of a working eye, the
receive block boundary (0 to 65, 0 at reset: R236, R238), the
elastic buffer's fill in blocks (R185), and its PRBS checker. -/
structure LaneSt where
  reeq   : Option Nat := none
  byCal  : Bool := false
  serves : Bool := false
  taps   : List Nat := []
  good   : Option RxVals := none
  eyeGo  : Option Nat := none
  eyeAt  : Option Nat := none
  eye    : Option Nat := none
  test   : Nat := 0
  asked  : Bool := false
  seqs   : List Nat := []
  tempAt : Option Int := none
  slipAt : Option Nat := none
  noEq   : Bool := false
  boundary : Nat := 0
  fill   : Int := 0
  chk    : ChkSt := {}
  deriving DecidableEq, Repr

/-- A peer packet that waits to be sent (R252): its place in the order (0 TIME, 1 ANNOUNCE, 2 + CH a channel), its PTYPE and DATA
blocks, and the state copy that it is. -/
structure PeerPkt where
  place  : Nat
  ptype  : Nat
  blocks : List Nat
  copy   : Option (Nat × List CopyItem) := none
  deriving DecidableEq, Repr

/-- A peer link (0 the Duet link, 1 + i station link i) beside its registers (R248 to R253): when its state began, the last
ANNOUNCE received, when its own was sent and what it said (role, ceiling), discard times, when its bring-up failed, the XID of its next
TT_REQ (R195, R251), its transmitter, whether that still trains in state 7, and the packets that wait. -/
structure PeerSt where
  since    : Nat := 0
  annIn    : Option Nat := none
  annRole  : Nat := 0
  annCeil  : Nat := 0
  annSerial : Nat := 0
  sentAt   : Option Nat := none
  sent     : Nat × Nat := (0, 0)
  crcTimes : List Nat := []
  failedAt : Option Nat := none
  xid      : Nat := 0
  tx       : TxSt := {}
  training : Bool := false
  queue    : List PeerPkt := []
  deriving DecidableEq, Repr

/-! ### Cameras and inspection (chapter 08) -/

/-- A camera line of a chain. -/
structure CamAt where
  chain : Nat
  q     : Nat
  deriving DecidableEq, Repr

/-- A published trigger (R265, R266): its camera line, its time, its publication boundary, whether it has been sent, and whether
its line is suppressed. -/
structure Trigger where
  chain : Nat
  q     : Nat
  t     : Nat
  tk    : Nat
  sent  : Bool
  supp  : Bool
  deriving DecidableEq, Repr

/-- A settings set (R270 to R272): its bytes, the camera line it takes effect at, whether it waits for it, where it took effect, its
camera writes sent and acknowledged, the camera line before whose trigger the last acknowledge came, and whether a write
failed. -/
structure CamSet where
  bytes : List Byte
  start : CamAt
  pend  : Bool
  took  : Option CamAt
  sent  : Nat
  acked : Nat
  lastAck : Option CamAt
  failed : Bool
  deriving DecidableEq, Repr

/-- Lines that are SETTLING (R272): from a camera line on, up to another one exclusive, if the end is known. -/
structure Settling where
  start : CamAt
  stop  : Option CamAt
  deriving DecidableEq, Repr

/-- A camera line whose fate is known (R268): its components pixel by pixel, or none where it is absent, and whether it found the
staging area full (R290). -/
structure CamLine where
  at_  : CamAt
  px   : Option (List Nat)
  full : Bool
  deriving DecidableEq, Repr

/-- A column's sums in a frame (R280), and whether it has made its early delivery (R282). -/
structure ColSums where
  n : Nat := 0
  e : Int := 0
  c : Int := 0
  x : Int := 0
  early : Bool := false
  deriving DecidableEq, Repr

/-- What one bar accumulates in a frame of a camera port: its columns (by column GN), the lines that each column's even-row nozzle
printed less those that its odd-row nozzle did (R164), and A_meas and A_pred by camera line (R285). -/
structure BarFrame where
  cols  : List (Nat × ColSums) := []
  sides : List (Nat × Int) := []
  lines : List (Nat × (Int × Int)) := []
  deriving DecidableEq, Repr

/-- Of one component of y in a frame (R288): values, their sum, their least and their greatest. -/
structure YSums where
  n   : Nat
  sum : Nat
  lo  : Nat
  hi  : Nat
  deriving DecidableEq, Repr

/-- A frame of a camera port (R269): its chain and number, the pitch and the job at its first line, lines received, absent and
SETTLING, what has been told in it (bit 0 skip, 1 missing, 2 stray), foreign pixels' line counts (R283), bar frames, and the
components' sums. -/
structure CamFrame where
  chain : Nat
  no    : Nat
  pitch : Nat
  job   : Nat
  got   : Nat := 0
  absent : Nat := 0
  settled : Nat := 0
  told  : Nat := 0
  foreign : List (Nat × Nat) := []
  bars  : List (Nat × BarFrame) := []
  ys    : List (Nat × YSums) := []
  deriving DecidableEq, Repr

/-- A camera port beside its registers: the next camera line (chain and q) to publish, the last sent trigger's time, published
triggers, the settings sets by slot, which slot is active from which camera line on (newest first), SETTLING lines, lines whose fate
is known and that wait for their later neighbour, and the last lines processed (R273); the control transaction (when sent; the slot
whose timed write it is) and the timed writes that wait (R262); the open frames, the streak windows of its columns (R282), and the
last line received; and the heartbeats accepted (R258). -/
structure CamSt where
  next    : Option (Nat × Nat) := none
  lastTrig : Option Nat := none
  trigs   : List Trigger := []
  sets    : List (Nat × CamSet) := []
  acts    : List (CamAt × Nat) := []
  settling : List Settling := []
  lines   : List CamLine := []
  past    : List CamLine := []
  ccSlot  : Option Nat := none
  ccAt    : Nat := 0
  waiting : List Nat := []
  frames  : List CamFrame := []
  wins    : List (Nat × List (Int × Int)) := []
  lastGot : Option CamAt := none
  beats   : Nat := 0
  deriving DecidableEq, Repr

/-- A capture in progress (R289, R290): its descriptor, its port, the next camera line it takes, the lines taken so far, and whether
a line was DROPPED. -/
structure Capture where
  ring  : Nat
  index : Nat
  port  : Nat
  next  : CamAt
  taken : Nat
  dropped : Bool
  deriving DecidableEq, Repr

/-- A statistics record that waits to be written (R288): its bytes and when its frame closed. -/
structure StatRec where
  bytes : List Byte
  at_   : Nat
  deriving DecidableEq, Repr

/-- What a printer column has received at a camera line of a chain (R277): the column's GN and bar, the sum of its words' volumes, and
its even-row nozzle's lines less its odd-row nozzle's (R164). -/
structure Vol where
  chain : Nat
  q     : Nat
  gn    : Nat
  bar   : Nat
  sum   : Nat
  side  : Int
  deriving DecidableEq, Repr

/-- A REPLAY on the memory path (R276, R290): its descriptor, its set, its buffer's bytes, the next line, and when that line has
run. -/
structure Replay where
  ring  : Nat
  index : Nat
  set   : List Byte
  bytes : List Byte
  next  : Nat
  doneAt : Option Nat
  deriving DecidableEq, Repr

/-- Inspection: volumes sent by column and camera line of each chain (R277), each bar's last valid shift
(bar; chain, frame, Δy), the effective lines of the bar updates and cross-web updates accepted (bar, chain, line; R285), captures,
STATS buffers (ring, index, records written), statistics records waiting, the chains in which the compare runs (R278), and the REPLAYs
on the memory path, first to last. -/
structure InsSt where
  vols    : List Vol := []
  lastDy  : List (Nat × (Nat × Nat × Int)) := []
  effB    : List (Nat × Nat × Nat) := []
  effX    : List (Nat × Nat × Nat) := []
  caps    : List Capture := []
  stats   : List (Nat × Nat × Nat) := []
  recs    : List StatRec := []
  active  : List Nat := []
  replays : List Replay := []
  deriving DecidableEq, Repr

/-! ### Duet (chapter 10) -/

/-- A swap that the primary runs (R335, R336): it waits for its conditions since a time, or has chosen its swap point; the
SEQ of the SWAP order; the standby's ACK; and whether it is a handover. -/
structure Swap where
  since   : Nat
  at_     : Option Nat
  seq     : Nat
  acked   : Bool
  handover : Bool
  deriving DecidableEq, Repr

/-- The reports of one die for one boundary, as a TIMING packet carries them (R322). -/
structure DieReports where
  tk      : Nat
  srcPeer : Bool
  reports : List EdgeReport
  stale   : List Bool
  deriving DecidableEq, Repr

/-- A digest of the primary (R328): the port, the packet's SEQ, its CRC, and whether the primary does not send the line. -/
structure Digest where
  port   : Nat
  seq    : Nat
  crc    : Nat
  nosend : Bool
  deriving DecidableEq, Repr

/-- An order from the primary that waits for its tag (R325). -/
inductive Order where
  | start (tk : Nat) (origin : Int)
  | replace (first : Nat) (accept : Bool)
  | safestop (tk code : Nat)
  | abort (device : Bool) (ringType : Nat)
  | swap (ts : Nat)
  | handover (ts : Nat)
  deriving DecidableEq, Repr

/-- An axis of the state copy (R326): target, segment, REMAIN and regulator mode. -/
structure AxisCopy where
  target : Int
  seg    : Nat
  remain : Int
  mode   : Nat
  deriving DecidableEq, Repr

/-- The Duet: the bits of BCN_M (R558), pairing with the peer's SIDE and PREF (R318), the heartbeat paths (R330), the loss in
progress and the ports that confirmed it (R333, R334), the corrections in force for each die's counts, the other die's shadow predictors
and differences (R323), this die's reports of the present boundary with the channels accounted for, the peer's reports, channel sequence
numbers, missing packets and ORDER and STATE packets that a NAK may ask for (R321; channel, SEQ, payload, items), digests (R328), orders,
the copied field state, the swap in progress, whether the old primary's last state copy is awaited (R335), and when the last heartbeat and
state copy were sent. -/
structure DueSt where
  drive     : Bool := true
  own       : Bool := true
  pairAt    : Option Nat := none
  peerPair  : Option Nat := none
  peerSide  : Nat := 0
  peerPref  : Nat := 0
  discipline : Bool := false
  laneHb    : Option Nat := none
  pinHb     : Option Nat := none
  laneLost  : Bool := false
  pinLost   : Bool := false
  bothAt    : Option Nat := none
  claimAt   : Option Nat := none
  tsrc      : List Nat := []
  raising   : Bool := false
  peerLocal : Bool := false
  adjOwn    : Int := 0
  adjPeer   : Int := 0
  shadow    : List Seq := [{}, {}, {}]
  diffs     : List Int := []
  local_    : Option DieReports := none
  peer      : Option DieReports := none
  localTold : Bool := false
  localIn   : List Nat := []
  seqTx     : List (Nat × Nat) := []
  seqRx     : List (Nat × Nat) := []
  missing   : List (Nat × Nat × Nat) := []
  kept      : List (Nat × Nat × List Nat × List CopyItem) := []
  digests   : List Digest := []
  lastDigest : Option Nat := none
  mismatches : List Nat := []
  orders    : List Order := []
  outCopy   : Nat := 0
  axisCopy  : List (Nat × AxisCopy) := []
  skewTold  : List Nat := []
  withheld  : List (Nat × Nat × Nat) := []
  swap      : Option Swap := none
  swapped   : Option (Nat × Bool) := none
  lastSwap  : Nat := 0
  peerCeil  : Nat := 0
  ceilTold  : Bool := false
  copyQ     : List CopyItem := []
  await     : Bool := false
  hbAt      : Option Nat := none
  copyAt    : Option Nat := none
  deriving DecidableEq, Repr

/-! ### Bar motion (chapter 15) -/

/-- The states of an axis (R467). -/
inductive AxisState where
  | off | standing | table | plan | stopping | emergency
  deriving DecidableEq, Repr

/-- A coil's regulator (R469 to R471, R474): its reference and the last sensed current (nA) and CS reading, the error integral (nA ×
control ticks), the bridge's duty in 1/4096; of the chopper the last switching edge (100 ns), the offset O, the cycles, samples and
their sum since O moved; and for how many control ticks the coil has been weak or its input at an end of its span. -/
structure Coil where
  iref   : Int := 0
  i      : Int := 0
  raw    : Int := 0
  integ  : Int := 0
  duty   : Int := 0
  edgeAt : Nat := 0
  ofs    : Int := 0
  cycles : Nat := 0
  n      : Nat := 0
  sum    : Int := 0
  weak   : Nat := 0
  rail   : Nat := 0
  deriving DecidableEq, Repr

/-- One axis in the field die (R458 to R476). The trajectory is exact in whole picoseconds: position in units of
1 / (6 × 10^36) microstep, velocity of 1 / (2 × 10^24) microstep/s and acceleration of 10^-12 microstep/s², with the phases
to come as a jerk and a duration in ps. `brkAt` and `restAt` are when BRK_DELAY and the rest began; `sent` is what the five frames of
the axis last showed, and when all of them, and POS and ENC of a moving axis, last went (R477); the coils A and B. -/
structure AxisSt where
  st       : AxisState := .off
  x        : Int := 0
  v        : Int := 0
  a        : Int := 0
  phases   : List (Int × Nat) := []
  tgt      : Int := 0
  final    : Int := 0
  setPos   : Int := 0
  remain   : Int := 0
  posValid : Bool := false
  enc      : Int := 0
  encAt    : Nat := 0
  encOfs   : Int := 0
  brake    : Bool := true
  bridges  : Bool := false
  brkPend  : Option Bool := none
  refuse   : Nat := 0
  seg      : Nat := 0
  segLast  : Nat := 0
  segT     : Nat := 0
  segP0    : Int := 0
  segV0    : Int := 0
  thenOff  : Bool := false
  cur      : Nat := 0
  load     : Option Nat := none
  stallT   : Nat := 0
  followT  : Nat := 0
  atHold   : Bool := false
  limHeld  : List (Nat × Word) := []
  desc     : Option (Nat × Nat) := none
  hardStop : Bool := false
  liftWait : Bool := false
  brkAt    : Nat := 0
  restAt   : Nat := 0
  sent     : List Nat := []
  allAt    : Nat := 0
  posAt    : Nat := 0
  coils    : Coil × Coil := ({}, {})
  deriving DecidableEq, Repr

/-- The four axes, the gantry's skew hold (R459), and the writes held under R468. -/
structure MotSt where
  axes     : List AxisSt := [{}, {}, {}, {}]
  skewHold : Bool := false
  held     : List (Nat × Word) := []
  deriving DecidableEq, Repr

end Sys2Proof.Machine
end

