-- ==== Sys2Proof/Syntax.lean ====
section
/-! DEFINITION. The commands of the block: one constructor per row of spec/opcode_table.json, carrying what the row's
environment presents (the slot that writes, the instance, the packet, the frame, the sample). The docstring of each
constructor names its row and the rule that owns it. -/

namespace Sys2Proof

open Machine

/-- A command: one row of the table. -/
inductive Instr where
  /-- REGISTER_WRITE (R7). -/
  | registerWrite (slot : Nat) (bar : Nat) (off size : Nat) (data : Word)
  /-- LO_READ_SNAPSHOT (R13). -/
  | loReadSnapshot (slot off : Nat)
  /-- LO_WRITE_BUFFER (R14). -/
  | loWriteBuffer (slot off : Nat) (data : Word)
  /-- HI_WRITE_COMMIT (R14). -/
  | hiWriteCommit (slot off : Nat) (data : Word)
  /-- RC_READ_CLEAR (R9). -/
  | rcReadClear (slot bar off size : Nat)
  /-- DEBUG_WINDOW_READ (R34). -/
  | debugWindowRead (slot off size : Nat) (hit : Option SramHit)
  /-- DEBUG_WINDOW_WRITE (R35). -/
  | debugWindowWrite (slot off size : Nat) (data : Word)
  /-- MER_SET (R38). -/
  | merSet (slot : Nat) (hi : Word)
  /-- PTM_DIALOGUE (R39). -/
  | ptmDialogue (root : Option Nat)
  /-- STATION_TIME_EXCHANGE (R40). -/
  | stationTimeExchange (lane xid t1 : Nat) (far : FarTimes) (t4 : Nat)
  /-- ST_MER_HOLDOVER (R42). -/
  | stMerHoldover
  /-- ST_MER_HOLD_LIMIT (R42). -/
  | stMerHoldLimit
  /-- ENCODER_COUNT (R43). -/
  | encoderCount (input : Nat) (edge : EncEdge)
  /-- QUADRATURE_ERROR (R44). -/
  | quadratureError (input : Nat)
  /-- ENC_CHECK_COMPARE (R45). -/
  | encCheckCompare
  /-- ENCODER_INDEX (R46). -/
  | encoderIndex (input : Nat)
  /-- ENCOUT_M_COMMIT (R48). -/
  | encoutMCommit (slot : Nat) (data : Word)
  /-- EDGE_REPORT (R430). -/
  | edgeReport (boundary : Nat)
  /-- EDGE_REPORT_RECEIVE (R51). -/
  | edgeReportReceive (channel : Nat) (rpt : EdgeReport) (arrival : Nat)
  /-- REPORT_STALE (R50). -/
  | reportStale (channel boundary : Nat)
  /-- TROIKA_VOTE (R58). -/
  | troikaVote (boundary : Nat)
  /-- BAR_UPDATE_COMMIT (R55). -/
  | barUpdateCommit (slot : Nat) (data : Word)
  /-- TRK_SELFTEST (R64). -/
  | trkSelftest (slot : Nat) (channels : Nat)
  /-- TRK_SELFTEST_DONE (R63). -/
  | trkSelftestDone (channel : Nat) (replayMatches : Bool)
  /-- TRK_SHADOW_END (R63). -/
  | trkShadowEnd (channel : Nat)
  /-- ST_LATE_WORK (R67). -/
  | stLateWork (port row line : Nat)
  /-- JOB (R79). -/
  | job (ring : Nat) (geom : List Byte)
  /-- PAGE (R81). -/
  | page (ring : Nat) (table : List Byte)
  /-- PAGE_REPLACE_DECISION (R86). -/
  | pageReplaceDecision (ring boundary : Nat) (table : List Byte)
  /-- BAND_DISPATCH (R379). -/
  | bandDispatch
  /-- BAND_COMPLETE (R83). -/
  | bandComplete (channel : Nat) (stream : Option (List Byte))
  /-- CHAIN_START (R89). -/
  | chainStart (boundary : Nat) (indexTe : Option Nat)
  /-- CHAIN_END (R97). -/
  | chainEnd
  /-- SCREEN_PRELOAD_DONE (R144). -/
  | screenPreloadDone (set : List Byte) (badCopies : List Nat)
  /-- SEGMENT_FETCH (R106). -/
  | segmentFetch (engine row line : Nat)
  /-- TICK_READ_COMPLETE (R404). -/
  | tickReadComplete (engine row line : Nat) (uncorrectable : Bool)
  /-- ENGINE_LINE_COMPUTE (R105). -/
  | engineLineCompute (engine row line : Nat)
  /-- XWEB_UPDATE_COMMIT (R111). -/
  | xwebUpdateCommit (slot : Nat) (data : Word)
  /-- TRIM_TEMP_UPDATE_COMMIT (R125). -/
  | trimTempUpdateCommit (slot : Nat) (data : Word)
  /-- FAB_MAP_COMMIT (R132). -/
  | fabMapCommit (slot : Nat) (data : Word)
  /-- FAB_MOVE_COMMIT (R136). -/
  | fabMoveCommit (slot : Nat) (data : Word)
  /-- FAB_MOVE_LOAD_DONE (R136). -/
  | fabMoveLoadDone (badRows : List Nat)
  /-- SPOT_CHECK (R140). -/
  | spotCheck (block line : Nat) (finished matched : Bool)
  /-- SE_SELFTEST (R142). -/
  | seSelftest (slot engine : Nat)
  /-- SE_SELFTEST_DONE (R142). -/
  | seSelftestDone (engine : Nat) (pass : Bool)
  /-- SE_SELFTEST_TIMEOUT (R142). -/
  | seSelftestTimeout (engine : Nat)
  /-- SMP_UPDATE (R154). -/
  | smpUpdate (ring : Nat)
  /-- RECORD_DELIVERY (R157). -/
  | recordDelivery (seq : Nat)
  /-- SMP_LOAD (R170). -/
  | smpLoad (slot first count : Nat)
  /-- SMP_SAVE (R169). -/
  | smpSave (slot first count : Nat)
  /-- SMP_XFER_DONE (R170). -/
  | smpXferDone (bytes : List Byte)
  /-- SMP_PEEK (R176). -/
  | smpPeek (slot : Nat) (data : Word)
  /-- HP_PORT_ENABLE (R188). -/
  | hpPortEnable (slot port : Nat) (on : Bool)
  /-- HP_BRINGUP_STEP (R188). -/
  | hpBringupStep (port : Nat) (obs : BringupObs)
  /-- HP_BRINGUP_TIMEOUT (R193). -/
  | hpBringupTimeout (port : Nat)
  /-- HP_RETRY_TIMER (R193). -/
  | hpRetryTimer (port : Nat)
  /-- HP_SIGNAL_LOSS (R188). -/
  | hpSignalLoss (lane : Nat)
  /-- CONTINUE (R190). -/
  | hpContinue (slot port : Nat)
  /-- RETRAIN (R193). -/
  | hpRetrain (slot port : Nat)
  /-- FLUSH (R212). -/
  | hpFlush (slot port : Nat)
  /-- TX_TWI (R217). -/
  | hpTxTwi (slot port : Nat) (on : Bool)
  /-- HEAD_TX_TWI (R217). -/
  | hpHeadTxTwi (slot port : Nat) (on : Bool)
  /-- SKIP (R184). -/
  | hpSkip (lane : Nat)
  /-- SKIP_RECEIVE (R185). -/
  | hpSkipReceive (link lane : Nat) (fill : Int)
  /-- BEACON (R186). -/
  | hpBeacon (port : Nat)
  /-- TT_REQ (R195). -/
  | hpTtReq (port : Nat)
  /-- TT_RSP (R195). -/
  | hpTtRsp (port xid : Nat)
  /-- TIME (R196). -/
  | hpTime (port : Nat) (st : TimeStatus)
  /-- TIME_STATUS_TIMEOUT (R196). -/
  | hpTimeStatusTimeout (port xid : Nat)
  /-- IDENT (R207). -/
  | hpIdent (port : Nat) (id : Ident)
  /-- HEALTH (R206). -/
  | hpHealth (port : Nat) (h : HealthStatus)
  /-- ACK (R205). -/
  | hpAck (port cmdId op result : Nat)
  /-- FAULT (R220). -/
  | hpFault (port code : Nat) (fatal : Bool) (detail : Nat)
  /-- SENSE_PACKET (R204). -/
  | hpSensePacket (port : Nat) (pkt : SensePacket)
  /-- UPLINK_PACKET_DISCARD (R220). -/
  | hpUplinkDiscard (port : Nat) (packet : RxPacket)
  /-- BLOCK_LOCK_LOSS (R220). -/
  | hpBlockLockLoss (lane : Nat) (blocks : List (Nat × Nat)) (seen : RxFaults)
  /-- HEAD_HEALTH_TIMEOUT (R220). -/
  | hpHealthTimeout (port : Nat)
  /-- ST_HP_ACK_TIMEOUT (R220). -/
  | hpAckTimeout (port cmdId : Nat)
  /-- LINE_PACKET_SEND (R208). -/
  | linePacketSend (port : Nat)
  /-- TAP_LOAD (R210). -/
  | hpTapLoad (port row : Nat)
  /-- HEAD_MODE (R205). -/
  | hpHeadMode (slot port : Nat) (data : Word)
  /-- REF_CLOCK_LOSS (R228). -/
  | refClockLoss (ref : Nat)
  /-- REF_CLOCK_RESTORE (R228). -/
  | refClockRestore (ref : Nat)
  /-- L_TXEQ_WRITE (R229). -/
  | lTxeqWrite (slot lane : Nat) (data : Word)
  /-- EYE_GO (R231). -/
  | eyeGo (slot lane : Nat)
  /-- EYE_MEASURE_DONE (R232). -/
  | eyeMeasureDone (lane ew eh : Nat)
  /-- EYE_PERIODIC (R234). -/
  | eyePeriodic (lane : Nat)
  /-- REEQ (R235). -/
  | reeq (slot lane : Nat)
  /-- REEQ_DONE (R235). -/
  | reeqDone (lane ew eh : Nat) (found : RxSetting)
  /-- BITSLIP (R236). -/
  | bitslip (slot lane : Nat)
  /-- LOOP (R241). -/
  | loop (slot lane mode : Nat)
  /-- PRBS_GEN_EN (R241). -/
  | prbsGenEn (slot lane : Nat) (on : Bool)
  /-- LANE_SELFTEST (R242). -/
  | laneSelftest (slot lane : Nat)
  /-- LANE_SELFTEST_RUN (R242). -/
  | laneSelftestRun (lane : Nat)
  /-- LANE_SELFTEST_DONE (R242). -/
  | laneSelftestDone (lane : Nat) (step : LaneTestStep)
  /-- ANNOUNCE (R250). -/
  | announce (link : Nat)
  /-- ANNOUNCE_RECEIVE (R250). -/
  | announceReceive (link role ceil serial : Nat)
  /-- ANNOUNCE_TIMEOUT (R250). -/
  | announceTimeout (link : Nat)
  /-- CHAN (R252). -/
  | chan (lane ch seq b1 : Nat)
  /-- ST_PEER_CRC_BURST (R253). -/
  | stPeerCrcBurst (link : Nat) (packets : List (List (Nat × Nat)))
  /-- PEER_RETRY_TIMER (R248). -/
  | peerRetryTimer (link : Nat)
  /-- CAM_PORT_ENABLE (R260). -/
  | camPortEnable (slot port : Nat) (data : Word)
  /-- CAM_DISCOVERY_DONE (R260). -/
  | camDiscoveryDone (port found reached : Nat)
  /-- RETRY (R260). -/
  | retry (slot port : Nat)
  /-- ST_CAM_LINK_DOWN (R261). -/
  | stCamLinkDown (port : Nat)
  /-- SEND (R262). -/
  | send (slot port : Nat) (data : Word)
  /-- ST_CAM_CC_DONE (R262). -/
  | stCamCcDone (port : Nat) (bytes : List Byte) (ok : Bool)
  /-- ST_CAM_CC_TIMEOUT (R262). -/
  | stCamCcTimeout (port : Nat)
  /-- ST_CAM_EVENT (R263). -/
  | stCamEvent (port : Nat) (bytes : List Byte)
  /-- CAMERA_TRIGGER (R265). -/
  | cameraTrigger (port : Nat)
  /-- CAMERA_LINE_RECEIVE (R268). -/
  | cameraLineReceive (port arrival : Nat) (head : StreamHead) (pixels : List Nat) (crcErrors : Nat) (full : Bool)
  /-- LINE_WINDOW_CLOSE (R268). -/
  | lineWindowClose (port : Nat)
  /-- STATS_RECORD_WRITE (R288). -/
  | statsRecordWrite
  /-- CAPTURE (R290). -/
  | capture (ring : Nat)
  /-- STATS (R288). -/
  | stats (ring : Nat)
  /-- SETLOAD (R271). -/
  | setload (ring : Nat) (bytes : List Byte)
  /-- REPLAY (R290). -/
  | replay (ring : Nat) (bytes : List Byte)
  /-- SET_CAMERA_WRITES (R272). -/
  | setCameraWrites (port slot : Nat)
  /-- CAL_AGE_DUE (R295). -/
  | calAgeDue (port : Nat)
  /-- RUN (R299). -/
  | run (ring : Nat)
  /-- GUTTER (R299). -/
  | gutter (ring : Nat)
  /-- CAL_RUN_START (R296). -/
  | calRunStart
  /-- CAL_BATCH_FORM (R297). -/
  | calBatchForm (port : Nat)
  /-- CAL_CELL_MEASURE (R302). -/
  | calCellMeasure (batch cell gn slot : Nat)
  /-- CAL_PASS_END (R304). -/
  | calPassEnd (batch : Nat)
  /-- STOP (R307). -/
  | stop (slot : Nat) (data : Word)
  /-- ST_CAL_TIMEOUT (R307). -/
  | stCalTimeout
  /-- GO (R308). -/
  | go (slot : Nat) (data : Word)
  /-- CAL_LANE_SWEEP (R310). -/
  | calLaneSweep
  /-- PAIR (R318). -/
  | pair (step : PairStep)
  /-- PAIR_RESULT (R318). -/
  | pairResult (peer : PeerFacts)
  /-- UNPAIR (R331). -/
  | unpair (slot : Nat)
  /-- DETACH (R331). -/
  | detach (slot : Nat)
  /-- SWAP (R335). -/
  | swap (slot : Nat)
  /-- HB (R330). -/
  | hb
  /-- HB_IN (R429). -/
  | hbIn (width : Nat)
  /-- ST_DUE_PATH_LOSS (R330). -/
  | stDuePathLoss
  /-- ST_DUE_REVERT (R333). -/
  | stDueRevert
  /-- ST_DUE_PEER_LOST (R331). -/
  | stDuePeerLost
  /-- DUET_OWN_RAISE (R334). -/
  | duetOwnRaise (axis : Nat)
  /-- TIMING (R322). -/
  | timing (tk : Nat) (ownDie : Bool) (reports : List EdgeReport) (stale : List Bool)
  /-- ST_DUE_TIMING_LOCAL (R322). -/
  | stDueTimingLocal (boundary : Nat)
  /-- ORDER (R325). -/
  | order (order : Option Order)
  /-- STATE (R326). -/
  | state
  /-- STATE_COPY_RECEIVE (R326). -/
  | stateCopyReceive (items : List CopyItem)
  /-- DUET_NAK_TIMEOUT (R321). -/
  | duetNakTimeout
  /-- DIGEST (R328). -/
  | digest (port : Nat) (lines : List (Nat × Nat × Bool))
  /-- DIGEST_GATE_TIMEOUT (R328). -/
  | digestGateTimeout
  /-- ALLEMANDE_START (R335). -/
  | allemandeStart (ts : Nat)
  /-- ALLEMANDE_SWAP_POINT (R335). -/
  | allemandeSwapPoint
  /-- ST_DUE_ALLEMANDE (R335). -/
  | stDueAllemande
  /-- HANDOVER (R336). -/
  | handover
  /-- REG (R373). -/
  | reg (off tag : Nat) (write : Bool) (data : Word)
  /-- CLAIM (R346). -/
  | claim (slot : Nat)
  /-- RELEASE (R348). -/
  | release (slot : Nat)
  /-- OWN_HANDOVER (R348). -/
  | ownHandover (slot target : Nat)
  /-- DEV_OWN_HB (R347). -/
  | devOwnHb (slot : Nat)
  /-- LEASE_CHECK (R349). -/
  | leaseCheck
  /-- RING_ENABLE (R353). -/
  | ringEnable (slot ring : Nat) (data : Word)
  /-- DB_PROD (R358). -/
  | dbProd (port ring value : Nat)
  /-- DB_HCONS (R358). -/
  | dbHcons (port ring value : Nat)
  /-- DB_ABORT_RING (R368). -/
  | dbAbortRing (port ring value : Nat)
  /-- DB_ABORT_DEVICE (R369). -/
  | dbAbortDevice (port ring value : Nat)
  /-- DEV_ABORT (R369). -/
  | devAbort (slot : Nat) (data : Word)
  /-- ST_RING_ABORTED (R368). -/
  | stRingAborted (ring : Nat)
  /-- DESCRIPTOR_FETCH (R359). -/
  | descriptorFetch (ring : Nat) (bytes : List Byte)
  /-- ST_RING_FETCH_ERR (R360). -/
  | stRingFetchErr (ring : Nat)
  /-- CQ_RESUME (R362). -/
  | cqResume (ring : Nat)
  /-- MSIX_MODERATION_TIMER (R366). -/
  | msixModerationTimer (ring : Nat)
  /-- ST_PORT_RESET (R344). -/
  | stPortReset (port : Nat)
  /-- MBX_GO (R372). -/
  | mbxGo (slot : Nat)
  /-- ST_MBX_REPLY (R372). -/
  | stMbxReply (version log : List Byte) (sensors : Bool)
  /-- ST_MBX_TIMEOUT (R372). -/
  | stMbxTimeout
  /-- DEV_PEER_GO (R373). -/
  | devPeerGo (slot : Nat) (data : Word)
  /-- PEER_REG_ANSWER (R373). -/
  | peerRegAnswer (tag : Nat) (data : Word) (status : Nat)
  /-- ST_PEER_REG_FAIL (R373). -/
  | stPeerRegFail (tag : Nat)
  /-- BAR4_READ (R371). -/
  | bar4Read (port off size : Nat)
  /-- DEFLATE (R383). -/
  | deflate (ring : Nat) (src : Option (List Byte)) (ctxLost : Bool)
  /-- INFLATE (R381). -/
  | inflate (ring : Nat) (src : Option (List Byte)) (ctxLost : Bool)
  /-- ZIP_RING_WRITE (R386). -/
  | zipRingWrite (slot ring : Nat) (data : Word)
  /-- MEM_POP_WRITE (R398). -/
  | memPopWrite (data : Word)
  /-- DRAM_TRAINING (R410). -/
  | dramTraining (step : TrainStep)
  /-- REFRESH (R406). -/
  | refresh
  /-- REFRESH_RATE_POLL (R407). -/
  | refreshRatePoll (ranks : List RankStatus)
  /-- POWER_DOWN_TIMER (R408). -/
  | powerDownTimer (mc rank : Nat)
  /-- WRITE_TRACKING (R412). -/
  | writeTracking (corrections : List (Nat × Int))
  /-- MC_RETRAIN (R412). -/
  | mcRetrain (mc : Nat) (step : RetrainStep)
  /-- ST_MEM_CE (R414). -/
  | stMemCe (e : DramCe)
  /-- MEM_FREEZE (R416). -/
  | memFreeze (x : DramStop)
  /-- PATROL_SCRUB (R415). -/
  | patrolScrub (hits : List DramCe)
  /-- MC_PG_GO (R410). -/
  | mcPgGo (mc : Nat) (data : Word) (mask errors : Nat)
  /-- MC_MRA_GO (R410). -/
  | mcMraGo (mc : Nat) (data : Word) (answer : Nat)
  /-- BCN_M (R426). -/
  | bcnM (err : Int) (accepted : Bool)
  /-- BCN_F (R426). -/
  | bcnF (rtt : Int)
  /-- ST_FLD_LOST (R428). -/
  | stFldLost
  /-- MAIN_DIE_LOST (R449). -/
  | mainDieLost
  /-- CFG_COMMIT (R433). -/
  | cfgCommit (slot off : Nat) (data : Word)
  /-- CFG_ACK (R434). -/
  | cfgAck (index crc : Nat)
  /-- CFG_ACK_TIMEOUT (R434). -/
  | cfgAckTimeout
  /-- ARM (R435). -/
  | arm (slot : Nat)
  /-- OUT_SET (R436). -/
  | outSet (slot : Nat) (data : Word)
  /-- OUT_STATE (R436). -/
  | outState (readback : Nat)
  /-- STATUS_REQ (R436). -/
  | statusReq (slot : Nat)
  /-- LATCH_CLR (R447). -/
  | latchClr (slot : Nat) (data : Word)
  /-- OUTPUT_LATCH (R446). -/
  | outputLatch (output : Nat) (overcurrent : Bool)
  /-- SAFE24_UNDERVOLTAGE (R438). -/
  | safe24Undervoltage
  /-- SAFE24_RESTORE (R440). -/
  | safe24Restore (high band : Nat)
  /-- DI_CHANGE (R441). -/
  | diChange (input zone : Nat)
  /-- IN_STATE (R443). -/
  | inState
  /-- ENC_LINE_FAULT (R450). -/
  | encLineFault (inst : Nat)
  /-- SPD_SET (R452). -/
  | spdSet
  /-- REPLAY_CMD (R432). -/
  | replayCmd (channel : Nat)
  /-- UART_RX (R453). -/
  | uartRx (bytes : List (Nat × Bool))
  /-- BARRIER_FRAME_DISCARD (R425). -/
  | barrierFrameDiscard (frame : WireFrame)
  /-- FIELD_FAULT (R440). -/
  | fieldFault (code inst detail : Nat)
  /-- FIELD_HEALTH (R425). -/
  | fieldHealth (temp : Int) (v24 i24 : Nat)
  /-- ENABLE (R475). -/
  | axEnable (slot ax : Nat)
  /-- DISABLE (R475). -/
  | axDisable (slot ax : Nat)
  /-- START (R461). -/
  | axStart (slot ax first last : Nat)
  /-- GOTO (R462). -/
  | axGoto (slot ax : Nat)
  /-- MOVE_STOP (R464). -/
  | axMoveStop (slot ax : Nat)
  /-- RESUME (R466). -/
  | axResume (slot ax : Nat)
  /-- SET_POS (R467). -/
  | axSetPos (slot ax : Nat)
  /-- TARGET (R463). -/
  | axTarget (slot ax : Nat) (data : Word)
  /-- REMAIN_SET (R477). -/
  | axRemainSet (ax : Nat) (value : Int)
  /-- MOTION_CONTROL_TICK (R458). -/
  | motionControlTick (enc : List Int) (sense : MotionSense)
  /-- ST_MOT_STALL (R473). -/
  | stMotStall (ax : Nat)
  /-- ST_MOT_FOLLOW (R473). -/
  | stMotFollow (ax : Nat)
  /-- ST_MOT_COIL (R474). -/
  | stMotCoil (ax coil : Nat)
  /-- BRAKE_DELAY (R475). -/
  | brakeDelay (ax : Nat)
  /-- HOLD_DELAY (R469). -/
  | holdDelay (ax : Nat)
  /-- MOTION_DESCRIPTOR (R478). -/
  | motionDescriptor (ring : Nat)
  /-- MODE_REQUEST (R483). -/
  | modeRequest (slot : Nat) (req : Nat)
  /-- MODE_PENDING_COMPLETE (R483). -/
  | modePendingComplete
  /-- DERATE_CHANGE (R485). -/
  | derateChange
  /-- MODE (R509). -/
  | mode (ring : Nat)
  /-- SPIT (R509). -/
  | spit (ring : Nat) (rows : List Nat)
  /-- DEV_RESET (R487). -/
  | devReset (slot : Nat) (data : Word)
  /-- RESET_N_ASSERT (R543). -/
  | resetNAssert
  /-- RESET_N_RELEASE (R543). -/
  | resetNRelease (straps : Straps)
  /-- SUPPLY_FAULT (R540). -/
  | supplyFault (rail : Nat)
  /-- SUPPLY_FAULT_RELEASE (R540). -/
  | supplyFaultRelease (recovery : RailRecovery)
  /-- PERST_ASSERT (R544). -/
  | perstAssert (port : Nat)
  /-- PWR_BOOT_GO (R488). -/
  | pwrBootGo (slot : Nat)
  /-- BOOT_IMAGE_VERIFY (R489). -/
  | bootImageVerify (image : ReadImage)
  /-- ST_BOOT_DONE (R491). -/
  | stBootDone
  /-- PWR_DOM_REQ (R492). -/
  | pwrDomReq (slot : Nat) (data : Word)
  /-- DOMAIN_SWITCH_DONE (R492). -/
  | domainSwitchDone
  /-- THERMAL_SAMPLE (R499). -/
  | thermalSample (readings : List SensorReading)
  /-- SENSOR_TEST_STEP (R498). -/
  | sensorTestStep (sensor : Nat) (moved : Int)
  /-- THERMAL_LEVEL_FALL (R504). -/
  | thermalLevelFall
  /-- POWER_LEVEL_EVAL (R504). -/
  | powerLevelEval (dynamic leakage rest : Nat)
  /-- PWR_LEVEL_REQ (R504). -/
  | pwrLevelReq (slot : Nat) (data : Word)
  /-- ST_PWR_SURGE_END (R507). -/
  | stPwrSurgeEnd
  /-- SURGE_UNBAR (R507). -/
  | surgeUnbar
  /-- VR_ACK (R541). -/
  | vrAck (vsense : Nat)
  /-- ST_PWR_VR_FAIL (R542). -/
  | stPwrVrFail
  /-- VR_ALERT (R541). -/
  | vrAlert (status : Nat)
  /-- VR_PGOOD_LOSS (R541). -/
  | vrPgoodLoss
  /-- SRAM_ECC_HIT (R517). -/
  | sramEccHit (hit : SramHit)
  /-- SRAM_REGION_TEST_DONE (R518). -/
  | sramRegionTestDone (mem region : Nat) (failingRows : List Nat)
  /-- SRAM_SCRUB (R520). -/
  | sramScrub (hits : List SramHit)
  /-- ST_ERR_LOCKSTEP (R521). -/
  | stErrLockstep (unit : Nat)
  /-- SVC_LOAD_WINDOW (R524). -/
  | svcLoadWindow (load : Nat) (classAWaited : Bool)
  /-- SNAP (R526). -/
  | snap (slot : Nat)
  /-- CLEAR (R526). -/
  | clear (slot : Nat)
  /-- CLEAR_LOG (R515). -/
  | clearLog (slot : Nat)
  /-- PEER_BRINGUP_STEP (R248). -/
  | peerBringupStep (link : Nat) (obs : BringupObs)
  /-- PEER_BRINGUP_TIMEOUT (R248). -/
  | peerBringupTimeout (link : Nat)
  /-- TWI_ENTER (R218). -/
  | hpTwiEnter (port : Nat)
  /-- TIME_LOCK_CLEAR (R427). -/
  | timeLockClear
  /-- ZIP_DESCRIPTOR_DONE (R388). -/
  | zipDescriptorDone (channel : Nat) (written : Bool)
  /-- ST_DUE_ALLEM_SKIP (R335). -/
  | stDueAllemSkip
  /-- ALLEMANDE_CANCEL (R335). -/
  | allemandeCancel
  /-- PERST_RELEASE (R544). -/
  | perstRelease (port : Nat)
  deriving DecidableEq, Repr

end Sys2Proof
end

