-- ==== Sys2Proof/Decode.lean ====
section
/-! DEFINITION. The commands that a word spells. No row of spec/opcode_table.json gives bits: the block takes its commands from its
buses, links and pins, and none of them is a word of a program. -/

namespace Sys2Proof

/-- The command that a word spells by the table's bits: none, as no row gives bits. -/
def decodeTableWord (_nbits _w : Nat) : Option Instr := none

end Sys2Proof
end

