-- ==== Sys2Proof/Config.lean ====
section
/-! DEFINITION. What an implementation of the device fixes and the spec leaves open: constants with no body, so that no
proof can see a value of them. Each stands in a row of notes/assumptions/. -/

namespace Sys2Proof

/-- A value the spec leaves open, fresh at each use: `n` is the model's own counter of uses (State.free). -/
opaque Config.freeNat : Nat → Nat

/-- Values the spec leaves open that one use draws together: the `i`-th of the `n`-th. -/
opaque Config.freeAt : Nat → Nat → Nat

/-- The literals and matches that the search of R383 finds for one DEFLATE block, whose hash no rule states: by the effort (chain length,
lazy limit, nice length), the input before the block, the block, and up to 258 bytes after it. A literal is 0 and the byte, a match its
length and distance. -/
opaque Config.lzTokens : Nat × Nat × Nat → List Byte → List Byte → List Byte → List (Nat × Nat)

/-- The dynamically coded form of literals and matches, after the block's three header bits (R384 leaves the code lengths open). -/
opaque Config.dynamicBlock : List (Nat × Nat) → List Bool

/-- Which way a quotient whose rounding no rule states is rounded, by its numerator and its divisor. -/
opaque Config.roundUp : Int → Nat → Bool

/-- DEV_ID.GRADE and DEV_ID.STEP, from fuses (R1, R2). -/
opaque Config.fuseGrade : Nat
opaque Config.fuseStep : Nat

/-- The 64-bit serial number, from fuses (R376). -/
opaque Config.fuseSerial : Nat

/-- The boot fuses of R489: the lowest security version accepted, the key slots revoked, and the KEYHASH of each. -/
opaque Config.fuseSvnMin : Nat
opaque Config.fuseKeyRevoked : Nat → Bool
opaque Config.fuseKeyHash : Nat → Nat

/-- The width of the test port's instruction register and what a code other than all ones selects (R553). -/
opaque Config.tapWidth : Nat
opaque Config.tapCode : List Bool → Nat

/-- The data of a VOUT_COMMAND in a VOUT_MODE other than the linear one, for a target in mV (R541). -/
opaque Config.voutData : Nat → Nat → Nat

end Sys2Proof
end

