-- ==== Sys2Proof/Machine/Bits.lean ====
section
/-! DEFINITION. Bit fields, sign extension, byte order and the rounding shifts the rules use. -/

namespace Sys2Proof.Machine

/-- The field of `w` bits at bit `lo` of a number. -/
def bits (x lo w : Nat) : Nat := x / 2 ^ lo % 2 ^ w

/-- A number with the field of `w` bits at bit `lo` replaced. -/
def setBits (x lo w v : Nat) : Nat := x % 2 ^ lo + v % 2 ^ w * 2 ^ lo + x / 2 ^ (lo + w) * 2 ^ (lo + w)

/-- Bit `i` of a number. -/
def bit (x i : Nat) : Bool := x / 2 ^ i % 2 = 1

/-- Two's complement: a `w`-bit number read as signed. -/
def signed (w x : Nat) : Int := if x % 2 ^ w < 2 ^ (w - 1) then (x % 2 ^ w : Nat) else (x % 2 ^ w : Nat) - (2 ^ w : Nat)

/-- Two's complement: an integer as a `w`-bit number. -/
def unsigned (w : Nat) (i : Int) : Nat := (i % (2 ^ w : Nat)).toNat

/-- The arithmetic right shift of R51: it rounds toward minus infinity. -/
def sar (x : Int) (n : Nat) : Int := x.fdiv (2 ^ n : Nat)

/-- clamp(x, lo, hi) is min(hi, max(lo, x)) (R121). -/
def clamp (x lo hi : Int) : Int := min hi (max lo x)

/-- wrap48 of R52: a difference of counts into ±2^47 counts, in Q48.16. -/
def wrap48 (x : Int) : Int := (x + (2 ^ 63 : Nat)) % (2 ^ 64 : Nat) - (2 ^ 63 : Nat)

/-- A count difference wrapped into ±2^47 counts. -/
def wrapCount (x : Int) : Int := (x + (2 ^ 47 : Nat)) % (2 ^ 48 : Nat) - (2 ^ 47 : Nat)

/-- Round up to a whole quotient. -/
def ceilDiv (a b : Nat) : Nat := (a + b - 1) / b

/-- The largest r with r² ≤ n: `k` bits are tried from the top. -/
def sqrtBits : Nat → Nat → Nat → Nat
  | 0, _, r => r
  | k + 1, n, r => sqrtBits k n (if (r + 2 ^ k) * (r + 2 ^ k) ≤ n then r + 2 ^ k else r)
def isqrt (n : Nat) : Nat := sqrtBits (Nat.log2 n / 2 + 1) n 0

/-- Round half away from zero to a whole quotient. -/
def roundDiv (a : Int) (b : Nat) : Int := if 0 ≤ a then (2 * a + b) / (2 * b) else -((-2 * a + b) / (2 * b))

/-- A quotient whose rounding no rule states: one of the two whole numbers next to it. -/
def divOpen (a : Int) (b : Nat) : Int :=
  a.fdiv b + (if a % b = 0 then 0 else (Config.roundUp a b).toNat)

/-- round() of a rational number, half away from zero. -/
def ratRound (x : Rat) : Int := roundDiv x.num x.den

/-- A rational number whose rounding no rule states. -/
def ratOpen (x : Rat) : Int := divOpen x.num x.den

/-- Insert a number into a rising list, and sort. -/
def insertRat (x : Rat) : List Rat → List Rat
  | [] => [x]
  | y :: ys => if x ≤ y then x :: y :: ys else y :: insertRat x ys
def sortRats (l : List Rat) : List Rat := l.foldr insertRat []

/-- The median of measured values: the mean of the two middle ones where their number is even. -/
def medianRat (l : List Rat) : Rat :=
  let m := sortRats l
  let n := l.length
  if n % 2 = 1 then m.getD (n / 2) 0 else (m.getD (n / 2 - 1) 0 + m.getD (n / 2) 0) / 2

/-- A number with bit `i` set or cleared. -/
def putBit (x i : Nat) (b : Bool) : Nat := setBits x i 1 b.toNat

/-- The positions below `w` whose bit is set. -/
def bitList (w x : Nat) : List Nat := (List.range w).filter (bit x)

/-- The sum 1 for every bit set among the `w` low bits. -/
def popcount (w x : Nat) : Nat := ((List.range w).filter (fun i => bit x i)).length

/-- The `w` low bits in reversed order (R160). -/
def bitrev (w x : Nat) : Nat := (List.range w).foldl (fun a i => a + (if bit x i then 2 ^ (w - 1 - i) else 0)) 0

/-- The little-endian value of the bytes at offset `off`. -/
def leAt (bs : List Byte) (off n : Nat) : Nat :=
  ((bs.drop off).take n).foldr (fun b acc => b.toNat + 256 * acc) 0

/-- A number as `n` little-endian bytes. -/
def leBytes (n x : Nat) : List Byte := (List.range n).map (fun i => BitVec.ofNat 8 (x / 256 ^ i))

/-- The byte at offset `off`. -/
def byteAt (bs : List Byte) (off : Nat) : Nat := leAt bs off 1

/-- One bit of the reflected CRC-32 of IEEE 802.3. -/
def crcBit (c : Nat) : Nat := if c % 2 = 1 then (c / 2) ^^^ 0xEDB88320 else c / 2

/-- The CRC register after one byte. -/
def crcByte (c : Nat) (b : Nat) : Nat := (List.range 8).foldl (fun c _ => crcBit c) (c ^^^ b)

/-- CRC-32 of IEEE 802.3 over a byte sequence. -/
def crc32 (bs : List Nat) : Nat := (bs.foldl crcByte 0xFFFFFFFF) ^^^ 0xFFFFFFFF

/-- CRC-32 over memory bytes. -/
def crc32Bytes (bs : List Byte) : Nat := crc32 (bs.map BitVec.toNat)

/-- Insert a number into a rising list. -/
def insertSorted (x : Int) : List Int → List Int
  | [] => [x]
  | y :: ys => if x ≤ y then x :: y :: ys else y :: insertSorted x ys

/-- A list in rising order. -/
def sortInts (l : List Int) : List Int := l.foldr insertSorted []

/-- The median of a list: the middle value of the sorted list, the lower of the two middle values where it is even. -/
def median (l : List Int) : Int := (sortInts l).getD ((l.length - 1) / 2) 0

/-- The mean of a list, toward minus infinity. -/
def meanInt (l : List Int) : Int := if l.length = 0 then 0 else l.sum.fdiv l.length

/-- The list with the element at index `i` changed. -/
def updateAt {α : Type} (l : List α) (i : Nat) (f : α → α) : List α :=
  l.mapIdx (fun j x => if j = i then f x else x)

end Sys2Proof.Machine
end

