-- ==== Sys2Proof/Machine/Codes.lean ====
section
/-! DEFINITION. The status codes of the tables of every chapter of spec/ (R365: 16 bits, the class in [15:8]). -/

namespace Sys2Proof.Machine

/-- R365: success. -/
def Code.ST_OK : Nat := 0x0000
def Code.ST_DESC_KIND : Nat := 0x0100
def Code.ST_DESC_FORMAT : Nat := 0x0101
def Code.ST_DB_BAD : Nat := 0x0102
def Code.ST_RING_FETCH_ERR : Nat := 0x0103
def Code.ST_RING_ABORTED : Nat := 0x0104
def Code.ST_DEV_ABORTED : Nat := 0x0105
def Code.ST_CQ_OVERFLOW : Nat := 0x0106
def Code.ST_OWN_CLAIMED : Nat := 0x0107
def Code.ST_OWN_HANDOVER : Nat := 0x0108
def Code.ST_OWN_LEASE_EXPIRED : Nat := 0x0109
def Code.ST_OWN_ELECTED : Nat := 0x010A
def Code.ST_ACC_NONOWNER : Nat := 0x010B
def Code.ST_ACC_SIZE : Nat := 0x010C
def Code.ST_MBX_REPLY : Nat := 0x010D
def Code.ST_MBX_UNKNOWN : Nat := 0x010E
def Code.ST_MBX_TIMEOUT : Nat := 0x010F
def Code.ST_PEER_REG_FAIL : Nat := 0x0110
def Code.ST_PORT_RESET : Nat := 0x0111
def Code.ST_WINDOW_FIT : Nat := 0x0201
def Code.ST_RATE_FIT : Nat := 0x0202
def Code.ST_SPLICE_MISMATCH : Nat := 0x0203
def Code.ST_GAP_SHORT : Nat := 0x0204
def Code.ST_JOB_FORMAT : Nat := 0x0205
def Code.ST_PAGE_ORDER : Nat := 0x0206
def Code.ST_REPLACE_LATE : Nat := 0x0207
def Code.ST_REPLACE_LINES : Nat := 0x0208
def Code.ST_REPLACED : Nat := 0x0209
def Code.ST_BAND_MISSED : Nat := 0x020A
def Code.ST_BAND_SIZE : Nat := 0x020B
def Code.ST_BAND_INFLATE : Nat := 0x020C
def Code.ST_JOB_LATE : Nat := 0x020D
def Code.ST_RAMP_LATE : Nat := 0x020E
def Code.ST_WINDOW_STRETCH : Nat := 0x020F
def Code.ST_JOB_REFUSED : Nat := 0x0210
def Code.ST_ABORTED : Nat := 0x0211
def Code.ST_UPD_DROPPED : Nat := 0x0212
def Code.ST_LATE_WORK : Nat := 0x0280
def Code.ST_LATE_PUBLISH : Nat := 0x0281
def Code.ST_OVERSPEED : Nat := 0x0282
def Code.ST_LATE_CLEAR : Nat := 0x0283
def Code.ST_CRAWL_ENTER : Nat := 0x0284
def Code.ST_CRAWL_EXIT : Nat := 0x0285
def Code.ST_WEB_REVERSE : Nat := 0x0286
def Code.ST_WEB_FORWARD : Nat := 0x0287
def Code.ST_ENC_QERR_BURST : Nat := 0x0288
def Code.ST_ENC_CHECK_MISMATCH : Nat := 0x0289
def Code.ST_ENC_INDEX : Nat := 0x028A
def Code.ST_TRK_OUTVOTE : Nat := 0x0290
def Code.ST_TRK_SELFTEST_PASS : Nat := 0x0291
def Code.ST_TRK_SELFTEST_FAIL : Nat := 0x0292
def Code.ST_TRK_NO_MAJORITY : Nat := 0x0293
def Code.ST_TRK_DUAL_MISMATCH : Nat := 0x0294
def Code.ST_TRK_UPDATE_PAST : Nat := 0x0295
def Code.ST_TRK_UPDATE_LIMIT : Nat := 0x0296
def Code.ST_MER_HOLDOVER : Nat := 0x02A0
def Code.ST_MER_LOCK : Nat := 0x02A1
def Code.ST_MER_HOLD_LIMIT : Nat := 0x02A2
def Code.ST_MER_UNLOCKED : Nat := 0x02A3
def Code.ST_SE_SPOT_MISMATCH : Nat := 0x0300
def Code.ST_SE_WITHHELD : Nat := 0x0301
def Code.ST_SE_SELFTEST_PASS : Nat := 0x0302
def Code.ST_SE_SELFTEST_FAIL : Nat := 0x0303
def Code.ST_SE_OUT : Nat := 0x0304
def Code.ST_SE_TILE_LATE : Nat := 0x0305
def Code.ST_SE_LEAD_SHORT : Nat := 0x0306
def Code.ST_FAB_MOVE_DONE : Nat := 0x0307
def Code.ST_FAB_MOVE_STATE_LOST : Nat := 0x0308
def Code.ST_FAB_XUPD_PAST : Nat := 0x0309
def Code.ST_FAB_XUPD_LIMIT : Nat := 0x030A
def Code.ST_FAB_TUPD_PAST : Nat := 0x030B
def Code.ST_SCREEN_SET_BAD : Nat := 0x030C
def Code.ST_SMP_UPD_PAST : Nat := 0x0340
def Code.ST_SMP_UPD_FULL : Nat := 0x0341
def Code.ST_SMP_UPD_FORMAT : Nat := 0x0342
def Code.ST_SMP_UPD_PAIR : Nat := 0x0343
def Code.ST_SMP_UPD_LIMIT : Nat := 0x0344
def Code.ST_SMP_LATE : Nat := 0x0345
def Code.ST_SMP_DIVERGE : Nat := 0x0346
def Code.ST_SMP_LOAD_BAD : Nat := 0x0347
def Code.ST_SMP_UNCOVERED : Nat := 0x0350
def Code.ST_SMP_SPARE_LOW : Nat := 0x0351
def Code.ST_HP_LINK_UP : Nat := 0x0400
def Code.ST_HP_LINK_DOWN : Nat := 0x0401
def Code.ST_HP_BRINGUP_FAIL : Nat := 0x0402
def Code.ST_HP_TIME_UNLOCK : Nat := 0x0403
def Code.ST_HP_CRC_BURST : Nat := 0x0404
def Code.ST_HP_TX_LATE : Nat := 0x0405
def Code.ST_HP_TAP_LATE : Nat := 0x0406
def Code.ST_HP_IDENT_BAD : Nat := 0x0407
def Code.ST_HP_HEAD_CHANGED : Nat := 0x0408
def Code.ST_HP_HEAD_FAULT : Nat := 0x0409
def Code.ST_HP_NOT_UP : Nat := 0x040A
def Code.ST_HP_TWI_REFUSED : Nat := 0x040B
def Code.ST_HP_ACK_TIMEOUT : Nat := 0x040C
def Code.ST_LANE_NO_EQ : Nat := 0x0410
def Code.ST_LANE_MARGINAL : Nat := 0x0411
def Code.ST_LANE_SELFTEST_PASS : Nat := 0x0412
def Code.ST_LANE_SELFTEST_FAIL : Nat := 0x0413
def Code.ST_LANE_CHANNEL_FAIL : Nat := 0x0414
def Code.ST_LANE_REF_LOSS : Nat := 0x0415
def Code.ST_PEER_LINK_UP : Nat := 0x0420
def Code.ST_PEER_LINK_DOWN : Nat := 0x0421
def Code.ST_PEER_CRC_BURST : Nat := 0x0422
def Code.ST_PEER_SEQ_GAP : Nat := 0x0423
def Code.ST_STN_TWO_MASTERS : Nat := 0x0424
def Code.ST_CAM_LINK_UP : Nat := 0x0500
def Code.ST_CAM_LINK_DOWN : Nat := 0x0501
def Code.ST_CAM_DISCOVERY_FAIL : Nat := 0x0502
def Code.ST_CAM_FORMAT : Nat := 0x0503
def Code.ST_CAM_BUDGET : Nat := 0x0504
def Code.ST_CAM_TRIG_SKIP : Nat := 0x0505
def Code.ST_CAM_LINE_MISSING : Nat := 0x0506
def Code.ST_CAM_LINE_STRAY : Nat := 0x0507
def Code.ST_CAM_CC_DONE : Nat := 0x0508
def Code.ST_CAM_CC_TIMEOUT : Nat := 0x0509
def Code.ST_CAM_EVENT : Nat := 0x050A
def Code.ST_CAM_SET_BAD : Nat := 0x050B
def Code.ST_CAM_SET_LATE : Nat := 0x050C
def Code.ST_CAM_SET_FAIL : Nat := 0x050D
def Code.ST_CAM_DOWN : Nat := 0x050E
def Code.ST_CAP_LATE : Nat := 0x0510
def Code.ST_CAP_SHORT : Nat := 0x0511
def Code.ST_CAP_DROPPED : Nat := 0x0512
def Code.ST_INS_PRED_FIT : Nat := 0x0540
def Code.ST_INS_STREAK : Nat := 0x0541
def Code.ST_INS_FOREIGN : Nat := 0x0542
def Code.ST_ZNOGAIN : Nat := 0x0600
def Code.ST_ZSUSPEND : Nat := 0x0601
def Code.ST_ZERR_CODE : Nat := 0x0602
def Code.ST_ZERR_DIST : Nat := 0x0603
def Code.ST_ZERR_LEN : Nat := 0x0604
def Code.ST_ZERR_TRUNC : Nat := 0x0605
def Code.ST_ZERR_CHECK : Nat := 0x0606
def Code.ST_ZOUT_FULL : Nat := 0x0607
def Code.ST_ZCTX_BAD : Nat := 0x0608
def Code.ST_ZCTX_LOST : Nat := 0x0609
def Code.ST_ZDESC_FORMAT : Nat := 0x060A
def Code.ST_ZDMA_ERR : Nat := 0x060B
def Code.ST_ZIP_NO_PAGE_CH : Nat := 0x060C
def Code.ST_MEM_TRAIN_FAIL : Nat := 0x0700
def Code.ST_MEM_REDUCED : Nat := 0x0701
def Code.ST_MEM_MARGINAL : Nat := 0x0702
def Code.ST_MEM_DRIFT : Nat := 0x0703
def Code.ST_MEM_CE : Nat := 0x0704
def Code.ST_MEM_CE_LASTING : Nat := 0x0705
def Code.ST_MEM_CE_RATE : Nat := 0x0706
def Code.ST_MEM_UE : Nat := 0x0707
def Code.ST_MEM_CMD_ERR : Nat := 0x0708
def Code.ST_MEM_FROZEN : Nat := 0x0709
def Code.ST_MEM_TICK_OVER : Nat := 0x070A
def Code.ST_MEM_REF2X : Nat := 0x070B
def Code.ST_MEM_HOT : Nat := 0x070C
def Code.ST_MEM_NONE : Nat := 0x070D
def Code.ST_SRAM_CE : Nat := 0x0780
def Code.ST_SRAM_UE : Nat := 0x0781
def Code.ST_SRAM_REMAP : Nat := 0x0782
def Code.ST_SRAM_NOSPARE : Nat := 0x0783
def Code.ST_SRAM_SPARE_LOW : Nat := 0x0784
def Code.ST_ERR_LOCKSTEP : Nat := 0x0785
def Code.ST_ERR_TRANSIENT : Nat := 0x0786
def Code.ST_ERR_LASTING : Nat := 0x0787
def Code.ST_SVC_SHED : Nat := 0x0788
def Code.ST_FLD_LINK : Nat := 0x0800
def Code.ST_FLD_ACTIVE : Nat := 0x0801
def Code.ST_FLD_LOST : Nat := 0x0802
def Code.ST_FLD_ORPHANED : Nat := 0x0803
def Code.ST_FLD_PWR_FAIL : Nat := 0x0804
def Code.ST_FLD_CMD_FAIL : Nat := 0x0805
def Code.ST_FLD_BARRIER_BURST : Nat := 0x0806
def Code.ST_FLD_INTERLOCK : Nat := 0x0807
def Code.ST_FLD_INTERLOCK_CLEAR : Nat := 0x0808
def Code.ST_FLD_WEB_BREAK : Nat := 0x0809
def Code.ST_FLD_OUT_LATCH : Nat := 0x080A
def Code.ST_FLD_ENC_LINE : Nat := 0x080B
def Code.ST_FLD_HOT : Nat := 0x080C
def Code.ST_FLD_UART_OVF : Nat := 0x080D
def Code.ST_FLD_NOT_ACTIVE : Nat := 0x080E
def Code.ST_MOT_DONE : Nat := 0x0900
def Code.ST_MOT_STOPPED : Nat := 0x0901
def Code.ST_MOT_REFUSED : Nat := 0x0902
def Code.ST_MOT_STALL : Nat := 0x0903
def Code.ST_MOT_FOLLOW : Nat := 0x0904
def Code.ST_MOT_SKEW : Nat := 0x0905
def Code.ST_MOT_PROFILE : Nat := 0x0906
def Code.ST_MOT_COIL : Nat := 0x0907
def Code.ST_MOT_PARKED : Nat := 0x0908
def Code.ST_MOT_PARK_FAIL : Nat := 0x0909
def Code.ST_DUE_PAIRED : Nat := 0x0A00
def Code.ST_DUE_PAIR_FAIL : Nat := 0x0A01
def Code.ST_DUE_PATH_LOSS : Nat := 0x0A02
def Code.ST_DUE_PATH_OK : Nat := 0x0A03
def Code.ST_DUE_TAKEOVER : Nat := 0x0A04
def Code.ST_DUE_CONFIRMED : Nat := 0x0A05
def Code.ST_DUE_REVERT : Nat := 0x0A06
def Code.ST_DUE_DETACHED : Nat := 0x0A07
def Code.ST_DUE_DIVERGE : Nat := 0x0A08
def Code.ST_DUE_MISMATCH : Nat := 0x0A09
def Code.ST_DUE_ALLEMANDE : Nat := 0x0A0A
def Code.ST_DUE_ALLEM_SKIP : Nat := 0x0A0B
def Code.ST_DUE_PEER_CEIL : Nat := 0x0A0C
def Code.ST_DUE_ENC_DIFF : Nat := 0x0A0D
def Code.ST_DUE_TIMING_LOCAL : Nat := 0x0A0E
def Code.ST_DUE_QUEUE_SKEW : Nat := 0x0A0F
def Code.ST_DUE_PEER_LOST : Nat := 0x0A10
def Code.ST_MODE_CHANGE : Nat := 0x0B00
def Code.ST_MODE_REFUSED : Nat := 0x0B01
def Code.ST_MODE_ILLEGAL : Nat := 0x0B02
def Code.ST_MODE_NO_JOB : Nat := 0x0B03
def Code.ST_MODE_NO_MAP : Nat := 0x0B04
def Code.ST_MODE_NO_IMAGE : Nat := 0x0B05
def Code.ST_BOOT_DONE : Nat := 0x0B06
def Code.ST_BOOT_SLOT_FAIL : Nat := 0x0B07
def Code.ST_SAFESTOP : Nat := 0x0B08
def Code.ST_THM_WARNING : Nat := 0x0B09
def Code.ST_THM_WARNING_CLEAR : Nat := 0x0B0A
def Code.ST_THM_THROTTLE : Nat := 0x0B0B
def Code.ST_THM_THROTTLE_CLEAR : Nat := 0x0B0C
def Code.ST_THM_SHUTDOWN : Nat := 0x0B0D
def Code.ST_THM_SENSOR_BROKEN : Nat := 0x0B0E
def Code.ST_THM_HEAD_HOT : Nat := 0x0B0F
def Code.ST_PWR_LEVEL : Nat := 0x0B10
def Code.ST_PWR_CEIL : Nat := 0x0B11
def Code.ST_PWR_SURGE_END : Nat := 0x0B12
def Code.ST_PWR_SURGE_REFUSED : Nat := 0x0B13
def Code.ST_PWR_DOM_REFUSED : Nat := 0x0B14
def Code.ST_MODE_CANCELLED : Nat := 0x0B15
def Code.ST_PWR_VR_FAIL : Nat := 0x0B40
def Code.ST_PWR_RESET_CAUSE : Nat := 0x0B41
def Code.ST_CAL_RUN_START : Nat := 0x0C00
def Code.ST_CAL_RUN_DONE : Nat := 0x0C01
def Code.ST_CAL_NOZ_FAIL : Nat := 0x0C02
def Code.ST_CAL_BATCH_VOID : Nat := 0x0C03
def Code.ST_CAL_TIMEOUT : Nat := 0x0C04
def Code.ST_CAL_NO_CAMERA : Nat := 0x0C05
def Code.ST_CAL_GUTTER_LATE : Nat := 0x0C06
def Code.ST_CAL_STITCH_DONE : Nat := 0x0C07
def Code.ST_CAL_STITCH_RANGE : Nat := 0x0C08
def Code.ST_CAL_DIVERGE : Nat := 0x0C09
def Code.ST_CAL_LANE_DONE : Nat := 0x0C0A
def Code.ST_CAL_SKIP_UNCOVERED : Nat := 0x0C0B
def Code.ST_CAL_STOPPED : Nat := 0x0C0C

end Sys2Proof.Machine
end

