-- ==== Sys2Proof/Machine/LinkBlocks.lean ====
section
/-! DEFINITION. The blocks of a Mladant or peer link (R180 to R187, R200, R201, R247): their bits, the scrambler, packets, and how a
receiver reads them. It knows nothing of State. A block on a lane is its sync, s0 + 2 s1, and its 64 payload bits. -/

namespace Sys2Proof.Machine

/-- The fields of a TRAIN block (R187); on a peer lane LANE_ID stands in the guard (R247). -/
structure Train where
  peer  : Bool
  count : Nat
  id    : Nat
  side  : Nat
  ready : Bool
  last  : Bool
  deriving DecidableEq, Repr

/-- A block of a link (R181, R182). -/
inductive LinkBlock where
  | data (w : Nat)
  | idle
  | skip
  | beacon (time : Nat)
  | train (t : Train)
  | sop (ptype len : Nat)
  | eop (crc : Nat)
  | ttReq (xid : Nat)
  | ttRsp (xid : Nat)
  | twiEnter
  | flush (rowmask : Nat)
  /-- A block error: an invalid sync, an unknown BTYPE, a reserved KIND, or a block that a peer lane does not use. -/
  | bad
  deriving DecidableEq, Repr

/-- The payload of a TRAIN block (the table "Training block"). -/
def Train.payload (t : Train) : Nat :=
  let id := if t.peer then 0 else t.id % 2
  let guard := if t.peer then 0xA0 + t.id % 8 else 0xAA
  0x55 + t.count % 16 * 2 ^ 8 + id * 2 ^ 12 + t.side % 2 * 2 ^ 13 + t.ready.toNat * 2 ^ 14 + t.last.toNat * 2 ^ 15
    + guard * 2 ^ 16 + 0xFFFF * 2 ^ 40 + 0xAA * 2 ^ 56

/-- A CTRL block's payload: BTYPE 0x66, KIND, and its fields (R182). -/
def ctrlPayload (kind fields : Nat) : Nat := 0x66 + kind * 2 ^ 8 + fields

/-- Sync and payload of a block (the tables "Block types" and "CTRL kinds"). -/
def LinkBlock.bits : LinkBlock → Nat × Nat
  | .data w => (2, w % 2 ^ 64)
  | .idle => (1, 0x0F)
  | .skip => (1, 0x33 + 0x55555555555555 * 2 ^ 8)
  | .beacon t => (1, 0x3C + t % 2 ^ 56 * 2 ^ 8)
  | .train t => (1, t.payload)
  | .sop ptype len => (1, ctrlPayload 1 (ptype % 16 * 2 ^ 16 + len % 4096 * 2 ^ 20))
  | .eop crc => (1, ctrlPayload 2 (crc % 2 ^ 32 * 2 ^ 16))
  | .ttReq xid => (1, ctrlPayload 3 (xid % 256 * 2 ^ 16))
  | .ttRsp xid => (1, ctrlPayload 4 (xid % 256 * 2 ^ 16))
  | .twiEnter => (1, ctrlPayload 5 0)
  | .flush rowmask => (1, ctrlPayload 6 (rowmask % 2 ^ 16 * 2 ^ 16))
  | .bad => (0, 0)

/-! ### Reading a block -/

/-- A CTRL block; a peer lane has no TWI_ENTER and no FLUSH (R247). -/
def readCtrl (peer : Bool) (x : Nat) : LinkBlock :=
  match bits x 8 8 with
  | 1 => .sop (bits x 16 4) (bits x 20 12)
  | 2 => .eop (bits x 16 32)
  | 3 => .ttReq (bits x 16 8)
  | 4 => .ttRsp (bits x 16 8)
  | 5 => if peer then .bad else .twiEnter
  | 6 => if peer then .bad else .flush (bits x 16 16)
  | _ => .bad

/-- A TRAIN block. -/
def readTrain (peer : Bool) (x : Nat) : Train :=
  ⟨peer, bits x 8 4, if peer then bits x 16 3 else bits x 12 1, bits x 13 1, bit x 14, bit x 15⟩

/-- A block as a receiver reads it; a peer lane has no BEACON (R247). -/
def readBlock (peer : Bool) (b : Nat × Nat) : LinkBlock :=
  if b.1 = 2 then .data b.2
  else if b.1 ≠ 1 then .bad
  else match bits b.2 0 8 with
    | 0x0F => .idle
    | 0x33 => .skip
    | 0x3C => if peer then .bad else .beacon (b.2 / 2 ^ 8)
    | 0x55 => .train (readTrain peer b.2)
    | 0x66 => readCtrl peer b.2
    | _ => .bad

/-- Whether the lock detector takes a block: a TRAIN block with a correct sync, BTYPE, guards and marker (R189). -/
def goodTrain (peer : Bool) (b : Nat × Nat) : Bool :=
  b.1 = 1 && bits b.2 0 8 = 0x55 && bits b.2 24 40 = 0xAAFFFF0000
    && (if peer then bits b.2 19 5 = 0x14 else bits b.2 16 8 = 0xAA)

/-- Whether a run of 64 consecutive blocks satisfies `p`; `run` blocks before these did. -/
def run64 (p : Nat × Nat → Bool) : Nat → List (Nat × Nat) → Bool
  | run, [] => 64 ≤ run
  | run, b :: bs => 64 ≤ run || run64 p (if p b then run + 1 else 0) bs

/-- Whether the lock detector reports lock within 128 blocks (R189). -/
def locks (peer : Bool) (bs : List (Nat × Nat)) : Bool := run64 (goodTrain peer) 0 (bs.take 128)

/-- The search for block lock on a lane (R189): `seen` is what the lane receives at each of the 66 boundaries. It answers the slips it
has issued when the detector reports lock, and none after 66. -/
def searchFrom (peer : Bool) (seen : List (List (Nat × Nat))) (boundary : Nat) : Nat → Nat → Option Nat
  | 0, _ => none
  | fuel + 1, slip =>
    if locks peer (seen.getD ((boundary + slip) % 66) []) then some slip
    else searchFrom peer seen boundary fuel (slip + 1)

/-- The LANE_ID that 64 consecutive TRAIN blocks give (the table "Bring-up steps"). -/
def laneIdOf (peer : Bool) (bs : List (Nat × Nat)) : Option Nat :=
  (List.range (if peer then 8 else 2)).find? (fun i =>
    run64 (fun b => goodTrain peer b && (readTrain peer b.2).id = i) 0 bs)

/-- Whether 64 consecutive TRAIN blocks with RX_READY have come (R192). -/
def readyRun (peer : Bool) (bs : List (Nat × Nat)) : Bool :=
  run64 (fun b => goodTrain peer b && (readTrain peer b.2).ready) 0 bs

/-- Whether lanes whose TRAIN blocks arrive together with these COUNTs can be aligned by at most 7 blocks against lane 0 (R191). -/
def deskews (counts : List Nat) : Bool := counts.all (fun c => (c + 16 - counts.headD 0 % 16) % 16 ≠ 8)

/-! ### The scrambler (R180) -/

/-- 32 payload bits of the self-synchronising scrambler 1 + x^39 + x^58: the last 58 scrambled bits, the oldest lowest, and the bits, the
first lowest. It answers the scrambled bits and the last 58 then. -/
def scramble32 (st d : Nat) : Nat × Nat :=
  let x := (d ^^^ (st / 2 ^ 19) ^^^ st) % 2 ^ 32
  (x, (st + x * 2 ^ 58) / 2 ^ 32)

/-- A payload scrambled. -/
def scramble (st d : Nat) : Nat × Nat :=
  let a := scramble32 st (d % 2 ^ 32)
  let b := scramble32 a.2 (d / 2 ^ 32)
  (a.1 + b.1 * 2 ^ 32, b.2)

/-- The blocks of one moment, one a lane: sync bits are never scrambled, and payloads only in data mode. -/
def scrambleSlot (on : Bool) (sts : List Nat) (slot : List LinkBlock) : List (Nat × Nat) × List Nat :=
  let one := fun (e : LinkBlock × Nat) =>
    let b := e.1.bits
    let st := sts.getD e.2 0
    if on then ((b.1, (scramble st b.2).1), (scramble st b.2).2) else (b, st)
  ((slot.zipIdx.map one).map (·.1), (slot.zipIdx.map one).map (·.2))

/-- Moments one after the other. -/
def scrambleAll (on : Bool) : List Nat → List (List LinkBlock) → List (List (Nat × Nat)) × List Nat
  | sts, [] => ([], sts)
  | sts, x :: xs =>
    let a := scrambleSlot on sts x
    let b := scrambleAll on a.2 xs
    (a.1 :: b.1, b.2)

/-! ### Packets (R200, R201) -/

/-- The CRC of a packet: over bytes 2 and 3 of SOP, then the DATA blocks (R201). -/
def packetCrc (ptype : Nat) (blocks : List Nat) : Nat :=
  let v := ptype + 16 * blocks.length
  crc32 (v % 256 :: v / 256 % 256 :: blocks.flatMap (fun b => (List.range 8).map (fun i => b / 256 ^ i % 256)))

/-- A packet: SOP, its DATA blocks, EOP. -/
def packet (ptype : Nat) (blocks : List Nat) : List LinkBlock :=
  .sop ptype blocks.length :: blocks.map .data ++ [.eop (packetCrc ptype blocks)]

/-- What a receiver makes of a packet. -/
inductive PacketFate where
  | good | malformed | badType | badCrc
  deriving DecidableEq, Repr

/-- The rest of a packet whose SOP said `ptype` and `len`; `got` are its DATA blocks so far, the newest first. -/
def readBody (types : List Nat) (ptype len : Nat) : List Nat → List LinkBlock → PacketFate
  | _, [] => .malformed
  | got, .data w :: bs => readBody types ptype len (w :: got) bs
  | got, .skip :: bs => readBody types ptype len got bs
  | got, .beacon _ :: bs => readBody types ptype len got bs
  | got, .ttReq _ :: bs => readBody types ptype len got bs
  | got, .ttRsp _ :: bs => readBody types ptype len got bs
  | got, .flush _ :: bs => readBody types ptype len got bs
  | got, .eop crc :: _ =>
    if got.length ≠ len || len = 0 then .malformed
    else if !types.contains ptype then .badType
    else if crc ≠ packetCrc ptype got.reverse then .badCrc
    else .good
  | _, _ :: _ => .malformed

/-- The fate of a packet, from its SOP on; `types` are the PTYPEs in use. -/
def readPacket (types : List Nat) : List LinkBlock → PacketFate
  | .sop ptype len :: bs => readBody types ptype len [] bs
  | _ => .malformed

/-- The block errors among blocks. -/
def badBlocks (peer : Bool) (bs : List (Nat × Nat)) : Nat := (bs.filter (fun b => readBlock peer b = .bad)).length

/-- Whether 16 block errors fall in any 64 consecutive blocks (R220). -/
def errorBurst (peer : Bool) : List (Nat × Nat) → Bool
  | [] => false
  | b :: bs => 16 ≤ badBlocks peer ((b :: bs).take 64) || errorBurst peer bs

/-! ### Lanes and the schedule (R183, R184) -/

/-- Link blocks onto `w` lanes: block k on lane k mod w; IDLE fills the last moment. -/
def stripe (w : Nat) : Nat → List LinkBlock → List (List LinkBlock)
  | 0, _ => []
  | _, [] => []
  | fuel + 1, bs => (bs.take w ++ List.replicate (w - bs.length) .idle) :: stripe w fuel (bs.drop w)

/-- What a counter value is reserved for: SKIP at 0 and 1 modulo 2,048, and on a downlink BEACON at 512 modulo 1,024. -/
def scheduled (beacons : Bool) (c : Nat) (time : Nat) : Option LinkBlock :=
  if c % 2048 < 2 then some .skip else if beacons && c % 1024 = 512 then some (.beacon time) else none

/-- The moments of a run of blocks from counter value `c` on, SKIP and BEACON put in where they fall due, on every lane; `time` is the
Meridian time of a counter value. What falls due right after the run is sent too, up to counter value `goal`. -/
def interleave (w : Nat) (beacons : Bool) (time : Nat → Nat) (goal : Nat) : Nat → Nat → List (List LinkBlock) → List (List LinkBlock)
  | 0, _, _ => []
  | fuel + 1, c, xs =>
    match scheduled beacons c (time c), xs with
    | some b, xs => if xs = [] && goal ≤ c then [] else List.replicate w b :: interleave w beacons time goal fuel (c + 1) xs
    | none, [] => []
    | none, x :: xs => x :: interleave w beacons time goal fuel (c + 1) xs

/-- The next counter value from `n` on that is `r` modulo `m`. -/
def nextCount (n m r : Nat) : Nat := n + (r + m - n % m) % m

end Sys2Proof.Machine
end

