-- ==== Sys2Proof/Machine/RegTypes.lean ====
section
/-! DEFINITION. What a register table says of a register: access types (R7), fields, rows, and the names by which the
meanings reach a field. -/

namespace Sys2Proof.Machine

/-- The access types of the table "Register access types" (R7). -/
inductive Access where
  | ro | rw | wo | w1c | w1s | rc | rwl
  deriving DecidableEq, Repr

/-- One field of a register: its low bit, its width, its access type and its reset value. -/
structure FieldRow where
  lo    : Nat
  width : Nat
  acc   : Access
  rst   : Nat
  deriving DecidableEq, Repr

/-- One register: its name, the BAR0 address of its first element, the arrays it repeats in (count and stride,
outermost first), whether it is a _LO and _HI pair, and its fields. -/
structure RegRow where
  name   : String
  base   : Nat
  dims   : List (Nat × Nat)
  pair   : Bool
  fields : List FieldRow
  deriving DecidableEq, Repr

/-- A field of one register, by its BAR0 address; `ev` for a field of access type W1C or RC, in which the hardware sets events
(R8). -/
structure Fld where
  addr  : Nat
  lo    : Nat
  width : Nat
  ev    : Bool := false
  deriving DecidableEq, Repr

/-- A 64-bit pair, by the BAR0 address of its _LO register; the _HI register lies 4 bytes above (R13). -/
structure Pair where
  addr : Nat
  deriving DecidableEq, Repr

end Sys2Proof.Machine
end

