-- ==== Sys2Proof/Machine/Reg.lean ====
section
/-! DEFINITION. The names of the registers' fields, as the register tables of spec/ give them: `Reg.R.F` is field F of
register R (of its array element or instance, where the register repeats), `Reg.R.AT` the register's BAR0 address,
and `Reg.R.PAIR` the _LO address of a 64-bit pair (R13). -/

namespace Sys2Proof.Machine

def Reg.DEV_DBG_CTRL.AT : Nat := 0xff00
def Reg.DEV_DBG_CTRL.WR_EN : Fld := ⟨0xff00, 1, 1, false⟩
def Reg.DEV_DBG_CTRL.EN : Fld := ⟨0xff00, 0, 1, false⟩
def Reg.DEV_DBG_BASE.AT : Nat := 0xff04
def Reg.DEV_DBG_BASE.BASE : Fld := ⟨0xff04, 0, 14, false⟩
def Reg.DEV_DBG_STS.AT : Nat := 0xff08
def Reg.DEV_DBG_STS.UNMAPPED : Fld := ⟨0xff08, 2, 1, true⟩
def Reg.DEV_DBG_STS.UNCORR : Fld := ⟨0xff08, 1, 1, true⟩
def Reg.DEV_DBG_STS.BLOCKED : Fld := ⟨0xff08, 0, 1, true⟩
def Reg.MER_CTRL.AT : Nat := 0x30000
def Reg.MER_CTRL.ROLE : Fld := ⟨0x30000, 1, 2, false⟩
def Reg.MER_CTRL.LOCK : Fld := ⟨0x30000, 0, 1, false⟩
def Reg.MER_TIME.AT : Nat := 0x30008
def Reg.MER_TIME.PAIR : Pair := ⟨0x30008⟩
def Reg.MER_RATE.AT : Nat := 0x30010
def Reg.MER_RATE.ADJ : Fld := ⟨0x30010, 0, 32, false⟩
def Reg.MER_SET.AT : Nat := 0x30018
def Reg.MER_SET.PAIR : Pair := ⟨0x30018⟩
def Reg.MER_STN_CFG.AT : Nat := 0x30020
def Reg.MER_STN_CFG.HOLD_PPB : Fld := ⟨0x30020, 24, 8, false⟩
def Reg.MER_STN_CFG.HOLD_LIM : Fld := ⟨0x30020, 16, 8, false⟩
def Reg.MER_STN_CFG.TX_MASK : Fld := ⟨0x30020, 8, 8, false⟩
def Reg.MER_STN_CFG.UPLINK : Fld := ⟨0x30020, 0, 3, false⟩
def Reg.MER_STN_STS.AT : Nat := 0x30024
def Reg.MER_STN_STS.OFFSET : Fld := ⟨0x30024, 16, 16, false⟩
def Reg.MER_STN_STS.HOLD_LIM_EXC : Fld := ⟨0x30024, 3, 1, true⟩
def Reg.MER_STN_STS.LOCK_LOST : Fld := ⟨0x30024, 2, 1, true⟩
def Reg.MER_STN_STS.HOLD : Fld := ⟨0x30024, 1, 1, false⟩
def Reg.MER_STN_STS.LOCKED : Fld := ⟨0x30024, 0, 1, false⟩
def Reg.MER_STN_DELAY.AT : Nat := 0x30028
def Reg.MER_STN_DELAY.DELAY : Fld := ⟨0x30028, 0, 32, false⟩
def Reg.MER_PTM_CTRL.AT : Nat := 0x30030
def Reg.MER_PTM_CTRL.SEQ : Fld := ⟨0x30030, 16, 16, false⟩
def Reg.MER_PTM_CTRL.FAIL : Fld := ⟨0x30030, 9, 1, true⟩
def Reg.MER_PTM_CTRL.VALID : Fld := ⟨0x30030, 8, 1, false⟩
def Reg.MER_PTM_CTRL.PERIOD : Fld := ⟨0x30030, 4, 4, false⟩
def Reg.MER_PTM_CTRL.PORT : Fld := ⟨0x30030, 1, 1, false⟩
def Reg.MER_PTM_CTRL.EN : Fld := ⟨0x30030, 0, 1, false⟩
def Reg.MER_PTM_ROOT.AT : Nat := 0x30038
def Reg.MER_PTM_ROOT.PAIR : Pair := ⟨0x30038⟩
def Reg.MER_PTM_MT.AT : Nat := 0x30040
def Reg.MER_PTM_MT.PAIR : Pair := ⟨0x30040⟩
def Reg.TRK_CTRL.AT : Nat := 0x40000
def Reg.TRK_CTRL.SELFTEST : Fld := ⟨0x40000, 1, 3, false⟩
def Reg.TRK_CTRL.LOCK : Fld := ⟨0x40000, 0, 1, false⟩
def Reg.TRK_CFG.AT : Nat := 0x40004
def Reg.TRK_CFG.RPT_LOG : Fld := ⟨0x40004, 16, 5, false⟩
def Reg.TRK_CFG.KV : Fld := ⟨0x40004, 12, 4, false⟩
def Reg.TRK_CFG.KP : Fld := ⟨0x40004, 8, 4, false⟩
def Reg.TRK_CFG.LEAD : Fld := ⟨0x40004, 0, 7, false⟩
def Reg.TRK_TICK_MIN.AT : Nat := 0x40008
def Reg.TRK_TICK_MIN.TICK_MIN : Fld := ⟨0x40008, 0, 24, false⟩
def Reg.TRK_CRAWL.AT : Nat := 0x4000c
def Reg.TRK_CRAWL.CRAWL_TICK : Fld := ⟨0x4000c, 0, 32, false⟩
def Reg.TRK_REF.AT : Nat := 0x40010
def Reg.TRK_REF.REF_ROW : Fld := ⟨0x40010, 0, 11, false⟩
def Reg.TRK_STS.AT : Nat := 0x40014
def Reg.TRK_STS.NO_MAJ : Fld := ⟨0x40014, 13, 1, true⟩
def Reg.TRK_STS.CFG_ERR : Fld := ⟨0x40014, 12, 1, true⟩
def Reg.TRK_STS.REVERSE : Fld := ⟨0x40014, 11, 1, false⟩
def Reg.TRK_STS.CRAWL : Fld := ⟨0x40014, 10, 1, false⟩
def Reg.TRK_STS.DUAL : Fld := ⟨0x40014, 9, 1, false⟩
def Reg.TRK_STS.FAILED : Fld := ⟨0x40014, 6, 3, false⟩
def Reg.TRK_STS.TESTING : Fld := ⟨0x40014, 3, 3, false⟩
def Reg.TRK_STS.IN : Fld := ⟨0x40014, 0, 3, false⟩
def Reg.TRK_OUTVOTES.AT : Nat := 0x40018
def Reg.TRK_OUTVOTES.T2 : Fld := ⟨0x40018, 16, 8, true⟩
def Reg.TRK_OUTVOTES.T1 : Fld := ⟨0x40018, 8, 8, true⟩
def Reg.TRK_OUTVOTES.T0 : Fld := ⟨0x40018, 0, 8, true⟩
def Reg.TRK_TICK.AT : Nat := 0x4001c
def Reg.TRK_TICK.TICK : Fld := ⟨0x4001c, 0, 32, false⟩
def Reg.TRK_POS.AT : Nat := 0x40020
def Reg.TRK_POS.PAIR : Pair := ⟨0x40020⟩
def Reg.TRK_VEL.AT : Nat := 0x40028
def Reg.TRK_VEL.PAIR : Pair := ⟨0x40028⟩
def Reg.TRK_HWM.AT : Nat := 0x40030
def Reg.TRK_HWM.PAIR : Pair := ⟨0x40030⟩
def Reg.TRK_ORIGIN.AT : Nat := 0x40038
def Reg.TRK_ORIGIN.PAIR : Pair := ⟨0x40038⟩
def Reg.TRK_REFLINE.AT : Nat := 0x40040
def Reg.TRK_REFLINE.PAIR : Pair := ⟨0x40040⟩
def Reg.TRK_LATE.AT : Nat := 0x40048
def Reg.TRK_LATE.PAIR : Pair := ⟨0x40048⟩
def Reg.TRK_SUPP.AT : Nat := 0x40050
def Reg.TRK_SUPP.PAIR : Pair := ⟨0x40050⟩
def Reg.TRK_BUPD_CTRL.AT : Nat := 0x40100
def Reg.TRK_BUPD_CTRL.QLEN : Fld := ⟨0x40100, 12, 3, false⟩
def Reg.TRK_BUPD_CTRL.RESULT : Fld := ⟨0x40100, 10, 2, false⟩
def Reg.TRK_BUPD_CTRL.PEND : Fld := ⟨0x40100, 9, 1, false⟩
def Reg.TRK_BUPD_CTRL.COMMIT : Fld := ⟨0x40100, 8, 1, false⟩
def Reg.TRK_BUPD_CTRL.BAR : Fld := ⟨0x40100, 0, 4, false⟩
def Reg.TRK_BUPD_LINE.AT : Nat := 0x40104
def Reg.TRK_BUPD_LINE.PAIR : Pair := ⟨0x40104⟩
def Reg.TRK_BUPD_S.AT : Nat := 0x4010c
def Reg.TRK_BUPD_S.S : Fld := ⟨0x4010c, 0, 32, false⟩
def Reg.TRK_BUPD_B.AT : Nat := 0x40110
def Reg.TRK_BUPD_B.B : Fld := ⟨0x40110, 0, 32, false⟩
def Reg.TRK_BAR_S.AT (i : Nat) : Nat := 0x40200 + 0x10 * i
def Reg.TRK_BAR_S.VAL (i : Nat) : Fld := ⟨0x40200 + 0x10 * i, 0, 32, false⟩
def Reg.TRK_BAR_B.AT (i : Nat) : Nat := 0x40204 + 0x10 * i
def Reg.TRK_BAR_B.VAL (i : Nat) : Fld := ⟨0x40204 + 0x10 * i, 0, 32, false⟩
def Reg.TRK_BAR_ALINE.AT (i : Nat) : Nat := 0x40208 + 0x10 * i
def Reg.TRK_BAR_ALINE.PAIR (i : Nat) : Pair := ⟨0x40208 + 0x10 * i⟩
def Reg.TRK_ROW_POS.AT (i : Nat) : Nat := 0x44000 + 0x20 * i
def Reg.TRK_ROW_POS.PAIR (i : Nat) : Pair := ⟨0x44000 + 0x20 * i⟩
def Reg.TRK_ROW_PITCH.AT (i : Nat) : Nat := 0x44008 + 0x20 * i
def Reg.TRK_ROW_PITCH.PAIR (i : Nat) : Pair := ⟨0x44008 + 0x20 * i⟩
def Reg.TRK_ROW_TOFS.AT (i : Nat) : Nat := 0x44010 + 0x20 * i
def Reg.TRK_ROW_TOFS.VAL (i : Nat) : Fld := ⟨0x44010 + 0x20 * i, 0, 32, false⟩
def Reg.TRK_ROW_CFG.AT (i : Nat) : Nat := 0x44014 + 0x20 * i
def Reg.TRK_ROW_CFG.BAR (i : Nat) : Fld := ⟨0x44014 + 0x20 * i, 4, 4, false⟩
def Reg.TRK_ROW_CFG.EN (i : Nat) : Fld := ⟨0x44014 + 0x20 * i, 0, 1, false⟩
def Reg.TRK_ROW_NEXT.AT (i : Nat) : Nat := 0x44018 + 0x20 * i
def Reg.TRK_ROW_NEXT.PAIR (i : Nat) : Pair := ⟨0x44018 + 0x20 * i⟩
def Reg.ENC_CTRL.AT : Nat := 0x50000
def Reg.ENC_CTRL.FILT : Fld := ⟨0x50000, 8, 8, false⟩
def Reg.ENC_CTRL.ARM : Fld := ⟨0x50000, 7, 1, false⟩
def Reg.ENC_CTRL.IDX_MODE : Fld := ⟨0x50000, 5, 2, false⟩
def Reg.ENC_CTRL.INV : Fld := ⟨0x50000, 4, 1, false⟩
def Reg.ENC_CTRL.CHK_ACT : Fld := ⟨0x50000, 3, 1, false⟩
def Reg.ENC_CTRL.CHK_EN : Fld := ⟨0x50000, 2, 1, false⟩
def Reg.ENC_CTRL.SRC : Fld := ⟨0x50000, 1, 1, false⟩
def Reg.ENC_CTRL.LOCK : Fld := ⟨0x50000, 0, 1, false⟩
def Reg.ENC_IDX_VAL.AT : Nat := 0x50004
def Reg.ENC_IDX_VAL.VAL : Fld := ⟨0x50004, 0, 32, false⟩
def Reg.ENC_COUNT.AT : Nat := 0x50008
def Reg.ENC_COUNT.PAIR : Pair := ⟨0x50008⟩
def Reg.ENC_STS.AT : Nat := 0x50010
def Reg.ENC_STS.CFG_ERR : Fld := ⟨0x50010, 9, 1, true⟩
def Reg.ENC_STS.STALE : Fld := ⟨0x50010, 6, 3, true⟩
def Reg.ENC_STS.CHK_MISMATCH : Fld := ⟨0x50010, 5, 1, true⟩
def Reg.ENC_STS.QERR_BURST : Fld := ⟨0x50010, 4, 1, true⟩
def Reg.ENC_STS.QERR : Fld := ⟨0x50010, 3, 1, true⟩
def Reg.ENC_STS.IDX : Fld := ⟨0x50010, 2, 1, true⟩
def Reg.ENC_STS.DIR_CHG : Fld := ⟨0x50010, 1, 1, true⟩
def Reg.ENC_STS.DIR : Fld := ⟨0x50010, 0, 1, false⟩
def Reg.ENC_QERR_CNT.AT : Nat := 0x50014
def Reg.ENC_QERR_CNT.CNT : Fld := ⟨0x50014, 0, 32, true⟩
def Reg.ENC_IDX_JUMP.AT : Nat := 0x50018
def Reg.ENC_IDX_JUMP.JUMP : Fld := ⟨0x50018, 0, 32, false⟩
def Reg.ENC_CHK_RATIO.AT : Nat := 0x5001c
def Reg.ENC_CHK_RATIO.RATIO : Fld := ⟨0x5001c, 0, 32, false⟩
def Reg.ENC_CHK_TOL.AT : Nat := 0x50020
def Reg.ENC_CHK_TOL.TOL : Fld := ⟨0x50020, 0, 16, false⟩
def Reg.ENCOUT_CFG.AT : Nat := 0x50024
def Reg.ENCOUT_CFG.PENDING : Fld := ⟨0x50024, 3, 1, false⟩
def Reg.ENCOUT_CFG.IDX_PASS : Fld := ⟨0x50024, 2, 1, false⟩
def Reg.ENCOUT_CFG.APPLY : Fld := ⟨0x50024, 1, 1, false⟩
def Reg.ENCOUT_CFG.EN : Fld := ⟨0x50024, 0, 1, false⟩
def Reg.ENCOUT_N.AT : Nat := 0x50028
def Reg.ENCOUT_N.N : Fld := ⟨0x50028, 0, 32, false⟩
def Reg.ENCOUT_M.AT : Nat := 0x5002c
def Reg.ENCOUT_M.M : Fld := ⟨0x5002c, 0, 32, false⟩
def Reg.JOB_CTRL.AT : Nat := 0x60000
def Reg.JOB_CTRL.LOCK : Fld := ⟨0x60000, 0, 1, false⟩
def Reg.JOB_PAGE_BASE.AT : Nat := 0x60008
def Reg.JOB_PAGE_BASE.PAIR : Pair := ⟨0x60008⟩
def Reg.JOB_PAGE_SIZE.AT : Nat := 0x60010
def Reg.JOB_PAGE_SIZE.PAIR : Pair := ⟨0x60010⟩
def Reg.JOB_RPL_GUARD.AT : Nat := 0x60018
def Reg.JOB_RPL_GUARD.GUARD : Fld := ⟨0x60018, 0, 16, false⟩
def Reg.JOB_STS.AT : Nat := 0x60020
def Reg.JOB_STS.CUR_ID : Fld := ⟨0x60020, 16, 16, false⟩
def Reg.JOB_STS.CFG_ERR : Fld := ⟨0x60020, 5, 1, true⟩
def Reg.JOB_STS.STRETCH : Fld := ⟨0x60020, 4, 1, true⟩
def Reg.JOB_STS.HELD : Fld := ⟨0x60020, 3, 1, false⟩
def Reg.JOB_STS.SHADOW_BUSY : Fld := ⟨0x60020, 2, 1, false⟩
def Reg.JOB_STS.CHAINS : Fld := ⟨0x60020, 0, 2, false⟩
def Reg.JOB_WIN_REQ.AT : Nat := 0x60028
def Reg.JOB_WIN_REQ.PAIR : Pair := ⟨0x60028⟩
def Reg.JOB_WIN_LINES.AT : Nat := 0x60030
def Reg.JOB_WIN_LINES.LINES : Fld := ⟨0x60030, 0, 32, false⟩
def Reg.JOB_BAND_MISS.AT : Nat := 0x60034
def Reg.JOB_BAND_MISS.CNT : Fld := ⟨0x60034, 0, 32, true⟩
def Reg.JOB_ZBASE.AT : Nat := 0x60040
def Reg.JOB_ZBASE.PAIR : Pair := ⟨0x60040⟩
def Reg.FAB_CTRL.AT : Nat := 0x70000
def Reg.FAB_CTRL.AUTO_MOVE : Fld := ⟨0x70000, 3, 1, false⟩
def Reg.FAB_CTRL.SPOT_EN : Fld := ⟨0x70000, 2, 1, false⟩
def Reg.FAB_CTRL.COMMIT : Fld := ⟨0x70000, 1, 1, false⟩
def Reg.FAB_CTRL.LOCK : Fld := ⟨0x70000, 0, 1, false⟩
def Reg.FAB_STS.AT : Nat := 0x70004
def Reg.FAB_STS.NB_MAX : Fld := ⟨0x70004, 24, 8, false⟩
def Reg.FAB_STS.OUT_CNT : Fld := ⟨0x70004, 17, 7, false⟩
def Reg.FAB_STS.LEAD_SHORT : Fld := ⟨0x70004, 6, 1, true⟩
def Reg.FAB_STS.MOVE_BUSY : Fld := ⟨0x70004, 5, 1, false⟩
def Reg.FAB_STS.CFG_ERR : Fld := ⟨0x70004, 4, 1, true⟩
def Reg.FAB_STS.MAP_RESULT : Fld := ⟨0x70004, 1, 3, false⟩
def Reg.FAB_STS.MAP_VALID : Fld := ⟨0x70004, 0, 1, false⟩
def Reg.FAB_CEIL.AT : Nat := 0x70008
def Reg.FAB_CEIL.LINE_CEIL : Fld := ⟨0x70008, 0, 18, false⟩
def Reg.FAB_SPARE.AT : Nat := 0x7000c
def Reg.FAB_SPARE.EN : Fld := ⟨0x7000c, 6, 1, false⟩
def Reg.FAB_SPARE.ENG : Fld := ⟨0x7000c, 0, 6, false⟩
def Reg.FAB_OUT.AT : Nat := 0x70010
def Reg.FAB_OUT.PAIR : Pair := ⟨0x70010⟩
def Reg.FAB_MOVE_CTRL.AT : Nat := 0x70020
def Reg.FAB_MOVE_CTRL.RESULT : Fld := ⟨0x70020, 14, 2, false⟩
def Reg.FAB_MOVE_CTRL.COMMIT : Fld := ⟨0x70020, 13, 1, false⟩
def Reg.FAB_MOVE_CTRL.DST : Fld := ⟨0x70020, 6, 6, false⟩
def Reg.FAB_MOVE_CTRL.SRC : Fld := ⟨0x70020, 0, 6, false⟩
def Reg.FAB_XUPD_CTRL.AT : Nat := 0x70100
def Reg.FAB_XUPD_CTRL.QLEN : Fld := ⟨0x70100, 12, 3, false⟩
def Reg.FAB_XUPD_CTRL.RESULT : Fld := ⟨0x70100, 10, 2, false⟩
def Reg.FAB_XUPD_CTRL.PEND : Fld := ⟨0x70100, 9, 1, false⟩
def Reg.FAB_XUPD_CTRL.COMMIT : Fld := ⟨0x70100, 8, 1, false⟩
def Reg.FAB_XUPD_CTRL.BAR : Fld := ⟨0x70100, 0, 4, false⟩
def Reg.FAB_XUPD_LINE.AT : Nat := 0x70104
def Reg.FAB_XUPD_LINE.PAIR : Pair := ⟨0x70104⟩
def Reg.FAB_XUPD_SX.AT : Nat := 0x7010c
def Reg.FAB_XUPD_SX.SX : Fld := ⟨0x7010c, 0, 32, false⟩
def Reg.FAB_XUPD_BX.AT : Nat := 0x70110
def Reg.FAB_XUPD_BX.BX : Fld := ⟨0x70110, 0, 32, false⟩
def Reg.FAB_TUPD_CTRL.AT : Nat := 0x70120
def Reg.FAB_TUPD_CTRL.PEND : Fld := ⟨0x70120, 11, 1, false⟩
def Reg.FAB_TUPD_CTRL.RESULT : Fld := ⟨0x70120, 9, 2, false⟩
def Reg.FAB_TUPD_CTRL.COMMIT : Fld := ⟨0x70120, 8, 1, false⟩
def Reg.FAB_TUPD_CTRL.PORT : Fld := ⟨0x70120, 0, 7, false⟩
def Reg.FAB_TUPD_LINE.AT : Nat := 0x70124
def Reg.FAB_TUPD_LINE.PAIR : Pair := ⟨0x70124⟩
def Reg.FAB_TUPD_TEMP.AT : Nat := 0x7012c
def Reg.FAB_TUPD_TEMP.TEMP : Fld := ⟨0x7012c, 0, 16, false⟩
def Reg.FAB_BAR_SX.AT (i : Nat) : Nat := 0x70200 + 0x10 * i
def Reg.FAB_BAR_SX.VAL (i : Nat) : Fld := ⟨0x70200 + 0x10 * i, 0, 32, false⟩
def Reg.FAB_BAR_BX.AT (i : Nat) : Nat := 0x70204 + 0x10 * i
def Reg.FAB_BAR_BX.VAL (i : Nat) : Fld := ⟨0x70204 + 0x10 * i, 0, 32, false⟩
def Reg.FAB_TTEMP.AT (i : Nat) : Nat := 0x70400 + 0x4 * i
def Reg.FAB_TTEMP.TEMP (i : Nat) : Fld := ⟨0x70400 + 0x4 * i, 0, 16, false⟩
def Reg.FAB_MAP_STG.AT (i : Nat) : Nat := 0x71000 + 0x4 * i
def Reg.FAB_MAP_STG.ASSIGNED3 (i : Nat) : Fld := ⟨0x71000 + 0x4 * i, 31, 1, false⟩
def Reg.FAB_MAP_STG.ENGINE3 (i : Nat) : Fld := ⟨0x71000 + 0x4 * i, 24, 6, false⟩
def Reg.FAB_MAP_STG.ASSIGNED2 (i : Nat) : Fld := ⟨0x71000 + 0x4 * i, 23, 1, false⟩
def Reg.FAB_MAP_STG.ENGINE2 (i : Nat) : Fld := ⟨0x71000 + 0x4 * i, 16, 6, false⟩
def Reg.FAB_MAP_STG.ASSIGNED1 (i : Nat) : Fld := ⟨0x71000 + 0x4 * i, 15, 1, false⟩
def Reg.FAB_MAP_STG.ENGINE1 (i : Nat) : Fld := ⟨0x71000 + 0x4 * i, 8, 6, false⟩
def Reg.FAB_MAP_STG.ASSIGNED0 (i : Nat) : Fld := ⟨0x71000 + 0x4 * i, 7, 1, false⟩
def Reg.FAB_MAP_STG.ENGINE0 (i : Nat) : Fld := ⟨0x71000 + 0x4 * i, 0, 6, false⟩
def Reg.FAB_MAP.AT (i : Nat) : Nat := 0x73000 + 0x4 * i
def Reg.FAB_MAP.ASSIGNED3 (i : Nat) : Fld := ⟨0x73000 + 0x4 * i, 31, 1, false⟩
def Reg.FAB_MAP.ENGINE3 (i : Nat) : Fld := ⟨0x73000 + 0x4 * i, 24, 6, false⟩
def Reg.FAB_MAP.ASSIGNED2 (i : Nat) : Fld := ⟨0x73000 + 0x4 * i, 23, 1, false⟩
def Reg.FAB_MAP.ENGINE2 (i : Nat) : Fld := ⟨0x73000 + 0x4 * i, 16, 6, false⟩
def Reg.FAB_MAP.ASSIGNED1 (i : Nat) : Fld := ⟨0x73000 + 0x4 * i, 15, 1, false⟩
def Reg.FAB_MAP.ENGINE1 (i : Nat) : Fld := ⟨0x73000 + 0x4 * i, 8, 6, false⟩
def Reg.FAB_MAP.ASSIGNED0 (i : Nat) : Fld := ⟨0x73000 + 0x4 * i, 7, 1, false⟩
def Reg.FAB_MAP.ENGINE0 (i : Nat) : Fld := ⟨0x73000 + 0x4 * i, 0, 6, false⟩
def Reg.SE_CTRL.AT (i : Nat) : Nat := 0x200000 + 0x4000 * i
def Reg.SE_CTRL.SELFTEST (i : Nat) : Fld := ⟨0x200000 + 0x4000 * i, 0, 1, false⟩
def Reg.SE_STS.AT (i : Nat) : Nat := 0x200004 + 0x4000 * i
def Reg.SE_STS.NB_CNT (i : Nat) : Fld := ⟨0x200004 + 0x4000 * i, 24, 8, false⟩
def Reg.SE_STS.ROWS (i : Nat) : Fld := ⟨0x200004 + 0x4000 * i, 16, 8, false⟩
def Reg.SE_STS.SHADOW (i : Nat) : Fld := ⟨0x200004 + 0x4000 * i, 6, 2, false⟩
def Reg.SE_STS.BANK (i : Nat) : Fld := ⟨0x200004 + 0x4000 * i, 5, 1, false⟩
def Reg.SE_STS.SUSPECT (i : Nat) : Fld := ⟨0x200004 + 0x4000 * i, 4, 1, false⟩
def Reg.SE_STS.STATE (i : Nat) : Fld := ⟨0x200004 + 0x4000 * i, 0, 4, false⟩
def Reg.SE_LOAD.AT (i : Nat) : Nat := 0x200008 + 0x4000 * i
def Reg.SE_LOAD.PEAK (i : Nat) : Fld := ⟨0x200008 + 0x4000 * i, 16, 16, true⟩
def Reg.SE_LOAD.LOAD (i : Nat) : Fld := ⟨0x200008 + 0x4000 * i, 0, 16, false⟩
def Reg.SE_LATE.AT (i : Nat) : Nat := 0x20000c + 0x4000 * i
def Reg.SE_LATE.CNT (i : Nat) : Fld := ⟨0x20000c + 0x4000 * i, 0, 32, true⟩
def Reg.SE_TILE_LATE.AT (i : Nat) : Nat := 0x200010 + 0x4000 * i
def Reg.SE_TILE_LATE.CNT (i : Nat) : Fld := ⟨0x200010 + 0x4000 * i, 0, 32, true⟩
def Reg.SE_SPOT.AT (i : Nat) : Nat := 0x200014 + 0x4000 * i
def Reg.SE_SPOT.SKIP (i : Nat) : Fld := ⟨0x200014 + 0x4000 * i, 16, 16, true⟩
def Reg.SE_SPOT.DONE (i : Nat) : Fld := ⟨0x200014 + 0x4000 * i, 0, 16, true⟩
def Reg.SE_SPOT_MISS.AT (i : Nat) : Nat := 0x200018 + 0x4000 * i
def Reg.SE_SPOT_MISS.MISS (i : Nat) : Fld := ⟨0x200018 + 0x4000 * i, 0, 32, true⟩
def Reg.SE_SELFTEST.AT (i : Nat) : Nat := 0x20001c + 0x4000 * i
def Reg.SE_SELFTEST.CAUSE (i : Nat) : Fld := ⟨0x20001c + 0x4000 * i, 4, 4, false⟩
def Reg.SE_SELFTEST.RESULT (i : Nat) : Fld := ⟨0x20001c + 0x4000 * i, 2, 2, false⟩
def Reg.SE_SELFTEST.RUNNING (i : Nat) : Fld := ⟨0x20001c + 0x4000 * i, 1, 1, false⟩
def Reg.SE_CHECKER.AT (i : Nat) : Nat := 0x200020 + 0x4000 * i
def Reg.SE_CHECKER.CHECKS (i : Nat) : Fld := ⟨0x200020 + 0x4000 * i, 8, 6, false⟩
def Reg.SE_CHECKER.CHECKED_BY (i : Nat) : Fld := ⟨0x200020 + 0x4000 * i, 0, 6, false⟩
def Reg.SMP_CTRL.AT : Nat := 0x80000
def Reg.SMP_CTRL.CLASSIFY_EN : Fld := ⟨0x80000, 3, 1, false⟩
def Reg.SMP_CTRL.INSP_EN : Fld := ⟨0x80000, 2, 1, false⟩
def Reg.SMP_CTRL.AUTO_EN : Fld := ⟨0x80000, 1, 1, false⟩
def Reg.SMP_CTRL.LOCK : Fld := ⟨0x80000, 0, 1, false⟩
def Reg.SMP_STS.AT : Nat := 0x80004
def Reg.SMP_STS.DIVERGE : Fld := ⟨0x80004, 5, 1, true⟩
def Reg.SMP_STS.LATE : Fld := ⟨0x80004, 4, 1, true⟩
def Reg.SMP_STS.Q_FULL : Fld := ⟨0x80004, 3, 1, true⟩
def Reg.SMP_STS.CFG_ERR : Fld := ⟨0x80004, 2, 1, true⟩
def Reg.SMP_STS.XFER_BUSY : Fld := ⟨0x80004, 1, 1, false⟩
def Reg.SMP_STS.IMG_VALID : Fld := ⟨0x80004, 0, 1, false⟩
def Reg.SMP_IMG_BASE.AT : Nat := 0x80008
def Reg.SMP_IMG_BASE.PAIR : Pair := ⟨0x80008⟩
def Reg.SMP_XFER_HADDR.AT : Nat := 0x80010
def Reg.SMP_XFER_HADDR.PAIR : Pair := ⟨0x80010⟩
def Reg.SMP_XFER_CTRL.AT : Nat := 0x80018
def Reg.SMP_XFER_CTRL.BUSY : Fld := ⟨0x80018, 20, 1, false⟩
def Reg.SMP_XFER_CTRL.RESULT : Fld := ⟨0x80018, 18, 2, false⟩
def Reg.SMP_XFER_CTRL.GO : Fld := ⟨0x80018, 17, 1, false⟩
def Reg.SMP_XFER_CTRL.DIR : Fld := ⟨0x80018, 16, 1, false⟩
def Reg.SMP_XFER_CTRL.COUNT : Fld := ⟨0x80018, 8, 7, false⟩
def Reg.SMP_XFER_CTRL.FIRST_HP : Fld := ⟨0x80018, 0, 7, false⟩
def Reg.SMP_XFER_CRC.AT : Nat := 0x8001c
def Reg.SMP_XFER_CRC.CRC : Fld := ⟨0x8001c, 0, 32, false⟩
def Reg.SMP_XFER_BADGN.AT : Nat := 0x80020
def Reg.SMP_XFER_BADGN.BADGN : Fld := ⟨0x80020, 0, 22, false⟩
def Reg.SMP_MIN_AHEAD.AT : Nat := 0x80024
def Reg.SMP_MIN_AHEAD.LINES : Fld := ⟨0x80024, 0, 16, false⟩
def Reg.SMP_QLEN.AT : Nat := 0x80028
def Reg.SMP_QLEN.LEN : Fld := ⟨0x80028, 0, 17, false⟩
def Reg.SMP_HCFG.AT : Nat := 0x8002c
def Reg.SMP_HCFG.MIN_SAMP : Fld := ⟨0x8002c, 8, 8, false⟩
def Reg.SMP_HCFG.SHIFT : Fld := ⟨0x8002c, 0, 4, false⟩
def Reg.SMP_HTHR.AT : Nat := 0x80030
def Reg.SMP_HTHR.FREQ_DEV : Fld := ⟨0x80030, 24, 8, false⟩
def Reg.SMP_HTHR.AMP_WEAK : Fld := ⟨0x80030, 16, 8, false⟩
def Reg.SMP_HTHR.AIR_SUSP : Fld := ⟨0x80030, 8, 8, false⟩
def Reg.SMP_HTHR.NR_MISS : Fld := ⟨0x80030, 0, 8, false⟩
def Reg.SMP_ITHR.AT : Nat := 0x80034
def Reg.SMP_ITHR.XDEV_LIM : Fld := ⟨0x80034, 16, 8, false⟩
def Reg.SMP_ITHR.DENS_WEAK : Fld := ⟨0x80034, 8, 8, false⟩
def Reg.SMP_ITHR.MISS_LIM : Fld := ⟨0x80034, 0, 8, false⟩
def Reg.SMP_RAMPS.AT : Nat := 0x80038
def Reg.SMP_RAMPS.REC_RAMP : Fld := ⟨0x80038, 16, 16, false⟩
def Reg.SMP_RAMPS.DEG_RAMP : Fld := ⟨0x80038, 0, 16, false⟩
def Reg.SMP_RAMP_MISS.AT : Nat := 0x8003c
def Reg.SMP_RAMP_MISS.MISS_RAMP : Fld := ⟨0x8003c, 0, 16, false⟩
def Reg.SMP_LIM.AT : Nat := 0x80040
def Reg.SMP_LIM.TRIM_STEP : Fld := ⟨0x80040, 24, 8, false⟩
def Reg.SMP_LIM.XPOS_STEP : Fld := ⟨0x80040, 16, 8, false⟩
def Reg.SMP_LIM.DGAIN_STEP : Fld := ⟨0x80040, 0, 16, false⟩
def Reg.SMP_LIM2.AT : Nat := 0x80044
def Reg.SMP_LIM2.MEAN_BAND : Fld := ⟨0x80044, 16, 16, false⟩
def Reg.SMP_LIM2.MIN_RAMP : Fld := ⟨0x80044, 0, 16, false⟩
def Reg.SMP_SPARE_LOW.AT : Nat := 0x80048
def Reg.SMP_SPARE_LOW.MIN : Fld := ⟨0x80048, 0, 16, false⟩
def Reg.SMP_UPD_ACC.AT : Nat := 0x80050
def Reg.SMP_UPD_ACC.CNT : Fld := ⟨0x80050, 0, 32, true⟩
def Reg.SMP_UPD_REF.AT : Nat := 0x80054
def Reg.SMP_UPD_REF.CNT : Fld := ⟨0x80054, 0, 32, true⟩
def Reg.SMP_AUTO_HELD.AT : Nat := 0x80058
def Reg.SMP_AUTO_HELD.CNT : Fld := ⟨0x80058, 0, 32, true⟩
def Reg.SMP_PEEK_GN.AT : Nat := 0x80060
def Reg.SMP_PEEK_GN.GN : Fld := ⟨0x80060, 0, 22, false⟩
def Reg.SMP_PEEK_DATA.AT (i : Nat) : Nat := 0x80064 + 0x4 * i
def Reg.SMP_PEEK_DATA.WORD (i : Nat) : Fld := ⟨0x80064 + 0x4 * i, 0, 32, false⟩
def Reg.SMP_STATE_CNT.AT (i : Nat) : Nat := 0x80100 + 0x4 * i
def Reg.SMP_STATE_CNT.CNT (i : Nat) : Fld := ⟨0x80100 + 0x4 * i, 0, 22, false⟩
def Reg.SMP_BAR_GAIN.AT (i : Nat) : Nat := 0x80140 + 0x4 * i
def Reg.SMP_BAR_GAIN.MEAN (i : Nat) : Fld := ⟨0x80140 + 0x4 * i, 0, 16, false⟩
def Reg.SMP_SETTLE.AT (i : Nat) : Nat := 0x80180 + 0x4 * i
def Reg.SMP_SETTLE.LINES (i : Nat) : Fld := ⟨0x80180 + 0x4 * i, 0, 16, false⟩
def Reg.SMP_PORT_STS.AT (i : Nat) : Nat := 0x80400 + 0x4 * i
def Reg.SMP_PORT_STS.UNCOVERED (i : Nat) : Fld := ⟨0x80400 + 0x4 * i, 16, 16, false⟩
def Reg.SMP_PORT_STS.SPARES (i : Nat) : Fld := ⟨0x80400 + 0x4 * i, 0, 16, false⟩
def Reg.HP_CTRL.AT (i : Nat) : Nat := 0x400000 + 0x1000 * i
def Reg.HP_CTRL.RX_TWI_EN (i : Nat) : Fld := ⟨0x400000 + 0x1000 * i, 8, 1, false⟩
def Reg.HP_CTRL.HEAD_TX_TWI (i : Nat) : Fld := ⟨0x400000 + 0x1000 * i, 7, 1, false⟩
def Reg.HP_CTRL.TX_TWI (i : Nat) : Fld := ⟨0x400000 + 0x1000 * i, 6, 1, false⟩
def Reg.HP_CTRL.FLUSH (i : Nat) : Fld := ⟨0x400000 + 0x1000 * i, 5, 1, false⟩
def Reg.HP_CTRL.CONTINUE (i : Nat) : Fld := ⟨0x400000 + 0x1000 * i, 4, 1, false⟩
def Reg.HP_CTRL.RETRAIN (i : Nat) : Fld := ⟨0x400000 + 0x1000 * i, 3, 1, false⟩
def Reg.HP_CTRL.MANUAL (i : Nat) : Fld := ⟨0x400000 + 0x1000 * i, 2, 1, false⟩
def Reg.HP_CTRL.EN (i : Nat) : Fld := ⟨0x400000 + 0x1000 * i, 1, 1, false⟩
def Reg.HP_CTRL.LOCK (i : Nat) : Fld := ⟨0x400000 + 0x1000 * i, 0, 1, false⟩
def Reg.HP_CFG.AT (i : Nat) : Nat := 0x400004 + 0x1000 * i
def Reg.HP_CFG.DOWN_ACT (i : Nat) : Fld := ⟨0x400004 + 0x1000 * i, 11, 1, false⟩
def Reg.HP_CFG.AUTO_RETRAIN (i : Nat) : Fld := ⟨0x400004 + 0x1000 * i, 10, 1, false⟩
def Reg.HP_CFG.SENSE_DIV (i : Nat) : Fld := ⟨0x400004 + 0x1000 * i, 5, 3, false⟩
def Reg.HP_CFG.RATE (i : Nat) : Fld := ⟨0x400004 + 0x1000 * i, 4, 1, false⟩
def Reg.HP_LINK_STS.AT (i : Nat) : Nat := 0x400008 + 0x1000 * i
def Reg.HP_LINK_STS.RETRIES (i : Nat) : Fld := ⟨0x400008 + 0x1000 * i, 24, 8, false⟩
def Reg.HP_LINK_STS.HEAD_TSRC (i : Nat) : Fld := ⟨0x400008 + 0x1000 * i, 19, 1, false⟩
def Reg.HP_LINK_STS.TIME_LOCK (i : Nat) : Fld := ⟨0x400008 + 0x1000 * i, 18, 1, false⟩
def Reg.HP_LINK_STS.HEAD_TX_TWI (i : Nat) : Fld := ⟨0x400008 + 0x1000 * i, 17, 1, false⟩
def Reg.HP_LINK_STS.RX_TWI (i : Nat) : Fld := ⟨0x400008 + 0x1000 * i, 16, 1, false⟩
def Reg.HP_LINK_STS.TX_TWI (i : Nat) : Fld := ⟨0x400008 + 0x1000 * i, 15, 1, false⟩
def Reg.HP_LINK_STS.RX_SWAP (i : Nat) : Fld := ⟨0x400008 + 0x1000 * i, 14, 1, false⟩
def Reg.HP_LINK_STS.RX_INV (i : Nat) : Fld := ⟨0x400008 + 0x1000 * i, 12, 2, false⟩
def Reg.HP_LINK_STS.STATE (i : Nat) : Fld := ⟨0x400008 + 0x1000 * i, 4, 4, false⟩
def Reg.HP_LINK_STS.UP (i : Nat) : Fld := ⟨0x400008 + 0x1000 * i, 0, 1, false⟩
def Reg.HP_LINK_EVT.AT (i : Nat) : Nat := 0x40000c + 0x1000 * i
def Reg.HP_LINK_EVT.CFG_ERR (i : Nat) : Fld := ⟨0x40000c + 0x1000 * i, 9, 1, true⟩
def Reg.HP_LINK_EVT.ACK_TIMEOUT (i : Nat) : Fld := ⟨0x40000c + 0x1000 * i, 8, 1, true⟩
def Reg.HP_LINK_EVT.HEAD_FAULT (i : Nat) : Fld := ⟨0x40000c + 0x1000 * i, 7, 1, true⟩
def Reg.HP_LINK_EVT.HEAD_CHANGED (i : Nat) : Fld := ⟨0x40000c + 0x1000 * i, 6, 1, true⟩
def Reg.HP_LINK_EVT.IDENT_BAD (i : Nat) : Fld := ⟨0x40000c + 0x1000 * i, 5, 1, true⟩
def Reg.HP_LINK_EVT.TAP_LATE (i : Nat) : Fld := ⟨0x40000c + 0x1000 * i, 4, 1, true⟩
def Reg.HP_LINK_EVT.TX_LATE (i : Nat) : Fld := ⟨0x40000c + 0x1000 * i, 3, 1, true⟩
def Reg.HP_LINK_EVT.CRC_BURST (i : Nat) : Fld := ⟨0x40000c + 0x1000 * i, 2, 1, true⟩
def Reg.HP_LINK_EVT.TIME_UNLOCK (i : Nat) : Fld := ⟨0x40000c + 0x1000 * i, 1, 1, true⟩
def Reg.HP_LINK_EVT.DOWN (i : Nat) : Fld := ⟨0x40000c + 0x1000 * i, 0, 1, true⟩
def Reg.HP_TT_ASYM.AT (i : Nat) : Nat := 0x400010 + 0x1000 * i
def Reg.HP_TT_ASYM.ASYM (i : Nat) : Fld := ⟨0x400010 + 0x1000 * i, 0, 32, false⟩
def Reg.HP_DELAY.AT (i : Nat) : Nat := 0x400014 + 0x1000 * i
def Reg.HP_DELAY.DDOWN (i : Nat) : Fld := ⟨0x400014 + 0x1000 * i, 0, 32, false⟩
def Reg.HP_OFFSET.AT (i : Nat) : Nat := 0x400018 + 0x1000 * i
def Reg.HP_OFFSET.THETA (i : Nat) : Fld := ⟨0x400018 + 0x1000 * i, 0, 16, false⟩
def Reg.HP_RTT.AT (i : Nat) : Nat := 0x40001c + 0x1000 * i
def Reg.HP_RTT.RTT (i : Nat) : Fld := ⟨0x40001c + 0x1000 * i, 0, 32, false⟩
def Reg.HP_HEAD_ID.AT (i : Nat) : Nat := 0x400020 + 0x1000 * i
def Reg.HP_HEAD_ID.MODEL (i : Nat) : Fld := ⟨0x400020 + 0x1000 * i, 16, 16, false⟩
def Reg.HP_HEAD_ID.VENDOR (i : Nat) : Fld := ⟨0x400020 + 0x1000 * i, 0, 16, false⟩
def Reg.HP_HEAD_SERIAL.AT (i : Nat) : Nat := 0x400024 + 0x1000 * i
def Reg.HP_HEAD_SERIAL.PAIR (i : Nat) : Pair := ⟨0x400024 + 0x1000 * i⟩
def Reg.HP_HEAD_CAP.AT (i : Nat) : Nat := 0x40002c + 0x1000 * i
def Reg.HP_HEAD_CAP.ROWMASK (i : Nat) : Fld := ⟨0x40002c + 0x1000 * i, 16, 16, false⟩
def Reg.HP_HEAD_CAP.TRIM_STEP (i : Nat) : Fld := ⟨0x40002c + 0x1000 * i, 8, 8, false⟩
def Reg.HP_HEAD_CAP.NWAVE_M1 (i : Nat) : Fld := ⟨0x40002c + 0x1000 * i, 4, 4, false⟩
def Reg.HP_HEAD_CAP.DUAL (i : Nat) : Fld := ⟨0x40002c + 0x1000 * i, 3, 1, false⟩
def Reg.HP_HEAD_CAP.HPORT (i : Nat) : Fld := ⟨0x40002c + 0x1000 * i, 2, 1, false⟩
def Reg.HP_HEAD_RATE.AT (i : Nat) : Nat := 0x400030 + 0x1000 * i
def Reg.HP_HEAD_RATE.MAX_RATE (i : Nat) : Fld := ⟨0x400030 + 0x1000 * i, 0, 18, false⟩
def Reg.HP_HEAD_COLS.AT (i j : Nat) : Nat := 0x400040 + 0x1000 * i + 0x4 * j
def Reg.HP_HEAD_COLS.COLS (i j : Nat) : Fld := ⟨0x400040 + 0x1000 * i + 0x4 * j, 0, 12, false⟩
def Reg.HP_HEAD_TEMP.AT (i j : Nat) : Nat := 0x400080 + 0x1000 * i + 0x4 * j
def Reg.HP_HEAD_TEMP.TEMP (i j : Nat) : Fld := ⟨0x400080 + 0x1000 * i + 0x4 * j, 0, 16, false⟩
def Reg.HP_HEAD_STATE.AT (i : Nat) : Nat := 0x400090 + 0x1000 * i
def Reg.HP_HEAD_STATE.HSEQ (i : Nat) : Fld := ⟨0x400090 + 0x1000 * i, 24, 8, false⟩
def Reg.HP_HEAD_STATE.FAULT_CODE (i : Nat) : Fld := ⟨0x400090 + 0x1000 * i, 16, 8, false⟩
def Reg.HP_HEAD_STATE.FAULT (i : Nat) : Fld := ⟨0x400090 + 0x1000 * i, 6, 1, false⟩
def Reg.HP_HEAD_STATE.CAP (i : Nat) : Fld := ⟨0x400090 + 0x1000 * i, 4, 2, false⟩
def Reg.HP_HEAD_STATE.MODE (i : Nat) : Fld := ⟨0x400090 + 0x1000 * i, 0, 3, false⟩
def Reg.HP_HEAD_CMD.AT (i : Nat) : Nat := 0x400094 + 0x1000 * i
def Reg.HP_HEAD_CMD.MODE (i : Nat) : Fld := ⟨0x400094 + 0x1000 * i, 0, 3, false⟩
def Reg.HP_ROW_WAVE.AT (i j : Nat) : Nat := 0x4000c0 + 0x1000 * i + 0x4 * j
def Reg.HP_ROW_WAVE.WAVE (i j : Nat) : Fld := ⟨0x4000c0 + 0x1000 * i + 0x4 * j, 4, 4, false⟩
def Reg.HP_ROW_WAVE.NEXT (i j : Nat) : Fld := ⟨0x4000c0 + 0x1000 * i + 0x4 * j, 0, 4, false⟩
def Reg.HP_CNT.AT (i j : Nat) : Nat := 0x400100 + 0x1000 * i + 0x4 * j
def Reg.HP_CNT.CNT (i j : Nat) : Fld := ⟨0x400100 + 0x1000 * i + 0x4 * j, 0, 32, true⟩
def Reg.HP_HEAD_CNT.AT (i j : Nat) : Nat := 0x400120 + 0x1000 * i + 0x4 * j
def Reg.HP_HEAD_CNT.CNT (i j : Nat) : Fld := ⟨0x400120 + 0x1000 * i + 0x4 * j, 0, 16, false⟩
def Reg.L_CTRL.AT (i : Nat) : Nat := 0x500000 + 0x400 * i
def Reg.L_CTRL.SELFTEST (i : Nat) : Fld := ⟨0x500000 + 0x400 * i, 7, 1, false⟩
def Reg.L_CTRL.EYE_GO (i : Nat) : Fld := ⟨0x500000 + 0x400 * i, 6, 1, false⟩
def Reg.L_CTRL.REEQ (i : Nat) : Fld := ⟨0x500000 + 0x400 * i, 5, 1, false⟩
def Reg.L_CTRL.LOOP (i : Nat) : Fld := ⟨0x500000 + 0x400 * i, 3, 2, false⟩
def Reg.L_CTRL.EN (i : Nat) : Fld := ⟨0x500000 + 0x400 * i, 1, 1, false⟩
def Reg.L_CTRL.LOCK (i : Nat) : Fld := ⟨0x500000 + 0x400 * i, 0, 1, false⟩
def Reg.L_STS.AT (i : Nat) : Nat := 0x500004 + 0x400 * i
def Reg.L_STS.LINK_STATE (i : Nat) : Fld := ⟨0x500004 + 0x400 * i, 20, 4, false⟩
def Reg.L_STS.RATE (i : Nat) : Fld := ⟨0x500004 + 0x400 * i, 16, 4, false⟩
def Reg.L_STS.GROUP (i : Nat) : Fld := ⟨0x500004 + 0x400 * i, 12, 3, false⟩
def Reg.L_STS.REF156 (i : Nat) : Fld := ⟨0x500004 + 0x400 * i, 11, 1, false⟩
def Reg.L_STS.FAULT (i : Nat) : Fld := ⟨0x500004 + 0x400 * i, 10, 1, false⟩
def Reg.L_STS.MARGINAL (i : Nat) : Fld := ⟨0x500004 + 0x400 * i, 9, 1, false⟩
def Reg.L_STS.RX_TWI (i : Nat) : Fld := ⟨0x500004 + 0x400 * i, 8, 1, false⟩
def Reg.L_STS.TX_IDLE (i : Nat) : Fld := ⟨0x500004 + 0x400 * i, 7, 1, false⟩
def Reg.L_STS.LANE_ID (i : Nat) : Fld := ⟨0x500004 + 0x400 * i, 4, 3, false⟩
def Reg.L_STS.POL_INV (i : Nat) : Fld := ⟨0x500004 + 0x400 * i, 3, 1, false⟩
def Reg.L_STS.BLOCK_LOCK (i : Nat) : Fld := ⟨0x500004 + 0x400 * i, 2, 1, false⟩
def Reg.L_STS.CDR (i : Nat) : Fld := ⟨0x500004 + 0x400 * i, 1, 1, false⟩
def Reg.L_STS.SIG (i : Nat) : Fld := ⟨0x500004 + 0x400 * i, 0, 1, false⟩
def Reg.L_EVT.AT (i : Nat) : Nat := 0x500008 + 0x400 * i
def Reg.L_EVT.CFG_ERR (i : Nat) : Fld := ⟨0x500008 + 0x400 * i, 7, 1, true⟩
def Reg.L_EVT.SELFTEST_DONE (i : Nat) : Fld := ⟨0x500008 + 0x400 * i, 6, 1, true⟩
def Reg.L_EVT.MARGINAL (i : Nat) : Fld := ⟨0x500008 + 0x400 * i, 5, 1, true⟩
def Reg.L_EVT.NO_EQ (i : Nat) : Fld := ⟨0x500008 + 0x400 * i, 4, 1, true⟩
def Reg.L_EVT.REF_LOSS (i : Nat) : Fld := ⟨0x500008 + 0x400 * i, 3, 1, true⟩
def Reg.L_EVT.ELASTIC (i : Nat) : Fld := ⟨0x500008 + 0x400 * i, 2, 1, true⟩
def Reg.L_EVT.LOCK_LOSS (i : Nat) : Fld := ⟨0x500008 + 0x400 * i, 1, 1, true⟩
def Reg.L_EVT.SIG_LOSS (i : Nat) : Fld := ⟨0x500008 + 0x400 * i, 0, 1, true⟩
def Reg.L_TXEQ.AT (i : Nat) : Nat := 0x50000c + 0x400 * i
def Reg.L_TXEQ.AMP (i : Nat) : Fld := ⟨0x50000c + 0x400 * i, 9, 3, false⟩
def Reg.L_TXEQ.POST (i : Nat) : Fld := ⟨0x50000c + 0x400 * i, 4, 5, false⟩
def Reg.L_TXEQ.PRE (i : Nat) : Fld := ⟨0x50000c + 0x400 * i, 0, 4, false⟩
def Reg.L_RXEQ.AT (i : Nat) : Nat := 0x500010 + 0x400 * i
def Reg.L_RXEQ.TAP1 (i : Nat) : Fld := ⟨0x500010 + 0x400 * i, 8, 8, false⟩
def Reg.L_RXEQ.CTLE (i : Nat) : Fld := ⟨0x500010 + 0x400 * i, 4, 4, false⟩
def Reg.L_RXEQ.MODE (i : Nat) : Fld := ⟨0x500010 + 0x400 * i, 0, 2, false⟩
def Reg.L_BS.AT (i : Nat) : Nat := 0x500014 + 0x400 * i
def Reg.L_BS.SLIPS (i : Nat) : Fld := ⟨0x500014 + 0x400 * i, 10, 7, false⟩
def Reg.L_BS.HINT (i : Nat) : Fld := ⟨0x500014 + 0x400 * i, 3, 7, false⟩
def Reg.L_BS.PENDING (i : Nat) : Fld := ⟨0x500014 + 0x400 * i, 2, 1, false⟩
def Reg.L_BS.AUTO_HINT (i : Nat) : Fld := ⟨0x500014 + 0x400 * i, 1, 1, false⟩
def Reg.L_BS.BITSLIP (i : Nat) : Fld := ⟨0x500014 + 0x400 * i, 0, 1, false⟩
def Reg.L_EYE.AT (i : Nat) : Nat := 0x500018 + 0x400 * i
def Reg.L_EYE.BUSY (i : Nat) : Fld := ⟨0x500018 + 0x400 * i, 31, 1, false⟩
def Reg.L_EYE.VALID (i : Nat) : Fld := ⟨0x500018 + 0x400 * i, 30, 1, false⟩
def Reg.L_EYE.QUAL (i : Nat) : Fld := ⟨0x500018 + 0x400 * i, 16, 2, false⟩
def Reg.L_EYE.EH (i : Nat) : Fld := ⟨0x500018 + 0x400 * i, 8, 8, false⟩
def Reg.L_EYE.EW (i : Nat) : Fld := ⟨0x500018 + 0x400 * i, 0, 7, false⟩
def Reg.L_EYE_LIM.AT (i : Nat) : Nat := 0x50001c + 0x400 * i
def Reg.L_EYE_LIM.GOOD_EH (i : Nat) : Fld := ⟨0x50001c + 0x400 * i, 24, 8, false⟩
def Reg.L_EYE_LIM.GOOD_EW (i : Nat) : Fld := ⟨0x50001c + 0x400 * i, 16, 7, false⟩
def Reg.L_EYE_LIM.WORK_EH (i : Nat) : Fld := ⟨0x50001c + 0x400 * i, 8, 8, false⟩
def Reg.L_EYE_LIM.WORK_EW (i : Nat) : Fld := ⟨0x50001c + 0x400 * i, 0, 7, false⟩
def Reg.L_PRBS.AT (i : Nat) : Nat := 0x500020 + 0x400 * i
def Reg.L_PRBS.CHK_LOCK (i : Nat) : Fld := ⟨0x500020 + 0x400 * i, 6, 1, false⟩
def Reg.L_PRBS.CHK_EN (i : Nat) : Fld := ⟨0x500020 + 0x400 * i, 5, 1, false⟩
def Reg.L_PRBS.GEN_EN (i : Nat) : Fld := ⟨0x500020 + 0x400 * i, 4, 1, false⟩
def Reg.L_PRBS.PATTERN (i : Nat) : Fld := ⟨0x500020 + 0x400 * i, 0, 3, false⟩
def Reg.L_PRBS_ERR.AT (i : Nat) : Nat := 0x500024 + 0x400 * i
def Reg.L_PRBS_ERR.ERR (i : Nat) : Fld := ⟨0x500024 + 0x400 * i, 0, 32, true⟩
def Reg.L_PRBS_BITS.AT (i : Nat) : Nat := 0x500028 + 0x400 * i
def Reg.L_PRBS_BITS.PAIR (i : Nat) : Pair := ⟨0x500028 + 0x400 * i⟩
def Reg.L_SELFTEST.AT (i : Nat) : Nat := 0x500030 + 0x400 * i
def Reg.L_SELFTEST.PENDING (i : Nat) : Fld := ⟨0x500030 + 0x400 * i, 3, 1, false⟩
def Reg.L_SELFTEST.RUNNING (i : Nat) : Fld := ⟨0x500030 + 0x400 * i, 2, 1, false⟩
def Reg.L_SELFTEST.RESULT (i : Nat) : Fld := ⟨0x500030 + 0x400 * i, 0, 2, false⟩
def Reg.L_CNT.AT (i j : Nat) : Nat := 0x500040 + 0x400 * i + 0x4 * j
def Reg.L_CNT.CNT (i j : Nat) : Fld := ⟨0x500040 + 0x400 * i + 0x4 * j, 0, 32, true⟩
def Reg.CAM_CTRL.AT : Nat := 0xb0000
def Reg.CAM_CTRL.LOCK : Fld := ⟨0xb0000, 0, 1, false⟩
def Reg.CAM_BUDGET.AT : Nat := 0xb0004
def Reg.CAM_BUDGET.DEMAND : Fld := ⟨0xb0004, 0, 16, false⟩
def Reg.CAM_P_CTRL.AT (i : Nat) : Nat := 0xb1000 + 0x100 * i
def Reg.CAM_P_CTRL.RETRY (i : Nat) : Fld := ⟨0xb1000 + 0x100 * i, 8, 1, false⟩
def Reg.CAM_P_CTRL.TRIG_EN (i : Nat) : Fld := ⟨0xb1000 + 0x100 * i, 7, 1, false⟩
def Reg.CAM_P_CTRL.RATE (i : Nat) : Fld := ⟨0xb1000 + 0x100 * i, 4, 3, false⟩
def Reg.CAM_P_CTRL.CONN (i : Nat) : Fld := ⟨0xb1000 + 0x100 * i, 2, 2, false⟩
def Reg.CAM_P_CTRL.EN (i : Nat) : Fld := ⟨0xb1000 + 0x100 * i, 0, 1, false⟩
def Reg.CAM_P_STS.AT (i : Nat) : Nat := 0xb1004 + 0x100 * i
def Reg.CAM_P_STS.CFG_ERR (i : Nat) : Fld := ⟨0xb1004 + 0x100 * i, 11, 1, true⟩
def Reg.CAM_P_STS.RATE_FOUND (i : Nat) : Fld := ⟨0xb1004 + 0x100 * i, 8, 3, false⟩
def Reg.CAM_P_STS.CONN_FOUND (i : Nat) : Fld := ⟨0xb1004 + 0x100 * i, 5, 3, false⟩
def Reg.CAM_P_STS.SETTLING (i : Nat) : Fld := ⟨0xb1004 + 0x100 * i, 4, 1, false⟩
def Reg.CAM_P_STS.STATE (i : Nat) : Fld := ⟨0xb1004 + 0x100 * i, 0, 4, false⟩
def Reg.CAM_P_FMT.AT (i : Nat) : Nat := 0xb1008 + 0x100 * i
def Reg.CAM_P_FMT.TRI2 (i : Nat) : Fld := ⟨0xb1008 + 0x100 * i, 27, 3, false⟩
def Reg.CAM_P_FMT.TRI1 (i : Nat) : Fld := ⟨0xb1008 + 0x100 * i, 24, 3, false⟩
def Reg.CAM_P_FMT.BITS (i : Nat) : Fld := ⟨0xb1008 + 0x100 * i, 22, 2, false⟩
def Reg.CAM_P_FMT.FORMAT (i : Nat) : Fld := ⟨0xb1008 + 0x100 * i, 20, 2, false⟩
def Reg.CAM_P_FMT.PX (i : Nat) : Fld := ⟨0xb1008 + 0x100 * i, 0, 15, false⟩
def Reg.CAM_P_POS.AT (i : Nat) : Nat := 0xb100c + 0x100 * i
def Reg.CAM_P_POS.PAIR (i : Nat) : Pair := ⟨0xb100c + 0x100 * i⟩
def Reg.CAM_P_TOFS.AT (i : Nat) : Nat := 0xb1014 + 0x100 * i
def Reg.CAM_P_TOFS.TOFS (i : Nat) : Fld := ⟨0xb1014 + 0x100 * i, 0, 32, false⟩
def Reg.CAM_P_TRIG_MIN.AT (i : Nat) : Nat := 0xb1018 + 0x100 * i
def Reg.CAM_P_TRIG_MIN.TRIG_MIN (i : Nat) : Fld := ⟨0xb1018 + 0x100 * i, 0, 32, false⟩
def Reg.CAM_P_LAT.AT (i : Nat) : Nat := 0xb101c + 0x100 * i
def Reg.CAM_P_LAT.MAX (i : Nat) : Fld := ⟨0xb101c + 0x100 * i, 16, 16, false⟩
def Reg.CAM_P_LAT.MIN (i : Nat) : Fld := ⟨0xb101c + 0x100 * i, 0, 16, false⟩
def Reg.CAM_P_SENS.AT (i : Nat) : Nat := 0xb1020 + 0x100 * i
def Reg.CAM_P_SENS.DELAY (i : Nat) : Fld := ⟨0xb1020 + 0x100 * i, 0, 8, false⟩
def Reg.CAM_P_SET.AT (i : Nat) : Nat := 0xb1024 + 0x100 * i
def Reg.CAM_P_SET.VALID (i : Nat) : Fld := ⟨0xb1024 + 0x100 * i, 6, 4, false⟩
def Reg.CAM_P_SET.PENDING (i : Nat) : Fld := ⟨0xb1024 + 0x100 * i, 2, 4, false⟩
def Reg.CAM_P_SET.ACTIVE (i : Nat) : Fld := ⟨0xb1024 + 0x100 * i, 0, 2, false⟩
def Reg.CAM_P_LINE.AT (i : Nat) : Nat := 0xb1028 + 0x100 * i
def Reg.CAM_P_LINE.PAIR (i : Nat) : Pair := ⟨0xb1028 + 0x100 * i⟩
def Reg.CAM_P_CC_CTRL.AT (i : Nat) : Nat := 0xb1030 + 0x100 * i
def Reg.CAM_P_CC_CTRL.RXLEN (i : Nat) : Fld := ⟨0xb1030 + 0x100 * i, 18, 11, false⟩
def Reg.CAM_P_CC_CTRL.TIMEOUT (i : Nat) : Fld := ⟨0xb1030 + 0x100 * i, 17, 1, true⟩
def Reg.CAM_P_CC_CTRL.DONE (i : Nat) : Fld := ⟨0xb1030 + 0x100 * i, 16, 1, true⟩
def Reg.CAM_P_CC_CTRL.BUSY (i : Nat) : Fld := ⟨0xb1030 + 0x100 * i, 15, 1, false⟩
def Reg.CAM_P_CC_CTRL.SEND (i : Nat) : Fld := ⟨0xb1030 + 0x100 * i, 14, 1, false⟩
def Reg.CAM_P_CC_CTRL.LEN (i : Nat) : Fld := ⟨0xb1030 + 0x100 * i, 0, 10, false⟩
def Reg.CAM_P_EVT.AT (i : Nat) : Nat := 0xb1034 + 0x100 * i
def Reg.CAM_P_EVT.COUNT (i : Nat) : Fld := ⟨0xb1034 + 0x100 * i, 5, 3, false⟩
def Reg.CAM_P_EVT.OVF (i : Nat) : Fld := ⟨0xb1034 + 0x100 * i, 4, 1, true⟩
def Reg.CAM_P_EVT.TAIL (i : Nat) : Fld := ⟨0xb1034 + 0x100 * i, 2, 2, false⟩
def Reg.CAM_P_EVT.HEAD (i : Nat) : Fld := ⟨0xb1034 + 0x100 * i, 0, 2, false⟩
def Reg.CAM_P_CNT.AT (i j : Nat) : Nat := 0xb1040 + 0x100 * i + 0x4 * j
def Reg.CAM_P_CNT.CNT (i j : Nat) : Fld := ⟨0xb1040 + 0x100 * i + 0x4 * j, 0, 32, true⟩
def Reg.INS_CTRL.AT : Nat := 0xa0000
def Reg.INS_CTRL.XREG_EN : Fld := ⟨0xa0000, 3, 1, false⟩
def Reg.INS_CTRL.REG_EN : Fld := ⟨0xa0000, 2, 1, false⟩
def Reg.INS_CTRL.STREAK_EN : Fld := ⟨0xa0000, 1, 1, false⟩
def Reg.INS_CTRL.LOCK : Fld := ⟨0xa0000, 0, 1, false⟩
def Reg.INS_CFG.AT : Nat := 0xa0004
def Reg.INS_CFG.MISS_FRAC : Fld := ⟨0xa0004, 16, 8, false⟩
def Reg.INS_CFG.MIN_N : Fld := ⟨0xa0004, 4, 12, false⟩
def Reg.INS_CFG.LGROUP_M1 : Fld := ⟨0xa0004, 0, 4, false⟩
def Reg.INS_STS.AT : Nat := 0xa0008
def Reg.INS_STS.ACTIVE : Fld := ⟨0xa0008, 2, 1, false⟩
def Reg.INS_STS.CFG_ERR : Fld := ⟨0xa0008, 1, 1, true⟩
def Reg.INS_STS.PRED_FIT : Fld := ⟨0xa0008, 0, 1, true⟩
def Reg.INS_PRED_BASE.AT : Nat := 0xa0010
def Reg.INS_PRED_BASE.PAIR : Pair := ⟨0xa0010⟩
def Reg.INS_PRED_SIZE.AT : Nat := 0xa0018
def Reg.INS_PRED_SIZE.PAIR : Pair := ⟨0xa0018⟩
def Reg.INS_PRED_REQ.AT : Nat := 0xa0020
def Reg.INS_PRED_REQ.PAIR : Pair := ⟨0xa0020⟩
def Reg.INS_MEMPATH.AT : Nat := 0xa0028
def Reg.INS_MEMPATH.RESERVE : Fld := ⟨0xa0028, 0, 16, false⟩
def Reg.INS_CORR.AT : Nat := 0xa002c
def Reg.INS_CORR.RAMP : Fld := ⟨0xa002c, 16, 16, false⟩
def Reg.INS_CORR.XDB : Fld := ⟨0xa002c, 8, 8, false⟩
def Reg.INS_CORR.DDB : Fld := ⟨0xa002c, 0, 8, false⟩
def Reg.INS_REG.AT : Nat := 0xa0030
def Reg.INS_REG.XDEADBAND : Fld := ⟨0xa0030, 24, 8, false⟩
def Reg.INS_REG.GAIN_X : Fld := ⟨0xa0030, 16, 8, false⟩
def Reg.INS_REG.DEADBAND : Fld := ⟨0xa0030, 8, 8, false⟩
def Reg.INS_REG.GAIN_R : Fld := ⟨0xa0030, 0, 8, false⟩
def Reg.INS_REG_AHEAD.AT : Nat := 0xa0034
def Reg.INS_REG_AHEAD.AHEAD : Fld := ⟨0xa0034, 0, 16, false⟩
def Reg.INS_STREAK.AT : Nat := 0xa0038
def Reg.INS_STREAK.WIN : Fld := ⟨0xa0038, 0, 16, false⟩
def Reg.INS_BAR_CFG.AT (i : Nat) : Nat := 0xa0100 + 0x20 * i
def Reg.INS_BAR_CFG.SPR (i : Nat) : Fld := ⟨0xa0100 + 0x20 * i, 24, 8, false⟩
def Reg.INS_BAR_CFG.KCOV (i : Nat) : Fld := ⟨0xa0100 + 0x20 * i, 16, 8, false⟩
def Reg.INS_BAR_CFG.EN (i : Nat) : Fld := ⟨0xa0100 + 0x20 * i, 10, 1, false⟩
def Reg.INS_BAR_CFG.CH (i : Nat) : Fld := ⟨0xa0100 + 0x20 * i, 8, 2, false⟩
def Reg.INS_BAR_CFG.CAMMASK (i : Nat) : Fld := ⟨0xa0100 + 0x20 * i, 0, 8, false⟩
def Reg.INS_BAR_ABS.AT (i : Nat) : Nat := 0xa0104 + 0x20 * i
def Reg.INS_BAR_ABS.VAL (i : Nat) : Fld := ⟨0xa0104 + 0x20 * i, 0, 24, false⟩
def Reg.INS_BAR_VOL.AT (i : Nat) : Nat := 0xa0108 + 0x20 * i
def Reg.INS_BAR_VOL.PAIR (i : Nat) : Pair := ⟨0xa0108 + 0x20 * i⟩
def Reg.INS_BAR_DIST.AT (i : Nat) : Nat := 0xa0110 + 0x20 * i
def Reg.INS_BAR_DIST.VAL (i : Nat) : Fld := ⟨0xa0110 + 0x20 * i, 0, 32, false⟩
def Reg.INS_BAR_DY.AT (i : Nat) : Nat := 0xa0114 + 0x20 * i
def Reg.INS_BAR_DY.VAL (i : Nat) : Fld := ⟨0xa0114 + 0x20 * i, 0, 32, false⟩
def Reg.INS_BAR_DX.AT (i : Nat) : Nat := 0xa0118 + 0x20 * i
def Reg.INS_BAR_DX.VAL (i : Nat) : Fld := ⟨0xa0118 + 0x20 * i, 0, 32, false⟩
def Reg.INS_BAR_MEAND.AT (i : Nat) : Nat := 0xa011c + 0x20 * i
def Reg.INS_BAR_MEAND.VAL (i : Nat) : Fld := ⟨0xa011c + 0x20 * i, 0, 16, false⟩
def Reg.INS_WHITE_A.AT (i : Nat) : Nat := 0xa0400 + 0x8 * i
def Reg.INS_WHITE_A.W1 (i : Nat) : Fld := ⟨0xa0400 + 0x8 * i, 16, 12, false⟩
def Reg.INS_WHITE_A.W0 (i : Nat) : Fld := ⟨0xa0400 + 0x8 * i, 0, 12, false⟩
def Reg.INS_WHITE_B.AT (i : Nat) : Nat := 0xa0404 + 0x8 * i
def Reg.INS_WHITE_B.W2 (i : Nat) : Fld := ⟨0xa0404 + 0x8 * i, 0, 12, false⟩
def Reg.INS_CNT.AT (i : Nat) : Nat := 0xa0600 + 0x4 * i
def Reg.INS_CNT.CNT (i : Nat) : Fld := ⟨0xa0600 + 0x4 * i, 0, 32, true⟩
def Reg.CAL_CTRL.AT : Nat := 0x90000
def Reg.CAL_CTRL.LANE_EN : Fld := ⟨0x90000, 5, 1, false⟩
def Reg.CAL_CTRL.STOP : Fld := ⟨0x90000, 4, 1, false⟩
def Reg.CAL_CTRL.RETIRE_EN : Fld := ⟨0x90000, 3, 1, false⟩
def Reg.CAL_CTRL.HEALTH_EN : Fld := ⟨0x90000, 2, 1, false⟩
def Reg.CAL_CTRL.EN : Fld := ⟨0x90000, 1, 1, false⟩
def Reg.CAL_CTRL.LOCK : Fld := ⟨0x90000, 0, 1, false⟩
def Reg.CAL_STS.AT : Nat := 0x90004
def Reg.CAL_STS.TAKEN : Fld := ⟨0x90004, 16, 16, false⟩
def Reg.CAL_STS.DIVERGE : Fld := ⟨0x90004, 3, 1, true⟩
def Reg.CAL_STS.NO_CAMERA : Fld := ⟨0x90004, 2, 1, true⟩
def Reg.CAL_STS.CFG_ERR : Fld := ⟨0x90004, 1, 1, true⟩
def Reg.CAL_STS.BUSY : Fld := ⟨0x90004, 0, 1, false⟩
def Reg.CAL_TRIG.AT : Nat := 0x90008
def Reg.CAL_TRIG.AGE : Fld := ⟨0x90008, 8, 16, false⟩
def Reg.CAL_TRIG.DT : Fld := ⟨0x90008, 0, 8, false⟩
def Reg.CAL_MARK.AT : Nat := 0x9000c
def Reg.CAL_MARK.XSEP : Fld := ⟨0x9000c, 20, 12, false⟩
def Reg.CAL_MARK.NPOS : Fld := ⟨0x9000c, 16, 4, false⟩
def Reg.CAL_MARK.LEVEL : Fld := ⟨0x9000c, 12, 3, false⟩
def Reg.CAL_MARK.GAP : Fld := ⟨0x9000c, 4, 8, false⟩
def Reg.CAL_MARK.MLEN : Fld := ⟨0x9000c, 0, 4, false⟩
def Reg.CAL_DETECT.AT : Nat := 0x90010
def Reg.CAL_DETECT.MIN_A : Fld := ⟨0x90010, 12, 20, false⟩
def Reg.CAL_DETECT.NOISE : Fld := ⟨0x90010, 0, 12, false⟩
def Reg.CAL_ADJ.AT : Nat := 0x90014
def Reg.CAL_ADJ.MAXSTEP : Fld := ⟨0x90014, 24, 8, false⟩
def Reg.CAL_ADJ.PASSES : Fld := ⟨0x90014, 20, 4, false⟩
def Reg.CAL_ADJ.TNOM : Fld := ⟨0x90014, 16, 4, false⟩
def Reg.CAL_ADJ.RES : Fld := ⟨0x90014, 8, 8, false⟩
def Reg.CAL_ADJ.YTOL : Fld := ⟨0x90014, 0, 8, false⟩
def Reg.CAL_RAMP.AT : Nat := 0x90018
def Reg.CAL_RAMP.RET : Fld := ⟨0x90018, 16, 16, false⟩
def Reg.CAL_RAMP.TAKE : Fld := ⟨0x90018, 0, 16, false⟩
def Reg.CAL_CFG.AT : Nat := 0x9001c
def Reg.CAL_CFG.MAX_TIME : Fld := ⟨0x9001c, 24, 8, false⟩
def Reg.CAL_CFG.RETIRE_N : Fld := ⟨0x9001c, 20, 4, false⟩
def Reg.CAL_CFG.BATCH_MAX : Fld := ⟨0x9001c, 0, 13, false⟩
def Reg.CAL_YSCALE.AT : Nat := 0x90020
def Reg.CAL_YSCALE.SCALE : Fld := ⟨0x90020, 0, 32, false⟩
def Reg.CAL_LANE.AT : Nat := 0x90024
def Reg.CAL_LANE.DIE_DT : Fld := ⟨0x90024, 24, 8, false⟩
def Reg.CAL_LANE.PERIOD : Fld := ⟨0x90024, 0, 16, false⟩
def Reg.CAL_STITCH_CTRL.AT : Nat := 0x90030
def Reg.CAL_STITCH_CTRL.BAR : Fld := ⟨0x90030, 12, 4, false⟩
def Reg.CAL_STITCH_CTRL.GO : Fld := ⟨0x90030, 10, 1, false⟩
def Reg.CAL_STITCH_CTRL.APPLY_Y : Fld := ⟨0x90030, 9, 1, false⟩
def Reg.CAL_STITCH_CTRL.APPLY_X : Fld := ⟨0x90030, 8, 1, false⟩
def Reg.CAL_STITCH_CTRL.K : Fld := ⟨0x90030, 0, 8, false⟩
def Reg.CAL_CNT.AT (i : Nat) : Nat := 0x90100 + 0x4 * i
def Reg.CAL_CNT.CNT (i : Nat) : Fld := ⟨0x90100 + 0x4 * i, 0, 32, true⟩
def Reg.CAL_PORT_TEMP.AT (i : Nat) : Nat := 0x91000 + 0x10 * i
def Reg.CAL_PORT_TEMP.THEAD (i : Nat) : Fld := ⟨0x91000 + 0x10 * i, 16, 16, false⟩
def Reg.CAL_PORT_TEMP.TCAL (i : Nat) : Fld := ⟨0x91000 + 0x10 * i, 0, 16, false⟩
def Reg.CAL_PORT_STS.AT (i : Nat) : Nat := 0x91004 + 0x10 * i
def Reg.CAL_PORT_STS.QWORST (i : Nat) : Fld := ⟨0x91004 + 0x10 * i, 24, 8, false⟩
def Reg.CAL_PORT_STS.QMEAN (i : Nat) : Fld := ⟨0x91004 + 0x10 * i, 16, 8, false⟩
def Reg.CAL_PORT_STS.LANE_Q (i : Nat) : Fld := ⟨0x91004 + 0x10 * i, 14, 2, false⟩
def Reg.CAL_PORT_STS.CAUSE (i : Nat) : Fld := ⟨0x91004 + 0x10 * i, 8, 4, false⟩
def Reg.CAL_PORT_STS.ST_RANGE (i : Nat) : Fld := ⟨0x91004 + 0x10 * i, 3, 1, false⟩
def Reg.CAL_PORT_STS.ST_VALID (i : Nat) : Fld := ⟨0x91004 + 0x10 * i, 2, 1, false⟩
def Reg.CAL_PORT_STS.RUNNING (i : Nat) : Fld := ⟨0x91004 + 0x10 * i, 1, 1, false⟩
def Reg.CAL_PORT_STS.DUE (i : Nat) : Fld := ⟨0x91004 + 0x10 * i, 0, 1, false⟩
def Reg.CAL_PORT_TS.AT (i : Nat) : Nat := 0x91008 + 0x10 * i
def Reg.CAL_PORT_TS.VAL (i : Nat) : Fld := ⟨0x91008 + 0x10 * i, 0, 32, false⟩
def Reg.CAL_PORT_STITCH.AT (i : Nat) : Nat := 0x9100c + 0x10 * i
def Reg.CAL_PORT_STITCH.DY (i : Nat) : Fld := ⟨0x9100c + 0x10 * i, 16, 16, false⟩
def Reg.CAL_PORT_STITCH.DX (i : Nat) : Fld := ⟨0x9100c + 0x10 * i, 0, 16, false⟩
def Reg.DUE_CTRL.AT : Nat := 0xe0000
def Reg.DUE_CTRL.DETACH : Fld := ⟨0xe0000, 4, 1, false⟩
def Reg.DUE_CTRL.SWAP : Fld := ⟨0xe0000, 3, 1, false⟩
def Reg.DUE_CTRL.UNPAIR : Fld := ⟨0xe0000, 2, 1, false⟩
def Reg.DUE_CTRL.PAIR : Fld := ⟨0xe0000, 1, 1, false⟩
def Reg.DUE_CTRL.LOCK : Fld := ⟨0xe0000, 0, 1, false⟩
def Reg.DUE_CFG.AT : Nat := 0xe0004
def Reg.DUE_CFG.ALLEM_PERIOD : Fld := ⟨0xe0004, 16, 16, false⟩
def Reg.DUE_CFG.MOT_QUIET : Fld := ⟨0xe0004, 8, 8, false⟩
def Reg.DUE_CFG.ENC_TOL : Fld := ⟨0xe0004, 4, 4, false⟩
def Reg.DUE_CFG.ALLEM_EN : Fld := ⟨0xe0004, 3, 1, false⟩
def Reg.DUE_CFG.PREF : Fld := ⟨0xe0004, 2, 1, false⟩
def Reg.DUE_CFG.SIDE : Fld := ⟨0xe0004, 1, 1, false⟩
def Reg.DUE_STS.AT : Nat := 0xe0008
def Reg.DUE_STS.EPOCH : Fld := ⟨0xe0008, 24, 8, false⟩
def Reg.DUE_STS.PAIR_RESULT : Fld := ⟨0xe0008, 20, 4, false⟩
def Reg.DUE_STS.MOT_HELD : Fld := ⟨0xe0008, 14, 1, false⟩
def Reg.DUE_STS.OWN : Fld := ⟨0xe0008, 13, 1, false⟩
def Reg.DUE_STS.LOCAL_SRC : Fld := ⟨0xe0008, 12, 1, false⟩
def Reg.DUE_STS.PIN_HB : Fld := ⟨0xe0008, 11, 1, false⟩
def Reg.DUE_STS.LANE_HB : Fld := ⟨0xe0008, 10, 1, false⟩
def Reg.DUE_STS.PEER_ROLE : Fld := ⟨0xe0008, 7, 3, false⟩
def Reg.DUE_STS.ROLE : Fld := ⟨0xe0008, 0, 3, false⟩
def Reg.DUE_EVT.AT : Nat := 0xe000c
def Reg.DUE_EVT.CFG_ERR : Fld := ⟨0xe000c, 7, 1, true⟩
def Reg.DUE_EVT.ALLEM_SKIP : Fld := ⟨0xe000c, 6, 1, true⟩
def Reg.DUE_EVT.MISMATCH : Fld := ⟨0xe000c, 5, 1, true⟩
def Reg.DUE_EVT.DIVERGE : Fld := ⟨0xe000c, 4, 1, true⟩
def Reg.DUE_EVT.REVERT : Fld := ⟨0xe000c, 3, 1, true⟩
def Reg.DUE_EVT.TAKEOVER : Fld := ⟨0xe000c, 2, 1, true⟩
def Reg.DUE_EVT.PIN_LOSS : Fld := ⟨0xe000c, 1, 1, true⟩
def Reg.DUE_EVT.LANE_LOSS : Fld := ⟨0xe000c, 0, 1, true⟩
def Reg.DUE_CNT_OFS.AT : Nat := 0xe0010
def Reg.DUE_CNT_OFS.PAIR : Pair := ⟨0xe0010⟩
def Reg.DUE_CFG_DIGEST.AT : Nat := 0xe0018
def Reg.DUE_CFG_DIGEST.DIGEST : Fld := ⟨0xe0018, 0, 32, false⟩
def Reg.DUE_ALLEM_NEXT.AT : Nat := 0xe0020
def Reg.DUE_ALLEM_NEXT.PAIR : Pair := ⟨0xe0020⟩
def Reg.DUE_CNT.AT (i : Nat) : Nat := 0xe0100 + 0x4 * i
def Reg.DUE_CNT.CNT (i : Nat) : Fld := ⟨0xe0100 + 0x4 * i, 0, 32, true⟩
def Reg.DEV_ID.AT : Nat := 0x0
def Reg.DEV_ID.PART : Fld := ⟨0x0, 16, 16, false⟩
def Reg.DEV_ID.GRADE : Fld := ⟨0x0, 12, 4, false⟩
def Reg.DEV_ID.STEP : Fld := ⟨0x0, 0, 8, false⟩
def Reg.DEV_SERIAL.AT : Nat := 0x8
def Reg.DEV_SERIAL.PAIR : Pair := ⟨0x8⟩
def Reg.DEV_CTRL.AT : Nat := 0x20
def Reg.DEV_CTRL.PERF_USER_EN : Fld := ⟨0x20, 1, 1, false⟩
def Reg.DEV_CTRL.LOCK : Fld := ⟨0x20, 0, 1, false⟩
def Reg.DEV_MODE.AT : Nat := 0x24
def Reg.DEV_MODE.RESULT : Fld := ⟨0x24, 12, 2, false⟩
def Reg.DEV_MODE.REQ : Fld := ⟨0x24, 8, 4, false⟩
def Reg.DEV_MODE.MODE : Fld := ⟨0x24, 0, 4, false⟩
def Reg.DEV_RESET.AT : Nat := 0x28
def Reg.DEV_RESET.RESET : Fld := ⟨0x28, 0, 32, false⟩
def Reg.DEV_ABORT.AT : Nat := 0x2c
def Reg.DEV_ABORT.ABORT : Fld := ⟨0x2c, 0, 32, false⟩
def Reg.DEV_OWN_CTRL.AT : Nat := 0x100
def Reg.DEV_OWN_CTRL.TARGET : Fld := ⟨0x100, 4, 2, false⟩
def Reg.DEV_OWN_CTRL.ACT : Fld := ⟨0x100, 0, 2, false⟩
def Reg.DEV_OWN_STS.AT : Nat := 0x104
def Reg.DEV_OWN_STS.REFUSED : Fld := ⟨0x104, 19, 1, true⟩
def Reg.DEV_OWN_STS.ELECTED : Fld := ⟨0x104, 18, 1, true⟩
def Reg.DEV_OWN_STS.EXPIRED : Fld := ⟨0x104, 17, 1, true⟩
def Reg.DEV_OWN_STS.HANDOVER : Fld := ⟨0x104, 16, 1, true⟩
def Reg.DEV_OWN_STS.CLAIMANTS : Fld := ⟨0x104, 8, 4, false⟩
def Reg.DEV_OWN_STS.OWNED : Fld := ⟨0x104, 2, 1, false⟩
def Reg.DEV_OWN_STS.OWNER : Fld := ⟨0x104, 0, 2, false⟩
def Reg.DEV_OWN_HB.AT : Nat := 0x108
def Reg.DEV_OWN_HB.HB : Fld := ⟨0x108, 0, 32, false⟩
def Reg.DEV_OWN_CFG.AT : Nat := 0x10c
def Reg.DEV_OWN_CFG.PRIO : Fld := ⟨0x10c, 24, 8, false⟩
def Reg.DEV_OWN_CFG.LOSS_ACT : Fld := ⟨0x10c, 16, 1, false⟩
def Reg.DEV_OWN_CFG.LEASE : Fld := ⟨0x10c, 0, 16, false⟩
def Reg.DEV_OWN_SLOT.AT : Nat := 0x110
def Reg.DEV_OWN_SLOT.SLOT : Fld := ⟨0x110, 0, 2, false⟩
def Reg.DEV_ACC_STS.AT : Nat := 0x120
def Reg.DEV_ACC_STS.LAST_SLOT : Fld := ⟨0x120, 8, 2, false⟩
def Reg.DEV_ACC_STS.LAST_BAR : Fld := ⟨0x120, 4, 2, false⟩
def Reg.DEV_ACC_STS.DBG : Fld := ⟨0x120, 2, 1, true⟩
def Reg.DEV_ACC_STS.BADSIZE : Fld := ⟨0x120, 1, 1, true⟩
def Reg.DEV_ACC_STS.NONOWNER : Fld := ⟨0x120, 0, 1, true⟩
def Reg.DEV_ACC_ADDR.AT : Nat := 0x124
def Reg.DEV_ACC_ADDR.ADDR : Fld := ⟨0x124, 0, 32, false⟩
def Reg.DEV_NONOWN_CNT.AT (i : Nat) : Nat := 0x130 + 0x4 * i
def Reg.DEV_NONOWN_CNT.CNT (i : Nat) : Fld := ⟨0x130 + 0x4 * i, 0, 32, true⟩
def Reg.DEV_PEER_ADDR.AT : Nat := 0x140
def Reg.DEV_PEER_ADDR.ADDR : Fld := ⟨0x140, 0, 26, false⟩
def Reg.DEV_PEER_DATA.AT : Nat := 0x144
def Reg.DEV_PEER_DATA.DATA : Fld := ⟨0x144, 0, 32, false⟩
def Reg.DEV_PEER_CTRL.AT : Nat := 0x148
def Reg.DEV_PEER_CTRL.FAIL : Fld := ⟨0x148, 4, 1, true⟩
def Reg.DEV_PEER_CTRL.DONE : Fld := ⟨0x148, 3, 1, true⟩
def Reg.DEV_PEER_CTRL.BUSY : Fld := ⟨0x148, 2, 1, false⟩
def Reg.DEV_PEER_CTRL.WRITE : Fld := ⟨0x148, 1, 1, false⟩
def Reg.DEV_PEER_CTRL.GO : Fld := ⟨0x148, 0, 1, false⟩
def Reg.RNG_CTRL.AT : Nat := 0xd0000
def Reg.RNG_CTRL.LOCK : Fld := ⟨0xd0000, 0, 1, false⟩
def Reg.RNG_STS.AT : Nat := 0xd0004
def Reg.RNG_STS.CFG_ERR : Fld := ⟨0xd0004, 19, 1, true⟩
def Reg.RNG_STS.CFG_RESULT : Fld := ⟨0xd0004, 16, 3, false⟩
def Reg.RNG_STS.SLOTS : Fld := ⟨0xd0004, 0, 15, false⟩
def Reg.RNG_R_CFG.AT (i : Nat) : Nat := 0xd1000 + 0x20 * i
def Reg.RNG_R_CFG.IRQ_EN (i : Nat) : Fld := ⟨0xd1000 + 0x20 * i, 27, 1, false⟩
def Reg.RNG_R_CFG.EN (i : Nat) : Fld := ⟨0xd1000 + 0x20 * i, 26, 1, false⟩
def Reg.RNG_R_CFG.VEC (i : Nat) : Fld := ⟨0xd1000 + 0x20 * i, 18, 8, false⟩
def Reg.RNG_R_CFG.CQ (i : Nat) : Fld := ⟨0xd1000 + 0x20 * i, 10, 8, false⟩
def Reg.RNG_R_CFG.LOG2 (i : Nat) : Fld := ⟨0xd1000 + 0x20 * i, 6, 4, false⟩
def Reg.RNG_R_CFG.PORT (i : Nat) : Fld := ⟨0xd1000 + 0x20 * i, 4, 1, false⟩
def Reg.RNG_R_CFG.TYPE (i : Nat) : Fld := ⟨0xd1000 + 0x20 * i, 0, 3, false⟩
def Reg.RNG_R_BASE.AT (i : Nat) : Nat := 0xd1004 + 0x20 * i
def Reg.RNG_R_BASE.PAIR (i : Nat) : Pair := ⟨0xd1004 + 0x20 * i⟩
def Reg.RNG_R_STS.AT (i : Nat) : Nat := 0xd100c + 0x20 * i
def Reg.RNG_R_STS.FULL (i : Nat) : Fld := ⟨0xd100c + 0x20 * i, 7, 1, true⟩
def Reg.RNG_R_STS.PHASE (i : Nat) : Fld := ⟨0xd100c + 0x20 * i, 6, 1, false⟩
def Reg.RNG_R_STS.FETCH_ERR (i : Nat) : Fld := ⟨0xd100c + 0x20 * i, 5, 1, true⟩
def Reg.RNG_R_STS.DB_BAD (i : Nat) : Fld := ⟨0xd100c + 0x20 * i, 4, 1, true⟩
def Reg.RNG_R_STS.ABORT_DONE (i : Nat) : Fld := ⟨0xd100c + 0x20 * i, 3, 1, true⟩
def Reg.RNG_R_STS.STATE (i : Nat) : Fld := ⟨0xd100c + 0x20 * i, 0, 3, false⟩
def Reg.RNG_R_PROD.AT (i : Nat) : Nat := 0xd1010 + 0x20 * i
def Reg.RNG_R_PROD.VAL (i : Nat) : Fld := ⟨0xd1010 + 0x20 * i, 0, 32, false⟩
def Reg.RNG_R_CONS.AT (i : Nat) : Nat := 0xd1014 + 0x20 * i
def Reg.RNG_R_CONS.VAL (i : Nat) : Fld := ⟨0xd1014 + 0x20 * i, 0, 32, false⟩
def Reg.RNG_R_HCONS.AT (i : Nat) : Nat := 0xd1018 + 0x20 * i
def Reg.RNG_R_HCONS.VAL (i : Nat) : Fld := ⟨0xd1018 + 0x20 * i, 0, 32, false⟩
def Reg.RNG_R_MOD.AT (i : Nat) : Nat := 0xd101c + 0x20 * i
def Reg.RNG_R_MOD.COUNT (i : Nat) : Fld := ⟨0xd101c + 0x20 * i, 16, 16, false⟩
def Reg.RNG_R_MOD.TIME (i : Nat) : Fld := ⟨0xd101c + 0x20 * i, 0, 16, false⟩
def Reg.RNG_EV_MASK.AT (i : Nat) : Nat := 0xd3000 + 0x4 * i
def Reg.RNG_EV_MASK.MASK (i : Nat) : Fld := ⟨0xd3000 + 0x4 * i, 0, 13, false⟩
def Reg.RNG_CNT.AT (i : Nat) : Nat := 0xd4000 + 0x4 * i
def Reg.RNG_CNT.CNT (i : Nat) : Fld := ⟨0xd4000 + 0x4 * i, 0, 32, true⟩
def Reg.MBX_CTRL.AT : Nat := 0x130000
def Reg.MBX_CTRL.GO : Fld := ⟨0x130000, 0, 1, false⟩
def Reg.MBX_STS.AT : Nat := 0x130004
def Reg.MBX_STS.CFG_ERR : Fld := ⟨0x130004, 2, 1, true⟩
def Reg.MBX_STS.DONE : Fld := ⟨0x130004, 1, 1, true⟩
def Reg.MBX_STS.BUSY : Fld := ⟨0x130004, 0, 1, false⟩
def Reg.ZIP_CTRL.AT : Nat := 0xc0000
def Reg.ZIP_CTRL.LOCK : Fld := ⟨0xc0000, 0, 1, false⟩
def Reg.ZIP_CFG.AT : Nat := 0xc0004
def Reg.ZIP_CFG.PAGE_MASK : Fld := ⟨0xc0004, 0, 8, false⟩
def Reg.ZIP_STS.AT : Nat := 0xc0008
def Reg.ZIP_STS.CFG_ERR : Fld := ⟨0xc0008, 16, 1, true⟩
def Reg.ZIP_STS.RING_BUSY : Fld := ⟨0xc0008, 8, 8, false⟩
def Reg.ZIP_STS.PAGE_BUSY : Fld := ⟨0xc0008, 0, 8, false⟩
def Reg.ZIP_CTX_BASE.AT : Nat := 0xc0010
def Reg.ZIP_CTX_BASE.PAIR : Pair := ⟨0xc0010⟩
def Reg.ZIP_PAGE_SLACK.AT : Nat := 0xc0018
def Reg.ZIP_PAGE_SLACK.SLACK : Fld := ⟨0xc0018, 0, 32, true⟩
def Reg.ZIP_RING.AT (i : Nat) : Nat := 0xc0400 + 0x4 * i
def Reg.ZIP_RING.STREAM (i : Nat) : Fld := ⟨0xc0400 + 0x4 * i, 7, 1, false⟩
def Reg.ZIP_RING.CTX (i : Nat) : Fld := ⟨0xc0400 + 0x4 * i, 0, 6, false⟩
def Reg.ZIP_CTX_STS.AT (i : Nat) : Nat := 0xc0800 + 0x4 * i
def Reg.ZIP_CTX_STS.PENDING (i : Nat) : Fld := ⟨0xc0800 + 0x4 * i, 16, 1, false⟩
def Reg.ZIP_CTX_STS.RING (i : Nat) : Fld := ⟨0xc0800 + 0x4 * i, 8, 8, false⟩
def Reg.ZIP_CTX_STS.STATE (i : Nat) : Fld := ⟨0xc0800 + 0x4 * i, 0, 2, false⟩
def Reg.ZIP_CNT.AT (i j : Nat) : Nat := 0xc0100 + 0x10 * i + 0x4 * j
def Reg.ZIP_CNT.CNT (i j : Nat) : Fld := ⟨0xc0100 + 0x10 * i + 0x4 * j, 0, 32, true⟩
def Reg.MEM_CTRL.AT : Nat := 0x603000
def Reg.MEM_CTRL.TRACK_EN : Fld := ⟨0x603000, 3, 1, false⟩
def Reg.MEM_CTRL.HOT_ACT : Fld := ⟨0x603000, 2, 1, false⟩
def Reg.MEM_CTRL.SCRUB_EN : Fld := ⟨0x603000, 1, 1, false⟩
def Reg.MEM_CTRL.LOCK : Fld := ⟨0x603000, 0, 1, false⟩
def Reg.MEM_CFG.AT : Nat := 0x603004
def Reg.MEM_CFG.GRAIN : Fld := ⟨0x603004, 0, 4, false⟩
def Reg.MEM_POP.AT : Nat := 0x603008
def Reg.MEM_POP.POP : Fld := ⟨0x603008, 16, 16, false⟩
def Reg.MEM_POP.RATE : Fld := ⟨0x603008, 8, 2, false⟩
def Reg.MEM_POP.DENS : Fld := ⟨0x603008, 4, 2, false⟩
def Reg.MEM_POP.RANKS : Fld := ⟨0x603008, 1, 1, false⟩
def Reg.MEM_POP.WIDTH : Fld := ⟨0x603008, 0, 1, false⟩
def Reg.MEM_PD.AT : Nat := 0x60300c
def Reg.MEM_PD.TIMER : Fld := ⟨0x60300c, 0, 16, false⟩
def Reg.MEM_SCRUB.AT : Nat := 0x603010
def Reg.MEM_SCRUB.CE_LIM : Fld := ⟨0x603010, 16, 16, false⟩
def Reg.MEM_SCRUB.PERIOD : Fld := ⟨0x603010, 0, 8, false⟩
def Reg.MEM_MARGIN.AT : Nat := 0x603014
def Reg.MEM_MARGIN.MIN : Fld := ⟨0x603014, 0, 8, false⟩
def Reg.MEM_ARB.AT : Nat := 0x603018
def Reg.MEM_ARB.BULK : Fld := ⟨0x603018, 16, 8, false⟩
def Reg.MEM_ARB.SYS : Fld := ⟨0x603018, 8, 8, false⟩
def Reg.MEM_ARB.PAGE : Fld := ⟨0x603018, 0, 8, false⟩
def Reg.MEM_STS.AT : Nat := 0x603020
def Reg.MEM_STS.EN_MASK : Fld := ⟨0x603020, 16, 16, false⟩
def Reg.MEM_STS.N : Fld := ⟨0x603020, 8, 5, false⟩
def Reg.MEM_STS.CFG_ERR : Fld := ⟨0x603020, 4, 1, true⟩
def Reg.MEM_STS.HOT : Fld := ⟨0x603020, 3, 1, true⟩
def Reg.MEM_STS.REF2X : Fld := ⟨0x603020, 2, 1, false⟩
def Reg.MEM_STS.TICK_OVER : Fld := ⟨0x603020, 1, 1, true⟩
def Reg.MEM_STS.FROZEN : Fld := ⟨0x603020, 0, 1, false⟩
def Reg.MEM_CAP.AT : Nat := 0x603028
def Reg.MEM_CAP.PAIR : Pair := ⟨0x603028⟩
def Reg.MEM_PLAN.AT : Nat := 0x603030
def Reg.MEM_PLAN.CAP2 : Fld := ⟨0x603030, 16, 10, false⟩
def Reg.MEM_PLAN.CAP1 : Fld := ⟨0x603030, 0, 10, false⟩
def Reg.MEM_FRZ_STS.AT : Nat := 0x603040
def Reg.MEM_FRZ_STS.MC : Fld := ⟨0x603040, 28, 4, false⟩
def Reg.MEM_FRZ_STS.CAUSE : Fld := ⟨0x603040, 24, 4, false⟩
def Reg.MEM_FRZ_STS.CLASS : Fld := ⟨0x603040, 20, 4, false⟩
def Reg.MEM_FRZ_STS.SYND : Fld := ⟨0x603040, 8, 8, false⟩
def Reg.MEM_FRZ_STS.VALID : Fld := ⟨0x603040, 0, 1, false⟩
def Reg.MEM_FRZ_ADDR.AT : Nat := 0x603048
def Reg.MEM_FRZ_ADDR.PAIR : Pair := ⟨0x603048⟩
def Reg.MEM_FRZ_TIME.AT : Nat := 0x603050
def Reg.MEM_FRZ_TIME.PAIR : Pair := ⟨0x603050⟩
def Reg.MEM_FRZ_LOC.AT : Nat := 0x603058
def Reg.MEM_FRZ_LOC.ROW : Fld := ⟨0x603058, 14, 18, false⟩
def Reg.MEM_FRZ_LOC.RANK : Fld := ⟨0x603058, 13, 1, false⟩
def Reg.MEM_FRZ_LOC.BA : Fld := ⟨0x603058, 11, 2, false⟩
def Reg.MEM_FRZ_LOC.BG : Fld := ⟨0x603058, 8, 3, false⟩
def Reg.MEM_FRZ_LOC.C : Fld := ⟨0x603058, 0, 6, false⟩
def Reg.MC_CTRL.AT (i : Nat) : Nat := 0x600000 + 0x4000 * i
def Reg.MC_CTRL.RETRAIN (i : Nat) : Fld := ⟨0x600000 + 0x4000 * i, 0, 1, false⟩
def Reg.MC_STS.AT (i : Nat) : Nat := 0x600004 + 0x4000 * i
def Reg.MC_STS.RESULT (i : Nat) : Fld := ⟨0x600004 + 0x4000 * i, 8, 2, false⟩
def Reg.MC_STS.RETRAIN_FAIL (i : Nat) : Fld := ⟨0x600004 + 0x4000 * i, 7, 1, true⟩
def Reg.MC_STS.REF2X_REQ (i : Nat) : Fld := ⟨0x600004 + 0x4000 * i, 6, 1, false⟩
def Reg.MC_STS.DRIFT (i : Nat) : Fld := ⟨0x600004 + 0x4000 * i, 5, 1, true⟩
def Reg.MC_STS.MARGINAL (i : Nat) : Fld := ⟨0x600004 + 0x4000 * i, 4, 1, false⟩
def Reg.MC_STS.STATE (i : Nat) : Fld := ⟨0x600004 + 0x4000 * i, 0, 4, false⟩
def Reg.MC_CE_CNT.AT (i : Nat) : Nat := 0x600010 + 0x4000 * i
def Reg.MC_CE_CNT.CNT (i : Nat) : Fld := ⟨0x600010 + 0x4000 * i, 0, 32, true⟩
def Reg.MC_CE_LASTING.AT (i : Nat) : Nat := 0x600014 + 0x4000 * i
def Reg.MC_CE_LASTING.CNT (i : Nat) : Fld := ⟨0x600014 + 0x4000 * i, 0, 32, true⟩
def Reg.MC_TICK_OVER.AT (i : Nat) : Nat := 0x600018 + 0x4000 * i
def Reg.MC_TICK_OVER.CNT (i : Nat) : Fld := ⟨0x600018 + 0x4000 * i, 0, 32, true⟩
def Reg.MC_CE_ADDR.AT (i : Nat) : Nat := 0x600020 + 0x4000 * i
def Reg.MC_CE_ADDR.PAIR (i : Nat) : Pair := ⟨0x600020 + 0x4000 * i⟩
def Reg.MC_MARGIN.AT (i : Nat) : Nat := 0x600028 + 0x4000 * i
def Reg.MC_MARGIN.WR_L (i : Nat) : Fld := ⟨0x600028 + 0x4000 * i, 24, 8, false⟩
def Reg.MC_MARGIN.WR_R (i : Nat) : Fld := ⟨0x600028 + 0x4000 * i, 16, 8, false⟩
def Reg.MC_MARGIN.RD_L (i : Nat) : Fld := ⟨0x600028 + 0x4000 * i, 8, 8, false⟩
def Reg.MC_MARGIN.RD_R (i : Nat) : Fld := ⟨0x600028 + 0x4000 * i, 0, 8, false⟩
def Reg.MC_PG_CTRL.AT (i : Nat) : Nat := 0x600100 + 0x4000 * i
def Reg.MC_PG_CTRL.OP (i : Nat) : Fld := ⟨0x600100 + 0x4000 * i, 4, 2, false⟩
def Reg.MC_PG_CTRL.MODE (i : Nat) : Fld := ⟨0x600100 + 0x4000 * i, 2, 2, false⟩
def Reg.MC_PG_CTRL.BUSY (i : Nat) : Fld := ⟨0x600100 + 0x4000 * i, 1, 1, false⟩
def Reg.MC_PG_CTRL.GO (i : Nat) : Fld := ⟨0x600100 + 0x4000 * i, 0, 1, false⟩
def Reg.MC_PG_DATA.AT (i : Nat) : Nat := 0x600104 + 0x4000 * i
def Reg.MC_PG_DATA.PAIR (i : Nat) : Pair := ⟨0x600104 + 0x4000 * i⟩
def Reg.MC_PG_ADDR.AT (i : Nat) : Nat := 0x60010c + 0x4000 * i
def Reg.MC_PG_ADDR.ADDR (i : Nat) : Fld := ⟨0x60010c + 0x4000 * i, 0, 28, false⟩
def Reg.MC_PG_COUNT.AT (i : Nat) : Nat := 0x600110 + 0x4000 * i
def Reg.MC_PG_COUNT.COUNT (i : Nat) : Fld := ⟨0x600110 + 0x4000 * i, 0, 32, false⟩
def Reg.MC_CMP_MASK.AT (i : Nat) : Nat := 0x600114 + 0x4000 * i
def Reg.MC_CMP_MASK.PAIR (i : Nat) : Pair := ⟨0x600114 + 0x4000 * i⟩
def Reg.MC_CMP_CNT.AT (i : Nat) : Nat := 0x60011c + 0x4000 * i
def Reg.MC_CMP_CNT.CNT (i : Nat) : Fld := ⟨0x60011c + 0x4000 * i, 0, 32, true⟩
def Reg.MC_MRA.AT (i : Nat) : Nat := 0x600130 + 0x4000 * i
def Reg.MC_MRA.DATA (i : Nat) : Fld := ⟨0x600130 + 0x4000 * i, 24, 8, false⟩
def Reg.MC_MRA.ADDR (i : Nat) : Fld := ⟨0x600130 + 0x4000 * i, 16, 8, false⟩
def Reg.MC_MRA.RANK (i : Nat) : Fld := ⟨0x600130 + 0x4000 * i, 15, 1, false⟩
def Reg.MC_MRA.READ (i : Nat) : Fld := ⟨0x600130 + 0x4000 * i, 14, 1, false⟩
def Reg.MC_MRA.BUSY (i : Nat) : Fld := ⟨0x600130 + 0x4000 * i, 13, 1, false⟩
def Reg.MC_MRA.GO (i : Nat) : Fld := ⟨0x600130 + 0x4000 * i, 12, 1, false⟩
def Reg.MC_DQ_DLY.AT (i j : Nat) : Nat := 0x600200 + 0x4000 * i + 0x4 * j
def Reg.MC_DQ_DLY.RD (i j : Nat) : Fld := ⟨0x600200 + 0x4000 * i + 0x4 * j, 8, 8, false⟩
def Reg.MC_DQ_DLY.WR (i j : Nat) : Fld := ⟨0x600200 + 0x4000 * i + 0x4 * j, 0, 8, false⟩
def Reg.MC_LANE_DLY.AT (i j : Nat) : Nat := 0x600300 + 0x4000 * i + 0x4 * j
def Reg.MC_LANE_DLY.RCVEN (i j : Nat) : Fld := ⟨0x600300 + 0x4000 * i + 0x4 * j, 16, 8, false⟩
def Reg.MC_LANE_DLY.RDQS (i j : Nat) : Fld := ⟨0x600300 + 0x4000 * i + 0x4 * j, 8, 8, false⟩
def Reg.MC_LANE_DLY.WLVL (i j : Nat) : Fld := ⟨0x600300 + 0x4000 * i + 0x4 * j, 0, 8, false⟩
def Reg.MC_CA_DLY.AT (i j : Nat) : Nat := 0x600340 + 0x4000 * i + 0x4 * j
def Reg.MC_CA_DLY.DLY (i j : Nat) : Fld := ⟨0x600340 + 0x4000 * i + 0x4 * j, 0, 8, false⟩
def Reg.MC_VREF.AT (i : Nat) : Nat := 0x600380 + 0x4000 * i
def Reg.MC_VREF.HOST_RX (i : Nat) : Fld := ⟨0x600380 + 0x4000 * i, 16, 8, false⟩
def Reg.MC_VREF.DRAM_DQ (i : Nat) : Fld := ⟨0x600380 + 0x4000 * i, 8, 8, false⟩
def Reg.MC_VREF.DRAM_CA (i : Nat) : Fld := ⟨0x600380 + 0x4000 * i, 0, 8, false⟩
def Reg.FLD_CTRL.AT : Nat := 0xf0000
def Reg.FLD_CTRL.STATUS_REQ : Fld := ⟨0xf0000, 2, 1, false⟩
def Reg.FLD_CTRL.ARM : Fld := ⟨0xf0000, 1, 1, false⟩
def Reg.FLD_CTRL.LOCK : Fld := ⟨0xf0000, 0, 1, false⟩
def Reg.FLD_STS.AT : Nat := 0xf0004
def Reg.FLD_STS.OWN : Fld := ⟨0xf0004, 8, 1, false⟩
def Reg.FLD_STS.DRIVE : Fld := ⟨0xf0004, 7, 1, false⟩
def Reg.FLD_STS.CFG_PEND : Fld := ⟨0xf0004, 6, 1, false⟩
def Reg.FLD_STS.SAFE24_OK : Fld := ⟨0xf0004, 5, 1, false⟩
def Reg.FLD_STS.TIME_LOCK : Fld := ⟨0xf0004, 4, 1, false⟩
def Reg.FLD_STS.STATE : Fld := ⟨0xf0004, 0, 3, false⟩
def Reg.FLD_EVT.AT : Nat := 0xf0008
def Reg.FLD_EVT.UART_OVF : Fld := ⟨0xf0008, 8, 1, true⟩
def Reg.FLD_EVT.ENC_LINE : Fld := ⟨0xf0008, 7, 1, true⟩
def Reg.FLD_EVT.HOT : Fld := ⟨0xf0008, 6, 1, true⟩
def Reg.FLD_EVT.CFG_ERR : Fld := ⟨0xf0008, 5, 1, true⟩
def Reg.FLD_EVT.BURST : Fld := ⟨0xf0008, 4, 1, true⟩
def Reg.FLD_EVT.CMD_FAIL : Fld := ⟨0xf0008, 3, 1, true⟩
def Reg.FLD_EVT.PWR_FAIL : Fld := ⟨0xf0008, 2, 1, true⟩
def Reg.FLD_EVT.ORPHANED : Fld := ⟨0xf0008, 1, 1, true⟩
def Reg.FLD_EVT.LOST : Fld := ⟨0xf0008, 0, 1, true⟩
def Reg.FLD_HEALTH.AT : Nat := 0xf000c
def Reg.FLD_HEALTH.I24 : Fld := ⟨0xf000c, 24, 8, false⟩
def Reg.FLD_HEALTH.V24 : Fld := ⟨0xf000c, 12, 12, false⟩
def Reg.FLD_HEALTH.TEMP : Fld := ⟨0xf000c, 0, 12, false⟩
def Reg.FLD_DI_CFG.AT (i : Nat) : Nat := 0xf0100 + 0x4 * i
def Reg.FLD_DI_CFG.AXMASK (i : Nat) : Fld := ⟨0xf0100 + 0x4 * i, 12, 4, false⟩
def Reg.FLD_DI_CFG.SAFESTOP (i : Nat) : Fld := ⟨0xf0100 + 0x4 * i, 11, 1, false⟩
def Reg.FLD_DI_CFG.SAFE (i : Nat) : Fld := ⟨0xf0100 + 0x4 * i, 10, 1, false⟩
def Reg.FLD_DI_CFG.FUNC (i : Nat) : Fld := ⟨0xf0100 + 0x4 * i, 8, 2, false⟩
def Reg.FLD_DI_CFG.FILT (i : Nat) : Fld := ⟨0xf0100 + 0x4 * i, 0, 8, false⟩
def Reg.FLD_DI_STS.AT : Nat := 0xf0140
def Reg.FLD_DI_STS.BAND : Fld := ⟨0xf0140, 16, 12, false⟩
def Reg.FLD_DI_STS.LEVEL : Fld := ⟨0xf0140, 0, 12, false⟩
def Reg.FLD_DI_EVT.AT : Nat := 0xf0144
def Reg.FLD_DI_EVT.INTERLOCK : Fld := ⟨0xf0144, 17, 1, true⟩
def Reg.FLD_DI_EVT.WEB_BREAK : Fld := ⟨0xf0144, 16, 1, true⟩
def Reg.FLD_DI_EVT.CHG : Fld := ⟨0xf0144, 0, 12, true⟩
def Reg.FLD_OUT_CFG.AT (i : Nat) : Nat := 0xf0180 + 0x4 * i
def Reg.FLD_OUT_CFG.AXIS (i : Nat) : Fld := ⟨0xf0180 + 0x4 * i, 7, 2, false⟩
def Reg.FLD_OUT_CFG.FUNC (i : Nat) : Fld := ⟨0xf0180 + 0x4 * i, 6, 1, false⟩
def Reg.FLD_OUT_CFG.SHARED (i : Nat) : Fld := ⟨0xf0180 + 0x4 * i, 5, 1, false⟩
def Reg.FLD_OUT_CFG.RST_VAL (i : Nat) : Fld := ⟨0xf0180 + 0x4 * i, 4, 1, false⟩
def Reg.FLD_OUT_CFG.RST_ACT (i : Nat) : Fld := ⟨0xf0180 + 0x4 * i, 2, 2, false⟩
def Reg.FLD_OUT_CFG.MODE (i : Nat) : Fld := ⟨0xf0180 + 0x4 * i, 0, 2, false⟩
def Reg.FLD_OUT_VAL.AT : Nat := 0xf01a0
def Reg.FLD_OUT_VAL.VALUE : Fld := ⟨0xf01a0, 0, 8, false⟩
def Reg.FLD_OUT_STS.AT : Nat := 0xf01a4
def Reg.FLD_OUT_STS.OWN : Fld := ⟨0xf01a4, 24, 1, false⟩
def Reg.FLD_OUT_STS.LATCHED : Fld := ⟨0xf01a4, 16, 8, false⟩
def Reg.FLD_OUT_STS.READBACK : Fld := ⟨0xf01a4, 8, 8, false⟩
def Reg.FLD_OUT_STS.VALUE : Fld := ⟨0xf01a4, 0, 8, false⟩
def Reg.FLD_OUT_EVT.AT : Nat := 0xf01a8
def Reg.FLD_OUT_EVT.OC : Fld := ⟨0xf01a8, 8, 8, true⟩
def Reg.FLD_OUT_EVT.RB : Fld := ⟨0xf01a8, 0, 8, true⟩
def Reg.FLD_OUT_CLR.AT : Nat := 0xf01ac
def Reg.FLD_OUT_CLR.CLR : Fld := ⟨0xf01ac, 0, 8, false⟩
def Reg.FLD_SPD_CFG.AT : Nat := 0xf01c0
def Reg.FLD_SPD_CFG.EN : Fld := ⟨0xf01c0, 16, 1, false⟩
def Reg.FLD_SPD_CFG.DIV : Fld := ⟨0xf01c0, 0, 10, false⟩
def Reg.FLD_UART_CFG.AT : Nat := 0xf01c4
def Reg.FLD_UART_CFG.CON_EN : Fld := ⟨0xf01c4, 3, 1, false⟩
def Reg.FLD_UART_CFG.BAUD : Fld := ⟨0xf01c4, 0, 3, false⟩
def Reg.FLD_AE_CFG.AT (i : Nat) : Nat := 0xf01e0 + 0x4 * i
def Reg.FLD_AE_CFG.FILT (i : Nat) : Fld := ⟨0xf01e0 + 0x4 * i, 10, 6, false⟩
def Reg.FLD_AE_CFG.CLK (i : Nat) : Fld := ⟨0xf01e0 + 0x4 * i, 7, 3, false⟩
def Reg.FLD_AE_CFG.GRAY (i : Nat) : Fld := ⟨0xf01e0 + 0x4 * i, 6, 1, false⟩
def Reg.FLD_AE_CFG.BITS (i : Nat) : Fld := ⟨0xf01e0 + 0x4 * i, 1, 5, false⟩
def Reg.FLD_AE_CFG.SSI (i : Nat) : Fld := ⟨0xf01e0 + 0x4 * i, 0, 1, false⟩
def Reg.FLD_CNT.AT (i : Nat) : Nat := 0xf0300 + 0x4 * i
def Reg.FLD_CNT.CNT (i : Nat) : Fld := ⟨0xf0300 + 0x4 * i, 0, 32, true⟩
def Reg.MOT_CTRL.AT : Nat := 0x100000
def Reg.MOT_CTRL.LOCK : Fld := ⟨0x100000, 0, 1, false⟩
def Reg.MOT_GANTRY.AT : Nat := 0x100004
def Reg.MOT_GANTRY.EN : Fld := ⟨0x100004, 31, 1, false⟩
def Reg.MOT_GANTRY.SKEW : Fld := ⟨0x100004, 0, 24, false⟩
def Reg.MOT_EVT.AT : Nat := 0x100008
def Reg.MOT_EVT.HELD_DROP : Fld := ⟨0x100008, 1, 1, true⟩
def Reg.MOT_EVT.FRAME_DROP : Fld := ⟨0x100008, 0, 1, true⟩
def Reg.MOT_CNT.AT (i : Nat) : Nat := 0x100100 + 0x4 * i
def Reg.MOT_CNT.CNT (i : Nat) : Fld := ⟨0x100100 + 0x4 * i, 0, 32, true⟩
def Reg.AX_CMD.AT (i : Nat) : Nat := 0x101000 + 0x400 * i
def Reg.AX_CMD.LAST (i : Nat) : Fld := ⟨0x101000 + 0x400 * i, 16, 6, false⟩
def Reg.AX_CMD.FIRST (i : Nat) : Fld := ⟨0x101000 + 0x400 * i, 8, 6, false⟩
def Reg.AX_CMD.ACT (i : Nat) : Fld := ⟨0x101000 + 0x400 * i, 0, 3, false⟩
def Reg.AX_TARGET.AT (i : Nat) : Nat := 0x101004 + 0x400 * i
def Reg.AX_TARGET.TARGET (i : Nat) : Fld := ⟨0x101004 + 0x400 * i, 0, 32, false⟩
def Reg.AX_CFG.AT (i : Nat) : Nat := 0x101008 + 0x400 * i
def Reg.AX_CFG.DECAY (i : Nat) : Fld := ⟨0x101008 + 0x400 * i, 5, 2, false⟩
def Reg.AX_CFG.RAISE (i : Nat) : Fld := ⟨0x101008 + 0x400 * i, 4, 1, false⟩
def Reg.AX_CFG.ENC_INV (i : Nat) : Fld := ⟨0x101008 + 0x400 * i, 3, 1, false⟩
def Reg.AX_CFG.ENC_EN (i : Nat) : Fld := ⟨0x101008 + 0x400 * i, 2, 1, false⟩
def Reg.AX_CFG.REG (i : Nat) : Fld := ⟨0x101008 + 0x400 * i, 1, 1, false⟩
def Reg.AX_CFG.RETARGET (i : Nat) : Fld := ⟨0x101008 + 0x400 * i, 0, 1, false⟩
def Reg.AX_VMAX.AT (i : Nat) : Nat := 0x10100c + 0x400 * i
def Reg.AX_VMAX.VAL (i : Nat) : Fld := ⟨0x10100c + 0x400 * i, 0, 24, false⟩
def Reg.AX_AMAX.AT (i : Nat) : Nat := 0x101010 + 0x400 * i
def Reg.AX_AMAX.VAL (i : Nat) : Fld := ⟨0x101010 + 0x400 * i, 0, 24, false⟩
def Reg.AX_JMAX.AT (i : Nat) : Nat := 0x101014 + 0x400 * i
def Reg.AX_JMAX.VAL (i : Nat) : Fld := ⟨0x101014 + 0x400 * i, 0, 24, false⟩
def Reg.AX_STOP_A.AT (i : Nat) : Nat := 0x101018 + 0x400 * i
def Reg.AX_STOP_A.VAL (i : Nat) : Fld := ⟨0x101018 + 0x400 * i, 0, 24, false⟩
def Reg.AX_STOP_J.AT (i : Nat) : Nat := 0x10101c + 0x400 * i
def Reg.AX_STOP_J.VAL (i : Nat) : Fld := ⟨0x10101c + 0x400 * i, 0, 24, false⟩
def Reg.AX_PARK.AT (i : Nat) : Nat := 0x101020 + 0x400 * i
def Reg.AX_PARK.VAL (i : Nat) : Fld := ⟨0x101020 + 0x400 * i, 0, 32, false⟩
def Reg.AX_EM_V.AT (i : Nat) : Nat := 0x101024 + 0x400 * i
def Reg.AX_EM_V.VAL (i : Nat) : Fld := ⟨0x101024 + 0x400 * i, 0, 24, false⟩
def Reg.AX_EM_A.AT (i : Nat) : Nat := 0x101028 + 0x400 * i
def Reg.AX_EM_A.VAL (i : Nat) : Fld := ⟨0x101028 + 0x400 * i, 0, 24, false⟩
def Reg.AX_CUR1.AT (i : Nat) : Nat := 0x10102c + 0x400 * i
def Reg.AX_CUR1.IMAX (i : Nat) : Fld := ⟨0x10102c + 0x400 * i, 16, 16, false⟩
def Reg.AX_CUR1.IRUN (i : Nat) : Fld := ⟨0x10102c + 0x400 * i, 0, 16, false⟩
def Reg.AX_CUR2.AT (i : Nat) : Nat := 0x101030 + 0x400 * i
def Reg.AX_CUR2.BRK_DELAY (i : Nat) : Fld := ⟨0x101030 + 0x400 * i, 24, 8, false⟩
def Reg.AX_CUR2.HOLD_DELAY (i : Nat) : Fld := ⟨0x101030 + 0x400 * i, 16, 8, false⟩
def Reg.AX_CUR2.IHOLD (i : Nat) : Fld := ⟨0x101030 + 0x400 * i, 0, 16, false⟩
def Reg.AX_ADAPT.AT (i : Nat) : Nat := 0x101034 + 0x400 * i
def Reg.AX_ADAPT.STALL_T (i : Nat) : Fld := ⟨0x101034 + 0x400 * i, 16, 8, false⟩
def Reg.AX_ADAPT.DHI (i : Nat) : Fld := ⟨0x101034 + 0x400 * i, 8, 8, false⟩
def Reg.AX_ADAPT.DLO (i : Nat) : Fld := ⟨0x101034 + 0x400 * i, 0, 8, false⟩
def Reg.AX_FOLLOW.AT (i : Nat) : Nat := 0x101038 + 0x400 * i
def Reg.AX_FOLLOW.LIM (i : Nat) : Fld := ⟨0x101038 + 0x400 * i, 0, 24, false⟩
def Reg.AX_HYST.AT (i : Nat) : Nat := 0x10103c + 0x400 * i
def Reg.AX_HYST.TOFF (i : Nat) : Fld := ⟨0x10103c + 0x400 * i, 16, 8, false⟩
def Reg.AX_HYST.BLANK (i : Nat) : Fld := ⟨0x10103c + 0x400 * i, 12, 4, false⟩
def Reg.AX_HYST.HYST (i : Nat) : Fld := ⟨0x10103c + 0x400 * i, 0, 12, false⟩
def Reg.AX_VM1.AT (i : Nat) : Nat := 0x101040 + 0x400 * i
def Reg.AX_VM1.KL (i : Nat) : Fld := ⟨0x101040 + 0x400 * i, 16, 16, false⟩
def Reg.AX_VM1.KR (i : Nat) : Fld := ⟨0x101040 + 0x400 * i, 0, 16, false⟩
def Reg.AX_VM2.AT (i : Nat) : Nat := 0x101044 + 0x400 * i
def Reg.AX_VM2.VBUS (i : Nat) : Fld := ⟨0x101044 + 0x400 * i, 16, 16, false⟩
def Reg.AX_VM2.KE (i : Nat) : Fld := ⟨0x101044 + 0x400 * i, 0, 16, false⟩
def Reg.AX_VM3.AT (i : Nat) : Nat := 0x101048 + 0x400 * i
def Reg.AX_VM3.KI (i : Nat) : Fld := ⟨0x101048 + 0x400 * i, 16, 16, false⟩
def Reg.AX_VM3.KP (i : Nat) : Fld := ⟨0x101048 + 0x400 * i, 0, 16, false⟩
def Reg.AX_ENC_RATIO.AT (i : Nat) : Nat := 0x10104c + 0x400 * i
def Reg.AX_ENC_RATIO.RATIO (i : Nat) : Fld := ⟨0x10104c + 0x400 * i, 0, 32, false⟩
def Reg.AX_CS.AT (i : Nat) : Nat := 0x101050 + 0x400 * i
def Reg.AX_CS.FS (i : Nat) : Fld := ⟨0x101050 + 0x400 * i, 0, 16, false⟩
def Reg.AX_STS.AT (i : Nat) : Nat := 0x101080 + 0x400 * i
def Reg.AX_STS.CUR (i : Nat) : Fld := ⟨0x101080 + 0x400 * i, 24, 8, false⟩
def Reg.AX_STS.LOAD (i : Nat) : Fld := ⟨0x101080 + 0x400 * i, 16, 8, false⟩
def Reg.AX_STS.REFUSE (i : Nat) : Fld := ⟨0x101080 + 0x400 * i, 13, 3, false⟩
def Reg.AX_STS.BRAKE (i : Nat) : Fld := ⟨0x101080 + 0x400 * i, 11, 1, false⟩
def Reg.AX_STS.POS_VALID (i : Nat) : Fld := ⟨0x101080 + 0x400 * i, 10, 1, false⟩
def Reg.AX_STS.SEG (i : Nat) : Fld := ⟨0x101080 + 0x400 * i, 4, 6, false⟩
def Reg.AX_STS.STATE (i : Nat) : Fld := ⟨0x101080 + 0x400 * i, 0, 4, false⟩
def Reg.AX_POS.AT (i : Nat) : Nat := 0x101084 + 0x400 * i
def Reg.AX_POS.POS (i : Nat) : Fld := ⟨0x101084 + 0x400 * i, 0, 32, false⟩
def Reg.AX_ENCPOS.AT (i : Nat) : Nat := 0x101088 + 0x400 * i
def Reg.AX_ENCPOS.ENCPOS (i : Nat) : Fld := ⟨0x101088 + 0x400 * i, 0, 32, false⟩
def Reg.AX_REMAIN.AT (i : Nat) : Nat := 0x10108c + 0x400 * i
def Reg.AX_REMAIN.REMAIN (i : Nat) : Fld := ⟨0x10108c + 0x400 * i, 0, 32, false⟩
def Reg.AX_TGT.AT (i : Nat) : Nat := 0x101090 + 0x400 * i
def Reg.AX_TGT.TGT (i : Nat) : Fld := ⟨0x101090 + 0x400 * i, 0, 32, false⟩
def Reg.AX_EVT.AT (i : Nat) : Nat := 0x101094 + 0x400 * i
def Reg.AX_EVT.LIM_HELD (i : Nat) : Fld := ⟨0x101094 + 0x400 * i, 9, 1, true⟩
def Reg.AX_EVT.COIL (i : Nat) : Fld := ⟨0x101094 + 0x400 * i, 8, 1, true⟩
def Reg.AX_EVT.PARK_FAIL (i : Nat) : Fld := ⟨0x101094 + 0x400 * i, 7, 1, true⟩
def Reg.AX_EVT.PARKED (i : Nat) : Fld := ⟨0x101094 + 0x400 * i, 6, 1, true⟩
def Reg.AX_EVT.SKEW (i : Nat) : Fld := ⟨0x101094 + 0x400 * i, 5, 1, true⟩
def Reg.AX_EVT.FOLLOW (i : Nat) : Fld := ⟨0x101094 + 0x400 * i, 4, 1, true⟩
def Reg.AX_EVT.STALL (i : Nat) : Fld := ⟨0x101094 + 0x400 * i, 3, 1, true⟩
def Reg.AX_EVT.PROFILE (i : Nat) : Fld := ⟨0x101094 + 0x400 * i, 2, 1, true⟩
def Reg.AX_EVT.REFUSED (i : Nat) : Fld := ⟨0x101094 + 0x400 * i, 1, 1, true⟩
def Reg.AX_EVT.DONE (i : Nat) : Fld := ⟨0x101094 + 0x400 * i, 0, 1, true⟩
def Reg.AX_SEG_DUR.AT (i j : Nat) : Nat := 0x101100 + 0x400 * i + 0xc * j
def Reg.AX_SEG_DUR.DUR (i j : Nat) : Fld := ⟨0x101100 + 0x400 * i + 0xc * j, 0, 32, false⟩
def Reg.AX_SEG_POS.AT (i j : Nat) : Nat := 0x101104 + 0x400 * i + 0xc * j
def Reg.AX_SEG_POS.POS (i j : Nat) : Fld := ⟨0x101104 + 0x400 * i + 0xc * j, 0, 32, false⟩
def Reg.AX_SEG_VEL.AT (i j : Nat) : Nat := 0x101108 + 0x400 * i + 0xc * j
def Reg.AX_SEG_VEL.VEL (i j : Nat) : Fld := ⟨0x101108 + 0x400 * i + 0xc * j, 0, 32, false⟩
def Reg.PWR_CTRL.AT : Nat := 0x10000
def Reg.PWR_CTRL.M7_SPARE_EN : Fld := ⟨0x10000, 1, 1, false⟩
def Reg.PWR_CTRL.LOCK : Fld := ⟨0x10000, 0, 1, false⟩
def Reg.PWR_DOM_CTRL.AT : Nat := 0x10004
def Reg.PWR_DOM_CTRL.REQ : Fld := ⟨0x10004, 0, 21, false⟩
def Reg.PWR_DOM_STS.AT : Nat := 0x10008
def Reg.PWR_DOM_STS.RESULT : Fld := ⟨0x10008, 24, 3, false⟩
def Reg.PWR_DOM_STS.ON : Fld := ⟨0x10008, 0, 21, false⟩
def Reg.PWR_DOM_CFG.AT : Nat := 0x1000c
def Reg.PWR_DOM_CFG.M4_ON : Fld := ⟨0x1000c, 0, 21, false⟩
def Reg.PWR_LEVEL.AT : Nat := 0x10010
def Reg.PWR_LEVEL.CAUSE : Fld := ⟨0x10010, 17, 2, false⟩
def Reg.PWR_LEVEL.SURGE_OK : Fld := ⟨0x10010, 16, 1, false⟩
def Reg.PWR_LEVEL.POWER : Fld := ⟨0x10010, 12, 3, false⟩
def Reg.PWR_LEVEL.THERM : Fld := ⟨0x10010, 8, 3, false⟩
def Reg.PWR_LEVEL.IN_FORCE : Fld := ⟨0x10010, 4, 3, false⟩
def Reg.PWR_LEVEL.REQ : Fld := ⟨0x10010, 0, 3, false⟩
def Reg.PWR_SURGE.AT : Nat := 0x10014
def Reg.PWR_SURGE.USED : Fld := ⟨0x10014, 0, 16, false⟩
def Reg.PWR_CEIL.AT : Nat := 0x10018
def Reg.PWR_CEIL.CEIL : Fld := ⟨0x10018, 0, 18, false⟩
def Reg.PWR_EST.AT : Nat := 0x1001c
def Reg.PWR_EST.EST : Fld := ⟨0x1001c, 0, 18, false⟩
def Reg.PWR_CLK.AT : Nat := 0x10020
def Reg.PWR_CLK.ENG_MHZ : Fld := ⟨0x10020, 0, 12, false⟩
def Reg.PWR_SAFESTOP.AT : Nat := 0x10024
def Reg.PWR_SAFESTOP.CNT : Fld := ⟨0x10024, 16, 16, true⟩
def Reg.PWR_SAFESTOP.CAUSE : Fld := ⟨0x10024, 0, 16, false⟩
def Reg.PWR_BOOT_CTRL.AT : Nat := 0x10040
def Reg.PWR_BOOT_CTRL.SRC : Fld := ⟨0x10040, 1, 1, false⟩
def Reg.PWR_BOOT_CTRL.GO : Fld := ⟨0x10040, 0, 1, false⟩
def Reg.PWR_BOOT_STS.AT : Nat := 0x10044
def Reg.PWR_BOOT_STS.SVN : Fld := ⟨0x10044, 16, 8, false⟩
def Reg.PWR_BOOT_STS.SLOT : Fld := ⟨0x10044, 8, 1, false⟩
def Reg.PWR_BOOT_STS.RESULT : Fld := ⟨0x10044, 4, 4, false⟩
def Reg.PWR_BOOT_STS.STEP : Fld := ⟨0x10044, 0, 4, false⟩
def Reg.PWR_BOOT_ADDR.AT : Nat := 0x10048
def Reg.PWR_BOOT_ADDR.PAIR : Pair := ⟨0x10048⟩
def Reg.PWR_BOOT_LEN.AT : Nat := 0x10050
def Reg.PWR_BOOT_LEN.LEN : Fld := ⟨0x10050, 0, 24, false⟩
def Reg.THM_CTRL.AT : Nat := 0x20000
def Reg.THM_CTRL.LOCK : Fld := ⟨0x20000, 0, 1, false⟩
def Reg.THM_STS.AT : Nat := 0x20004
def Reg.THM_STS.HOTTEST : Fld := ⟨0x20004, 24, 5, false⟩
def Reg.THM_STS.BROKEN : Fld := ⟨0x20004, 8, 5, false⟩
def Reg.THM_STS.THROTTLE : Fld := ⟨0x20004, 1, 1, false⟩
def Reg.THM_STS.WARN : Fld := ⟨0x20004, 0, 1, false⟩
def Reg.THM_EVT.AT : Nat := 0x20008
def Reg.THM_EVT.HEAD_HOT : Fld := ⟨0x20008, 3, 1, true⟩
def Reg.THM_EVT.BROKEN : Fld := ⟨0x20008, 2, 1, true⟩
def Reg.THM_EVT.THROTTLE : Fld := ⟨0x20008, 1, 1, true⟩
def Reg.THM_EVT.WARN : Fld := ⟨0x20008, 0, 1, true⟩
def Reg.THM_TRIP.AT : Nat := 0x2000c
def Reg.THM_TRIP.VALID : Fld := ⟨0x2000c, 31, 1, false⟩
def Reg.THM_TRIP.TRIP : Fld := ⟨0x2000c, 0, 24, false⟩
def Reg.THM_HEAD_LIM.AT : Nat := 0x20010
def Reg.THM_HEAD_LIM.LIM : Fld := ⟨0x20010, 0, 16, false⟩
def Reg.THM_DOM_LVL.AT : Nat := 0x20014
def Reg.THM_DOM_LVL.PAIR : Pair := ⟨0x20014⟩
def Reg.THM_SENS.AT (i : Nat) : Nat := 0x20100 + 0x4 * i
def Reg.THM_SENS.BROKEN (i : Nat) : Fld := ⟨0x20100 + 0x4 * i, 16, 3, false⟩
def Reg.THM_SENS.TEMP (i : Nat) : Fld := ⟨0x20100 + 0x4 * i, 0, 16, false⟩
def Reg.ERR_CTRL.AT : Nat := 0x110000
def Reg.ERR_CTRL.CLEAR_LOG : Fld := ⟨0x110000, 2, 1, false⟩
def Reg.ERR_CTRL.SCRUB_EN : Fld := ⟨0x110000, 1, 1, false⟩
def Reg.ERR_CTRL.LOCK : Fld := ⟨0x110000, 0, 1, false⟩
def Reg.ERR_SCRUB.AT : Nat := 0x110004
def Reg.ERR_SCRUB.PERIOD : Fld := ⟨0x110004, 0, 16, false⟩
def Reg.ERR_STS.AT : Nat := 0x110008
def Reg.ERR_STS.NOSPARE : Fld := ⟨0x110008, 6, 1, true⟩
def Reg.ERR_STS.CFG_ERR : Fld := ⟨0x110008, 5, 1, true⟩
def Reg.ERR_STS.LOST : Fld := ⟨0x110008, 4, 1, true⟩
def Reg.ERR_STS.SHED : Fld := ⟨0x110008, 0, 2, false⟩
def Reg.ERR_LOG_HEAD.AT : Nat := 0x11000c
def Reg.ERR_LOG_HEAD.HEAD : Fld := ⟨0x11000c, 0, 32, false⟩
def Reg.ERR_LOG_RD.AT : Nat := 0x110010
def Reg.ERR_LOG_RD.RD : Fld := ⟨0x110010, 0, 32, false⟩
def Reg.ERR_SPARE.AT : Nat := 0x110014
def Reg.ERR_SPARE.MACRO : Fld := ⟨0x110014, 16, 16, false⟩
def Reg.ERR_SPARE.FREE : Fld := ⟨0x110014, 0, 16, false⟩
def Reg.ERR_SVC_CFG.AT : Nat := 0x110020
def Reg.ERR_SVC_CFG.SHED_LO : Fld := ⟨0x110020, 8, 8, false⟩
def Reg.ERR_SVC_CFG.SHED_HI : Fld := ⟨0x110020, 0, 8, false⟩
def Reg.ERR_SVC_LOAD.AT : Nat := 0x110024
def Reg.ERR_SVC_LOAD.PEAK : Fld := ⟨0x110024, 16, 16, true⟩
def Reg.ERR_SVC_LOAD.LOAD : Fld := ⟨0x110024, 0, 16, false⟩
def Reg.ERR_CNT.AT (i : Nat) : Nat := 0x110100 + 0x4 * i
def Reg.ERR_CNT.CNT (i : Nat) : Fld := ⟨0x110100 + 0x4 * i, 0, 32, true⟩
def Reg.ERR_FIRST.AT (i : Nat) : Nat := 0x110400 + 0x4 * i
def Reg.ERR_FIRST.FIRST (i : Nat) : Fld := ⟨0x110400 + 0x4 * i, 0, 32, false⟩
def Reg.ERR_FRZ_RAW.AT (i : Nat) : Nat := 0x110440 + 0x4 * i
def Reg.ERR_FRZ_RAW.RAW (i : Nat) : Fld := ⟨0x110440 + 0x4 * i, 0, 32, false⟩
def Reg.ERR_LOG.AT (i j : Nat) : Nat := 0x118000 + 0x20 * i + 0x4 * j
def Reg.ERR_LOG.LOG (i j : Nat) : Fld := ⟨0x118000 + 0x20 * i + 0x4 * j, 0, 32, false⟩
def Reg.PMC_CTRL.AT : Nat := 0x120000
def Reg.PMC_CTRL.CLEAR : Fld := ⟨0x120000, 2, 1, false⟩
def Reg.PMC_CTRL.SNAP : Fld := ⟨0x120000, 1, 1, false⟩
def Reg.PMC_CTRL.LOCK : Fld := ⟨0x120000, 0, 1, false⟩
def Reg.PMC_STS.AT : Nat := 0x120004
def Reg.PMC_STS.SNAP_SEQ : Fld := ⟨0x120004, 0, 16, false⟩
def Reg.PMC_SNAP_TIME.AT : Nat := 0x120008
def Reg.PMC_SNAP_TIME.PAIR : Pair := ⟨0x120008⟩
def Reg.PMC_MODE.AT (i : Nat) : Nat := 0x120100 + 0x4 * i
def Reg.PMC_MODE.MODE (i : Nat) : Fld := ⟨0x120100 + 0x4 * i, 0, 32, false⟩
def Reg.PMC_CNT.AT (i : Nat) : Nat := 0x121000 + 0x8 * i
def Reg.PMC_CNT.PAIR (i : Nat) : Pair := ⟨0x121000 + 0x8 * i⟩
def Reg.PMC_SNAP.AT (i : Nat) : Nat := 0x122000 + 0x8 * i
def Reg.PMC_SNAP.PAIR (i : Nat) : Pair := ⟨0x122000 + 0x8 * i⟩
def Reg.PWR_RST_CAUSE.AT : Nat := 0x10060
def Reg.PWR_RST_CAUSE.CAUSE : Fld := ⟨0x10060, 0, 8, false⟩
def Reg.PWR_VR_STS.AT : Nat := 0x10064
def Reg.PWR_VR_STS.STATUS : Fld := ⟨0x10064, 16, 16, false⟩
def Reg.PWR_VR_STS.FAILS : Fld := ⟨0x10064, 8, 8, true⟩
def Reg.PWR_VR_STS.BUSY : Fld := ⟨0x10064, 1, 1, false⟩
def Reg.PWR_VR_STS.FAIL : Fld := ⟨0x10064, 0, 1, true⟩
def Reg.PWR_VR_CFG.AT : Nat := 0x10068
def Reg.PWR_VR_CFG.PEC_EN : Fld := ⟨0x10068, 7, 1, false⟩
def Reg.PWR_VR_CFG.ADDR : Fld := ⟨0x10068, 0, 7, false⟩
def Reg.PWR_VSENSE.AT : Nat := 0x1006c
def Reg.PWR_VSENSE.TARGET : Fld := ⟨0x1006c, 16, 10, false⟩
def Reg.PWR_VSENSE.VSENSE : Fld := ⟨0x1006c, 0, 10, false⟩
def Reg.MSIX_ADDR_LO.AT (i : Nat) : Nat := 0xd8000 + 0x10 * i
def Reg.MSIX_ADDR_LO.VAL (i : Nat) : Fld := ⟨0xd8000 + 0x10 * i, 0, 32, false⟩
def Reg.MSIX_ADDR_HI.AT (i : Nat) : Nat := 0xd8004 + 0x10 * i
def Reg.MSIX_ADDR_HI.VAL (i : Nat) : Fld := ⟨0xd8004 + 0x10 * i, 0, 32, false⟩
def Reg.MSIX_DATA.AT (i : Nat) : Nat := 0xd8008 + 0x10 * i
def Reg.MSIX_DATA.VAL (i : Nat) : Fld := ⟨0xd8008 + 0x10 * i, 0, 32, false⟩
def Reg.MSIX_VCTL.AT (i : Nat) : Nat := 0xd800c + 0x10 * i
def Reg.MSIX_VCTL.MASK (i : Nat) : Fld := ⟨0xd800c + 0x10 * i, 0, 1, false⟩
def Reg.MSIX_PBA.AT (i : Nat) : Nat := 0xd9000 + 0x4 * i
def Reg.MSIX_PBA.VAL (i : Nat) : Fld := ⟨0xd9000 + 0x4 * i, 0, 32, false⟩
def Reg.MBX_REQ.AT (i : Nat) : Nat := 0x130400 + 0x4 * i
def Reg.MBX_REQ.VAL (i : Nat) : Fld := ⟨0x130400 + 0x4 * i, 0, 32, false⟩
def Reg.MBX_RSP.AT (i : Nat) : Nat := 0x130800 + 0x4 * i
def Reg.MBX_RSP.VAL (i : Nat) : Fld := ⟨0x130800 + 0x4 * i, 0, 32, false⟩
def Reg.CAM_P_TXBUF.AT (i j : Nat) : Nat := 0xb8000 + 0x800 * i + 0x4 * j
def Reg.CAM_P_TXBUF.VAL (i j : Nat) : Fld := ⟨0xb8000 + 0x800 * i + 0x4 * j, 0, 32, false⟩
def Reg.CAM_P_RXBUF.AT (i j : Nat) : Nat := 0xb8400 + 0x800 * i + 0x4 * j
def Reg.CAM_P_RXBUF.VAL (i j : Nat) : Fld := ⟨0xb8400 + 0x800 * i + 0x4 * j, 0, 32, false⟩
def Reg.CAM_P_EVBUF.AT (i j : Nat) : Nat := 0xbc000 + 0x400 * i + 0x4 * j
def Reg.CAM_P_EVBUF.VAL (i j : Nat) : Fld := ⟨0xbc000 + 0x400 * i + 0x4 * j, 0, 32, false⟩

end Sys2Proof.Machine
end

