-- ==== Sys2Proof/Machine/RegTable.lean ====
section
/-! DEFINITION. The register map of BAR0, as the register tables of every chapter of spec/ give it: one row per
register (its BAR0 address, its arrays, whether it is a _LO and _HI pair, and each field's bits, access type of R7
and reset value of R6). A field whose reset is HW stands here with 0, and `Reg.resetWord` gives its hardware value. -/

namespace Sys2Proof.Machine

/-- The registers of DEV (spec/11). -/
def Reg.rowsDEV : List RegRow :=
  [ ⟨"DEV_DBG_CTRL", 0xff00, [], false, [⟨1, 1, .rwl, 0⟩, ⟨0, 1, .rwl, 0⟩]⟩,
    ⟨"DEV_DBG_BASE", 0xff04, [], false, [⟨0, 14, .rw, 0⟩]⟩,
    ⟨"DEV_DBG_STS", 0xff08, [], false, [⟨2, 1, .w1c, 0⟩, ⟨1, 1, .w1c, 0⟩, ⟨0, 1, .w1c, 0⟩]⟩,
    ⟨"DEV_ID", 0x0, [], false, [⟨16, 16, .ro, 0x9600⟩, ⟨12, 4, .ro, 0⟩, ⟨0, 8, .ro, 0⟩]⟩,
    ⟨"DEV_SERIAL", 0x8, [], true, [⟨0, 32, .ro, 0⟩]⟩,
    ⟨"DEV_CTRL", 0x20, [], false, [⟨1, 1, .rw, 0⟩, ⟨0, 1, .rw, 0⟩]⟩,
    ⟨"DEV_MODE", 0x24, [], false, [⟨12, 2, .ro, 0⟩, ⟨8, 4, .wo, 0⟩, ⟨0, 4, .ro, 2⟩]⟩,
    ⟨"DEV_RESET", 0x28, [], false, [⟨0, 32, .wo, 0⟩]⟩,
    ⟨"DEV_ABORT", 0x2c, [], false, [⟨0, 32, .wo, 0⟩]⟩,
    ⟨"DEV_OWN_CTRL", 0x100, [], false, [⟨4, 2, .wo, 0⟩, ⟨0, 2, .wo, 0⟩]⟩,
    ⟨"DEV_OWN_STS", 0x104, [], false, [⟨19, 1, .w1c, 0⟩, ⟨18, 1, .w1c, 0⟩, ⟨17, 1, .w1c, 0⟩, ⟨16, 1, .w1c, 0⟩, ⟨8, 4, .ro, 0⟩, ⟨2, 1, .ro, 0⟩, ⟨0, 2, .ro, 0⟩]⟩,
    ⟨"DEV_OWN_HB", 0x108, [], false, [⟨0, 32, .wo, 0⟩]⟩,
    ⟨"DEV_OWN_CFG", 0x10c, [], false, [⟨24, 8, .rwl, 27⟩, ⟨16, 1, .rwl, 0⟩, ⟨0, 16, .rwl, 0x3e8⟩]⟩,
    ⟨"DEV_OWN_SLOT", 0x110, [], false, [⟨0, 2, .ro, 0⟩]⟩,
    ⟨"DEV_ACC_STS", 0x120, [], false, [⟨8, 2, .ro, 0⟩, ⟨4, 2, .ro, 0⟩, ⟨2, 1, .w1c, 0⟩, ⟨1, 1, .w1c, 0⟩, ⟨0, 1, .w1c, 0⟩]⟩,
    ⟨"DEV_ACC_ADDR", 0x124, [], false, [⟨0, 32, .ro, 0⟩]⟩,
    ⟨"DEV_NONOWN_CNT", 0x130, [(4, 0x4)], false, [⟨0, 32, .rc, 0⟩]⟩,
    ⟨"DEV_PEER_ADDR", 0x140, [], false, [⟨0, 26, .rw, 0⟩]⟩,
    ⟨"DEV_PEER_DATA", 0x144, [], false, [⟨0, 32, .rw, 0⟩]⟩,
    ⟨"DEV_PEER_CTRL", 0x148, [], false, [⟨4, 1, .w1c, 0⟩, ⟨3, 1, .w1c, 0⟩, ⟨2, 1, .ro, 0⟩, ⟨1, 1, .rw, 0⟩, ⟨0, 1, .wo, 0⟩]⟩ ]

/-- The registers of PWR (spec/16). -/
def Reg.rowsPWR : List RegRow :=
  [ ⟨"PWR_CTRL", 0x10000, [], false, [⟨1, 1, .rwl, 1⟩, ⟨0, 1, .rw, 0⟩]⟩,
    ⟨"PWR_DOM_CTRL", 0x10004, [], false, [⟨0, 21, .wo, 0⟩]⟩,
    ⟨"PWR_DOM_STS", 0x10008, [], false, [⟨24, 3, .ro, 0⟩, ⟨0, 21, .ro, 0x607⟩]⟩,
    ⟨"PWR_DOM_CFG", 0x1000c, [], false, [⟨0, 21, .rwl, 0x1fffff⟩]⟩,
    ⟨"PWR_LEVEL", 0x10010, [], false, [⟨17, 2, .ro, 0⟩, ⟨16, 1, .ro, 1⟩, ⟨12, 3, .ro, 0⟩, ⟨8, 3, .ro, 0⟩, ⟨4, 3, .ro, 2⟩, ⟨0, 3, .rw, 2⟩]⟩,
    ⟨"PWR_SURGE", 0x10014, [], false, [⟨0, 16, .ro, 0⟩]⟩,
    ⟨"PWR_CEIL", 0x10018, [], false, [⟨0, 18, .ro, 0⟩]⟩,
    ⟨"PWR_EST", 0x1001c, [], false, [⟨0, 18, .ro, 0⟩]⟩,
    ⟨"PWR_CLK", 0x10020, [], false, [⟨0, 12, .ro, 0x5dc⟩]⟩,
    ⟨"PWR_SAFESTOP", 0x10024, [], false, [⟨16, 16, .rc, 0⟩, ⟨0, 16, .ro, 0⟩]⟩,
    ⟨"PWR_BOOT_CTRL", 0x10040, [], false, [⟨1, 1, .ro, 0⟩, ⟨0, 1, .wo, 0⟩]⟩,
    ⟨"PWR_BOOT_STS", 0x10044, [], false, [⟨16, 8, .ro, 0⟩, ⟨8, 1, .ro, 0⟩, ⟨4, 4, .ro, 0⟩, ⟨0, 4, .ro, 0⟩]⟩,
    ⟨"PWR_BOOT_ADDR", 0x10048, [], true, [⟨0, 32, .rw, 0⟩]⟩,
    ⟨"PWR_BOOT_LEN", 0x10050, [], false, [⟨0, 24, .rw, 0⟩]⟩,
    ⟨"PWR_RST_CAUSE", 0x10060, [], false, [⟨0, 8, .ro, 0⟩]⟩,
    ⟨"PWR_VR_STS", 0x10064, [], false, [⟨16, 16, .ro, 0⟩, ⟨8, 8, .rc, 0⟩, ⟨1, 1, .ro, 0⟩, ⟨0, 1, .w1c, 0⟩]⟩,
    ⟨"PWR_VR_CFG", 0x10068, [], false, [⟨7, 1, .rwl, 1⟩, ⟨0, 7, .rwl, 64⟩]⟩,
    ⟨"PWR_VSENSE", 0x1006c, [], false, [⟨16, 10, .ro, 0x2f8⟩, ⟨0, 10, .ro, 0⟩]⟩ ]

/-- The registers of THM (spec/16). -/
def Reg.rowsTHM : List RegRow :=
  [ ⟨"THM_CTRL", 0x20000, [], false, [⟨0, 1, .rw, 0⟩]⟩,
    ⟨"THM_STS", 0x20004, [], false, [⟨24, 5, .ro, 0⟩, ⟨8, 5, .ro, 0⟩, ⟨1, 1, .ro, 0⟩, ⟨0, 1, .ro, 0⟩]⟩,
    ⟨"THM_EVT", 0x20008, [], false, [⟨3, 1, .w1c, 0⟩, ⟨2, 1, .w1c, 0⟩, ⟨1, 1, .w1c, 0⟩, ⟨0, 1, .w1c, 0⟩]⟩,
    ⟨"THM_TRIP", 0x2000c, [], false, [⟨31, 1, .ro, 0⟩, ⟨0, 24, .ro, 0⟩]⟩,
    ⟨"THM_HEAD_LIM", 0x20010, [], false, [⟨0, 16, .rwl, 0x370⟩]⟩,
    ⟨"THM_DOM_LVL", 0x20014, [], true, [⟨0, 32, .ro, 0⟩]⟩,
    ⟨"THM_SENS", 0x20100, [(24, 0x4)], false, [⟨16, 3, .ro, 0⟩, ⟨0, 16, .ro, 0⟩]⟩ ]

/-- The registers of MER (spec/02). -/
def Reg.rowsMER : List RegRow :=
  [ ⟨"MER_CTRL", 0x30000, [], false, [⟨1, 2, .rwl, 0⟩, ⟨0, 1, .rw, 0⟩]⟩,
    ⟨"MER_TIME", 0x30008, [], true, [⟨0, 32, .ro, 0⟩]⟩,
    ⟨"MER_RATE", 0x30010, [], false, [⟨0, 32, .rw, 0⟩]⟩,
    ⟨"MER_SET", 0x30018, [], true, [⟨0, 32, .wo, 0⟩]⟩,
    ⟨"MER_STN_CFG", 0x30020, [], false, [⟨24, 8, .rwl, 50⟩, ⟨16, 8, .rwl, 10⟩, ⟨8, 8, .rwl, 0⟩, ⟨0, 3, .rwl, 0⟩]⟩,
    ⟨"MER_STN_STS", 0x30024, [], false, [⟨16, 16, .ro, 0⟩, ⟨3, 1, .w1c, 0⟩, ⟨2, 1, .w1c, 0⟩, ⟨1, 1, .ro, 0⟩, ⟨0, 1, .ro, 0⟩]⟩,
    ⟨"MER_STN_DELAY", 0x30028, [], false, [⟨0, 32, .ro, 0⟩]⟩,
    ⟨"MER_PTM_CTRL", 0x30030, [], false, [⟨16, 16, .ro, 0⟩, ⟨9, 1, .w1c, 0⟩, ⟨8, 1, .ro, 0⟩, ⟨4, 4, .rw, 0⟩, ⟨1, 1, .rw, 0⟩, ⟨0, 1, .rw, 0⟩]⟩,
    ⟨"MER_PTM_ROOT", 0x30038, [], true, [⟨0, 32, .ro, 0⟩]⟩,
    ⟨"MER_PTM_MT", 0x30040, [], true, [⟨0, 32, .ro, 0⟩]⟩ ]

/-- The registers of TRK (spec/02). -/
def Reg.rowsTRK : List RegRow :=
  [ ⟨"TRK_CTRL", 0x40000, [], false, [⟨1, 3, .wo, 0⟩, ⟨0, 1, .rw, 0⟩]⟩,
    ⟨"TRK_CFG", 0x40004, [], false, [⟨16, 5, .rwl, 12⟩, ⟨12, 4, .rwl, 7⟩, ⟨8, 4, .rwl, 3⟩, ⟨0, 7, .rwl, 6⟩]⟩,
    ⟨"TRK_TICK_MIN", 0x40008, [], false, [⟨0, 24, .rwl, 0x3e80⟩]⟩,
    ⟨"TRK_CRAWL", 0x4000c, [], false, [⟨0, 32, .rwl, 0x3d0900⟩]⟩,
    ⟨"TRK_REF", 0x40010, [], false, [⟨0, 11, .rwl, 0⟩]⟩,
    ⟨"TRK_STS", 0x40014, [], false, [⟨13, 1, .w1c, 0⟩, ⟨12, 1, .w1c, 0⟩, ⟨11, 1, .ro, 0⟩, ⟨10, 1, .ro, 1⟩, ⟨9, 1, .ro, 0⟩, ⟨6, 3, .ro, 0⟩, ⟨3, 3, .ro, 0⟩, ⟨0, 3, .ro, 7⟩]⟩,
    ⟨"TRK_OUTVOTES", 0x40018, [], false, [⟨16, 8, .rc, 0⟩, ⟨8, 8, .rc, 0⟩, ⟨0, 8, .rc, 0⟩]⟩,
    ⟨"TRK_TICK", 0x4001c, [], false, [⟨0, 32, .ro, 0xffffffff⟩]⟩,
    ⟨"TRK_POS", 0x40020, [], true, [⟨0, 32, .ro, 0⟩]⟩,
    ⟨"TRK_VEL", 0x40028, [], true, [⟨0, 32, .ro, 0⟩]⟩,
    ⟨"TRK_HWM", 0x40030, [], true, [⟨0, 32, .ro, 0⟩]⟩,
    ⟨"TRK_ORIGIN", 0x40038, [], true, [⟨0, 32, .ro, 0⟩]⟩,
    ⟨"TRK_REFLINE", 0x40040, [], true, [⟨0, 32, .ro, 0⟩]⟩,
    ⟨"TRK_LATE", 0x40048, [], true, [⟨0, 32, .ro, 0⟩]⟩,
    ⟨"TRK_SUPP", 0x40050, [], true, [⟨0, 32, .ro, 0⟩]⟩,
    ⟨"TRK_BUPD_CTRL", 0x40100, [], false, [⟨12, 3, .ro, 0⟩, ⟨10, 2, .ro, 0⟩, ⟨9, 1, .ro, 0⟩, ⟨8, 1, .wo, 0⟩, ⟨0, 4, .rw, 0⟩]⟩,
    ⟨"TRK_BUPD_LINE", 0x40104, [], true, [⟨0, 32, .rw, 0⟩]⟩,
    ⟨"TRK_BUPD_S", 0x4010c, [], false, [⟨0, 32, .rw, 0x40000000⟩]⟩,
    ⟨"TRK_BUPD_B", 0x40110, [], false, [⟨0, 32, .rw, 0⟩]⟩,
    ⟨"TRK_BAR_S", 0x40200, [(16, 0x10)], false, [⟨0, 32, .rwl, 0x40000000⟩]⟩,
    ⟨"TRK_BAR_B", 0x40204, [(16, 0x10)], false, [⟨0, 32, .rwl, 0⟩]⟩,
    ⟨"TRK_BAR_ALINE", 0x40208, [(16, 0x10)], true, [⟨0, 32, .ro, 0⟩]⟩,
    ⟨"TRK_ROW_POS", 0x44000, [(1536, 0x20)], true, [⟨0, 32, .rwl, 0⟩]⟩,
    ⟨"TRK_ROW_PITCH", 0x44008, [(1536, 0x20)], true, [⟨0, 32, .rwl, 0⟩]⟩,
    ⟨"TRK_ROW_TOFS", 0x44010, [(1536, 0x20)], false, [⟨0, 32, .rwl, 0⟩]⟩,
    ⟨"TRK_ROW_CFG", 0x44014, [(1536, 0x20)], false, [⟨4, 4, .rwl, 0⟩, ⟨0, 1, .rwl, 0⟩]⟩,
    ⟨"TRK_ROW_NEXT", 0x44018, [(1536, 0x20)], true, [⟨0, 32, .ro, 0⟩]⟩ ]

/-- The registers of ENC (spec/02). -/
def Reg.rowsENC : List RegRow :=
  [ ⟨"ENC_CTRL", 0x50000, [], false, [⟨8, 8, .rwl, 8⟩, ⟨7, 1, .w1s, 0⟩, ⟨5, 2, .rwl, 0⟩, ⟨4, 1, .rwl, 0⟩, ⟨3, 1, .rwl, 0⟩, ⟨2, 1, .rwl, 0⟩, ⟨1, 1, .rwl, 0⟩, ⟨0, 1, .rw, 0⟩]⟩,
    ⟨"ENC_IDX_VAL", 0x50004, [], false, [⟨0, 32, .rwl, 0⟩]⟩,
    ⟨"ENC_COUNT", 0x50008, [], true, [⟨0, 32, .ro, 0⟩]⟩,
    ⟨"ENC_STS", 0x50010, [], false, [⟨9, 1, .w1c, 0⟩, ⟨6, 3, .w1c, 0⟩, ⟨5, 1, .w1c, 0⟩, ⟨4, 1, .w1c, 0⟩, ⟨3, 1, .w1c, 0⟩, ⟨2, 1, .w1c, 0⟩, ⟨1, 1, .w1c, 0⟩, ⟨0, 1, .ro, 0⟩]⟩,
    ⟨"ENC_QERR_CNT", 0x50014, [], false, [⟨0, 32, .rc, 0⟩]⟩,
    ⟨"ENC_IDX_JUMP", 0x50018, [], false, [⟨0, 32, .ro, 0⟩]⟩,
    ⟨"ENC_CHK_RATIO", 0x5001c, [], false, [⟨0, 32, .rwl, 0x1000000⟩]⟩,
    ⟨"ENC_CHK_TOL", 0x50020, [], false, [⟨0, 16, .rwl, 64⟩]⟩,
    ⟨"ENCOUT_CFG", 0x50024, [], false, [⟨3, 1, .ro, 0⟩, ⟨2, 1, .rwl, 0⟩, ⟨1, 1, .rwl, 0⟩, ⟨0, 1, .rwl, 0⟩]⟩,
    ⟨"ENCOUT_N", 0x50028, [], false, [⟨0, 32, .rwl, 1⟩]⟩,
    ⟨"ENCOUT_M", 0x5002c, [], false, [⟨0, 32, .rwl, 1⟩]⟩ ]

/-- The registers of JOB (spec/03). -/
def Reg.rowsJOB : List RegRow :=
  [ ⟨"JOB_CTRL", 0x60000, [], false, [⟨0, 1, .rw, 0⟩]⟩,
    ⟨"JOB_PAGE_BASE", 0x60008, [], true, [⟨0, 32, .rwl, 0x20000000⟩]⟩,
    ⟨"JOB_PAGE_SIZE", 0x60010, [], true, [⟨0, 32, .rwl, 0⟩]⟩,
    ⟨"JOB_RPL_GUARD", 0x60018, [], false, [⟨0, 16, .rwl, 16⟩]⟩,
    ⟨"JOB_STS", 0x60020, [], false, [⟨16, 16, .ro, 0⟩, ⟨5, 1, .w1c, 0⟩, ⟨4, 1, .w1c, 0⟩, ⟨3, 1, .ro, 0⟩, ⟨2, 1, .ro, 0⟩, ⟨0, 2, .ro, 0⟩]⟩,
    ⟨"JOB_WIN_REQ", 0x60028, [], true, [⟨0, 32, .ro, 0⟩]⟩,
    ⟨"JOB_WIN_LINES", 0x60030, [], false, [⟨0, 32, .ro, 0⟩]⟩,
    ⟨"JOB_BAND_MISS", 0x60034, [], false, [⟨0, 32, .rc, 0⟩]⟩,
    ⟨"JOB_ZBASE", 0x60040, [], true, [⟨0, 32, .ro, 0⟩]⟩ ]

/-- The registers of FAB (spec/04). -/
def Reg.rowsFAB : List RegRow :=
  [ ⟨"FAB_CTRL", 0x70000, [], false, [⟨3, 1, .rwl, 0⟩, ⟨2, 1, .rwl, 1⟩, ⟨1, 1, .wo, 0⟩, ⟨0, 1, .rw, 0⟩]⟩,
    ⟨"FAB_STS", 0x70004, [], false, [⟨24, 8, .ro, 0⟩, ⟨17, 7, .ro, 0⟩, ⟨6, 1, .w1c, 0⟩, ⟨5, 1, .ro, 0⟩, ⟨4, 1, .w1c, 0⟩, ⟨1, 3, .ro, 0⟩, ⟨0, 1, .ro, 0⟩]⟩,
    ⟨"FAB_CEIL", 0x70008, [], false, [⟨0, 18, .ro, 0x3d090⟩]⟩,
    ⟨"FAB_SPARE", 0x7000c, [], false, [⟨6, 1, .rwl, 0⟩, ⟨0, 6, .rwl, 63⟩]⟩,
    ⟨"FAB_OUT", 0x70010, [], true, [⟨0, 32, .ro, 0⟩]⟩,
    ⟨"FAB_MOVE_CTRL", 0x70020, [], false, [⟨14, 2, .ro, 0⟩, ⟨13, 1, .wo, 0⟩, ⟨6, 6, .rw, 0⟩, ⟨0, 6, .rw, 0⟩]⟩,
    ⟨"FAB_XUPD_CTRL", 0x70100, [], false, [⟨12, 3, .ro, 0⟩, ⟨10, 2, .ro, 0⟩, ⟨9, 1, .ro, 0⟩, ⟨8, 1, .wo, 0⟩, ⟨0, 4, .rw, 0⟩]⟩,
    ⟨"FAB_XUPD_LINE", 0x70104, [], true, [⟨0, 32, .rw, 0⟩]⟩,
    ⟨"FAB_XUPD_SX", 0x7010c, [], false, [⟨0, 32, .rw, 0x40000000⟩]⟩,
    ⟨"FAB_XUPD_BX", 0x70110, [], false, [⟨0, 32, .rw, 0⟩]⟩,
    ⟨"FAB_TUPD_CTRL", 0x70120, [], false, [⟨11, 1, .ro, 0⟩, ⟨9, 2, .ro, 0⟩, ⟨8, 1, .wo, 0⟩, ⟨0, 7, .rw, 0⟩]⟩,
    ⟨"FAB_TUPD_LINE", 0x70124, [], true, [⟨0, 32, .rw, 0⟩]⟩,
    ⟨"FAB_TUPD_TEMP", 0x7012c, [], false, [⟨0, 16, .rw, 0x190⟩]⟩,
    ⟨"FAB_BAR_SX", 0x70200, [(16, 0x10)], false, [⟨0, 32, .rwl, 0x40000000⟩]⟩,
    ⟨"FAB_BAR_BX", 0x70204, [(16, 0x10)], false, [⟨0, 32, .rwl, 0⟩]⟩,
    ⟨"FAB_TTEMP", 0x70400, [(96, 0x4)], false, [⟨0, 16, .ro, 0x190⟩]⟩,
    ⟨"FAB_MAP_STG", 0x71000, [(1152, 0x4)], false, [⟨31, 1, .rwl, 0⟩, ⟨24, 6, .rwl, 0⟩, ⟨23, 1, .rwl, 0⟩, ⟨16, 6, .rwl, 0⟩, ⟨15, 1, .rwl, 0⟩, ⟨8, 6, .rwl, 0⟩, ⟨7, 1, .rwl, 0⟩, ⟨0, 6, .rwl, 0⟩]⟩,
    ⟨"FAB_MAP", 0x73000, [(1152, 0x4)], false, [⟨31, 1, .ro, 0⟩, ⟨24, 6, .ro, 0⟩, ⟨23, 1, .ro, 0⟩, ⟨16, 6, .ro, 0⟩, ⟨15, 1, .ro, 0⟩, ⟨8, 6, .ro, 0⟩, ⟨7, 1, .ro, 0⟩, ⟨0, 6, .ro, 0⟩]⟩ ]

/-- The registers of SMP (spec/05). -/
def Reg.rowsSMP : List RegRow :=
  [ ⟨"SMP_CTRL", 0x80000, [], false, [⟨3, 1, .rwl, 1⟩, ⟨2, 1, .rwl, 0⟩, ⟨1, 1, .rwl, 0⟩, ⟨0, 1, .rw, 0⟩]⟩,
    ⟨"SMP_STS", 0x80004, [], false, [⟨5, 1, .w1c, 0⟩, ⟨4, 1, .w1c, 0⟩, ⟨3, 1, .w1c, 0⟩, ⟨2, 1, .w1c, 0⟩, ⟨1, 1, .ro, 0⟩, ⟨0, 1, .ro, 0⟩]⟩,
    ⟨"SMP_IMG_BASE", 0x80008, [], true, [⟨0, 32, .rwl, 0x1000000⟩]⟩,
    ⟨"SMP_XFER_HADDR", 0x80010, [], true, [⟨0, 32, .rw, 0⟩]⟩,
    ⟨"SMP_XFER_CTRL", 0x80018, [], false, [⟨20, 1, .ro, 0⟩, ⟨18, 2, .ro, 0⟩, ⟨17, 1, .wo, 0⟩, ⟨16, 1, .rw, 0⟩, ⟨8, 7, .rw, 1⟩, ⟨0, 7, .rw, 0⟩]⟩,
    ⟨"SMP_XFER_CRC", 0x8001c, [], false, [⟨0, 32, .rw, 0⟩]⟩,
    ⟨"SMP_XFER_BADGN", 0x80020, [], false, [⟨0, 22, .ro, 0⟩]⟩,
    ⟨"SMP_MIN_AHEAD", 0x80024, [], false, [⟨0, 16, .rwl, 0x100⟩]⟩,
    ⟨"SMP_QLEN", 0x80028, [], false, [⟨0, 17, .ro, 0⟩]⟩,
    ⟨"SMP_HCFG", 0x8002c, [], false, [⟨8, 8, .rwl, 64⟩, ⟨0, 4, .rwl, 8⟩]⟩,
    ⟨"SMP_HTHR", 0x80030, [], false, [⟨24, 8, .rwl, 32⟩, ⟨16, 8, .rwl, 6⟩, ⟨8, 8, .rwl, 128⟩, ⟨0, 8, .rwl, 128⟩]⟩,
    ⟨"SMP_ITHR", 0x80034, [], false, [⟨16, 8, .rwl, 20⟩, ⟨8, 8, .rwl, 26⟩, ⟨0, 8, .rwl, 128⟩]⟩,
    ⟨"SMP_RAMPS", 0x80038, [], false, [⟨16, 16, .rwl, 0x1000⟩, ⟨0, 16, .rwl, 0x400⟩]⟩,
    ⟨"SMP_RAMP_MISS", 0x8003c, [], false, [⟨0, 16, .rwl, 0⟩]⟩,
    ⟨"SMP_LIM", 0x80040, [], false, [⟨24, 8, .rwl, 16⟩, ⟨16, 8, .rwl, 20⟩, ⟨0, 16, .rwl, 0x400⟩]⟩,
    ⟨"SMP_LIM2", 0x80044, [], false, [⟨16, 16, .rwl, 164⟩, ⟨0, 16, .rwl, 0x400⟩]⟩,
    ⟨"SMP_SPARE_LOW", 0x80048, [], false, [⟨0, 16, .rwl, 16⟩]⟩,
    ⟨"SMP_UPD_ACC", 0x80050, [], false, [⟨0, 32, .rc, 0⟩]⟩,
    ⟨"SMP_UPD_REF", 0x80054, [], false, [⟨0, 32, .rc, 0⟩]⟩,
    ⟨"SMP_AUTO_HELD", 0x80058, [], false, [⟨0, 32, .rc, 0⟩]⟩,
    ⟨"SMP_PEEK_GN", 0x80060, [], false, [⟨0, 22, .rw, 0⟩]⟩,
    ⟨"SMP_PEEK_DATA", 0x80064, [(8, 0x4)], false, [⟨0, 32, .ro, 0⟩]⟩,
    ⟨"SMP_STATE_CNT", 0x80100, [(8, 0x4)], false, [⟨0, 22, .ro, 0⟩]⟩,
    ⟨"SMP_BAR_GAIN", 0x80140, [(16, 0x4)], false, [⟨0, 16, .ro, 0x4000⟩]⟩,
    ⟨"SMP_SETTLE", 0x80180, [(16, 0x4)], false, [⟨0, 16, .rwl, 0x1000⟩]⟩,
    ⟨"SMP_PORT_STS", 0x80400, [(96, 0x4)], false, [⟨16, 16, .ro, 0⟩, ⟨0, 16, .ro, 0⟩]⟩ ]

/-- The registers of CAL (spec/09). -/
def Reg.rowsCAL : List RegRow :=
  [ ⟨"CAL_CTRL", 0x90000, [], false, [⟨5, 1, .rwl, 0⟩, ⟨4, 1, .wo, 0⟩, ⟨3, 1, .rwl, 0⟩, ⟨2, 1, .rwl, 0⟩, ⟨1, 1, .rwl, 0⟩, ⟨0, 1, .rw, 0⟩]⟩,
    ⟨"CAL_STS", 0x90004, [], false, [⟨16, 16, .ro, 0⟩, ⟨3, 1, .w1c, 0⟩, ⟨2, 1, .w1c, 0⟩, ⟨1, 1, .w1c, 0⟩, ⟨0, 1, .ro, 0⟩]⟩,
    ⟨"CAL_TRIG", 0x90008, [], false, [⟨8, 16, .rwl, 0⟩, ⟨0, 8, .rwl, 48⟩]⟩,
    ⟨"CAL_MARK", 0x9000c, [], false, [⟨20, 12, .rwl, 0x1f4⟩, ⟨16, 4, .rwl, 8⟩, ⟨12, 3, .rwl, 4⟩, ⟨4, 8, .rwl, 12⟩, ⟨0, 4, .rwl, 4⟩]⟩,
    ⟨"CAL_DETECT", 0x90010, [], false, [⟨12, 20, .rwl, 0x4000⟩, ⟨0, 12, .rwl, 0x100⟩]⟩,
    ⟨"CAL_ADJ", 0x90014, [], false, [⟨24, 8, .rwl, 64⟩, ⟨20, 4, .rwl, 3⟩, ⟨16, 4, .rwl, 12⟩, ⟨8, 8, .rwl, 20⟩, ⟨0, 8, .rwl, 5⟩]⟩,
    ⟨"CAL_RAMP", 0x90018, [], false, [⟨16, 16, .rwl, 0x1000⟩, ⟨0, 16, .rwl, 0x100⟩]⟩,
    ⟨"CAL_CFG", 0x9001c, [], false, [⟨24, 8, .rwl, 20⟩, ⟨20, 4, .rwl, 3⟩, ⟨0, 13, .rwl, 0x400⟩]⟩,
    ⟨"CAL_YSCALE", 0x90020, [], false, [⟨0, 32, .rwl, 0x280000⟩]⟩,
    ⟨"CAL_LANE", 0x90024, [], false, [⟨24, 8, .rwl, 10⟩, ⟨0, 16, .rwl, 0xe10⟩]⟩,
    ⟨"CAL_STITCH_CTRL", 0x90030, [], false, [⟨12, 4, .rw, 0⟩, ⟨10, 1, .wo, 0⟩, ⟨9, 1, .rwl, 1⟩, ⟨8, 1, .rwl, 1⟩, ⟨0, 8, .rwl, 32⟩]⟩,
    ⟨"CAL_CNT", 0x90100, [(12, 0x4)], false, [⟨0, 32, .rc, 0⟩]⟩,
    ⟨"CAL_PORT_TEMP", 0x91000, [(96, 0x10)], false, [⟨16, 16, .ro, 0⟩, ⟨0, 16, .ro, 0⟩]⟩,
    ⟨"CAL_PORT_STS", 0x91004, [(96, 0x10)], false, [⟨24, 8, .ro, 0⟩, ⟨16, 8, .ro, 0⟩, ⟨14, 2, .ro, 0⟩, ⟨8, 4, .ro, 0⟩, ⟨3, 1, .ro, 0⟩, ⟨2, 1, .ro, 0⟩, ⟨1, 1, .ro, 0⟩, ⟨0, 1, .ro, 0⟩]⟩,
    ⟨"CAL_PORT_TS", 0x91008, [(96, 0x10)], false, [⟨0, 32, .ro, 0⟩]⟩,
    ⟨"CAL_PORT_STITCH", 0x9100c, [(96, 0x10)], false, [⟨16, 16, .ro, 0⟩, ⟨0, 16, .ro, 0⟩]⟩ ]

/-- The registers of INS (spec/08). -/
def Reg.rowsINS : List RegRow :=
  [ ⟨"INS_CTRL", 0xa0000, [], false, [⟨3, 1, .rwl, 0⟩, ⟨2, 1, .rwl, 0⟩, ⟨1, 1, .rwl, 1⟩, ⟨0, 1, .rw, 0⟩]⟩,
    ⟨"INS_CFG", 0xa0004, [], false, [⟨16, 8, .rwl, 192⟩, ⟨4, 12, .rwl, 0x100⟩, ⟨0, 4, .rwl, 1⟩]⟩,
    ⟨"INS_STS", 0xa0008, [], false, [⟨2, 1, .ro, 0⟩, ⟨1, 1, .w1c, 0⟩, ⟨0, 1, .w1c, 0⟩]⟩,
    ⟨"INS_PRED_BASE", 0xa0010, [], true, [⟨0, 32, .rwl, 0⟩]⟩,
    ⟨"INS_PRED_SIZE", 0xa0018, [], true, [⟨0, 32, .rwl, 0⟩]⟩,
    ⟨"INS_PRED_REQ", 0xa0020, [], true, [⟨0, 32, .ro, 0⟩]⟩,
    ⟨"INS_MEMPATH", 0xa0028, [], false, [⟨0, 16, .rwl, 0x3e8⟩]⟩,
    ⟨"INS_CORR", 0xa002c, [], false, [⟨16, 16, .rwl, 0x1000⟩, ⟨8, 8, .rwl, 4⟩, ⟨0, 8, .rwl, 8⟩]⟩,
    ⟨"INS_REG", 0xa0030, [], false, [⟨24, 8, .rwl, 4⟩, ⟨16, 8, .rwl, 64⟩, ⟨8, 8, .rwl, 2⟩, ⟨0, 8, .rwl, 64⟩]⟩,
    ⟨"INS_REG_AHEAD", 0xa0034, [], false, [⟨0, 16, .rwl, 0x100⟩]⟩,
    ⟨"INS_STREAK", 0xa0038, [], false, [⟨0, 16, .rwl, 0x100⟩]⟩,
    ⟨"INS_BAR_CFG", 0xa0100, [(16, 0x20)], false, [⟨24, 8, .rwl, 32⟩, ⟨16, 8, .rwl, 16⟩, ⟨10, 1, .rwl, 0⟩, ⟨8, 2, .rwl, 0⟩, ⟨0, 8, .rwl, 0⟩]⟩,
    ⟨"INS_BAR_ABS", 0xa0104, [(16, 0x20)], false, [⟨0, 24, .rwl, 0⟩]⟩,
    ⟨"INS_BAR_VOL", 0xa0108, [(16, 0x20)], true, [⟨0, 32, .rwl, 0⟩]⟩,
    ⟨"INS_BAR_DIST", 0xa0110, [(16, 0x20)], false, [⟨0, 32, .ro, 0⟩]⟩,
    ⟨"INS_BAR_DY", 0xa0114, [(16, 0x20)], false, [⟨0, 32, .ro, 0⟩]⟩,
    ⟨"INS_BAR_DX", 0xa0118, [(16, 0x20)], false, [⟨0, 32, .ro, 0⟩]⟩,
    ⟨"INS_BAR_MEAND", 0xa011c, [(16, 0x20)], false, [⟨0, 16, .ro, 0⟩]⟩,
    ⟨"INS_WHITE_A", 0xa0400, [(8, 0x8)], false, [⟨16, 12, .rwl, 0xfa0⟩, ⟨0, 12, .rwl, 0xfa0⟩]⟩,
    ⟨"INS_WHITE_B", 0xa0404, [(8, 0x8)], false, [⟨0, 12, .rwl, 0xfa0⟩]⟩,
    ⟨"INS_CNT", 0xa0600, [(8, 0x4)], false, [⟨0, 32, .rc, 0⟩]⟩ ]

/-- The registers of CAM (spec/08). -/
def Reg.rowsCAM : List RegRow :=
  [ ⟨"CAM_CTRL", 0xb0000, [], false, [⟨0, 1, .rw, 0⟩]⟩,
    ⟨"CAM_BUDGET", 0xb0004, [], false, [⟨0, 16, .ro, 0⟩]⟩,
    ⟨"CAM_P_CTRL", 0xb1000, [(8, 0x100)], false, [⟨8, 1, .wo, 0⟩, ⟨7, 1, .rwl, 0⟩, ⟨4, 3, .rwl, 7⟩, ⟨2, 2, .rwl, 2⟩, ⟨0, 1, .rwl, 0⟩]⟩,
    ⟨"CAM_P_STS", 0xb1004, [(8, 0x100)], false, [⟨11, 1, .w1c, 0⟩, ⟨8, 3, .ro, 0⟩, ⟨5, 3, .ro, 0⟩, ⟨4, 1, .ro, 0⟩, ⟨0, 4, .ro, 0⟩]⟩,
    ⟨"CAM_P_FMT", 0xb1008, [(8, 0x100)], false, [⟨27, 3, .rwl, 0⟩, ⟨24, 3, .rwl, 0⟩, ⟨22, 2, .rwl, 0⟩, ⟨20, 2, .rwl, 0⟩, ⟨0, 15, .rwl, 0x4000⟩]⟩,
    ⟨"CAM_P_POS", 0xb100c, [(8, 0x100)], true, [⟨0, 32, .rwl, 0⟩]⟩,
    ⟨"CAM_P_TOFS", 0xb1014, [(8, 0x100)], false, [⟨0, 32, .rwl, 0⟩]⟩,
    ⟨"CAM_P_TRIG_MIN", 0xb1018, [(8, 0x100)], false, [⟨0, 32, .rwl, 0x3e80⟩]⟩,
    ⟨"CAM_P_LAT", 0xb101c, [(8, 0x100)], false, [⟨16, 16, .rwl, 200⟩, ⟨0, 16, .rwl, 0⟩]⟩,
    ⟨"CAM_P_SENS", 0xb1020, [(8, 0x100)], false, [⟨0, 8, .rwl, 0⟩]⟩,
    ⟨"CAM_P_SET", 0xb1024, [(8, 0x100)], false, [⟨6, 4, .ro, 0⟩, ⟨2, 4, .ro, 0⟩, ⟨0, 2, .ro, 0⟩]⟩,
    ⟨"CAM_P_LINE", 0xb1028, [(8, 0x100)], true, [⟨0, 32, .ro, 0⟩]⟩,
    ⟨"CAM_P_CC_CTRL", 0xb1030, [(8, 0x100)], false, [⟨18, 11, .ro, 0⟩, ⟨17, 1, .w1c, 0⟩, ⟨16, 1, .w1c, 0⟩, ⟨15, 1, .ro, 0⟩, ⟨14, 1, .wo, 0⟩, ⟨0, 10, .rw, 0⟩]⟩,
    ⟨"CAM_P_EVT", 0xb1034, [(8, 0x100)], false, [⟨5, 3, .ro, 0⟩, ⟨4, 1, .w1c, 0⟩, ⟨2, 2, .rw, 0⟩, ⟨0, 2, .ro, 0⟩]⟩,
    ⟨"CAM_P_CNT", 0xb1040, [(8, 0x100), (6, 0x4)], false, [⟨0, 32, .rc, 0⟩]⟩,
    ⟨"CAM_P_TXBUF", 0xb8000, [(8, 0x800), (256, 0x4)], false, [⟨0, 32, .rw, 0⟩]⟩,
    ⟨"CAM_P_RXBUF", 0xb8400, [(8, 0x800), (256, 0x4)], false, [⟨0, 32, .ro, 0⟩]⟩,
    ⟨"CAM_P_EVBUF", 0xbc000, [(8, 0x400), (256, 0x4)], false, [⟨0, 32, .ro, 0⟩]⟩ ]

/-- The registers of ZIP (spec/12). -/
def Reg.rowsZIP : List RegRow :=
  [ ⟨"ZIP_CTRL", 0xc0000, [], false, [⟨0, 1, .rw, 0⟩]⟩,
    ⟨"ZIP_CFG", 0xc0004, [], false, [⟨0, 8, .rwl, 15⟩]⟩,
    ⟨"ZIP_STS", 0xc0008, [], false, [⟨16, 1, .w1c, 0⟩, ⟨8, 8, .ro, 0⟩, ⟨0, 8, .ro, 0⟩]⟩,
    ⟨"ZIP_CTX_BASE", 0xc0010, [], true, [⟨0, 32, .rwl, 0x6000000⟩]⟩,
    ⟨"ZIP_PAGE_SLACK", 0xc0018, [], false, [⟨0, 32, .rc, 0xffffffff⟩]⟩,
    ⟨"ZIP_RING", 0xc0400, [(256, 0x4)], false, [⟨7, 1, .rwl, 0⟩, ⟨0, 6, .rwl, 0⟩]⟩,
    ⟨"ZIP_CTX_STS", 0xc0800, [(64, 0x4)], false, [⟨16, 1, .ro, 0⟩, ⟨8, 8, .ro, 0⟩, ⟨0, 2, .ro, 0⟩]⟩,
    ⟨"ZIP_CNT", 0xc0100, [(8, 0x10), (4, 0x4)], false, [⟨0, 32, .rc, 0⟩]⟩ ]

/-- The registers of RNG (spec/11). -/
def Reg.rowsRNG : List RegRow :=
  [ ⟨"RNG_CTRL", 0xd0000, [], false, [⟨0, 1, .rw, 0⟩]⟩,
    ⟨"RNG_STS", 0xd0004, [], false, [⟨19, 1, .w1c, 0⟩, ⟨16, 3, .ro, 0⟩, ⟨0, 15, .ro, 0⟩]⟩,
    ⟨"RNG_R_CFG", 0xd1000, [(256, 0x20)], false, [⟨27, 1, .rwl, 0⟩, ⟨26, 1, .rwl, 0⟩, ⟨18, 8, .rwl, 0⟩, ⟨10, 8, .rwl, 0⟩, ⟨6, 4, .rwl, 4⟩, ⟨4, 1, .rwl, 0⟩, ⟨0, 3, .rwl, 0⟩]⟩,
    ⟨"RNG_R_BASE", 0xd1004, [(256, 0x20)], true, [⟨0, 32, .rwl, 0⟩]⟩,
    ⟨"RNG_R_STS", 0xd100c, [(256, 0x20)], false, [⟨7, 1, .w1c, 0⟩, ⟨6, 1, .ro, 1⟩, ⟨5, 1, .w1c, 0⟩, ⟨4, 1, .w1c, 0⟩, ⟨3, 1, .w1c, 0⟩, ⟨0, 3, .ro, 0⟩]⟩,
    ⟨"RNG_R_PROD", 0xd1010, [(256, 0x20)], false, [⟨0, 32, .ro, 0⟩]⟩,
    ⟨"RNG_R_CONS", 0xd1014, [(256, 0x20)], false, [⟨0, 32, .ro, 0⟩]⟩,
    ⟨"RNG_R_HCONS", 0xd1018, [(256, 0x20)], false, [⟨0, 32, .ro, 0⟩]⟩,
    ⟨"RNG_R_MOD", 0xd101c, [(256, 0x20)], false, [⟨16, 16, .rwl, 1⟩, ⟨0, 16, .rwl, 0⟩]⟩,
    ⟨"RNG_EV_MASK", 0xd3000, [(256, 0x4)], false, [⟨0, 13, .rwl, 0x1fff⟩]⟩,
    ⟨"RNG_CNT", 0xd4000, [(8, 0x4)], false, [⟨0, 32, .rc, 0⟩]⟩,
    ⟨"MSIX_ADDR_LO", 0xd8000, [(256, 0x10)], false, [⟨0, 32, .rw, 0⟩]⟩,
    ⟨"MSIX_ADDR_HI", 0xd8004, [(256, 0x10)], false, [⟨0, 32, .rw, 0⟩]⟩,
    ⟨"MSIX_DATA", 0xd8008, [(256, 0x10)], false, [⟨0, 32, .rw, 0⟩]⟩,
    ⟨"MSIX_VCTL", 0xd800c, [(256, 0x10)], false, [⟨0, 1, .rw, 1⟩]⟩,
    ⟨"MSIX_PBA", 0xd9000, [(8, 0x4)], false, [⟨0, 32, .ro, 0⟩]⟩ ]

/-- The registers of DUE (spec/10). -/
def Reg.rowsDUE : List RegRow :=
  [ ⟨"DUE_CTRL", 0xe0000, [], false, [⟨4, 1, .wo, 0⟩, ⟨3, 1, .wo, 0⟩, ⟨2, 1, .wo, 0⟩, ⟨1, 1, .wo, 0⟩, ⟨0, 1, .rw, 0⟩]⟩,
    ⟨"DUE_CFG", 0xe0004, [], false, [⟨16, 16, .rwl, 0x1e0⟩, ⟨8, 8, .rwl, 20⟩, ⟨4, 4, .rwl, 2⟩, ⟨3, 1, .rwl, 1⟩, ⟨2, 1, .rwl, 0⟩, ⟨1, 1, .rwl, 0⟩]⟩,
    ⟨"DUE_STS", 0xe0008, [], false, [⟨24, 8, .ro, 0⟩, ⟨20, 4, .ro, 0⟩, ⟨14, 1, .ro, 0⟩, ⟨13, 1, .ro, 0⟩, ⟨12, 1, .ro, 0⟩, ⟨11, 1, .ro, 0⟩, ⟨10, 1, .ro, 0⟩, ⟨7, 3, .ro, 0⟩, ⟨0, 3, .ro, 0⟩]⟩,
    ⟨"DUE_EVT", 0xe000c, [], false, [⟨7, 1, .w1c, 0⟩, ⟨6, 1, .w1c, 0⟩, ⟨5, 1, .w1c, 0⟩, ⟨4, 1, .w1c, 0⟩, ⟨3, 1, .w1c, 0⟩, ⟨2, 1, .w1c, 0⟩, ⟨1, 1, .w1c, 0⟩, ⟨0, 1, .w1c, 0⟩]⟩,
    ⟨"DUE_CNT_OFS", 0xe0010, [], true, [⟨0, 32, .ro, 0⟩]⟩,
    ⟨"DUE_CFG_DIGEST", 0xe0018, [], false, [⟨0, 32, .ro, 0⟩]⟩,
    ⟨"DUE_ALLEM_NEXT", 0xe0020, [], true, [⟨0, 32, .ro, 0⟩]⟩,
    ⟨"DUE_CNT", 0xe0100, [(8, 0x4)], false, [⟨0, 32, .rc, 0⟩]⟩ ]

/-- The registers of FLD (spec/14). -/
def Reg.rowsFLD : List RegRow :=
  [ ⟨"FLD_CTRL", 0xf0000, [], false, [⟨2, 1, .wo, 0⟩, ⟨1, 1, .wo, 0⟩, ⟨0, 1, .rw, 0⟩]⟩,
    ⟨"FLD_STS", 0xf0004, [], false, [⟨8, 1, .ro, 0⟩, ⟨7, 1, .ro, 0⟩, ⟨6, 1, .ro, 0⟩, ⟨5, 1, .ro, 0⟩, ⟨4, 1, .ro, 0⟩, ⟨0, 3, .ro, 0⟩]⟩,
    ⟨"FLD_EVT", 0xf0008, [], false, [⟨8, 1, .w1c, 0⟩, ⟨7, 1, .w1c, 0⟩, ⟨6, 1, .w1c, 0⟩, ⟨5, 1, .w1c, 0⟩, ⟨4, 1, .w1c, 0⟩, ⟨3, 1, .w1c, 0⟩, ⟨2, 1, .w1c, 0⟩, ⟨1, 1, .w1c, 0⟩, ⟨0, 1, .w1c, 0⟩]⟩,
    ⟨"FLD_HEALTH", 0xf000c, [], false, [⟨24, 8, .ro, 0⟩, ⟨12, 12, .ro, 0⟩, ⟨0, 12, .ro, 0⟩]⟩,
    ⟨"FLD_DI_CFG", 0xf0100, [(12, 0x4)], false, [⟨12, 4, .rwl, 0⟩, ⟨11, 1, .rwl, 0⟩, ⟨10, 1, .rwl, 0⟩, ⟨8, 2, .rwl, 0⟩, ⟨0, 8, .rwl, 10⟩]⟩,
    ⟨"FLD_DI_STS", 0xf0140, [], false, [⟨16, 12, .ro, 0⟩, ⟨0, 12, .ro, 0⟩]⟩,
    ⟨"FLD_DI_EVT", 0xf0144, [], false, [⟨17, 1, .w1c, 0⟩, ⟨16, 1, .w1c, 0⟩, ⟨0, 12, .w1c, 0⟩]⟩,
    ⟨"FLD_OUT_CFG", 0xf0180, [(8, 0x4)], false, [⟨7, 2, .rwl, 0⟩, ⟨6, 1, .rwl, 0⟩, ⟨5, 1, .rwl, 0⟩, ⟨4, 1, .rwl, 0⟩, ⟨2, 2, .rwl, 1⟩, ⟨0, 2, .rwl, 0⟩]⟩,
    ⟨"FLD_OUT_VAL", 0xf01a0, [], false, [⟨0, 8, .rw, 0⟩]⟩,
    ⟨"FLD_OUT_STS", 0xf01a4, [], false, [⟨24, 1, .ro, 0⟩, ⟨16, 8, .ro, 0⟩, ⟨8, 8, .ro, 0⟩, ⟨0, 8, .ro, 0⟩]⟩,
    ⟨"FLD_OUT_EVT", 0xf01a8, [], false, [⟨8, 8, .w1c, 0⟩, ⟨0, 8, .w1c, 0⟩]⟩,
    ⟨"FLD_OUT_CLR", 0xf01ac, [], false, [⟨0, 8, .wo, 0⟩]⟩,
    ⟨"FLD_SPD_CFG", 0xf01c0, [], false, [⟨16, 1, .rwl, 0⟩, ⟨0, 10, .rwl, 1⟩]⟩,
    ⟨"FLD_UART_CFG", 0xf01c4, [], false, [⟨3, 1, .rwl, 1⟩, ⟨0, 3, .rwl, 4⟩]⟩,
    ⟨"FLD_AE_CFG", 0xf01e0, [(4, 0x4)], false, [⟨10, 6, .rwl, 8⟩, ⟨7, 3, .rwl, 2⟩, ⟨6, 1, .rwl, 1⟩, ⟨1, 5, .rwl, 23⟩, ⟨0, 1, .rwl, 0⟩]⟩,
    ⟨"FLD_CNT", 0xf0300, [(8, 0x4)], false, [⟨0, 32, .rc, 0⟩]⟩ ]

/-- The registers of MOT (spec/15). -/
def Reg.rowsMOT : List RegRow :=
  [ ⟨"MOT_CTRL", 0x100000, [], false, [⟨0, 1, .rw, 0⟩]⟩,
    ⟨"MOT_GANTRY", 0x100004, [], false, [⟨31, 1, .rwl, 0⟩, ⟨0, 24, .rwl, 0x400⟩]⟩,
    ⟨"MOT_EVT", 0x100008, [], false, [⟨1, 1, .w1c, 0⟩, ⟨0, 1, .w1c, 0⟩]⟩,
    ⟨"MOT_CNT", 0x100100, [(4, 0x4)], false, [⟨0, 32, .rc, 0⟩]⟩,
    ⟨"AX_CMD", 0x101000, [(4, 0x400)], false, [⟨16, 6, .wo, 0⟩, ⟨8, 6, .wo, 0⟩, ⟨0, 3, .wo, 0⟩]⟩,
    ⟨"AX_TARGET", 0x101004, [(4, 0x400)], false, [⟨0, 32, .rw, 0⟩]⟩,
    ⟨"AX_CFG", 0x101008, [(4, 0x400)], false, [⟨5, 2, .rwl, 2⟩, ⟨4, 1, .rwl, 0⟩, ⟨3, 1, .rwl, 0⟩, ⟨2, 1, .rwl, 0⟩, ⟨1, 1, .rwl, 0⟩, ⟨0, 1, .rwl, 0⟩]⟩,
    ⟨"AX_VMAX", 0x10100c, [(4, 0x400)], false, [⟨0, 24, .rwl, 0xc800⟩]⟩,
    ⟨"AX_AMAX", 0x101010, [(4, 0x400)], false, [⟨0, 24, .rwl, 0xfa0⟩]⟩,
    ⟨"AX_JMAX", 0x101014, [(4, 0x400)], false, [⟨0, 24, .rwl, 0x1f4⟩]⟩,
    ⟨"AX_STOP_A", 0x101018, [(4, 0x400)], false, [⟨0, 24, .rwl, 0x1f40⟩]⟩,
    ⟨"AX_STOP_J", 0x10101c, [(4, 0x400)], false, [⟨0, 24, .rwl, 0x3e8⟩]⟩,
    ⟨"AX_PARK", 0x101020, [(4, 0x400)], false, [⟨0, 32, .rwl, 0⟩]⟩,
    ⟨"AX_EM_V", 0x101024, [(4, 0x400)], false, [⟨0, 24, .rwl, 0xc800⟩]⟩,
    ⟨"AX_EM_A", 0x101028, [(4, 0x400)], false, [⟨0, 24, .rwl, 0x1f40⟩]⟩,
    ⟨"AX_CUR1", 0x10102c, [(4, 0x400)], false, [⟨16, 16, .rwl, 0x3e8⟩, ⟨0, 16, .rwl, 0x2bc⟩]⟩,
    ⟨"AX_CUR2", 0x101030, [(4, 0x400)], false, [⟨24, 8, .rwl, 50⟩, ⟨16, 8, .rwl, 200⟩, ⟨0, 16, .rwl, 0x15e⟩]⟩,
    ⟨"AX_ADAPT", 0x101034, [(4, 0x400)], false, [⟨16, 8, .rwl, 10⟩, ⟨8, 8, .rwl, 75⟩, ⟨0, 8, .rwl, 30⟩]⟩,
    ⟨"AX_FOLLOW", 0x101038, [(4, 0x400)], false, [⟨0, 24, .rwl, 0x800⟩]⟩,
    ⟨"AX_HYST", 0x10103c, [(4, 0x400)], false, [⟨16, 8, .rwl, 20⟩, ⟨12, 4, .rwl, 5⟩, ⟨0, 12, .rwl, 100⟩]⟩,
    ⟨"AX_VM1", 0x101040, [(4, 0x400)], false, [⟨16, 16, .rwl, 0x7d0⟩, ⟨0, 16, .rwl, 0x3e8⟩]⟩,
    ⟨"AX_VM2", 0x101044, [(4, 0x400)], false, [⟨16, 16, .rwl, 0x12c0⟩, ⟨0, 16, .rwl, 0⟩]⟩,
    ⟨"AX_VM3", 0x101048, [(4, 0x400)], false, [⟨16, 16, .rwl, 100⟩, ⟨0, 16, .rwl, 0x7d0⟩]⟩,
    ⟨"AX_ENC_RATIO", 0x10104c, [(4, 0x400)], false, [⟨0, 32, .rwl, 0x10000⟩]⟩,
    ⟨"AX_CS", 0x101050, [(4, 0x400)], false, [⟨0, 16, .rwl, 0xfa0⟩]⟩,
    ⟨"AX_STS", 0x101080, [(4, 0x400)], false, [⟨24, 8, .ro, 0⟩, ⟨16, 8, .ro, 255⟩, ⟨13, 3, .ro, 0⟩, ⟨11, 1, .ro, 1⟩, ⟨10, 1, .ro, 0⟩, ⟨4, 6, .ro, 0⟩, ⟨0, 4, .ro, 0⟩]⟩,
    ⟨"AX_POS", 0x101084, [(4, 0x400)], false, [⟨0, 32, .ro, 0⟩]⟩,
    ⟨"AX_ENCPOS", 0x101088, [(4, 0x400)], false, [⟨0, 32, .ro, 0⟩]⟩,
    ⟨"AX_REMAIN", 0x10108c, [(4, 0x400)], false, [⟨0, 32, .ro, 0⟩]⟩,
    ⟨"AX_TGT", 0x101090, [(4, 0x400)], false, [⟨0, 32, .ro, 0⟩]⟩,
    ⟨"AX_EVT", 0x101094, [(4, 0x400)], false, [⟨9, 1, .w1c, 0⟩, ⟨8, 1, .w1c, 0⟩, ⟨7, 1, .w1c, 0⟩, ⟨6, 1, .w1c, 0⟩, ⟨5, 1, .w1c, 0⟩, ⟨4, 1, .w1c, 0⟩, ⟨3, 1, .w1c, 0⟩, ⟨2, 1, .w1c, 0⟩, ⟨1, 1, .w1c, 0⟩, ⟨0, 1, .w1c, 0⟩]⟩,
    ⟨"AX_SEG_DUR", 0x101100, [(4, 0x400), (64, 0xc)], false, [⟨0, 32, .rwl, 10⟩]⟩,
    ⟨"AX_SEG_POS", 0x101104, [(4, 0x400), (64, 0xc)], false, [⟨0, 32, .rwl, 0⟩]⟩,
    ⟨"AX_SEG_VEL", 0x101108, [(4, 0x400), (64, 0xc)], false, [⟨0, 32, .rwl, 0⟩]⟩ ]

/-- The registers of ERR (spec/17). -/
def Reg.rowsERR : List RegRow :=
  [ ⟨"ERR_CTRL", 0x110000, [], false, [⟨2, 1, .wo, 0⟩, ⟨1, 1, .rwl, 1⟩, ⟨0, 1, .rw, 0⟩]⟩,
    ⟨"ERR_SCRUB", 0x110004, [], false, [⟨0, 16, .rwl, 0xe10⟩]⟩,
    ⟨"ERR_STS", 0x110008, [], false, [⟨6, 1, .w1c, 0⟩, ⟨5, 1, .w1c, 0⟩, ⟨4, 1, .w1c, 0⟩, ⟨0, 2, .ro, 0⟩]⟩,
    ⟨"ERR_LOG_HEAD", 0x11000c, [], false, [⟨0, 32, .ro, 0⟩]⟩,
    ⟨"ERR_LOG_RD", 0x110010, [], false, [⟨0, 32, .rw, 0⟩]⟩,
    ⟨"ERR_SPARE", 0x110014, [], false, [⟨16, 16, .ro, 0⟩, ⟨0, 16, .ro, 16⟩]⟩,
    ⟨"ERR_SVC_CFG", 0x110020, [], false, [⟨8, 8, .rwl, 70⟩, ⟨0, 8, .rwl, 90⟩]⟩,
    ⟨"ERR_SVC_LOAD", 0x110024, [], false, [⟨16, 16, .rc, 0⟩, ⟨0, 16, .ro, 0⟩]⟩,
    ⟨"ERR_CNT", 0x110100, [(8, 0x4)], false, [⟨0, 32, .rc, 0⟩]⟩,
    ⟨"ERR_FIRST", 0x110400, [(8, 0x4)], false, [⟨0, 32, .ro, 0⟩]⟩,
    ⟨"ERR_FRZ_RAW", 0x110440, [(20, 0x4)], false, [⟨0, 32, .ro, 0⟩]⟩,
    ⟨"ERR_LOG", 0x118000, [(256, 0x20), (8, 0x4)], false, [⟨0, 32, .ro, 0⟩]⟩ ]

/-- The registers of PMC (spec/17). -/
def Reg.rowsPMC : List RegRow :=
  [ ⟨"PMC_CTRL", 0x120000, [], false, [⟨2, 1, .wo, 0⟩, ⟨1, 1, .wo, 0⟩, ⟨0, 1, .rw, 0⟩]⟩,
    ⟨"PMC_STS", 0x120004, [], false, [⟨0, 16, .ro, 0⟩]⟩,
    ⟨"PMC_SNAP_TIME", 0x120008, [], true, [⟨0, 32, .ro, 0⟩]⟩,
    ⟨"PMC_MODE", 0x120100, [(16, 0x4)], false, [⟨0, 32, .rwl, 0⟩]⟩,
    ⟨"PMC_CNT", 0x121000, [(512, 0x8)], true, [⟨0, 32, .ro, 0⟩]⟩,
    ⟨"PMC_SNAP", 0x122000, [(512, 0x8)], true, [⟨0, 32, .ro, 0⟩]⟩ ]

/-- The registers of MBX (spec/11). -/
def Reg.rowsMBX : List RegRow :=
  [ ⟨"MBX_CTRL", 0x130000, [], false, [⟨0, 1, .wo, 0⟩]⟩,
    ⟨"MBX_STS", 0x130004, [], false, [⟨2, 1, .w1c, 0⟩, ⟨1, 1, .w1c, 0⟩, ⟨0, 1, .ro, 0⟩]⟩,
    ⟨"MBX_REQ", 0x130400, [(256, 0x4)], false, [⟨0, 32, .rw, 0⟩]⟩,
    ⟨"MBX_RSP", 0x130800, [(256, 0x4)], false, [⟨0, 32, .ro, 0⟩]⟩ ]

/-- The registers of SE (spec/04). -/
def Reg.rowsSE : List RegRow :=
  [ ⟨"SE_CTRL", 0x200000, [(64, 0x4000)], false, [⟨0, 1, .wo, 0⟩]⟩,
    ⟨"SE_STS", 0x200004, [(64, 0x4000)], false, [⟨24, 8, .ro, 0⟩, ⟨16, 8, .ro, 0⟩, ⟨6, 2, .ro, 0⟩, ⟨5, 1, .ro, 1⟩, ⟨4, 1, .ro, 0⟩, ⟨0, 4, .ro, 0⟩]⟩,
    ⟨"SE_LOAD", 0x200008, [(64, 0x4000)], false, [⟨16, 16, .rc, 0⟩, ⟨0, 16, .ro, 0⟩]⟩,
    ⟨"SE_LATE", 0x20000c, [(64, 0x4000)], false, [⟨0, 32, .rc, 0⟩]⟩,
    ⟨"SE_TILE_LATE", 0x200010, [(64, 0x4000)], false, [⟨0, 32, .rc, 0⟩]⟩,
    ⟨"SE_SPOT", 0x200014, [(64, 0x4000)], false, [⟨16, 16, .rc, 0⟩, ⟨0, 16, .rc, 0⟩]⟩,
    ⟨"SE_SPOT_MISS", 0x200018, [(64, 0x4000)], false, [⟨0, 32, .rc, 0⟩]⟩,
    ⟨"SE_SELFTEST", 0x20001c, [(64, 0x4000)], false, [⟨4, 4, .ro, 0⟩, ⟨2, 2, .ro, 0⟩, ⟨1, 1, .ro, 0⟩]⟩,
    ⟨"SE_CHECKER", 0x200020, [(64, 0x4000)], false, [⟨8, 6, .ro, 0⟩, ⟨0, 6, .ro, 0⟩]⟩ ]

/-- The registers of HP (spec/06). -/
def Reg.rowsHP : List RegRow :=
  [ ⟨"HP_CTRL", 0x400000, [(96, 0x1000)], false, [⟨8, 1, .rw, 0⟩, ⟨7, 1, .rw, 0⟩, ⟨6, 1, .rw, 0⟩, ⟨5, 1, .wo, 0⟩, ⟨4, 1, .wo, 0⟩, ⟨3, 1, .wo, 0⟩, ⟨2, 1, .rwl, 0⟩, ⟨1, 1, .rwl, 0⟩, ⟨0, 1, .rw, 0⟩]⟩,
    ⟨"HP_CFG", 0x400004, [(96, 0x1000)], false, [⟨11, 1, .rwl, 0⟩, ⟨10, 1, .rwl, 1⟩, ⟨5, 3, .rwl, 2⟩, ⟨4, 1, .rwl, 1⟩]⟩,
    ⟨"HP_LINK_STS", 0x400008, [(96, 0x1000)], false, [⟨24, 8, .ro, 0⟩, ⟨19, 1, .ro, 0⟩, ⟨18, 1, .ro, 0⟩, ⟨17, 1, .ro, 0⟩, ⟨16, 1, .ro, 0⟩, ⟨15, 1, .ro, 0⟩, ⟨14, 1, .ro, 0⟩, ⟨12, 2, .ro, 0⟩, ⟨4, 4, .ro, 0⟩, ⟨0, 1, .ro, 0⟩]⟩,
    ⟨"HP_LINK_EVT", 0x40000c, [(96, 0x1000)], false, [⟨9, 1, .w1c, 0⟩, ⟨8, 1, .w1c, 0⟩, ⟨7, 1, .w1c, 0⟩, ⟨6, 1, .w1c, 0⟩, ⟨5, 1, .w1c, 0⟩, ⟨4, 1, .w1c, 0⟩, ⟨3, 1, .w1c, 0⟩, ⟨2, 1, .w1c, 0⟩, ⟨1, 1, .w1c, 0⟩, ⟨0, 1, .w1c, 0⟩]⟩,
    ⟨"HP_TT_ASYM", 0x400010, [(96, 0x1000)], false, [⟨0, 32, .rwl, 0⟩]⟩,
    ⟨"HP_DELAY", 0x400014, [(96, 0x1000)], false, [⟨0, 32, .ro, 0⟩]⟩,
    ⟨"HP_OFFSET", 0x400018, [(96, 0x1000)], false, [⟨0, 16, .ro, 0⟩]⟩,
    ⟨"HP_RTT", 0x40001c, [(96, 0x1000)], false, [⟨0, 32, .ro, 0⟩]⟩,
    ⟨"HP_HEAD_ID", 0x400020, [(96, 0x1000)], false, [⟨16, 16, .ro, 0⟩, ⟨0, 16, .ro, 0⟩]⟩,
    ⟨"HP_HEAD_SERIAL", 0x400024, [(96, 0x1000)], true, [⟨0, 32, .ro, 0⟩]⟩,
    ⟨"HP_HEAD_CAP", 0x40002c, [(96, 0x1000)], false, [⟨16, 16, .ro, 0⟩, ⟨8, 8, .ro, 0⟩, ⟨4, 4, .ro, 0⟩, ⟨3, 1, .ro, 0⟩, ⟨2, 1, .ro, 0⟩]⟩,
    ⟨"HP_HEAD_RATE", 0x400030, [(96, 0x1000)], false, [⟨0, 18, .ro, 0⟩]⟩,
    ⟨"HP_HEAD_COLS", 0x400040, [(96, 0x1000), (16, 0x4)], false, [⟨0, 12, .ro, 0⟩]⟩,
    ⟨"HP_HEAD_TEMP", 0x400080, [(96, 0x1000), (4, 0x4)], false, [⟨0, 16, .ro, 0⟩]⟩,
    ⟨"HP_HEAD_STATE", 0x400090, [(96, 0x1000)], false, [⟨24, 8, .ro, 0⟩, ⟨16, 8, .ro, 0⟩, ⟨6, 1, .ro, 0⟩, ⟨4, 2, .ro, 0⟩, ⟨0, 3, .ro, 0⟩]⟩,
    ⟨"HP_HEAD_CMD", 0x400094, [(96, 0x1000)], false, [⟨0, 3, .rw, 0⟩]⟩,
    ⟨"HP_ROW_WAVE", 0x4000c0, [(96, 0x1000), (16, 0x4)], false, [⟨4, 4, .ro, 0⟩, ⟨0, 4, .rw, 0⟩]⟩,
    ⟨"HP_CNT", 0x400100, [(96, 0x1000), (6, 0x4)], false, [⟨0, 32, .rc, 0⟩]⟩,
    ⟨"HP_HEAD_CNT", 0x400120, [(96, 0x1000), (8, 0x4)], false, [⟨0, 16, .ro, 0⟩]⟩ ]

/-- The registers of L (spec/07). -/
def Reg.rowsL : List RegRow :=
  [ ⟨"L_CTRL", 0x500000, [(256, 0x400)], false, [⟨7, 1, .wo, 0⟩, ⟨6, 1, .wo, 0⟩, ⟨5, 1, .wo, 0⟩, ⟨3, 2, .rwl, 0⟩, ⟨1, 1, .rwl, 0⟩, ⟨0, 1, .rw, 0⟩]⟩,
    ⟨"L_STS", 0x500004, [(256, 0x400)], false, [⟨20, 4, .ro, 0⟩, ⟨16, 4, .ro, 0⟩, ⟨12, 3, .ro, 0⟩, ⟨11, 1, .ro, 0⟩, ⟨10, 1, .ro, 0⟩, ⟨9, 1, .ro, 0⟩, ⟨8, 1, .ro, 0⟩, ⟨7, 1, .ro, 0⟩, ⟨4, 3, .ro, 0⟩, ⟨3, 1, .ro, 0⟩, ⟨2, 1, .ro, 0⟩, ⟨1, 1, .ro, 0⟩, ⟨0, 1, .ro, 0⟩]⟩,
    ⟨"L_EVT", 0x500008, [(256, 0x400)], false, [⟨7, 1, .w1c, 0⟩, ⟨6, 1, .w1c, 0⟩, ⟨5, 1, .w1c, 0⟩, ⟨4, 1, .w1c, 0⟩, ⟨3, 1, .w1c, 0⟩, ⟨2, 1, .w1c, 0⟩, ⟨1, 1, .w1c, 0⟩, ⟨0, 1, .w1c, 0⟩]⟩,
    ⟨"L_TXEQ", 0x50000c, [(256, 0x400)], false, [⟨9, 3, .rwl, 0⟩, ⟨4, 5, .rwl, 0⟩, ⟨0, 4, .rwl, 0⟩]⟩,
    ⟨"L_RXEQ", 0x500010, [(256, 0x400)], false, [⟨8, 8, .rwl, 0⟩, ⟨4, 4, .rwl, 0⟩, ⟨0, 2, .rwl, 0⟩]⟩,
    ⟨"L_BS", 0x500014, [(256, 0x400)], false, [⟨10, 7, .ro, 0⟩, ⟨3, 7, .ro, 0⟩, ⟨2, 1, .ro, 0⟩, ⟨1, 1, .rwl, 1⟩, ⟨0, 1, .wo, 0⟩]⟩,
    ⟨"L_EYE", 0x500018, [(256, 0x400)], false, [⟨31, 1, .ro, 0⟩, ⟨30, 1, .ro, 0⟩, ⟨16, 2, .ro, 0⟩, ⟨8, 8, .ro, 0⟩, ⟨0, 7, .ro, 0⟩]⟩,
    ⟨"L_EYE_LIM", 0x50001c, [(256, 0x400)], false, [⟨24, 8, .rwl, 0⟩, ⟨16, 7, .rwl, 0⟩, ⟨8, 8, .rwl, 0⟩, ⟨0, 7, .rwl, 0⟩]⟩,
    ⟨"L_PRBS", 0x500020, [(256, 0x400)], false, [⟨6, 1, .ro, 0⟩, ⟨5, 1, .rwl, 0⟩, ⟨4, 1, .rwl, 0⟩, ⟨0, 3, .rwl, 0⟩]⟩,
    ⟨"L_PRBS_ERR", 0x500024, [(256, 0x400)], false, [⟨0, 32, .rc, 0⟩]⟩,
    ⟨"L_PRBS_BITS", 0x500028, [(256, 0x400)], true, [⟨0, 32, .ro, 0⟩]⟩,
    ⟨"L_SELFTEST", 0x500030, [(256, 0x400)], false, [⟨3, 1, .ro, 0⟩, ⟨2, 1, .ro, 0⟩, ⟨0, 2, .ro, 0⟩]⟩,
    ⟨"L_CNT", 0x500040, [(256, 0x400), (6, 0x4)], false, [⟨0, 32, .rc, 0⟩]⟩ ]

/-- The registers of MC (spec/13). -/
def Reg.rowsMC : List RegRow :=
  [ ⟨"MC_CTRL", 0x600000, [(16, 0x4000)], false, [⟨0, 1, .wo, 0⟩]⟩,
    ⟨"MC_STS", 0x600004, [(16, 0x4000)], false, [⟨8, 2, .ro, 0⟩, ⟨7, 1, .w1c, 0⟩, ⟨6, 1, .ro, 0⟩, ⟨5, 1, .w1c, 0⟩, ⟨4, 1, .ro, 0⟩, ⟨0, 4, .ro, 0⟩]⟩,
    ⟨"MC_CE_CNT", 0x600010, [(16, 0x4000)], false, [⟨0, 32, .rc, 0⟩]⟩,
    ⟨"MC_CE_LASTING", 0x600014, [(16, 0x4000)], false, [⟨0, 32, .rc, 0⟩]⟩,
    ⟨"MC_TICK_OVER", 0x600018, [(16, 0x4000)], false, [⟨0, 32, .rc, 0⟩]⟩,
    ⟨"MC_CE_ADDR", 0x600020, [(16, 0x4000)], true, [⟨0, 32, .ro, 0⟩]⟩,
    ⟨"MC_MARGIN", 0x600028, [(16, 0x4000)], false, [⟨24, 8, .ro, 0⟩, ⟨16, 8, .ro, 0⟩, ⟨8, 8, .ro, 0⟩, ⟨0, 8, .ro, 0⟩]⟩,
    ⟨"MC_PG_CTRL", 0x600100, [(16, 0x4000)], false, [⟨4, 2, .rwl, 0⟩, ⟨2, 2, .rwl, 0⟩, ⟨1, 1, .ro, 0⟩, ⟨0, 1, .wo, 0⟩]⟩,
    ⟨"MC_PG_DATA", 0x600104, [(16, 0x4000)], true, [⟨0, 32, .rwl, 0⟩]⟩,
    ⟨"MC_PG_ADDR", 0x60010c, [(16, 0x4000)], false, [⟨0, 28, .rwl, 0⟩]⟩,
    ⟨"MC_PG_COUNT", 0x600110, [(16, 0x4000)], false, [⟨0, 32, .rwl, 0⟩]⟩,
    ⟨"MC_CMP_MASK", 0x600114, [(16, 0x4000)], true, [⟨0, 32, .w1c, 0⟩]⟩,
    ⟨"MC_CMP_CNT", 0x60011c, [(16, 0x4000)], false, [⟨0, 32, .rc, 0⟩]⟩,
    ⟨"MC_MRA", 0x600130, [(16, 0x4000)], false, [⟨24, 8, .rw, 0⟩, ⟨16, 8, .rw, 0⟩, ⟨15, 1, .rw, 0⟩, ⟨14, 1, .rw, 0⟩, ⟨13, 1, .ro, 0⟩, ⟨12, 1, .wo, 0⟩]⟩,
    ⟨"MC_DQ_DLY", 0x600200, [(16, 0x4000), (40, 0x4)], false, [⟨8, 8, .rwl, 0⟩, ⟨0, 8, .rwl, 0⟩]⟩,
    ⟨"MC_LANE_DLY", 0x600300, [(16, 0x4000), (5, 0x4)], false, [⟨16, 8, .rwl, 0⟩, ⟨8, 8, .rwl, 0⟩, ⟨0, 8, .rwl, 0⟩]⟩,
    ⟨"MC_CA_DLY", 0x600340, [(16, 0x4000), (16, 0x4)], false, [⟨0, 8, .rwl, 0⟩]⟩,
    ⟨"MC_VREF", 0x600380, [(16, 0x4000)], false, [⟨16, 8, .rwl, 128⟩, ⟨8, 8, .ro, 0⟩, ⟨0, 8, .ro, 0⟩]⟩ ]

/-- The registers of MEM (spec/13). -/
def Reg.rowsMEM : List RegRow :=
  [ ⟨"MEM_CTRL", 0x603000, [], false, [⟨3, 1, .rwl, 1⟩, ⟨2, 1, .rwl, 0⟩, ⟨1, 1, .rwl, 1⟩, ⟨0, 1, .rw, 0⟩]⟩,
    ⟨"MEM_CFG", 0x603004, [], false, [⟨0, 4, .rwl, 12⟩]⟩,
    ⟨"MEM_POP", 0x603008, [], false, [⟨16, 16, .rwl, 0⟩, ⟨8, 2, .rwl, 3⟩, ⟨4, 2, .rwl, 0⟩, ⟨1, 1, .rwl, 0⟩, ⟨0, 1, .rwl, 1⟩]⟩,
    ⟨"MEM_PD", 0x60300c, [], false, [⟨0, 16, .rwl, 200⟩]⟩,
    ⟨"MEM_SCRUB", 0x603010, [], false, [⟨16, 16, .rwl, 64⟩, ⟨0, 8, .rwl, 24⟩]⟩,
    ⟨"MEM_MARGIN", 0x603014, [], false, [⟨0, 8, .rwl, 6⟩]⟩,
    ⟨"MEM_ARB", 0x603018, [], false, [⟨16, 8, .rwl, 1⟩, ⟨8, 8, .rwl, 4⟩, ⟨0, 8, .rwl, 8⟩]⟩,
    ⟨"MEM_STS", 0x603020, [], false, [⟨16, 16, .ro, 0⟩, ⟨8, 5, .ro, 0⟩, ⟨4, 1, .w1c, 0⟩, ⟨3, 1, .w1c, 0⟩, ⟨2, 1, .ro, 0⟩, ⟨1, 1, .w1c, 0⟩, ⟨0, 1, .ro, 0⟩]⟩,
    ⟨"MEM_CAP", 0x603028, [], true, [⟨0, 32, .ro, 0⟩]⟩,
    ⟨"MEM_PLAN", 0x603030, [], false, [⟨16, 10, .ro, 0⟩, ⟨0, 10, .ro, 0⟩]⟩,
    ⟨"MEM_FRZ_STS", 0x603040, [], false, [⟨28, 4, .ro, 0⟩, ⟨24, 4, .ro, 0⟩, ⟨20, 4, .ro, 0⟩, ⟨8, 8, .ro, 0⟩, ⟨0, 1, .ro, 0⟩]⟩,
    ⟨"MEM_FRZ_ADDR", 0x603048, [], true, [⟨0, 32, .ro, 0⟩]⟩,
    ⟨"MEM_FRZ_TIME", 0x603050, [], true, [⟨0, 32, .ro, 0⟩]⟩,
    ⟨"MEM_FRZ_LOC", 0x603058, [], false, [⟨14, 18, .ro, 0⟩, ⟨13, 1, .ro, 0⟩, ⟨11, 2, .ro, 0⟩, ⟨8, 3, .ro, 0⟩, ⟨0, 6, .ro, 0⟩]⟩ ]

end Sys2Proof.Machine
end

