-- ==== Sys2Proof/Machine/Sparse.lean ====
section
/-! DEFINITION. A map from natural-number keys to plain data, kept as a list of pairs in ONE canonical form:
keys strictly rising, and no entry equal to what an unlisted key reads as. The register file and the memory are
both held in it, so equal contents are equal lists. -/

namespace Sys2Proof.Machine

variable {α : Type}

/-- The value at key `k`: the listed one, or what an unlisted key reads as. -/
def Sparse.get (unlisted : Nat → α) : List (Nat × α) → Nat → α
  | [], k => unlisted k
  | (a, v) :: l, k => if a = k then v else Sparse.get unlisted l k

/-- List `v` at key `k`, keeping keys in rising order. -/
def Sparse.insert (k : Nat) (v : α) : List (Nat × α) → List (Nat × α)
  | [] => [(k, v)]
  | (a, x) :: l =>
    if k < a then (k, v) :: (a, x) :: l
    else if k = a then (k, v) :: l
    else (a, x) :: Sparse.insert k v l

/-- Take key `k` out of the list. -/
def Sparse.erase (k : Nat) (l : List (Nat × α)) : List (Nat × α) :=
  l.filter (fun e => e.1 ≠ k)

/-- Write `v` at key `k`; writing what an unlisted key reads as removes the entry. -/
def Sparse.put [DecidableEq α] (unlisted : Nat → α) (l : List (Nat × α)) (k : Nat) (v : α) : List (Nat × α) :=
  if v = unlisted k then Sparse.erase k l else Sparse.insert k v l

/-- The canonical form. -/
def Sparse.Wf [DecidableEq α] (unlisted : Nat → α) (l : List (Nat × α)) : Prop :=
  (l.map Prod.fst).Pairwise (· < ·) ∧ ∀ e ∈ l, e.2 ≠ unlisted e.1

end Sys2Proof.Machine
end

