-- ==== Sys2Proof/Machine/Tap.lean ====
section
/-! DEFINITION. The test access port of the main die (R553), as IEEE 1149.1 defines it: the controller, the instruction register, the
bypass register and the boundary register. PRESUMED (log entry 192) in what R553 leaves to that standard. -/

namespace Sys2Proof.Machine

/-- The states of the test access port's controller. -/
inductive TapCtl where
  | testLogicReset | runTestIdle
  | selectDr | captureDr | shiftDr | exit1Dr | pauseDr | exit2Dr | updateDr
  | selectIr | captureIr | shiftIr | exit1Ir | pauseIr | exit2Ir | updateIr
  deriving DecidableEq, Repr

/-- The state after a rising edge of TCK with TMS at this level. -/
def TapCtl.next (c : TapCtl) (tms : Bool) : TapCtl :=
  let go := fun (low high : TapCtl) => if tms then high else low
  match c with
  | .testLogicReset => go .runTestIdle .testLogicReset
  | .runTestIdle => go .runTestIdle .selectDr
  | .selectDr => go .captureDr .selectIr
  | .captureDr => go .shiftDr .exit1Dr
  | .shiftDr => go .shiftDr .exit1Dr
  | .exit1Dr => go .pauseDr .updateDr
  | .pauseDr => go .pauseDr .exit2Dr
  | .exit2Dr => go .shiftDr .updateDr
  | .updateDr => go .runTestIdle .selectDr
  | .selectIr => go .captureIr .testLogicReset
  | .captureIr => go .shiftIr .exit1Ir
  | .shiftIr => go .shiftIr .exit1Ir
  | .exit1Ir => go .pauseIr .updateIr
  | .pauseIr => go .pauseIr .exit2Ir
  | .exit2Ir => go .shiftIr .updateIr
  | .updateIr => go .runTestIdle .selectDr

/-- What an instruction of the port selects: outside the factory mode nothing but the boundary register and the bypass bit (R553). -/
inductive TapInstr where
  | bypass | sample | extest
  deriving DecidableEq, Repr

/-- The balls of the boundary register: every main-side signal ball but the serial, DRAM and reference clock balls, the core voltage
sense and the test port's own (R534, R553), with whether the device drives it. -/
def boundaryBalls : List (String × Bool) :=
  [("QSPI_CLK", true), ("QSPI_CS_N", true), ("QSPI_IO0", true), ("QSPI_IO1", true), ("QSPI_IO2", true), ("QSPI_IO3", true),
   ("BOOT_SRC", false), ("PCIE_X16", false), ("REFSEL_HQ", false), ("REFSEL_CAM", false), ("REFSEL_PEER", false), ("REFSEL_SYS", false),
   ("RESET_N", false), ("PERST_A_N", false), ("PERST_B_N", false), ("THERMTRIP_N", true),
   ("VR_SCL", true), ("VR_SDA", true), ("VR_ALERT_N", false), ("VR_PGOOD", false)]

/-- The port: its controller; the instruction in force; the instruction and data bits in the shift path, TDO's end first; the latched
boundary outputs; and the level of TEST_MODE, which the board ties to VSS. -/
structure Tap where
  ctl      : TapCtl := .testLogicReset
  instr    : TapInstr := .bypass
  irShift  : List Bool := []
  drShift  : List Bool := []
  latched  : List Bool := []
  testMode : Bool := false
  deriving DecidableEq, Repr

/-- The instruction that a code selects: all ones is BYPASS; the other codes are open. -/
def tapInstr (code : List Bool) : TapInstr :=
  if code.all id then .bypass
  else match Config.tapCode code % 3 with
    | 0 => .bypass
    | 1 => .sample
    | _ => .extest

/-- One bit through a shift path. -/
def shiftBit (path : List Bool) (tdi : Bool) : List Bool := path.drop 1 ++ [tdi]

/-- One cycle of TCK: what the state that the port is in does, then its next state. `pins` are the levels at the balls of the boundary
register. -/
def Tap.clock (pins : List Bool) (tms tdi : Bool) (t : Tap) : Tap :=
  let t : Tap := match t.ctl with
    | .testLogicReset => { t with instr := .bypass }
    | .captureDr => { t with drShift := if t.instr = .bypass then [false] else pins }
    | .shiftDr => { t with drShift := shiftBit t.drShift tdi }
    | .updateDr => if t.instr = .bypass then t else { t with latched := t.drShift }
    | .captureIr => { t with irShift := true :: false :: List.replicate (Config.tapWidth - 2) false }
    | .shiftIr => { t with irShift := shiftBit t.irShift tdi }
    | .updateIr => { t with instr := tapInstr t.irShift }
    | _ => t
  { t with ctl := t.ctl.next tms }

/-- TDO: the end of the path that shifts; none while nothing shifts. -/
def Tap.tdo (t : Tap) : Option Bool :=
  match t.ctl with
  | .shiftDr => t.drShift.head?
  | .shiftIr => t.irShift.head?
  | _ => none

/-- The balls that EXTEST drives, with their levels. -/
def Tap.driven (t : Tap) : List (String × Bool) :=
  if t.instr = .extest then
    ((boundaryBalls.zip t.latched).filter (·.1.2)).map (fun e => (e.1.1, e.2))
  else []

/-- TRST_N low, which R536 has the board pull to VSS: Test-Logic-Reset. -/
def Tap.trst (t : Tap) : Tap := { t with ctl := .testLogicReset, instr := .bypass }

end Sys2Proof.Machine
end

