-- ==== Sys2Proof/Machine/State.lean ====
section
/-! DEFINITION. The machine's state: the register file, the internal memory, what each unit holds beside its registers, the
queue of waiting commands, and what the block has sent out. It is plain data. -/

namespace Sys2Proof.Machine

/-- Why a command could not be carried out on the state it met. No meaning of this model ends in a fault: the spec gives
every command an effect, and what it drops or refuses it drops with the effect the spec names (safe). -/
inductive Fault where
  /-- A command that names an instance the block does not have (for example, head port 96) reached the machine. Raised by
  `Safety` checks only; safe. -/
  | noSuchInstance (what : String)
  deriving DecidableEq, Repr

/-- Why a command has no meaning. -/
inductive Refusal where
  /-- The row has no meaning in this model yet. Raised by `exec`'s arms alone; safe. -/
  | notModelled (mnemonic : String)
  deriving DecidableEq, Repr

/-- What the block sends out: to a host, to a head, to a peer, to a camera, to the field die, or on a pin. -/
inductive Out where
  | hostWrite (port addr : Nat) (bytes : List Byte)
  | hostRead (port addr len : Nat)
  | msix (port vector : Nat)
  | readData (slot bar off : Nat) (data : Word)
  | unsupported (slot bar off : Nat)
  | aer (port : Nat)
  /-- A run of blocks on a link, from a moment in 1/100 mt on: block time by block time what each lane carries, the lane named first, as
  blocks and as their sync and payload on the wire (R180). -/
  | link (lane start : Nat) (slots : List (List LinkBlock)) (wire : List (List (Nat × Nat)))
  /-- What a run says after this moment on that link is not sent (R212, R223). -/
  | cut (lane time : Nat)
  | stateCopy (seq : Nat) (items : List CopyItem)
  | ptm (port : Nat)
  | trigger (port time : Nat)
  | camera (port kind : Nat) (bytes : List Byte)
  /-- A frame on a barrier channel (R423): when its start edge leaves, and its 51 bits. -/
  | frame (channel start wire : Nat)
  /-- A high pulse on a pin, its width in µs. -/
  | pulse (name : String) (width : Nat)
  | console (bytes : List Byte)
  /-- A PMBus transfer to the core regulator (R541): its address, whether with packet error code, the command, and the word written. -/
  | pmbus (address : Nat) (pec : Bool) (command : Nat) (data : Option Nat)
  | pin (name : String) (level : Nat)
  deriving DecidableEq, Repr

/-- The state of the block. -/
structure State where
  /-- The register file: what differs from the reset values of the register map. -/
  regs    : List (Nat × Word) := []
  /-- The internal address space of the table "Internal address space" (R34): on-die SRAM and DRAM. -/
  mem     : List Host.Cell := []
  /-- Meridian time (R37). -/
  now     : Nat := 0
  /-- The events of this clock (R8): by register, its word from before the first of them, and the bits they set. -/
  fresh   : List (Nat × Word × Word) := []
  tally   : Tally := {}
  host    : HostSt := {}
  err     : ErrSt := {}
  pwr     : PwrSt := {}
  tb      : TbSt := {}
  job     : JobSt := {}
  eng     : EngSt := {}
  smp     : SmpSt := {}
  /-- The row slots that hold more than their registers, by row slot. -/
  rows    : List (Nat × RowSt) := []
  /-- The head ports that hold more than their registers, by port. -/
  ports   : List (Nat × PortSt) := []
  fld     : FldSt := {}
  mot     : MotSt := {}
  due     : DueSt := {}
  cal     : CalSt := {}
  /-- The lanes, the peer links and the camera ports that hold more than their registers. -/
  lanes   : List (Nat × LaneSt) := []
  peers   : List (Nat × PeerSt) := []
  cams    : List (Nat × CamSt) := []
  ins     : InsSt := {}
  zip     : ZipSt := {}
  dram    : DramSt := {}
  /-- The test access port (R553). -/
  tap     : Tap := {}
  /-- The time at which each rate-limited event was last posted, by code and scope (R557). -/
  posted  : List (Nat × Nat) := []
  /-- The model's own: how many open values have been drawn (Config.freeNat). -/
  free    : Nat := 0
  /-- The model's own: what the block has sent out, newest first. -/
  out     : List Out := []
  /-- The commands that wait, first in, first out. -/
  pending : List Instr := []
  deriving DecidableEq, Repr

/-- The machine right after reset: every register at its reset value, mode M2, Meridian time 0, nothing waiting. -/
def State.reset : State := {}

end Sys2Proof.Machine
end

