-- ==== Sys2Proof/Machine/Ops.lean ====
section
/-! DEFINITION. The named operations over the register file, the internal memory and what the block sends out. -/

namespace Sys2Proof.Machine

/-! ### The register map -/

/-- The element of a register's arrays at a distance from its base, or none between elements. -/
def locate : List (Nat × Nat) → Nat → Option Nat
  | [], d => some d
  | (n, s) :: ds, d => if d / s < n then locate ds (d % s) else none

/-- Where an address falls in a register: 0 its word or _LO, 4 its _HI. -/
def RegRow.part (r : RegRow) (a : Nat) : Option Nat :=
  if a < r.base then none
  else match locate r.dims (a - r.base) with
    | some 0 => some 0
    | some 4 => if r.pair then some 4 else none
    | _ => none

/-- The rows of the unit whose window holds an address (R33, R19). -/
def Reg.rowsAt (a : Nat) : List RegRow :=
  if a < 0x10000 then Reg.rowsDEV
  else if a < 0x20000 then Reg.rowsPWR
  else if a < 0x30000 then Reg.rowsTHM
  else if a < 0x40000 then Reg.rowsMER
  else if a < 0x50000 then Reg.rowsTRK
  else if a < 0x60000 then Reg.rowsENC
  else if a < 0x70000 then Reg.rowsJOB
  else if a < 0x80000 then Reg.rowsFAB
  else if a < 0x90000 then Reg.rowsSMP
  else if a < 0xA0000 then Reg.rowsCAL
  else if a < 0xB0000 then Reg.rowsINS
  else if a < 0xC0000 then Reg.rowsCAM
  else if a < 0xD0000 then Reg.rowsZIP
  else if a < 0xE0000 then Reg.rowsRNG
  else if a < 0xF0000 then Reg.rowsDUE
  else if a < 0x100000 then Reg.rowsFLD
  else if a < 0x110000 then Reg.rowsMOT
  else if a < 0x120000 then Reg.rowsERR
  else if a < 0x130000 then Reg.rowsPMC
  else if a < 0x140000 then Reg.rowsMBX
  else if 0x200000 ≤ a ∧ a < 0x300000 then Reg.rowsSE
  else if 0x400000 ≤ a ∧ a < 0x460000 then Reg.rowsHP
  else if 0x500000 ≤ a ∧ a < 0x540000 then Reg.rowsL
  else if 0x600000 ≤ a ∧ a < 0x640000 then (if a % 0x4000 < 0x3000 then Reg.rowsMC else Reg.rowsMEM)
  else []

/-- The register at a BAR0 address, and the half of the pair that the address names. Port B's MSI-X structures stand 64 MiB above port
A's (R341, R342). -/
def Reg.find (a : Nat) : Option (RegRow × Nat) :=
  let a := if 0x40D8000 ≤ a ∧ a < 0x40DA000 then a - 0x4000000 else a
  (Reg.rowsAt a).findSome? (fun r => (r.part a).map (fun p => (r, p)))

/-- The lane group of Ln (R257): 0 head, 1 camera, 2 host, 3 Duet, 4 station. -/
def laneGroup (n : Nat) : Nat :=
  if n < 192 then 0 else if n < 224 then 1 else if n < 240 then 2 else if n < 248 then 3 else 4

/-- The reset value of L_TXEQ by group: PRE, POST and AMP of the table "Lane reset values" (R257). -/
def laneTxeqReset (g : Nat) : Nat :=
  match g with
  | 0 => 0 + 6 * 16 + 4 * 512
  | 1 => 0
  | 2 => 0
  | _ => 2 + 8 * 16 + 5 * 512

/-- The reset value of L_EYE_LIM by group (R257). -/
def laneEyeReset (g : Nat) : Nat :=
  match g with
  | 1 => 24 + 15 * 2 ^ 8 + 32 * 2 ^ 16 + 25 * 2 ^ 24
  | 2 => 0
  | _ => 20 + 12 * 2 ^ 8 + 28 * 2 ^ 16 + 20 * 2 ^ 24

/-- The counters whose default mode is level, in the table "Counter list" (R525). -/
def pmcLevel (i : Nat) : Bool :=
  i < 64 || (336 ≤ i && i < 352) || (368 ≤ i && i < 376) || i = 382 || i = 383 || i = 432 || (440 ≤ i && i < 446)

/-- The reset word of PMC_MODE w (R525). -/
def pmcModeReset (w : Nat) : Nat :=
  (List.range 32).foldl (fun acc j => if pmcLevel (32 * w + j) then acc + 2 ^ j else acc) 0

/-- The fields whose reset value the hardware gives: the spec's text beside each table says from what. -/
def Reg.hwReset (a : Nat) : Nat :=
  if 0x200000 ≤ a ∧ a < 0x300000 ∧ (a - 0x200000) % 0x4000 = 0x20 then
    let n := (a - 0x200000) / 0x4000
    (n + 63) % 64 * 256 + (n + 1) % 64
  else if 0x500000 ≤ a ∧ a < 0x540000 then
    let n := (a - 0x500000) / 0x400
    let o := (a - 0x500000) % 0x400
    if o = 4 then laneGroup n * 2 ^ 12
    else if o = 0xC then laneTxeqReset (laneGroup n)
    else if o = 0x1C then laneEyeReset (laneGroup n)
    else 0
  else if 0x120100 ≤ a ∧ a < 0x120140 then pmcModeReset ((a - 0x120100) / 4)
  else 0

/-- A register's word at reset (R6); bits that no field names read 0 (R10), and so do unassigned offsets (R11). -/
def Reg.resetWord (a : Nat) : Word :=
  match Reg.find a with
  | none => 0
  | some (r, p) =>
    BitVec.ofNat 32 ((if p = 0 then r.fields.foldl (fun acc f => acc + f.rst * 2 ^ f.lo) 0 else 0) + Reg.hwReset a)

/-! ### Reading and writing the register file -/

/-- The word held at a register's address. -/
def State.word (s : State) (a : Nat) : Word := Sparse.get Reg.resetWord s.regs a

/-- Set the word held at a register's address. -/
def State.setWord (s : State) (a : Nat) (v : Word) : State := { s with regs := Sparse.put Reg.resetWord s.regs a v }

/-- A field's value. -/
def State.get (s : State) (f : Fld) : Nat := bits (s.word f.addr).toNat f.lo f.width

/-- A field's value as a signed number. -/
def State.getI (s : State) (f : Fld) : Int := signed f.width (s.get f)

/-- A one-bit field. -/
def State.flag (s : State) (f : Fld) : Bool := s.get f ≠ 0

/-- The clock's events (R8), once the hardware sets one more in a W1C or RC field: the register's word from before the clock's first
event there, and the bits set since. -/
def State.noteEvent (s : State) (f : Fld) : List (Nat × Word × Word) :=
  let e := (s.fresh.lookup f.addr).getD (s.word f.addr, 0)
  Sparse.insert f.addr (e.1, e.2 ||| BitVec.ofNat 32 ((2 ^ f.width - 1) * 2 ^ f.lo)) s.fresh

/-- Set a field, leaving the register's other fields. A field in which the hardware sets events remembers the clock's (R8). -/
def State.put (s : State) (f : Fld) (v : Nat) : State :=
  { s with
    regs := Sparse.put Reg.resetWord s.regs f.addr (BitVec.ofNat 32 (setBits (s.word f.addr).toNat f.lo f.width v))
    fresh := if f.ev && v ≠ 0 then s.noteEvent f else s.fresh }

/-- Set a field to a signed number, in two's complement. -/
def State.putI (s : State) (f : Fld) (v : Int) : State := s.put f (unsigned f.width v)

/-- Set a one-bit field. -/
def State.putB (s : State) (f : Fld) (b : Bool) : State := s.put f b.toNat

/-- A signed number saturated to a field's width, then set. -/
def State.putSat (s : State) (f : Fld) (v : Int) : State :=
  s.putI f (clamp v (-((2 ^ (f.width - 1) : Nat) : Int)) ((2 ^ (f.width - 1) : Nat) - 1))

/-- Add to a saturating counter. -/
def State.count (s : State) (f : Fld) (n : Nat := 1) : State := s.put f (min (s.get f + n) (2 ^ f.width - 1))

/-- A 64-bit pair's value (R13). -/
def State.get64 (s : State) (p : Pair) : Nat := (s.word p.addr).toNat + 2 ^ 32 * (s.word (p.addr + 4)).toNat

/-- A 64-bit pair as a signed number. -/
def State.getI64 (s : State) (p : Pair) : Int := signed 64 (s.get64 p)

/-- Set a 64-bit pair. -/
def State.put64 (s : State) (p : Pair) (v : Nat) : State :=
  (s.setWord p.addr (BitVec.ofNat 32 v)).setWord (p.addr + 4) (BitVec.ofNat 32 (v / 2 ^ 32))

/-- Set a 64-bit pair to a signed number. -/
def State.putI64 (s : State) (p : Pair) (v : Int) : State := s.put64 p (unsigned 64 v)

/-! ### Control -/

/-- Do `f` where `c` holds. -/
def State.when (s : State) (c : Bool) (f : State → State) : State := if c then f s else s

/-- Do `f` for each element, in order. -/
def State.each {α : Type} (s : State) (l : List α) (f : α → State → State) : State := l.foldl (fun s x => f x s) s

/-! ### The internal memory -/

/-- What a byte of memory that nothing has written reads as. DESIGN CHOICE: 0 (log entry 2). -/
def Memory.unlisted (_ : Nat) : Byte := 0

/-- The byte at an internal address. -/
def State.byte (s : State) (a : Nat) : Byte := Sparse.get Memory.unlisted s.mem a

/-- Write one byte of the internal memory. -/
def State.setByte (s : State) (a : Nat) (b : Byte) : State := { s with mem := Sparse.put Memory.unlisted s.mem a b }

/-- The `n` bytes from an internal address. -/
def State.bytesAt (s : State) (a n : Nat) : List Byte := (List.range n).map (fun i => s.byte (a + i))

/-- Write bytes from an internal address upward. -/
def State.setBytes (s : State) (a : Nat) : List Byte → State
  | [] => s
  | b :: bs => State.setBytes (s.setByte a b) (a + 1) bs

/-- The little-endian 32-bit word at an internal address. -/
def State.memWord (s : State) (a : Nat) : Nat := leAt (s.bytesAt a 4) 0 4

/-- The memory's canonical form. -/
def State.MemWf (s : State) : Prop := Sparse.Wf Memory.unlisted s.mem

/-- The register file's canonical form. -/
def State.RegsWf (s : State) : Prop := Sparse.Wf Reg.resetWord s.regs

/-- The internal address of a byte of DRAM, by its device physical address (the table "Internal address space"). -/
def dramAt (dpa : Nat) : Nat := 0x4000000000 + dpa

/-! ### What the block sends out -/

/-- Send one thing out. -/
def State.send (s : State) (o : Out) : State := { s with out := o :: s.out }

/-! ### Values the spec leaves open -/

/-- A value the spec leaves open, below `2 ^ w`: nothing constrains it. -/
def State.open_ (s : State) (w : Nat) : Nat := Config.freeNat s.free % 2 ^ w

/-- The next open value is a fresh one. -/
def State.drawn (s : State) : State := { s with free := s.free + 1 }

/-! ### Modes and domains -/

/-- The mode in force (R482). -/
def State.mode (s : State) : Nat := s.get Reg.DEV_MODE.MODE

/-- Whether the mode lies between two modes. -/
def State.modeIn (s : State) (lo hi : Nat) : Bool := lo ≤ s.mode && s.mode ≤ hi

/-- Whether the main die runs: nothing holds it in reset or shut down (R487, R501). -/
def State.awake (s : State) : Bool := !s.pwr.resetLow && s.pwr.rails = [] && !s.pwr.shut

/-- Whether a master slot can reach the device: over a PCIe port once it answers after its reset release (R491, R544), and over
port B only with PCIE_X16 at 0 (R341). -/
def State.reach (s : State) (slot : Nat) : Bool :=
  s.awake && (2 ≤ slot || (!s.host.perst.getD slot false && s.host.readyAt.getD slot 0 ≤ s.now
    && !(slot = 1 && s.pwr.straps.pcieX16 = 1)))

/-- Whether power domain PDd is on (R29). -/
def State.domOn (s : State) (d : Nat) : Bool := bit (s.get Reg.PWR_DOM_STS.ON) d

/-- The power domain of the unit or instance at a BAR0 address (R29, the table "Instances and their units"). -/
def domainAt (a : Nat) : Option Nat :=
  if a < 0x60000 then some 0
  else if a < 0xA0000 then some 20
  else if a < 0xC0000 then some 8
  else if a < 0xD0000 then some 11
  else if a < 0xE0000 then some 2
  else if a < 0xF0000 then some 3
  else if a < 0x130000 then some 0
  else if a < 0x140000 then some 1
  else if 0x200000 ≤ a ∧ a < 0x300000 then some (12 + (a - 0x200000) / 0x20000)
  else if 0x400000 ≤ a ∧ a < 0x460000 then some (4 + (a - 0x400000) / 0x18000)
  else if 0x500000 ≤ a ∧ a < 0x540000 then
    let n := (a - 0x500000) / 0x400
    some (if n < 192 then 4 + n / 48 else if n < 224 then 8 else if n < 240 then 2 else 3)
  else if 0x600000 ≤ a ∧ a < 0x640000 then some (9 + (a - 0x600000) / 0x20000)
  else none

/-! ### Performance counters (R525) -/

/-- The live counter i, 48 bits. -/
def State.pmc (s : State) (i : Nat) : Nat := s.get64 (Reg.PMC_CNT.PAIR i)

/-- Whether counter i is in level mode: a change takes effect at the next clock (R526). -/
def State.pmcIsLevel (s : State) (i : Nat) : Bool :=
  let a := Reg.PMC_MODE.AT (i / 32)
  bit ((s.tally.modes.lookup a).getD (s.word a)).toNat (i % 32)

/-- Count `n` occurrences of event i: all of them in edge mode, one for the clock in level mode. -/
def State.pmcAdd (s : State) (i : Nat) (n : Nat := 1) : State :=
  let was := (s.tally.added.lookup i).getD 0
  let n := if s.pmcIsLevel i then min n 1 - was else n
  if n = 0 then s
  else
    { s.put64 (Reg.PMC_CNT.PAIR i) ((s.pmc i + n) % 2 ^ 48) with
      tally := { s.tally with added := Sparse.insert i (was + n) s.tally.added } }

/-! ### Addresses in records (R364) -/

/-- SRC of a unit: its domain and its unit code. -/
def srcUnit (dom unit : Nat) : Nat := dom + unit * 2 ^ 5

/-- SRC of an instance. -/
def srcInst (dom unit kind index : Nat) : Nat := dom + unit * 2 ^ 5 + kind * 2 ^ 11 + index * 2 ^ 16

def srcDEV : Nat := srcUnit 0 1
def srcPWR : Nat := srcUnit 0 2
def srcTHM : Nat := srcUnit 0 3
def srcMER : Nat := srcUnit 0 4
def srcTRK : Nat := srcUnit 0 5
def srcENC : Nat := srcUnit 0 6
def srcERR : Nat := srcUnit 0 7
def srcFLD : Nat := srcUnit 0 9
def srcMOT : Nat := srcUnit 0 10
def srcSVC : Nat := srcUnit 1 11
def srcMBX : Nat := srcUnit 1 12
def srcRNG : Nat := srcUnit 2 14
def srcDUE : Nat := srcUnit 3 15
def srcCAM : Nat := srcUnit 8 20
def srcINS : Nat := srcUnit 8 21
def srcZIP : Nat := srcUnit 11 24
def srcJOB : Nat := srcUnit 20 34
def srcFAB : Nat := srcUnit 20 35
def srcSMP : Nat := srcUnit 20 36
def srcCAL : Nat := srcUnit 20 37
def srcDom (d : Nat) : Nat := srcUnit d 0
def srcSE (n : Nat) : Nat := srcInst (12 + n / 8) (25 + n / 8) 1 n
def srcHP (n : Nat) : Nat := srcInst (4 + n / 24) (16 + n / 24) 2 n
def srcCP (n : Nat) : Nat := srcInst 8 20 4 n
def srcMC (n : Nat) : Nat := srcInst (9 + n / 8) (22 + n / 8) 5 n
def srcZC (n : Nat) : Nat := srcInst 11 24 6 n
def srcT (n : Nat) : Nat := srcInst 0 5 8 n
def srcBank (n : Nat) : Nat := srcInst 20 33 9 n
def srcPort (n : Nat) : Nat := srcInst 2 13 10 n
def srcField (unit kind index : Nat) : Nat := srcInst 31 unit kind index

/-- SRC of lane n: its unit is HL, CAM, PCI or DUE. -/
def srcL (n : Nat) : Nat :=
  if n < 192 then srcInst (4 + n / 48) (16 + n / 48) 3 n
  else if n < 224 then srcInst 8 20 3 n
  else if n < 240 then srcInst 2 13 3 n
  else srcInst 3 15 3 n

/-- DATA_ADDR: a GN, an ink bar and a level. -/
def dataAddr (gn bar level : Nat) : Nat := gn + bar * 2 ^ 22 + level * 2 ^ 26

/-- The first nozzle of a row slot k (R18, R23). -/
def rowGn (k : Nat) : Nat := k * 1536

/-- The ink bar of a row slot, from the row table. -/
def State.rowBar (s : State) (k : Nat) : Nat := s.get (Reg.TRK_ROW_CFG.BAR k)

/-- Whether the row table enables a row slot. -/
def State.rowOn (s : State) (k : Nat) : Bool := s.flag (Reg.TRK_ROW_CFG.EN k)

/-- The ink bar of a port (R26): that of its enabled rows, which share one bar. Where it has no enabled row, the row table's entry of its
first row slot stands (log entry 105). -/
def State.portInk (s : State) (p : Nat) : Nat :=
  s.rowBar ((((List.range 16).map (16 * p + ·)).find? s.rowOn).getD (16 * p))

/-- The ink bar in force for a row slot: its own entry's where it is enabled, else its port's. -/
def State.inkBar (s : State) (k : Nat) : Nat := if s.rowOn k then s.rowBar k else s.portInk (k / 16)

/-- DATA_ADDR of a row of a bar (level 3), and of a row, a port (level 2), a bar (level 1), a nozzle (level 5) and a column (level 6) under
the bar assignment in force (R28). -/
def dataRowOf (k bar : Nat) : Nat := dataAddr (rowGn k) bar 3
def State.dataRow (s : State) (k : Nat) : Nat := dataRowOf k (s.inkBar k)
def State.dataPort (s : State) (p : Nat) : Nat := dataAddr (p * 24576) (s.portInk p) 2
def dataBar (b : Nat) : Nat := dataAddr 0 b 1
def State.dataNozzle (s : State) (gn : Nat) : Nat := dataAddr gn (s.inkBar (gn / 1536)) 5
def State.dataColumn (s : State) (gn : Nat) : Nat := dataAddr gn (s.inkBar (gn / 1536)) 6

/-! ### Rings: the state a ring holds, and its sizes -/

def State.ring (s : State) (r : Nat) : RingSt := Sparse.get (fun _ => {}) s.host.rings r
def State.setRing (s : State) (r : Nat) (x : RingSt) : State :=
  { s with host := { s.host with rings := Sparse.insert r x s.host.rings } }
def State.ringType (s : State) (r : Nat) : Nat := s.get (Reg.RNG_R_CFG.TYPE r)
def State.ringState (s : State) (r : Nat) : Nat := s.get (Reg.RNG_R_STS.STATE r)
def State.ringPort (s : State) (r : Nat) : Nat := s.get (Reg.RNG_R_CFG.PORT r)
def State.ringSize (s : State) (r : Nat) : Nat := 2 ^ s.get (Reg.RNG_R_CFG.LOG2 r)
def State.ringProd (s : State) (r : Nat) : Nat := s.get (Reg.RNG_R_PROD.VAL r)
def State.ringCons (s : State) (r : Nat) : Nat := s.get (Reg.RNG_R_CONS.VAL r)
def State.ringHcons (s : State) (r : Nat) : Nat := s.get (Reg.RNG_R_HCONS.VAL r)

/-- The rings that are not DISABLED. -/
def State.liveRings (s : State) : List Nat := (s.host.rings.map Prod.fst).filter (fun r => s.ringState r ≠ 0)

/-- Space in a completion or event ring: its write index less the host's consumer index is below its entries. -/
def State.ringSpace (s : State) (r : Nat) : Bool := (s.ringCons r + 2 ^ 32 - s.ringHcons r) % 2 ^ 32 < s.ringSize r

/-! ### Interrupts (R366) -/

/-- The register-file base of a function's MSI-X structures: each function has its own table (R341, R342). -/
def msixBase (port : Nat) : Nat := port * 0x4000000

/-- Send MSI-X vector `v` of a port's function, or set its pending bit while its vector is masked (R366). -/
def State.msixSend (s : State) (port v : Nat) : State :=
  let ctl := Reg.MSIX_VCTL.MASK v
  if s.flag { ctl with addr := ctl.addr + msixBase port } then
    s.put { addr := Reg.MSIX_PBA.AT (v / 32) + msixBase port, lo := v % 32, width := 1 } 1
  else ((s.send (.msix port v)).pmcAdd 403).pmcAdd (406 + port)

/-- After a record written to a completion or event ring: count it toward the ring's interrupt, and send it when due. -/
def State.moderate (s : State) (r : Nat) (atOnce : Bool) : State :=
  let x := s.ring r
  let x := { x with since := x.since + 1, firstRec := x.firstRec.or (some s.now) }
  if s.flag (Reg.RNG_R_CFG.IRQ_EN r)
      && (atOnce || s.get (Reg.RNG_R_MOD.COUNT r) ≤ x.since || s.get (Reg.RNG_R_MOD.TIME r) = 0) then
    (s.setRing r { x with since := 0, firstRec := none }).msixSend (s.ringPort r) (s.get (Reg.RNG_R_CFG.VEC r))
  else s.setRing r x

/-- Write one 32-byte record into the next slot of a completion or event ring: its FLAGS take the phase of the pass
(R361, R363), and the write index advances. -/
def State.writeRecord (s : State) (r : Nat) (bytes : List Byte) (atOnce : Bool) : State :=
  let i := s.ringCons r
  let s := s.send (.hostWrite (s.ringPort r) (s.get64 (Reg.RNG_R_BASE.PAIR r) + 32 * (i % s.ringSize r)) bytes)
  let s := s.put (Reg.RNG_R_CONS.VAL r) (i + 1)
  let s := s.when ((i + 1) % s.ringSize r = 0) (fun s => s.put (Reg.RNG_R_STS.PHASE r) (1 - s.get (Reg.RNG_R_STS.PHASE r)))
  (s.pmcAdd (406 + s.ringPort r)).moderate r atOnce

/-! ### Events (R363) -/

/-- An event: its code, SRC, DATA_ADDR where nozzles are concerned, and its two arguments. An argument that no rule names is
`none`: its value is open (log entry 5). -/
structure Event where
  code : Nat
  src  : Nat
  data : Option Nat
  arg0 : Option Nat
  arg1 : Option Nat

/-- An event from its code, SRC and arguments. -/
def ev (code src : Nat) (arg0 arg1 : Option Nat := none) (data : Option Nat := none) : Event :=
  ⟨code, src, data, arg0, arg1⟩

/-- The bytes of an event record (the table "Event record"); `x` is the open value for arguments that no rule names. -/
def Event.bytes (e : Event) (time phase x : Nat) (lost : Bool) : List Byte :=
  leBytes 8 time ++ leBytes 2 e.code ++ leBytes 2 (phase + 4 * lost.toNat + 8 * e.data.isSome.toNat)
    ++ leBytes 4 e.src ++ leBytes 4 (e.data.getD 0) ++ leBytes 4 (e.arg0.getD x) ++ leBytes 8 (e.arg1.getD (x / 2 ^ 32))

/-- Whether an enabled event ring takes an event of this class. -/
def State.takesClass (s : State) (cls r : Nat) : Bool :=
  s.ringType r = 7 && s.ringState r = 1 && bit (s.get (Reg.RNG_EV_MASK.MASK r)) cls

/-- Give an event to one ring: written where it has space, else the ring's next record carries LOST. -/
def State.eventTo (e : Event) (x r : Nat) (s : State) : State :=
  if s.ringSpace r then
    let b := e.bytes s.now (s.get (Reg.RNG_R_STS.PHASE r)) x (s.ring r).lost
    ((s.setRing r { s.ring r with lost := false }).writeRecord r b false).count (Reg.RNG_CNT.CNT 4) |>.pmcAdd 396
  else s.setRing r { s.ring r with lost := true }

/-- Post an event (R363): to each enabled event ring whose mask selects its class; counted only where none takes it. -/
def State.post (s : State) (e : Event) : State :=
  let rs := s.liveRings.filter (s.takesClass (e.code / 256))
  let taken := rs.any s.ringSpace
  let x := s.open_ 96
  (s.drawn.each rs (State.eventTo e x)).when (!taken) (fun s => (s.count (Reg.RNG_CNT.CNT 5)).pmcAdd 397)

/-- The key of a rate limit: the code and the scope (R557). -/
def limitKey (code scope : Nat) : Nat := code * 2 ^ 40 + scope

/-- Post an event at most once per `interval` mt within a scope (R557). -/
def State.postLimited (s : State) (e : Event) (scope interval : Nat) : State :=
  let k := limitKey e.code scope
  match s.posted.lookup k with
  | some t => if t + interval ≤ s.now then { s with posted := Sparse.insert k s.now s.posted }.post e else s
  | none => { s with posted := Sparse.insert k s.now s.posted }.post e

/-! ### The error log (R513 to R515) -/

/-- An error record before its SEQ: status, outcome, severity, self-test kind, where, and its two arguments. ARG0 is open
where no table names it; ARG1 is 0 where no chain line is concerned. -/
structure ErrRec where
  code    : Nat
  outcome : Nat
  sev     : Nat
  test    : Nat
  src     : Nat
  data    : Option Nat
  arg0    : Option Nat
  arg1    : Nat

/-- An error record from its code, SRC, outcome, severity, self-test, arguments and data address. -/
def er (code src outcome sev test : Nat) (arg0 : Option Nat := none) (arg1 : Nat := 0) (data : Option Nat := none) :
    ErrRec :=
  ⟨code, outcome, sev, test, src, data, arg0, arg1⟩

/-- Write consecutive words of the register file. -/
def State.setWords (s : State) (a : Nat) : List Nat → State
  | [] => s
  | w :: ws => State.setWords (s.setWord a (BitVec.ofNat 32 w)) (a + 4) ws

/-- The eight words of an error record (the table "Error record"). -/
def ErrRec.words (e : ErrRec) (time seq x : Nat) (lost : Bool) : List Nat :=
  [time % 2 ^ 32, time / 2 ^ 32,
   e.code + 2 ^ 16 * (1 + 2 * e.data.isSome.toNat + 4 * e.outcome + 16 * e.sev + 128 * lost.toNat + 256 * e.test),
   e.src, e.data.getD 0, e.arg0.getD x % 2 ^ 32, e.arg1 % 2 ^ 32, seq]

/-- A record of the log, by its SEQ. -/
def State.logged (s : State) (seq : Nat) : List Nat :=
  (List.range 8).map (fun j => s.get (Reg.ERR_LOG.LOG (seq % 256) j))

/-- Write a record into the slot of its SEQ. -/
def State.logAt (s : State) (seq : Nat) (ws : List Nat) : State :=
  s.setWords (Reg.ERR_LOG.LOG (seq % 256) 0).addr (ws.take 7 ++ [seq])

/-- ERR_FIRST takes the first record whose SEV is 2 or 3 since VDD_AON came up (R515): of those of this clock, whose SEQ begins at
`base`, the first by SEQ. -/
def State.errFirst (s : State) (base n : Nat) : State :=
  let first := (List.range 8).map (fun j => s.get (Reg.ERR_FIRST.FIRST j))
  let held := first.getD 2 0 / 2 ^ 16 % 2 = 1 && !(first.take 2 = [s.now % 2 ^ 32, s.now / 2 ^ 32])
  match if held then none else (((List.range n).map (fun j => s.logged (base + j))).find? (fun ws => 2 ≤ ws.getD 2 0 / 2 ^ 20 % 8)) with
  | none => s
  | some ws => s.setWords (Reg.ERR_FIRST.FIRST 0).addr ws

/-- Write an error record into slot SEQ mod 256 (R514). The records of one clock stand by rising TEST, then rising SRC (R527): later
ones move up. A record overwritten before ERR_LOG_RD passed it marks the next record LOST. -/
def State.errRecord (s : State) (e : ErrRec) : State :=
  let seq := s.get Reg.ERR_LOG_HEAD.HEAD
  let recs := if s.err.recsAt = s.now then s.err.recs else []
  let base := seq - recs.length
  let before := recs.takeWhile (fun r => r.1 < e.test || (r.1 = e.test && r.2.1 ≤ e.src))
  let after := recs.drop before.length
  let tail := (List.range after.length).map (fun j => s.logged (base + before.length + j))
  let past := 256 ≤ seq ∧ s.get Reg.ERR_LOG_RD.RD ≤ seq - 256
  let ws := e.words s.now seq (s.open_ 32) s.err.lostNext
  let s := s.drawn.each ((ws :: tail).zipIdx (base + before.length)) (fun w s => s.logAt w.2 w.1)
  let recs := before ++ (e.test, e.src, seq) :: after
  let s := s.errFirst base recs.length
  let moved : List (Nat × Nat) := ((recs.zipIdx base).map (fun r => (r.1.2.2, r.2))).filter (fun m => m.1 ≠ m.2)
  let rest : List (Nat × Nat) := s.err.moved.filter (fun m => recs.all (fun r => r.2.2 ≠ m.1))
  let s : State := { s with err := { s.err with
    lostNext := past, recsAt := s.now, recs := recs, moved := moved ++ rest } }
  let s := s.when past (fun s => (s.put Reg.ERR_STS.LOST 1).count (Reg.ERR_CNT.CNT 7))
  (s.put Reg.ERR_LOG_HEAD.HEAD (seq + 1)).pmcAdd 431

/-- The SEQ of a record, by its number of arrival. -/
def State.seqOf (s : State) (n : Nat) : Nat := (s.err.moved.lookup n).getD n

/-- The outcome of the test of a record, given by its number of arrival (R514): rewritten in place if the record still stands, and
reported in any case. -/
def State.errOutcome (s : State) (n code outcome src : Nat) : State :=
  let seq := s.seqOf n
  let a := (Reg.ERR_LOG.LOG (seq % 256) 2)
  let s := s.when ((s.get (Reg.ERR_LOG.LOG (seq % 256) 7)) = seq) (fun s => s.put { a with lo := 18, width := 2 } outcome)
  if outcome = 1 then
    ((s.post (ev Code.ST_ERR_TRANSIENT src code seq)).count (Reg.ERR_CNT.CNT 4)).pmcAdd 428
  else if outcome = 2 then
    ((s.post (ev Code.ST_ERR_LASTING src code seq)).count (Reg.ERR_CNT.CNT 5)).pmcAdd 429
  else s

/-- A self-test starts (ERR counter 3). -/
def State.testStarted (s : State) : State := (s.count (Reg.ERR_CNT.CNT 3)).pmcAdd 427

end Sys2Proof.Machine
end

