-- ==== Sys2Proof/Machine/Access.lean ====
section
/-! DEFINITION. Who may write: ownership (R345 to R350), power domains (R31), unit locks (R15) and the report of what is
dropped (R350, R351, R562). Every meaning that starts with a register write goes through `State.ownerWrite`. -/

namespace Sys2Proof.Machine

/-- The owner's slot (R345 to R349). -/
def State.owner (s : State) : Option Nat :=
  if s.flag Reg.DEV_OWN_STS.OWNED then some (s.get Reg.DEV_OWN_STS.OWNER) else none

/-- Whether a slot is the owner in force in this clock: a HANDOVER makes its target the owner at the clock's end (R348, R374). -/
def State.isOwner (s : State) (slot : Nat) : Bool :=
  match s.host.handed with
  | some (o, t) => if t = s.now then o = slot else s.owner = some slot
  | none => s.owner = some slot

/-- Whether the unit at a BAR0 address has its power domain on. -/
def State.addrOn (s : State) (a : Nat) : Bool :=
  match domainAt a with
  | some d => s.domOn d
  | none => true

/-- The key of a slot's _LO snapshot and buffer of the pair at a BAR0 address (R13, R14). -/
def pairKey (slot a : Nat) : Nat := slot * 2 ^ 32 + a

/-- The 64-bit value that a write of the _HI register commits: with the slot's buffered _LO, or 0 (R14). -/
def State.pairWritten (s : State) (slot a : Nat) (hi : Word) : Nat :=
  (s.host.loBuf.lookup (pairKey slot a)).getD 0 + 2 ^ 32 * hi.toNat

/-- An access to a unit whose domain is off (R31): counted, and recorded with the domain as its source. The spec states
neither the record's status code nor its severity: they are open values. -/
def State.offDomain (s : State) (a : Nat) : State :=
  let x := s.open_ 18
  (s.drawn.errRecord (er (x % 2 ^ 16) (srcDom ((domainAt a).getD 0)) 3 (x / 2 ^ 16) 0)).pmcAdd 402

/-- A dropped or refused access records itself (R562). -/
def State.recordAccess (s : State) (slot bar off : Nat) : State :=
  ((s.setWord Reg.DEV_ACC_ADDR.AT (BitVec.ofNat 32 off)).put Reg.DEV_ACC_STS.LAST_SLOT slot).put
    Reg.DEV_ACC_STS.LAST_BAR bar

/-- The report of a dropped write (R350): reason 0 a non-owner, 1 a locked write (R15), 2 a debug-window refusal (R35). -/
def State.reportAccess (s : State) (slot bar off reason : Nat) : State :=
  let s := (s.recordAccess slot bar off).count (Reg.DEV_NONOWN_CNT.CNT slot)
  let s := s.put Reg.DEV_ACC_STS.NONOWNER 1
  (s.when (reason = 0) (·.pmcAdd 400)).postLimited
    (ev Code.ST_ACC_NONOWNER srcDEV off reason) slot 4000000

/-- An access of a size or alignment that R12 does not allow (R351). -/
def State.badSize (s : State) (slot bar off : Nat) : State :=
  (((s.recordAccess slot bar off).put Reg.DEV_ACC_STS.BADSIZE 1).pmcAdd 401).postLimited
    (ev Code.ST_ACC_SIZE srcDEV off) slot 4000000

/-- An inbound request on a PCIe port. -/
def State.inbound (s : State) (slot : Nat) : State := s.when (slot < 2) (·.pmcAdd (404 + slot))

/-- A write by `slot` that reaches the register at BAR0 address `a`: dropped where the unit's domain is off (R31), dropped
and reported where the slot is not the owner (R350), and carried out by `f` otherwise. -/
def State.ownerWrite (s : State) (slot a : Nat) (f : State → State) : State :=
  if !s.reach slot then s
  else
  let s := s.inbound slot
  if !s.addrOn a then s.offDomain a
  else if !s.isOwner slot then s.reportAccess slot 0 a 0
  else f s

/-- Whether the unit at a BAR0 address is locked (R15; R73, R101, R146 and each chapter's register rule): by its LOCK bit,
and for the units that print, in M5 to M7. -/
def State.lockedAt (s : State) (a : Nat) : Bool :=
  let busy := s.modeIn 5 7
  if a < 0x10000 then s.flag Reg.DEV_CTRL.LOCK
  else if a < 0x20000 then s.flag Reg.PWR_CTRL.LOCK || busy
  else if a < 0x30000 then s.flag Reg.THM_CTRL.LOCK || busy
  else if a < 0x40000 then s.flag Reg.MER_CTRL.LOCK || busy
  else if a < 0x50000 then s.flag Reg.TRK_CTRL.LOCK || busy
  else if a < 0x60000 then s.flag Reg.ENC_CTRL.LOCK || busy
  else if a < 0x70000 then s.flag Reg.JOB_CTRL.LOCK || busy
  else if a < 0x80000 then s.flag Reg.FAB_CTRL.LOCK || busy
  else if a < 0x90000 then s.flag Reg.SMP_CTRL.LOCK || busy
  else if a < 0xA0000 then s.flag Reg.CAL_CTRL.LOCK || busy
  else if a < 0xB0000 then s.flag Reg.INS_CTRL.LOCK || busy
  else if a < 0xC0000 then s.flag Reg.CAM_CTRL.LOCK || busy
  else if a < 0xD0000 then s.flag Reg.ZIP_CTRL.LOCK || busy
  else if a < 0xE0000 then s.flag Reg.RNG_CTRL.LOCK
  else if a < 0xF0000 then s.flag Reg.DUE_CTRL.LOCK || busy
  else if a < 0x100000 then s.flag Reg.FLD_CTRL.LOCK || busy
  else if a < 0x110000 then s.flag Reg.MOT_CTRL.LOCK || busy
  else if a < 0x120000 then s.flag Reg.ERR_CTRL.LOCK || busy
  else if a < 0x130000 then s.flag Reg.PMC_CTRL.LOCK
  else if a < 0x140000 then false
  else if 0x200000 ≤ a ∧ a < 0x300000 then s.flag Reg.FAB_CTRL.LOCK || busy
  else if 0x400000 ≤ a ∧ a < 0x460000 then s.flag (Reg.HP_CTRL.LOCK ((a - 0x400000) / 0x1000)) || busy
  else if 0x500000 ≤ a ∧ a < 0x540000 then s.flag (Reg.L_CTRL.LOCK ((a - 0x500000) / 0x400)) || busy
  else if 0x600000 ≤ a ∧ a < 0x640000 then s.flag Reg.MEM_CTRL.LOCK || busy
  else false

/-- The bits of the register at a BAR0 address whose fields have an access type. -/
def Reg.mask (a : Nat) (acc : Access) : Nat :=
  match Reg.find a with
  | none => 0
  | some (r, _) => r.fields.foldl (fun m f => if f.acc = acc then m + (2 ^ f.width - 1) * 2 ^ f.lo else m) 0

/-- The bits of the register at a BAR0 address that some field names; the rest are reserved (R10). -/
def Reg.named (a : Nat) : Word :=
  match Reg.find a with
  | none => 0
  | some (r, _) => BitVec.ofNat 32 (r.fields.foldl (fun m f => m + (2 ^ f.width - 1) * 2 ^ f.lo) 0)

/-- What a write leaves in a register: each field by its access type (R7), reserved bits 0 (R10), and RWL fields kept while
the unit is locked (R15). WO fields keep 0. -/
def Reg.merge (a : Nat) (locked : Bool) (old new : Word) : Word :=
  let m := fun acc => BitVec.ofNat 32 (Reg.mask a acc)
  let rwl := m .rwl
  let wr := m .rw ||| (if locked then 0 else rwl)
  let keep := m .ro ||| m .rc ||| (if locked then rwl else 0)
  (new &&& wr) ||| (old &&& keep) ||| (old &&& m .w1c &&& ~~~ new) ||| ((old ||| new) &&& m .w1s)

/-- A write's value enters a register by its access types. A W1C bit that the hardware set in this clock stays set (R8). -/
def State.hostSet (s : State) (a : Nat) (locked : Bool) (data : Word) : State :=
  let old := s.word a
  let late := ((s.fresh.lookup a).getD (0, 0)).2 &&& BitVec.ofNat 32 (Reg.mask a .w1c)
  s.setWord a (Reg.merge a locked old data ||| (old &&& late))

/-- Whether a write would change an RWL field (R15). -/
def Reg.changesLocked (a : Nat) (old new : Word) : Bool := (old ^^^ new) &&& BitVec.ofNat 32 (Reg.mask a .rwl) ≠ 0

/-- The registers of the FAB unit and the SE instances (R147). -/
def inFab (a : Nat) : Bool := (0x70000 ≤ a && a < 0x80000) || (0x200000 ≤ a && a < 0x300000)

/-- A write's effect on a register by its access types alone, and its report where the lock stops it (R7, R15). DESIGN CHOICE: of the
FAB unit's writes, whose fields have no range to break, those that the lock drops set FAB_STS.CFG_ERR. -/
def State.writeFields (s : State) (slot a : Nat) (data : Word) : State :=
  let old := s.word a
  let locked := s.lockedAt a
  let s' := s.hostSet a locked data
  s'.when (locked && Reg.changesLocked a old data) (fun s => (s.reportAccess slot 0 a 1).when (inFab a) (·.put Reg.FAB_STS.CFG_ERR 1))

/-- A write of a control register: its fields by their access types, then what its bit `i` starts. -/
def State.trigger (s : State) (slot a : Nat) (data : Word) (i : Nat) (f : State → State) : State :=
  (s.writeFields slot a data).when (bit data.toNat i) f

/-- Bits of a written word. -/
def wbits (w : Word) (lo width : Nat) : Nat := bits w.toNat lo width
def wbit (w : Word) (i : Nat) : Bool := bit w.toNat i

end Sys2Proof.Machine
end

