-- ==== Sys2Proof/Machine/HostOps.lean ====
section
/-! DEFINITION. Descriptors and completions (R352 to R362): what every function that a ring starts uses. -/

namespace Sys2Proof.Machine


/-- The RNG counters 0 to 7 and the performance counters 392 to 399 count the same occurrences. -/
def State.rngCount (s : State) (i : Nat) (n : Nat := 1) : State := (s.count (Reg.RNG_CNT.CNT i) n).pmcAdd (392 + i) n

/-! ### Descriptors (R354 to R356) -/

def Desc.kind (d : Desc) : Nat := byteAt d.bytes 0
def Desc.irq (d : Desc) : Bool := bit (byteAt d.bytes 1) 0
def Desc.fence (d : Desc) : Bool := bit (byteAt d.bytes 1) 1
def Desc.quiet (d : Desc) : Bool := bit (byteAt d.bytes 1) 2
def Desc.id (d : Desc) : Nat := leAt d.bytes 4 4

/-- A number of the descriptor: `n` bytes at byte `off`. -/
def Desc.at_ (d : Desc) (off n : Nat) : Nat := leAt d.bytes off n

/-- Whether a ring type allows a KIND (the table "Descriptor kinds"). -/
def kindAllowed (type kind : Nat) : Bool :=
  if type = 1 then kind = 1 || kind = 2
  else if type = 5 then 1 ≤ kind && kind ≤ 3
  else kind = 0

/-- The header check (R356): the status a malformed header completes with. -/
def Desc.headerStatus (type : Nat) (d : Desc) : Option Nat :=
  if !kindAllowed type d.kind then some Code.ST_DESC_KIND
  else if byteAt d.bytes 2 ≠ 1 || 8 ≤ byteAt d.bytes 1 || byteAt d.bytes 3 ≠ 0 || leAt d.bytes 8 8 ≠ 0 then
    some Code.ST_DESC_FORMAT
  else none

/-- Whether a ring type is a submission ring's. -/
def submissionType (t : Nat) : Bool := 1 ≤ t && t ≤ 5

/-- The TAG of a descriptor's body (R361): PAGE at bytes 40 to 47; the capture, compression, maintenance, motion, GUTTER
and RUN bodies at bytes 56 to 63; JOB and SMP_UPDATE define none. -/
def Desc.tag (type : Nat) (d : Desc) : Nat :=
  if type = 1 then (if d.kind = 2 then d.at_ 40 8 else 0)
  else if type = 5 && d.kind = 3 then 0
  else d.at_ 56 8

/-! ### Completion records (R361, R362) -/

/-- The 31 bytes of a completion record before FLAGS (the table "Completion record"). -/
def completionBytes (tag time id detail status index kind ring : Nat) : List Byte :=
  leBytes 8 tag ++ leBytes 8 time ++ leBytes 4 id ++ leBytes 4 detail ++ leBytes 2 status ++ leBytes 2 index
    ++ leBytes 1 kind ++ leBytes 1 ring ++ leBytes 1 0

/-- Write a completion record into ring `cq`, which has space. -/
def State.writeCompletion (s : State) (cq : Nat) (b : List Byte) (irq : Bool) : State :=
  (s.writeRecord cq (b ++ leBytes 1 (s.get (Reg.RNG_R_STS.PHASE cq))) irq).rngCount 3

/-- A completion record is due: written, or held where the ring is full or holds earlier records (R362). -/
def State.putCompletion (s : State) (cq : Nat) (b : List Byte) (irq : Bool) : State :=
  let x := s.ring cq
  if x.held = [] && s.ringSpace cq then s.writeCompletion cq b irq
  else
    let s := s.setRing cq { x with held := x.held ++ [⟨b, irq⟩] }
    s.when (x.held = []) (fun s =>
      (s.put (Reg.RNG_R_STS.FULL cq) 1).post (ev Code.ST_CQ_OVERFLOW srcRNG))

/-- Held records go out while the completion ring has space; `fuel` bounds them by their number. -/
def State.drainHeld (cq : Nat) : Nat → State → State
  | 0, s => s
  | fuel + 1, s =>
    match (s.ring cq).held with
    | [] => s
    | h :: hs =>
      if s.ringSpace cq then
        State.drainHeld cq fuel ((s.setRing cq { s.ring cq with held := hs }).writeCompletion cq h.bytes h.irq)
      else s

/-- A descriptor completes with a status and the DETAIL its chapter names (R361): out of flight, and its record
written unless QUIET and the status is ST_OK. A ring that was disabled under R344 completes nothing. -/
def State.complete (s : State) (r index status : Nat) (detail : Nat := 0) : State :=
  let x := s.ring r
  match x.flight.find? (·.index = index) with
  | none => s
  | some d =>
    let s := s.setRing r { x with flight := x.flight.filter (·.index ≠ index) }
    if s.ringState r = 0 || (d.quiet && status = Code.ST_OK) then s
    else s.putCompletion (s.get (Reg.RNG_R_CFG.CQ r)) 
      (completionBytes (d.tag (s.ringType r)) s.now d.id detail status index d.kind r) d.irq

/-- A descriptor completes with ST_ABORTED, QUIET notwithstanding (R353, R368): from its header where it was fetched, and
with zeros where it was not. -/
def State.completeAborted (s : State) (r index : Nat) : State :=
  let cq := s.get (Reg.RNG_R_CFG.CQ r)
  match (s.ring r).flight.find? (·.index = index) with
  | none => s.putCompletion cq (completionBytes 0 s.now 0 0 Code.ST_ABORTED index 0 r) false
  | some d =>
    (s.setRing r { s.ring r with flight := (s.ring r).flight.filter (·.index ≠ index) }).putCompletion cq
      (completionBytes (d.tag (s.ringType r)) s.now d.id 0 Code.ST_ABORTED index d.kind r) d.irq

/-! ### Starting (R359) -/

/-- The descriptor at a ring's head that its function may start next: the first in ring order not started, once FENCE
is met, on a RUNNING ring or one whose started work runs on. -/
def State.headDesc (s : State) (r : Nat) : Option Desc :=
  if s.ringState r ≠ 1 then none
  else match (s.ring r).flight.find? (fun d => !d.started) with
    | none => none
    | some d => if d.fence && (s.ring r).flight.any (fun e => e.started) then none else some d

/-- A ring's function starts the descriptor. -/
def State.markStarted (s : State) (r index : Nat) : State :=
  s.setRing r { s.ring r with
    flight := (s.ring r).flight.map (fun d => if d.index = index then { d with started := true } else d) }

/-- A ring's own index of the descriptors posted and not completed: those in flight, and those not fetched. -/
def State.openDescs (s : State) (r : Nat) : List Nat :=
  (s.ring r).flight.map (·.index)
    ++ (List.range ((s.ringProd r + 2 ^ 32 - s.ringCons r) % 2 ^ 32)).map (fun i => (s.ringCons r + i) % 2 ^ 32)

end Sys2Proof.Machine
end

