-- ==== Sys2Proof/Machine/Dram.lean ====
section
/-! DEFINITION. Requests to DRAM: the interleave and the address mapping (R399, R400), the ranks' idle times (R408), and each
sub-channel's queued writes, its waiting TICK reads and its in-order mode (R401 to R403, R418). What a write stores is in force when it
is accepted (R401); these queues say when its command issues. -/

namespace Sys2Proof.Machine

def State.setDram (s : State) (f : DramSt → DramSt) : State := { s with dram := f s.dram }

/-- The enabled sub-channels, in rising order (R399). -/
def State.subChannels (s : State) : List Nat := bitList 16 (s.get Reg.MEM_STS.EN_MASK)

/-- Whether the controller is frozen (R416). -/
def State.frozen (s : State) : Bool := s.flag Reg.MEM_STS.FROZEN

/-- The interleave grain g in bytes. -/
def State.grain (s : State) : Nat := 2 ^ s.get Reg.MEM_CFG.GRAIN

/-- The sub-channel and the local address of a DPA (R399); none while no sub-channel is enabled. -/
def State.subChannel (s : State) (dpa : Nat) : Option (Nat × Nat) :=
  let e := s.subChannels
  let c := dpa / s.grain
  (e[c % max 1 e.length]?).map (fun mc => (mc, c / e.length * s.grain + dpa % s.grain))

/-- The fields of a local address as sent to the devices (R400): column burst, bank group, bank, rank and row. -/
structure LocalAddr where
  c    : Nat
  bg   : Nat
  ba   : Nat
  rank : Nat
  row  : Nat

def State.localAddr (s : State) (la : Nat) : LocalAddr :=
  let b := if s.flag Reg.MEM_POP.WIDTH then 2 else 3
  let k := s.get Reg.MEM_POP.RANKS
  let row := la / 2 ^ (14 + b + k)
  ⟨bits la 6 6, bits la 12 b ^^^ bits row 0 b, bits la (12 + b) 2 ^^^ bits row b 2, if k = 1 then bits la (14 + b) 1 else 0, row⟩

/-- The rate in units of 0.1 GT/s, and tRFC in ns. -/
def State.dramRate (s : State) : Nat := [48, 56, 64, 72].getD (s.get Reg.MEM_POP.RATE) 72
def State.dramRfc (s : State) : Nat := if s.get Reg.MEM_POP.DENS = 0 then 295 else 410

/-! ### The ranks (R408) -/

/-- A rank has a command: it is not, or no longer, in power-down. -/
def State.rankUsed (s : State) (mc rank : Nat) : State :=
  s.setDram (fun d => { d with
    down := d.down.filter (· ≠ (mc, rank)), lastCmd := Sparse.insert (2 * mc + rank) s.now d.lastCmd })

/-! ### Queues (R402, R418) -/

def State.subQ (s : State) (mc : Nat) : SubQ := (s.dram.subs.lookup mc).getD {}

/-- A sub-channel's queues; one in which nothing waits is not kept. -/
def State.setSubQ (s : State) (mc : Nat) (q : SubQ) : State :=
  s.setDram (fun d => { d with subs :=
    if q.writes = [] && q.held = [] && q.reads = [] then Sparse.erase mc d.subs else Sparse.insert mc q d.subs })

/-- Where a DPA lies: its sub-channel, and the rank, bank and row. -/
def State.dramPlace (s : State) (dpa : Nat) : Option (Nat × DramRow) :=
  (s.subChannel dpa).map (fun (mc, la) =>
    let l := s.localAddr la
    (mc, ⟨l.rank, l.bg, l.ba, l.row⟩))

/-- The next place in acceptance order. -/
def State.accepted (s : State) : State := s.setDram (fun d => { d with accepted := d.accepted + 1 })

/-- A write of a class for one burst: queued; or, while a TICK read waits and 16 writes are queued, left in its requester's buffer. -/
def State.acceptWrite (cls dpa : Nat) (s : State) : State :=
  match s.dramPlace dpa with
  | none => s
  | some (mc, at_) =>
    let q := s.subQ mc
    let w : QWrite := ⟨s.dram.accepted, cls, at_⟩
    if q.reads ≠ [] && 16 ≤ q.writes.length then s.setSubQ mc { q with held := q.held ++ [w] }
    else
      let since := if q.writes.any (·.cls = cls) then q.since else Sparse.insert cls s.now q.since
      s.accepted.setSubQ mc { q with writes := q.writes ++ [w], since := since }

/-- The write that an accepted read binds its sub-channel to, if it targets the rank, bank and row of a queued one: the last of those,
among the first 16. -/
def SubQ.binds (q : SubQ) (at_ : DramRow) : Option Nat :=
  let first := q.writes.take 16
  if (q.writes.drop 16).any (·.at_ = at_) then first.getLast?.map (·.seq)
  else (first.filter (·.at_ = at_)).getLast?.map (·.seq)

/-- A TICK read of one burst waits, for an engine's line: no more than 16 writes stay queued, and it may start in-order mode. -/
def State.acceptTick (key : Nat × Nat × Nat) (dpa : Nat) (s : State) : State :=
  match s.dramPlace dpa with
  | none => s
  | some (mc, at_) =>
    let q := s.subQ mc
    let bound := match q.binds at_, q.bound with
      | some a, some b => some (max a b)
      | a, b => a.or b
    (s.accepted.rankUsed mc at_.rank).setSubQ mc { q with
      reads := q.reads ++ [⟨s.dram.accepted, key⟩], bound := bound,
      writes := q.writes.take 16, held := q.writes.drop 16 ++ q.held }

/-- Writes that issue. -/
def State.issue (s : State) (mc : Nat) (ws : List QWrite) : State :=
  let s := s.each ws (fun w s => s.rankUsed mc w.at_.rank)
  let q := s.subQ mc
  s.setSubQ mc { q with
    writes := q.writes.filter (fun w => !ws.contains w),
    bound := q.bound.filter (fun b => (q.writes.filter (fun w => !ws.contains w)).any (·.seq ≤ b)),
    since := ws.foldl (fun m w => Sparse.insert w.cls s.now m) q.since }

/-- The reads of a sub-channel for an engine's line complete: in in-order mode, the writes it is bound to that were accepted before the
last of them have issued. With the last TICK read gone, writes leave their requesters' buffers. -/
def State.tickServed (key : Nat × Nat × Nat) (mc : Nat) (s : State) : State :=
  let q := s.subQ mc
  match (q.reads.filter (·.key = key)).getLast? with
  | none => s
  | some r =>
    let s := s.issue mc (q.writes.filter (fun w => w.seq < r.seq && q.bound.any (w.seq ≤ ·)))
    let q := s.subQ mc
    let reads := q.reads.filter (·.key ≠ key)
    let s := s.setSubQ mc { q with reads := reads, held := if reads = [] then [] else q.held }
    if reads ≠ [] then s
    else s.each q.held (fun w s => (s.accepted).setSubQ mc { s.subQ mc with
      writes := (s.subQ mc).writes ++ [{ w with seq := s.dram.accepted }] })

/-- Any other read of one burst, which completes at once: the writes up to the last one of its rank, bank and row issue before it. -/
def State.acceptRead (dpa : Nat) (s : State) : State :=
  match s.dramPlace dpa with
  | none => s
  | some (mc, at_) =>
    let q := s.subQ mc
    let s := match ((q.writes.filter (·.at_ = at_)).getLast?) with
      | none => s
      | some w => s.issue mc (q.writes.filter (·.seq ≤ w.seq))
    s.accepted.rankUsed mc at_.rank

/-- The bursts that bytes at an internal address touch, by their DPA. -/
def bursts (a n : Nat) : List Nat :=
  let lo := (a - dramAt 0) / 64
  (List.range (if n = 0 then 0 else (a - dramAt 0 + n - 1) / 64 + 1 - lo)).map (fun i => 64 * (lo + i))

/-- Store bytes in DRAM, as writes of a class: 1 PAGE, 2 SYS, 3 BULK (the table "Traffic classes"). -/
def State.dramStore (s : State) (cls a : Nat) (b : List Byte) : State :=
  (s.setBytes a b).each (bursts a b.length) (State.acceptWrite cls)

/-- Read bytes of DRAM. -/
def State.dramLoad (s : State) (a n : Nat) : State := s.each (bursts a n) State.acceptRead

/-! ### Issuing (R402, R403, R406) -/

/-- The weight of a class (R403). -/
def State.arbWeight (s : State) (cls : Nat) : Nat :=
  if cls = 1 then s.get Reg.MEM_ARB.PAGE else if cls = 2 then s.get Reg.MEM_ARB.SYS else s.get Reg.MEM_ARB.BULK

/-- The class that a command slot goes to, by weighted round robin, and the slots that are left of its turn. -/
def State.arbitrate (s : State) (q : SubQ) : Option (Nat × Nat) :=
  let has := fun c => q.writes.any (·.cls = c)
  if 0 < q.left && has q.turn then some (q.turn, q.left - 1)
  else (([q.turn + 1, q.turn + 2, q.turn + 3].map (fun c => (c - 1) % 3 + 1)).find? has).map (fun c => (c, s.arbWeight c - 1))

/-- The write that a sub-channel issues now: in in-order mode the first, up to the write it is bound to; else none while a TICK read
waits, but for a class that has gone 10 µs without service; else the arbiter's. -/
def State.nextWrite (s : State) (q : SubQ) : Option (QWrite × Nat × Nat) :=
  match q.bound with
  | some b => (q.writes.head?.filter (·.seq ≤ b)).map (fun w => (w, q.turn, q.left))
  | none =>
    if q.reads ≠ [] then
      (q.writes.find? (fun w => ((q.since.lookup w.cls).getD 0) + 39984 ≤ s.now)).map (fun w => (w, q.turn, q.left))
    else (s.arbitrate q).bind (fun (c, left) => (q.writes.find? (·.cls = c)).map (fun w => (w, c, left)))

/-- Whether a sub-channel may issue a command: active, not frozen, its last burst over, and no refresh in its tRFC (R406, R412, R416). -/
def State.mayIssue (s : State) (mc : Nat) : Bool :=
  s.get (Reg.MC_STS.STATE mc) = 2 && !s.frozen && (s.subQ mc).freeAt ≤ s.now
    && s.dram.lastRef.all (fun t => t + 4 * s.dramRfc ≤ s.now)

/-- One clock of a sub-channel that has requests: a burst takes 16 transfers. -/
def State.subTick (mc : Nat) (s : State) : State :=
  if !s.mayIssue mc then s
  else match s.nextWrite (s.subQ mc) with
    | none => s
    | some (w, turn, left) =>
      let q := s.subQ mc
      (s.setSubQ mc { q with turn := turn, left := left, freeAt := s.now + ceilDiv 640 s.dramRate }).issue mc [w]

/-- One clock of the controller. -/
def State.dramTick (s : State) : State := s.each (s.dram.subs.map (·.1)) State.subTick

end Sys2Proof.Machine
end

