-- ==== Sys2Proof/Machine/PortOps.lean ====
section
/-! DEFINITION. Head ports, row slots, nozzle blocks and the populated columns: what every unit asks of them. -/

namespace Sys2Proof.Machine

def State.port (s : State) (p : Nat) : PortSt := Sparse.get (fun _ => {}) s.ports p
def State.setPort (s : State) (p : Nat) (f : PortSt → PortSt) : State :=
  { s with ports := Sparse.insert p (f (s.port p)) s.ports }

def State.rowSt (s : State) (k : Nat) : RowSt := Sparse.get (fun _ => {}) s.rows k
def State.setRow (s : State) (k : Nat) (f : RowSt → RowSt) : State :=
  { s with rows := Sparse.insert k (f (s.rowSt k)) s.rows }

/-- A link is UP: in state 8 with the downlink awake. -/
def State.portUp (s : State) (p : Nat) : Bool := s.flag (Reg.HP_LINK_STS.UP p)

/-- The ports whose link is UP. -/
def State.upPorts (s : State) : List Nat := (List.range 96).filter s.portUp

/-- The populated columns of a row slot r of a port: those of the last IDENT accepted, and all 1,536 before one (R24,
R560). -/
def State.cols (s : State) (p r : Nat) : Nat :=
  match (s.port p).ident with
  | none => 1536
  | some d => if bit d.rowmask r then d.cols.getD r 0 else 0

/-- The populated columns of row slot k. -/
def State.rowCols (s : State) (k : Nat) : Nat := s.cols (k / 16) (k % 16)

/-- MAX_RATE of a port's head (R560). -/
def State.maxRate (s : State) (p : Nat) : Nat :=
  match (s.port p).ident with
  | none => 250000
  | some d => d.maxRate

/-- Whether a global nozzle index names a populated nozzle (R24). -/
def State.populated (s : State) (gn : Nat) : Bool := gn < 2359296 && gn % 1536 < s.rowCols (gn / 1536)

/-- The row slots whose entry in the row table is enabled, in rising order (R53). -/
def State.enabledRows (s : State) : List Nat :=
  (s.regs.filter (fun e => 0x44000 ≤ e.1 && e.1 < 0x50000 && (e.1 - 0x44000) % 0x20 = 0x14 && wordBit e.2)).map
    (fun e => (e.1 - 0x44000) / 0x20)
where
  wordBit (w : Word) : Bool := w.toNat % 2 = 1

/-- The enabled rows of a bar. -/
def State.barRows (s : State) (b : Nat) : List Nat := s.enabledRows.filter (fun k => s.rowBar k = b)

/-- The enabled rows of a port. -/
def State.portRows (s : State) (p : Nat) : List Nat := s.enabledRows.filter (fun k => k / 16 = p)

/-- The engine of a nozzle block in the map in force (R132). -/
def State.blockEngine (s : State) (nb : Nat) : Option Nat :=
  let w := (s.word (0x73000 + 4 * (nb / 4))).toNat / 2 ^ (8 * (nb % 4))
  if bit w 7 then some (bits w 0 6) else none

/-- The nozzle blocks of a row that hold a populated column. -/
def State.rowBlocks (s : State) (k : Nat) : List Nat :=
  ([0, 1, 2].filter (fun i => 512 * i < s.rowCols k)).map (fun i => 3 * k + i)

/-- Whether engine n is out (R143). -/
def State.engineOut (s : State) (n : Nat) : Bool := bit (s.get64 Reg.FAB_OUT.PAIR) n

end Sys2Proof.Machine
end

