-- ==== Sys2Proof/Machine/Wire.lean ====
section
/-! DEFINITION. The transmitters of head ports and peer links: what they put on their lanes, moment by moment (R180 to R187, R192, R208,
R247, R252). A link is a number: p for head port p, 96 for the Duet link, 97 + i for station link i. -/

namespace Sys2Proof.Machine

/-! ### Peer links -/

def State.peer (s : State) (l : Nat) : PeerSt := Sparse.get (fun _ => {}) s.peers l
def State.setPeer (s : State) (l : Nat) (f : PeerSt → PeerSt) : State :=
  { s with peers := Sparse.insert l (f (s.peer l)) s.peers }

/-- Link lane 0 of a peer link: 0 the Duet link, 1 + i station link i (R226). -/
def peerLane (l : Nat) : Nat := if l = 0 then 240 else 247 + l

/-- The state of a peer link's receiver (R248). -/
def State.peerLink (s : State) (l : Nat) : Nat := s.get (Reg.L_STS.LINK_STATE (peerLane l))

/-! ### Links -/

/-- The L number of a link's lane 0, and its lanes (R177, R226). -/
def linkFirst (k : Nat) : Nat := if k < 96 then 2 * k else peerLane (k - 96)
def linkWidth (k : Nat) : Nat := if k < 96 then 2 else if k = 96 then 8 else 1

/-- The link of a head or peer lane. -/
def linkOf (n : Nat) : Nat := if n < 192 then n / 2 else if n < 248 then 96 else n - 151

def State.tx (s : State) (k : Nat) : TxSt := if k < 96 then (s.port k).tx else (s.peer (k - 96)).tx
def State.setTx (s : State) (k : Nat) (f : TxSt → TxSt) : State :=
  if k < 96 then s.setPort k (fun x => { x with tx := f x.tx }) else s.setPeer (k - 96) (fun x => { x with tx := f x.tx })

/-- Lane block time in 1/100 mt (the tables "Link capacity", "Lane groups"): 6.4 and 3.2 ns on head lanes, 2.56 ns on peer lanes. -/
def State.blockTime (s : State) (k : Nat) : Nat := if k < 96 then (if (s.port k).rate = 1 then 1280 else 2560) else 1024

/-- The moment a block handed to a transmitter now can leave, in 1/100 mt. -/
def State.txStart (s : State) (k : Nat) : Nat := max (s.now * 100) (s.tx k).freeAt

/-- Whether a run of blocks is still leaving a transmitter. -/
def State.txBusy (s : State) (k : Nat) : Bool := s.now * 100 < (s.tx k).freeAt

/-- Whether a counter value of a link carries the link's own blocks: neither SKIP nor BEACON. -/
def freeSlot (k c : Nat) : Bool := (scheduled (k < 96) c 0).isNone

/-- A transmitter sends moments from `t0` on, in 1/100 mt, in data mode or in training, with SKIP and BEACON where they fall due (R180,
R184, R223); those due right after go out too, up to counter value `goal`. A run that starts inside another puts the rest of it back. -/
def State.txSend (k t0 : Nat) (data : Bool) (goal : Nat) (slots : List (List LinkBlock)) (s : State) : State :=
  let x := s.tx k
  let bt := s.blockTime k
  let all := interleave (linkWidth k) (data && k < 96) (fun c => (t0 + (c - x.blocks) * bt) / 100) goal (2 * slots.length + 8) x.blocks slots
  let w := scrambleAll data x.scr all
  (s.setTx k (fun y => { y with
    blocks := x.blocks + all.length, freeAt := max t0 x.freeAt + all.length * bt, scr := w.2 })).send (.link (linkFirst k) t0 all w.1)

/-- Link blocks in data mode, block k on link lane k modulo the width (R183). -/
def State.sendBlocks (k : Nat) (bs : List LinkBlock) (s : State) : State :=
  s.txSend k (s.txStart k) true 0 (stripe (linkWidth k) bs.length bs)

/-- One block on every lane at one counter value. -/
def State.sendAll (k : Nat) (b : LinkBlock) (s : State) : State :=
  s.txSend k (s.txStart k) true 0 [List.replicate (linkWidth k) b]

/-- A block on link lane 0 at its scheduled time, also inside a packet (R195, R208). -/
def State.sendNow (k : Nat) (b : LinkBlock) (s : State) : State :=
  s.txSend k (s.now * 100) true 0 [b :: List.replicate (linkWidth k - 1) .idle]

/-- The Meridian time at which a block sent now crosses the ball with its s0 (R186): after a SKIP or BEACON that falls due first
(R223). -/
def State.departs (s : State) (k : Nat) : Nat :=
  let n := ((List.range 4).find? (fun i => freeSlot k ((s.tx k).blocks + i))).getD 0
  (s.now * 100 + n * s.blockTime k) / 100

/-- What is on its way on a link ends at once (R212, R223). -/
def State.txCut (k : Nat) (s : State) : State :=
  if !s.txBusy k then s
  else (s.setTx k (fun x => { x with freeAt := s.now * 100 })).send (.cut (linkFirst k) (s.now * 100))

/-- TRAIN blocks on every lane, the last with END if `last` (R187, R192, R247). -/
def trainSlots (k count n : Nat) (ready last : Bool) : List (List LinkBlock) :=
  (List.range n).map (fun i => (List.range (linkWidth k)).map (fun lane =>
    .train ⟨96 ≤ k, (count + i) % 16, lane, 0, ready, last && i + 1 = n⟩))

def State.sendTrain (k n : Nat) (ready last : Bool) (s : State) : State :=
  (s.txSend k (s.txStart k) false 0 (trainSlots k (s.tx k).count n ready last)).setTx k (fun x => { x with count := (x.count + n) % 16 })

/-- The scrambler starts; no rule states what it holds then. -/
def State.scramblerOn (k : Nat) (s : State) : State :=
  s.drawn.setTx k (fun x => { x with scr := (List.range (linkWidth k)).map (fun i => Config.freeAt s.free i % 2 ^ 58) })

/-- A transmitter enters data mode (R192): 16 TRAIN blocks, END on the last, then the scrambler and at least 4 IDLE blocks. -/
def State.enterData (k : Nat) (s : State) : State :=
  ((s.sendTrain k 16 true true).scramblerOn k).sendBlocks k (List.replicate (4 * linkWidth k) .idle)

/-- A transmitter fills its lanes, with TRAIN in training and IDLE in data mode, up to a counter value that SKIP or BEACON takes, and
sends that too, up to `goal` (R184, R188, R200). -/
def State.fillTo (k target goal : Nat) (data ready : Bool) (s : State) : State :=
  let c := (s.tx k).blocks
  let n := ((List.range (target - c)).filter (fun i => freeSlot k (c + i))).length
  if data then s.txSend k (s.txStart k) true goal (List.replicate n (List.replicate (linkWidth k) .idle))
  else (s.txSend k (s.txStart k) false goal (trainSlots k (s.tx k).count n ready false)).setTx k (fun x => { x with count := (x.count + n) % 16 })

/-- A transmitter stops, or starts anew: nothing is on its way. -/
def State.txReset (k : Nat) (s : State) : State := s.setTx k ({ · with freeAt := 0, scr := [] })

/-! ### Head ports -/

/-- Whether the port's downlink is in data mode: also while only the uplink sleeps or relocks (R192, R217, R218). -/
def State.dataMode (s : State) (p : Nat) : Bool :=
  let st := s.get (Reg.HP_LINK_STS.STATE p)
  ((7 ≤ st && st ≤ 9) || (s.port p).relock) && !s.flag (Reg.HP_LINK_STS.TX_TWI p) && !(s.port p).training

/-! ### Peer packets (R249, R252) -/

/-- Whether a peer link is in data mode (R192, R248). -/
def State.peerData (s : State) (l : Nat) : Bool := 7 ≤ s.peerLink l && s.peerLink l ≤ 8 && !(s.peer l).training

/-- A packet joins those that wait: TIME first, then ANNOUNCE, then CHAN in rising CH, and in one place in order (R252, R255). -/
def State.peerPut (l : Nat) (p : PeerPkt) (s : State) : State :=
  if !s.peerData l then s
  else s.setPeer l (fun x => { x with
    queue := x.queue.filter (fun q => q.place ≤ p.place) ++ p :: x.queue.filter (fun q => p.place < q.place) })

/-- Send the first packet that waits on a peer link whose transmitter is free: a packet once started is never interrupted. No rule lays
out the items of a state copy in its packet (R326). -/
def State.peerDrain (l : Nat) (s : State) : State :=
  match (s.peer l).queue with
  | [] => s
  | p :: ps =>
    if !s.peerData l || s.txBusy (96 + l) then s
    else
      let s := s.setPeer l ({ · with queue := ps })
      match p.copy with
      | some c => s.send (.stateCopy c.1 c.2)
      | none => s.sendBlocks (96 + l) (packet p.ptype p.blocks)

/-- A Meridian step (R38, R41) moves no block in flight: the transmitters' moments start anew. -/
def State.retime (s : State) : State :=
  { s with
    ports := s.ports.map (fun e => (e.1, { e.2 with tx := { e.2.tx with freeAt := 0 } })),
    peers := s.peers.map (fun e => (e.1, { e.2 with tx := { e.2.tx with freeAt := 0 } })) }

end Sys2Proof.Machine
end

