-- ==== Sys2Proof/Machine/Starmap.lean ====
section
/-! DEFINITION. The Starmap store (chapter 05): entries, update records and their checks, the values in force at a line, and
the HEALTH of nozzles. -/

namespace Sys2Proof.Machine

/-! ### Entries (R148) -/

/-- The other nozzle of a nozzle's column: rows 2k and 2k + 1 of one port share a column (R25). -/
def otherNozzle (gn : Nat) : Nat := if gn / 1536 % 2 = 0 then gn + 1536 else gn - 1536

/-- The even row's nozzle of a nozzle's column (R152). -/
def columnGn (gn : Nat) : Nat := if gn / 1536 % 2 = 0 then gn else gn - 1536

/-- PARTNER none. -/
def noPartner : Nat := 0x3FFFFF

/-- A word of an entry, and the fields the rules use. -/
def ew (w : List Nat) (i : Nat) : Nat := w.getD i 0
def eState (w : List Nat) : Nat := bits (ew w 0) 0 3
def eRole (w : List Nat) : Nat := bits (ew w 0) 3 1
def ePolicy (w : List Nat) : Nat := bits (ew w 0) 4 5
def ePartner (w : List Nat) : Nat := bits (ew w 0) 9 22
def eDlut (w : List Nat) : Nat := bits (ew w 1) 0 4
def eTap (w : List Nat) : Nat := bits (ew w 1) 4 11
def eDgain (w : List Nat) : Nat := bits (ew w 1) 16 16
def eXpos (w : List Nat) : Nat := ew w 2
def eYoff (w : List Nat) : Int := signed 16 (ew w 3)
def eTrim (w : List Nat) : Int := signed 8 (bits (ew w 3) 16 8)
def eCalq (w : List Nat) : Nat := bits (ew w 3) 24 8
def eWl (w : List Nat) : Nat := bits (ew w 4) 0 8
def eWr (w : List Nat) : Nat := bits (ew w 4) 8 8
def eAmp (w : List Nat) : Nat := bits (ew w 4) 16 16
def eFreq (w : List Nat) : Int := signed 16 (ew w 5)
def eNr (w : List Nat) : Nat := bits (ew w 5) 16 8
def eAir (w : List Nat) : Nat := bits (ew w 5) 24 8
def eMiss (w : List Nat) : Nat := bits (ew w 6) 0 8
def eDens (w : List Nat) : Int := signed 8 (bits (ew w 6) 8 8)
def eXdev (w : List Nat) : Int := signed 8 (bits (ew w 6) 16 8)
def eSamples (w : List Nat) : Nat := bits (ew w 6) 24 8

/-- An entry with a field of word `i` replaced. -/
def eSet (w : List Nat) (i lo width v : Nat) : List Nat := updateAt w i (fun x => setBits x lo width v)

/-- Where a nozzle's entry lies in the image. -/
def State.entryAt (s : State) (gn : Nat) : Nat := dramAt (s.get64 Reg.SMP_IMG_BASE.PAIR + 32 * gn)

/-- A nozzle's entry in the target image (R154); an unpopulated index holds none, and reads as 0 (R148). -/
def State.entry (s : State) (gn : Nat) : List Nat :=
  if s.populated gn then (List.range 8).map (fun i => s.memWord (s.entryAt gn + 4 * i)) else List.replicate 8 0

/-- Write a nozzle's target entry. -/
def State.putEntry (s : State) (gn : Nat) (w : List Nat) : State :=
  s.dramStore 2 (s.entryAt gn) (w.flatMap (leBytes 4))

/-- The bits of entry word `i` that an update record's MASK selects (R153). -/
def maskWord (mask i : Nat) : Nat :=
  let on := fun b v => if bit mask b then v else 0
  match i with
  | 0 => on 0 0xF + on 1 0x1F0 + on 2 0x7FFFFE00
  | 1 => on 3 0xF + on 5 0x7FF0 + on 4 0xFFFF0000
  | 2 => on 7 0xFFFFFFFF
  | 3 => on 8 0xFFFF + on 6 0xFF0000 + on 12 0xFF000000
  | 4 => on 9 0xFFFF + on 10 0xFFFF0000
  | 5 => on 10 0xFFFFFFFF
  | 6 => on 10 0xFFFFFFFF
  | _ => on 11 0xFFFFFFFF

/-- The fields that MASK selects, taken from `new`. -/
def applyMask (mask : Nat) (old new : List Nat) : List Nat :=
  (List.range 8).map (fun i => ew old i - (ew old i &&& maskWord mask i) + (ew new i &&& maskWord mask i))

/-! ### The printer of a column (R152) -/

/-- Whether a working nozzle needs cover. -/
def needsCover (w : List Nat) : Bool :=
  let st := eState w
  st = 3 || st = 5 || ((st = 1 || st = 2) && bit (ePolicy w) 1) || (st = 4 && bit (ePolicy w) 2)

/-- The printer of a column from its even and odd nozzles' entries (none where unpopulated): 0 none, 1 the even row's, 2 the
odd row's. -/
def columnPrinter (g : Nat) (even odd : Option (List Nat)) : Nat :=
  let works : Option (List Nat) → Bool := fun w => match w with
    | some w => eRole w = 0 && eState w ≠ 7
    | none => false
  let side : Nat := if works even then 1 else if works odd then 2 else 0
  match (if side = 1 then even else if side = 2 then odd else none) with
  | none => 0
  | some w =>
    let spare := if side = 1 then odd else even
    let covers : Bool := match spare with
      | some sp => ePartner w = (if side = 1 then g + 1536 else g) && eRole sp = 1 && eState sp = 6
          && ePartner sp = (if side = 1 then g else g + 1536)
      | none => false
    if needsCover w && covers then 3 - side
    else if eState w = 0 || eState w = 1 || eState w = 2 || eState w = 4 then side
    else 0

/-- A nozzle's target entry, where it is populated. -/
def State.entry? (s : State) (gn : Nat) : Option (List Nat) := if s.populated gn then some (s.entry gn) else none

/-- The target image's printer of a nozzle's column. -/
def State.targetPrinter (s : State) (gn : Nat) : Nat :=
  let g := columnGn gn
  columnPrinter g (s.entry? g) (s.entry? (g + 1536))

/-- What a column adds to SMP_PORT_STS: its spares whose partner needs no cover, and 1 if it is uncovered. -/
def columnCounts (g : Nat) (even odd : Option (List Nat)) : Nat × Nat :=
  let ready : Option (List Nat) → Option (List Nat) → Nat := fun a b => match a, b with
    | some a, some b => if eState a = 6 && ePartner a ≠ noPartner && !needsCover b then 1 else 0
    | _, _ => 0
  let alive : Option (List Nat) → Bool := fun w => match w with
    | some w => eState w ≠ 7
    | none => false
  (ready even odd + ready odd even,
   if columnPrinter g even odd = 0 && (alive even || alive odd) then 1 else 0)

/-! ### Values in force at a line (R158 to R162) -/

/-- The order in which records take effect: by chain, then line, then sequence number. -/
def Rec.later (a b : Rec) : Bool :=
  a.chain > b.chain || (a.chain = b.chain && (a.line > b.line || (a.line = b.line && a.seq > b.seq)))

/-- Insert a record into a list, latest first. -/
def insertRec (r : Rec) : List Rec → List Rec
  | [] => [r]
  | x :: xs => if r.later x then r :: x :: xs else x :: insertRec r xs

/-- Records, latest first. -/
def sortRecs (l : List Rec) : List Rec := l.foldr insertRec []

/-- A change of one field: its line, its ramp and its target. -/
structure Change where
  line : Nat
  ramp : Nat
  target : Int

/-- A ramped field's value at line `m` (R159, R161): `a0` before the changes, which are listed latest first. -/
def rampAt (a0 : Int) : List Change → Int → Int
  | [], _ => a0
  | c :: cs, m =>
    if m < c.line then rampAt a0 cs m
    else if c.ramp = 0 || m ≥ c.line + c.ramp - 1 then c.target
    else
      let p := ((m - c.line + 1) * 65536).fdiv c.ramp
      let a := rampAt a0 cs ((c.line : Int) - 1)
      a + sar ((c.target - a) * p) 16

/-- The target of the last change at a line before `n`. -/
def targetBefore (a0 : Int) (n : Nat) : List Change → Int
  | [] => a0
  | c :: cs => if c.line < n then c.target else targetBefore a0 n cs

/-- A switched field's value at line `m` (R160, R161), with the stagger key `k`. -/
def switchAt (a0 : Int) (k : Nat) : List Change → Nat → Int
  | [], _ => a0
  | c :: cs, m =>
    if m < c.line then switchAt a0 k cs m
    else if c.ramp = 0 || m + 1 ≥ c.line + c.ramp then c.target
    else
      let d := bitrev 16 ((m - c.line + 40503 * k) % 65536)
      if d < (m - c.line + 1) * 65536 / c.ramp then c.target else targetBefore a0 c.line cs

/-- The entry in force before the records listed. -/
def State.baseEntry (s : State) (gn : Nat) : List Nat := (s.smp.base.lookup gn).getD (s.entry gn)

/-- The records of a nozzle that select one of `mask`'s fields and count in chains up to `c`, latest first. -/
def State.recsOf (s : State) (gn mask c : Nat) : List Rec :=
  sortRecs (s.smp.recs.filter (fun r => r.gn = gn && r.chain ≤ c && (r.mask &&& mask) ≠ 0))

/-- The changes of one field in chain `c`, and its value when that chain began on the row. -/
def State.fieldChanges (s : State) (gn bitNo c : Nat) (get : List Nat → Int) : Int × List Change :=
  let rs := s.recsOf gn (2 ^ bitNo) c
  let a0 := match rs.find? (fun r => r.chain < c) with
    | some r => get r.vals
    | none => get (s.baseEntry gn)
  (a0, (rs.filter (fun r => r.chain = c)).map (fun r => ⟨r.line, r.ramp, get r.vals⟩))

def State.rampedAt (s : State) (gn bitNo c m : Nat) (get : List Nat → Int) : Int :=
  let (a0, cs) := s.fieldChanges gn bitNo c get
  rampAt a0 cs m

def State.switchedAt (s : State) (gn bitNo c m : Nat) (get : List Nat → Int) : Int :=
  let (a0, cs) := s.fieldChanges gn bitNo c get
  switchAt a0 gn cs m

/-- A stepped field's value (R158). -/
def State.steppedAt (s : State) (gn bitNo c m : Nat) (get : List Nat → Int) : Int :=
  let (a0, cs) := s.fieldChanges gn bitNo c get
  targetBefore a0 (m + 1) cs

/-- Word 0 of a nozzle's entry after every record that selects STATE, ROLE, POLICY or PARTNER up to (chain, line). -/
def State.word0At (s : State) (gn c : Nat) (line : Int) : Option (List Nat) :=
  if !s.populated gn then none
  else
    let rs := (s.recsOf gn 7 c).filter (fun r => r.chain < c || r.line ≤ line)
    some (rs.foldr (fun r w => applyMask (r.mask &&& 7) w r.vals) (s.baseEntry gn))

/-- The printer of a column after every record up to (chain, line). -/
def State.printerAfter (s : State) (g c : Nat) (line : Int) : Nat :=
  columnPrinter g (s.word0At g c line) (s.word0At (g + 1536) c line)

/-- The printer of a nozzle's column at line `m` of chain `c` (R152, R160): 0 none, 1 the even row's nozzle, 2 the odd
row's. -/
def State.printerAt (s : State) (gn c m : Nat) : Nat :=
  let g := columnGn gn
  let rs := sortRecs ((s.recsOf g 7 c ++ s.recsOf (g + 1536) 7 c).filter (fun r => r.chain = c))
  let lead := rs.filter (fun r => rs.all (fun x => x.line ≠ r.line || x.seq ≤ r.seq))
  (switchAt (s.printerAfter g c (-1)) g (lead.map (fun r => ⟨r.line, r.ramp, s.printerAfter g c r.line⟩)) m).toNat

/-- Whether a nozzle prints at a line (R126). -/
def State.prints (s : State) (gn c m : Nat) : Bool := s.printerAt gn c m = (if gn / 1536 % 2 = 0 then 1 else 2)

/-- A record that no line needs any more: its target goes into the entry in force. One whose line was never published stays, with
nothing left to set, until its row starts a new chain, where it is told and leaves the pending queue (R162, R175). -/
def State.foldRec (s : State) (r : Rec) : State :=
  { s with smp := { s.smp with
      base := Sparse.insert r.gn (applyMask r.mask (s.baseEntry r.gn) r.vals) s.smp.base,
      recs := if r.pend then s.smp.recs.map (fun x => if x = r then { x with mask := 0 } else x)
        else s.smp.recs.filter (· ≠ r) } }

/-- An entry in force that equals the target entry needs no place of its own. -/
def State.trimBase (s : State) (gn : Nat) : State :=
  if s.smp.recs.all (fun r => r.gn ≠ gn || r.mask = 0) && s.smp.base.lookup gn = some (s.entry gn) then
    { s with smp := { s.smp with base := Sparse.erase gn s.smp.base } }
  else s

/-- When a chain has ended, every record that counts in it is in force (R162). -/
def State.foldRecs (s : State) (c : Nat) : State :=
  let rs := (sortRecs (s.smp.recs.filter (fun r => r.chain ≤ c))).reverse
  (s.each rs (fun r s => s.foldRec r)).each (rs.map (·.gn)) (fun gn s => s.trimBase gn)

/-! ### Accepting records (R153 to R157, R166, R167) -/

/-- An update record as it is submitted or created. -/
structure SmpReq where
  line : Nat
  ramp : Nat
  mask : Nat
  gn   : Nat
  src  : Nat
  vals : List Nat

/-- What a record makes of its nozzle and of the other nozzle of the column: their entries, and the fields it sets of each
(R151, R156). None where the record breaks R150 or R151, or retires a working nozzle whose partner is a CALIBRATING spare. -/
structure SmpResult where
  own      : List Nat
  ownMask  : Nat
  other    : List Nat
  otherMask : Nat

def stateFits (w : List Nat) : Bool :=
  if eRole w = 0 then eState w ≠ 6 else eState w = 5 || eState w = 6 || eState w = 7

/-- The column rules R150 and R151 on one column. -/
def columnFits (gn : Nat) (w : List Nat) (other : Nat) (o : Option (List Nat)) : Bool :=
  match o with
  | none => stateFits w && ePartner w = noPartner
  | some o =>
    let linked : Bool := ePartner w = other
    stateFits w && stateFits o
      && !(eRole w = 0 && eState w ≠ 7 && eRole o = 0 && eState o ≠ 7)
      && (linked || ePartner w = noPartner) && (ePartner o = gn || ePartner o = noPartner)
      && (linked == (ePartner o = gn : Bool))
      && (!linked || eRole w ≠ eRole o)
      && (!linked || (eState w ≠ 7 && eState o ≠ 7))

def State.smpResult (s : State) (q : SmpReq) : Option SmpResult :=
  let w0 := s.entry q.gn
  let og := otherNozzle q.gn
  let o0 := s.entry? og
  let w := applyMask q.mask w0 q.vals
  let o := o0.getD (List.replicate 8 0)
  let sets := bit q.mask 2
  let (o, om) := if sets && o0.isSome then (eSet o 0 9 22 (if ePartner w = noPartner then noPartner else q.gn), 4) else (o, 0)
  let retires := eState w = 7 && eState w0 ≠ 7
  let partner := o0.isSome && ePartner w0 = og
  let (w, m, o, om) :=
    if retires && partner then
      let w := eSet w 0 9 22 noPartner
      let o := eSet o 0 9 22 noPartner
      if eRole w0 = 0 && eState o = 6 then (w, q.mask ||| 4, eSet (eSet o 0 3 1 0) 0 0 3 0, 5)
      else (w, q.mask ||| 4, o, 4)
    else (w, q.mask, o, om)
  if retires && partner && eRole w0 = 0 && eState (o0.getD []) = 5 then none
  else if columnFits q.gn w og (o0.map (fun _ => o)) then some ⟨w, m, o, om⟩ else none

/-- The bar that the bar assignment in force gives a port, from the row table. -/
def State.portBar (s : State) (p : Nat) : Option Nat := (s.portRows p).head?.map s.rowBar

/-- The sum of DGAIN over the printers of a bar's ports in the target image, and their number (R167, R168). -/
def State.barGain (s : State) (b : Nat) : Nat × Nat :=
  let ports := ((s.barRows b).map (· / 16)).eraseDups
  ports.foldl (fun acc p =>
    (List.range 8).foldl (fun acc k =>
      (List.range 1536).foldl (fun (acc : Nat × Nat) c =>
        let g := p * 24576 + 3072 * k + c
        match s.targetPrinter g with
        | 1 => (acc.1 + eDgain (s.entry g), acc.2 + 1)
        | 2 => (acc.1 + eDgain (s.entry (g + 1536)), acc.2 + 1)
        | _ => acc) acc) acc) (0, 0)

/-- Show a bar's mean DGAIN (R168); its rounding no rule states. DESIGN CHOICE: a bar without printers keeps its last mean. -/
def State.showBarGain (s : State) (b : Nat) : State :=
  let (sum, n) := s.barGain b
  if n = 0 then s else s.put (Reg.SMP_BAR_GAIN.MEAN b) (divOpen sum n).toNat

/-- P of R154: the highest line published on a row, −1 where none has been. -/
def State.rowP (s : State) (k : Nat) : Int := match (s.rowSt k).pubHi with
  | some p => p
  | none => -1

/-- The limits of R167 on a record of the health unit or of inspection. -/
def State.smpLimits (s : State) (q : SmpReq) (r : SmpResult) : Bool :=
  let old := s.entry q.gn
  let onlyMissing : Bool := eState r.own = 3 && eState old ≠ 3 && eRole r.own = eRole old && ePolicy r.own = ePolicy old
    && ePartner r.own = ePartner old && eDlut r.own = eDlut old
  let st := eState q.vals
  let changed := s.putEntry q.gn r.own
  let band : Bool := match s.portBar (q.gn / 24576) with
    | none => false
    | some b =>
      let (s0, n0) := s.barGain b
      let (s1, n1) := (changed.putEntry (otherNozzle q.gn) r.other).barGain b
      let far := fun (sum n : Nat) => ((sum : Int) - 16384 * n).natAbs
      n1 ≠ 0 && far s1 n1 > s.get Reg.SMP_LIM2.MEAN_BAND * n1 && (n0 = 0 || far s1 n1 * n0 > far s0 n0 * n1)
  (q.ramp < s.get Reg.SMP_LIM2.MIN_RAMP && !onlyMissing)
    || (bit q.mask 4 && ((eDgain q.vals : Int) - eDgain old).natAbs > s.get Reg.SMP_LIM.DGAIN_STEP)
    || (bit q.mask 6 && (eTrim q.vals - eTrim old).natAbs > s.get Reg.SMP_LIM.TRIM_STEP)
    || (bit q.mask 7 && ((eXpos q.vals : Int) - eXpos old).natAbs > s.get Reg.SMP_LIM.XPOS_STEP)
    || bit q.mask 2 || bit q.mask 3 || bit q.mask 5 || bit q.mask 11 || bit q.mask 12
    || (bit q.mask 0 && 5 ≤ st)
    || band

/-- The refusals of R154, in the table's order. -/
def State.smpRefuses (s : State) (q : SmpReq) : Option Nat :=
  if 0x2000 ≤ q.mask || q.mask = 0 || !s.populated q.gn || bit (ew q.vals 0) 31 || bit (ew q.vals 1) 15
      || (bit q.mask 7 && 20000000 < eXpos q.vals) then some Code.ST_SMP_UPD_FORMAT
  else match s.smpResult q with
    | none => some Code.ST_SMP_UPD_PAIR
    | some r =>
      if (q.src = 1 || q.src = 2) && s.smpLimits q r then some Code.ST_SMP_UPD_LIMIT
      else if (s.rowSt (q.gn / 1536)).chain.isSome
          && (q.line : Int) < s.rowP (q.gn / 1536) + s.get Reg.SMP_MIN_AHEAD.LINES then some Code.ST_SMP_UPD_PAST
      else if 65536 ≤ s.get Reg.SMP_QLEN.LEN then some Code.ST_SMP_UPD_FULL
      else none

/-- The alarm of R175 for a port's spares. -/
def State.spareAlarm (s : State) (p : Nat) : State :=
  let low := s.get (Reg.SMP_PORT_STS.SPARES p) < s.get Reg.SMP_SPARE_LOW.MIN
  if low && !s.smp.lowTold.contains p then
    { s with smp := { s.smp with lowTold := p :: s.smp.lowTold } }.post
      (ev Code.ST_SMP_SPARE_LOW srcSMP none none (s.dataPort p))
  else if low then s
  else { s with smp := { s.smp with lowTold := s.smp.lowTold.filter (· ≠ p) } }

/-- The counts of R176 after one column changed. DESIGN CHOICE: they cover the ports loaded since reset, before which the target image
holds nothing of a port. -/
def State.recount (old : State) (gn : Nat) (s : State) : State :=
  if !s.smp.loaded.contains (gn / 24576) then s
  else
  let g := columnGn gn
  let p := gn / 24576
  let before := columnCounts g (old.entry? g) (old.entry? (g + 1536))
  let after := columnCounts g (s.entry? g) (s.entry? (g + 1536))
  let add := fun (f : Fld) (minus plus : Nat) (s : State) => s.put f (s.get f + plus - minus)
  let s := add (Reg.SMP_PORT_STS.SPARES p) before.1 after.1 s
  let s := add (Reg.SMP_PORT_STS.UNCOVERED p) before.2 after.2 s
  let s := s.each [g, g + 1536] (fun n s =>
    if s.populated n then
      add (Reg.SMP_STATE_CNT.CNT (eState (s.entry n))) 0 1 (add (Reg.SMP_STATE_CNT.CNT (eState (old.entry n))) 1 0 s)
    else s)
  let s := s.spareAlarm p
  match s.portBar p with
  | some b => s.showBarGain b
  | none => s

/-- The ST_NOZ codes, in STATE order (R175). -/
def nozCode (st : Nat) : Nat := 0x0348 + st

/-- A record's state and loss of cover are told (R175). -/
def State.tellRec (s : State) (r : Rec) : State :=
  let s := s.when r.enters (·.post (ev (nozCode (eState r.vals)) (srcHP (r.gn / 24576)) none none (s.dataNozzle r.gn)))
  s.when (r.uncovers && (s.flag (Reg.TRK_ROW_CFG.EN (columnGn r.gn / 1536)) || s.flag (Reg.TRK_ROW_CFG.EN (columnGn r.gn / 1536 + 1))))
    (fun s => (s.pmcAdd 391).post (ev Code.ST_SMP_UNCOVERED srcSMP none none (s.dataColumn (columnGn r.gn))))

/-- The whole taps of a row change at a line: its port has a table to load (R210). -/
def State.tapChange (s : State) (k c line : Nat) : State :=
  s.setPort (k / 16) (fun p =>
    if p.taps.any (fun t => t.row = k % 16 && t.chain = c && t.line = line && !t.sent) then p
    else { p with taps := p.taps ++ [⟨k % 16, c, line, 0, false, false, false⟩] })

/-- A nozzle's change settles inspection's view of it (R164): nozzle, chain, first and last line. -/
def State.settles (s : State) (c : Nat) (q : SmpReq) (gn : Nat) : State :=
  let last := q.line + q.ramp - 1 + s.get (Reg.SMP_SETTLE.LINES (s.rowBar (gn / 1536)))
  { s with smp := { s.smp with settle := (gn, c, q.line, last) :: s.smp.settle } }

/-- Whether two entries differ in DLUT, DGAIN, TRIM_BASE, XPOS or TAP (R164). -/
def printsOtherwise (a b : List Nat) : Bool :=
  eDlut a ≠ eDlut b || eDgain a ≠ eDgain b || eTrim a ≠ eTrim b || eXpos a ≠ eXpos b || eTap a ≠ eTap b

/-- The nozzles whose view a record settles (R164): itself where its own values change, and both of its column where the printer
does. -/
def settledBy (old new : State) (gn : Nat) : List Nat :=
  if old.targetPrinter gn ≠ new.targetPrinter gn then [gn, otherNozzle gn]
  else if printsOtherwise (old.entry gn) (new.entry gn) then [gn] else []

/-- The chain and line from which an accepted record counts (R162): its own where a chain is in flight on the row; where the row has
left a chain that is still in flight, a line after all of that chain's; none where the record takes effect at once for good. -/
def State.recPlace (s : State) (q : SmpReq) : Option (Nat × Nat × Bool) :=
  let r := s.rowSt (q.gn / 1536)
  match r.chain with
  | some c => some (c, q.line, true)
  | none => if s.job.chains.any (·.id = r.past) then some (r.past, 2 ^ 64, false) else none

/-- A port becomes due for calibration, with its cause, unless it is due or runs (R295). -/
def State.calDue (s : State) (p cause : Nat) : State :=
  if s.flag (Reg.CAL_PORT_STS.DUE p) || s.flag (Reg.CAL_PORT_STS.RUNNING p) then s
  else
    let s := (s.put (Reg.CAL_PORT_STS.DUE p) 1).put (Reg.CAL_PORT_STS.CAUSE p) cause
    { s with cal := { s.cal with due := s.cal.due ++ [p] } }

/-- The health cause of R295: a working nozzle enters WEAK or DEVIATED. -/
def State.healthDue (s : State) (gn : Nat) (old new : List Nat) : State :=
  let worse := fun (w : List Nat) => eRole w = 0 && (eState w = 1 || eState w = 2)
  s.when (s.flag Reg.CAL_CTRL.HEALTH_EN && worse new && eState new ≠ eState old) (·.calDue (gn / 24576) 3)

/-- An accepted record (R154, R156, R161, R162, R166): the target image changes at once, and the values enter force from the
record's line, or at once where no chain is in flight on the row. -/
def State.smpTake (s : State) (q : SmpReq) (r : SmpResult) (seq : Nat) : State :=
  let old := s
  let og := otherNozzle q.gn
  let k := q.gn / 1536
  let uncovers := s.targetPrinter q.gn ≠ 0
  let at0 := s.baseEntry q.gn
  let at1 := s.baseEntry og
  let hadBase := (s.smp.base.lookup q.gn).isSome
  let hadOther := (s.smp.base.lookup og).isSome
  let s := (s.putEntry q.gn r.own).when (r.otherMask ≠ 0) (·.putEntry og r.other)
  let gone := uncovers && s.targetPrinter q.gn = 0
  let place := s.recPlace q
  let (c, line, pend) := place.getD (0, 0, false)
  let parts : List Rec :=
    ⟨seq, c, line, if pend then q.ramp else 0, r.ownMask, q.gn, r.own, true, false, pend, gone, eState r.own ≠ eState (old.entry q.gn)⟩ ::
      (if r.otherMask = 0 then []
        else [⟨seq, c, line, if pend then q.ramp else 0, r.otherMask, og, r.other, false, false, pend, false,
          eState r.other ≠ eState (old.entry og)⟩])
  let tapMoves := bit q.mask 5 && eTap q.vals / 8 ≠ eTap (old.entry q.gn) / 8
  let s := s.when (!pend) (fun s => s.each parts (fun r s => s.tellRec r))
  let s := match place with
    | none =>
      let s := s.when hadBase (fun s => { s with smp := { s.smp with
        base := Sparse.insert q.gn (applyMask r.ownMask at0 r.own) s.smp.base } })
      let s := s.when (hadOther && r.otherMask ≠ 0) (fun s => { s with smp := { s.smp with
        base := Sparse.insert og (applyMask r.otherMask at1 r.other) s.smp.base } })
      (s.trimBase q.gn).trimBase og
    | some _ =>
      let s := { s with smp := { s.smp with
        base := Sparse.insert q.gn at0 (if r.otherMask = 0 then s.smp.base else Sparse.insert og at1 s.smp.base),
        recs := s.smp.recs ++ parts } }
      s.when pend (fun s => (s.each (settledBy old s q.gn) (fun gn s => s.settles c q gn)).count Reg.SMP_QLEN.LEN)
  let s := s.when tapMoves (·.tapChange k c (if pend then q.line else 0))
  let s := ((s.count Reg.SMP_UPD_ACC.CNT).pmcAdd 384).healthDue q.gn (old.entry q.gn) r.own
  let s := State.recount old q.gn s
  s.when (s.get Reg.DUE_STS.ROLE = 1) (fun s => { s with due := { s.due with
    copyQ := s.due.copyQ ++ [.smpRec seq q.line q.ramp q.mask q.gn q.src q.vals] } })

/-- A record from any source: the status it is refused with, or its acceptance under the next sequence number. -/
def State.smpSubmit (s : State) (q : SmpReq) : Option Nat × State :=
  match s.smpRefuses q, s.smpResult q with
  | some code, _ =>
    let s := (s.count Reg.SMP_UPD_REF.CNT).pmcAdd 385
    (some code, s.when (code = Code.ST_SMP_UPD_FULL) (·.put Reg.SMP_STS.Q_FULL 1))
  | none, none => (some Code.ST_SMP_UPD_PAIR, s)
  | none, some r =>
    let seq := s.smp.nextSeq
    (none, ({ s with smp := { s.smp with nextSeq := (seq + 1) % 2 ^ 32 } }).smpTake q r seq)

/-- Whether the device creates no record of a source for a nozzle (R155). -/
def State.smpHeld (s : State) (src gn : Nat) : Bool :=
  let pol := ePolicy (s.entry gn)
  (src = 1 && (!s.flag Reg.SMP_CTRL.AUTO_EN || !bit pol 0))
    || (src = 2 && (!s.flag Reg.SMP_CTRL.INSP_EN || !bit pol 4)) || (src = 3 && !bit pol 3)

/-- A record that the device creates (R155): held where its source or the nozzle's POLICY does not allow it, discarded in a
standby and a detached member (R172, R317) and while a new primary awaits the last state copy (R335), and otherwise submitted with n_e = P + SMP_MIN_AHEAD; a refusal posts its code. Answers whether it was
accepted. -/
def State.smpCreate (s : State) (src gn mask ramp : Nat) (vals : List Nat) : Bool × State :=
  if s.smpHeld src gn then (false, s.count Reg.SMP_AUTO_HELD.CNT)
  else if s.get Reg.DUE_STS.ROLE = 2 || s.get Reg.DUE_STS.ROLE = 4 || s.due.await then (false, s)
  else
    let line := (s.rowP (gn / 1536) + s.get Reg.SMP_MIN_AHEAD.LINES).toNat
    match s.smpSubmit ⟨line, ramp, mask, gn, src, vals⟩ with
    | (none, s) => (true, s)
    | (some code, s) => (false, s.post (ev code srcSMP none none (s.dataNozzle gn)))

/-! ### Rows (R162, R175) -/

/-- The row of the record that a part belongs to. -/
def Rec.row (r : Rec) : Nat := (if r.main then r.gn else otherNozzle r.gn) / 1536

/-- A row has published line `n` of chain `c`: the records that were due are told, and leave the pending queue. A suppressed line is
not published, so a record whose line it is waits for the row's next published line. -/
def State.smpPassed (s : State) (k c n : Nat) : State :=
  let due := s.smp.recs.filter (fun r => r.pend && r.row = k && (r.chain < c || (r.chain = c && r.line ≤ n)))
  if due = [] then s
  else
    let s := s.each due (fun r s => s.tellRec r)
    let s := { s with smp := { s.smp with
      recs := s.smp.recs.map (fun r => if due.contains r then { r with pend := false } else r) } }
    s.put Reg.SMP_QLEN.LEN (s.get Reg.SMP_QLEN.LEN - (due.filter (·.main)).length)

/-- Whether the records that line `m` of a row needs are in every engine (R157), for one block of the row: its own nozzles and
two columns beyond each end. -/
def State.blockHasRecs (s : State) (nb c m : Nat) : Bool :=
  let lo := 512 * nb
  s.smp.recs.all (fun r => r.delivered || r.gn / 1536 ≠ nb / 3 || r.chain > c || (r.chain = c && m < r.line)
    || r.gn + 2 < lo || lo + 514 ≤ r.gn)

/-- Whether a row is withheld under R173 from a line on. -/
def State.smpWithheld (s : State) (k c m : Nat) : Bool :=
  s.smp.withheld.any (fun (r, ch, line) => r = k && ch = c && line ≤ m)

/-! ### HEALTH (R163 to R165) -/

/-- Change a nozzle's HEALTH in the image. -/
def State.setHealth (s : State) (gn : Nat) (f : List Nat → List Nat) : State := s.putEntry gn (f (s.entry gn))

/-- One sense word folded into a nozzle's HEALTH (R163). -/
def foldSense (shift : Nat) (x : SenseWord) (w : List Nat) : List Nat :=
  if x.flg = 1 then eSet w 5 16 8 (min 255 (eNr w + 16))
  else if x.flg = 2 then eSet w 5 24 8 (min 255 (eAir w + 16))
  else if x.flg = 3 then w
  else
    let w := eSet (eSet w 5 16 8 (eNr w - 1)) 5 24 8 (eAir w - 1)
    let first := eSamples w = 0
    let amp : Int := if first then x.amp * 1024 else (eAmp w : Int) + sar ((x.amp * 1024 : Int) - eAmp w) shift
    let freq : Int := if first then x.freq * 4096 else eFreq w + sar (x.freq * 4096 - eFreq w) shift
    let w := eSet (eSet w 4 16 16 (unsigned 16 amp)) 5 0 16 (unsigned 16 freq)
    eSet w 6 24 8 (min 255 (eSamples w + 1))

/-- The class of a nozzle's HEALTH (R165): 3 MISSING, 4 SUSPECT, 2 DEVIATED, 1 WEAK, 0 clear; none where no condition
holds. -/
def State.healthClass (s : State) (w : List Nat) : Option Nat :=
  let sampled := s.get Reg.SMP_HCFG.MIN_SAMP ≤ eSamples w
  let dw := s.get Reg.SMP_ITHR.DENS_WEAK
  let xl := s.get Reg.SMP_ITHR.XDEV_LIM
  let fd := s.get Reg.SMP_HTHR.FREQ_DEV
  let aw := s.get Reg.SMP_HTHR.AMP_WEAK
  if s.get Reg.SMP_HTHR.NR_MISS ≤ eNr w || s.get Reg.SMP_ITHR.MISS_LIM ≤ eMiss w then some 3
  else if s.get Reg.SMP_HTHR.AIR_SUSP ≤ eAir w then some 4
  else if xl ≤ (eXdev w).natAbs || (sampled && fd * 256 ≤ (eFreq w).natAbs) then some 2
  else if eDens w ≤ -(dw : Int) || (sampled && (eAmp w : Int) < (32 - aw) * 1024) then some 1
  else if 2 * eNr w < s.get Reg.SMP_HTHR.NR_MISS && 2 * eAir w < s.get Reg.SMP_HTHR.AIR_SUSP
      && 2 * eMiss w < s.get Reg.SMP_ITHR.MISS_LIM && 2 * (eXdev w).natAbs < xl && (eFreq w).natAbs < fd * 128
      && 2 * eDens w > -(dw : Int) && 2 * (eAmp w : Int) ≥ (64 - aw) * 1024 then some 0
  else none

/-- The table "Nozzle state transitions" for the classes. -/
def nextHealth (st cls : Nat) : Nat :=
  if cls = 3 then 3
  else if st = 4 then (if cls = 0 then 0 else 4)
  else if st = 2 then (if cls = 1 then 2 else cls)
  else cls

/-- Classify a nozzle (R165): a working nozzle in GOOD, WEAK, DEVIATED or SUSPECT, while CLASSIFY_EN is 1. -/
def State.classify (s : State) (gn : Nat) : State :=
  let w := s.entry gn
  let st := eState w
  if !s.flag Reg.SMP_CTRL.CLASSIFY_EN || !s.populated gn || eRole w ≠ 0 || (st ≠ 0 && st ≠ 1 && st ≠ 2 && st ≠ 4) then s
  else match s.healthClass w with
    | none => s
    | some cls =>
      let st2 := nextHealth st cls
      if st2 = st then s
      else
        let ramp := if st2 = 3 then s.get Reg.SMP_RAMP_MISS.MISS_RAMP
          else if st2 = 0 then s.get Reg.SMP_RAMPS.REC_RAMP else s.get Reg.SMP_RAMPS.DEG_RAMP
        (s.smpCreate 1 gn 1 ramp (eSet w 0 0 3 st2)).2

/-- A row publishes a line that is a multiple of 4,096: its nozzles are classified (R165). -/
def State.classifyRow (s : State) (k m : Nat) : State :=
  if m % 4096 ≠ 0 then s
  else (List.range (s.rowCols k)).foldl (fun s c => s.classify (rowGn k + c)) s

/-- One sense word of a nozzle (R163, R165): used only if the nozzle was its column's printer at the line. -/
def State.sense (s : State) (gn c m : Nat) (x : SenseWord) : State :=
  if !s.populated gn || !s.prints gn c m then s
  else
    let s := (s.setHealth gn (foldSense (s.get Reg.SMP_HCFG.SHIFT) x)).pmcAdd 387
    s.when (x.flg = 1 && s.get Reg.SMP_HTHR.NR_MISS ≤ eNr (s.entry gn)) (·.classify gn)

/-- One inspection delivery for a nozzle (R164): a miss, a density deviation in 1/512 and a landing error in 0.5 µm. -/
def State.deliver (s : State) (gn : Nat) (miss : Bool) (d x : Int) : State :=
  (s.setHealth gn (fun w =>
    let w := eSet w 6 0 8 (if miss then min 255 (eMiss w + 32) else eMiss w - 8)
    let w := eSet w 6 8 8 (unsigned 8 (eDens w + sar (d - eDens w) 2))
    eSet w 6 16 8 (unsigned 8 (eXdev w + sar (x - eXdev w) 2)))).pmcAdd 388

/-- Whether a delivery for a nozzle falls into the settling time of a record (R164). -/
def State.settling (s : State) (gn c first last : Nat) : Bool :=
  s.smp.settle.any (fun (g, ch, a, b) => g = gn && ch = c && first ≤ b && a ≤ last)

end Sys2Proof.Machine
end

