-- ==== Sys2Proof/Machine/Lines.lean ====
section
/-! DEFINITION. Chains, their rows and their published lines (chapters 02 and 03): due positions, updates, and what becomes of
a line. -/

namespace Sys2Proof.Machine

/-! ### Chains -/

def State.setJobs (s : State) (f : JobSt → JobSt) : State := { s with job := f s.job }
def State.setTb (s : State) (f : TbSt → TbSt) : State := { s with tb := f s.tb }
def State.setDue (s : State) (f : DueSt → DueSt) : State := { s with due := f s.due }
def State.setSmp (s : State) (f : SmpSt → SmpSt) : State := { s with smp := f s.smp }
def State.setEng (s : State) (f : EngSt → EngSt) : State := { s with eng := f s.eng }

def State.chain? (s : State) (c : Nat) : Option Chain := s.job.chains.find? (·.id = c)
def State.setChain (s : State) (c : Nat) (f : Chain → Chain) : State :=
  s.setJobs (fun j => { j with chains := j.chains.map (fun x => if x.id = c then f x else x) })

/-- A chain is in flight from its start, and a GAP chain from its acceptance (R90, R93). -/
def Chain.inFlight (c : Chain) : Bool := c.started || c.gap

/-- The chains in flight, the outgoing one first: none while the first chain waits to start. -/
def State.flying (s : State) : List Chain :=
  match s.job.chains with
  | [] => []
  | c :: cs => if c.inFlight then c :: cs.filter Chain.inFlight else []

/-- The context the registers show: the outgoing one's (R90). -/
def State.shownChain (s : State) : Option Chain := s.flying.head?

/-- The context that updates apply to: the incoming one while two exist (R90, R111, R125). -/
def State.updChain (s : State) : Option Chain := s.flying.getLast?

def Chain.bar (c : Chain) (b : Nat) : BarCtx := (c.bars.lookup b).getD {}
def Chain.row? (c : Chain) (k : Nat) : Option GeoRow := c.geo.find? (·.k = k)
def Chain.rows (c : Chain) : List Nat := c.geo.map (·.k)

/-- The rows of a chain that publish its lines now. -/
def State.rowsIn (s : State) (c : Chain) : List Nat := c.rows.filter (fun k => (s.rowSt k).chain = some c.id)

/-- TRK_ROW_NEXT. -/
def State.rowNext (s : State) (k : Nat) : Nat := s.get64 (Reg.TRK_ROW_NEXT.PAIR k)

/-- Whether a row has passed line `n` of a chain: published, skipped or suppressed it, or left the chain. -/
def State.rowPassed (s : State) (c : Chain) (k n : Nat) : Bool :=
  c.id ≤ (s.rowSt k).past || ((s.rowSt k).chain = some c.id && n < s.rowNext k)

/-- How many lines of a chain a row has passed: all of them once it has left the chain. -/
def State.rowReach (s : State) (c : Chain) (k : Nat) : Nat :=
  if c.id ≤ (s.rowSt k).past then c.total.getD 0
  else if (s.rowSt k).chain = some c.id then s.rowNext k
  else 0

/-- The line after the highest that any row of a chain has passed: NEXT_UP of R86. -/
def State.readyFrom (s : State) (c : Chain) : Nat := (c.rows.map (s.rowReach c)).foldl max 0

/-- How far a row has published a chain's lines: one past the highest of them. -/
def State.rowShown (s : State) (c : Chain) (k : Nat) : Nat :=
  if c.id ≤ (s.rowSt k).past then c.total.getD 0
  else if (s.rowSt k).chain = some c.id then ((s.rowSt k).pubHi.map (· + 1)).getD 0
  else 0

/-- JOB_STS.CHAINS. -/
def State.showChains (s : State) : State := s.put Reg.JOB_STS.CHAINS (min 3 s.flying.length)

/-! ### Due positions (R53 to R55) -/

def insertUpd (u : BarUpd) : List BarUpd → List BarUpd
  | [] => [u]
  | x :: xs => if x.line ≤ u.line then x :: insertUpd u xs else u :: x :: xs

/-- The updates of a bar up to a line, in rising line order, a later one after an earlier one of the same line. -/
def updsTo (q : List (Nat × BarUpd)) (b n : Nat) : List BarUpd :=
  ((q.filter (fun e => e.1 = b && e.2.line ≤ n)).map (·.2)).foldl (fun l u => insertUpd u l) []

/-- The rebasing of R55: K, and the bar's anchor, stretch and offset. -/
def rebase (pitch : Nat) (x : Int × BarCtx) (u : BarUpd) : Int × BarCtx :=
  (x.1 + sar (((u.line : Int) - x.2.aline) * pitch * x.2.s) 30, { x.2 with aline := u.line, s := u.s, b := u.b })

/-- The due position D_j(n) of a row's line (R54), in Q48.16. -/
def State.duePos (s : State) (c : Chain) (g : GeoRow) (n : Nat) : Int :=
  let (k, x) := (updsTo c.barQ g.bar n).foldl (rebase g.pitch) ((s.rowSt g.k).kconst, c.bar g.bar)
  c.origin + sar (k + sar (((n : Int) - x.aline) * g.pitch * x.s) 30) 16 + x.b

/-- The cross-web values of a bar at a line (R111). -/
def Chain.xwebAt (c : Chain) (b n : Nat) : Nat × Int :=
  let best := (c.xQ.filter (fun e => e.1 = b && e.2.line ≤ n)).foldl
    (fun (acc : Option XUpd) e => match acc with
      | none => some e.2
      | some x => if x.line ≤ e.2.line then some e.2 else acc) none
  match best with
  | some u => (u.sx, u.bx)
  | none => ((c.bar b).sx, (c.bar b).bx)

/-- The trim temperature of a port at a line of a chain (R125). -/
def State.trimTempAt (s : State) (c p n : Nat) : Int :=
  match s.job.tupd.find? (fun u => u.port = p && u.chain ≤ c && (u.chain < c || u.line ≤ n)) with
  | some u => u.temp
  | none => s.getI (Reg.FAB_TTEMP.TEMP p)

/-! ### Updates that rows have passed -/

/-- How many lines of a chain the first row of a bar has passed. -/
def State.barReach (s : State) (c : Chain) (b : Nat) : Nat :=
  ((c.geo.filter (fun g => g.bar = b)).map (fun g => s.rowReach c g.k)).foldl max 0

/-- Show a bar's values in force in the registers: those of the first row to reach an update's line (R55, R111). -/
def State.showBar (s : State) (b : Nat) : State :=
  match s.shownChain with
  | none => s
  | some c =>
    let hi := s.barReach c b
    if hi = 0 then s
    else
      let (_, x) := (updsTo c.barQ b (hi - 1)).foldl (rebase 0) (0, c.bar b)
      let (sx, bx) := c.xwebAt b (hi - 1)
      let s := (((s.put (Reg.TRK_BAR_S.VAL b) x.s).putI (Reg.TRK_BAR_B.VAL b) x.b).put64 (Reg.TRK_BAR_ALINE.PAIR b) x.aline)
      (s.put (Reg.FAB_BAR_SX.VAL b) sx).putI (Reg.FAB_BAR_BX.VAL b) bx

/-- The stretch in force of a bar in one chain (R95): ST_WINDOW_STRETCH once a chain. -/
def State.stretchTest (s : State) (c : Chain) (b : Nat) : State :=
  let hi := s.barReach c b
  let (_, x) := (updsTo c.barQ b (hi - 1)).foldl (rebase 0) (0, c.bar b)
  if hi = 0 || c.stretch || ((x.s : Int) - 2 ^ 30).natAbs ≤ 2 ^ 24 then s
  else ((s.setChain c.id ({ · with stretch := true })).put Reg.JOB_STS.STRETCH 1).post
    (ev Code.ST_WINDOW_STRETCH srcJOB none none (dataBar b))

/-- The QLEN and PEND fields for the bars and the port that the CTRL registers name. -/
def State.showQueues (s : State) : State :=
  let (bq, xq) := match s.updChain with
    | some c => (c.barQ, c.xQ)
    | none => (s.job.preBarQ, s.job.preXQ)
  let n := (bq.filter (fun e => e.1 = s.get Reg.TRK_BUPD_CTRL.BAR)).length
  let m := (xq.filter (fun e => e.1 = s.get Reg.FAB_XUPD_CTRL.BAR)).length
  let s := (s.put Reg.TRK_BUPD_CTRL.QLEN n).putB Reg.TRK_BUPD_CTRL.PEND (n ≠ 0)
  let s := (s.put Reg.FAB_XUPD_CTRL.QLEN m).putB Reg.FAB_XUPD_CTRL.PEND (m ≠ 0)
  s.putB Reg.FAB_TUPD_CTRL.PEND (s.job.tupd.any (fun u => u.port = s.get Reg.FAB_TUPD_CTRL.PORT))

/-- The bar updates of a chain that every row of the bar has passed enter its base values, and leave the queue. -/
def State.foldBar (s : State) (c : Chain) (b : Nat) : State :=
  let rows := c.geo.filter (fun g => g.bar = b)
  let passed := fun (line : Nat) => rows.all (fun g => s.rowPassed c g.k line)
  let ups := (updsTo c.barQ b (2 ^ 64)).filter (fun u => passed u.line)
  let xs := c.xQ.filter (fun e => e.1 = b && passed e.2.line)
  if rows = [] || (ups = [] && xs = []) then s
  else
    let base := c.bar b
    let s := s.each (rows.filter (fun g => (s.rowSt g.k).chain = some c.id)) (fun g s => s.setRow g.k (fun r => { r with
      kconst := (ups.foldl (rebase g.pitch) (r.kconst, base)).1 }))
    let after := (ups.foldl (rebase 0) (0, base)).2
    let (sx, bx) := { c with xQ := xs }.xwebAt b (2 ^ 64)
    s.setChain c.id (fun c => { c with
      bars := Sparse.insert b { after with sx := sx, bx := bx } c.bars,
      barQ := c.barQ.filter (fun e => !(e.1 = b && passed e.2.line)),
      xQ := c.xQ.filter (fun e => !(e.1 = b && passed e.2.line)) })

/-- Trim-temperature updates that every enabled row of the port has published leave the queue (R125). -/
def State.foldTrims (s : State) : State :=
  s.each s.job.tupd (fun u s =>
    match s.chain? u.chain with
    | none => s
    | some c =>
      let rows := c.rows.filter (fun k => k / 16 = u.port)
      if rows.all (fun k => s.rowPassed c k u.line) then
        (s.putI (Reg.FAB_TTEMP.TEMP u.port) u.temp).setJobs (fun j => { j with tupd := j.tupd.filter (· ≠ u) })
      else s)

/-- Rows of a chain have moved on: its updates that are due take their place. -/
def State.foldUpdates (s : State) (c : Nat) : State :=
  match s.chain? c with
  | none => s
  | some ch =>
    let bars := (ch.geo.map (·.bar)).eraseDups
    let s := s.each bars (fun b s => s.showBar b)
    let s := s.each bars (fun b s => match s.chain? c with
      | some ch => (s.stretchTest ch b).foldBar ch b
      | none => s)
    s.foldTrims.showQueues

/-! ### The Duet's digests (R328) and packets (R249) -/

/-- Whether the Duet link is UP (R248). -/
def State.duetUp (s : State) : Bool := s.get (Reg.L_STS.LINK_STATE 240) = 8

/-- B0 of a CHAN packet, beside its SOP (R249). -/
def duetHead (ch seq : Nat) : Nat := ch + seq * 2 ^ 16

/-- Send a CHAN packet on the Duet link (R249, R252); an order is kept until it is acknowledged or sent again (R321). -/
def State.duetSend (s : State) (ch : Nat) (payload : List Nat) : State :=
  if !s.duetUp then s
  else
    let seq := (s.due.seqTx.lookup ch).getD 0
    (s.setDue (fun d => { d with
      seqTx := Sparse.insert ch ((seq + 1) % 2 ^ 32) d.seqTx,
      kept := if ch = 2 then d.kept ++ [(ch, seq, payload, [])] else d.kept })).peerPut 0 ⟨2 + ch, 3, duetHead ch seq :: payload, none⟩

/-- SEQ of a row-line (R202). -/
def lineSeq (k m : Nat) : Nat := m % 2 ^ 28 * 16 + k % 16

/-- The primary's digest of one row-line (R328). -/
def State.digest (s : State) (k m crc : Nat) (nosend : Bool) : State :=
  if s.get Reg.DUE_STS.ROLE ≠ 1 then s
  else s.duetSend 4 [k / 16 + 2 ^ 8 + nosend.toNat * 2 ^ 32, lineSeq k m + crc * 2 ^ 32]

/-! ### What becomes of a line (R67 to R71) -/

/-- DATA_ADDR of a row at a published line: with the bar in force at that line (R28). -/
def State.dataLine (s : State) (k m : Nat) : Nat :=
  match s.job.lines.find? (fun l => l.row = k && l.line = m) with
  | some l => dataRowOf k l.bar
  | none => s.dataRow k

def State.add64 (s : State) (p : Pair) (n : Nat) : State := s.put64 p (s.get64 p + n)

/-- One more lost line of a row in an ink bar (R28): the first after a clean line posts its record (R71). -/
def State.rowLost (s : State) (k bar m status cause src : Nat) : State :=
  match (s.rowSt k).lost with
  | none =>
    (s.setRow k ({ · with lost := some (1, m) })).post (ev status src cause m (dataRowOf k bar))
  | some (n, l) => s.setRow k ({ · with lost := some (min (n + 1) (2 ^ 32 - 1), max l m) })

/-- A clean line of a row: it ends a run of lost lines (R71). -/
def State.rowClean (s : State) (k bar m : Nat) : State :=
  match (s.rowSt k).lost with
  | none => s
  | some (n, l) =>
    if m < l then s
    else (s.setRow k ({ · with lost := none })).post (ev Code.ST_LATE_CLEAR srcTRK n m (dataRowOf k bar))

/-- A row-line that a port does not send (HP_LATE). -/
def State.unsent (s : State) (k : Nat) : State := (s.count (Reg.HP_CNT.CNT (k / 16) 1)).pmcAdd (224 + k / 16)

/-- Drop a published line from those that wait; a standby's digest of it is used up. -/
def State.dropLine (s : State) (c k m : Nat) : State :=
  (s.setDue (fun d => { d with
    digests := d.digests.filter (fun x => !(x.port = k / 16 && x.seq = lineSeq k m)) })).setJobs (fun j => { j with lines := j.lines.filter (fun l => !(l.chain = c && l.row = k && l.line = m)) })

/-- Whether a block of a line waits for its contone segments (R107). -/
def Blk.tileLate (b : Blk) : Bool := b.words = none && b.issued.isSome && !b.present && b.cause = none

/-- The engines' share of a late line: SE_LATE for each of its segments, and SE_TILE_LATE once an engine where segments were missing
(R107, R139). -/
def State.engineLate (s : State) (l : PLine) : State :=
  let s := s.each ((l.blocks.filter (fun b => b.words = none)).filterMap (·.engine)) (fun n s =>
    (s.count (Reg.SE_LATE.CNT n)).pmcAdd (64 + n))
  s.each (((l.blocks.filter Blk.tileLate).filterMap (·.engine)).eraseDups) (fun n s => s.count (Reg.SE_TILE_LATE.CNT n))

/-- The cause for which a block of an incomplete line is missing. -/
def State.blockCause (s : State) (b : Blk) : Nat :=
  match b.cause, b.engine with
  | some c, _ => c
  | none, none => Code.ST_SE_OUT
  | none, some n =>
    if s.engineOut n then Code.ST_SE_OUT else if b.tileLate then Code.ST_SE_TILE_LATE else Code.ST_LATE_WORK

/-- Whether the table of late line sources attributes a cause to an engine (R71). -/
def engineCause (c : Nat) : Bool :=
  [Code.ST_SE_TILE_LATE, Code.ST_SE_WITHHELD, Code.ST_SE_OUT, Code.ST_SMP_LATE, Code.ST_SRAM_UE, Code.ST_LATE_WORK].contains c

/-- The cause of a late line whose packet is incomplete, and its source (R71, R145): a mismatched segment's first, else that of the
lowest-numbered engine concerned; an engine's cause is attributed to the lowest-numbered engine it concerns, or to the fabric, and
every other to the row's head port. -/
def State.lateCause (s : State) (l : PLine) : Nat × Nat :=
  let bad := (l.blocks.filter (fun b => b.words = none)).map (fun b => (b.engine.getD 64, s.blockCause b))
  let lowest := fun (bs : List (Nat × Nat)) => (bs.map (·.1)).foldl min 64
  let cause :=
    if bad.any (fun b => b.2 = Code.ST_SE_WITHHELD) then Code.ST_SE_WITHHELD
    else ((bad.find? (fun b => b.1 = lowest bad)).map (·.2)).getD Code.ST_LATE_WORK
  let n := lowest (bad.filter (fun b => b.2 = cause))
  (cause, if !engineCause cause then srcHP (l.row / 16) else if n < 64 then srcSE n else srcFAB)

/-- A row-line that does not print voids the marks of a batch (R302). -/
def State.calLost (s : State) (k c m : Nat) : State :=
  if s.cal.batches = [] then s else { s with cal := { s.cal with lost := (k, c, m) :: s.cal.lost } }

/-- A published line that is not sent (R67, R71). -/
def State.lineLate (s : State) (l : PLine) (cause src : Nat) : State :=
  let s := ((s.dropLine l.chain l.row l.line).calLost l.row l.chain l.line).engineLate l
  let s := ((s.add64 Reg.TRK_LATE.PAIR 1).pmcAdd 379).unsent l.row
  (s.rowLost l.row l.bar l.line Code.ST_LATE_WORK cause src).digest l.row l.line 0 true

/-- A line skipped at publication (R68, R71). HP_LATE does not count a line of an unpopulated row (R24). -/
def State.lineSkipped (s : State) (k bar m cause : Nat) : State :=
  let src := if cause = Code.ST_BAND_MISSED then srcJOB else srcTRK
  let s := ((s.add64 Reg.TRK_LATE.PAIR 1).pmcAdd 380).when (s.rowCols k ≠ 0) (·.unsent k)
  let s := s.when (cause = Code.ST_BAND_MISSED) (·.count Reg.JOB_BAND_MISS.CNT)
  let s := s.calLost k ((s.rowSt k).chain.getD 0) m
  (s.rowLost k bar m cause cause src).digest k m 0 true

/-- Suppressed lines (R69). -/
def State.suppressed (s : State) (n : Nat) : State := (s.add64 Reg.TRK_SUPP.PAIR n).pmcAdd 381 n

/-- Withdraw the published lines that satisfy `p` and whose packets have not begun transmission. -/
def State.withdraw (s : State) (p : PLine → Bool) : State :=
  let n := (s.job.lines.filter p).length
  let s := s.each (s.job.lines.filter p) (fun l s => s.calLost l.row l.chain l.line)
  (s.setJobs (fun j => { j with lines := j.lines.filter (fun l => !p l) })).suppressed n

/-- The line packet on a port's link, while it is on it. -/
def State.inFlight (s : State) (p : Nat) : Option PLine :=
  match (s.port p).onLink with
  | some (l, t) => if s.now * 100 < t then some l else none
  | none => none

/-- FLUSH on a port (R212): sent in data mode, at once, after which what was on the link has ended; and the port's queued lines are
withdrawn. -/
def State.flushPort (p : Nat) (s : State) : State :=
  let s := match s.inFlight p with
    | some l => ((s.calLost l.row l.chain l.line).txCut p).setPort p ({ · with onLink := none })
    | none => s
  (s.when (s.dataMode p) (·.sendBlocks p [.flush 0xFFFF])).withdraw (fun l => l.row / 16 = p)

/-! ### Jobs -/

def State.setJob (s : State) (id : Nat) (f : Job → Job) : State :=
  s.setJobs (fun j => { j with jobs := j.jobs.map (fun x => if x.id = id then f x else x) })

/-- The job that holds a line of a chain. -/
def State.jobAt (s : State) (c m : Nat) : Option Job :=
  s.job.jobs.find? (fun j => j.chain = c && j.z ≤ m && (match j.total with
    | some t => m < j.z + t
    | none => true))

/-- Whether a job has left: all its pages have completed. Its chain keeps it until it ends, as a predecessor and for R86. -/
def Job.left (j : Job) : Bool := j.total.isSome && j.pages = []

/-- The page of a job that holds a chain line. -/
def Job.pageAt (j : Job) (m : Nat) : Option Page :=
  j.pages.find? (fun p => p.first ≤ m && m < p.first + p.lines)

/-- Whether line `n` of a chain, and every earlier one, is settled on every row. -/
def State.settledTo (s : State) (c : Chain) (n : Nat) : Bool :=
  c.rows.all (fun k => s.rowPassed c k n) && s.job.lines.all (fun l => !(l.chain = c.id && l.line ≤ n))

/-- Stop the band streams of a page, and free their channels (R87, R380). -/
def State.stopBands (s : State) (p : Page) : State :=
  s.each p.bands (fun b s => match b.st with
    | .running ch => s.put Reg.ZIP_STS.PAGE_BUSY (putBit (s.get Reg.ZIP_STS.PAGE_BUSY) ch false)
    | _ => s)

/-- Pages whose last line is settled on every row complete (R85). DESIGN CHOICE: a band stream of such a page that still runs is
missed, serves nothing, and stops. -/
def State.pagesDone (s : State) : State :=
  s.each s.job.jobs (fun j s =>
    match s.chain? j.chain with
    | none => s
    | some c =>
      let done := j.pages.filter (fun p => s.settledTo c (p.first + p.lines - 1))
      if done = [] then s
      else
        let s := s.setJob j.id (fun j => { j with
          pages := j.pages.filter (fun p => !done.contains p),
          done := j.done ++ done.map (fun p => (p.no, p.first, p.lines)) })
        s.each done (fun p s =>
          (s.stopBands p).complete p.ring p.index (if p.missed then Code.ST_BAND_MISSED else Code.ST_OK)))

/-- Whether a row still has to switch to a job's bank (R92): a row of the job that has its first line before it, or a row that has
not left an earlier chain. -/
def State.jobSwitching (s : State) (j : Job) : Bool :=
  match s.chain? j.chain with
  | none => false
  | some c => c.rows.any (fun k => !s.rowPassed c k j.z)
      || s.flying.any (fun e => e.id < c.id && e.rows.any (fun k => (s.rowSt k).past < e.id))

/-- The shadow banks are free once every row of the job has switched (R92). Those of a job that ended by abort stay the shadow
banks: a preload in progress is given up, and a valid set stays in them. -/
def State.freeShadow (s : State) : State :=
  match s.job.busyFor with
  | none => s
  | some id =>
    match s.job.jobs.find? (·.id = id) with
    | none =>
      let stopped : Bool := match s.job.lastSet with
        | some (_, _, _, .loading) => true
        | _ => false
      let s := (s.setJobs (fun q => { q with busyFor := none, lastSet := if stopped then none else q.lastSet })).put
        Reg.JOB_STS.SHADOW_BUSY 0
      s.when stopped (fun s => s.each (List.range 64) (fun n s => s.put (Reg.SE_STS.SHADOW n) 0))
    | some j =>
      if s.jobSwitching j then s
      else
        let s := (s.setJobs ({ · with busyFor := none })).put Reg.JOB_STS.SHADOW_BUSY 0
        s.each (List.range 64) (fun n s =>
          (s.put (Reg.SE_STS.BANK n) (1 - s.get (Reg.SE_STS.BANK n))).put (Reg.SE_STS.SHADOW n) 0)

/-! ### The end of a chain (R76, R96, R97) -/

/-- Load one row's geometry into the TRK row table. -/
def State.loadRow (s : State) (g : GeoRow) : State :=
  let s := (s.put64 (Reg.TRK_ROW_POS.PAIR g.k) g.pos).put64 (Reg.TRK_ROW_PITCH.PAIR g.k) g.pitch
  ((s.put (Reg.TRK_ROW_TOFS.VAL g.k) g.tofs).put (Reg.TRK_ROW_CFG.BAR g.k) g.bar).put (Reg.TRK_ROW_CFG.EN g.k) 1

/-- Load a geometry table into the TRK row table (R78): every row slot at once. -/
def State.loadGeo (s : State) (geo : List GeoRow) : State :=
  let s := s.each (s.enabledRows.filter (fun k => geo.all (fun g => g.k ≠ k))) (fun k s => s.put (Reg.TRK_ROW_CFG.EN k) 0)
  s.each geo (fun g s => s.loadRow g)

/-- The registers show a chain's context: its reference row, lead, tick, origin and reference line (R90). -/
def State.showContext (s : State) (c : Chain) : State :=
  let s := (s.put Reg.TRK_REF.REF_ROW c.refRow).put Reg.TRK_CFG.LEAD c.lead
  let s := (s.put Reg.TRK_TICK.TICK c.tick).put64 Reg.TRK_REFLINE.PAIR (c.refLine.getD 0)
  let s := s.putI64 Reg.TRK_ORIGIN.PAIR c.origin
  let s := s.each (c.bars) (fun e s =>
    let s := (s.put (Reg.TRK_BAR_S.VAL e.1) e.2.s).putI (Reg.TRK_BAR_B.VAL e.1) e.2.b
    ((s.put64 (Reg.TRK_BAR_ALINE.PAIR e.1) e.2.aline).put (Reg.FAB_BAR_SX.VAL e.1) e.2.sx).putI (Reg.FAB_BAR_BX.VAL e.1) e.2.bx)
  s.each ((c.geo.map (·.bar)).eraseDups) (fun b s => s.showBar b)

/-- The updates still queued for a chain are discarded (R97). -/
def State.dropUpdates (s : State) (c : Chain) : State :=
  let s := s.each c.barQ (fun e s => s.post (ev Code.ST_UPD_DROPPED srcJOB (some 1) e.2.line (dataBar e.1)))
  let s := s.each c.xQ (fun e s => s.post (ev Code.ST_UPD_DROPPED srcJOB (some 2) e.2.line (dataBar e.1)))
  let mine := s.job.tupd.filter (fun u => u.chain = c.id)
  let s := s.each mine (fun u s => s.post (ev Code.ST_UPD_DROPPED srcJOB (some 3) u.line (s.dataPort u.port)))
  s.setJobs (fun j => { j with tupd := j.tupd.filter (fun u => u.chain ≠ c.id) })

/-- NB_max over some rows (R134). -/
def nbMax (engines : List Nat) : Nat :=
  ((List.range 64).map (fun n => (engines.filter (· = n)).length)).foldl max 0

/-- f_ceil at a clock (R134): 250,000 while no block is assigned. -/
def fCeil (mhz nb : Nat) : Nat := if nb = 0 then 250000 else min 250000 (mhz * 1000000 / (128 * nb))

/-- The engine clock in force, in MHz. -/
def State.engMHz (s : State) : Nat := s.get Reg.PWR_CLK.ENG_MHZ

/-- The engines of the assigned blocks of some rows, one entry a block. -/
def State.rowEngines (s : State) (rows : List Nat) : List Nat :=
  rows.flatMap (fun k => [0, 1, 2].filterMap (fun i => s.blockEngine (3 * k + i)))

/-- The rows of the jobs in flight or accepted. -/
def State.jobRows (s : State) : List Nat := (s.job.chains.flatMap Chain.rows).eraseDups

/-- FAB_CEIL, NB_MAX and each engine's blocks and rows follow the map, the jobs and the clock (R134, R135). -/
def State.refreshFab (s : State) : State :=
  let rows := s.jobRows
  let es := s.rowEngines rows
  let s := (s.put Reg.FAB_STS.NB_MAX (nbMax es)).put Reg.FAB_CEIL.LINE_CEIL (fCeil s.engMHz (nbMax es))
  s.each (List.range 64) (fun n s =>
    let mine := rows.filter (fun k => (s.rowEngines [k]).contains n)
    let s := (s.put (Reg.SE_STS.NB_CNT n) (es.filter (· = n)).length).put (Reg.SE_STS.ROWS n) mine.length
    if 2 ≤ s.get (Reg.SE_STS.STATE n) then s else s.putB (Reg.SE_STS.STATE n) (mine ≠ []))

/-- A job is in print from the first row's passing of its first line: JOB_STS and JOB_ZBASE show the newest (R101). A SEAMLESS job's
reference row and lead take force there (DEDUCED: R78 loads them, R90 holds them in the context). -/
def State.enterJob (s : State) (c id : Nat) : State :=
  match s.job.jobs.find? (·.id = id) with
  | none => s
  | some j =>
    let s := s.setChain c (fun x => { x with refRow := j.refRow, lead := j.lead })
    let s := s.when (s.shownChain.map (·.id) = some c)
      (fun s => (s.put Reg.TRK_REF.REF_ROW j.refRow).put Reg.TRK_CFG.LEAD j.lead)
    (s.put Reg.JOB_STS.CUR_ID j.id).put64 Reg.JOB_ZBASE.PAIR j.z

/-- A chain leaves the device: its updates are discarded, its records are in force, and nothing is held for it. -/
def State.dropChain (s : State) (c : Chain) : State :=
  let s := s.freeShadow.dropUpdates c
  let s := s.each (s.rowsIn c) (fun k s => s.setRow k ({ · with chain := none, past := c.id, pubs := 0 }))
  let s := s.setJobs (fun j => { j with
    chains := j.chains.filter (·.id ≠ c.id), jobs := j.jobs.filter (fun x => x.chain ≠ c.id),
    lines := j.lines.filter (fun l => l.chain ≠ c.id) })
  let s := s.foldRecs c.id
  let s := { s with ins := { s.ins with
    vols := s.ins.vols.filter (fun e => e.chain ≠ c.id), active := s.ins.active.filter (· ≠ c.id),
    effB := s.ins.effB.filter (fun e => e.2.1 ≠ c.id), effX := s.ins.effX.filter (fun e => e.2.1 ≠ c.id) } }
  let s := s.setSmp (fun m => { m with
    settle := m.settle.filter (fun e => e.2.1 ≠ c.id), withheld := m.withheld.filter (fun e => e.2.1 ≠ c.id) })
  let s := s.setDue (fun d => { d with withheld := d.withheld.filter (fun e => e.2.1 ≠ c.id) })
  { s with cal := { s.cal with withheld := s.cal.withheld.filter (fun e => e.2.1 ≠ c.id) } }

/-- The registers show the context that is shown now, if there is one. -/
def State.showShown (s : State) : State :=
  match s.shownChain with
  | some n => (s.putB Reg.INS_STS.ACTIVE (s.ins.active.contains n.id)).showContext n
  | none => s.put Reg.INS_STS.ACTIVE 0

/-- A chain that waits for its start at the head loads its geometry. -/
def State.loadWaiting (s : State) : State :=
  match s.job.chains.head? with
  | some n => if n.inFlight then s else s.loadGeo n.geo
  | none => s

/-- A chain ends (R76, R97), and the next context is shown. -/
def State.finishChain (s : State) (c : Chain) : State :=
  let s := (s.dropChain c).freeShadow.showChains.refreshFab
  ((s.when (s.flying = []) (·.setDue ({ · with digests := [] }))).showShown.loadWaiting).showQueues

/-- The fire time of the last line that a row published in a chain. -/
def State.lastFire (s : State) (c : Chain) (k : Nat) : Option Nat :=
  let r := s.rowSt k
  if r.chain = some c.id then r.lastTf else r.rampTf

/-- Whether a SEAMLESS job is held that is to follow in the last chain (R93). -/
def State.heldNext (s : State) (c : Chain) : Bool :=
  s.job.held.any (fun h => h.1 = 1) && s.job.chains.getLast?.map (·.id) = some c.id

/-- Whether a chain's last line has been fired, skipped or suppressed on every row (R76). -/
def State.chainDone (s : State) (c : Chain) : Bool :=
  match c.total with
  | none => false
  | some t => c.started && (t = 0 || s.settledTo c (t - 1))
      && c.rows.all (fun k => match s.lastFire c k with
        | some tf => tf ≤ s.now
        | none => true)
      && !s.heldNext c

/-- Every band stream in progress stops (R380). -/
def State.stopAllBands (s : State) : State := s.each s.job.jobs (fun j s => s.each j.pages (fun p s => s.stopBands p))

/-- An abort of the job/page ring ends every chain in flight (R96): lines withdrawn, band streams stopped, and every job and page
descriptor not yet completed completed with ST_ABORTED. -/
def State.abortChains (s : State) : State :=
  let s := (s.withdraw (fun _ => true)).stopAllBands
  let s := s.each s.flying (fun c s => s.finishChain c)
  let s := s.setJobs (fun j => { j with chains := [], jobs := [], held := none })
  let s := s.freeShadow.showChains.refreshFab
  let s := s.put Reg.JOB_STS.HELD 0
  s.each (s.liveRings.filter (fun r => s.ringType r = 1)) (fun r s =>
    s.each ((s.ring r).flight.map (·.index)) (fun i s => s.completeAborted r i))

/-- The descriptors in flight on the job/page rings that belong to a job: its own, and its pages'. -/
def State.jobDescs (s : State) (j : Job) : List (Nat × Nat) :=
  j.desc.toList ++ (s.liveRings.filter (fun r => s.ringType r = 1)).flatMap (fun r =>
    ((s.ring r).flight.filter (fun d => d.kind = 2 && d.at_ 16 2 = j.id)).map (fun d => (r, d.index)))

/-- The device leaves M9 (R98): calibration jobs whose chain has not started complete, with their pages, with ST_ABORTED. -/
def State.dropCalJobs (s : State) : State :=
  let cs := (s.job.chains.filter (fun c => c.cal && !c.started)).map (·.id)
  if cs = [] then s
  else
    let s := s.each (s.job.jobs.filter (fun j => cs.contains j.chain)) (fun j s =>
      s.each (s.jobDescs j) (fun d s => s.complete d.1 d.2 Code.ST_ABORTED))
    let s := s.setJobs (fun q => { q with
      chains := q.chains.filter (fun c => !cs.contains c.id), jobs := q.jobs.filter (fun j => !cs.contains j.chain),
      tupd := q.tupd.map (fun u => if cs.contains u.chain then { u with chain := q.nextChain } else u) })
    s.freeShadow.showChains.refreshFab

end Sys2Proof.Machine
end

