-- ==== Sys2Proof/Machine/CamBase.lean ====
section
/-! DEFINITION. A camera port's place in a chain (R264, R267): what its triggers and frames count. -/

namespace Sys2Proof.Machine

/-- The chain that a row takes after a given one: the next in flight whose origin is latched (R90). -/
def State.nextCtx (s : State) (c : Nat) : Option Chain := s.flying.find? (fun d => c < d.id && d.started)

/-- The reference pitch of a context. -/
def Chain.refPitch (c : Chain) : Nat := ((c.row? c.refRow).map (·.pitch)).getD 0

def State.cam (s : State) (p : Nat) : CamSt := Sparse.get (fun _ => {}) s.cams p
def State.setCam (s : State) (p : Nat) (f : CamSt → CamSt) : State :=
  { s with cams := Sparse.insert p (f (s.cam p)) s.cams }

/-- G: chain lines per camera line. -/
def State.lineGroup (s : State) : Nat := s.get Reg.INS_CFG.LGROUP_M1 + 1

/-- The due position of a camera line (R264). -/
def State.camDue (s : State) (p : Nat) (c : Chain) (q : Nat) : Int :=
  let pitch := ((c.row? c.refRow).map (·.pitch)).getD 0
  c.origin + sar (s.getI64 (Reg.CAM_P_POS.PAIR p) + q * s.lineGroup * pitch) 16

/-- The chain and camera line that a port publishes next (R267). -/
def State.camNext (s : State) (p : Nat) : Option (Chain × Nat) :=
  let first := s.flying.find? (·.started)
  match (s.cam p).next with
  | none => first.map (fun c => (c, 0))
  | some (id, q) =>
    match s.chain? id with
    | none => (s.flying.find? (fun c => c.started && id < c.id)).map (fun c => (c, 0))
    | some c =>
      match c.total with
      | some t => if t ≤ q * s.lineGroup then (s.nextCtx id).map (fun d => (d, 0)) else some (c, q)
      | none => some (c, q)

end Sys2Proof.Machine
end

