-- ==== Sys2Proof/Machine/InsOps.lean ====
section
/-! DEFINITION. Inspection's prediction ring at a chain's start (R278) and the pixel budget of the camera ports (R275). -/

namespace Sys2Proof.Machine

def State.setIns (s : State) (f : InsSt → InsSt) : State := { s with ins := f s.ins }

/-- A value below `2 ^ w` that the spec leaves open, the `i`-th of one draw. -/
def State.openAt (s : State) (w i : Nat) : Nat := Config.freeAt s.free i % 2 ^ w

/-! ### The prediction ring (R278) -/

/-- COLS_b: the printer columns of a bar's rows in a geometry, a row pair of a port giving as many as its longer row. -/
def State.barCols (s : State) (geo : List GeoRow) (b : Nat) : Nat :=
  let pairs := ((geo.filter (·.bar = b)).map (·.k / 2)).eraseDups
  (pairs.map (fun u => max (s.rowCols (2 * u)) (s.rowCols (2 * u + 1)))).sum

/-- DIST_b: print lines from the bar's first row to its last camera. -/
def State.barDist (s : State) (c : Chain) (b : Nat) : Nat :=
  let ycs := (bitList 8 (s.get (Reg.INS_BAR_CFG.CAMMASK b))).map (fun p => s.getI64 (Reg.CAM_P_POS.PAIR p))
  let ys := (c.geo.filter (·.bar = b)).map (fun g => signed 64 g.pos)
  match ycs, ys with
  | y :: ycs, z :: zs => (-((zs.foldl min z - ycs.foldl max y).fdiv (max 1 c.refPitch : Nat))).toNat
  | _, _ => 0

/-- DEPTH_b, in camera lines. -/
def State.barDepth (s : State) (dist : Nat) : Nat := ceilDiv dist s.lineGroup + 4160

/-- The bars that inspection compares. -/
def State.insBars (s : State) : List Nat := (List.range 16).filter (fun b => s.flag (Reg.INS_BAR_CFG.EN b))

/-- Whether the compare runs in the chain in force. -/
def State.showActive (s : State) : State :=
  s.putB Reg.INS_STS.ACTIVE (match s.shownChain with
    | some n => s.ins.active.contains n.id
    | none => false)

/-- At a chain's start: DIST_b, REQ, and whether the compare runs in it. -/
def State.predStart (s : State) (c : Chain) : State :=
  let bars := s.insBars
  let s := s.each bars (fun b s => s.put (Reg.INS_BAR_DIST.VAL b) (s.barDist c b))
  let req := (bars.map (fun b => ceilDiv (ceilDiv (s.barCols c.geo b) 4) 64 * 64 * s.barDepth (s.barDist c b))).sum
  let s := s.put64 Reg.INS_PRED_REQ.PAIR req
  if req ≤ s.get64 Reg.INS_PRED_SIZE.PAIR then
    (s.when (bars ≠ []) (fun s => s.setIns (fun i => { i with active := i.active ++ [c.id] }))).showActive
  else ((s.put Reg.INS_STS.PRED_FIT 1).post (ev Code.ST_INS_PRED_FIT srcINS)).showActive

/-! ### The pixel budget (R275) -/

/-- Components per pixel of a port. -/
def State.camComps (s : State) (p : Nat) : Nat := if s.get (Reg.CAM_P_FMT.FORMAT p) = 0 then 1 else 3

/-- Bits per component. -/
def State.camBits (s : State) (p : Nat) : Nat := 8 + 2 * s.get (Reg.CAM_P_FMT.BITS p)

/-- Connections that a port asks for. -/
def State.camConns (s : State) (p : Nat) : Nat := 2 ^ s.get (Reg.CAM_P_CTRL.CONN p)

/-- The downconnection bit rate in units of 5 Mbit/s. PRESUMED: CoaXPress's rates; the spec gives CXP-12's alone. -/
def cxpRate (rate : Nat) : Nat := [0, 250, 500, 625, 1000, 1250, 2000, 2500].getD rate 0

/-- A port's in-line demand as a quotient, in pixels per second. -/
def State.camDemand (s : State) (p : Nat) : Rat :=
  (s.get (Reg.CAM_P_FMT.PX p) * 4000000000 : Nat) / (s.get (Reg.CAM_P_TRIG_MIN.TRIG_MIN p) : Nat)

/-- The demand of the enabled ports. -/
def State.insDemand (s : State) : Rat :=
  (((List.range 8).filter (fun p => s.flag (Reg.CAM_P_CTRL.EN p))).map s.camDemand).sum

/-- Whether port `p`, enabled, breaks the budget or its link's rate. -/
def State.overBudget (s : State) (p : Nat) : Bool :=
  s.get (Reg.CAM_P_TRIG_MIN.TRIG_MIN p) = 0
    || decide (s.insDemand + (s.get Reg.INS_MEMPATH.RESERVE * 1000000 : Nat) > (16000000000 : Nat))
    || decide (s.camDemand p * (s.camComps p * s.camBits p * 100 : Nat)
        > (76 * s.camConns p * cxpRate (s.get (Reg.CAM_P_CTRL.RATE p)) * 5000000 : Nat))

/-- CAM_BUDGET.DEMAND, in whole Mpx/s. -/
def State.showDemand (s : State) : State :=
  let d := s.insDemand / (1000000 : Nat)
  s.put Reg.CAM_BUDGET.DEMAND (min 65535 (divOpen d.num d.den).toNat)

end Sys2Proof.Machine
end

