-- ==== Sys2Proof/Machine/Pipeline.lean ====
section
/-! DEFINITION. Settings sets and the camera pipeline (R270, R271, R273): what a line's components become, stage by stage. -/

namespace Sys2Proof.Machine

/-! ### Settings sets (R270) -/

def setPx (b : List Byte) : Nat := leAt b 6 2
def setComps (b : List Byte) : Nat := byteAt b 8
def setWrites (b : List Byte) : Nat := byteAt b 9
def setLen (b : List Byte) : Nat := leAt b 0x10 4
def setWb (b : List Byte) (c : Nat) : Nat := leAt b (0x40 + 2 * c) 2
def setMatrix (b : List Byte) (c j : Nat) : Int := signed 16 (leAt b (0x48 + 2 * (3 * c + j)) 2)
def setOff (b : List Byte) (c : Nat) : Int := signed 16 (leAt b (0x5A + 2 * c) 2)
def setWriteAddr (b : List Byte) (i : Nat) : Nat := leAt b (0x100 + 8 * i) 4
def setWriteValue (b : List Byte) (i : Nat) : Nat := leAt b (0x104 + 8 * i) 4
def setTone (b : List Byte) (c i : Nat) : Nat := leAt b (0x200 + 2048 * c + 2 * min i 1023) 2
def setX (b : List Byte) (i : Nat) : Int := signed 32 (leAt b (0x1A00 + 8 * i) 4)
def setV (b : List Byte) (i : Nat) : Int := signed 16 (leAt b (0x1A04 + 8 * i) 2)
def setFlatOfs (b : List Byte) (p c : Nat) : Nat := leAt b (0x3C00 + 4 * (p * setComps b + c)) 2
def setFlatGain (b : List Byte) (p c : Nat) : Nat := leAt b (0x3C02 + 4 * (p * setComps b + c)) 2

/-- Whether numbers rise strictly. -/
def risingInts : List Int → Bool
  | a :: b :: l => a < b && risingInts (b :: l)
  | _ => true

/-- The knots X[0..PX/16]. -/
def setKnots (b : List Byte) : List Int := (List.range (setPx b / 16 + 1)).map (setX b)

/-- Whether X rises along the pixels. -/
def setRises (b : List Byte) : Bool := setX b 0 < setX b 1

/-- A set's own checks (R271): PX and NCOMP against the port's, and what the set says of itself. -/
def setFits (b : List Byte) (px comps : Nat) : Bool :=
  leAt b 0 4 = 0x5343594B && leAt b 4 2 = 1 && setPx b = px && setComps b = comps && setWrites b ≤ 4
    && setLen b = 0x3C00 + 4 * px * comps && setLen b ≤ b.length
    && leAt b 0x14 4 = crc32Bytes ((b.drop 0x40).take (setLen b - 0x40))
    && (risingInts (setKnots b) || risingInts ((setKnots b).map (fun x => -x)))
    && (List.range (px / 16 + 1)).all (fun i => -16 ≤ setV b i && setV b i ≤ 16)
    && (List.range 3).all (fun c => (List.range 1024).all (fun i => setTone b c i ≤ 4095))

/-! ### The geometric map -/

/-- A knot value interpolated at pixel `p`. -/
def knotAt (f : Nat → Int) (p : Nat) : Int := f (p / 16) + sar ((f (p / 16 + 1) - f (p / 16)) * (p % 16 : Nat)) 4

/-- X(p), in 0.1 µm. -/
def mapX (b : List Byte) (p : Nat) : Int := knotAt (setX b) p

/-- V(p), in 1/16 line. -/
def mapV (b : List Byte) (p : Nat) : Int := knotAt (setV b) p

/-- floor-pixel(x) (R279): the pixel p with X(p) ≤ x < X(p + 1), or the mirror of that for a falling map. -/
def floorPixel (b : List Byte) (x : Int) : Option Nat :=
  (List.range (setPx b)).find? (fun p =>
    if setRises b then mapX b p ≤ x && x < mapX b (p + 1) else mapX b (p + 1) < x && x ≤ mapX b p)

/-- Whether a port sees a column at XPOS `x` (R274). -/
def seesX (b : List Byte) (x : Int) : Bool :=
  let lo := mapX b 1
  let hi := mapX b (setPx b - 2)
  (lo ≤ x && x ≤ hi) || (hi ≤ x && x ≤ lo)

/-! ### The stages (R273) -/

def clamp16 (x : Int) : Int := clamp x 0 65535

/-- What the ingress alignment needs: the raw component of a pixel in a line, by its distance from the present line; a line that is
not there gives none. -/
abbrev RawAt := Int → Nat → Nat → Option Nat

/-- A stream's shape: pixels, components, bits per component, and the delays of the trilinear components. -/
structure Stream where
  px    : Nat
  comps : Nat
  bits  : Nat
  tri   : List Nat

/-- A component at a line, delayed as the trilinear alignment says; a missing line leaves the present one's. -/
def alignedRaw (st : Stream) (raw : RawAt) (d : Int) (p c : Nat) : Option Nat := raw (d - (st.tri.getD c 0 : Nat)) p c

/-- Ingress alignment: v16 at the down-web offset V. -/
def ingress (st : Stream) (b : List Byte) (raw : RawAt) (p c : Nat) : Int :=
  let own : Nat := (alignedRaw st raw 0 p c).getD ((raw 0 p c).getD 0)
  let v := mapV b p
  let far : Nat := (alignedRaw st raw (if 0 < v then 1 else -1) p c).getD own
  let up : Int := ((2 ^ (16 - st.bits) : Nat) : Int)
  if v = 0 then own * up else sar ((own : Int) * up * (16 - v.natAbs : Nat) + (far : Int) * up * (v.natAbs : Nat)) 4

def flatField (b : List Byte) (p c : Nat) (v : Int) : Int := clamp16 (sar ((v - setFlatOfs b p c) * setFlatGain b p c) 14)

def whiteBalance (b : List Byte) (c : Nat) (f : Int) : Int := clamp16 (sar (f * setWb b c) 14)

/-- The colour matrix on the three components of a pixel; mono passes its one. -/
def colourMatrix (b : List Byte) (ws : List Int) (c : Nat) : Int :=
  if setComps b = 1 then ws.getD c 0
  else
    let sum := ((List.range 3).map (fun j => setMatrix b c j * ws.getD j 0)).sum
    clamp16 (sar (sum + setOff b c * 8192 + 4096) 13)

def toneCurve (b : List Byte) (c : Nat) (m : Int) : Int :=
  let i := (m / 64).toNat
  (setTone b c i : Int) + sar (((setTone b c (i + 1) : Int) - setTone b c i) * (m % 64)) 6

/-- A pixel's components after a stage: 1 flat field, 2 white balance, 3 matrix, and the tone curve beyond, whose result the
geometric map places. -/
def stage (st : Stream) (b : List Byte) (raw : RawAt) (tap p : Nat) : List Int :=
  let cs := List.range st.comps
  let f := cs.map (fun c => flatField b p c (ingress st b raw p c))
  if tap = 1 then f
  else
    let w := f.zipIdx.map (fun x => whiteBalance b x.2 x.1)
    if tap = 2 then w
    else
      let m := cs.map (colourMatrix b w)
      if tap = 3 then m else m.zipIdx.map (fun x => toneCurve b x.2 x.1)

end Sys2Proof.Machine
end

