-- ==== Sys2Proof/Machine/Updates.lean ====
section
/-! DEFINITION. Bar updates (R55), cross-web updates (R111) and trim-temperature updates (R125): how the host, inspection and the
state copy commit them. -/

namespace Sys2Proof.Machine

/-- The highest line published on a bar's rows in a chain. -/
def State.barHigh (s : State) (bar : Nat) (c : Chain) : Int :=
  (((s.rowsIn c).filter (fun k => s.rowBar k = bar)).map s.rowP).foldl max (-1)

/-- The highest line published on any row of a bar in the context that updates apply to; none where nothing is. -/
def State.barTop (s : State) (b : Nat) : Int :=
  match s.updChain with
  | none => -1
  | some c => s.barHigh b c

/-- The queue of bar updates that a commit joins. -/
def State.barQueue (s : State) : List (Nat × BarUpd) :=
  match s.updChain with
  | some c => c.barQ
  | none => s.job.preBarQ

def State.xQueue (s : State) : List (Nat × XUpd) :=
  match s.updChain with
  | some c => c.xQ
  | none => s.job.preXQ

/-- The bar's values in force in that context. -/
def State.barInForce (s : State) (b : Nat) : BarCtx :=
  match s.updChain with
  | some c => c.bar b
  | none => ⟨s.get (Reg.TRK_BAR_S.VAL b), s.getI (Reg.TRK_BAR_B.VAL b), 0, s.get (Reg.FAB_BAR_SX.VAL b), s.getI (Reg.FAB_BAR_BX.VAL b)⟩

/-- RESULT of a bar update (R55): 0 accepted, 1 PAST, 2 LIMIT, 3 FULL. -/
def State.barResult (s : State) (b line sc : Nat) (ofs : Int) : Nat :=
  let q := (s.barQueue.filter (fun e => e.1 = b)).map (·.2)
  let (s0, b0) := match q.getLast? with
    | some u => (u.s, u.b)
    | none => ((s.barInForce b).s, (s.barInForce b).b)
  if (line : Int) ≤ s.barTop b then 1
  else if s.modeIn 5 7 && (((sc : Int) - s0).natAbs > 2 ^ 16 || (ofs - b0).natAbs > 65536) then 2
  else if 4 ≤ q.length then 3
  else 0

/-- The chain whose lines an update's effective line counts. -/
def State.updId (s : State) : Nat := (s.updChain.map (·.id)).getD ((s.job.chains.head?.map (·.id)).getD s.job.nextChain)

/-- Queue an accepted bar update. -/
def State.queueBar (s : State) (b line sc : Nat) (ofs : Int) : State :=
  let s := { s with ins := { s.ins with effB := (b, s.updId, line) :: s.ins.effB } }
  let e := (b, (⟨line, sc, ofs⟩ : BarUpd))
  let s := match s.updChain with
    | some c => s.setChain c.id (fun c => { c with barQ := c.barQ ++ [e] })
    | none => s.setJobs (fun j => { j with preBarQ := j.preBarQ ++ [e] })
  (s.when (s.get Reg.DUE_STS.ROLE = 1) (·.setDue (fun d => { d with copyQ := d.copyQ ++ [.bar b line sc ofs] }))).showQueues

/-- A bar update from any source: its RESULT, and the refusals' events. -/
def State.barUpdate (s : State) (b line sc : Nat) (ofs : Int) : Nat × State :=
  match s.barResult b line sc ofs with
  | 0 => (0, s.queueBar b line sc ofs)
  | 1 => (1, s.post (ev Code.ST_TRK_UPDATE_PAST srcTRK none line (dataBar b)))
  | 2 => (2, s.post (ev Code.ST_TRK_UPDATE_LIMIT srcTRK none line (dataBar b)))
  | r => (r, s)

/-- RESULT of a cross-web update (R111). -/
def State.xwebResult (s : State) (b line sx : Nat) (bx : Int) : Nat :=
  let q := (s.xQueue.filter (fun e => e.1 = b)).map (·.2)
  let (s0, b0) := match q.getLast? with
    | some u => (u.sx, u.bx)
    | none => ((s.barInForce b).sx, (s.barInForce b).bx)
  if (line : Int) ≤ s.barTop b then 1
  else if s.modeIn 5 7 && (((sx : Int) - s0).natAbs > 2 ^ 16 || (bx - b0).natAbs > 40) then 2
  else if 4 ≤ q.length then 3
  else 0

/-- Queue an accepted cross-web update. -/
def State.queueXweb (s : State) (b line sx : Nat) (bx : Int) : State :=
  let s := { s with ins := { s.ins with effX := (b, s.updId, line) :: s.ins.effX } }
  let e := (b, (⟨line, sx, bx⟩ : XUpd))
  let s := match s.updChain with
    | some c => s.setChain c.id (fun c => { c with xQ := c.xQ ++ [e] })
    | none => s.setJobs (fun j => { j with preXQ := j.preXQ ++ [e] })
  (s.when (s.get Reg.DUE_STS.ROLE = 1) (·.setDue (fun d => { d with copyQ := d.copyQ ++ [.xweb b line sx bx] }))).showQueues

/-- A cross-web update from any source. -/
def State.xwebUpdate (s : State) (b line sx : Nat) (bx : Int) : Nat × State :=
  match s.xwebResult b line sx bx with
  | 0 => (0, s.queueXweb b line sx bx)
  | 1 => (1, s.post (ev Code.ST_FAB_XUPD_PAST srcFAB none line (dataBar b)))
  | 2 => (2, s.post (ev Code.ST_FAB_XUPD_LIMIT srcFAB none line (dataBar b)))
  | r => (r, s)

/-- A trim-temperature update from any source (R125): 0 accepted, 1 PAST, 2 FULL, 3 PORT out of range. -/
def State.trimUpdate (s : State) (p line : Nat) (temp : Int) : Nat × State :=
  let c := s.updChain
  let top : Int := match c with
    | none => -1
    | some c => (((s.rowsIn c).filter (fun k => k / 16 = p)).map s.rowP).foldl max (-1)
  if 96 ≤ p then (3, s)
  else if (line : Int) ≤ top then (1, s.post (ev Code.ST_FAB_TUPD_PAST srcFAB none line (s.dataPort p)))
  else if s.job.tupd.any (fun u => u.port = p) then (2, s)
  else
    let s := s.setJobs (fun j => { j with tupd := j.tupd ++ [⟨s.updId, p, line, temp⟩] })
    (0, (s.when (s.get Reg.DUE_STS.ROLE = 1)
      (·.setDue (fun d => { d with copyQ := d.copyQ ++ [.trim p line temp] }))).showQueues)

/-! ### The commits -/

/-- A write of a control register of updates: its fields, then COMMIT, which a STANDBY drops (R329). QLEN and PEND follow the bar or port
that it names. -/
def State.commitWrite (s : State) (slot a : Nat) (data : Word) (f : State → State) : State :=
  (s.trigger slot a data 8 (fun s => if s.get Reg.DUE_STS.ROLE = 2 then s.put Reg.DUE_EVT.CFG_ERR 1 else f s)).showQueues

/-- TRK_BUPD_CTRL.COMMIT. -/
def State.barCommit (s : State) : State :=
  let (r, s) := s.barUpdate (s.get Reg.TRK_BUPD_CTRL.BAR) (s.get64 Reg.TRK_BUPD_LINE.PAIR) (s.get Reg.TRK_BUPD_S.S)
    (s.getI Reg.TRK_BUPD_B.B)
  (s.put Reg.TRK_BUPD_CTRL.RESULT r).showQueues

def execBarUpdateCommit (slot : Nat) (data : Word) (s : State) : Host.Outcome State Fault Refusal :=
  .next (s.ownerWrite slot Reg.TRK_BUPD_CTRL.AT (·.commitWrite slot Reg.TRK_BUPD_CTRL.AT data State.barCommit))

/-- FAB_XUPD_CTRL.COMMIT. -/
def State.xwebCommit (s : State) : State :=
  let (r, s) := s.xwebUpdate (s.get Reg.FAB_XUPD_CTRL.BAR) (s.get64 Reg.FAB_XUPD_LINE.PAIR) (s.get Reg.FAB_XUPD_SX.SX)
    (s.getI Reg.FAB_XUPD_BX.BX)
  (s.put Reg.FAB_XUPD_CTRL.RESULT r).showQueues

def execXwebUpdateCommit (slot : Nat) (data : Word) (s : State) : Host.Outcome State Fault Refusal :=
  .next (s.ownerWrite slot Reg.FAB_XUPD_CTRL.AT (·.commitWrite slot Reg.FAB_XUPD_CTRL.AT data State.xwebCommit))

/-- FAB_TUPD_CTRL.COMMIT. -/
def State.trimCommit (s : State) : State :=
  let (r, s) := s.trimUpdate (s.get Reg.FAB_TUPD_CTRL.PORT) (s.get64 Reg.FAB_TUPD_LINE.PAIR) (s.getI Reg.FAB_TUPD_TEMP.TEMP)
  (s.put Reg.FAB_TUPD_CTRL.RESULT r).showQueues

def execTrimTempUpdateCommit (slot : Nat) (data : Word) (s : State) : Host.Outcome State Fault Refusal :=
  .next (s.ownerWrite slot Reg.FAB_TUPD_CTRL.AT (·.commitWrite slot Reg.FAB_TUPD_CTRL.AT data State.trimCommit))

end Sys2Proof.Machine
end

