-- ==== Sys2Proof/Machine/Compare.lean ====
section
/-! DEFINITION. Inspection's compare (R277 to R283): what one camera line adds to its frame, and the early deliveries. -/

namespace Sys2Proof.Machine

/-! ### Camera lines and the sets in force -/

def CamAt.le (a b : CamAt) : Bool := a.chain < b.chain || (a.chain = b.chain && a.q ≤ b.q)
def CamAt.lt (a b : CamAt) : Bool := a.chain < b.chain || (a.chain = b.chain && a.q < b.q)

/-- The slot active at a camera line, and its set (R272). -/
def CamSt.slotAt (x : CamSt) (l : CamAt) : Option Nat := (x.acts.find? (fun a => a.1.le l)).map (·.2)
def CamSt.setAt (x : CamSt) (l : CamAt) : Option (List Byte) :=
  ((x.slotAt l).bind (fun n => x.sets.lookup n)).map (·.bytes)

/-- Whether a camera line is SETTLING (R272). -/
def CamSt.settlingAt (x : CamSt) (l : CamAt) : Bool :=
  x.settling.any (fun e => e.start.le l && (match e.stop with
    | some z => l.lt z
    | none => true))

/-- A port's stream. -/
def State.stream (s : State) (p : Nat) : Stream :=
  { px := s.get (Reg.CAM_P_FMT.PX p), comps := s.camComps p, bits := s.camBits p,
    tri := if s.get (Reg.CAM_P_FMT.FORMAT p) = 2 then [0, s.get (Reg.CAM_P_FMT.TRI1 p), s.get (Reg.CAM_P_FMT.TRI2 p)] else [] }

/-- The raw components about a line (R273): those of the line, of the seven buffered before it and of the ones that wait. -/
def CamSt.rawAt (x : CamSt) (comps : Nat) (l : CamLine) : RawAt := fun d p c =>
  let want : Int := l.at_.q + d
  let line := if d = 0 then some l
    else (x.past ++ x.lines).find? (fun y => y.at_.chain = l.at_.chain && decide ((y.at_.q : Int) = want))
  (line.bind (·.px)).map (fun px => px.getD (p * comps + c) 0)

/-! ### The predicted image (R277 to R279) -/

/-- PV_j(q): the code of a column's volume. -/
def pvCode (g v : Nat) : Nat := min 3 ((3 * v + 127 * g) / (255 * g))

/-- The paper white of component `c` of a port. -/
def State.white (s : State) (p c : Nat) : Int :=
  match c with
  | 0 => s.get (Reg.INS_WHITE_A.W0 p)
  | 1 => s.get (Reg.INS_WHITE_A.W1 p)
  | _ => s.get (Reg.INS_WHITE_B.W2 p)

def State.insAbs (s : State) (b c : Nat) : Nat := bits (s.get (Reg.INS_BAR_ABS.VAL b)) (8 * c) 8

/-- A column's XPOS at a chain line: that of its printer, and of its even row's nozzle where it has none. -/
def State.columnXpos (s : State) (g c m : Nat) : Int :=
  let n := if s.printerAt g c m = 2 then g + 1536 else g
  s.rampedAt n 7 c m (fun w => (eXpos w : Int))

/-- A column of a bar at a camera line: its GN, its code, and its pixel. -/
structure ColView where
  gn : Nat
  pv : Nat
  x  : Int
  px : Nat

/-- A bar at a camera line: its columns with ink. -/
structure BarView where
  bar  : Nat
  cols : List ColView

/-- The bars that port `p` views. -/
def State.viewBars (s : State) (p : Nat) : List Nat := s.insBars.filter (fun b => bit (s.get (Reg.INS_BAR_CFG.CAMMASK b)) p)

/-- What the columns have received at a camera line (R277). -/
def State.volsAt (s : State) (l : CamAt) : List Vol := s.ins.vols.filter (fun e => e.chain = l.chain && e.q = l.q)

/-- The columns with ink at a camera line, on the map of a set. -/
def State.barViews (s : State) (p : Nat) (set : List Byte) (l : CamAt) : List BarView :=
  let g := s.lineGroup
  let vols := s.volsAt l
  (s.viewBars p).map (fun b =>
    ⟨b, (vols.filter (·.bar = b)).filterMap (fun e =>
      let x := s.columnXpos e.gn l.chain (l.q * g)
      let pv := pvCode g e.sum
      if pv = 0 then none else (floorPixel set x).map (fun px => ⟨e.gn, pv, x, px⟩))⟩)

/-- cov_b(p). -/
def State.cov (s : State) (v : BarView) (p : Int) : Nat :=
  min 255 (s.get (Reg.INS_BAR_CFG.KCOV v.bar) * ((v.cols.filter (fun x => (x.px : Int) = p)).map (·.pv)).sum / 16)

/-- T_b,c(p). -/
def State.transmit (s : State) (v : BarView) (c : Nat) (p : Int) : Nat :=
  let spr := s.get (Reg.INS_BAR_CFG.SPR v.bar)
  let cs := (spr * (s.cov v (p - 1) + s.cov v (p + 1)) + (256 - 2 * spr) * s.cov v p) / 256
  256 - s.insAbs v.bar c * cs / 256

/-- Ŷ_c(p). -/
def State.yhat (s : State) (port : Nat) (vs : List BarView) (c : Nat) (p : Int) : Int :=
  vs.foldl (fun y v => sar (y * s.transmit v c p) 8) (s.white port c)

/-! ### Column measures (R280) -/

/-- Icol_j. -/
def State.colInk (s : State) (port : Nat) (b c : Nat) (pv : Nat) : Int :=
  let spr := s.get (Reg.INS_BAR_CFG.SPR b)
  let cov := pv * s.get (Reg.INS_BAR_CFG.KCOV b) / 16 * (256 - 2 * spr) / 256
  sar (s.white port c * (s.insAbs b c * cov / 256 : Nat)) 8

/-- Change one element of an association list, a new one at its start value. -/
def upsert {α : Type} (l : List (Nat × α)) (k : Nat) (dflt : α) (f : α → α) : List (Nat × α) :=
  Sparse.insert k (f ((l.lookup k).getD dflt)) l

/-- A line as the compare sees it: its frame's port, place, set, views and reflectances. -/
structure LineView where
  port : Nat
  at_  : CamAt
  set  : List Byte
  views : List BarView
  y    : Nat → Nat → Int

/-- The residual r of component `c` at a pixel. -/
def State.residual (s : State) (v : LineView) (c : Nat) (p : Nat) : Int :=
  s.yhat v.port v.views c p - v.y p c

/-- Whether a column contributes at a line (R274, R280). -/
def State.contributes (s : State) (v : LineView) (b : BarView) (c : Nat) (x : ColView) : Bool :=
  let others := v.views.filter (fun o => o.bar ≠ b.bar)
  let prod := (others.map (fun o => s.transmit o c x.px)).foldl (· * ·) 1
  c < setComps v.set && seesX v.set x.x && 1 ≤ x.px && x.px + 1 < setPx v.set && 230 * 256 ^ others.length ≤ 256 * prod

/-- What a contributing line adds to its column: N, E, C and X. -/
def State.colAdd (s : State) (v : LineView) (b c : Nat) (x : ColView) (m : ColSums) : ColSums :=
  let r := s.residual v c x.px
  { m with
    n := m.n + 1, e := m.e + x.pv * r, c := m.c + x.pv * s.colInk v.port b c x.pv,
    x := m.x + x.pv * (s.residual v c (x.px + 1) - s.residual v c (x.px - 1)) }

/-- The nozzle that printed most of a frame's lines in column `g` (R164). -/
def BarFrame.nozzle (b : BarFrame) (g : Nat) : Nat := if 0 ≤ (b.sides.lookup g).getD 0 then g else g + 1536

/-- A delivery to the health unit, unless the nozzle settles (R164). -/
def State.delivery (s : State) (gn : Nat) (miss : Bool) (d x : Int) : State :=
  let k := gn / 1536
  let off : Bool := match (s.rowSt k).chain with
    | some c => s.settling gn c (s.rowP k).toNat (s.rowP k).toNat
    | none => false
  if off then s else s.deliver gn miss d x

/-- The streak window of a column (R282): an early delivery where its ratio falls to the miss threshold. -/
def State.streak (s : State) (p c : Nat) (v : LineView) (b : Nat) (x : ColView) (m : ColSums) (bf : BarFrame) : Bool × State :=
  if !s.flag Reg.INS_CTRL.STREAK_EN then (false, s)
  else
    let e := x.pv * s.residual v c x.px
    let i := x.pv * s.colInk p b c x.pv
    let win := (((e, i) :: ((s.cam p).wins.lookup x.gn).getD []).take (s.get Reg.INS_STREAK.WIN))
    let s := s.setCam p (fun y => { y with wins := Sparse.insert x.gn win y.wins })
    let es := (win.map (·.1)).sum
    let cs := (win.map (·.2)).sum
    let low := 0 < cs && 256 * es ≤ -(s.get Reg.INS_CFG.MISS_FRAC : Int) * cs && s.get Reg.INS_CFG.MIN_N ≤ 4 * win.length
    if !low || m.early then (false, s)
    else
      let s := (s.delivery (bf.nozzle x.gn) true (-128) 0).count (Reg.INS_CNT.CNT 2)
      (true, s.post (ev Code.ST_INS_STREAK srcINS none none (s.dataColumn x.gn)))

/-! ### Frames -/

/-- The frame of a camera line. -/
def frameNo (q : Nat) : Nat := q / 4096

/-- The frame of a line, opened where it is not (R269); a chain that has ended has none. -/
def State.openFrame (s : State) (p : Nat) (l : CamAt) : State :=
  match s.chain? l.chain with
  | none => s
  | some c =>
    if (s.cam p).frames.any (fun f => f.chain = l.chain && f.no = frameNo l.q) then s
    else
      let job := ((s.jobAt l.chain (frameNo l.q * 4096 * s.lineGroup)).map (·.id)).getD 0
      s.setCam p (fun x => { x with frames := x.frames ++ [{ chain := l.chain, no := frameNo l.q, pitch := c.refPitch, job := job }] })

/-- Change a line's frame. -/
def State.setFrame (s : State) (p : Nat) (l : CamAt) (f : CamFrame → CamFrame) : State :=
  s.setCam p (fun x => { x with
    frames := x.frames.map (fun y => if y.chain = l.chain && y.no = frameNo l.q then f y else y) })

def State.frame? (s : State) (p : Nat) (l : CamAt) : Option CamFrame :=
  (s.cam p).frames.find? (fun f => f.chain = l.chain && f.no = frameNo l.q)

/-- The lines of the frame that each nozzle of the port's bars printed at a camera line (R164). -/
def State.creditLine (s : State) (p : Nat) (l : CamAt) : State :=
  let vols := (s.volsAt l).filter (fun e => (s.viewBars p).contains e.bar)
  s.when (vols ≠ []) (fun s => s.setFrame p l (fun f => { f with
    bars := vols.foldl (fun bars e => upsert bars e.bar {} (fun bf => { bf with sides := upsert bf.sides e.gn 0 (· + e.side) })) f.bars }))

/-- Tell an event once in a frame: bit 0 a skip, 1 a missing line, 2 a stray. -/
def State.tellOnce (s : State) (p : Nat) (l : CamAt) (i code : Nat) : State :=
  match s.frame? p l with
  | none => s
  | some f =>
    if bit f.told i then s
    else (s.setFrame p l (fun f => { f with told := f.told + 2 ^ i })).post (ev code (srcCP p))

/-- One bar of a line (R280, R282, R285): every column with ink, then A_meas and A_pred. -/
def State.compareBar (s : State) (v : LineView) (b : BarView) : State :=
  let p := v.port
  let c := s.get (Reg.INS_BAR_CFG.CH b.bar)
  let xs := b.cols.filter (s.contributes v b c)
  let s := s.each xs (fun x s =>
    match s.frame? p v.at_ with
    | none => s
    | some f =>
      let bf := (f.bars.lookup b.bar).getD {}
      let m := s.colAdd v b.bar c x ((bf.cols.lookup x.gn).getD {})
      let (told, s) := s.streak p c v b.bar x m bf
      s.setFrame p v.at_ (fun f => { f with
        bars := upsert f.bars b.bar {} (fun bf => { bf with
          cols := Sparse.insert x.gn { m with early := m.early || told } bf.cols }) }))
  let ps := (xs.map (·.px)).eraseDups
  let meas := (ps.map (fun q => s.white p c - v.y q c)).sum
  let pred := (ps.map (fun (q : Nat) => s.white p c - s.yhat p v.views c q)).sum
  s.when (ps ≠ []) (fun s => s.setFrame p v.at_ (fun f => { f with
    bars := upsert f.bars b.bar {} (fun bf => { bf with lines := bf.lines ++ [(v.at_.q, (meas, pred))] }) }))

/-- The pixels of a line that carry a mark without predicted ink (R283). -/
def State.foreignPixels (s : State) (v : LineView) : List Nat :=
  (List.range (setPx v.set)).filter (fun q => 1 ≤ q && q + 1 < setPx v.set
    && (List.range (setComps v.set)).any (fun c =>
      let w := s.white v.port c
      w = s.yhat v.port v.views c q && w ≤ 8 * (w - v.y q c)))

/-- Add a value to the sums of a component of y. -/
def YSums.add (a : Option YSums) (y : Nat) : YSums :=
  match a with
  | none => ⟨1, y, y, y⟩
  | some a => ⟨a.n + 1, a.sum + y, min a.lo y, max a.hi y⟩

/-- A line's y in its frame's sums (R288). -/
def State.ySums (s : State) (v : LineView) : State :=
  s.setFrame v.port v.at_ (fun f => { f with
    ys := (List.range (setComps v.set)).foldl (fun ys c =>
      (List.range (setPx v.set)).foldl (fun ys q => Sparse.insert c (YSums.add (ys.lookup c) (v.y q c).toNat) ys) ys) f.ys })

/-- A line as the pipeline gives it, with the active set (R273). -/
def State.lineView (s : State) (p : Nat) (l : CamLine) (set : List Byte) : LineView :=
  let st := s.stream p
  let ys := (List.range st.px).map (stage st set ((s.cam p).rawAt st.comps l) 4)
  ⟨p, l.at_, set, s.barViews p set l.at_, fun q c => (ys.getD q []).getD c 0⟩

/-- A line that is neither absent nor SETTLING in the compare (R279 to R283). -/
def State.compareLine (s : State) (v : LineView) : State :=
  let s := s.ySums v
  if !s.ins.active.contains v.at_.chain || v.views = [] then s
  else
    let s := s.each v.views (fun b s => s.compareBar v b)
    let fs := s.foreignPixels v
    s.setFrame v.port v.at_ (fun f => { f with foreign := fs.foldl (fun m q => upsert m q 0 (· + 1)) f.foreign })

end Sys2Proof.Machine
end

