-- ==== Sys2Proof/Machine/Frames.lean ====
section
/-! DEFINITION. The close of a camera frame (R269, R280 to R288): fits, deliveries, corrections, the register and cross-web loops, and
the statistics records. -/

namespace Sys2Proof.Machine

/-- A qualified column (R280): its nozzle, whether it is a miss, round(512 ρ), its XPOS, and its raw landing error. -/
structure ColFit where
  nozzle : Nat
  miss   : Bool
  d512   : Int
  xpos   : Int
  xr     : Rat

/-- The fit of a bar (R281): its qualified columns, their mean XPOS, the mean of round(512 ρ), and the line of the landing errors. -/
structure BarFit where
  cols : List ColFit
  xc   : Rat
  dbar : Int
  a    : Rat
  k    : Rat

/-- The qualified columns of a bar frame, on the set and at the chain line of the frame's last line. -/
def State.qualified (s : State) (set : List Byte) (c m : Nat) (b : BarFrame) : List ColFit :=
  b.cols.filterMap (fun e =>
    let w := e.2
    let x := s.columnXpos e.1 c m
    if w.n < s.get Reg.INS_CFG.MIN_N || w.c ≤ 0 then none
    else (floorPixel set x).map (fun p =>
      { nozzle := b.nozzle e.1, miss := 256 * w.e ≤ -(s.get Reg.INS_CFG.MISS_FRAC : Int) * w.c,
        d512 := ratRound ((512 * w.e : Rat) / w.c), xpos := x,
        xr := ((mapX set (p + 1) - mapX set p) * w.x : Rat) / (2 * w.c : Rat) }))

/-- The fit by least squares. What no column, or one place alone, determines is an open value. -/
def State.fitBar (s : State) (cols : List ColFit) : BarFit :=
  let good := cols.filter (!·.miss)
  let n : Rat := (good.length : Nat)
  let mean := fun (f : ColFit → Rat) => (good.map f).sum / n
  let xc := mean (fun c => c.xpos)
  let sxx := (good.map (fun c => ((c.xpos : Rat) - xc) * ((c.xpos : Rat) - xc))).sum
  let sxy := (good.map (fun c => ((c.xpos : Rat) - xc) * c.xr)).sum
  let kOpen : Rat := signed 32 (s.openAt 32 1)
  let k : Rat := if sxx = 0 then kOpen / (4294967296 : Nat) else sxy / sxx
  if good = [] then ⟨cols, 0, signed 16 (s.openAt 16 0), signed 32 (s.openAt 32 2), k⟩
  else ⟨cols, xc, ratOpen (mean (fun c => c.d512)), mean (fun c => c.xr), k⟩

/-- The deliveries of a bar's frame (R281). -/
def State.deliverBar (s : State) (f : BarFit) : State :=
  s.each f.cols (fun c s =>
    let d := clamp (c.d512 - f.dbar) (-128) 127
    let x := clamp (ratRound ((c.xr - f.a - f.k * (c.xpos - f.xc)) / 5)) (-128) 127
    (s.delivery c.nozzle c.miss d x).when c.miss (·.count (Reg.INS_CNT.CNT 1)))

/-! ### Corrections (R284) -/

/-- The correction of a nozzle by its HEALTH: the fields it sets and the entry's image. -/
def State.correction (s : State) (w : List Nat) : Nat × List Nat :=
  let dens := s.get Reg.INS_CORR.DDB ≤ (eDens w).natAbs
  let xdev := s.get Reg.INS_CORR.XDB ≤ (eXdev w).natAbs
  let ds : Int := s.get Reg.SMP_LIM.DGAIN_STEP
  let xs : Int := s.get Reg.SMP_LIM.XPOS_STEP
  let dg := clamp ((eDgain w : Int) + clamp (-sar ((eDgain w : Int) * eDens w) 9) (-ds) ds) 0 65535
  let xp := clamp ((eXpos w : Int) + clamp (5 * eXdev w) (-xs) xs) 0 (2 ^ 32 - 1)
  let v := if dens then eSet (eSet w 1 16 16 dg.toNat) 6 8 8 0 else w
  let v := if xdev then eSet (eSet v 2 0 32 xp.toNat) 6 16 8 0 else v
  (if dens || xdev then (if dens then 16 else 0) + (if xdev then 128 else 0) + 1024 else 0, v)

/-- One column's correction; answers whether a record was created, and whether one was refused. -/
def State.correctNozzle (s : State) (gn : Nat) : Bool × Bool × State :=
  let (mask, v) := s.correction (s.entry gn)
  if mask = 0 || s.get Reg.DUE_STS.ROLE = 2 then (false, false, s)
  else
    let held := s.smpHeld 2 gn
    let (ok, s) := s.smpCreate 2 gn mask (s.get Reg.INS_CORR.RAMP) v
    if ok then (true, false, s.count (Reg.INS_CNT.CNT 3))
    else if held then (false, false, s)
    else (false, true, s.count (Reg.INS_CNT.CNT 4))

/-- The corrections of a bar's columns: the records created and refused. -/
def State.correctBar (s : State) (gns : List Nat) : Nat × Nat × State :=
  gns.foldl (fun (a : Nat × Nat × State) gn =>
    let (ok, no, s) := a.2.2.correctNozzle gn
    (a.1 + ok.toNat, a.2.1 + no.toNat, s)) (0, 0, s)

/-! ### The register loop (R285) and the cross-web loop (R286) -/

/-- A_pred at 16 times a place in 1/16 camera line, interpolated linearly; a line that contributed nothing has 0. -/
def predAt (l : List (Nat × (Int × Int))) (y : Int) : Int :=
  let q := y.fdiv 16
  let r := y % 16
  let a := fun (q : Int) => match l.find? (fun e => (e.1 : Int) = q) with
    | some e => e.2.2
    | none => 0
  (16 - r) * a q + r * a (q + 1)

/-- The sum that Δy minimises, over the lines whose interpolated place lies in the frame at every shift. -/
def shiftCost (l : List (Nat × (Int × Int))) (lo hi : Nat) (dy : Int) : Int :=
  ((l.filter (fun e => lo + 8 ≤ e.1 && e.1 + 8 ≤ hi)).map (fun e =>
    let d := 16 * e.2.1 - predAt l (16 * (e.1 : Int) - dy)
    d * d)).sum

/-- Δy, and whether it is valid; of several shifts that minimise, an open one. -/
def State.shiftOf (s : State) (l : List (Nat × (Int × Int))) (lo hi : Nat) : Int × Bool :=
  let costs := (List.range 257).map (fun (i : Nat) => ((i : Int) - 128, shiftCost l lo hi ((i : Int) - 128)))
  let best := costs.foldl (fun m e => min m e.2) ((costs.headD (0, 0)).2)
  let ties := costs.filter (fun e => e.2 = best)
  let dy := (ties.getD (s.openAt 16 3 % max 1 ties.length) (0, 0)).1
  let steps := ((l.zip (l.drop 1)).map (fun e =>
    if e.1.1 + 1 = e.2.1 then ((e.2.2.2 - e.1.2.2).natAbs : Int) else 0)).sum
  (dy, decide (100 * steps ≥ (l.map (·.2.2)).sum) && l ≠ [])

/-- Whether an update of a bar is unsettled at a camera line (R285). -/
def State.unsettled (s : State) (l : List (Nat × Nat × Nat)) (b c q : Nat) : Bool :=
  l.any (fun e => e.1 = b && e.2.1 = c
    && decide (q ≤ ceilDiv (e.2.2 + s.get (Reg.INS_BAR_DIST.VAL b)) s.lineGroup + 4096))

/-- The bar's values that a new update starts from: those of the last update queued, or those in force. -/
def State.barBase (s : State) (b : Nat) : Nat × Int :=
  match ((s.barQueue.filter (fun e => e.1 = b)).map (·.2)).getLast? with
  | some u => (u.s, u.b)
  | none => ((s.barInForce b).s, (s.barInForce b).b)

def State.xwebBase (s : State) (b : Nat) : Nat × Int :=
  match ((s.xQueue.filter (fun e => e.1 = b)).map (·.2)).getLast? with
  | some u => (u.sx, u.bx)
  | none => ((s.barInForce b).sx, (s.barInForce b).bx)

/-- n_e of an update that inspection commits. -/
def State.aheadLine (s : State) (b : Nat) : Nat := (s.barTop b + s.get Reg.INS_REG_AHEAD.AHEAD).toNat

/-- dS of R285, in units of S. -/
def State.stretchStep (s : State) (f : CamFrame) (b : Nat) (dy : Int) : Int :=
  let g := s.lineGroup
  let moved := s.ins.effB.any (fun e => e.1 = b && e.2.1 = f.chain && decide (g * 4096 * f.no ≤ e.2.2 + g * 4096)
    && e.2.2 < g * 4096 * (f.no + 1))
  match s.ins.lastDy.lookup b with
  | some (c, n, old) =>
    if c ≠ f.chain || n + 1 ≠ f.no || moved then 0
    else clamp (divOpen (-((s.barBase b).1 : Int) * s.get Reg.INS_REG.GAIN_R * (dy - old)) (256 * 65536)) (-65536) 65536
  | none => 0

/-- The register loop of a bar at a frame's close: whether it has a valid shift, the shift, and whether it committed an update. -/
def State.registerLoop (s : State) (f : CamFrame) (lo hi b : Nat) (bf : BarFrame) : Bool × Int × Bool × State :=
  if !s.flag Reg.INS_CTRL.REG_EN then (false, s.getI (Reg.INS_BAR_DY.VAL b), false, s)
  else
    let (dy, valid) := s.shiftOf bf.lines lo hi
    let s := s.drawn
    if !valid then (false, dy, false, s)
    else
      let dS := s.stretchStep f b dy
      let s := (s.putI (Reg.INS_BAR_DY.VAL b) dy).setIns (fun i => { i with lastDy := Sparse.insert b (f.chain, f.no, dy) i.lastDy })
      if dy.natAbs ≤ s.get Reg.INS_REG.DEADBAND || s.unsettled s.ins.effB b f.chain hi || 2 ≤ s.get Reg.DUE_STS.ROLE then
        (true, dy, false, s)
      else
        let (s0, b0) := s.barBase b
        let dB := clamp (divOpen (-(s.get Reg.INS_REG.GAIN_R : Int) * dy * s.lineGroup * f.pitch) (256 * 16 * 65536)) (-65536) 65536
        let (r, s) := s.barUpdate b (s.aheadLine b) ((s0 : Int) + dS).toNat (b0 + dB)
        (true, dy, r = 0, s.count (Reg.INS_CNT.CNT (if r = 0 then 5 else 7)))

/-- The cross-web loop of a bar at a frame's close: whether it committed an update. -/
def State.xwebLoop (s : State) (f : CamFrame) (hi b : Nat) (fit : BarFit) : Bool × State :=
  let beyond := decide (fit.a.num.natAbs > 5 * s.get Reg.INS_REG.XDEADBAND * fit.a.den)
    || decide (fit.k.num.natAbs * 65536 > fit.k.den)
  if !s.flag Reg.INS_CTRL.XREG_EN || fit.cols.length < 64 || !beyond || s.unsettled s.ins.effX b f.chain hi
      || 2 ≤ s.get Reg.DUE_STS.ROLE then (false, s)
  else
    let (s0, b0) := s.xwebBase b
    let g : Rat := (s.get Reg.INS_REG.GAIN_X : Nat) / (256 : Nat)
    let dB := clamp (ratRound (g * fit.a)) (-40) 40
    let dS := clamp (ratOpen ((s0 : Nat) * fit.k * g)) (-65536) 65536
    let (r, s) := s.xwebUpdate b (s.aheadLine b) ((s0 : Int) + dS).toNat (b0 + dB)
    (r = 0, s.count (Reg.INS_CNT.CNT (if r = 0 then 6 else 7)))

/-! ### Statistics records (R288) -/

/-- A statistics record waits to be written, unless load sheds it (R524). -/
def State.addStat (s : State) (b : List Byte) : State :=
  if 1 ≤ s.get Reg.ERR_STS.SHED then s.pmcAdd 433
  else s.setIns (fun i => { i with recs := i.recs ++ [⟨b, s.now⟩] })

def pad64 (b : List Byte) : List Byte := (b ++ List.replicate 64 0).take 64

/-- The camera record of a frame. -/
def State.cameraRecord (s : State) (p : Nat) (f : CamFrame) (slot : Nat) : List Byte :=
  let part := decide (f.got + f.absent < 4096)
  let ys := (List.range 3).flatMap (fun c =>
    match f.ys.lookup c with
    | some y => leBytes 2 (divOpen y.sum y.n).toNat ++ leBytes 2 y.lo ++ leBytes 2 y.hi
    | none => if c < s.camComps p then leBytes 6 (s.openAt 48 (4 + c)) else leBytes 6 0)
  pad64 (leBytes 2 1 ++ leBytes 1 p ++ leBytes 1 (2 * part.toNat) ++ leBytes 4 f.job ++ leBytes 8 f.no
    ++ leBytes 8 (4096 * s.lineGroup * f.no) ++ leBytes 4 f.got ++ leBytes 4 f.absent ++ leBytes 4 f.settled
    ++ leBytes 4 slot ++ ys)

/-- What a bar record reports beside the fit. -/
structure BarStat where
  valid : Bool
  dy    : Int
  bUpd  : Bool
  xUpd  : Bool
  early : Nat
  made  : Nat
  refused : Nat

/-- The bar record of a frame. -/
def barRecord (b : Nat) (f : CamFrame) (fit : BarFit) (x : BarStat) : List Byte :=
  let flags := 2 * x.valid.toNat + 4 * x.bUpd.toNat + 8 * x.xUpd.toNat
  pad64 (leBytes 2 2 ++ leBytes 1 b ++ leBytes 1 flags ++ leBytes 4 f.job ++ leBytes 8 f.no
    ++ leBytes 4 (unsigned 32 x.dy) ++ leBytes 4 (unsigned 32 (ratOpen fit.a))
    ++ leBytes 4 (unsigned 32 (ratOpen (fit.k * (4294967296 : Nat)))) ++ leBytes 4 (unsigned 16 fit.dbar)
    ++ leBytes 4 fit.cols.length ++ leBytes 4 (fit.cols.filter (·.miss)).length ++ leBytes 4 x.early ++ leBytes 4 x.made
    ++ leBytes 4 x.refused)

/-! ### The close -/

/-- The nozzles that printed the columns which the port sees (R164, R274). -/
def State.seenNozzles (s : State) (set : List Byte) (c m : Nat) (b : BarFrame) : List Nat :=
  (b.sides.filter (fun e => 2 ≤ setPx set && seesX set (s.columnXpos e.1 c m))).map (fun e => b.nozzle e.1)

/-- One bar of a frame that closes. -/
def State.closeBar (s : State) (p : Nat) (f : CamFrame) (set : List Byte) (hi b : Nat) : State :=
  let bf := (f.bars.lookup b).getD {}
  let fit := s.fitBar (s.qualified set f.chain (hi * s.lineGroup) bf)
  let s := (s.drawn).deliverBar fit
  let (made, refused, s) := s.correctBar (s.seenNozzles set f.chain (hi * s.lineGroup) bf)
  let lowest := (bitList 8 (s.get (Reg.INS_BAR_CFG.CAMMASK b))).head? = some p
  if !lowest then s
  else
    let s := (s.putI (Reg.INS_BAR_DX.VAL b) (ratOpen fit.a)).putI (Reg.INS_BAR_MEAND.VAL b) fit.dbar
    let (valid, dy, bUpd, s) := s.registerLoop f (4096 * f.no) hi b bf
    let (xUpd, s) := s.xwebLoop f hi b fit
    s.addStat (barRecord b f fit
      ⟨valid, dy, bUpd, xUpd, (bf.cols.filter (·.2.early)).length, made, refused⟩)

/-- The foreign marks of a frame (R283). -/
def State.foreignMarks (s : State) (p : Nat) (f : CamFrame) (set : List Byte) : State :=
  s.each (f.foreign.filter (fun e => f.got + f.absent < 2 * e.2)) (fun e s =>
    s.post (ev Code.ST_INS_FOREIGN (srcCP p) e.1 (unsigned 64 (mapX set e.1))))

/-- A frame of a port closes (R269): every measure, delivery, correction and record it gives. -/
def State.closeFrame (s : State) (p : Nat) (f : CamFrame) : State :=
  let hi := 4096 * f.no + (f.got + f.absent) - 1
  let x := s.cam p
  let s := s.setCam p (fun x => { x with frames := x.frames.filter (fun y => !(y.chain = f.chain && y.no = f.no)) })
  let set := (x.setAt ⟨f.chain, hi⟩).getD []
  let bars := if s.ins.active.contains f.chain then s.viewBars p else f.bars.map Prod.fst
  let s := if bars = [] then s
    else ((s.each bars (fun b s => s.closeBar p f set hi b)).foreignMarks p f set).count (Reg.INS_CNT.CNT 0)
  s.drawn.addStat (s.cameraRecord p f ((x.slotAt ⟨f.chain, hi⟩).getD 0))

end Sys2Proof.Machine
end

