-- ==== Sys2Proof/Machine/Marks.lean ====
section
/-! DEFINITION. What the camera sees of calibration marks (R302), line by line. -/

namespace Sys2Proof.Machine

def State.setCal (s : State) (f : CalSt → CalSt) : State := { s with cal := f s.cal }

/-- C = MLEN + GAP (R300). -/
def State.cellLines (s : State) : Nat := s.get Reg.CAL_MARK.MLEN + s.get Reg.CAL_MARK.GAP

/-- The camera port that measures a bar: the lowest connected one in its CAMMASK (R296, R302). -/
def State.calCamera (s : State) (b : Nat) : Option Nat :=
  (bitList 8 (s.get (Reg.INS_BAR_CFG.CAMMASK b))).find? (fun p => s.get (Reg.CAM_P_STS.STATE p) = 2)

/-- The cells of a port's bars that view a camera line and have nozzles to measure: bar, first line of the slot, nozzle. -/
def State.cellsAt (s : State) (p : Nat) (l : CamAt) : List (Nat × Nat × Nat) :=
  let g := s.lineGroup
  (s.cal.batches.filter (fun b => b.chain = l.chain && s.calCamera b.bar = some p)).flatMap (fun b =>
    b.cells.flatMap (fun x => match x.slot with
      | some f => if f / g ≤ l.q && l.q ≤ (f + s.cellLines - 1) / g then x.left.map (fun n => (b.bar, f, n)) else []
      | none => []))

/-- The sums of a nozzle's cell. -/
def State.markOf (s : State) (gn chain slot : Nat) : MarkSum :=
  (s.cal.marks.find? (fun m => m.gn = gn && m.chain = chain && m.slot = slot)).getD { gn := gn, chain := chain, slot := slot }

def State.dropMark (s : State) (m : MarkSum) : State :=
  s.setCal (fun c => { c with marks := c.marks.filter (fun x => !(x.gn = m.gn && x.chain = m.chain && x.slot = m.slot)) })

def State.putMark (s : State) (m : MarkSum) : State := (s.dropMark m).setCal (fun c => { c with marks := m :: c.marks })

/-- A camera line of the window gives nothing: the cell is void (R302). -/
def State.markGap (s : State) (p : Nat) (l : CamAt) : State :=
  s.each (s.cellsAt p l) (fun e s =>
    let m := s.markOf e.2.2 l.chain e.2.1
    s.putMark { m with lines := m.lines + 1, gap := true })

/-- A camera line's pixels within XSEP / 2 of a nozzle, where WHITE − y reaches NOISE, enter its mark (R302). -/
def State.markLine (s : State) (v : LineView) : State :=
  s.each (s.cellsAt v.port v.at_) (fun e s =>
    let m := s.markOf e.2.2 v.at_.chain e.2.1
    let c := s.get (Reg.INS_BAR_CFG.CH e.1)
    let xpos : Int := eXpos (s.entry e.2.2)
    let sep : Int := 10 * s.get Reg.CAL_MARK.XSEP
    let px := (List.range (setPx v.set)).filter (fun p => c < setComps v.set && decide (2 * ((mapX v.set p - xpos).natAbs : Int) < sep)
      && decide ((s.get Reg.CAL_DETECT.NOISE : Int) ≤ s.white v.port c - v.y p c))
    let sum := fun (f : Nat → Int) => (px.map (fun p => (s.white v.port c - v.y p c) * f p)).sum
    s.putMark { m with
      a := m.a + sum (fun _ => 1), ax := m.ax + sum (mapX v.set), aq := m.aq + sum (fun _ => 2 * (v.at_.q : Int) + 1), lines := m.lines + 1 })

end Sys2Proof.Machine
end

