-- ==== Sys2Proof/Machine/CamOps.lean ====
section
/-! DEFINITION. Camera lines in order (R268 to R273, R290): what becomes of a line whose fate is known, when frames close, settings
sets as they take effect, and captures. -/

namespace Sys2Proof.Machine

/-! ### Captures (R289, R290) -/

/-- A capture descriptor's body. -/
def Desc.capOp (d : Desc) : Nat := d.at_ 16 1
def Desc.capPort (d : Desc) : Nat := d.at_ 17 1
def Desc.capTap (d : Desc) : Nat := d.at_ 18 1
def Desc.capSlot (d : Desc) : Nat := d.at_ 19 1
def Desc.capX0 (d : Desc) : Nat := d.at_ 20 2
def Desc.capXn (d : Desc) : Nat := d.at_ 22 2
def Desc.capLines (d : Desc) : Nat := d.at_ 24 4
def Desc.capDecim (d : Desc) : Nat := d.at_ 28 2
def Desc.capLine (d : Desc) : Nat := d.at_ 32 8
def Desc.capAddr (d : Desc) : Nat := d.at_ 40 8
def Desc.capLen (d : Desc) : Nat := d.at_ 48 4
def Desc.capJob (d : Desc) : Nat := d.at_ 52 2

/-- The bytes of one captured line with its header. -/
def Desc.capStride (d : Desc) (comps : Nat) : Nat := 16 + 2 * d.capXn * comps

/-- The values of a line at a tap, pixel by pixel (R290): raw as received; the stages' outputs; Ŷ and r of the bar that SLOT
names. A line without a valid set has open values beyond the raw tap. -/
def State.tapValues (s : State) (p : Nat) (l : CamLine) (tap bar : Nat) : List (List Int) :=
  let st := s.stream p
  let px := l.px.getD []
  if tap = 0 then (List.range st.px).map (fun q => (List.range st.comps).map (fun c => (px.getD (q * st.comps + c) 0 : Int)))
  else match (s.cam p).setAt l.at_ with
    | none => (List.range st.px).map (fun q => (List.range st.comps).map (fun c => (s.openAt 16 (q * st.comps + c) : Int)))
    | some set =>
      let ys := (List.range st.px).map (stage st set ((s.cam p).rawAt st.comps l) (min tap 4))
      if tap < 6 then ys
      else
        let views := (s.barViews p set l.at_).filter (·.bar = bar)
        ys.zipIdx.map (fun e => e.1.zipIdx.map (fun x =>
          let y := s.yhat p views x.2 e.2
          if tap = 6 then y else y - x.1))

/-- The bytes of a captured line: its header, and its values unless it is absent or dropped. -/
def State.capBytes (s : State) (p : Nat) (l : CamLine) (d : Desc) : List Byte :=
  let x := s.cam p
  let absent := l.px.isNone
  let flags := absent.toNat + 2 * (x.settlingAt l.at_).toNat + 4 * (!absent && l.full).toNat
  let head := leBytes 8 l.at_.q ++ leBytes 2 flags ++ leBytes 1 ((x.slotAt l.at_).getD 0) ++ leBytes 5 0
  if absent || l.full then head
  else head ++ (((s.tapValues p l d.capTap d.capSlot).drop d.capX0).take d.capXn).flatMap
    (fun vs => vs.flatMap (fun v => leBytes 2 (unsigned 16 v)))

/-- One capture meets a line: it takes every DECIM-th line from its first on, into its place in the buffer. -/
def State.captureOne (s : State) (p : Nat) (l : CamLine) (c : Capture) : State :=
  match (s.ring c.ring).flight.find? (·.index = c.index) with
  | none => s.setIns (fun i => { i with caps := i.caps.filter (fun x => !(x.ring = c.ring && x.index = c.index)) })
  | some d =>
    if !(c.next.le l.at_) then s
    else
      let at_ := d.capAddr + c.taken * d.capStride (s.camComps p)
      let s := (s.send (.hostWrite (s.ringPort c.ring) at_ (s.capBytes p l d))).drawn
      let c2 : Capture := { c with
        next := ⟨l.at_.chain, l.at_.q + max 1 d.capDecim⟩, taken := c.taken + 1, dropped := c.dropped || (l.px.isSome && l.full) }
      let rest := s.ins.caps.filter (fun x => !(x.ring = c.ring && x.index = c.index))
      if d.capLines ≤ c2.taken then
        (s.setIns ({ · with caps := rest })).complete c.ring c.index (if c2.dropped then Code.ST_CAP_DROPPED else Code.ST_OK)
      else s.setIns ({ · with caps := rest ++ [c2] })

def State.captureLine (s : State) (p : Nat) (l : CamLine) : State :=
  s.each (s.ins.caps.filter (fun c => c.port = p)) (fun c s => s.captureOne p l c)

/-! ### Lines in order -/

/-- A line's fate in its frame (R269), its captures, and, where it is to be measured, the compare and the calibration marks; a line
without a set measures nothing. -/
def State.processLine (s : State) (p : Nat) (l : CamLine) : State :=
  let s := (s.captureLine p l).creditLine p l.at_
  let settling := (s.cam p).settlingAt l.at_
  let s := if l.px.isNone then (s.setFrame p l.at_ (fun f => { f with absent := f.absent + 1 })).markGap p l.at_
    else
      let s := (s.setFrame p l.at_ (fun f => { f with got := f.got + 1 })).putB (Reg.CAM_P_STS.SETTLING p) settling
      if settling then ((s.setFrame p l.at_ (fun f => { f with settled := f.settled + 1 })).pmcAdd (488 + p)).markGap p l.at_
      else match (s.cam p).setAt l.at_ with
        | none => s.markGap p l.at_
        | some set => (s.compareLine (s.lineView p l set)).markLine (s.lineView p l set)
  s.setCam p (fun x => { x with past := (l :: x.past).take 7 })

/-- The camera lines of a chain, where its total is known. -/
def State.camLines (s : State) (c : Chain) : Option Nat := c.total.map (fun t => ceilDiv t s.lineGroup)

/-- Whether a frame's last line has had its fate. -/
def State.frameFull (s : State) (f : CamFrame) : Bool :=
  let n := f.got + f.absent
  4096 ≤ n || (match (s.chain? f.chain).bind s.camLines with
    | some t => decide (t ≤ 4096 * f.no + n)
    | none => false)

/-- Whether a waiting line may be processed: every earlier trigger has had its fate, and so has the next line, unless the line is
absent or its frame's last. -/
def State.lineReady (s : State) (p : Nat) (l : CamLine) (next : Option CamLine) : Bool :=
  (s.cam p).trigs.all (fun t => !(CamAt.lt ⟨t.chain, t.q⟩ l.at_))
    && (l.px.isNone || (l.at_.q + 1) % 4096 = 0
      || (match (s.chain? l.at_.chain) with
          | some c => (match s.camLines c with
              | some t => decide (t ≤ l.at_.q + 1)
              | none => false)
          | none => true)
      || (match next with
          | some n => n.at_.chain ≠ l.at_.chain || n.at_.q = l.at_.q + 1
          | none => false))

/-- Lines whose turn has come are processed, in order; `all` processes every one that waits. Frames close with their last line. -/
def State.drainLines (p : Nat) (all : Bool) : Nat → State → State
  | 0, s => s
  | fuel + 1, s =>
    match (s.cam p).lines with
    | [] => s
    | l :: ls =>
      if !all && !s.lineReady p l ls.head? then s
      else
        let s := s.processLine p l
        let s := s.setCam p (fun x => { x with lines := x.lines.drop 1 })
        let s := match s.frame? p l.at_ with
          | some f => if s.frameFull f then s.closeFrame p f else s
          | none => s
        State.drainLines p all fuel s

/-- Insert a line among those that wait, in order. -/
def insertLine (l : CamLine) : List CamLine → List CamLine
  | [] => [l]
  | x :: xs => if l.at_.lt x.at_ then l :: x :: xs else x :: insertLine l xs

/-- A line's fate is known. -/
def State.lineFate (s : State) (p : Nat) (l : CamLine) : State :=
  let s := (s.openFrame p l.at_).setCam p (fun x => { x with lines := insertLine l x.lines })
  State.drainLines p false ((s.cam p).lines.length) s

/-- A camera line is absent (R266, R268). -/
def State.lineAbsent (s : State) (p : Nat) (l : CamAt) : State :=
  ((s.count (Reg.CAM_P_CNT.CNT p 1)).pmcAdd (360 + p)).lineFate p ⟨l, none, false⟩

/-- The frames of a port in chains that `sel` selects close as they stand (R269). -/
def State.closeFrames (s : State) (p : Nat) (sel : Nat → Bool) : State :=
  let s := s.when ((s.cam p).lines.any (fun l => sel l.at_.chain)) (fun s => State.drainLines p true ((s.cam p).lines.length) s)
  s.each ((s.cam p).frames.filter (fun f => sel f.chain)) (fun f s => s.closeFrame p f)

/-- Every port's frames of a chain close: it ends (R269). -/
def State.closeChainFrames (s : State) (c : Nat) : State :=
  s.each (List.range 8) (fun p s => s.closeFrames p (fun x => x = c))

/-! ### Settings sets as they take effect (R272) -/

/-- The camera line of the next trigger that a port has to send. -/
def State.nextTrigger (s : State) (p : Nat) : Option CamAt :=
  match (s.cam p).trigs.find? (fun t => !t.sent) with
  | some t => some ⟨t.chain, t.q⟩
  | none => (s.camNext p).map (fun x => ⟨x.1.id, x.2⟩)

def State.setSlot (s : State) (p slot : Nat) (f : CamSet → CamSet) : State :=
  s.setCam p (fun x => { x with sets := x.sets.map (fun e => if e.1 = slot then (e.1, f e.2) else e) })

/-- The PENDING and ACTIVE fields. -/
def State.showSets (s : State) (p : Nat) : State :=
  let x := s.cam p
  let pend := ((x.sets.filter (·.2.pend)).map (fun e => 2 ^ e.1)).sum
  (s.put (Reg.CAM_P_SET.PENDING p) pend).put (Reg.CAM_P_SET.ACTIVE p) ((x.acts.head?.map (·.2)).getD 0)

/-- SETTLING without an end ends where a set takes effect cleanly. -/
def CamSt.settled (x : CamSt) (at_ : CamAt) : CamSt :=
  { x with settling := x.settling.map (fun e => if e.stop = none then { e with stop := some at_ } else e) }

/-- What the acknowledges decide for a set that takes effect at `at_`: clean, late, or still open. -/
def State.setOutcome (s : State) (p slot : Nat) (at_ : CamAt) (x : CamSet) : State :=
  let ds := s.get (Reg.CAM_P_SENS.DELAY p)
  let all := x.acked = setWrites x.bytes
  let clean : Bool := setWrites x.bytes = 0 || (all && (match x.lastAck with
    | some a => a.chain < at_.chain || (a.chain = at_.chain && decide (a.q + ds ≤ at_.q))
    | none => false))
  if clean then s.setCam p (·.settled at_)
  else if all then
    let stop : CamAt := match x.lastAck with
      | some a => ⟨a.chain, a.q + ds⟩
      | none => at_
    (s.setCam p (fun y => { y with settling := y.settling ++ [⟨at_, some stop⟩] })).post (ev Code.ST_CAM_SET_LATE (srcCP p) slot)
  else s.setCam p (fun y => { y with settling := y.settling ++ [⟨at_, none⟩] })

/-- A pending set takes effect. -/
def State.takeSet (s : State) (p slot : Nat) (at_ : CamAt) (x : CamSet) : State :=
  let s := (s.setSlot p slot (fun y => { y with pend := false, took := some at_ })).setCam p
    (fun y => { y with acts := (at_, slot) :: y.acts })
  (s.setOutcome p slot at_ x).showSets p

/-- The pending sets whose line a port's trigger has come to; where their chain has ended first, they take effect at line 0 of the
next. -/
def State.setsTake (s : State) (p : Nat) (l : CamAt) : State :=
  s.each ((s.cam p).sets.filter (fun e => e.2.pend && e.2.start.le l)) (fun e s =>
    s.takeSet p e.1 (if e.2.start.chain = l.chain then e.2.start else ⟨l.chain, 0⟩) e.2)

/-- The camera writes of a set have failed: the previous set stays active, and every line is SETTLING until another set takes effect
cleanly. -/
def State.setFails (s : State) (p slot : Nat) : State :=
  let here : CamAt := (s.nextTrigger p).getD ⟨s.job.nextChain, 0⟩
  let s := s.setCam p (fun x => { x with
    sets := x.sets.map (fun e => if e.1 = slot then (e.1, { e.2 with pend := false, failed := true }) else e),
    acts := match (x.sets.lookup slot).bind (·.took) with
      | some t => x.acts.filter (fun a => !(a.1 = t && a.2 = slot))
      | none => x.acts,
    settling := x.settling ++ [⟨here, none⟩], waiting := x.waiting.filter (· ≠ slot) })
  (s.post (ev Code.ST_CAM_SET_FAIL (srcCP p) slot)).showSets p

/-- A camera write of a set is acknowledged: the last one decides what SETTLING of a set already in effect is left. -/
def State.setAcked (s : State) (p slot : Nat) : State :=
  let s := s.setSlot p slot (fun x => { x with acked := x.acked + 1, lastAck := s.nextTrigger p })
  match (s.cam p).sets.lookup slot with
  | none => s
  | some x =>
    match x.took with
    | none => s
    | some t =>
      if x.acked < setWrites x.bytes then s
      else
        (s.setCam p (fun y => { y with settling := y.settling.filter (fun e => !(e.start = t && e.stop = none)) })).setOutcome p
          slot t x

/-- The next camera write of a set goes out on the control channel (R262, R272). -/
def State.sendWrite (s : State) (p slot : Nat) : State :=
  match (s.cam p).sets.lookup slot with
  | none => s
  | some x =>
    if x.failed || setWrites x.bytes ≤ x.sent then s
    else
      let bytes := leBytes 4 (setWriteAddr x.bytes x.sent) ++ leBytes 4 (setWriteValue x.bytes x.sent)
      let s := (s.send (.camera p 1 bytes)).setSlot p slot (fun x => { x with sent := x.sent + 1 })
      ((s.put (Reg.CAM_P_CC_CTRL.BUSY p) 1).setCam p (fun y => { y with ccSlot := some slot, ccAt := s.now }))

/-- A transaction has ended: the writes that wait go next (R262). -/
def State.ccNext (s : State) (p : Nat) (slot : Option Nat) : State :=
  let s := (s.put (Reg.CAM_P_CC_CTRL.BUSY p) 0).setCam p ({ · with ccSlot := none })
  let again : List Nat := match slot with
    | some n => (match (s.cam p).sets.lookup n with
        | some x => if !x.failed && x.sent < setWrites x.bytes then [n] else []
        | none => [])
    | none => []
  match again ++ (s.cam p).waiting with
  | [] => s
  | n :: _ => (s.setCam p (fun x => { x with waiting := x.waiting.filter (· ≠ n) })).sendWrite p n

end Sys2Proof.Machine
end

