-- ==== Sys2Proof/Machine/Inflate.lean ====
section
/-! DEFINITION. The inflate decoder (R377, R381, R382): DEFLATE of RFC 1951 and the zlib wrapper of RFC 1950, with the
manual's errors, as a machine that takes one symbol a step. -/

namespace Sys2Proof.Machine

/-- A canonical Huffman code: each symbol's length, code (first bit highest) and number. -/
abbrev Huff := List (Nat × Nat × Nat)

/-- The canonical codes of a list of lengths (RFC 1951): shorter codes first, symbols of one length in order. -/
def huffOf (lens : List Nat) : Huff :=
  let syms := lens.mapIdx (fun i l => (l, i))
  let ordered := (List.range 16).flatMap (fun l => if l = 0 then [] else syms.filter (fun e => e.1 = l))
  (ordered.foldl (fun (acc : Nat × Nat × Huff) e =>
    let code := acc.1 * 2 ^ (e.1 - acc.2.1)
    (code + 1, e.1, (e.1, code, e.2) :: acc.2.2)) (0, 0, [])).2.2

/-- 2^15 times the share of the code space that a code uses. -/
def huffSpace (lens : List Nat) : Nat := (lens.map (fun l => if l = 0 then 0 else 2 ^ (15 - l))).sum

/-- A code that is complete. -/
def huffComplete (lens : List Nat) : Bool := huffSpace lens = 2 ^ 15

/-- A distance code: complete, or a single code, or RFC 1951's one code of zero bits. -/
def huffDist (lens : List Nat) : Bool :=
  huffComplete lens || (lens.filter (· ≠ 0)).length = 1 || lens = [0]

/-- Where the decoder stands. -/
inductive ZMode where
  | header | block
  | codes (last : Bool) (lit dist : Huff)
  | stored (last : Bool) (left : Nat)
  | trailer | done
  deriving DecidableEq, Repr

/-- The decoder: its input bits still to come, the bits consumed, its output (newest byte first) and its length, and the bits
consumed when the output reached the limit of a buffer. -/
structure ZDec where
  mode : ZMode
  bits : List Bool
  pos  : Nat
  out  : List Byte
  len  : Nat
  mark : Option Nat
  deriving DecidableEq, Repr

/-- Why a step cannot be taken: the input ends, or an error of R382. -/
inductive ZStop where
  | more
  | err (code : Nat)
  deriving DecidableEq, Repr

abbrev ZRead (α : Type) := List Bool → Except ZStop (α × List Bool)

/-- The next `n` bits, the first the lowest. -/
def zBits : Nat → ZRead Nat
  | 0, bs => .ok (0, bs)
  | _ + 1, [] => .error .more
  | n + 1, b :: bs => match zBits n bs with
    | .ok (x, r) => .ok (b.toNat + 2 * x, r)
    | .error e => .error e

/-- The next symbol of a code. -/
def zSym (h : Huff) : Nat → Nat → Nat → ZRead Nat
  | 0, _, _, _ => .error (.err Code.ST_ZERR_CODE)
  | _ + 1, _, _, [] => .error .more
  | fuel + 1, l, c, b :: bs =>
    match h.find? (fun e => e.1 = l + 1 && e.2.1 = 2 * c + b.toNat) with
    | some e => .ok (e.2.2, bs)
    | none => zSym h fuel (l + 1) (2 * c + b.toNat) bs

def zCode (h : Huff) : ZRead Nat := zSym h 15 0 0

/-- The order of the code lengths of the code-length code (RFC 1951). -/
def clOrder : List Nat := [16, 17, 18, 0, 8, 7, 9, 6, 10, 5, 11, 4, 12, 3, 13, 2, 14, 1, 15]

/-- `n` three-bit code lengths. -/
def zThrees : Nat → ZRead (List Nat)
  | 0, bs => .ok ([], bs)
  | n + 1, bs => do
    let (x, bs) ← zBits 3 bs
    let (xs, bs) ← zThrees n bs
    return (x :: xs, bs)

/-- The code lengths of a dynamic block: `n` in all, `acc` newest first. -/
def zLens (h : Huff) (n : Nat) : Nat → List Nat → ZRead (List Nat)
  | 0, _, _ => .error (.err Code.ST_ZERR_LEN)
  | fuel + 1, acc, bs =>
    if acc.length = n then .ok (acc.reverse, bs)
    else do
      let (s, bs) ← zCode h bs
      if s < 16 then zLens h n fuel (s :: acc) bs
      else if s = 16 && acc = [] then .error (.err Code.ST_ZERR_CODE)
      else do
        let (k, bs) ← zBits (if s = 16 then 2 else if s = 17 then 3 else 7) bs
        let k := k + (if s = 18 then 11 else 3)
        if n < acc.length + k then .error (.err Code.ST_ZERR_LEN)
        else zLens h n fuel (List.replicate k (if s = 16 then acc.headD 0 else 0) ++ acc) bs

/-- The codes of a dynamic block. -/
def zDynamic : ZRead (Huff × Huff) := fun bs => do
  let (hlit, bs) ← zBits 5 bs
  let (hdist, bs) ← zBits 5 bs
  let (hclen, bs) ← zBits 4 bs
  let (cls, bs) ← zThrees (hclen + 4) bs
  let clens := (List.range 19).map (fun i => ((clOrder.zip cls).lookup i).getD 0)
  if !huffComplete clens then .error (.err Code.ST_ZERR_CODE)
  else do
    let n := hlit + 257
    let (lens, bs) ← zLens (huffOf clens) (n + hdist + 1) 400 [] bs
    let lit := lens.take n
    let dist := lens.drop n
    if !huffComplete lit || !huffDist dist then .error (.err Code.ST_ZERR_CODE)
    else if lit.getD 256 0 = 0 then .error (.err Code.ST_ZERR_LEN)
    else return ((huffOf lit, huffOf dist), bs)

/-- The fixed codes of RFC 1951. -/
def fixedLit : List Nat := List.replicate 144 8 ++ List.replicate 112 9 ++ List.replicate 24 7 ++ List.replicate 8 8
def fixedDist : List Nat := List.replicate 32 5

/-- The base and the extra bits of a length symbol. -/
def lenBase (s : Nat) : Nat × Nat :=
  if s = 285 then (258, 0)
  else if s < 265 then (s - 254, 0)
  else
    let e := (s - 261) / 4
    ((4 + (s - 261) % 4) * 2 ^ e + 3, e)

/-- The base and the extra bits of a distance symbol. -/
def distBase (s : Nat) : Nat × Nat :=
  if s < 4 then (s + 1, 0)
  else
    let e := (s - 2) / 2
    ((2 + s % 2) * 2 ^ e + 1, e)

/-- Copy a match, byte by byte. -/
def zCopy (dist : Nat) : Nat → List Byte → List Byte
  | 0, out => out
  | n + 1, out => zCopy dist n (out.getD (dist - 1) 0 :: out)

/-- The bits that remain of the byte in hand. -/
def zAlign (pos : Nat) (bs : List Bool) : List Bool := bs.drop ((8 - pos % 8) % 8)

/-- The Adler-32 of bytes, the first the oldest. -/
def adler32 (bs : List Byte) : Nat :=
  let (a, b) := bs.foldl (fun (x : Nat × Nat) c =>
    let a := (x.1 + c.toNat) % 65521
    (a, (x.2 + a) % 65521)) (1, 0)
  b * 65536 + a

/-- The decoder in a new mode after reading to `bs`. -/
def ZDec.goTo (z : ZDec) (mode : ZMode) (bs : List Bool) : ZDec :=
  { z with mode := mode, bits := bs, pos := z.pos + (z.bits.length - bs.length) }

/-- More output: the limit is noted when it is reached. -/
def ZDec.emit (z : ZDec) (limit : Nat) (out : List Byte) (n : Nat) : ZDec :=
  { z with out := out, len := z.len + n, mark := z.mark.or (if limit ≤ z.len + n then some z.pos else none) }

/-- After a block: the trailer, the end, or the next block. -/
def afterBlock (zlib last : Bool) : ZMode := if !last then .block else if zlib then .trailer else .done

/-- A literal, a match or the end of the block. -/
def zSymbol (zlib : Bool) (limit : Nat) (last : Bool) (lit dist : Huff) (z : ZDec) : Except ZStop ZDec := do
  let (s, bs) ← zCode lit z.bits
  if s < 256 then return (z.goTo z.mode bs).emit limit (BitVec.ofNat 8 s :: z.out) 1
  else if s = 256 then return z.goTo (afterBlock zlib last) bs
  else if 286 ≤ s then .error (.err Code.ST_ZERR_CODE)
  else do
    let (lb, le) := lenBase s
    let (lx, bs) ← zBits le bs
    let (d, bs) ← zCode dist bs
    if 30 ≤ d then .error (.err Code.ST_ZERR_CODE)
    else do
      let (db, de) := distBase d
      let (dx, bs) ← zBits de bs
      if z.len < db + dx then .error (.err Code.ST_ZERR_DIST)
      else return (z.goTo z.mode bs).emit limit (zCopy (db + dx) (lb + lx) z.out) (lb + lx)

/-- One step of the decoder. -/
def zStep (zlib : Bool) (limit : Nat) (z : ZDec) : Except ZStop ZDec :=
  match z.mode with
  | .header => do
    let (cmf, bs) ← zBits 8 z.bits
    let (flg, bs) ← zBits 8 bs
    if cmf % 16 ≠ 8 || 7 < cmf / 16 || (cmf * 256 + flg) % 31 ≠ 0 || flg / 32 % 2 = 1 then .error (.err Code.ST_ZERR_CODE)
    else return z.goTo .block bs
  | .block => do
    let (last, bs) ← zBits 1 z.bits
    let (type, bs) ← zBits 2 bs
    if type = 3 then .error (.err Code.ST_ZERR_CODE)
    else if type = 1 then return z.goTo (.codes (last = 1) (huffOf fixedLit) (huffOf fixedDist)) bs
    else if type = 2 then do
      let ((lit, dist), bs) ← zDynamic bs
      return z.goTo (.codes (last = 1) lit dist) bs
    else do
      let (len, bs) ← zBits 16 (zAlign (z.pos + 3) bs)
      let (nlen, bs) ← zBits 16 bs
      if len + nlen ≠ 65535 then .error (.err Code.ST_ZERR_LEN)
      else return z.goTo (.stored (last = 1) len) bs
  | .codes last lit dist => zSymbol zlib limit last lit dist z
  | .stored last left =>
    match left with
    | 0 => .ok (z.goTo (afterBlock zlib last) z.bits)
    | n + 1 => do
      let (b, bs) ← zBits 8 z.bits
      return (z.goTo (.stored last n) bs).emit limit (BitVec.ofNat 8 b :: z.out) 1
  | .trailer => do
    let (x, bs) ← zBits 32 (zAlign z.pos z.bits)
    let sum := (x % 256) * 2 ^ 24 + x / 2 ^ 8 % 256 * 2 ^ 16 + x / 2 ^ 16 % 256 * 2 ^ 8 + x / 2 ^ 24
    if sum ≠ adler32 z.out.reverse then .error (.err Code.ST_ZERR_CHECK) else return z.goTo .done bs
  | .done => .ok z

/-- Steps until the stream ends, an error, or no more input. -/
def zRun (zlib : Bool) (limit : Nat) : Nat → ZDec → ZDec × Option ZStop
  | 0, z => (z, some .more)
  | fuel + 1, z =>
    if z.mode = .done then (z, none)
    else match zStep zlib limit z with
      | .ok z => zRun zlib limit fuel z
      | .error e => (z, some e)

/-- The bits of bytes, the lowest bit of each first. -/
def byteBits (bs : List Byte) : List Bool := bs.flatMap (fun b => (List.range 8).map (bit b.toNat))

/-- Decode a stream from its first byte; `limit` is an output length to note. -/
def inflate (zlib : Bool) (limit : Nat) (src : List Byte) : ZDec × Option ZStop :=
  zRun zlib limit (8 * src.length + 8) ⟨if zlib then .header else .block, byteBits src, 0, [], 0, none⟩

end Sys2Proof.Machine
end

