-- ==== Sys2Proof/Machine/Barrier.lean ====
section
/-! DEFINITION. The isolation barrier: frames, their CRC and the closed message set (R423 to R425, R477). -/

namespace Sys2Proof.Machine

/-- The CRC-8 of R424: x^8 + x^2 + x + 1, over `n` bits, most significant first. -/
def crc8 (n x : Nat) : Nat :=
  (List.range n).foldl (fun c i =>
    let top := (c / 128 % 2) ^^^ (x / 2 ^ (n - 1 - i) % 2)
    let c := c * 2 % 256
    if top = 1 then c ^^^ 0x07 else c) 0

/-- A frame's 48 bits: TYPE, PAYLOAD and CRC-8. -/
def frameBits (type payload : Nat) : Nat :=
  let body := type * 2 ^ 34 + payload % 2 ^ 34
  body * 256 + crc8 40 body

/-- A frame on the wire (R423): 0b01, its 48 bits, and a stop bit of 1, the first bit sent the most significant of 51. -/
def frameWire (type payload : Nat) : Nat := 2 ^ 49 + frameBits type payload * 2 + 1

/-- The closed message set: the channel (0 for every timing channel, 3 CMD, 4 STS, 5 BCN_M, 6 BCN_F), the TYPE, and how many
payload bits it uses from bit 0 up; those above are reserved (the tables "Barrier message set" and "Motion frames"). -/
def messageSet : List (Nat × Nat × Nat) := [
  (0, 0x01, 34), (0, 0x02, 33), (0, 0x03, 34), (0, 0x05, 34), (0, 0x06, 33), (0, 0x07, 34),
  (3, 0x10, 32), (3, 0x11, 12), (3, 0x12, 16), (3, 0x13, 8), (3, 0x14, 0), (3, 0x15, 2), (3, 0x16, 26), (3, 0x17, 18),
  (3, 0x18, 1), (3, 0x19, 17), (3, 0x1A, 34), (3, 0x1B, 34),
  (4, 0x20, 26), (4, 0x21, 25), (4, 0x22, 22), (4, 0x23, 34), (4, 0x24, 32), (4, 0x25, 26), (4, 0x26, 3),
  (4, 0x28, 34), (4, 0x29, 34), (4, 0x2A, 34), (4, 0x2B, 34), (4, 0x2C, 34),
  (5, 0x3E, 34), (6, 0x3F, 34)]

/-- Whether a receiver accepts 48 bits on a channel (R425): the CRC matches, the TYPE is listed for the channel, and the reserved
payload bits are 0. -/
def frameFits (ch frame : Nat) : Bool :=
  let type := frame / 2 ^ 42
  let payload := frame / 256 % 2 ^ 34
  frame = frameBits type payload
    && messageSet.any (fun m => m.1 = (if ch < 3 then 0 else ch) && m.2.1 = type && payload < 2 ^ m.2.2)

/-- Send a frame that starts at Meridian time `start`. -/
def State.sendFrameAt (s : State) (start ch type payload : Nat) : State := s.send (.frame ch start (frameWire type payload))

/-- Send a frame now. -/
def State.sendFrame (s : State) (ch type payload : Nat) : State := s.sendFrameAt s.now ch type payload

/-- A CMD-channel frame that the main die sends. -/
def State.cmdFrame (s : State) (type payload : Nat) : State := s.sendFrame 3 type payload

/-- A STS-channel frame that the field die sends. -/
def State.stsFrame (s : State) (type payload : Nat) : State := s.sendFrame 4 type payload

/-- A FAULT frame: CODE, INSTANCE and DETAIL. -/
def State.faultFrame (s : State) (code : Nat) (inst detail : Nat := 0) : State :=
  s.stsFrame 0x23 (code + 256 * inst + 65536 * detail)

/-- Console bytes cross the barrier three to a frame (UART_TX on CMD, UART_RX on STS). -/
def State.uartFrames (s : State) (ch type : Nat) (bytes : List Nat) : State :=
  s.each (List.range ((bytes.length + 2) / 3)) (fun k s =>
    let part := (bytes.drop (3 * k)).take 3
    s.sendFrame ch type (part.foldr (fun b n => b % 256 + 256 * n) 0 + part.length * 2 ^ 24))

end Sys2Proof.Machine
end

