-- ==== Sys2Proof/Machine/Coils.lean ====
section
/-! DEFINITION. The current regulators of one coil (R469 to R471, R474): the electrical angle, the hysteresis chopper and the
voltage-mode regulator. Currents are in nA, voltages in 10^-14 V, times in 100 ns, and a duty in 1/4096. -/

namespace Sys2Proof.Machine

/-- cos and sin of 2π × 2^i / 1,024, for i from 0 to 9, in units of 2^-60. -/
def turnTable : List (Int × Int) := [
  (1152899801185339687, 7074193361797233), (1152834691737939372, 14148120384212745), (1152574266204915294, 28294110113536504),
  (1151532760162549490, 56571176913125535), (1147369872436662991, 113006068906017470), (1130768441178740757, 224923827593068887),
  (1065160580698383124, 441203958630471860), (815238614083298888, 815238614083298888), (0, 2 ^ 60), (-(2 ^ 60), 0)]

/-- cos θ and sin θ in units of 2^-60, with θ = 2π × (P mod 1,024) / 1,024 (R458). -/
def electrical (pos : Int) : Int × Int :=
  let p := (pos % 1024).toNat
  (List.range 10).foldl (fun cs i =>
    if bit p i then
      let (a, b) := turnTable.getD i (0, 0)
      ((cs.1 * a - cs.2 * b) / 2 ^ 60, (cs.2 * a + cs.1 * b) / 2 ^ 60)
    else cs) (2 ^ 60, 0)

/-- A CS reading, signed about the middle of the input's span in 1/4,096 of it (R549), as a current: the span is `fs` mA (R469). -/
def sensed (fs : Nat) (reading : Int) : Int := divOpen (reading * fs * 10 ^ 6) 4096

/-- Whether a coil's reference is positive: the chopper works on the magnitude. -/
def Coil.sign (c : Coil) : Int := if 0 ≤ c.iref then 1 else -1

/-- 64 chopper cycles have ended: the offset moves by an eighth of the mean error, within ±H (R470). -/
def Coil.adapt (c : Coil) (h : Nat) : Coil :=
  if c.cycles < 64 then c
  else { c with
    cycles := 0, n := 0, sum := 0,
    ofs := clamp (c.ofs + divOpen (c.iref.natAbs - divOpen c.sum (max c.n 1)) 8) (-(h : Int)) h }

/-- One current sample of a HYST coil at `t` (R470): the bridge drives up to i_ref + O + H / 2, and decays for TOFF at least and down
to i_ref + O − H / 2; the comparator is blind for BLANK after each edge. -/
def Coil.chop (h blank toff t : Nat) (c : Coil) (i : Int) : Coil :=
  let x := c.sign * i
  let mid := (c.iref.natAbs : Int) + c.ofs
  let c := { c with n := c.n + 1, sum := c.sum + x }
  if t < c.edgeAt + blank then c
  else if c.duty ≠ 0 then (if 2 * mid + h ≤ 2 * x then { c with duty := 0, edgeAt := t } else c)
  else if 2 * x ≤ 2 * mid - h && c.edgeAt + toff ≤ t then
    ({ c with duty := c.sign * 4096, edgeAt := t, cycles := c.cycles + 1 }).adapt h
  else c

/-- The integral of the error, in nA × control ticks: its term alone never exceeds VBUS (R471). -/
def Coil.integrate (ki vbus : Nat) (c : Coil) : Int :=
  let q := c.integ + (c.iref - c.i)
  if ki = 0 then q else clamp q (-(vbus * 10 ^ 12 / ki : Nat)) (vbus * 10 ^ 12 / ki : Nat)

/-- u of R471, from the previous reference and the term of the back-EMF. -/
def Coil.voltage (kr kl kp ki : Nat) (emf : Int) (prev : Int) (c : Coil) : Int :=
  kr * c.iref * 100 + kl * (c.iref - prev) * 10 ^ 4 + emf + kp * (c.iref - c.i) * 100 + ki * c.integ

/-- duty = clamp(u / VBUS, -1, +1) in twelve bits; with VBUS 0 the quotient is the open value `x` (R471). -/
def dutyOf (u : Int) (vbus x : Nat) : Int :=
  if vbus = 0 then (x % 8193 : Nat) - 4096 else clamp (divOpen (u * 4096) (vbus * 10 ^ 12)) (-4096) 4096

/-- What 10 µs show of R474's faults: a current below a quarter of the reference at full duty, and an input at an end of its span. -/
def Coil.watch (full : Bool) (readings : List Int) (c : Coil) : Coil :=
  let rails := fun (r : Int) => decide (r ≤ -2048) || decide (2047 ≤ r)
  let low := full && decide (4 * c.i.natAbs < c.iref.natAbs)
  { c with
    weak := if low then c.weak + 1 else 0
    rail := if readings.all rails && rails c.raw then c.rail + 1 else 0 }

end Sys2Proof.Machine
end

