-- ==== Sys2Proof/Machine/Trajectory.lean ====
section
/-! DEFINITION. The profiles of an axis (R460, R462, R464): segment polynomials, and jerk-limited trajectories as lists of
phases, in exact integer arithmetic over picoseconds. -/

namespace Sys2Proof.Machine

/-- One microstep, one microstep/s and one microstep/s² in the trajectory's units. -/
def posUnit : Nat := 6 * 10 ^ 36
def velUnit : Nat := 2 * 10 ^ 24
def accUnit : Nat := 10 ^ 12

/-- A point of a trajectory: position, velocity and acceleration in the trajectory's units. -/
structure Motion where
  x : Int
  v : Int
  a : Int
  deriving DecidableEq, Repr

/-- The point `n` ps later under a constant jerk, in microsteps/s³. -/
def Motion.after (m : Motion) (j : Int) (n : Nat) : Motion :=
  { x := m.x + 3 * m.v * n + 3 * m.a * n ^ 2 + j * n ^ 3, v := m.v + 2 * m.a * n + j * n ^ 2, a := m.a + j * n }

/-- The point at the end of a list of phases. -/
def Motion.run (m : Motion) (ps : List (Int × Nat)) : Motion := ps.foldl (fun m p => m.after p.1 p.2) m

/-- The point `n` ps into a list of phases, and the phases that remain; past the last phase the point stays. -/
def Motion.advance (m : Motion) : List (Int × Nat) → Nat → Motion × List (Int × Nat)
  | [], _ => (m, [])
  | (j, d) :: ps, n =>
    if n < d then (m.after j n, (j, d - n) :: ps) else Motion.advance (m.after j d) ps (n - d)

/-- The shortest change of velocity to `v1`, ending at acceleration 0, with jerk ±`jm` and acceleration within `am` (R462,
R464): jerk toward a peak acceleration, hold it, jerk back. -/
def velPhases (m : Motion) (v1 : Int) (am jm : Nat) : List (Int × Nat) :=
  if jm = 0 then [] else
  let dir : Int := if m.v + m.a * m.a.natAbs / jm ≤ v1 then 1 else -1
  let a0 := dir * m.a
  let dv := dir * (v1 - m.v)
  let cap : Int := am * accUnit
  let peak : Int := isqrt ((jm * dv + a0 * a0) / 2).toNat
  let ap := min peak cap
  let t1 := (ap - a0).natAbs / jm
  let j1 : Int := if a0 ≤ ap then jm else -(jm : Int)
  let dv1 := if a0 ≤ ap then (ap * ap - a0 * a0) / jm else (a0 * a0 - ap * ap) / jm
  let hold := if ap = 0 then 0 else ((dv - dv1 - ap * ap / jm) / (2 * ap)).toNat
  [(dir * j1, t1), (0, hold), (-(dir * (jm : Int)), ap.toNat / jm)]

/-- Go to velocity `vp`, then to rest. -/
def viaVelocity (m : Motion) (vp : Int) (am jm : Nat) : List (Int × Nat) :=
  let up := velPhases m vp am jm
  let top := m.run up
  up ++ velPhases { top with a := 0 } 0 am jm

/-- The peak velocity whose trajectory ends on the target: it is found by halving, since the end position rises with it. -/
def findVelocity (m : Motion) (target : Int) (am jm : Nat) : Nat → Int → Int → Int
  | 0, lo, _ => lo
  | fuel + 1, lo, hi =>
    let mid := (lo + hi) / 2
    if (m.run (viaVelocity m mid am jm)).x ≤ target then findVelocity m target am jm fuel mid hi
    else findVelocity m target am jm fuel lo mid

/-- A time longer than any move: a limit of 0 lets nothing move. -/
def forever : Nat := 10 ^ 30

/-- The shortest-time trajectory to rest at `target` (R462): via the peak velocity that ends on it, or via ±VMAX with a
cruise between. -/
def planMove (m : Motion) (target : Int) (vm am jm : Nat) : List (Int × Nat) :=
  if vm = 0 ∨ am = 0 ∨ jm = 0 then [(0, forever)] else
  let top : Int := vm * velUnit
  let cruise := fun (vp : Int) =>
    let up := velPhases m vp am jm
    let rest := (m.run (viaVelocity m vp am jm)).x
    let at_ := m.run up
    up ++ [(0, ((target - rest) / (3 * vp)).toNat)] ++ velPhases { at_ with a := 0 } 0 am jm
  if (m.run (viaVelocity m top am jm)).x ≤ target then cruise top
  else if target ≤ (m.run (viaVelocity m (-top) am jm)).x then cruise (-top)
  else viaVelocity m (findVelocity m target am jm 100 (-top) top) am jm

/-- Whether a planned move ends on its target without passing it (R463). -/
def noOvershoot (m : Motion) (target : Int) (vm am jm : Nat) : Bool :=
  let stop := (m.run (velPhases m 0 am jm)).x
  let dir : Int := if m.x ≤ target then 1 else -1
  0 < vm && 0 < am && 0 < jm && dir * (stop - target) ≤ 0

/-- The coefficients of R460 with D in µs: c2 = K2 × 10^6 / D² and c3 = K3 × 10^12 / D³. -/
def segK2 (d : Nat) (dp v0 v1 : Int) : Int := 3 * dp * 10 ^ 6 - (2 * v0 + v1) * d
def segK3 (d : Nat) (dp v0 v1 : Int) : Int := -2 * dp * 10 ^ 6 + (v0 + v1) * d

/-- The position `t` µs into a segment, rounded to the nearest microstep (R460). -/
def segPos (d : Nat) (p0 p1 v0 v1 : Int) (t : Nat) : Int :=
  let n := v0 * t * d ^ 3 + segK2 d (p1 - p0) v0 v1 * t ^ 2 * d + segK3 d (p1 - p0) v0 v1 * t ^ 3
  p0 + (2 * n + 10 ^ 6 * d ^ 3).fdiv (2 * 10 ^ 6 * d ^ 3)

/-- Velocity and acceleration `t` µs into a segment, in the trajectory's units: v0 + 2 c2 t + 3 c3 t² and 2 c2 + 6 c3 t (R460). -/
def segRate (d : Nat) (dp v0 v1 : Int) (t : Nat) : Int × Int :=
  let k2 := segK2 d dp v0 v1
  let k3 := segK3 d dp v0 v1
  ((v0 * d ^ 3 + 2 * k2 * t * d + 3 * k3 * t ^ 2) * velUnit / max (d ^ 3) 1,
    10 ^ 6 * (2 * k2 * d + 6 * k3 * t) * accUnit / max (d ^ 3) 1)

/-- The largest |v(t)| over a segment is at most VMAX: at both ends, and where the acceleration is 0 inside it. -/
def segVelOk (d : Nat) (dp v0 v1 : Int) (vmax : Nat) : Bool :=
  let k2 := segK2 d dp v0 v1
  let k3 := segK3 d dp v0 v1
  let inside := k3 ≠ 0 ∧ 0 < -k2 * k3.sign ∧ -k2 * k3.sign < 3 * k3.natAbs
  v0.natAbs ≤ vmax && v1.natAbs ≤ vmax &&
    (!inside || (v0 * (3 * k3 * d) - k2 * k2).natAbs ≤ vmax * (3 * k3 * d).natAbs)

/-- The checks of R461 on one segment. -/
def segOk (d : Nat) (p0 p1 v0 v1 : Int) (vmax amax jmax : Nat) : Bool :=
  let k2 := segK2 d (p1 - p0) v0 v1
  let k3 := segK3 d (p1 - p0) v0 v1
  segVelOk d (p1 - p0) v0 v1 vmax
    && 2 * k2.natAbs * 10 ^ 6 ≤ amax * 256 * d ^ 2
    && (2 * k2 + 6 * k3).natAbs * 10 ^ 6 ≤ amax * 256 * d ^ 2
    && 6 * k3.natAbs * 10 ^ 12 ≤ jmax * 65536 * d ^ 3

end Sys2Proof.Machine
end

