-- ==== Sys2Proof/Machine/Motion.lean ====
section
/-! DEFINITION. The axes of the field die (chapter 15): commands, moves, stops, the emergency lift and the control tick. -/

namespace Sys2Proof.Machine

/-! ### The field die's settings -/

/-- A setting that the field die applies (R433, R435): what was last applied, or the reset value. -/
def State.fget (s : State) (f : Fld) : Nat := bits (Sparse.get Reg.resetWord s.fld.applied f.addr).toNat f.lo f.width

/-- A one-bit setting that the field die applies. -/
def State.fflag (s : State) (f : Fld) : Bool := s.fget f ≠ 0

def State.setFld (s : State) (f : FldSt → FldSt) : State := { s with fld := f s.fld }
def State.setMot (s : State) (f : MotSt → MotSt) : State := { s with mot := f s.mot }

/-- The inputs whose FUNC is INTERLOCK (1) or WEB_BREAK (2) and which read 0. -/
def State.openInputs (s : State) (func : Nat) : List Nat :=
  (List.range 12).filter (fun i => s.fget (Reg.FLD_DI_CFG.FUNC i) = func && !bit s.fld.level i)

/-- Whether the field die acts on its inputs (R443). -/
def State.fieldActs (s : State) : Bool := s.fld.state = .active || s.fld.state = .orphan

/-! ### Axes -/

def State.axis (s : State) (n : Nat) : AxisSt := s.mot.axes.getD n {}

def AxisState.code : AxisState → Nat
  | .off => 0 | .standing => 1 | .table => 2 | .plan => 3 | .stopping => 4 | .emergency => 5

def AxisState.moving : AxisState → Bool
  | .table | .plan | .stopping | .emergency => true
  | _ => false

/-- P: the commanded position in whole microsteps. -/
def AxisSt.pos (x : AxisSt) : Int := (2 * x.x + posUnit).fdiv (2 * posUnit)

def AxisSt.motion (x : AxisSt) : Motion := ⟨x.x, x.v, x.a⟩
def AxisSt.at_ (x : AxisSt) (m : Motion) : AxisSt := { x with x := m.x, v := m.v, a := m.a }

def State.encEn (s : State) (n : Nat) : Bool := s.fflag (Reg.AX_CFG.ENC_EN n)

/-- E: the encoder count converted by AXn_ENC_RATIO (R458). -/
def State.axisEnc (s : State) (n : Nat) : Int :=
  let x := s.axis n
  let c := if s.fflag (Reg.AX_CFG.ENC_INV n) then -x.enc else x.enc
  divOpen (c * s.fget (Reg.AX_ENC_RATIO.RATIO n)) 65536 + x.encOfs

/-- The position at rest (R465). -/
def State.restPos (s : State) (n : Nat) : Int := if s.encEn n then s.axisEnc n else (s.axis n).pos

/-- What the five MOT_S frames of an axis carry: AXn_STS, P, E, REMAIN and the target in force (R477). -/
def State.axisWords (s : State) (n : Nat) : List Nat :=
  let x := s.axis n
  let imax := s.fget (Reg.AX_CUR1.IMAX n)
  let cur := if imax = 0 then 0 else (divOpen (x.cur * 255) (imax * 1000000)).toNat
  [cur % 256 * 2 ^ 24 + x.load.getD 255 % 256 * 2 ^ 16 + x.refuse % 8 * 2 ^ 13 + x.brake.toNat * 2 ^ 11 + x.posValid.toNat * 2 ^ 10
      + x.seg % 64 * 2 ^ 4 + x.st.code,
    unsigned 32 x.pos, unsigned 32 (s.axisEnc n), unsigned 32 x.remain, unsigned 32 x.tgt]

/-- The register that mirrors MOT_S frame 0x28 + k. -/
def axisMirror (n k : Nat) : Nat :=
  if k = 0 then Reg.AX_STS.AT n else if k = 1 then Reg.AX_POS.AT n else if k = 2 then Reg.AX_ENCPOS.AT n
  else if k = 3 then Reg.AX_REMAIN.AT n else Reg.AX_TGT.AT n

/-- Send MOT_S frame 0x28 + k of an axis; the main die's register mirrors it. -/
def State.axisFrame (s : State) (n k : Nat) : State :=
  let w := (s.axisWords n).getD k 0
  let s := s.setMot (fun m => { m with axes := updateAt m.axes n (fun x =>
    { x with sent := (List.range 5).map (fun j => if j = k then w else x.sent.getD j (2 ^ 32)) }) })
  (s.stsFrame (0x28 + k) (n + 4 * w)).when s.awake (·.setWord (axisMirror n k) (BitVec.ofNat 32 w))

/-- Frames go for what has changed (R477): AX_STS for its state, flags and refusal, REMAIN and the target, and P and E of an axis that
does not move. -/
def State.mirrorAxis (s : State) (n : Nat) : State :=
  let ws := s.axisWords n
  let x := s.axis n
  s.each ((List.range 5).filter (fun k =>
    let w := ws.getD k 0
    let was := x.sent.getD k (2 ^ 32)
    if k = 0 then was = 2 ^ 32 || w % 2 ^ 16 ≠ was % 2 ^ 16 else w ≠ was && (2 < k || !x.st.moving))) (fun k s => s.axisFrame n k)

/-- Change an axis, and send the frames that show it. -/
def State.setAxis (s : State) (n : Nat) (f : AxisSt → AxisSt) : State :=
  (s.setMot (fun m => { m with axes := updateAt m.axes n f })).mirrorAxis n

def srcAX (n : Nat) : Nat := srcField 49 13 n

/-- A FAULT frame of motion (R477): the axis in INSTANCE; the main die, where it runs, does `f`. -/
def State.axisTold (s : State) (n code detail : Nat) (f : State → State) : State :=
  (s.faultFrame code n detail).when s.awake f

/-- AX1 follows AX0 while the gantry is joined (R459). -/
def State.gantry (s : State) : Bool := s.fflag Reg.MOT_GANTRY.EN

/-- The axes that an operation on axis n moves. -/
def State.group (s : State) (n : Nat) : List Nat := if s.gantry && n < 2 then [0, 1] else [n]

/-- The axis whose settings govern axis n. -/
def State.lead (s : State) (n : Nat) : Nat := if s.gantry && n = 1 then 0 else n

def State.axVmax (s : State) (n : Nat) : Nat := s.fget (Reg.AX_VMAX.VAL n)
def State.axAmax (s : State) (n : Nat) : Nat := 256 * s.fget (Reg.AX_AMAX.VAL n)
def State.axJmax (s : State) (n : Nat) : Nat := 65536 * s.fget (Reg.AX_JMAX.VAL n)

/-! ### Ends of moves -/

/-- The descriptor whose move ended completes (R478). -/
def State.moveDone (s : State) (n status detail : Nat) : State :=
  match (s.axis n).desc with
  | none => s
  | some (r, i) => (s.setAxis n ({ · with desc := none })).complete r i status detail

/-- A limit that R463 held takes effect now that the axis stands. -/
def State.applyHeldLimits (s : State) (n : Nat) : State :=
  let held := (s.axis n).limHeld
  let s := s.setFld (fun f => { f with applied := held.foldl (fun l e => Sparse.insert e.1 e.2 l) f.applied })
  s.setAxis n ({ · with limHeld := [] })

/-- A move reaches its final target (R465, R467). -/
def State.moveReached (s : State) (n : Nat) : State :=
  let s := s.setAxis n (fun x => { x with
    st := .standing, restAt := s.now, phases := [], v := 0, a := 0, x := x.final * posUnit, remain := 0, atHold := false })
  let s := (s.put (Reg.AX_EVT.DONE n) 1).count (Reg.MOT_CNT.CNT 0)
  ((s.pmcAdd (464 + n)).post (ev Code.ST_MOT_DONE (srcAX n))).moveDone n Code.ST_OK 0 |>.applyHeldLimits n

/-- A move ends short of its final target, in state `st` (R465). -/
def State.moveShort (s : State) (n : Nat) (st : AxisState) : State :=
  let rem := (s.axis n).final - s.restPos n
  let s := s.setAxis n (fun x => { x with st := st, restAt := s.now, phases := [], v := 0, a := 0, remain := rem, atHold := false })
  let s := (s.count (Reg.MOT_CNT.CNT 1)).post (ev Code.ST_MOT_STOPPED (srcAX n) (unsigned 32 rem))
  (s.moveDone n Code.ST_MOT_STOPPED (unsigned 32 rem)).applyHeldLimits n

/-- Entry to OFF (R475): the brake engages, and the bridges turn off BRK_DELAY ms later. -/
def State.axisOff (s : State) (n : Nat) : State :=
  s.setAxis n ({ · with st := .off, brake := true, brkPend := some false, brkAt := s.now, phases := [], v := 0, a := 0, thenOff := false })

/-- A stop begins on the axis's stop profile (R464); an axis that stands or is OFF, STOPPING or in EMERGENCY stays so. -/
def State.axisStop (s : State) (n : Nat) : State :=
  s.each (s.group n) (fun k s =>
    match (s.axis k).st with
    | .table | .plan =>
      let g := s.lead k
      s.setAxis k (fun x => { x with
        st := .stopping,
        phases := velPhases x.motion 0 (256 * s.fget (Reg.AX_STOP_A.VAL g)) (65536 * s.fget (Reg.AX_STOP_J.VAL g)) })
    | _ => s)

/-- A following error or stall ends a move at once, with I at IMAX (R473). -/
def State.axisFail (s : State) (n : Nat) : State :=
  let s := s.setAxis n ({ · with cur := 1000000 * s.fget (Reg.AX_CUR1.IMAX n) })
  let s := if s.encEn n then s.setAxis n (fun x => { x with x := s.axisEnc n * posUnit })
    else s.setAxis n ({ · with posValid := false })
  s.moveShort n .standing

/-! ### The emergency lift (R476) -/

/-- The lift cannot run, or has failed: PARK_FAIL, FAULT 0x16. -/
def State.parkFail (s : State) (n : Nat) : State :=
  s.axisTold n 0x16 0 (fun s => (s.put (Reg.AX_EVT.PARK_FAIL n) 1).post (ev Code.ST_MOT_PARK_FAIL (srcAX n)))

/-- An axis in EMERGENCY stands, with the limits that R463 held. -/
def State.liftEnds (s : State) (n : Nat) : State :=
  (s.setAxis n ({ · with st := .standing, restAt := s.now, phases := [], v := 0, a := 0, atHold := false })).applyHeldLimits n

/-- BRK_DELAY of an axis in mt (R475). -/
def State.brkDelay (s : State) (n : Nat) : Nat := 4000000 * s.fget (Reg.AX_CUR2.BRK_DELAY n)

/-- What a lift ends (R476): the move in progress, short with REMAIN 0; an axis in OFF is enabled, and moves BRK_DELAY ms after that.
It answers that delay in ps. -/
def State.liftFrom (s : State) (n : Nat) : Nat × State :=
  let x := s.axis n
  if x.st.moving then
    (0, ((s.count (Reg.MOT_CNT.CNT 1)).post (ev Code.ST_MOT_STOPPED (srcAX n) (some 0))).moveDone n Code.ST_MOT_STOPPED 0)
  else if x.st ≠ .off then (0, s)
  else
    let left := if x.brkPend = some true then x.brkAt + s.brkDelay n - s.now else s.brkDelay n
    (250 * left, s.setAxis n ({ · with cur := 1000000 * s.fget (Reg.AX_CUR2.IHOLD n) }))

/-- The lift of one axis begins, whatever it is doing (R476): to AXn_PARK under R462, or with POS_VALID at 0 the way RAISE names until
a stall. A gantry moves as one, from AX0's profile. -/
def State.lift (n : Nat) (s : State) : State :=
  let g := s.lead n
  if (s.axis n).st = .emergency then s
  else
    let (wait, s) := s.liftFrom n
    let emv := s.fget (Reg.AX_EM_V.VAL g)
    let ema := 256 * s.fget (Reg.AX_EM_A.VAL g)
    let emj := 65536 * s.fget (Reg.AX_STOP_J.VAL g)
    let park := signed 32 (s.fget (Reg.AX_PARK.VAL g))
    let up : Int := (if s.fflag (Reg.AX_CFG.RAISE g) then -1 else 1) * emv * velUnit
    let x := s.axis g
    let m := x.motion
    s.setAxis n (fun y => { y.at_ m with
      st := .emergency, remain := 0, hardStop := !x.posValid, final := park, tgt := park, brake := false, bridges := true,
      brkPend := none, liftWait := false,
      phases := (0, wait) ::
        (if x.posValid then planMove m (park * posUnit) emv ema emj else velPhases m up ema emj ++ [(0, forever)]) })

/-- A web break starts the lift of AX0 and AX1 (R443, R476): while DRIVE is 0 it is reported as PARK_FAIL and waits. -/
def State.emergencyLift (s : State) : State :=
  if s.fld.drive then s.each [0, 1] State.lift
  else s.each [0, 1] (fun n s => (s.setAxis n ({ · with liftWait := true })).parkFail n)

/-- The lift ends at park, or at the hard stop (R476); in ORPHAN the axis then enters OFF (R479). -/
def State.parked (s : State) (n : Nat) (hard : Bool) : State :=
  let s := (s.liftEnds n).axisTold n 0x15 hard.toNat (fun s =>
    (s.put (Reg.AX_EVT.PARKED n) 1).post (ev Code.ST_MOT_PARKED (srcAX n) hard.toNat))
  s.when (s.fld.state = .orphan) (·.axisOff n)

/-! ### Commands (R461 to R468) -/

/-- A refusal: its reason, its flag, its event, and the descriptor that asked (R468, R478). -/
def State.axisRefuse (s : State) (n : Nat) (act : Option Nat) (reason : Nat) (via : Option (Nat × Nat)) : State :=
  let s := s.setAxis n ({ · with refuse := reason })
  let s := ((s.put (Reg.AX_EVT.REFUSED n) 1).count (Reg.MOT_CNT.CNT 3)).post (ev Code.ST_MOT_REFUSED (srcAX n) act reason)
  match via with
  | none => s
  | some (r, i) => s.complete r i Code.ST_MOT_REFUSED reason

/-- An operation that is not a move has been applied. -/
def State.axisDone (s : State) (via : Option (Nat × Nat)) : State :=
  match via with
  | none => s
  | some (r, i) => s.complete r i Code.ST_OK

/-- A skew refuses the starts of a joined gantry (R459). -/
def State.skewBar (s : State) (n : Nat) : Bool := s.gantry && s.mot.skewHold && n < 2

/-- The reason that refuses every command to an axis (R459, R468): MODE, FIELD, GANTRY. -/
def State.axisBar (s : State) (n : Nat) : Option Nat :=
  if s.mode ≤ 2 || 10 ≤ s.mode || s.get Reg.DUE_STS.ROLE = 2 || s.get Reg.DUE_STS.ROLE = 4 then some 7
  else if s.fld.state ≠ .active || !s.fld.drive
      || (s.openInputs 1).any (fun i => bit (s.fget (Reg.FLD_DI_CFG.AXMASK i)) n) then some 2
  else if s.gantry && n = 1 then some 4
  else none

/-- The first segment of a table that fails R461, numbered from `k`; `p0` and `v0` are where the segment starts. -/
def State.badSeg (s : State) (n : Nat) : List Nat → Int → Int → Option Nat
  | [], _, _ => none
  | k :: ks, p0, v0 =>
    let d := s.fget (Reg.AX_SEG_DUR.DUR n k)
    let p1 := signed 32 (s.fget (Reg.AX_SEG_POS.POS n k))
    let v1 := signed 32 (s.fget (Reg.AX_SEG_VEL.VEL n k))
    if !segOk d p0 p1 v0 v1 (s.axVmax n) (s.axAmax n / 256) (s.axJmax n / 65536) then some k
    else s.badSeg n ks p1 v1

/-- START (R461). -/
def State.axisStart (s : State) (n first last : Nat) (via : Option (Nat × Nat)) : State :=
  let x := s.axis n
  let segs := (List.range (last + 1)).filter (first ≤ ·)
  let bad := if last < first ∨ s.fget (Reg.AX_SEG_VEL.VEL n last) ≠ 0 then some first else s.badSeg n segs x.pos 0
  if x.st ≠ .standing || s.skewBar n then s.axisRefuse n (some 1) 1 via
  else if !x.posValid then s.axisRefuse n (some 1) 5 via
  else match bad with
    | some k =>
      (s.axisTold n 0x13 k (fun s =>
        (s.put (Reg.AX_EVT.PROFILE n) 1).post (ev Code.ST_MOT_PROFILE (srcAX n) k))).axisRefuse n (some 1) 3 via
    | none =>
      s.each (s.group n) (fun k s => s.setAxis k (fun y => { y with
        st := .table, seg := first, segLast := last, segT := 0, segP0 := x.pos, segV0 := 0, atHold := false,
        final := signed 32 (s.fget (Reg.AX_SEG_POS.POS n last)), desc := if k = n then via else none }))

/-- Plan a move to `target` from where the axis is (R462). Both axes of a gantry take AX0's profile (R459). -/
def State.planTo (s : State) (n : Nat) (target : Int) : State :=
  let m := (s.axis n).motion
  s.each (s.group n) (fun k s => s.setAxis k (fun x => { x.at_ m with
    st := .plan, tgt := target, final := target, atHold := false,
    phases := planMove m (target * posUnit) (s.axVmax n) (s.axAmax n) (s.axJmax n) }))

/-- GOTO (R462, R463, R467). -/
def State.axisGoto (s : State) (n : Nat) (via : Option (Nat × Nat)) : State :=
  let x := s.axis n
  if x.st = .plan then
    if s.fflag (Reg.AX_CFG.RETARGET n) then s.axisRefuse n (some 2) 6 via
    else ((s.moveDone n Code.ST_MOT_STOPPED 0).planTo n x.tgt).setAxis n ({ · with desc := via })
  else if x.st ≠ .standing || s.skewBar n then s.axisRefuse n (some 2) 1 via
  else if !x.posValid then s.axisRefuse n (some 2) 5 via
  else (s.planTo n x.tgt).setAxis n ({ · with desc := via })

/-- STOP (R464). -/
def State.axisStopCmd (s : State) (n : Nat) (via : Option (Nat × Nat)) : State :=
  if (s.axis n).st = .emergency then s.axisRefuse n (some 3) 1 via else (s.axisStop n).axisDone via

/-- RESUME (R466). -/
def State.axisResume (s : State) (n : Nat) (via : Option (Nat × Nat)) : State :=
  let x := s.axis n
  if x.st ≠ .standing || x.remain = 0 || s.skewBar n then s.axisRefuse n (some 4) 1 via
  else if !x.posValid then s.axisRefuse n (some 4) 5 via
  else (s.planTo n (s.restPos n + x.remain)).setAxis n ({ · with desc := via })

/-- ENABLE (R475): bridges on, brake released, STANDING BRK_DELAY ms later. -/
def State.axisEnable (s : State) (n : Nat) (via : Option (Nat × Nat)) : State :=
  if (s.axis n).st ≠ .off then s.axisRefuse n (some 5) 1 via
  else (s.each (s.group n) (fun k s => s.setAxis k (fun x => { x with
    bridges := true, brake := false, brkPend := some true, brkAt := s.now,
    cur := 1000000 * s.fget (Reg.AX_CUR2.IHOLD k), atHold := true }))).axisDone via

/-- DISABLE (R467). -/
def State.axisDisable (s : State) (n : Nat) (via : Option (Nat × Nat)) : State :=
  match (s.axis n).st with
  | .emergency => s.axisRefuse n (some 6) 1 via
  | .off => s.axisDone via
  | .standing => (s.each (s.group n) (fun k s => s.axisOff k)).axisDone via
  | _ => ((s.axisStop n).each (s.group n) (fun k s => s.setAxis k ({ · with thenOff := true }))).axisDone via

/-- SET_POS (R467). -/
def State.axisSetPos (s : State) (n : Nat) (via : Option (Nat × Nat)) : State :=
  let x := s.axis n
  if x.st ≠ .off && x.st ≠ .standing then s.axisRefuse n (some 7) 1 via
  else
    let s := s.setAxis n (fun x => { x with
      x := x.setPos * posUnit, posValid := true, remain := 0,
      encOfs := if s.encEn n then x.encOfs + (x.setPos - s.axisEnc n) else x.encOfs })
    (s.setMot ({ · with skewHold := s.mot.skewHold && 2 ≤ n })).axisDone via

/-- The MOVE frame (R477) at the field die. -/
def State.axisMove (s : State) (n act first last : Nat) (via : Option (Nat × Nat)) : State :=
  match s.axisBar n with
  | some reason => s.axisRefuse n (some act) reason via
  | none =>
    if act = 1 then s.axisStart n first last via
    else if act = 2 then s.axisGoto n via
    else if act = 3 then s.axisStopCmd n via
    else if act = 4 then s.axisResume n via
    else if act = 5 then s.axisEnable n via
    else if act = 6 then s.axisDisable n via
    else s.axisSetPos n via

/-- The TARGET frame (R463, R477) at the field die. -/
def State.axisTarget (s : State) (n : Nat) (v : Int) : State :=
  let x := s.axis n
  let s := s.setAxis n ({ · with setPos := v })
  if x.st ≠ .plan then s.setAxis n ({ · with tgt := v })
  else if s.fflag (Reg.AX_CFG.RETARGET n) then (if v = x.tgt then s else s.axisRefuse n none 6 none)
  else s.planTo n v

/-- A write of AXn_CMD or AXn_TARGET is held while DUE_STS.MOT_HELD is 1 (R468): `none` where it is not. -/
def State.holdMotion (s : State) (n a : Nat) (data : Word) (act : Nat) : Option State :=
  if !s.flag Reg.DUE_STS.MOT_HELD then none
  else if s.mot.held.length < 8 then some (s.setMot (fun m => { m with held := m.held ++ [(a, data)] }))
  else some ((s.put Reg.MOT_EVT.HELD_DROP 1).axisRefuse n (some act) 7 none)

/-- A write of AXn_CMD sends MOVE with its ACT (R477); ACT 0 sends nothing. -/
def State.motionCmd (s : State) (n : Nat) (data : Word) : State :=
  let act := wbits data 0 3
  if act = 0 then s
  else match s.holdMotion n (Reg.AX_CMD.AT n) data act with
    | some s => s
    | none =>
      (s.cmdFrame 0x19 (n + 4 * act + 32 * wbits data 8 6 + 2048 * wbits data 16 6)).axisMove n act
        (wbits data 8 6) (wbits data 16 6) none

/-- A write of AXn_TARGET sends TARGET (R477). -/
def State.motionTarget (s : State) (n : Nat) (data : Word) : State :=
  match s.holdMotion n (Reg.AX_TARGET.AT n) data 0 with
  | some s => s
  | none =>
    ((s.setWord (Reg.AX_TARGET.AT n) data).cmdFrame 0x1A (n + 4 * data.toNat)).axisTarget n (signed 32 data.toNat)

/-- The writes held under R468 go out when the member is confirmed. -/
def State.releaseMotion (s : State) : State :=
  let held := s.mot.held
  (s.setMot ({ · with held := [] })).each held (fun e s =>
    let n := (e.1 - 0x101000) / 0x400
    if e.1 % 0x400 = 0 then s.motionCmd n e.2 else s.motionTarget n e.2)

/-- Every held write is refused with reason MODE when the member becomes DETACHED (R468). -/
def State.dropMotion (s : State) : State :=
  let held := s.mot.held
  let s := s.when (held ≠ []) (·.put Reg.MOT_EVT.HELD_DROP 1)
  (s.setMot ({ · with held := [] })).each held (fun e s =>
    s.axisRefuse ((e.1 - 0x101000) / 0x400) (some (wbits e.2 0 3)) 7 none)

/-- Every axis that is not in EMERGENCY stops (R464: entry to M10 or M11, to ORPHAN). -/
def State.stopAxes (s : State) : State := s.each [0, 1, 2, 3] (fun n s => s.axisStop n)

/-! ### Limits (R463) -/

/-- The axis and the offset in its window of a BAR0 address in the axis windows. -/
def axisOf (a : Nat) : Nat × Nat := ((a - 0x101000) / 0x400, (a - 0x101000) % 0x400)

/-- The field die applies a setting, by the rules of R463 for limits while the axis is in a planned move. -/
def State.applySetting (s : State) (a : Nat) (v : Word) : State :=
  let put := fun (s : State) => s.setFld (fun f => { f with applied := Sparse.insert a v f.applied })
  let (n, o) := axisOf a
  if a < 0x101000 ∨ 0x102000 ≤ a ∨ (o ≠ 0x00C ∧ o ≠ 0x010 ∧ o ≠ 0x014) ∨ (s.axis n).st ≠ .plan then put s
  else
    let x := s.axis n
    let s' := put s
    if s.fflag (Reg.AX_CFG.RETARGET n)
        && (o = 0x00C || noOvershoot x.motion (x.final * posUnit) (s'.axVmax n) (s'.axAmax n) (s'.axJmax n)) then
      s'.planTo n x.tgt
    else (s.setAxis n (fun x => { x with limHeld := Sparse.insert a v x.limHeld })).put (Reg.AX_EVT.LIM_HELD n) 1

/-! ### The control tick (R458, R472, R473) -/

/-- What the control tick samples of one axis: its encoder count, and the sensorless estimate of |δ| in degrees. -/
def State.axisLoad (s : State) (n : Nat) (est : Option Nat) : Option Nat :=
  let x := s.axis n
  if s.encEn n then
    let d := (x.pos - s.axisEnc n) % 1024
    let d := if d < 512 then d else d - 1024
    some (divOpen (d.natAbs * 360) 1024).toNat
  else if x.v.natAbs * 100 < s.axVmax (s.lead n) * velUnit then none
  else est

/-- I of R472, in 10^-6 mA: it rises at once and falls by at most IMAX − IRUN per 10 ms. -/
def State.axisCur (s : State) (n : Nat) (load : Option Nat) : Nat :=
  let irun := s.fget (Reg.AX_CUR1.IRUN n) * 1000000
  let imax := s.fget (Reg.AX_CUR1.IMAX n) * 1000000
  let dlo := s.fget (Reg.AX_ADAPT.DLO n)
  let dhi := s.fget (Reg.AX_ADAPT.DHI n)
  let want := match load with
    | none => irun
    | some d => irun + (imax - irun) * (min d dhi - dlo) / (dhi - dlo)
  max want ((s.axis n).cur - (imax - irun) / 1000)

/-- A table move advances by one tick of 10 µs (R460). -/
def State.tableTick (s : State) (n : Nat) : State :=
  let x := s.axis n
  let g := s.lead n
  let d := s.fget (Reg.AX_SEG_DUR.DUR g x.seg)
  let p1 := signed 32 (s.fget (Reg.AX_SEG_POS.POS g x.seg))
  let v1 := signed 32 (s.fget (Reg.AX_SEG_VEL.VEL g x.seg))
  let t := x.segT + 10
  let u := min t d
  let p := segPos d x.segP0 p1 x.segV0 v1 u
  let (v, a) := segRate d (p1 - x.segP0) x.segV0 v1 u
  let x' := { x with x := p * posUnit, v := v, a := a }
  if t < d then s.setAxis n (fun _ => { x' with segT := t })
  else if x.seg < x.segLast then s.setAxis n (fun _ => { x' with seg := x.seg + 1, segT := 0, segP0 := p1, segV0 := v1 })
  else (s.setAxis n (fun _ => x')).moveReached n

/-- A move ends at rest: a planned move on its target, a stop, or a lift at park. -/
def State.moveRest (s : State) (n : Nat) : State :=
  match (s.axis n).st with
  | .plan => s.moveReached n
  | .stopping =>
    let off := (s.axis n).thenOff || s.fld.state = .orphan
    let s := s.moveShort n .standing
    s.when off (·.axisOff n)
  | .emergency => s.parked n false
  | _ => s

/-- One axis's profile advances by one tick. -/
def State.axisTick (s : State) (n : Nat) : State :=
  let x := s.axis n
  match x.st with
  | .table => s.tableTick n
  | .plan | .stopping | .emergency =>
    let (m, ps) := x.motion.advance x.phases 10000000
    let s := s.setAxis n (fun x => { x.at_ m with phases := ps })
    s.when (ps = []) (·.moveRest n)
  | _ => s

/-- Load angle, current and the counts of R473, after the profile has advanced. -/
def State.axisSense (s : State) (n : Nat) (est : Option Nat) : State :=
  let x := s.axis n
  if !x.st.moving then s.setAxis n ({ · with stallT := 0, followT := 0 })
  else
    let load := s.axisLoad n est
    let cur := s.axisCur n load
    let stall := cur = s.fget (Reg.AX_CUR1.IMAX n) * 1000000 && (load.getD 0) > 90
    let follow := s.encEn n && (x.pos - s.axisEnc n).natAbs > s.fget (Reg.AX_FOLLOW.LIM n)
    s.setAxis n (fun x => { x with
      load := load, cur := cur, stallT := if stall then x.stallT + 1 else 0, followT := if follow then x.followT + 1 else 0 })

/-- The gantry's skew (R459): beyond SKEW both axes stop, and starts stay refused until it falls to SKEW / 2. -/
def State.gantrySkew (s : State) : State :=
  let d := (s.axisEnc 0 - s.axisEnc 1).natAbs
  let lim := s.fget Reg.MOT_GANTRY.SKEW
  if s.mot.skewHold then s.when (2 * d ≤ lim) (·.setMot ({ · with skewHold := false }))
  else if !s.gantry || d ≤ lim then s
  else
    let lifting := [0, 1].filter (fun n => (s.axis n).st = .emergency)
    let s := s.each lifting (fun n s => (s.liftEnds n).parkFail n)
    ((s.setMot ({ · with skewHold := true })).axisStop 0).axisTold 0 0x12 0 (fun s =>
      (s.put (Reg.AX_EVT.SKEW 0) 1).post (ev Code.ST_MOT_SKEW (srcAX 0)))

/-- One coil of an axis in a control tick (R469 to R471): its reference, its back-EMF term, and the CS samples of the tick, each with
its time into the tick in 100 ns. -/
def State.coilTick (s : State) (n : Nat) (ref emf : Int) (cs : List (Nat × Int)) (c : Coil) : Coil :=
  let t0 := s.now / 400
  let fs := s.fget (Reg.AX_CS.FS n)
  let vmode := s.fflag (Reg.AX_CFG.REG n)
  let raw := (cs.getLast?.map (·.2)).getD c.raw
  let c0 := { c with iref := ref, raw := raw, i := sensed fs raw }
  let c1 :=
    if vmode then
      let vbus := s.fget (Reg.AX_VM2.VBUS n)
      let ki := s.fget (Reg.AX_VM3.KI n)
      let c0 := { c0 with integ := c0.integrate ki vbus }
      { c0 with duty := dutyOf (c0.voltage (s.fget (Reg.AX_VM1.KR n)) (s.fget (Reg.AX_VM1.KL n)) (s.fget (Reg.AX_VM3.KP n)) ki
          emf c.iref) vbus (s.open_ 32) }
    else
      let h := 1000000 * s.fget (Reg.AX_HYST.HYST n)
      cs.foldl (fun c e => c.chop h (s.fget (Reg.AX_HYST.BLANK n)) (s.fget (Reg.AX_HYST.TOFF n)) (t0 + e.1) (sensed fs e.2))
        { c0 with duty := if c0.duty = 0 then 0 else c0.sign * 4096 }
  c1.watch (c.duty.natAbs = 4096 && (vmode || c1.edgeAt < t0)) (cs.map (·.2))

/-- Both coils of an axis: i_A = I cos θ and i_B = I sin θ, e_A = -sin θ and e_B = cos θ (R469, R471); PWM is inactive while the
bridges are off or DRIVE is 0 (R445, R475). -/
def State.coilsTick (s : State) (n : Nat) (csA csB : List (Nat × Int)) : State :=
  let x := s.axis n
  if !x.bridges then s.setAxis n ({ · with coils := ({}, {}) })
  else if !s.fld.drive then
    s.setAxis n ({ · with coils := ({ x.coils.1 with duty := 0 }, { x.coils.2 with duty := 0 }) })
  else
    let (c, d) := electrical x.pos
    let emf := fun (e : Int) => divOpen (s.fget (Reg.AX_VM2.KE n) * x.v * e * 10 ^ 8) (256 * velUnit * 2 ^ 60)
    let s' := s.setAxis n ({ · with coils :=
      (s.coilTick n (divOpen (x.cur * c) (2 ^ 60)) (emf (-d)) csA x.coils.1,
       s.coilTick n (divOpen (x.cur * d) (2 ^ 60)) (emf c) csB x.coils.2) })
    s'.when (s.fflag (Reg.AX_CFG.REG n) && s.fget (Reg.AX_VM2.VBUS n) = 0) State.drawn

/-- The frames that time brings (R477): P and E every 100 µs while the axis moves, every frame every 1 ms. -/
def State.axisReports (s : State) (n : Nat) : State :=
  let x := s.axis n
  if x.allAt + 4000000 ≤ s.now then
    (s.each (List.range 5) (fun k s => s.axisFrame n k)).setMot (fun m =>
      { m with axes := updateAt m.axes n ({ · with allAt := s.now, posAt := s.now }) })
  else if x.st.moving && x.posAt + 400000 ≤ s.now then
    (s.each [1, 2] (fun k s => s.axisFrame n k)).setMot (fun m => { m with axes := updateAt m.axes n ({ · with posAt := s.now }) })
  else s

/-- The position that an SSI word carries (R450): BITS + 1 bits, in Gray code or binary. -/
def State.ssiWord (s : State) (n w : Nat) : Nat :=
  let k := s.fget (Reg.FLD_AE_CFG.BITS n) + 1
  let w := w % 2 ^ k
  if s.fflag (Reg.FLD_AE_CFG.GRAY n) then (List.range k).foldl (fun x i => x ^^^ (w / 2 ^ i)) 0 else w

/-- What encoder input AEn shows: its count, or with SSI the word read (R450). -/
def State.encRead (s : State) (n : Nat) (v : Int) : Int :=
  if s.fflag (Reg.FLD_AE_CFG.SSI n) then s.ssiWord n v.toNat else v

/-- The control tick: encoder counts, profiles, currents, coils, skew, and the frames that show them. -/
def State.controlTick (s : State) (enc : List Int) (est : List (Option Nat)) (cs : List (List (Nat × Int))) : State :=
  let s := s.each [0, 1, 2, 3] (fun n s => s.setAxis n (fun x =>
    let e := (enc[n]?.map (s.encRead n)).getD x.enc
    { x with enc := e, encAt := if e = x.enc then x.encAt else s.now }))
  let s := s.each [0, 1, 2, 3] (fun n s => s.axisTick n)
  let s := s.each [0, 1, 2, 3] (fun n s => s.axisSense n (est.getD n none))
  let s := s.each [0, 1, 2, 3] (fun n s => s.coilsTick n (cs.getD (2 * n) []) (cs.getD (2 * n + 1) []))
  s.gantrySkew.each [0, 1, 2, 3] (fun n s => s.axisReports n)

end Sys2Proof.Machine
end

