-- ==== Sys2Proof/Machine/Field.lean ====
section
/-! DEFINITION. The field die and the barrier (chapter 14): frames, beacons, settings, inputs and outputs, without the
commands that may enter Safe-stop. -/

namespace Sys2Proof.Machine

/-- The field die's state as FLD_STS.STATE codes it. -/
def FieldState.code : FieldState → Nat
  | .off => 0 | .start => 1 | .held => 2 | .active => 3 | .orphan => 4 | .pwrFail => 5

/-- A Duet role, coded as DUE_STS.ROLE (R317). -/
def State.role (s : State) : Nat := s.get Reg.DUE_STS.ROLE

/-! ### ENCOUT (R48, R451) -/

/-- Whether ENCOUT runs: in HELD, ACTIVE and ORPHAN (R451). -/
def State.encoutRuns (s : State) : Bool := s.fld.state = .held || s.fld.state = .active || s.fld.state = .orphan

/-- The levels of A and B: the quadrature of the divided count, low with EN at 0, and high impedance where ENCOUT does not run (R48,
R451). A forward count takes A before B. -/
def State.encoutLevels (s : State) : Nat × Nat :=
  if !s.encoutRuns then (2, 2)
  else if !s.fflag Reg.ENCOUT_CFG.EN then (0, 0)
  else
    let ph := (s.tb.encoutCnt % 4).toNat
    ((decide (ph = 1 || ph = 2)).toNat, (decide (ph = 2 || ph = 3)).toNat)

/-- ENCOUT's A and B follow their levels; Z stands as A and B do without a count, and pulses at an index alone. -/
def State.encoutDrive (s : State) : State :=
  let (a, b) := s.encoutLevels
  let (a0, b0) := s.tb.encoutPins
  let s := s.when (a ≠ a0) (·.send (.pin "ENCOUT_A" a))
  let s := s.when (b ≠ b0) (·.send (.pin "ENCOUT_B" b))
  let s := s.when ((a = 2) != (a0 = 2)) (·.send (.pin "ENCOUT_Z" (if a = 2 then 2 else 0)))
  { s with tb := { s.tb with encoutPins := (a, b) } }

/-- Z repeats the input index (R48). -/
def State.encoutIndex (s : State) : State :=
  s.when (s.encoutRuns && s.fflag Reg.ENCOUT_CFG.EN && s.fflag Reg.ENCOUT_CFG.IDX_PASS) (fun s =>
    (s.send (.pin "ENCOUT_Z" 1)).send (.pin "ENCOUT_Z" 0))

/-! ### Outputs (R444 to R449) -/

/-- An output is driven unless its MODE is OFF or it is latched; a BRAKE output takes its axis's brake (R448). -/
def State.outMode (s : State) (i : Nat) : Nat := s.fget (Reg.FLD_OUT_CFG.MODE i)
def State.outBrake (s : State) (i : Nat) : Bool := s.fflag (Reg.FLD_OUT_CFG.FUNC i)

/-- Set what an output does: released, or driven to a value; a latched output stays released (R447). -/
def State.outPut (s : State) (i : Nat) (v : Option Bool) : State :=
  let on := v.isSome && !bit s.fld.latched i && s.outMode i ≠ 0
  let val := on && v.getD false
  s.setFld (fun f => { f with
    outOn := putBit f.outOn i on, outVal := putBit f.outVal i val,
    outAt := if bit f.outOn i = on && bit f.outVal i = val then f.outAt else updateAt f.outAt i (fun _ => s.now) })

/-- DUET_OWN and SPEED_CEIL follow the field die's state (R429, R438, R439, R449, R452): START and HELD leave them as on entry. -/
def State.fieldPins (s : State) : State :=
  let c := s.fld.ceil.getD 0
  let div := s.fget Reg.FLD_SPD_CFG.DIV
  s.setFld (fun f => match f.state with
    | .off | .pwrFail => { f with ownPin := false, ownLvl := 2, speed := none }
    | .start | .held => { f with ownPin := false, ownLvl := if f.ownLvl = 2 then 2 else 0 }
    | .orphan => { f with ownPin := false, ownLvl := 0, speed := some (0, 1) }
    | .active => { f with
        ownPin := f.own, ownLvl := f.own.toNat,
        speed := some (if s.fflag Reg.FLD_SPD_CFG.EN then (c, if div = 0 then 1024 else div) else (0, 1)) })

/-- The outputs follow the field die's state, the commanded values, the brakes and DRIVE (R435, R445, R448). -/
def State.outputs (s : State) : State :=
  let f := s.fld
  s.fieldPins.each (List.range 8) (fun i s =>
    if f.state = .off || f.state = .pwrFail || !f.drive then s.outPut i none
    else if s.outBrake i then
      (if f.state = .active || f.state = .orphan then s.outPut i (some (!(s.axis (s.fget (Reg.FLD_OUT_CFG.AXIS i))).brake)) else s)
    else if f.state = .active then s.outPut i (some (bit f.outRec i))
    else s)

/-- The reset actions of R449. -/
def State.resetActions (s : State) : State :=
  let s := s.setFld ({ · with ceil := none, hbLow := true })
  let s := s.each (List.range 8) (fun i s =>
    if s.outBrake i then s
    else if s.fget (Reg.FLD_OUT_CFG.RST_ACT i) = 1 then s.outPut i none
    else if s.fget (Reg.FLD_OUT_CFG.RST_ACT i) = 2 then s.outPut i (some (s.fflag (Reg.FLD_OUT_CFG.RST_VAL i)))
    else s)
  let s := s.stopAxes
  let s := s.each [0, 1, 2, 3] (fun n s => s.when ((s.axis n).st = .standing) (·.axisOff n))
  s.outputs

/-! ### Inputs at the field die (R441 to R443) -/

/-- The field die acts on inputs that read open: interlocks stop their axes, a web break starts the lift. Each opening acts
once. -/
def State.actInputs (s : State) : State :=
  if !s.fieldActs then s.setFld ({ · with actI := 0, actB := 0 })
  else
    let oi := s.openInputs 1
    let ob := s.openInputs 2
    let newI := oi.filter (fun i => !bit s.fld.actI i)
    let newB := ob.filter (fun i => !bit s.fld.actB i)
    let mask := fun (l : List Nat) => l.foldl (fun m i => m + 2 ^ i) 0
    let s := s.setFld ({ · with actI := mask oi, actB := mask ob })
    let s := s.each newI (fun i s => s.each (bitList 4 (s.fget (Reg.FLD_DI_CFG.AXMASK i))) (fun n s => s.axisStop n))
    (s.when (newB ≠ []) (·.emergencyLift)).outputs

/-- The safe value of an input (R442). -/
def State.safeValue (s : State) (i : Nat) : Bool := s.fget (Reg.FLD_DI_CFG.FUNC i) = 0 && s.fflag (Reg.FLD_DI_CFG.SAFE i)

/-- A new reading of an input has held for its filter (R441, R442): zone 0 below 5 V, 1 above 11 V, 2 in the band. -/
def State.inputReads (s : State) (i zone : Nat) : State :=
  if 12 ≤ i || s.fld.state = .off || s.fld.state = .pwrFail then s
  else if zone = 2 then
    s.when (bit s.fld.band i) (·.setFld (fun f => { f with level := putBit f.level i (s.safeValue i) }))
  else s.setFld (fun f => { f with level := putBit f.level i (zone = 1), band := putBit f.band i false })

/-- IN_STATE on its way to the main die. -/
def State.sendInState (s : State) : State :=
  let f := s.fld
  let open_ := fun (func : Nat) => (!(s.openInputs func).isEmpty).toNat
  s.stsFrame 0x20 (f.level % 2 ^ 12 + f.band % 2 ^ 12 * 2 ^ 12 + open_ 2 * 2 ^ 24 + open_ 1 * 2 ^ 25)

/-- SAFE settings reach the inputs that have not left the band since START (R442). -/
def State.bandSafe (s : State) : State :=
  let level := (bitList 12 s.fld.band).foldl (fun l i => putBit l i (s.safeValue i)) s.fld.level
  s.when (level ≠ s.fld.level) (fun s => (s.setFld ({ · with level := level })).sendInState)

/-! ### Beacons and time (R426 to R429, R440) -/

/-- Whether the field die runs: it is off within 2 ms of an undervoltage (R438). -/
def State.fieldOn (s : State) : Bool :=
  s.fld.state ≠ .off && (s.fld.state ≠ .pwrFail || s.now < s.fld.uvAt.getD 0 + 8000000)

/-- BCN_F (R424): the echo of the last BCN_M, the field state, SAFE24 and whether an output is latched. -/
def State.fieldBeacon (s : State) (start : Nat) : State :=
  let f := s.fld
  let code := match f.state with
    | .off | .pwrFail => 4 | .start => 0 | .held => 1 | .active => 2 | .orphan => 3
  s.sendFrameAt start 6 0x3F (f.lastM.getD 0 / 2 ^ 14 % 2 ^ 29 + code * 2 ^ 29 + (decide (code ≠ 4)).toNat * 2 ^ 32
    + (decide (f.latched ≠ 0)).toNat * 2 ^ 33)

/-- TIME_LOCK sets: START and ORPHAN become HELD (R440). -/
def State.lockSets (s : State) : State :=
  let st := s.fld.state
  let s := s.setFld (fun f => { f with
    lock := true, bad := 0, state := if st = .start || st = .orphan then .held else st })
  (s.when (st = .orphan) (·.faultFrame 0x07)).encoutDrive

/-- The field die takes in one accepted beacon `err` mt from its own time (R427). -/
def State.beaconIn (s : State) (err : Int) : State :=
  let f := s.fld
  let good := if err.natAbs ≤ 2 then f.good + 1 else 0
  let bad := if 8 < err.natAbs then f.bad + 1 else 0
  let s := s.setFld (fun f => { f with lastM := some s.now, missing := 0, good := min good 64, bad := bad })
  if f.state = .off || f.state = .pwrFail then s
  else if f.lock && 4 ≤ bad then s.setFld ({ · with lock := false, good := 0, bad := 0 })
  else s.when (!f.lock && 64 ≤ good) (·.lockSets)

/-- The heartbeat code of the role (R429, R330). -/
def State.hbCode (s : State) : Nat :=
  if s.role = 2 then 1 else if s.role = 1 then 2 else if s.role = 3 then 3 else 4

/-- HB of the next BCN_M: the role's code in the first beacon of each 400,000 mt, else 0 (R429). -/
def State.hbNext (s : State) : Nat := if s.fld.hbSent ≠ some (s.now / 400000) then s.hbCode else 0

/-- The main die sends BCN_M early by half the mean of the last 64 round trips: its time field, DRIVE, OWN and HB (R426, R429,
R558). -/
def State.beaconOut (s : State) : State :=
  let hb := s.hbNext
  let rtts := s.fld.rtts
  let early := if rtts = [] then 0 else (divOpen rtts.sum (2 * rtts.length)).toNat
  let payload := s.now / 2 ^ 14 % 2 ^ 29 + s.due.drive.toNat * 2 ^ 29 + s.due.own.toNat * 2 ^ 30 + hb * 2 ^ 31
  let s := s.setFld (fun f => { f with
    beat := some (s.now / 16384), hbSent := some (s.now / 400000) })
  (s.putB Reg.FLD_STS.DRIVE s.due.drive).sendFrameAt (s.now / 16384 * 16384 - early) 5 0x3E payload

/-- The width of the heartbeat pulse in µs, by HB's code (R330). -/
def hbWidth (hb : Nat) : Nat := if hb = 1 then 4 else if hb = 2 then 12 else if hb = 3 then 20 else 28

/-- DUET_HB_OUT pulses for a BCN_M that carries HB (R429): in HELD and ACTIVE, but not between the reset actions and ARM (R449). -/
def State.hbPulse (s : State) (hb : Nat) : State :=
  s.when (hb ≠ 0 && !s.fld.hbLow && (s.fld.state = .held || s.fld.state = .active)) (·.send (.pulse "DUET_HB_OUT" (hbWidth hb)))

/-- What an accepted BCN_M carries takes effect: DRIVE, OWN and the heartbeat pulse; a lift that waited for DRIVE starts
while a web-break input still reads 0 (R445, R476). -/
def State.beaconCarries (s : State) (hb : Nat) : State :=
  let s := (s.setFld (fun f => { f with drive := s.due.drive, own := s.due.own, hb := hb })).hbPulse hb
  let waiting := [0, 1].filter (fun n => (s.axis n).liftWait)
  let s := s.when (s.fld.drive && waiting ≠ [] && s.fieldActs && s.openInputs 2 ≠ []) (·.each waiting State.lift)
  s.outputs

def execBcnM (err : Int) (accepted : Bool) (s : State) : Host.Outcome State Fault Refusal :=
  .next (
    if s.fld.beat = some (s.now / 16384) || !s.awake then s
    else
      let hb := s.hbNext
      let s := s.beaconOut
      if accepted && s.fieldOn then
        ((s.beaconIn err).beaconCarries hb).fieldBeacon (s.now / 16384 * 16384 + 2000)
      else s.setFld (fun f => { f with missing := f.missing + 1, good := 0 }))

def execTimeLockClear (s : State) : Host.Outcome State Fault Refusal :=
  let silent : Bool := match s.fld.lastM with
    | some t => t + 16 * 16384 ≤ s.now || s.now < t
    | none => true
  .next (s.when (s.fld.lock && (16 ≤ s.fld.missing || silent)) (·.setFld ({ · with lock := false, good := 0 })))

/-- FLD_STS.TIME_LOCK (R559): at its rise reports are expected, and each sequencer restarts from the first; at its fall, the report at
the next boundary still counts, as stale on every channel. -/
def State.timeLock (s : State) (on : Bool) : State :=
  let was := s.flag Reg.FLD_STS.TIME_LOCK
  let rpt := 2 ^ s.get Reg.TRK_CFG.RPT_LOG
  let s := s.putB Reg.FLD_STS.TIME_LOCK on
  if on && !was then
    { s with tb := { s.tb with
      lockFrom := some s.now, seqs := s.tb.seqs.map (fun x => { x with fresh := true, lastTk := none }) } }
  else if was && !on then { s with tb := { s.tb with lockEnd := some ((s.now / rpt + 1) * rpt) } }
  else s

/-- BCN_F at the main die (R426, R428): the field state as FLD_STS shows it, and the events of its changes. -/
def State.beaconBack (s : State) (rtt : Int) : State :=
  let old := s.get Reg.FLD_STS.STATE
  let st := s.fld.state
  let s := s.setFld (fun f => { f with lastF := some s.now, lost := false, rtts := (rtt :: f.rtts).take 64 })
  let s := (s.put Reg.FLD_STS.STATE st.code).putB Reg.FLD_STS.SAFE24_OK (st ≠ .off && st ≠ .pwrFail)
  let s := s.timeLock (st = .held || st = .active || st = .orphan)
  let s := s.when (st = .held && old ≠ 2) (·.post (ev Code.ST_FLD_LINK srcFLD))
  let s := s.when (st = .active && old ≠ 3) (·.post (ev Code.ST_FLD_ACTIVE srcFLD))
  s.when (st = .pwrFail && old ≠ 5) (fun s =>
    (s.put Reg.FLD_EVT.PWR_FAIL 1).post (ev Code.ST_FLD_PWR_FAIL srcFLD))

def execBcnF (rtt : Int) (s : State) : Host.Outcome State Fault Refusal :=
  .next (s.when (s.awake && s.fieldOn) (·.beaconBack rtt))

/-- The field die loses the main die (R440, R449): HELD goes to START, ACTIVE runs the reset actions as ORPHAN. -/
def execMainDieLost (s : State) : Host.Outcome State Fault Refusal :=
  let silent : Bool := match s.fld.lastM with
    | some t => t + 1920000 ≤ s.now || s.now < t
    | none => false
  .next (
    if !silent then s
    else match s.fld.state with
      | .held => (s.setFld ({ · with state := .start, lock := false, good := 0, line := [] })).fieldPins.encoutDrive
      | .active =>
        (s.setFld ({ · with state := .orphan, lock := false, good := 0, line := [] })).resetActions
      | _ => s)

/-! ### Settings (R433 to R435) -/

/-- The field-held register at a BAR0 address, by its index: UNIT and offset / 4 (R433, R481). -/
def fieldIndex (a : Nat) : Option Nat :=
  if 0xF0000 ≤ a ∧ a < 0xF0400 then some ((a - 0xF0000) / 4)
  else if 0x50000 ≤ a ∧ a < 0x50400 then some (256 + (a - 0x50000) / 4)
  else if a = Reg.TRK_CFG.AT then some (512 + (a - 0x40000) / 4)
  else if 0x100000 ≤ a ∧ a < 0x100400 then some (768 + (a - 0x100000) / 4)
  else if 0x101000 ≤ a ∧ a < 0x102000 then some ((4 + (a - 0x101000) / 0x400) * 256 + (a - 0x101000) % 0x400 / 4)
  else none

/-- Whether a register is field-held (R433): the RWL registers of FLD and MOT, the ENC and ENCOUT settings, and TRK_CFG. -/
def fieldHeld (a : Nat) : Bool :=
  if a = Reg.TRK_CFG.AT || a = Reg.ENC_CTRL.AT || a = Reg.ENCOUT_CFG.AT || a = Reg.ENCOUT_N.AT || a = Reg.ENCOUT_M.AT
      || a = Reg.ENC_IDX_VAL.AT then true
  else ((0xF0000 ≤ a && a < 0x100000) || (0x100000 ≤ a && a < 0x110000)) && Reg.mask a .rwl ≠ 0

/-- Send CFG_STAGE and CFG_COMMIT for the oldest waiting commit. -/
def State.sendCommit (s : State) : State :=
  match s.fld.commits with
  | [] => s.put Reg.FLD_STS.CFG_PEND 0
  | c :: cs =>
    let s := s.setFld ({ · with commits := { c with tries := c.tries + 1, sent := s.now } :: cs })
    ((s.put Reg.FLD_STS.CFG_PEND 1).cmdFrame 0x10 c.data.toNat).cmdFrame 0x11 c.index

/-- A write to a field-held register waits for its acknowledge, in write order (R433). -/
def State.commitField (s : State) (a : Nat) (data : Word) : State :=
  match fieldIndex a with
  | none => s
  | some ix =>
    let first := s.fld.commits = []
    let s := s.setFld (fun f => { f with commits := f.commits ++ [⟨a, ix, data, 0, s.now⟩] })
    if first then s.sendCommit else s.put Reg.FLD_STS.CFG_PEND 1

/-- The CRC-8 of a commit's 32 DATA bits. -/
def Commit.crc (c : Commit) : Nat := crc8 32 c.data.toNat

/-- The outstanding commit gives up after its third resend (R434). -/
def State.commitRetry (s : State) : State :=
  match s.fld.commits with
  | [] => s
  | c :: cs =>
    if c.tries < 4 then ((s.sendCommit).count (Reg.FLD_CNT.CNT 5)).pmcAdd 452
    else
      let s := (s.put Reg.FLD_EVT.CMD_FAIL 1).post (ev Code.ST_FLD_CMD_FAIL srcFLD)
      (s.setFld ({ · with commits := cs })).sendCommit

/-- The bits of a field-held register that the field die holds (R433): not ENC_CTRL's LOCK, CHK_EN and CHK_ACT, and of
TRK_CFG only RPT_LOG. -/
def fieldMask (a : Nat) : Word :=
  let m := BitVec.ofNat 32 (Reg.mask a .rwl + Reg.mask a .rw)
  if a = Reg.ENC_CTRL.AT then m &&& ~~~ (0xD : Word)
  else if a = Reg.TRK_CFG.AT then m &&& (0x1F0000 : Word)
  else m

/-- The field die refuses a value (RESULT 2): the ranges of R481, and R459 and R470. -/
def State.fieldRefuses (s : State) (a : Nat) (v : Word) : Bool :=
  let (n, o) := axisOf a
  if a = Reg.MOT_GANTRY.AT then
    wbit v 31 && [0, 1].any (fun k => !s.flag (Reg.AX_CFG.ENC_EN k) || (s.axis k).st.moving)
  else if 0xF01E0 ≤ a ∧ a < 0xF01F0 then wbits v 1 5 < 9
  else if a < 0x101000 ∨ 0x102000 ≤ a then false
  else if o = 0x008 then wbits v 5 2 = 3 || (!wbit v 1 && s.get (Reg.AX_CUR1.IMAX n) > 3000)
  else if o = 0x02C then wbits v 0 16 > wbits v 16 16 || (!s.flag (Reg.AX_CFG.REG n) && wbits v 16 16 > 3000)
  else if o = 0x030 then wbits v 0 16 > s.get (Reg.AX_CUR1.IRUN n)
  else if o = 0x034 then wbits v 16 8 = 0 || wbits v 8 8 ≤ wbits v 0 8 || 90 ≤ wbits v 8 8
  else if 0x100 ≤ o && (o - 0x100) % 12 = 0 then v.toNat % 10 ≠ 0 || v.toNat < 10 || 100000000 < v.toNat
  else false

/-- RESULT of a commit (R424's CFG_ACK, R435): 1 unknown index, 3 not permitted in this state, 2 value refused, 0 taken. -/
def State.fieldResult (s : State) (c : Commit) : Nat :=
  if !fieldHeld c.addr then 1
  else if s.fld.state ≠ .active && s.fld.state ≠ .held then 3
  else if s.fieldRefuses c.addr c.data then 2
  else 0

/-- An N and M pair of ENCOUT takes effect (R48). -/
def State.encoutTake (s : State) (n m : Nat) : State :=
  ({ s with tb := { s.tb with encoutN := n, encoutM := m, encoutPend := none } }).put Reg.ENCOUT_CFG.PENDING 0

/-- A committed pair takes effect at once, or waits for the next index (R48). -/
def State.encoutPair (s : State) : State :=
  let n := s.fget Reg.ENCOUT_N.N
  let m := s.fget Reg.ENCOUT_M.M
  if s.fflag Reg.ENCOUT_CFG.APPLY then
    ({ s with tb := { s.tb with encoutPend := some (n, m) } }).put Reg.ENCOUT_CFG.PENDING 1
  else s.encoutTake n m

/-- An acknowledged setting: the register shows it, and the field die applies it or keeps it for ARM (R435). -/
def State.acknowledged (s : State) (c : Commit) : State :=
  let s := s.setWord c.addr ((s.word c.addr &&& ~~~ fieldMask c.addr) ||| (c.data &&& fieldMask c.addr))
  let s := if s.fld.state = .active || c.addr < 0xF0000 then (s.applySetting c.addr (s.word c.addr)).bandSafe.actInputs.outputs else s
  (s.when (c.addr = Reg.ENCOUT_M.AT) (·.encoutPair)).encoutDrive

/-- A CFG_ACK with this index and CRC arrives (R434). -/
def State.cfgAck (s : State) (index crc : Nat) : State :=
  match s.fld.commits with
  | [] => s
  | c :: cs =>
    if c.index ≠ index then s
    else if c.crc ≠ crc then s.commitRetry
    else
      let ok := s.fieldResult c = 0
      let s := s.setFld ({ · with commits := cs })
      (if ok then s.acknowledged c else s.put Reg.FLD_EVT.CFG_ERR 1).sendCommit

def execCfgAck (index crc : Nat) (s : State) : Host.Outcome State Fault Refusal :=
  .next (s.when (s.awake && s.fieldOn) (·.cfgAck index crc))

/-- The error bit of a write to a field-held register that the main die drops before a commit (the meanings of FLD_DI_CFG, FLD_OUT_CFG,
FLD_AE_CFG and ENC_CTRL, R444; R60). -/
def State.fieldDrops (s : State) (a : Nat) (v : Word) : Option Fld :=
  let fld := fun (c : Bool) => if c then some Reg.FLD_EVT.CFG_ERR else none
  if 0xF0100 ≤ a ∧ a < 0xF0130 then fld (wbits v 8 2 = 3)
  else if 0xF0180 ≤ a ∧ a < 0xF01A0 then fld (wbits v 2 2 = 3 || wbits v 0 2 = 3 || (wbit v 5 && wbits v 0 2 = 1))
  else if 0xF01E0 ≤ a ∧ a < 0xF01F0 then fld (5 ≤ wbits v 7 3)
  else if a = Reg.ENC_CTRL.AT then (if wbits v 5 2 = 3 then some Reg.ENC_STS.CFG_ERR else none)
  else if a = Reg.TRK_CFG.AT then
    let (rpt, kv, kp, lead) := (wbits v 16 5, wbits v 12 4, wbits v 8 4, wbits v 0 7)
    if rpt < 10 || 16 < rpt || kv < 2 || 14 < kv || kp < 1 || 6 < kp || lead < 2 || 64 < lead
        || s.get Reg.TRK_TICK_MIN.TICK_MIN < 2 * 2 ^ rpt then some Reg.TRK_STS.CFG_ERR else none
  else none

/-- An accepted write to a field-held register (R433): the bits the main die holds change at once, and the rest goes to
the field die; while the unit is locked its RWL fields keep their values (R15). -/
def State.writeFieldHeld (s : State) (slot a : Nat) (data : Word) : State :=
  let locked := s.lockedAt a
  match if locked then none else s.fieldDrops a data with
  | some f => s.put f 1
  | none =>
    let old := s.word a
    let m := Reg.merge a locked old data
    let sent := fieldMask a &&& (if locked then ~~~ BitVec.ofNat 32 (Reg.mask a .rwl) else BitVec.allOnes 32)
    let s := s.setWord a ((m &&& ~~~ fieldMask a) ||| (old &&& fieldMask a))
    let s := s.when (sent ≠ 0) (·.commitField a m)
    s.when (locked && Reg.changesLocked a old data) (·.reportAccess slot 0 a 1)

def execCfgAckTimeout (s : State) : Host.Outcome State Fault Refusal :=
  .next (match s.fld.commits with
    | [] => s
    | c :: _ => s.when (s.awake && c.sent + 80000 ≤ s.now) (·.commitRetry))

/-- The field-held registers of FLD and MOT (R433). -/
def fieldAddrs : List Nat :=
  ((List.range 256).map (0xF0000 + 4 * ·) ++ [Reg.MOT_GANTRY.AT] ++ (List.range 1024).map (0x101000 + 4 * ·)).filter (fieldHeld ·)

/-- ARM's frames: every field-held FLD and MOT register is staged and committed with its present value (R435). -/
def State.armFrames (s : State) : State :=
  (s.each fieldAddrs (fun a s =>
    (s.cmdFrame 0x10 (s.word a).toNat).cmdFrame 0x11 ((fieldIndex a).getD 0))).cmdFrame 0x18 1

/-- Every field-held FLD and MOT register with its present value, as ARM commits them (R435). -/
def State.armValues (s : State) : List (Nat × Word) :=
  (s.fld.applied.filter (fun e => e.1 < 0xF0000)) ++ s.regs.filter (fun e => 0xF0000 ≤ e.1 && e.1 < 0x110000 && fieldHeld e.1)

/-- FLD_CTRL.ARM (R435). -/
def State.armField (s : State) : State :=
  if s.get Reg.FLD_STS.STATE ≠ 2 || s.fld.state ≠ .held then s.put Reg.FLD_EVT.CFG_ERR 1
  else
    let s := s.armFrames
    let s := s.setFld (fun f => { f with
      state := .active, applied := s.armValues, outRec := s.get Reg.FLD_OUT_VAL.VALUE, outUndo := none,
      ceil := none, spdSent := none, hbLow := false })
    s.bandSafe.outputs.actInputs

/-- FLD_CTRL.STATUS_REQ (R436). -/
def State.statusReq (s : State) : State := s.cmdFrame 0x14 0

/-- OUT_SET with MASK 0xFF (R436): the field die records the values, and drives them in ACTIVE. -/
def State.sendOutSet (s : State) (v : Nat) : State :=
  ((s.cmdFrame 0x12 (0xFF + 256 * v)).setFld (fun f => { f with outRec := v, outUndo := some f.outRec })).outputs

/-- An OUT_SET frame that the field die discards records nothing (R425, R436). -/
def State.outSetLost (s : State) : State :=
  match s.fld.outUndo with
  | some v => (s.setFld ({ · with outRec := v, outUndo := none })).outputs
  | none => s

/-- A write of FLD_OUT_VAL (R436). -/
def State.outSet (s : State) (data : Word) : State :=
  let v := wbits data 0 8
  ((s.put Reg.FLD_OUT_VAL.VALUE v).setFld ({ · with outTries := 0 })).sendOutSet v

/-- A write of FLD_OUT_CLR (R447): LATCH_CLR for the outputs set. -/
def State.latchClr (s : State) (data : Word) : State :=
  let m := wbits data 0 8
  let s := s.cmdFrame 0x13 m
  (s.setFld (fun f => { f with latched := f.latched - (f.latched &&& m) })).outputs

def execArm (slot : Nat) (s : State) : Host.Outcome State Fault Refusal :=
  .next (s.ownerWrite slot Reg.FLD_CTRL.AT State.armField)

def execStatusReq (slot : Nat) (s : State) : Host.Outcome State Fault Refusal :=
  .next (s.ownerWrite slot Reg.FLD_CTRL.AT State.statusReq)

def execOutSet (slot : Nat) (data : Word) (s : State) : Host.Outcome State Fault Refusal :=
  .next (s.ownerWrite slot Reg.FLD_OUT_VAL.AT (·.outSet data))

def execLatchClr (slot : Nat) (data : Word) (s : State) : Host.Outcome State Fault Refusal :=
  .next (s.ownerWrite slot Reg.FLD_OUT_CLR.AT (·.latchClr data))

/-- OUT_STATE at the main die (R436): mirrored, and compared with the commanded value for outputs that are not latched. -/
def State.outState (s : State) (readback : Nat) : State :=
  let f := s.fld
  let s := ((s.put Reg.FLD_OUT_STS.VALUE f.outVal).put Reg.FLD_OUT_STS.READBACK readback).put Reg.FLD_OUT_STS.LATCHED f.latched
  let s := ((s.putB Reg.FLD_OUT_STS.OWN f.ownPin).putB Reg.FLD_STS.OWN f.ownPin).putB Reg.DUE_STS.OWN f.ownPin
  let want := s.get Reg.FLD_OUT_VAL.VALUE
  let differs := f.state = .active && (List.range 8).any (fun i => !bit f.latched i && !s.outBrake i && bit f.outRec i ≠ bit want i)
  let s := s.setFld ({ · with outUndo := none })
  if !differs then s.setFld ({ · with outTries := 0 })
  else if f.outTries < 3 then
    let s := (s.setFld ({ · with outTries := f.outTries + 1 })).sendOutSet want
    (s.count (Reg.FLD_CNT.CNT 5)).pmcAdd 452
  else (s.put Reg.FLD_EVT.CMD_FAIL 1).post (ev Code.ST_FLD_CMD_FAIL srcFLD)

def execOutState (readback : Nat) (s : State) : Host.Outcome State Fault Refusal :=
  .next (s.when (s.awake && s.fieldOn) (·.outState readback))

/-- Whether an output may be found faulty (R446): a PUSH_PULL output that drives or an OPEN_DRAIN output that sinks, 20 µs
without a check and 10 µs of fault after its last change. -/
def State.outChecked (s : State) (i : Nat) : Bool :=
  bit s.fld.outOn i && (s.outMode i = 1 || bit s.fld.outVal i) && s.fld.outAt.getD i 0 + 120000 ≤ s.now

/-- The main die takes in FAULT 0x01 or 0x02 (R447). -/
def State.outLatched (s : State) (i : Nat) (overcurrent : Bool) : State :=
  let s := if overcurrent then s.put Reg.FLD_OUT_EVT.OC (putBit (s.get Reg.FLD_OUT_EVT.OC) i true)
    else s.put Reg.FLD_OUT_EVT.RB (putBit (s.get Reg.FLD_OUT_EVT.RB) i true)
  (s.pmcAdd 461).post (ev Code.ST_FLD_OUT_LATCH (srcField 50 15 i))

/-- An output latches off (R446, R447). -/
def execOutputLatch (output : Nat) (overcurrent : Bool) (s : State) : Host.Outcome State Fault Refusal :=
  .next (s.when (output < 8 && s.outChecked output) (fun s =>
    let s := ((s.setFld (fun f => { f with latched := putBit f.latched output true })).outPut output none).faultFrame
      (if overcurrent then 0x02 else 0x01) output
    s.when s.awake (·.outLatched output overcurrent)))

/-! ### Power (R438, R440) -/

/-- Whether SAFE24 is present. -/
def State.safe24 (s : State) : Bool := s.fld.state ≠ .off && s.fld.state ≠ .pwrFail

/-- Without main power SAFE24 alone decides between M0 and M1 (R482, R487). -/
def State.safe24Mode (s : State) : State :=
  s.when (s.pwr.rails ≠ [] && !s.pwr.shut && s.mode ≤ 1) (·.put Reg.DEV_MODE.MODE s.safe24.toNat)

/-- SAFE24 below 16 V for 50 µs: PWR_FAIL, every output released, every setting lost. No rule gives the CODE of its FAULT: an open
value. -/
def execSafe24Undervoltage (s : State) : Host.Outcome State Fault Refusal :=
  .next (
    if s.fld.state = .off || s.fld.state = .pwrFail then s
    else
      let s := s.setFld (fun f => { f with
        state := .pwrFail, lock := false, good := 0, missing := 0, bad := 0, applied := [], outOn := 0, outVal := 0, outRec := 0,
        latched := 0, outUndo := none, ceil := none, hbLow := false, replay := [], actI := 0, actB := 0, uvAt := some s.now,
        line := [] })
      let s := ((s.drawn.faultFrame (s.open_ 8)).fieldBeacon s.now).fieldPins
      let s := ((s.encoutTake 1 1).encoutDrive).safe24Mode
      s.each [0, 1, 2, 3] (fun n s =>
        let s := s.moveDone n Code.ST_MOT_STOPPED (unsigned 32 ((s.axis n).final - s.restPos n))
        s.setAxis n (fun x => { enc := x.enc, desc := x.desc })))

/-- SAFE24 at 18 V for 10 ms, since an undervoltage: START; `high` and `band` say where each input's voltage lies (R442). -/
def execSafe24Restore (high band : Nat) (s : State) : Host.Outcome State Fault Refusal :=
  .next (s.when (s.fld.state = .off || s.fld.state = .pwrFail && s.fld.uvAt.getD 0 + 40000000 ≤ s.now)
    (fun s => (s.setFld (fun f => { f with
      state := .start, level := (high &&& (0xFFF - (band &&& 0xFFF))) &&& 0xFFF, band := band &&& 0xFFF })).safe24Mode))

/-! ### Reports of the field die at the main die -/

def execEncLineFault (inst : Nat) (s : State) : Host.Outcome State Fault Refusal :=
  .next (s.when (inst < 6 && s.fieldOn) (fun s =>
    (s.faultFrame 0x03 inst).when s.awake (fun s =>
      (s.put Reg.FLD_EVT.ENC_LINE 1).postLimited
        (ev Code.ST_FLD_ENC_LINE (if inst < 2 then srcField 48 11 inst else srcField 48 12 (inst - 2))) inst 4000000000)))

/-- SPD_SET (R452): the FLD unit sends the published ceiling when it has changed. -/
def execSpdSet (s : State) : Host.Outcome State Fault Refusal :=
  let c := s.get Reg.PWR_CEIL.CEIL
  .next (
    if s.fld.spdSent = some c || !s.awake then s
    else ((s.setFld (fun f => { f with
      spdSent := some c, ceil := if f.state = .active then some c else f.ceil })).cmdFrame 0x17 c).fieldPins)

/-- A HEALTH frame (R424, R502). -/
def State.fieldHealth (s : State) (temp : Int) (v24 i24 : Nat) : State :=
  let s := ((s.putI Reg.FLD_HEALTH.TEMP temp).put Reg.FLD_HEALTH.V24 v24).put Reg.FLD_HEALTH.I24 i24
  match s.fld.test with
  | some (ch, n, seq) =>
    if n + 1 < 3 then (s.setFld ({ · with test := some (ch, n + 1, seq) })).statusReq
    else (s.setFld ({ · with test := none })).errOutcome seq Code.ST_FLD_BARRIER_BURST 1 srcFLD
  | none => s

def execFieldHealth (temp : Int) (v24 i24 : Nat) (s : State) : Host.Outcome State Fault Refusal :=
  .next (s.when (s.awake && s.fieldOn) (·.fieldHealth temp v24 i24))

/-- A FAULT frame of the field island (R440, R447, R450, R455): codes from 0x10 are those of the axes, whose own commands
carry their effect, and 0x01 and 0x02 come with OUTPUT_LATCH. -/
def execFieldFault (code _inst detail : Nat) (s : State) : Host.Outcome State Fault Refusal :=
  .next (
    if !s.awake then s
    else if code = 0x04 then (s.put Reg.FLD_EVT.HOT 1).post (ev Code.ST_FLD_HOT srcFLD)
    else if code = 0x05 then s.count (Reg.FLD_CNT.CNT 7)
    else if code = 0x06 then
      ((s.put Reg.FLD_EVT.UART_OVF 1).count (Reg.FLD_CNT.CNT 6) (max detail 1)).postLimited
        (ev Code.ST_FLD_UART_OVF srcFLD) 0 4000000000
    else if code = 0x07 then (s.put Reg.FLD_EVT.ORPHANED 1).post (ev Code.ST_FLD_ORPHANED srcFLD)
    else s)

/-- Whether the receiver of a channel accepts 48 bits (R425), where an RPL frame needs its sequencer's self-test (R432). -/
def State.takesFrame (s : State) (ch frame : Nat) : Bool :=
  let replay := 0x05 ≤ frame / 2 ^ 42 && frame / 2 ^ 42 ≤ 0x07
  frameFits ch frame && !(ch < 3 && replay && !(s.tb.seqs.getD ch {}).testing)

/-- A receiver discards a barrier frame that it does not accept (R425). On the main die's channels it is counted, and 16 within
1 ms are a burst, whose test asks for three clean STATUS answers (R516). The field die tells its own in a FAULT frame. -/
def execBarrierFrameDiscard (frame : WireFrame) (s : State) : Host.Outcome State Fault Refusal :=
  .next (
    let channel := frame.channel
    if 7 ≤ channel || s.takesFrame channel frame.bits then s
    else if channel = 3 || channel = 5 then
      let s := s.when s.fieldOn (·.faultFrame 0x05 0 channel)
      s.when (channel = 3 && frame.bits / 2 ^ 42 % 64 = 0x12) State.outSetLost
    else if !s.awake then s
    else
      let cnt := if channel < 3 then channel else if channel = 4 then 3 else 4
      let s := (s.count (Reg.FLD_CNT.CNT cnt)).pmcAdd 439
      let times := (s.fld.discards.filter (fun e => e.1 = channel && s.now < e.2 + 4000000)) ++ [(channel, s.now)]
      let s := s.setFld (fun f => { f with discards := f.discards.filter (fun e => e.1 ≠ channel) ++ times })
      let s := match s.fld.test with
        | some (_, _, seq) =>
          (s.setFld ({ · with test := none, untested := some s.now })).errOutcome seq Code.ST_FLD_BARRIER_BURST 2 srcFLD
        | none => s
      if times.length < 16 then s
      else
        let e := limitKey Code.ST_FLD_BARRIER_BURST channel
        let due : Bool := match s.posted.lookup e with
          | some t => t + 4000000 ≤ s.now
          | none => true
        let tested : Bool := match s.fld.untested with
          | some t => t + 4000000000 ≤ s.now
          | none => true
        if !due then s
        else
          let s := (s.put Reg.FLD_EVT.BURST 1).postLimited (ev Code.ST_FLD_BARRIER_BURST srcFLD channel) channel 4000000
          let seq := s.get Reg.ERR_LOG_HEAD.HEAD
          let s := s.errRecord (er Code.ST_FLD_BARRIER_BURST srcFLD (if tested then 0 else 3) 1 6 channel)
          if tested then (s.testStarted.setFld ({ · with test := some (channel, 0, seq) })).statusReq else s)

/-- REPLAY (R432): the channel sends its stored pattern, unless it is replaying or TIME_LOCK is clear. -/
def State.replay (s : State) (ch : Nat) : State :=
  let s := s.cmdFrame 0x15 ch
  s.when (s.fld.lock && s.fld.replay.all (fun e => e.1 ≠ ch))
    (·.setFld (fun f => { f with replay := f.replay ++ [(ch, 4000000 / 2 ^ s.fget Reg.TRK_CFG.RPT_LOG)] }))

def execReplayCmd (channel : Nat) (s : State) : Host.Outcome State Fault Refusal :=
  .next (s.when (channel < 3) (·.replay channel))

end Sys2Proof.Machine
end

