-- ==== Sys2Proof/Machine/HeadOps.lean ====
section
/-! DEFINITION. What a head port sends and the states of its link (chapter 06), without what may enter Safe-stop. -/

namespace Sys2Proof.Machine

/-- Whether a row of a port is in a chain in flight (R217, R221, R242). -/
def State.inChain (s : State) (p : Nat) : Bool := s.flying.any (fun c => c.rows.any (fun k => k / 16 = p))

/-- Lane block time in tenths of mt at a rate (the table "Link capacity"). -/
def blockTime10 (rate : Nat) : Nat := if rate = 1 then 128 else 256

/-- The fire-data limit of a port, in bit/s (R179). -/
def State.fireLimit (s : State) (p : Nat) : Nat := if (s.port p).rate = 1 then 34000000000 else 17000000000

/-- The sum of COLS of a port. -/
def State.portCols (s : State) (p : Nat) : Nat := ((List.range 16).map (s.cols p)).sum

/-! ### Head-control packets (R205) -/

/-- A head-control packet joins those that wait for the link (R208); OP 2, 3 and 5 will have an ACK. Outside data mode nothing goes
out. -/
def State.headCmd (s : State) (p op fields : Nat) (more : List Nat) (row : Nat) : State :=
  if !s.dataMode p then s
  else
    let id := (s.port p).nextId
    let blocks := (op + id * 2 ^ 8 + fields) :: more
    s.setPort p (fun x => { x with
      nextId := (id + 1) % 256,
      cmds := if op = 2 || op = 3 || op = 5 then x.cmds ++ [⟨id, op, blocks, none, 0, row⟩] else x.cmds,
      hctl := x.hctl ++ [blocks] })

/-- The first head-control packet that waits goes out (R200); its ACK is awaited from its EOP on (R205). -/
def State.sendHctl (p : Nat) (s : State) : State :=
  match (s.port p).hctl with
  | [] => s
  | b :: bs =>
    let s := s.sendBlocks p (packet 2 b)
    s.setPort p (fun x => { x with
      hctl := bs, cmds := x.cmds.map (fun c => if c.blocks = b then { c with sentAt := some (x.tx.freeAt / 100) } else c) })

/-- SOURCE of TIMEBASE (R197, R317): 0 in STANDBY and DETACHED, and in the first 100 µs after a swap (R335). -/
def State.source (s : State) : Nat :=
  let r := s.get Reg.DUE_STS.ROLE
  if r = 2 || r = 4 || s.due.swapped.isSome then 0 else 1

/-- TIMEBASE (R197), with the XID of an exchange. -/
def State.timebase (s : State) (p xid : Nat) : State :=
  s.headCmd p 1 (xid % 256 * 2 ^ 16 + s.source * 2 ^ 24 + s.now / 2 ^ 56 % 256 * 2 ^ 32)
    [s.get (Reg.HP_DELAY.DDOWN p)] 0

/-- HEAD_MODE. -/
def State.headMode (mode p : Nat) (s : State) : State := s.headCmd p 3 (mode % 8 * 2 ^ 16) [] 0

/-- TWILIGHT: 1 puts the head's transmitter into Twilight, 0 wakes it. -/
def State.headTwi (s : State) (p enter : Nat) : State := s.headCmd p 5 (enter * 2 ^ 16) [] 0

/-- Eight bytes to a block, the first lowest. -/
def packBytes : Nat → List Nat → List Nat
  | 0, _ => []
  | n + 1, bs => ((bs.take 8).foldr (fun b acc => b % 256 + 256 * acc) 0) :: packBytes n (bs.drop 8)

/-- The whole taps of a row at a line of a chain (R210). -/
def State.rowTaps (s : State) (k c line : Nat) : List Nat :=
  (List.range (s.rowCols k)).map (fun i => (s.steppedAt (rowGn k + i) 5 c line (fun w => eTap w)).toNat / 8)

/-- TAP_LOAD of a row's complete table. -/
def State.tapLoad (s : State) (p r c line bank : Nat) : State :=
  let taps := s.rowTaps (16 * p + r) c line
  s.headCmd p 2 (r * 2 ^ 16 + bank * 2 ^ 20 + taps.length * 2 ^ 48) (packBytes (ceilDiv taps.length 8) taps) r

/-! ### Link states (R188, R193) -/

/-- The device receiver's step; the port's lanes show it too. -/
def State.hpState (s : State) (p st : Nat) : State :=
  let s := (s.put (Reg.HP_LINK_STS.STATE p) st).setPort p ({ · with since := s.now })
  (s.put (Reg.L_STS.LINK_STATE (2 * p)) st).put (Reg.L_STS.LINK_STATE (2 * p + 1)) st

/-- The link is lost: a line packet on it ends and is unsent (R221, R223). -/
def State.linkLost (p : Nat) (s : State) : State :=
  let s := match s.inFlight p with
    | some l => (s.txCut p).lineLate l Code.ST_HP_LINK_DOWN (srcHP p)
    | none => s
  (s.txReset p).setPort p ({ · with onLink := none, training := false })

/-- The link leaves UP (R221), without what DOWN_ACT adds. -/
def State.linkDown (s : State) (p : Nat) : State :=
  let s := s.setPort p ({ · with cmds := [], hctl := [] })
  if !s.portUp p then s
  else ((s.put (Reg.HP_LINK_STS.UP p) 0).put (Reg.HP_LINK_EVT.DOWN p) 1).post
    (ev Code.ST_HP_LINK_DOWN (srcHP p) none none (s.dataPort p))

/-- The chain and line of the next line that a row is to send: the first that waits, or the next it publishes. -/
def State.nextSend (s : State) (k : Nat) : Nat × Nat :=
  match s.job.lines.find? (fun l => l.row = k) with
  | some l => (l.chain, l.line)
  | none =>
    let c := ((s.rowSt k).chain).getD 0
    (c, if c = 0 then 0 else s.rowNext k)

/-- The loads of R210 on entry to state 8: the tables in force into bank 0 of each populated row; later changes are still to be loaded. -/
def State.reloadTaps (s : State) (p : Nat) : State :=
  s.each ((List.range 16).filter (fun r => s.cols p r ≠ 0)) (fun r s =>
    let c := (s.nextSend (16 * p + r)).1
    let line := (s.nextSend (16 * p + r)).2
    let s := s.setPort p (fun x => { x with
      tbank := Sparse.insert r 0 x.tbank,
      taps := x.taps.filter (fun t => t.row ≠ r) ++ ⟨r, c, line, 0, true, false, false⟩ ::
        (x.taps.filter (fun t => t.row = r && (c < t.chain || (t.chain = c && line < t.line)))).map
          (fun t => { t with sent := false, acked := false, again := false }) })
    s.tapLoad p r c line 0)

/-- The link reaches state 8 (R193, R210); a head whose transmitter is to sleep is told so again (R217). -/
def State.linkUp (s : State) (p : Nat) : State :=
  let s := (s.hpState p 8).put (Reg.HP_LINK_STS.RETRIES p) 0
  let s := s.putB (Reg.HP_LINK_STS.UP p) (!s.flag (Reg.HP_LINK_STS.TX_TWI p))
  let s := s.setPort p ({ · with failedAt := none, lastHealth := some s.now, headCrc := none, crcTimes := [], relock := false })
  let s := s.post (ev Code.ST_HP_LINK_UP (srcHP p) none none (s.dataPort p))
  let s := (s.reloadTaps p).headMode (s.get (Reg.HP_HEAD_CMD.MODE p)) p
  s.when (s.flag (Reg.HP_CTRL.HEAD_TX_TWI p)) (·.headTwi p 1)

end Sys2Proof.Machine
end

