-- ==== Sys2Proof/Machine/PowerOps.lean ====
section
/-! DEFINITION. The engine clock and the published ceiling (R503, R508), ANNOUNCE (R250), moves of blocks between engines (R136), and
what the end of every chain brings. -/

namespace Sys2Proof.Machine

/-- The engine clock of a power level, in MHz (the table "Power levels"). -/
def levelMHz (l : Nat) : Nat := [1800, 1650, 1500, 1250, 1000].getD l 1000

/-- The limit of a power level, in mW. -/
def levelLimit (l : Nat) : Nat := [165000, 150000, 135000, 120000, 105000].getD l 105000

/-- VDD_CORE of a power level, in mV. -/
def levelVolt (l : Nat) : Nat := [800, 780, 760, 740, 720].getD l 720

/-- The ports of the jobs in flight or accepted. -/
def State.jobPorts (s : State) : List Nat := ((s.jobRows).map (· / 16)).eraseDups

/-! ### Peer links -/

/-- ANNOUNCE on one peer link that is in data mode: ROLE, CEIL and the device's serial number (R249, R250). -/
def State.announce (l : Nat) (s : State) : State :=
  if !s.peerData l then s
  else
    let what := (s.get Reg.MER_CTRL.ROLE, s.get Reg.PWR_CEIL.CEIL)
    (s.setPeer l ({ · with sentAt := some s.now, sent := what })).peerPut l ⟨1, 2, [what.1, what.2, Config.fuseSerial % 2 ^ 64], none⟩

def State.announceAll (s : State) : State := s.each (List.range 9) State.announce

/-! ### The published ceiling (R508) -/

/-- CEIL as this member computes it. -/
def State.ownCeil (s : State) : Nat :=
  if !s.modeIn 5 9 then 0
  else s.jobPorts.foldl (fun m p =>
      let m := min m (s.maxRate p)
      if s.portCols p = 0 then m else min m (s.fireLimit p / (10 * s.portCols p)))
    (min (s.get Reg.FAB_CEIL.LINE_CEIL) 250000)

/-- CEIL is published when it changes (R508); a standby publishes its peer's, and tells that its own is lower (R329). -/
def State.refreshCeil (s : State) : State :=
  let own := s.ownCeil
  let standby := s.get Reg.DUE_STS.ROLE = 2
  let low := standby && own < s.due.peerCeil
  let s := s.when (low && !s.due.ceilTold) (·.post (ev Code.ST_DUE_PEER_CEIL srcDUE))
  let s := s.setDue ({ · with ceilTold := low })
  let c := if standby then s.due.peerCeil else own
  if s.get Reg.PWR_CEIL.CEIL = c then s
  else (((s.put Reg.PWR_CEIL.CEIL c).post (ev Code.ST_PWR_CEIL srcPWR)).pmcAdd 449).announceAll

/-! ### Moves (R136) -/

/-- The engine that serves a block at its row's next line: a row of a loaded move that has switched takes the target (R136). -/
def State.servedBy (s : State) (nb : Nat) : Option Nat :=
  match s.blockEngine nb with
  | none => none
  | some n =>
    match s.eng.move with
    | some m => if n = m.src && m.switched.contains (nb / 3) then some m.dst else some n
    | none => some n

/-- Whether a block of a row is withheld after a failed copy (R136). -/
def State.lostCopy (s : State) (nb c : Nat) : Bool := s.eng.withheld.any (fun e => e.1 = nb && e.2.2 = c)

/-- The byte of the map in force that describes a block: ASSIGNED and ENGINE. -/
def mapByte (nb : Nat) : Fld := ⟨0x73000 + 4 * (nb / 4), 8 * (nb % 4), 8, false⟩

/-- The blocks that an engine holds in the map in force. -/
def State.engineBlocks (s : State) (n : Nat) : List Nat := (List.range 4608).filter (fun nb => s.blockEngine nb = some n)

/-- The map in force shows a finished move (R136). -/
def State.finishMove (s : State) : State :=
  match s.eng.move with
  | none => s
  | some m =>
    let s := s.each (s.engineBlocks m.src) (fun nb s => s.put (mapByte nb) (128 + m.dst))
    let s := (s.setEng ({ · with move := none })).put Reg.FAB_STS.MOVE_BUSY 0
    (s.post (ev Code.ST_FAB_MOVE_DONE srcFAB m.src m.dst)).refreshFab.refreshCeil

/-- A row switches to the target at its next line (R136): a failed copy of its history withholds its moved blocks until the
row's next chain. A row that publishes no chain has no history to copy. -/
def State.moveRow (s : State) (k : Nat) : State :=
  match s.eng.move with
  | none => s
  | some m =>
    if !m.loaded || !m.rows.contains k || m.switched.contains k then s
    else
      let lost := m.badRows.contains k && (s.rowSt k).chain.isSome && (s.rowSt k).pubs ≠ 0
      let mine := (s.engineBlocks m.src).filter (fun nb => nb / 3 = k)
      let c := ((s.rowSt k).chain).getD 0
      let s := s.setEng (fun e => { e with
        move := some { m with switched := k :: m.switched },
        withheld := if lost then mine.map (fun nb => (nb, k, c)) ++ e.withheld else e.withheld })
      let s := s.when lost (·.post (ev Code.ST_FAB_MOVE_STATE_LOST (srcSE m.src) none none (s.dataRow k)))
      s.when (m.rows.all (fun r => r = k || m.switched.contains r)) (·.finishMove)

/-- The rows of a loaded move that publish in no chain switch at once: their next line is the first of their next chain (R136). -/
def State.settleMove (s : State) : State :=
  match s.eng.move with
  | none => s
  | some m => s.each (m.rows.filter (fun k => (s.rowSt k).chain.isNone)) (fun k s => s.moveRow k)

/-- The chain that follows one: the next accepted, or the next to be. -/
def State.chainAfter (s : State) (c : Nat) : Nat :=
  ((s.job.chains.find? (fun d => c < d.id)).map (·.id)).getD s.job.nextChain

/-- Unfinished batches of a chain that ends fire all of their cells again in the next chain's gutters. -/
def State.refire (s : State) (c next : Nat) : State :=
  s.setCal (fun x => { x with
    bands := x.bands.filter (fun g => g.chain ≠ c), marks := x.marks.filter (fun m => m.chain ≠ c),
    batches := x.batches.map (fun b =>
      if b.chain ≠ c then b
      else
        let on := b.noz.filter (!·.fin)
        let gns := on.map (·.gn)
        let nos := if b.set = 0 then List.range (16 + s.get Reg.CAL_MARK.NPOS) else (List.range (s.get Reg.CAL_MARK.NPOS)).map (16 + ·)
        { b with
          chain := next, first := 0, pass := 0, mid := none, voids := 0, total := nos.length * gns.length, tsum := 0, tn := 0,
          cells := if gns = [] then [] else nos.map (fun n => ⟨n, 0, none, gns, gns, [], false⟩),
          noz := b.noz.map (fun n => if n.fin then n else { n with thr := 0, ton := none, pxs := [], pys := [], posTrim := none }) }) })

/-- Every chain in flight ends by an abort (R96), with its camera frames (R269) and what follows for a move, the
ceiling and the calibration batches (R307). -/
def State.endChains (s : State) : State :=
  let gone := s.job.chains.map (·.id)
  let s := ((s.each gone (fun c s => s.closeChainFrames c)).abortChains.settleMove).refreshCeil
  s.each gone (fun c s => s.refire c s.job.nextChain)

end Sys2Proof.Machine
end

