-- ==== Sys2Proof/Machine/CalOps.lean ====
section
/-! DEFINITION. The calibration unit's gutters, slots and substituted fire words (R299 to R301), and how it gives nozzles up
(R307). -/

namespace Sys2Proof.Machine

/-- The batch of a given number changed. -/
def State.setBatch (s : State) (id : Nat) (f : CalBatch → CalBatch) : State :=
  s.setCal (fun c => { c with batches := c.batches.map (fun b => if b.id = id then f b else b) })

/-- The gutter bands of a bar in a chain: in a calibration chain, every line (R98, R299). -/
def State.gutters (s : State) (bar : Nat) (c : Chain) : List Gutter :=
  if c.cal then [⟨c.id, 2 ^ bar, 0, 2 ^ 64, true⟩]
  else s.cal.bands.filter (fun g => g.chain = c.id && bit g.bars bar)

/-- T_on − TNOM as TRIM_BASE' (R303): clamped, in whole steps. -/
def State.trimOf (s : State) (n : CalNoz) : Int :=
  match n.ton with
  | some t => if n.thr = 16 then clamp (t - signed 4 (s.get Reg.CAL_ADJ.TNOM)) (-8) 7 else roundDiv (eTrim n.pre) 16
  | none => roundDiv (eTrim n.pre) 16

/-- The level and trim of a cell for a nozzle (the table "Mark sequence"). -/
def State.cellMark (s : State) (x : CalCell) (n : CalNoz) : Nat × Int :=
  if x.no < 16 then (1, (x.no : Int) - 8) else (s.get Reg.CAL_MARK.LEVEL, n.posTrim.getD (s.trimOf n))

/-- The batch and cell that own the slot a line lies in. -/
def State.slotOwner (s : State) (bar c m : Nat) : Option (CalBatch × CalCell) :=
  (s.cal.batches.filter (fun b => b.bar = bar && b.chain = c)).findSome? (fun b =>
    (b.cells.find? (fun x => match x.slot with
      | some f => f ≤ m && m < f + s.cellLines
      | none => false)).map (fun x => (b, x)))

/-- What stage 8 takes in place of a nozzle's level and trim at a gutter line (R301); none where the word is unchanged. An assigned slot
lies in a gutter band, which a standby knows from the plan alone (R311). -/
def State.calSub (s : State) (gn c m : Nat) : Option (Nat × Int) :=
  match s.chain? c with
  | none => none
  | some ch =>
    let bar := ((ch.row? (gn / 1536)).map (·.bar)).getD (s.rowBar (gn / 1536))
    match s.slotOwner bar c m with
    | some (b, x) =>
      match b.noz.find? (fun n => n.gn = gn && x.gns.contains gn) with
      | some n => if m < x.slot.getD 0 + s.get Reg.CAL_MARK.MLEN then some (s.cellMark x n) else some (0, 0)
      | none => some (0, 0)
    | none => if (s.gutters bar ch).any (fun g => g.blank && g.first ≤ m && m ≤ g.last) then some (0, 0) else none

/-- A firing line of a cell is published: the cell fires, with its first position cell the TRIM of the position cells is settled
(R300), and the TICK voted for it counts (R304). -/
def State.calTick (s : State) (bar c m : Nat) : State :=
  if s.cal.batches = [] then s
  else match s.slotOwner bar c m, s.chain? c with
    | some (b, x), some ch =>
      if x.slot.getD 0 + s.get Reg.CAL_MARK.MLEN ≤ m then s
      else (s.when (!x.fired) (·.pmcAdd 389)).setBatch b.id (fun b => { b with
        tsum := b.tsum + ch.tick, tn := b.tn + 1,
        noz := b.noz.map (fun n => if 16 ≤ x.no && x.gns.contains n.gn && n.posTrim = none then { n with posTrim := some (s.trimOf n) } else n),
        cells := b.cells.map (fun y => if y.no = x.no && y.slot = x.slot then { y with fired := true } else y) })
    | _, _ => s

/-! ### Slots (R300) -/

/-- Whether a slot lies wholly inside a bar's gutter bands. -/
def slotInside (gs : List Gutter) (f n : Nat) : Bool :=
  (List.range n).all (fun i => gs.any (fun g => g.first ≤ f + i && f + i ≤ g.last))

/-- The first free slot of a bar from a line on. -/
def State.freeSlot (s : State) (bar : Nat) (c : Chain) (from_ : Nat) : Option Nat :=
  let n := s.cellLines
  let gs := s.gutters bar c
  let owned := ((s.cal.batches.filter (·.bar = bar)).map (·.cells.length)).sum
  let fs := gs.flatMap (fun g =>
    let f0 := max (ceilDiv from_ n * n) (g.first / n * n)
    (List.range (owned + 3)).map (fun i => f0 + i * n))
  (fs.filter (fun f => slotInside gs f n && (s.slotOwner bar c.id f).isNone)).min?

/-- The cells of a bar that wait for a slot, in the order of R300: later passes first, then the oldest batch. -/
def State.waitingCells (s : State) (bar : Nat) : List (Nat × Nat × Nat) :=
  let all := (s.cal.batches.filter (·.bar = bar)).flatMap (fun b =>
    (b.cells.filter (·.slot = none)).map (fun x => (b.id, x.no, x.pass)))
  all.filter (fun e => e.2.2 ≠ 0) ++ all.filter (fun e => e.2.2 = 0)

/-- Give a waiting cell its slot. -/
def State.giveSlot (s : State) (id no f : Nat) : State :=
  s.setBatch id (fun b => { b with
    cells := b.cells.map (fun x => if x.no = no && x.slot = none then { x with slot := some f } else x) })

/-- Slots of a bar that lie beyond its published lines are free again: the order of R300 decides anew who takes them. -/
def State.releaseSlots (s : State) (bar : Nat) : State :=
  let old := s
  s.setCal (fun x => { x with batches := x.batches.map (fun b =>
    if b.bar ≠ bar then b
    else
      let top := ((old.chain? b.chain).map (old.barHigh bar)).getD (-1)
      { b with cells := b.cells.map (fun c => match c.slot with
          | some f => if !c.fired && top < (f : Int) then { c with slot := none } else c
          | none => c) }) })

/-- Assign slots to the waiting cells of a bar, in line order: in the batch's chain, from beyond its published lines. -/
def State.assignCells (s : State) (bar : Nat) : State :=
  if s.cellLines = 0 then s
  else
    let s := s.releaseSlots bar
    s.each (s.waitingCells bar) (fun e s =>
      match s.cal.batches.find? (·.id = e.1) with
      | none => s
      | some b =>
        match s.chain? b.chain with
        | none => s
        | some c =>
          match s.freeSlot bar c (max b.first (s.barHigh bar c + 1).toNat) with
          | some f => s.giveSlot e.1 e.2.1 f
          | none => s)

/-! ### The corrections of a stitch (R309) -/

/-- The corrections of one row (R309). -/
def State.applyRow (s : State) (k mask : Nat) (dx dt : Int) : State :=
  s.each ((List.range (s.rowCols k)).map (rowGn k + ·)) (fun g s =>
    let w := s.entry g
    let w := eSet (eSet w 2 0 32 (clamp ((eXpos w : Int) + dx) 0 (2 ^ 32 - 1)).toNat) 1 4 11 (clamp ((eTap w : Int) + dt) 0 2047).toNat
    (s.smpCreate 3 g mask (s.get Reg.CAL_RAMP.RET) w).2)

/-- Rows whose predecessors' records have all been delivered get theirs; `fuel` bounds the rows. -/
def State.applyNext : Nat → State → State
  | 0, s => s
  | fuel + 1, s =>
    match s.cal.apply with
    | [] => s
    | (k, mask, dx, dt) :: rest =>
      if s.smp.recs.any (fun r => !r.delivered && r.gn / 24576 = k / 16) then s
      else State.applyNext fuel ((s.setCal ({ · with apply := rest })).applyRow k mask dx dt)

/-! ### Giving nozzles up (R307) -/

def State.showTaken (s : State) : State :=
  let s := s.put Reg.CAL_STS.TAKEN ((s.cal.batches.map (·.noz.length)).sum)
  s.putB Reg.CAL_STS.BUSY (s.cal.runs ≠ [] || s.cal.stitch.isSome)

/-- A taken nozzle is abandoned: the record that restores it, unless a host record has moved it, and the code posted. -/
def State.calRestore (s : State) (n : CalNoz) (code : Nat) : State :=
  let s := s.count (Reg.CAL_CNT.CNT 6)
  if eState (s.entry n.gn) ≠ 5 then s
  else
    ((s.smpCreate 3 n.gn (1 + 2 ^ 5 + 2 ^ 6 + 2 ^ 7 + 2 ^ 8) (s.get Reg.CAL_RAMP.RET) n.pre).2).post
      (ev code srcCAL none none (s.dataNozzle n.gn))

/-- A batch's plan travels to the standby (R311): again whenever its slots change, and emptied when the batch has ended. -/
def State.sharePlan (s : State) (b : CalBatch) : State :=
  s.when (s.get Reg.DUE_STS.ROLE = 1) (·.setDue (fun d => { d with copyQ := d.copyQ ++ [.plan b] }))
def State.planGone (s : State) (b : CalBatch) : State := s.sharePlan { b with noz := [], cells := [] }

/-- Slots are assigned on a bar, and plans whose slots have changed travel again. -/
def State.assignShare (s : State) (bar : Nat) : State :=
  let old := s.cal.batches
  let s := s.assignCells bar
  s.each (s.cal.batches.filter (fun b => b.bar = bar && !old.contains b)) (fun b s => s.sharePlan b)

/-- Every nozzle of a batch is abandoned, and the batch ends. -/
def State.dropBatch (s : State) (id code : Nat) : State :=
  match s.cal.batches.find? (·.id = id) with
  | none => s
  | some b =>
    let s := s.each b.noz (fun n s => s.calRestore n code)
    let s := s.planGone b
    let s := s.setCal (fun c => { c with
      batches := c.batches.filter (·.id ≠ id),
      runs := c.runs.map (fun r => if r.port = b.port && b.set = 0 then { r with done := r.done ++ b.noz.map (·.gn) } else r) })
    s.showTaken

/-- A RUN descriptor whose runs or stitch have ended completes (R299). -/
def State.runEnded (s : State) (p : Nat → Bool) (bar : Option Nat) (status : Nat) : State :=
  let s := s.setCal (fun c => { c with descs := c.descs.map (fun d => { d with
    ports := d.ports.filter (fun q => !p q),
    bar := if bar.isSome && d.bar = bar then none else d.bar,
    status := if (d.ports.any p || (bar.isSome && d.bar = bar)) && d.status = Code.ST_OK then status else d.status }) })
  let past := s.cal.descs.filter (fun d => d.ports = [] && d.bar = none)
  let s := s.setCal (fun c => { c with descs := c.descs.filter (fun d => !(d.ports = [] && d.bar = none)) })
  s.each past (fun d s => s.complete d.ring d.index d.status)

/-- A nozzle leaves its batch. -/
def CalBatch.without (b : CalBatch) (gn : Nat) : CalBatch :=
  { b with
    noz := b.noz.filter (·.gn ≠ gn),
    cells := (b.cells.map (fun x => { x with
      gns := x.gns.filter (· ≠ gn), left := x.left.filter (· ≠ gn), void := x.void.filter (· ≠ gn) })).filter (·.gns ≠ []) }

/-- Taken nozzles that other events give up (R312): one that a host record has moved out of CALIBRATING, and a spare whose partner
comes to need cover. -/
def State.calWatch (s : State) : State :=
  if s.get Reg.DUE_STS.ROLE = 2 then s
  else s.each (s.cal.batches.flatMap (fun b => b.noz.map (fun n => (b.id, n)))) (fun e s =>
    let n := e.2
    let w := s.entry n.gn
    let moved := eState w ≠ 5
    let wanted := eRole n.pre = 1 && ePartner w ≠ noPartner && needsCover (s.entry (ePartner w))
    if moved || wanted then
      let s := s.calRestore n Code.ST_CAL_STOPPED
      ((s.setBatch e.1 (·.without n.gn)).setCal (fun c => { c with
        runs := c.runs.map (fun r => if r.port = n.gn / 24576 then { r with done := r.done ++ [n.gn] } else r) })).showTaken
    else s)

/-- STOP, an abort of the calibration ring, or leaving M6, M7 and M9: every taken nozzle is abandoned, and the runs and the
stitch end without T_cal. -/
def State.calStop (s : State) (code : Nat) : State :=
  let ports := s.cal.runs.map (·.port)
  let bar := s.cal.stitch.map (·.bar)
  let s := s.each (s.cal.batches.map (·.id)) (fun id s => s.dropBatch id code)
  let s := s.each ports (fun p s => (s.put (Reg.CAL_PORT_STS.RUNNING p) 0).put (Reg.CAL_PORT_STS.DUE p) 0)
  let s := s.setCal (fun c => { c with runs := [], stitch := none, due := c.due.filter (fun p => !ports.contains p) })
  let s := s.when (ports ≠ []) (·.runEnded (fun p => ports.contains p) none code)
  (match bar with
    | some b => s.runEnded (fun _ => false) (some b) code
    | none => s).showTaken

end Sys2Proof.Machine
end

