-- ==== Sys2Proof/Machine/SafeStop.lean ====
section
/-! DEFINITION. Mode changes that happen on their own: Safe-stop (R494, R495), Frozen (R496), and the Duet role changes a cause
brings (R329, R331). -/

namespace Sys2Proof.Machine

/-! ### Modes -/

/-- The mode in force changes (R482): the published ceiling follows, calibration ends outside M6, M7 and M9 (R307), and calibration
jobs that wait end with M9 (R98). -/
def State.setMode (s : State) (m : Nat) : State :=
  let old := s.mode
  let s := s.put Reg.DEV_MODE.MODE m
  let s := s.when ((old = 6 || old = 7 || old = 9) && m ≠ 6 && m ≠ 7 && m ≠ 9) (·.calStop Code.ST_CAL_STOPPED)
  let s := s.when (old = 9 && m ≠ 9) State.dropCalJobs
  s.refreshCeil

/-- An automatic change of mode (R483). -/
def State.autoMode (s : State) (m cause : Nat) : State :=
  ((s.setMode m).pmcAdd 455).post (ev Code.ST_MODE_CHANGE srcPWR m cause)

/-- A pending request is cancelled (R483, R510). -/
def State.cancelMode (s : State) (code : Nat) : State :=
  match s.pwr.modeReq with
  | none => s
  | some q =>
    let s := { s with pwr := { s.pwr with modeReq := none } }
    let s := (s.put Reg.DEV_MODE.RESULT 1).post (ev Code.ST_MODE_REFUSED srcPWR code)
    match q.desc with
    | some (r, i) => s.complete r i Code.ST_MODE_REFUSED code
    | none => s

/-! ### Duet roles (R317, R331) -/

/-- The die whose reports this member votes changes (R322, R323): the counts of the die now voted are corrected by ΔC, so that position
stays continuous, and ΔC becomes the correction of the die voted before. -/
def State.voteDie (s : State) (own : Bool) : State :=
  let ofs := s.getI64 Reg.DUE_CNT_OFS.PAIR
  let old := if own then s.due.adjPeer else s.due.adjOwn
  (s.setDue (fun d => { d with
    adjOwn := if own then ofs else d.adjOwn, adjPeer := if own then d.adjPeer else ofs,
    shadow := [{}, {}, {}], diffs := [], localTold := false })).putI64 Reg.DUE_CNT_OFS.PAIR old

/-- A role change: the die voted (R322), DRIVE and OWN of BCN_M, motion held in CLAIM and dropped in DETACHED (R468). -/
def State.setRole (s : State) (r : Nat) : State :=
  if s.get Reg.DUE_STS.ROLE = r then s
  else
    let s := s.when ((s.get Reg.DUE_STS.ROLE = 2) != (r = 2)) (·.voteDie (r ≠ 2))
    let s := (s.put Reg.DUE_STS.ROLE r).put Reg.DUE_STS.EPOCH (s.get Reg.DUE_STS.EPOCH + 1)
    let s := (s.pmcAdd 415).setDue (fun d => { d with
      drive := r = 0 || r = 1 || r = 3, own := r = 0 || r = 1, swap := none, tsrc := [], await := false })
    let s := s.put Reg.DUE_STS.LOCAL_SRC 0
    let s := if r = 3 then s.put Reg.DUE_STS.MOT_HELD 1 else s
    let s := if r = 4 then (s.put Reg.DUE_STS.MOT_HELD 0).dropMotion else s
    s.refreshCeil

/-- A DETACH cause (R331): of a STANDBY or a CLAIM. -/
def State.detach (s : State) : State :=
  if s.get Reg.DUE_STS.ROLE = 2 || s.get Reg.DUE_STS.ROLE = 3 then (s.setRole 4).post (ev Code.ST_DUE_DETACHED srcDUE) else s

/-- An order of the primary to its standby (R325); none after a swap until the old primary's last state copy is in (R335). -/
def State.order (s : State) (payload : List Nat) : State :=
  if s.get Reg.DUE_STS.ROLE = 1 && !s.due.await then s.duetSend 2 payload else s

/-- The report boundary in progress. -/
def State.boundary (s : State) : Nat := s.now / 2 ^ s.get Reg.TRK_CFG.RPT_LOG * 2 ^ s.get Reg.TRK_CFG.RPT_LOG

/-! ### Safe-stop and Frozen -/

/-- Steps 1 to 3 of the table "Safe-stop": chains end, FLUSH goes to every UP port, the ceiling is 0 in the new mode. -/
def State.stopSteps (s : State) (m : Nat) : State :=
  let s := (s.endChains).each s.upPorts State.flushPort
  s.setMode m

/-- Entry to Safe-stop (R495). What it tells waits for the end of the clock: of two causes in one clock the lower code is told (R510). -/
def State.enterSafeStop (s : State) (code : Nat) : State :=
  let refline := s.get64 Reg.TRK_REFLINE.PAIR
  let s := ((s.cancelMode code).stopSteps 10).count Reg.PWR_SAFESTOP.CNT
  let s := (s.pmcAdd 446).setDue (fun d => { d with
    swap := d.swap.filter (fun x => x.at_ ≠ some s.boundary),
    orders := d.orders.filter (fun o => o ≠ .swap s.boundary) })
  let s := ((s.each s.upPorts (State.headMode 0)).stopAxes).pmcAdd 455
  { s with pwr := { s.pwr with stopTell := some (code, refline) } }

/-- At the end of the clock the entry is told: its cause, the error record (R513), the events (R483, R495) and the order to the
standby (R325). -/
def State.tellStop (s : State) : State :=
  match s.pwr.stopTell with
  | none => s
  | some (code, refline) =>
    let s := { s with pwr := { s.pwr with stopTell := none } }
    let s := (s.put Reg.PWR_SAFESTOP.CAUSE code).errRecord (er code srcPWR 3 2 0 none refline)
    let s := (s.post (ev Code.ST_SAFESTOP srcPWR code refline)).order [2 + 2 ^ 8 * code, s.boundary]
    s.post (ev Code.ST_MODE_CHANGE srcPWR (some 10) code)

/-- A cause of Safe-stop (R494): entry in M5 to M9, the event alone in M3, M4 and M10, a count in M2 and M11; in a standby, a
DETACH cause (R329). A second cause in the clock of the entry only lowers its code (R510). -/
def State.safeStop (code : Nat) (s : State) : State :=
  if s.get Reg.DUE_STS.ROLE = 2 then s.detach
  else if s.modeIn 5 9 then s.enterSafeStop code
  else if s.mode = 3 || s.mode = 4 || s.mode = 10 then
    match s.pwr.stopTell with
    | some (c, line) => { s with pwr := { s.pwr with stopTell := some (min c code, line) } }
    | none => (s.put Reg.PWR_SAFESTOP.CAUSE code).post (ev Code.ST_SAFESTOP srcPWR code (s.get64 Reg.TRK_REFLINE.PAIR))
  else (s.count Reg.PWR_SAFESTOP.CNT).put Reg.PWR_SAFESTOP.CAUSE code

/-- Entry to Frozen (R496): steps 1 to 3 unless they are done, and the mode M11. -/
def State.freeze (code : Nat) (s : State) : State :=
  if s.mode = 11 || s.mode ≤ 1 then s
  else
    let s := s.cancelMode code
    let s := if s.mode = 10 || s.mode = 2 then s.setMode 11 else s.stopSteps 11
    ((s.stopAxes.pmcAdd 453).pmcAdd 455).post (ev Code.ST_MODE_CHANGE srcPWR (some 11) code)

/-- A head port's link leaves UP (R221): with DOWN_ACT and a row of the port in a chain, a Safe-stop cause. -/
def State.portDown (s : State) (p : Nat) : State :=
  let act := s.portUp p && s.flag (Reg.HP_CFG.DOWN_ACT p) && s.inChain p
  (s.linkDown p).when act (State.safeStop Code.ST_HP_LINK_DOWN)

/-- The port's bring-up starts again from DETECT (R188, R193). -/
def State.redetect (s : State) (p : Nat) : State := (s.portDown p).hpState p 1

end Sys2Proof.Machine
end

