-- ==== Sys2Proof/Machine/Timebase.lean ====
section
/-! DEFINITION. The Meridian counter, station time and the web encoder inputs (chapter 02, R37 to R50). -/

namespace Sys2Proof.Machine

/-! ### Meridian time (R37 to R39) -/

/-- A write of MER_SET_HI (R38): outside M2 to M4, or in a FOLLOWER, it is dropped and reported as a locked write. DEDUCED (log entry
106): MER_CTRL.LOCK alone does not drop it, since MER_SET is WO and R15 keeps RWL fields. -/
def State.merSet (s : State) (slot : Nat) (hi : Word) : State :=
  if s.modeIn 2 4 && s.get Reg.MER_CTRL.ROLE ≠ 2 then { s.retime with now := s.pairWritten slot Reg.MER_SET.PAIR.addr hi }
  else s.reportAccess slot 0 (Reg.MER_SET.PAIR.addr + 4) 1

def execMerSet (slot : Nat) (hi : Word) (s : State) : Host.Outcome State Fault Refusal :=
  .next (s.ownerWrite slot (Reg.MER_SET.PAIR.addr + 4) (·.merSet slot hi))

/-- A PTM dialogue of the selected port (R39), every 2^PERIOD ms: the pair it latches, or its failure, as where the port does not
answer. -/
def execPtmDialogue (root : Option Nat) (s : State) : Host.Outcome State Fault Refusal :=
  let port := s.get Reg.MER_PTM_CTRL.PORT
  let period := 4000000 * 2 ^ min (s.get Reg.MER_PTM_CTRL.PERIOD) 10
  let due : Bool := match s.tb.ptmAt with
    | some t => decide (t + period ≤ s.now)
    | none => true
  let heard := s.reach port
  .next (
    if !s.awake || !s.flag Reg.MER_PTM_CTRL.EN || !due then s
    else
      let s := ((s.setTb ({ · with ptmAt := some s.now })).pmcAdd 454).when heard (·.send (.ptm port))
      match root.filter (fun _ => heard) with
      | none => s.put Reg.MER_PTM_CTRL.FAIL 1
      | some r =>
        let s := (s.put64 Reg.MER_PTM_ROOT.PAIR r).put64 Reg.MER_PTM_MT.PAIR s.now
        (s.put Reg.MER_PTM_CTRL.VALID 1).put Reg.MER_PTM_CTRL.SEQ (s.get Reg.MER_PTM_CTRL.SEQ + 1))

/-! ### Following a master (R40 to R42, R319) -/

/-- The rate that ±100 ppm is, in units of 2^-40. -/
def ppm100 : Int := 109951162

/-- One exchange of a follower, by the arithmetic of R196 with A = 0, from t1 to t4: void where its round trip lies more than
8 mt from the median of the last 8; otherwise the first one steps the time in M2 to M4 (R41), and each corrects the rate, by a
loop whose gains no rule states. -/
def State.follow (s : State) (t1 t2 t3 t4 : Nat) : State :=
  let rtt : Int := ((t4 : Int) - t1) - ((t3 : Int) - t2)
  let theta256 : Int := 256 * ((t2 : Int) - t1) - 128 * rtt
  let hist := s.tb.rtts
  if 8 ≤ hist.length && 8 < (rtt - median hist).natAbs then s.setTb (fun t => { t with missed := t.missed + 1 })
  else
    let near := theta256.natAbs ≤ 1024
    let step := s.modeIn 2 4 && !s.tb.stepped
    let run := if near then s.tb.goodRun + 1 else 0
    let rate := signed 32 (s.open_ 32)
    let rate := if s.modeIn 5 11 then clamp rate (-ppm100) ppm100 else rate
    let s := s.drawn.setTb (fun t => { t with
      rtts := (rtt :: hist).take 8, goodRun := min run 16, lastGood := some s.now, stepped := true, missed := 0,
      loopRate := rate, holdTold := false })
    let s := s.when step (fun s => { s.retime with now := ((s.now : Int) + divOpen theta256 256).toNat })
    let s := (s.putSat Reg.MER_STN_STS.OFFSET (-(divOpen theta256 256))).put Reg.MER_STN_DELAY.DELAY (divOpen rtt 2).toNat
    let s := s.put Reg.MER_STN_STS.HOLD 0
    s.when (16 ≤ run && !s.flag Reg.MER_STN_STS.LOCKED) (fun s =>
      (s.put Reg.MER_STN_STS.LOCKED 1).post (ev Code.ST_MER_LOCK srcMER))

/-- Whether the Duet peer steers this member's time (R319). -/
def State.disciplined (s : State) : Bool := s.get Reg.DUE_STS.ROLE = 2 || s.due.discipline

/-- The peer link that steers the time of a member of a ROLE: the Duet link, or the station uplink of a FOLLOWER. -/
def State.steeredBy (s : State) (role : Nat) : Option Nat :=
  if s.disciplined then some 0
  else if role = 2 then some (1 + s.get Reg.MER_STN_CFG.UPLINK)
  else none

def State.steering (s : State) : Option Nat := s.steeredBy (s.get Reg.MER_CTRL.ROLE)

/-- The ROLE under which an exchange that began at a time runs: the old one where a new one was written since (R255). -/
def State.roleAt (s : State) (t : Nat) : Nat :=
  match s.tb.roleWas with
  | some (role, changed) => if t < changed then role else s.get Reg.MER_CTRL.ROLE
  | none => s.get Reg.MER_CTRL.ROLE

/-- What a follower has learnt of its master is void: its ROLE or its UPLINK has changed (R41; log entry 107). -/
def State.restartFollow (s : State) : State :=
  let s := s.setTb (fun t => { t with
    stepped := false, goodRun := 0, lastGood := none, missed := 0, rtts := [], holdTold := false })
  (s.put Reg.MER_STN_STS.LOCKED 0).put Reg.MER_STN_STS.HOLD 0

/-- The requester sends TT_REQ with its next XID (R195, R251). -/
def State.peerTtReq (s : State) (l : Nat) : State :=
  (s.setPeer l (fun x => { x with xid := (x.xid + 1) % 256 })).sendNow (96 + l) (.ttReq (s.peer l).xid)

/-- Whether a device of a ROLE answers the exchanges of a peer link (R40, R251, R319): a MASTER on the station lanes of TX_MASK, and on
the Duet link the member that does not request. -/
def State.answers (s : State) (role l : Nat) : Bool :=
  if l = 0 then !s.disciplined else role = 1 && bit (s.get Reg.MER_STN_CFG.TX_MASK) (l - 1)

/-- Whether a device of a ROLE requests on a peer link: on the link that steers it, and a FOLLOWER that its Duet peer steers on its
uplink all the same (R319). -/
def State.requests (s : State) (role l : Nat) : Bool :=
  s.steeredBy role = some l || (role = 2 && l = 1 + s.get Reg.MER_STN_CFG.UPLINK)

/-- The responder answers TT_REQ with TT_RSP on link lane 0, and with TIME (R249, R251). -/
def State.peerAnswer (s : State) (l xid t2 t3 : Nat) : State :=
  (s.sendNow (96 + l) (.ttRsp xid)).peerPut l ⟨0, 1, [xid % 256 * 2 ^ 16, t2, t3], none⟩

/-- A time exchange on a peer link (R40, R251, R319): `lane` is its link lane 0. A station peer must declare itself MASTER. A responder
answers the TT_REQ that carries `xid` with TT_RSP, and with TIME. An exchange in progress when ROLE changed completes under the old
role (R255). -/
def execStationTimeExchange (lane xid t1 : Nat) (far : FarTimes) (t4 : Nat) (s : State) : Host.Outcome State Fault Refusal :=
  .next (match (List.range 9).find? (fun l => peerLane l = lane) with
    | none => s
    | some l =>
      if !s.awake || s.peerLink l ≠ 8 then s
      else if s.requests (s.roleAt t1) l then
        if l ≠ 0 && (s.peer l).annRole ≠ 1 then s
        else if s.steeredBy (s.roleAt t1) = some l then (s.peerTtReq l).follow t1 far.t2 far.t3 t4
        else s.peerTtReq l
      else s.when (s.answers (s.roleAt far.t2) l) (·.peerAnswer l xid far.t2 far.t3))

/-- Holdover begins (R42): three exchanges missed, or the uplink down. -/
def execStMerHoldover (s : State) : Host.Outcome State Fault Refusal :=
  .next (match s.steering with
    | none => s
    | some l =>
      let late : Bool := decide (s.tb.lastGood.getD (s.peer l).since + 3 * 4000000 ≤ s.now)
      if s.flag Reg.MER_STN_STS.HOLD || !(late || 3 ≤ s.tb.missed || s.peerLink l ≠ 8) then s
      else
        let s := s.setTb (fun t => { t with goodRun := 0, holdTold := false })
        (((s.put Reg.MER_STN_STS.LOCKED 0).put Reg.MER_STN_STS.HOLD 1).put Reg.MER_STN_STS.LOCK_LOST 1).post
          (ev Code.ST_MER_HOLDOVER srcMER))

/-- The holdover estimate passes HOLD_LIM (R42): elapsed time × HOLD_PPB, once in a holdover. -/
def execStMerHoldLimit (s : State) : Host.Outcome State Fault Refusal :=
  let dt := s.now - s.tb.lastGood.getD 0
  .next (s.when (s.flag Reg.MER_STN_STS.HOLD && !s.tb.holdTold
      && dt * s.get Reg.MER_STN_CFG.HOLD_PPB > s.get Reg.MER_STN_CFG.HOLD_LIM * 4000000000) (fun s =>
    ((s.put Reg.MER_STN_STS.HOLD_LIM_EXC 1).setTb ({ · with holdTold := true })).post (ev Code.ST_MER_HOLD_LIMIT srcMER)))

/-! ### Web encoder inputs (R43 to R48) -/

/-- Whether the field die decodes its encoder inputs. -/
def State.decodes (s : State) : Bool := s.fld.state ≠ .off && s.fld.state ≠ .pwrFail

/-- Whether the web input is the one that SRC selects. -/
def State.mainInput (s : State) (input : Nat) : Bool := input = s.fget Reg.ENC_CTRL.SRC

/-- One count of the divider (R48). -/
def State.encoutStep (s : State) (fwd : Bool) : State :=
  s.setTb (fun t =>
    if fwd then
      let a := t.encoutAcc + t.encoutN
      if t.encoutM ≤ a then { t with encoutAcc := a - t.encoutM, encoutCnt := t.encoutCnt + 1 } else { t with encoutAcc := a }
    else if t.encoutAcc < t.encoutN then
      { t with encoutAcc := t.encoutAcc + t.encoutM - t.encoutN, encoutCnt := t.encoutCnt - 1 }
    else { t with encoutAcc := t.encoutAcc - t.encoutN })

/-- Unsent lines and triggers when the direction turns to reverse (R69, R266); rows return after it (R69). -/
def State.turnReverse (s : State) : State :=
  let s := s.withdraw (fun _ => true)
  let s := (s.each (s.flying.flatMap Chain.rows) (fun k s => s.setRow k ({ · with ret := true }))).setTb ({ · with returning := true })
  { s with cams := s.cams.map (fun e => (e.1, { e.2 with
      trigs := e.2.trigs.map (fun t => if t.sent then t else { t with supp := true }) })) }

/-- The decoded direction changes (R47). -/
def State.turnWeb (s : State) (rev : Bool) : State :=
  let s := ((s.put Reg.ENC_STS.DIR_CHG 1).putB Reg.ENC_STS.DIR rev).putB Reg.TRK_STS.REVERSE rev
  let s := s.when (rev && !(s.get Reg.DUE_STS.ROLE = 2 && s.get Reg.DUE_STS.LOCAL_SRC = 0)) State.turnReverse
  s.post (ev (if rev then Code.ST_WEB_REVERSE else Code.ST_WEB_FORWARD) srcENC)

/-- A count of the selected input (R43, R47, R48). -/
def State.webCount (s : State) (fwd : Bool) : State :=
  let c := (s.get64 Reg.ENC_COUNT.PAIR + (if fwd then 1 else 2 ^ 48 - 1)) % 2 ^ 48
  let s := (s.put64 Reg.ENC_COUNT.PAIR c).pmcAdd (if fwd then 456 else 457)
  let s := s.setFld ({ · with edgeAt := some s.now })
  let s := (s.encoutStep fwd).encoutDrive.setTb (fun t => { t with incMain := t.incMain + (if fwd then 1 else -1) })
  s.when (s.flag Reg.ENC_STS.DIR == fwd) (·.turnWeb (!fwd))

/-- A transition of A or B of a web input (R43); a level that lasts less than FILT ns is ignored. -/
def execEncoderCount (input : Nat) (edge : EncEdge) (s : State) : Host.Outcome State Fault Refusal :=
  let fwd := edge.forward != s.fflag Reg.ENC_CTRL.INV
  .next (
    if !s.decodes || 2 ≤ input || edge.level < s.fget Reg.ENC_CTRL.FILT then s
    else if s.mainInput input then s.webCount fwd
    else s.setTb (fun t => { t with incChk := t.incChk + (if fwd then 1 else -1) }))

/-- A and B change in one sample (R44). -/
def execQuadratureError (input : Nat) (s : State) : Host.Outcome State Fault Refusal :=
  .next (
    if !s.decodes || !s.mainInput input then s
    else
      let s := ((s.put Reg.ENC_STS.QERR 1).count Reg.ENC_QERR_CNT.CNT).pmcAdd 458
      let old := s.tb.qerrs.filter (fun t => s.now < t + 4000000)
      let bursting := s.tb.qburst && 16 ≤ old.length
      let s := s.setTb ({ · with qerrs := (s.now :: old).take 64, qburst := bursting || 16 ≤ old.length + 1 })
      s.when (!bursting && 16 ≤ old.length + 1) (fun s =>
        State.safeStop Code.ST_ENC_QERR_BURST ((s.put Reg.ENC_STS.QERR_BURST 1).post (ev Code.ST_ENC_QERR_BURST srcENC))))

/-- The 1 ms comparison of the two inputs (R45). -/
def execEncCheckCompare (s : State) : Host.Outcome State Fault Refusal :=
  let d := s.tb.incMain * 2 ^ 24 - s.tb.incChk * s.get Reg.ENC_CHK_RATIO.RATIO
  let bad := s.flag Reg.ENC_CTRL.CHK_EN && d.natAbs > s.get Reg.ENC_CHK_TOL.TOL * 2 ^ 24
  let s := s.setTb ({ · with incMain := 0, incChk := 0 })
  .next (s.when bad (fun s =>
    let s := (s.put Reg.ENC_STS.CHK_MISMATCH 1).post (ev Code.ST_ENC_CHECK_MISMATCH srcENC)
    s.when (s.flag Reg.ENC_CTRL.CHK_ACT) (State.safeStop Code.ST_ENC_CHECK_MISMATCH)))

/-- The index pulse of the selected input (R46, R48). -/
def execEncoderIndex (input : Nat) (s : State) : Host.Outcome State Fault Refusal :=
  .next (
    if !s.decodes || !s.mainInput input then s
    else
      let s := match s.tb.encoutPend with
        | some (n, m) => s.encoutTake n m
        | none => s
      let s := s.encoutIndex
      let mode := s.fget Reg.ENC_CTRL.IDX_MODE
      let armed := s.flag Reg.ENC_CTRL.ARM
      if mode = 1 || (mode = 2 && armed) then
        let pre := s.get64 Reg.ENC_COUNT.PAIR
        let val := signed 32 (s.fget Reg.ENC_IDX_VAL.VAL)
        let s := (s.put64 Reg.ENC_COUNT.PAIR (unsigned 48 val)).putSat Reg.ENC_IDX_JUMP.JUMP (wrapCount ((pre : Int) - val))
        let s := (s.put Reg.ENC_STS.IDX 1).put Reg.ENC_CTRL.ARM 0
        let s := s.setFld (fun f => { f with idxAt := some (pre % 2 ^ 18, s.now) })
        (s.pmcAdd 459).post (ev Code.ST_ENC_INDEX srcENC)
      else s)

/-- A write of ENCOUT_M (R48): the pair goes to the field die, or is dropped with CFG_ERR. -/
def State.encoutCommit (s : State) (slot : Nat) (data : Word) : State :=
  let n := s.tb.encoutBuf.getD (s.get Reg.ENCOUT_N.N)
  let m := data.toNat
  let s := s.setTb ({ · with encoutBuf := none })
  if s.lockedAt Reg.ENCOUT_M.AT then
    s.when (s.get Reg.ENCOUT_M.M ≠ m || s.get Reg.ENCOUT_N.N ≠ n) (·.reportAccess slot 0 Reg.ENCOUT_M.AT 1)
  else if n = 0 || m < n then s.put Reg.ENC_STS.CFG_ERR 1
  else (s.commitField Reg.ENCOUT_N.AT (BitVec.ofNat 32 n)).commitField Reg.ENCOUT_M.AT data

def execEncoutMCommit (slot : Nat) (data : Word) (s : State) : Host.Outcome State Fault Refusal :=
  .next (s.ownerWrite slot Reg.ENCOUT_M.AT (·.encoutCommit slot data))

/-! ### Edge reports of the field die (R49, R430, R432) -/

/-- The frames of one channel's report for boundary `tk`: RPT_A, RPT_B, and RPT_X where an index loaded the count. -/
def State.reportFrames (s : State) (ch tk : Nat) : State :=
  let f := s.fld
  let c := s.get64 Reg.ENC_COUNT.PAIR
  let edge := f.edgeAt.isSome
  let dt := tk - f.edgeAt.getD tk
  let s := s.sendFrameAt tk ch 1 (c % 2 ^ 34)
  let s := s.sendFrameAt (tk + 164) ch 2 (c / 2 ^ 34 + dt % 2 ^ 16 * 2 ^ 14 + edge.toNat * 2 ^ 30
    + (s.flag Reg.ENC_STS.DIR).toNat * 2 ^ 31 + f.idxAt.isSome.toNat * 2 ^ 32)
  match f.idxAt with
  | none => s
  | some (cpre, t) => s.sendFrameAt (tk + 328) ch 3 (cpre + (tk - t) % 2 ^ 16 * 2 ^ 18)

/-- At a report boundary each timing channel that is not replaying sends its report, while TIME_LOCK is set (R427, R430,
R432). The contents of RPL frames come from a stored pattern that no rule gives. -/
def execEdgeReport (boundary : Nat) (s : State) : Host.Outcome State Fault Refusal :=
  let rpt := 2 ^ s.fget Reg.TRK_CFG.RPT_LOG
  .next (
    if !s.fld.lock || boundary % rpt ≠ 0 || s.now < boundary || s.fld.rptAt = some boundary then s
    else
      let s := s.each [0, 1, 2] (fun ch s =>
        if s.fld.replay.any (fun e => e.1 = ch) then
          let x := s.open_ 68
          (s.drawn.sendFrameAt boundary ch 5 (x % 2 ^ 34)).sendFrameAt (boundary + 164) ch 6 (x / 2 ^ 34 % 2 ^ 33)
        else s.reportFrames ch boundary)
      s.setFld (fun f => { f with
        edgeAt := none, idxAt := none, rptAt := some boundary,
        replay := (f.replay.map (fun e => (e.1, e.2 - 1))).filter (fun e => e.2 ≠ 0) }))

end Sys2Proof.Machine
end

