-- ==== Sys2Proof/Machine/Troika.lean ====
section
/-! DEFINITION. The sequencers and the vote (chapter 02, R49 to R66): edge reports, candidates, and self-tests of a channel. -/

namespace Sys2Proof.Machine

/-! ### The position predictor (R51, R52, R431) -/

/-- C_pre (R431): the value congruent to CPRE modulo 2^18 within ±2^17 counts of the previous report's count. -/
def fullPre (last cpre : Nat) : Int := last + ((cpre - last + 2 ^ 17 : Int) % (2 ^ 18 : Nat) - 2 ^ 17)

/-- A sequencer takes a report (R51), after the jump of an index load is removed (R46) and the correction of its die's counts is
subtracted (R323). -/
def Seq.take (x : Seq) (kp kv rpt : Nat) (idxVal adj : Int) (r : EdgeReport) (tk : Nat) : Seq :=
  let jump := if r.idx && !x.fresh then x.jump + wrapCount (fullPre x.lastC r.cpre - idxVal) else x.jump
  let jump := if x.fresh then 0 else jump
  let c := ((r.count : Int) + jump - adj) * 65536
  let y : Seq :=
    if x.fresh then { x with ps := wrap48 c, v := 0, ts := r.te, fresh := false }
    else if !r.edge then x
    else
      let pp := x.ps + sar (x.v * ((r.te : Int) - x.ts)) 32
      let e := wrap48 (c - pp)
      { x with ps := wrap48 (pp + sar e kp), v := x.v + sar (e * 2 ^ 32) (kv + rpt), ts := r.te }
  let y := if !r.reverse && 0 < wrap48 (y.ps - y.hwm) then { y with hwm := y.ps } else y
  { y with jump := jump, lastTk := some tk, lastC := r.count, lastRev := r.reverse }

def State.seq (s : State) (ch : Nat) : Seq := s.tb.seqs.getD ch {}
def State.setSeq (s : State) (ch : Nat) (f : Seq → Seq) : State := s.setTb (fun t => { t with seqs := updateAt t.seqs ch f })

/-- A predictor takes a report with the gains in force. -/
def State.taken (s : State) (r : EdgeReport) (tk : Nat) (adj : Int) (x : Seq) : Seq :=
  x.take (s.get Reg.TRK_CFG.KP) (s.get Reg.TRK_CFG.KV) (s.get Reg.TRK_CFG.RPT_LOG) (s.getI Reg.ENC_IDX_VAL.VAL) adj r tk

/-- A report enters the sequencer of a channel, which may run in shadow (R63) but not its self-test. -/
def State.seqReport (s : State) (ch tk : Nat) (adj : Int) (r : EdgeReport) : State :=
  s.setSeq ch (fun x => if x.testing then x else s.taken r tk adj x)

/-- The channels in the vote. -/
def State.inVote (s : State) : List Nat := [0, 1, 2].filter (bit (s.get Reg.TRK_STS.IN))

/-- The lowest-numbered channel in the vote (R52). -/
def State.leadSeq (s : State) : Seq := s.seq (s.inVote.headD 0)

/-- Every member of a Duet votes its own die's reports but the standby (R66, R322). -/
def State.votesOwn (s : State) : Bool := s.get Reg.DUE_STS.ROLE ≠ 2

/-- Whether the main die expects a report for a boundary (R559): while TIME_LOCK is 1, and at the one boundary after its fall. -/
def State.expects (s : State) (tk : Nat) : Bool :=
  (match s.tb.lockFrom with
    | some t => decide (t ≤ tk)
    | none => false) &&
  (s.flag Reg.FLD_STS.TIME_LOCK || (match s.tb.lockEnd with
    | some e => decide (tk ≤ e)
    | none => false))

/-- The boundary after a fall of TIME_LOCK, whose report counts as stale on every channel (R559). -/
def State.lastDue (s : State) (tk : Nat) : Bool := s.tb.lockEnd = some tk

/-- Channels whose replay has passed load from the lowest-numbered channel in the vote at their report boundary, and run in shadow
(R63). -/
def State.loadChannels (s : State) (tk : Nat) : State :=
  let l := s.leadSeq
  s.each [0, 1, 2] (fun ch s => s.setSeq ch (fun x => match x.loadAt with
    | none => x
    | some b =>
      if tk < b then x
      else { x with
        ps := l.ps, v := l.v, ts := l.ts, hwm := l.hwm, jump := l.jump, lastC := l.lastC, fresh := l.fresh, lastTk := none,
        testing := false, loadAt := none, shadow := some 1024, shadowBad := false }))

/-- The TIMING packet (R322): sent on the Duet link of a pair once every report of a boundary is in or stale. -/
def State.sendTiming (s : State) : State :=
  match s.due.local_ with
  | none => s
  | some d =>
    let role := s.get Reg.DUE_STS.ROLE
    if s.due.localIn.length < 3 || (role ≠ 1 && role ≠ 2) then s
    else
      let word := fun (i : Nat) => match d.reports[i]? with
        | some r => [r.count % 2 ^ 48 + r.edge.toNat * 2 ^ 48 + r.reverse.toNat * 2 ^ 49 + (d.stale.getD i true).toNat * 2 ^ 50, r.te]
        | none => [2 ^ 50, 0]
      s.duetSend 1 (d.tk :: (word 0 ++ word 1 ++ word 2))

/-- One of this die's reports for a boundary is in, or stale: kept for the TIMING packet and for R322's fallback. -/
def State.keepLocal (s : State) (ch tk : Nat) (r : Option EdgeReport) : State :=
  let role := s.get Reg.DUE_STS.ROLE
  if role ≠ 1 && role ≠ 2 then s
  else
    let d : DieReports := match s.due.local_ with
      | some d => if d.tk = tk then d else ⟨tk, false, List.replicate 3 ⟨false, false, 0, 0, false, 0, 0⟩, [true, true, true]⟩
      | none => ⟨tk, false, List.replicate 3 ⟨false, false, 0, 0, false, 0, 0⟩, [true, true, true]⟩
    let ins := if (s.due.local_.map (·.tk)) = some tk then s.due.localIn else []
    if ins.contains ch then s
    else
      let d := match r with
        | some r => { d with reports := updateAt d.reports ch (fun _ => r), stale := updateAt d.stale ch (fun _ => false) }
        | none => d
      (s.setDue ({ · with local_ := some d, localIn := ch :: ins })).sendTiming

/-- A complete edge report reaches the main die at `arrival` (R50, R51, R431, R559): beyond 1,000 mt after its boundary it is
stale and changes nothing. -/
def execEdgeReportReceive (channel : Nat) (rpt : EdgeReport) (arrival : Nat) (s : State) :
    Host.Outcome State Fault Refusal :=
  let tk := arrival / 2 ^ s.get Reg.TRK_CFG.RPT_LOG * 2 ^ s.get Reg.TRK_CFG.RPT_LOG
  .next (
    if 3 ≤ channel || !s.flag Reg.FLD_STS.TIME_LOCK || !s.expects tk || s.lastDue tk || tk + 1000 < arrival then s
    else
      let s := s.loadChannels tk
      let pre := fullPre (s.seq channel).lastC rpt.cpre
      let s := s.when (rpt.idx && !(s.seq channel).fresh)
        (·.putSat Reg.ENC_IDX_JUMP.JUMP (wrapCount (pre - s.getI Reg.ENC_IDX_VAL.VAL)))
      let s := if s.votesOwn then s.seqReport channel tk s.due.adjOwn rpt
        else s.setDue (fun d => { d with shadow := updateAt d.shadow channel (s.taken rpt tk 0) })
      s.keepLocal channel tk (some rpt))

/-- A report has not reached its sequencer 1,000 mt after its boundary (R50, R559). -/
def execReportStale (channel boundary : Nat) (s : State) : Host.Outcome State Fault Refusal :=
  let mine := if s.votesOwn then s.seq channel else s.due.shadow.getD channel {}
  .next (
    if 3 ≤ channel || boundary % 2 ^ s.get Reg.TRK_CFG.RPT_LOG ≠ 0 || s.now < boundary + 1000
        || !s.expects boundary || mine.testing || mine.lastTk = some boundary then s
    else (s.put Reg.ENC_STS.STALE (putBit (s.get Reg.ENC_STS.STALE) channel true)).keepLocal channel boundary none)

/-! ### Candidates (R56, R57) -/

/-- A sequencer's candidate fire time for a due position, before the time offset. -/
def Seq.due (x : Seq) (d : Int) : Option Int :=
  if 0 < x.v then some ((x.ts : Int) + (wrap48 (d - x.ps) * 2 ^ 32).fdiv x.v) else none

/-- A sequencer's candidate fire tick. -/
def Seq.tick (x : Seq) (pitch : Nat) : Int :=
  if 0 < x.v then min (((pitch : Int) * 65536).fdiv x.v) 0xFFFFFFFE else 0xFFFFFFFF

/-! ### The vote (R61) -/

/-- What one vote answers: the value published (none where no channel offers a candidate), the channels outvoted, and whether
there is no majority. -/
structure Verdict where
  val   : Option Int
  out   : List Nat
  noMaj : Bool

/-- Two values: the smaller where they differ by 4 mt or less. -/
def votePair (a b : Int) (out : List Nat) : Verdict :=
  if (a - b).natAbs ≤ 4 then ⟨some (min a b), out, false⟩ else ⟨none, out, true⟩

/-- The vote over the channels in the vote: none for a stale channel, `some none` for one that offers no candidate. -/
def voteOf (xs : List (Nat × Option (Option Int))) : Verdict :=
  let stale := (xs.filter (fun x => x.2.isNone)).map (·.1)
  let fresh := xs.filterMap (fun x => x.2.map (fun v => (x.1, v)))
  let vals := fresh.filterMap (fun x => x.2.map (fun v => (x.1, v)))
  let silent := (fresh.filter (fun x => x.2.isNone)).map (·.1)
  match fresh.length, vals with
  | 3, [] => ⟨none, [], false⟩
  | 3, [x] => ⟨none, [x.1], false⟩
  | 3, [x, y] => votePair x.2 y.2 silent
  | 3, _ =>
    let m := median (vals.map (·.2))
    let out := (vals.filter (fun x => 4 < (x.2 - m).natAbs)).map (·.1)
    if 2 ≤ out.length then ⟨none, out, true⟩ else ⟨some m, out, false⟩
  | 2, [] => ⟨none, stale, false⟩
  | 2, [x, y] => votePair x.2 y.2 stale
  | _, _ => ⟨none, stale, true⟩

/-- Whether a channel's report for the boundary is fresh. -/
def State.freshAt (s : State) (tk ch : Nat) : Bool := (s.seq ch).lastTk = some tk

/-- The vote of one value: `f` is a channel's candidate. -/
def State.voteBy (s : State) (tk : Nat) (f : Seq → Option Int) : Verdict :=
  voteOf (s.inVote.map (fun ch => (ch, if s.freshAt tk ch then some (f (s.seq ch)) else none)))

/-- The channels in shadow whose value differs from the published one by more than 4 mt (R63). -/
def State.shadowOff (s : State) (tk : Nat) (v : Option Int) (f : Seq → Option Int) : List Nat :=
  match v with
  | none => []
  | some m => [0, 1, 2].filter (fun ch => (s.seq ch).shadow.isSome && s.freshAt tk ch && (match f (s.seq ch) with
      | some x => decide (4 < (x - m).natAbs)
      | none => true))

/-! ### Outvotes and self-tests (R62 to R64) -/

def outvoteCnt (ch : Nat) : Fld := ⟨0x40018, 8 * ch, 8, true⟩

/-- A channel's targeted self-test begins (R63): the field die is told to replay, which it ignores on a channel that replays already and
while its TIME_LOCK is clear (R432). -/
def State.channelTest (s : State) (ch : Nat) : State :=
  let s := s.put Reg.TRK_STS.TESTING (putBit (s.get Reg.TRK_STS.TESTING) ch true)
  let runs := s.fld.lock && s.fld.replay.all (fun e => e.1 ≠ ch)
  ((s.setSeq ch (fun x => { x with
    testing := true, replays := runs, loadAt := none, shadow := none, shadowBad := false })).testStarted).replay ch

/-- A channel leaves the vote from the next report (R62, R64). -/
def State.leaveVote (s : State) (ch : Nat) : State :=
  (s.put Reg.TRK_STS.IN (putBit (s.get Reg.TRK_STS.IN) ch false)).put Reg.TRK_STS.DUAL 1

/-- Whether an outvote at a boundary comes within 1 s of the channel's last one (R62). -/
def State.outAgain (s : State) (tk ch : Nat) : Bool :=
  match (s.seq ch).outAt with
  | some t => tk ≤ t + 4000000000
  | none => false

/-- A channel outvoted at a report (R62): counted and posted; the second one within 1 s takes it out of the vote. DEDUCED (log entry
108): out of a vote of three only, since 2-of-2 is the least that votes (R64). -/
def State.outvoted (tk : Nat) (leaves : Bool) (ch : Nat) (s : State) : State :=
  let s := ((s.count (outvoteCnt ch)).pmcAdd 378).post (ev Code.ST_TRK_OUTVOTE (srcT ch))
  let again := s.outAgain tk ch
  let s := s.setSeq ch ({ · with outAt := some tk })
  if !again || !leaves then s
  else
    let n := s.get Reg.ERR_LOG_HEAD.HEAD
    let s := s.errRecord (er Code.ST_TRK_OUTVOTE (srcT ch) 0 1 4)
    ((s.leaveVote ch).setSeq ch ({ · with errSeq := some n })).channelTest ch

/-- The end of a channel's test for its error record (R516). -/
def State.channelOutcome (s : State) (ch outcome : Nat) : State :=
  match (s.seq ch).errSeq with
  | none => s
  | some n => (s.setSeq ch ({ · with errSeq := none })).errOutcome n Code.ST_TRK_OUTVOTE outcome (srcT ch)

/-- A channel fails its replay or its shadow run (R63). -/
def State.channelFails (s : State) (ch : Nat) : State :=
  let s := s.put Reg.TRK_STS.TESTING (putBit (s.get Reg.TRK_STS.TESTING) ch false)
  let s := s.put Reg.TRK_STS.FAILED (putBit (s.get Reg.TRK_STS.FAILED) ch true)
  let s := s.setSeq ch ({ · with testing := false, loadAt := none, shadow := none, shadowBad := false })
  (s.post (ev Code.ST_TRK_SELFTEST_FAIL (srcT ch))).channelOutcome ch 2

/-- TRK_CTRL.SELFTEST for one channel (R64): ignored where one runs, and for a channel in the vote of two. -/
def State.requestTest (ch : Nat) (s : State) : State :=
  if bit (s.get Reg.TRK_STS.TESTING) ch then s
  else if !bit (s.get Reg.TRK_STS.IN) ch then s.channelTest ch
  else if s.inVote.length = 3 then (s.leaveVote ch).channelTest ch
  else s

def execTrkSelftest (slot channels : Nat) (s : State) : Host.Outcome State Fault Refusal :=
  .next (s.ownerWrite slot Reg.TRK_CTRL.AT (·.each (bitList 3 channels) State.requestTest))

/-- The replay ends (R63): a channel that passes loads at the next report boundary. A replay that the field die ignored fails (R432). -/
def execTrkSelftestDone (channel : Nat) (replayMatches : Bool) (s : State) : Host.Outcome State Fault Refusal :=
  .next (
    if 3 ≤ channel || !(s.seq channel).testing || (s.seq channel).loadAt.isSome then s
    else if !replayMatches || !(s.seq channel).replays then s.channelFails channel
    else
      let rpt := 2 ^ s.get Reg.TRK_CFG.RPT_LOG
      s.setSeq channel ({ · with loadAt := some ((s.now / rpt + 1) * rpt) }))

/-- After 1,024 shadow reports a channel rejoins the vote or fails (R63). -/
def execTrkShadowEnd (channel : Nat) (s : State) : Host.Outcome State Fault Refusal :=
  .next (
    if 3 ≤ channel || (s.seq channel).shadow ≠ some 0 then s
    else if (s.seq channel).shadowBad then s.channelFails channel
    else
      let s := s.put Reg.TRK_STS.TESTING (putBit (s.get Reg.TRK_STS.TESTING) channel false)
      let s := s.put Reg.TRK_STS.FAILED (putBit (s.get Reg.TRK_STS.FAILED) channel false)
      let s := s.put Reg.TRK_STS.IN (putBit (s.get Reg.TRK_STS.IN) channel true)
      let s := s.putB Reg.TRK_STS.DUAL (s.get Reg.TRK_STS.IN ≠ 7)
      let s := s.setSeq channel ({ · with shadow := none })
      (s.post (ev Code.ST_TRK_SELFTEST_PASS (srcT channel))).channelOutcome channel 1)

end Sys2Proof.Machine
end

