-- ==== Sys2Proof/Machine/Publish.lean ====
section
/-! DEFINITION. Publication at a report boundary: rows, camera triggers, and the whole vote (chapter 02, R58 to R72). -/

namespace Sys2Proof.Machine

/-! ### Rows -/

/-- The chain that a row in none takes: the first in flight that lists it and that it has not left (R90). -/
def State.freshCtx (s : State) (k : Nat) : Option Chain :=
  s.flying.find? (fun d => d.started && (s.rowSt k).past < d.id && d.rows.contains k)

/-- A row begins to publish a chain's lines (R53, R90): its geometry, K_j, line 0, and its next waveform (R211). A row that the
chain does not list is disabled. -/
def State.rowStarts (s : State) (k : Nat) (d : Chain) : State :=
  let s := s.setRow k (fun r => { r with
    chain := if (d.row? k).isSome then some d.id else none, past := d.id - 1, pubHi := none, pubs := 0, rampTf := r.lastTf })
  match d.row? k with
  | none => s.put (Reg.TRK_ROW_CFG.EN k) 0
  | some g =>
    let kj := sar (signed 64 g.pos * (d.bar g.bar).s) 30
    let s := ((s.loadRow g).setRow k ({ · with kconst := kj })).put64 (Reg.TRK_ROW_NEXT.PAIR k) 0
    s.put (Reg.HP_ROW_WAVE.WAVE (k / 16) (k % 16)) (s.get (Reg.HP_ROW_WAVE.NEXT (k / 16) (k % 16)))

/-- Line `n` of a row is behind it: published, skipped or suppressed. -/
def State.rowMoves (s : State) (k n : Nat) : State := s.put64 (Reg.TRK_ROW_NEXT.PAIR k) (n + 1)

/-- A band whose first line is published before the band is complete is missed (R85). -/
def Page.touch (p : Page) (bandLines n : Nat) : Page :=
  let i := (n - p.first) / max 1 bandLines
  if p.lost.contains i || (p.bands.filter (·.idx = i)).all (fun b => b.st = .complete) then p
  else { p with lost := i :: p.lost, missed := true }

/-- The job's page that holds a line, and whether the line's band is missed; a line that no page holds is missed too. -/
def Job.missed (j : Job) (n : Nat) : Bool :=
  match j.pageAt n with
  | none => true
  | some p => p.lost.contains ((n - p.first) / max 1 j.bandLines)

def State.touchBand (s : State) (c n : Nat) : State :=
  match s.jobAt c n with
  | none => s
  | some j =>
    if j.cal then s
    else s.setJob j.id (fun j => { j with
      pages := j.pages.map (fun p => if p.first ≤ n && n < p.first + p.lines then p.touch j.bandLines n else p) })

/-- Whether a row's engines all hold a valid copy of the bank (R119, R144). -/
def State.goodCopies (s : State) (k bank : Nat) : Bool :=
  (s.rowBlocks k).all (fun nb => match s.servedBy nb with
    | some n => !s.eng.badCopy.contains (n, bank)
    | none => true)

/-- The cause for which a line is skipped at its publication (R68, R85, R91, R93, R99). -/
def State.skipCause (s : State) (tk k : Nat) (c : Chain) (n : Nat) (tf : Int) : Option Nat :=
  let r := s.rowSt k
  let close : Bool := match r.lastTf with
    | some t => decide (tf - t < s.get Reg.TRK_TICK_MIN.TICK_MIN)
    | none => false
  let ramp : Bool := match r.rampTf with
    | some t => c.gap && decide (tf - t < 8400000)
    | none => false
  if tf - tk < 16000 then some Code.ST_LATE_PUBLISH
  else if close then some Code.ST_OVERSPEED
  else match s.jobAt c.id n with
    | none => some Code.ST_JOB_LATE
    | some j =>
      let ready : Bool := match j.readyLine with
        | some l => decide (l ≤ n)
        | none => false
      if !ready || !s.goodCopies k j.bank then some Code.ST_JOB_LATE
      else if !j.cal && j.missed n then some Code.ST_BAND_MISSED
      else if ramp then some Code.ST_RAMP_LATE
      else none

/-- The blocks of a published line, with the cause that already withholds one (R133, R136, R157). -/
def State.lineBlocks (s : State) (k c n : Nat) : List Blk :=
  (s.rowBlocks k).map (fun nb =>
    let e := s.servedBy nb
    let cause : Option Nat :=
      if e.isNone || (e.map s.engineOut).getD false || s.lostCopy nb c then some Code.ST_SE_OUT
      else if !s.blockHasRecs nb c n then some Code.ST_SMP_LATE
      else none
    ⟨nb, e, none, false, none, cause⟩)

/-- The cause that withholds a whole line of a row in a standby that has diverged (R173, R311, R327). -/
def State.rowWithheld (s : State) (k c n : Nat) : Option Nat :=
  if s.smpWithheld k c n then some Code.ST_SMP_DIVERGE
  else if s.due.withheld.any (fun (r, ch, l) => r = k && ch = c && l ≤ n) then some Code.ST_DUE_DIVERGE
  else if s.cal.withheld.any (fun (r, ch, l) => r = k && ch = c && l ≤ n) then some Code.ST_CAL_DIVERGE
  else none

/-- ZIP_PAGE_SLACK (ch. 12): the interval in µs between a band's completion and the first publication of its first line. -/
def State.pageSlack (s : State) (c : Chain) (n : Nat) : State :=
  match s.jobAt c.id n with
  | none => s
  | some j =>
    match j.pageAt n with
    | none => s
    | some p =>
      let i := (n - p.first) / max 1 j.bandLines
      let bs := p.bands.filter (·.idx = i)
      if p.first + i * j.bandLines ≠ n || bs = [] || p.lost.contains i || c.rows.any (fun k => s.rowPassed c k n) then s
      else
        let slack := (s.now - (bs.map (·.doneAt)).foldl max 0) / 4000
        let s : State := { s with fresh := s.noteEvent Reg.ZIP_PAGE_SLACK.SLACK }
        s.put Reg.ZIP_PAGE_SLACK.SLACK (min (min slack (2 ^ 32 - 1)) (s.get Reg.ZIP_PAGE_SLACK.SLACK))

/-- The first row passes the first line of the job that holds line `n`. -/
def State.firstPass (s : State) (c : Chain) (n : Nat) : State :=
  match s.jobAt c.id n with
  | none => s
  | some j => s.when (n = j.z && s.readyFrom c ≤ n) (·.enterJob c.id j.id)

/-- A line is published (R59): with the skip flag for a cause (R68), or to its engines and its port. A line of an unpopulated
row is done at its publication (R24). -/
def State.publishLine (s : State) (tk k : Nat) (c : Chain) (bar n : Nat) (tf : Int) : State :=
  let s := (s.touchBand c.id n).pageSlack c n
  let s := match s.jobAt c.id n with
    | none => s
    | some j => (s.firstPass c n).setRow k ({ · with bank := j.bank })
  let s := s.moveRow k
  let cause := s.skipCause tk k c n tf
  let (sx, bx) := c.xwebAt bar n
  let r := s.rowSt k
  let line : PLine :=
    ⟨c.id, k, n, r.pubs, tf.toNat, tk, s.rowWithheld k c.id n, s.lineBlocks k c.id n, bar, sx, bx, s.trimTempAt c.id (k / 16) n,
      r.bank, s.get (Reg.HP_ROW_WAVE.WAVE (k / 16) (k % 16))⟩
  let s := match cause with
    | some x => s.lineSkipped k bar n x
    | none =>
      if s.rowCols k = 0 then s.rowClean k bar n
      else (s.setJobs (fun j => { j with lines := j.lines ++ [line] })).when
        (line.blocks.any (fun b => b.cause = some Code.ST_SMP_LATE)) (fun s => (s.put Reg.SMP_STS.LATE 1).pmcAdd 386)
  let s := s.setRow k (fun r => { r with pubHi := some n, pubs := r.pubs + 1, lastTf := some tf.toNat, ret := false })
  let s := ((s.pmcAdd 376).rowMoves k n).calTick bar c.id n
  let s := s.when (k = c.refRow) (fun s =>
    (s.setChain c.id ({ · with refLine := some n })).when ((s.shownChain.map (·.id)) = some c.id)
      (·.put64 Reg.TRK_REFLINE.PAIR n))
  (s.smpPassed k c.id n).classifyRow k n

/-- A line is suppressed on a row (R69): it uses up its number. -/
def State.suppressLine (s : State) (k : Nat) (c : Chain) (n : Nat) : State :=
  ((((s.firstPass c n).suppressed 1).calLost k c.id n).rowMoves k n)

/-- What a vote of a report has met so far. -/
structure VoteAcc where
  s     : State
  out   : List Nat
  bad   : List Nat
  noMaj : Bool

/-- One vote counted. -/
def VoteAcc.add (a : VoteAcc) (tk : Nat) (v : Verdict) (f : Seq → Option Int) : VoteAcc :=
  { a with out := v.out ++ a.out, bad := a.s.shadowOff tk v.val f ++ a.bad, noMaj := a.noMaj || v.noMaj }

/-- Whether a chain has no line `n`: its total is known and reached, and no held SEAMLESS job is to follow (R93). -/
def State.beyond (s : State) (c : Chain) (n : Nat) : Bool :=
  match c.total with
  | none => false
  | some t => t ≤ n && !s.heldNext c

/-- One row publishes its lines within the lead (R58), or, in crawl, lets those pass that the high-water mark passes (R69).
`fuel` bounds the lines by the positions. -/
def publishRow (tk : Nat) (crawl : Bool) (k : Nat) : Nat → VoteAcc → VoteAcc
  | 0, a => a
  | fuel + 1, a =>
    if a.noMaj then a
    else
      let s := a.s
      match (s.rowSt k).chain.bind s.chain? with
      | none => match s.freshCtx k with
        | some d => publishRow tk crawl k fuel { a with s := s.rowStarts k d }
        | none => a
      | some c =>
        let n := s.rowNext k
        if s.beyond c n then
          match s.nextCtx c.id with
          | some d => publishRow tk crawl k fuel { a with s := s.rowStarts k d }
          | none => a
        else match c.row? k with
          | none => a
          | some g =>
            let due := s.duePos c g n
            let behind := wrap48 (due - s.leadSeq.hwm) ≤ 0
            if (crawl || (s.rowSt k).ret) && behind then publishRow tk crawl k fuel { a with s := s.suppressLine k c n }
            else if crawl then a
            else
              let f := fun (x : Seq) => (x.due due).map (· + signed 32 g.tofs)
              let v := s.voteBy tk f
              let a := a.add tk v f
              match v.val with
              | none => a
              | some tf =>
                if v.noMaj || tf - tk > c.lead * c.tick then a
                else publishRow tk crawl k fuel { a with s := s.publishLine tk k c g.bar n tf }

/-- How many lines a row may pass at a report: those between its next line and the farthest position that the lead or the
high-water mark can reach. -/
def State.rowFuel (s : State) (tk k : Nat) : Nat :=
  match (s.rowSt k).chain.bind s.chain? with
  | none => 1
  | some c =>
    match c.row? k with
    | none => 2
    | some g =>
      let x := s.leadSeq
      let reach := x.ps + sar (x.v * ((tk : Int) + c.lead * c.tick - x.ts - signed 32 g.tofs + 2 ^ 20)) 32
      let gap := max (wrap48 (reach - s.duePos c g (s.rowNext k))) (wrap48 (x.hwm - s.duePos c g (s.rowNext k)))
      let step := g.pitch * (c.bar g.bar).s / 2 ^ 46
      2 * (gap.toNat / max 1 step) + 80

/-- A row at a report: its present chain, and the one it may switch to. -/
def rowAtReport (tk : Nat) (crawl : Bool) (a : VoteAcc) (k : Nat) : VoteAcc :=
  let a := publishRow tk crawl k (a.s.rowFuel tk k) a
  publishRow tk crawl k (a.s.rowFuel tk k) a

/-! ### Camera triggers (R264 to R267) -/

/-- Publish a camera line's trigger. -/
def State.publishTrigger (s : State) (tk p c q : Nat) (t : Int) (supp : Bool) : State :=
  s.setCam p (fun x => { x with next := some (c, q + 1), trigs := x.trigs ++ [⟨c, q, t.toNat, tk, false, supp⟩] })

/-- One port publishes its triggers within the lead. -/
def publishTrigs (tk : Nat) (crawl : Bool) (p : Nat) : Nat → VoteAcc → VoteAcc
  | 0, a => a
  | fuel + 1, a =>
    if a.noMaj then a
    else match a.s.camNext p with
      | none => a
      | some (c, q) =>
        let s := a.s
        let due := s.camDue p c q
        if wrap48 (due - s.leadSeq.hwm) ≤ 0 then
          publishTrigs tk crawl p fuel { a with s := s.publishTrigger tk p c.id q tk true }
        else if crawl then a
        else
          let f := fun (x : Seq) => (x.due due).map (· + s.getI (Reg.CAM_P_TOFS.TOFS p))
          let v := s.voteBy tk f
          let a := a.add tk v f
          match v.val with
          | none => a
          | some t =>
            if v.noMaj || t - tk > c.lead * c.tick then a
            else publishTrigs tk crawl p fuel { a with s := s.publishTrigger tk p c.id q t false }

def State.trigFuel (s : State) (tk p : Nat) : Nat :=
  match s.camNext p with
  | none => 0
  | some (c, q) =>
    let x := s.leadSeq
    let reach := x.ps + sar (x.v * ((tk : Int) + c.lead * c.tick - x.ts - s.getI (Reg.CAM_P_TOFS.TOFS p) + 2 ^ 20)) 32
    let gap := max (wrap48 (reach - s.camDue p c q)) (wrap48 (x.hwm - s.camDue p c q))
    let pitch := ((c.row? c.refRow).map (·.pitch)).getD 0
    2 * (gap.toNat / max 1 (s.lineGroup * pitch / 65536)) + 80

def trigsAtReport (tk : Nat) (crawl : Bool) (a : VoteAcc) (p : Nat) : VoteAcc :=
  if !a.s.flag (Reg.CAM_P_CTRL.EN p) then a else publishTrigs tk crawl p (a.s.trigFuel tk p) a

/-! ### The report (R58 to R65) -/

/-- No majority (R64, R65): once in a run of such reports it is told and triggers Safe-stop; a mismatch of two channels is told at
each. -/
def State.noMajority (s : State) : State :=
  let s := s.put Reg.TRK_STS.NO_MAJ 1
  let dual := s.flag Reg.TRK_STS.DUAL
  let told := s.tb.noMaj
  let s := s.when (!told) (fun s => (s.setTb ({ · with noMaj := true })).post (ev Code.ST_TRK_NO_MAJORITY srcTRK))
  let s := s.when dual (·.post (ev Code.ST_TRK_DUAL_MISMATCH srcTRK))
  s.when (!told) (State.safeStop (if dual then Code.ST_TRK_DUAL_MISMATCH else Code.ST_TRK_NO_MAJORITY))

/-- The votes of TICK (R57, R90): one a context in flight, and one from the row table where there is none. -/
def State.voteTicks (s : State) (tk : Nat) : VoteAcc :=
  let f := fun (pitch : Nat) (x : Seq) => some (x.tick pitch)
  match s.flying with
  | [] =>
    let g := f (s.get64 (Reg.TRK_ROW_PITCH.PAIR (s.get Reg.TRK_REF.REF_ROW)))
    let v := s.voteBy tk g
    VoteAcc.add ⟨(match v.val with
      | some t => s.put Reg.TRK_TICK.TICK t.toNat
      | none => s), [], [], false⟩ tk v g
  | cs => cs.foldl (fun a c =>
      let v := a.s.voteBy tk (f c.refPitch)
      let a := a.add tk v (f c.refPitch)
      match v.val with
      | none => a
      | some t =>
        let s := a.s.setChain c.id ({ · with tick := t.toNat })
        { a with s := s.when ((s.shownChain.map (·.id)) = some c.id) (·.put Reg.TRK_TICK.TICK t.toNat) }) ⟨s, [], [], false⟩

/-- The crawl test on the outgoing context's TICK (R69). -/
def State.crawlTest (s : State) : State :=
  let t := s.get Reg.TRK_TICK.TICK
  let lim := s.get Reg.TRK_CRAWL.CRAWL_TICK
  if s.flag Reg.TRK_STS.CRAWL then
    s.when (16 * t ≤ 15 * lim) (fun s => (s.put Reg.TRK_STS.CRAWL 0).post (ev Code.ST_CRAWL_EXIT srcTRK))
  else s.when (lim < t) (fun s => (s.put Reg.TRK_STS.CRAWL 1).post (ev Code.ST_CRAWL_ENTER srcTRK))

/-- The direction of a report over the fresh channels in the vote: a tie counts as reverse (R58). -/
def State.reportReverse (s : State) (tk : Nat) : Bool :=
  let xs := (s.inVote.filter (s.freshAt tk)).map (fun ch => (s.seq ch).lastRev)
  (xs.filter (!·)).length ≤ (xs.filter (·)).length

/-- The lead rule (R138) for each context: the first failure in a chain is told. -/
def State.leadRule (s : State) : State :=
  let margin : Int := if s.get Reg.DUE_STS.ROLE = 2 then 30000 else 27000
  s.each s.flying (fun c s =>
    let room : Int := (c.lead * c.tick : Nat) - 2 ^ s.get Reg.TRK_CFG.RPT_LOG - margin
    if c.leadShort || room * s.engMHz ≥ 512000 * s.get Reg.FAB_STS.NB_MAX then s
    else ((s.setChain c.id ({ · with leadShort := true })).put Reg.FAB_STS.LEAD_SHORT 1).post
      (ev Code.ST_SE_LEAD_SHORT srcFAB none none (s.dataRow c.refRow)))

/-- TRK_POS, TRK_VEL and TRK_HWM show the lowest-numbered channel in the vote (R52). -/
def State.showSeq (s : State) : State :=
  let x := s.leadSeq
  ((s.putI64 Reg.TRK_POS.PAIR x.ps).putI64 Reg.TRK_VEL.PAIR x.v).putI64 Reg.TRK_HWM.PAIR x.hwm

/-- The channels outvoted on at least one value of a report (R62). One of a vote of three leaves it, and never two at once. -/
def State.outvotes (s : State) (tk : Nat) (out : List Nat) : State :=
  let out := [0, 1, 2].filter out.contains
  let leaves := s.inVote.length = 3 && (out.filter (s.outAgain tk)).length = 1
  s.each out (State.outvoted tk leaves)

/-- The outvotes of a report, and the shadow runs (R62, R63). -/
def VoteAcc.close (a : VoteAcc) (tk : Nat) : State :=
  let s := a.s.outvotes tk a.out
  s.each [0, 1, 2] (fun ch s => s.setSeq ch (fun x => match x.shadow with
    | some (n + 1) => { x with shadow := some n, shadowBad := x.shadowBad || a.bad.contains ch }
    | _ => x))

/-- A report with a direction: reverse withdraws, crawl suppresses, and forward publishes. -/
def State.reportRows (s : State) (tk : Nat) (a : VoteAcc) : VoteAcc :=
  let rev := s.reportReverse tk
  let s := a.s.when (rev && !s.tb.dirRev) State.turnReverse
  let s := (s.setTb ({ · with dirRev := rev })).crawlTest
  let crawl := s.flag Reg.TRK_STS.CRAWL
  let a := { a with s := s }
  if rev then a
  else
    let rows := (s.flying.flatMap Chain.rows).eraseDups
    let a := rows.foldl (rowAtReport tk crawl) a
    (List.range 8).foldl (trigsAtReport tk crawl) a

/-- What follows publication: the end of a return after reverse, updates that rows have passed, pages and banks that are free, and the
lead rule. -/
def State.afterReport (s : State) : State :=
  let s := s.when (s.tb.returning && !s.tb.dirRev && 0 ≤ wrap48 (s.leadSeq.ps - s.leadSeq.hwm)) (·.setTb ({ · with returning := false }))
  let s := s.each (s.flying.map (·.id)) (fun c s => s.foldUpdates c)
  (s.freeShadow.pagesDone).leadRule.showSeq

/-- The vote of one boundary. Where two channels are outvoted there is no majority (R72). -/
def State.report (s : State) (tk : Nat) : State :=
  let s := (s.pmcAdd 377).setTb (fun t => { t with
    lastVote := some tk, lockEnd := if t.lockEnd = some tk then none else t.lockEnd })
  let a := s.voteTicks tk
  let a := if a.noMaj then a else s.reportRows tk a
  if a.noMaj || 2 ≤ ([0, 1, 2].filter a.out.contains).length then (s.outvotes tk a.out).showSeq.noMajority
  else ((a.close tk).setTb ({ · with noMaj := false })).afterReport

/-! ### The die whose reports are voted (R322, R323) -/

/-- Reports that a die sent for a boundary enter the sequencers, with the correction of that die's counts. -/
def State.feed (s : State) (d : DieReports) (adj : Int) : State :=
  s.each [0, 1, 2] (fun ch s =>
    match d.reports[ch]? with
    | some r => if d.stale.getD ch true then s else s.seqReport ch d.tk adj r
    | none => s)

/-- A primary whose own three reports are stale votes its peer's three fresh ones. -/
def State.feedPeer (s : State) (tk : Nat) : State :=
  if s.get Reg.DUE_STS.ROLE ≠ 1 || s.inVote.any (s.freshAt tk) then s
  else match s.due.peer with
    | some d => if d.tk = tk && d.stale = [false, false, false] then s.feed d (s.getI64 Reg.DUE_CNT_OFS.PAIR) else s
    | none => s

/-- ΔC (R323): the median over 64 boundaries of the difference between the other die's position and the voted one. -/
def State.countDiff (s : State) (tk : Nat) : State :=
  match s.due.shadow[s.inVote.headD 0]? with
  | none => s
  | some o =>
    if o.lastTk ≠ some tk || !s.freshAt tk (s.inVote.headD 0) then s
    else
      let d := roundDiv (wrap48 (o.ps - s.leadSeq.ps)) 65536
      let l := (d :: s.due.diffs).take 64
      let off := s.due.diffs ≠ [] && (d - s.getI64 Reg.DUE_CNT_OFS.PAIR).natAbs > s.get Reg.DUE_CFG.ENC_TOL
      let s := s.when off (·.postLimited (ev Code.ST_DUE_ENC_DIFF srcDUE) 0 4000000000)
      (s.setDue ({ · with diffs := l })).putI64 Reg.DUE_CNT_OFS.PAIR (median l)

/-- Whether the reports that this member votes for a boundary are in, or can no longer come (R50, R322). -/
def State.reportsIn (s : State) (tk : Nat) : Bool :=
  if s.votesOwn then s.inVote.all (s.freshAt tk) || decide (tk + 1000 ≤ s.now)
  else (s.due.peer.map (·.tk)) = some tk || (s.flag Reg.DUE_STS.LOCAL_SRC && decide (tk + 3000 ≤ s.now))

def execTroikaVote (boundary : Nat) (s : State) : Host.Outcome State Fault Refusal :=
  .next (
    if boundary % 2 ^ s.get Reg.TRK_CFG.RPT_LOG ≠ 0 || s.now < boundary || s.tb.lastVote = some boundary
        || !(s.expects boundary || !s.votesOwn) || !s.reportsIn boundary then s
    else
      let s := (s.loadChannels boundary).feedPeer boundary
      ((s.countDiff boundary).report boundary).calWatch)

/-! ### Late lines (R67) -/

/-- Whether a line's packet is incomplete or withheld. -/
def PLine.incomplete (l : PLine) : Bool := l.late.isSome || l.blocks.any (fun b => b.words = none)

/-- A line that is late at its deadline, with its cause: what withholds the whole line, or what its blocks lack. -/
def State.deadline (s : State) (l : PLine) : State :=
  let s := match l.late with
    | some c => s.lineLate l c (srcHP (l.row / 16))
    | none =>
      let (c, src) := s.lateCause l
      s.lineLate l c src
  s.freeShadow.pagesDone

def execStLateWork (port row line : Nat) (s : State) : Host.Outcome State Fault Refusal :=
  .next (match s.job.lines.find? (fun l => l.row = 16 * port + row && l.line = line) with
    | none => s
    | some l => if s.now + 16000 < l.tf || !l.incomplete then s else s.deadline l)

end Sys2Proof.Machine
end

