-- ==== Sys2Proof/Machine/Screen.lean ====
section
/-! DEFINITION. The screen set (R115 to R119) and the arithmetic that turns contone samples into fire words (R109 to R128),
as pure functions of a bank's bytes. -/

namespace Sys2Proof.Machine

/-! ### The screen set's fields -/

/-- A bar's entry in the bar table (R117). -/
structure ScreenBar where
  mat    : Nat
  ltab   : Nat
  preK   : Nat
  postK  : Nat
  preP   : Nat
  postP  : Nat
  rsmode : Nat
  srate  : Nat
  sorg   : Int

def screenBar (set : List Byte) (b : Nat) : ScreenBar :=
  let e := 0x40 + 16 * b
  ⟨byteAt set e, byteAt set (e + 1), byteAt set (e + 2), byteAt set (e + 3), byteAt set (e + 4), byteAt set (e + 5),
   byteAt set (e + 6), leAt set (e + 8) 4, signed 32 (leAt set (e + 12) 4)⟩

/-- Word `i` of a parameter block. -/
def paramWord (set : List Byte) (pb i : Nat) : Nat := leAt set (0x400 + 64 * pb + 4 * i) 4

/-! ### The checks of R119 -/

/-- The offset of the first byte in a range that is not 0. -/
def firstNonzero (set : List Byte) (from_ to_ : Nat) : List Nat :=
  ((List.range (to_ - from_)).map (from_ + ·)).filter (fun a => byteAt set a ≠ 0) |>.take 1

/-- An offset where a condition fails. -/
def failAt (a : Nat) (ok : Bool) : List Nat := if ok then [] else [a]

/-- The bits that a kernel's parameters use in each word of its block (R121, R123). -/
def kernelMask (k i : Nat) : Nat :=
  match k, i with
  | 1, 0 => 0xFFFF
  | 2, 0 => 0xFFFF
  | 2, 1 => 0xFF
  | 3, 0 => 0xFFFFFFFF
  | 4, 0 => 0xFFFFFFFF
  | 5, 0 => 0xFFFF
  | 5, 1 => 0xFFFF
  | 6, 0 => 0xFF
  | 6, i => if i < 15 then 0xFFFFFFFF else 0
  | 7, 0 => 0xFFFF
  | 7, 1 => 0xFFFFFFFF
  | 9, 0 => 0xFFFFFFFF
  | 10, 0 => 0xFFFF
  | 10, 1 => 0xFFFF
  | 11, 0 => 0xFFF
  | 12, 0 => 0xFFFFFF
  | 13, 0 => 0x7FF
  | 14, 0 => 0xFFFFFFFF
  | 14, 1 => 0xFFFF
  | 14, 2 => 0xFFFF
  | 14, 3 => 0xFFF
  | 15, 0 => 0x7FF
  | _, _ => 0

/-- The parameter ranges of a kernel: the offsets within its block that fail. -/
def kernelRange (k : Nat) (w : Nat → Nat) : List Nat :=
  match k with
  | 6 => failAt 0 (1 ≤ bits (w 0) 0 8 && bits (w 0) 0 8 ≤ 28)
  | 11 => failAt 0 (1 ≤ bits (w 0) 0 8)
  | 12 => failAt 0 (bits (w 0) 0 3 = 0)
  | 13 => failAt 0 (1 ≤ bits (w 0) 0 8) ++ failAt 1 (1 ≤ bits (w 0) 8 3)
  | 14 => failAt 12 (1 ≤ bits (w 3) 0 8)
  | 15 => failAt 0 (1 ≤ bits (w 0) 0 8) ++ failAt 1 (1 ≤ bits (w 0) 8 3)
  | _ => []

/-- The offsets at which a parameter block fails for the kernel that uses it: reserved bits, and ranges. -/
def kernelFails (set : List Byte) (k pb : Nat) : List Nat :=
  let base := 0x400 + 64 * pb
  ((List.range 64).filter (fun i =>
      byteAt set (base + i) &&& (255 - bits (kernelMask k (i / 4)) (8 * (i % 4)) 8) ≠ 0)).map (base + ·)
    ++ (kernelRange k (paramWord set pb)).map (base + ·)

/-- The offsets at which a level table fails (R118). -/
def levelFails (set : List Byte) (t : Nat) : List Nat :=
  let base := 0x200 + 32 * t
  let k := byteAt set (base + 24)
  let tone := fun i => leAt set (base + 2 * i) 2
  failAt base (tone 0 = 0)
    ++ ((List.range (min k 8)).filter (fun i => 0 < i && tone i ≤ tone (i - 1))).map (fun i => base + 2 * i)
    ++ failAt (base + 16) (byteAt set (base + 16) = 0)
    ++ ((List.range 8).filter (fun i => 8 ≤ byteAt set (base + 16 + i))).map (fun i => base + 16 + i)
    ++ failAt (base + 24) (2 ≤ k && k ≤ 8)
    ++ firstNonzero set (base + 25) (base + 32)

/-- The offsets at which a matrix directory entry fails (R118). -/
def matrixFails (set : List Byte) (d : Nat) : List Nat :=
  let base := 0x140 + 16 * d
  let ofs := leAt set base 4
  let wl := byteAt set (base + 4)
  let hl := byteAt set (base + 5)
  let sized : Bool := 4 ≤ wl && wl ≤ 9 && 4 ≤ hl && hl ≤ 9
  failAt base (0xA000 ≤ ofs && ofs % 64 = 0 && (!sized || ofs + 2 * 2 ^ wl * 2 ^ hl ≤ leAt set 12 4))
    ++ failAt (base + 4) (4 ≤ wl && wl ≤ 9) ++ failAt (base + 5) (4 ≤ hl && hl ≤ 9)
    ++ firstNonzero set (base + 6) (base + 16)

/-- The offsets at which a used bar's entry, and what it names, fail. -/
def barFails (set : List Byte) (b : Nat) : List Nat :=
  let e := 0x40 + 16 * b
  let x := screenBar set b
  failAt e (x.mat < byteAt set 6) ++ failAt (e + 1) (x.ltab < 16) ++ failAt (e + 2) (x.preK < 8)
    ++ failAt (e + 3) (8 ≤ x.postK && x.postK < 16) ++ failAt (e + 4) (x.preP < 32) ++ failAt (e + 5) (x.postP < 32)
    ++ failAt (e + 6) (x.rsmode < 3) ++ firstNonzero set (e + 7) (e + 8)
    ++ (if x.mat < 8 then matrixFails set x.mat else [])
    ++ (if x.ltab < 16 then levelFails set x.ltab else [])
    ++ (if x.preP < 32 && x.preK < 8 then kernelFails set x.preK x.preP else [])
    ++ (if x.postP < 32 && 8 ≤ x.postK && x.postK < 16 then kernelFails set x.postK x.postP else [])

/-- The bars' own checks, which a later job that reuses the set repeats (R119). -/
def barsFail (set : List Byte) (bars : List Nat) : Option Nat := ((bars.flatMap (barFails set)).map Int.ofNat |> sortInts).head?.map Int.toNat

/-- The first failing byte of a screen set (R115 to R119), or none where the set is valid for the bars. DESIGN CHOICE: a field of
several bytes that fails is reported at its first byte. -/
def screenFails (set : List Byte) (len : Nat) (bars : List Nat) : Option Nat :=
  if len < 0xA040 || 0x40000 < len || len % 64 ≠ 0 then some 12
  else
    let head :=
      failAt 0 (leAt set 0 4 = 0x5353594B) ++ failAt 4 (leAt set 4 2 = 1)
        ++ failAt 6 (1 ≤ byteAt set 6 && byteAt set 6 ≤ 8) ++ firstNonzero set 7 12
        ++ failAt 12 (leAt set 12 4 = len)
        ++ failAt 16 (leAt set 16 4 = crc32Bytes ((set.drop 0x40).take (len - 0x40)))
        ++ firstNonzero set 20 64 ++ firstNonzero set 0x1C0 0x200 ++ firstNonzero set 0xC00 0x2000
    ((head ++ bars.flatMap (barFails set)).map Int.ofNat |> sortInts).head?.map Int.toNat

/-! ### Resampling (R109, R110) -/

/-- RC by CRES (R109). -/
def resampleRate (cres : Nat) : Int := if cres = 0 then 5072796 else if cres = 1 then 10145592 else 20291184

/-- The cross-web sample position u of R109. -/
def samplePos (xpos : Int) (sx : Nat) (bx xorg : Int) (cres : Nat) : Int :=
  sar ((sar (xpos * sx) 30 + bx - xorg) * resampleRate cres) 16

/-- The Catmull-Rom weights of R110: `k` from 0 (W_−1) to 3 (W_2), at p/256. -/
def cubicWeight (k : Nat) (p : Int) : Int :=
  let n : Int := match k with
    | 0 => -(p ^ 3) + 512 * p ^ 2 - 65536 * p
    | 1 => 3 * p ^ 3 - 1280 * p ^ 2 + 33554432
    | 2 => -3 * p ^ 3 + 1024 * p ^ 2 + 65536 * p
    | _ => p ^ 3 - 256 * p ^ 2
  roundDiv n 512

/-- c0 from the samples of the line (R110); `smp` reads 0 outside the line. -/
def resample (mode : Nat) (smp : Int → Nat) (u : Int) : Nat :=
  match mode with
  | 0 => smp (sar (u + 32768) 16)
  | 1 =>
    let i := sar u 16
    let f := u % 65536
    ((smp i : Int) + sar (((smp (i + 1) : Int) - smp i) * f) 16).toNat
  | _ =>
    let i := sar u 16
    let p := u % 65536 / 256
    let sum := ((List.range 4).map (fun k => cubicWeight k p * (smp (i + k - 1) : Int))).sum
    (clamp (sar (sum + 32768) 16) 0 65535).toNat

/-! ### Density, screen and level (R112 to R114) -/

/-- c1 (R112). -/
def density (set : List Byte) (dlut dgain c0 : Nat) : Nat :=
  let c := fun i => leAt set (0x2000 + 2048 * dlut + 2 * min i 1023) 2
  let i := c0 / 64
  let v := (c i : Int) + sar (((c (i + 1) : Int) - c i) * (c0 % 64 : Nat)) 6
  min 65535 ((v.toNat * dgain) / 16384)

/-- The threshold of a nozzle at a line (R113). -/
def threshold (set : List Byte) (x : ScreenBar) (xpos : Int) (m : Nat) : Nat :=
  let d := 0x140 + 16 * x.mat
  let w := 2 ^ byteAt set (d + 4)
  let h := 2 ^ byteAt set (d + 5)
  let sx := ((sar ((xpos - x.sorg) * x.srate + 2 ^ 31) 32) % (w : Nat)).toNat
  leAt set (leAt set d 4 + 2 * (m % h * w + sx)) 2

/-- The drop level (R114). -/
def dropLevel (set : List Byte) (ltab c2 t : Nat) : Nat :=
  let base := 0x200 + 32 * ltab
  let k := byteAt set (base + 24)
  let tone := fun i => leAt set (base + 2 * i) 2
  let l := ((List.range k).filter (fun i => tone i ≤ c2)).foldl max 0
  let idx :=
    if l + 1 = k then l
    else if t < (c2 - tone l) * 65536 / (tone (l + 1) - tone l) then l + 1 else l
  byteAt set (base + 16 + idx)

/-! ### Kernels (R121 to R124) -/

/-- A neighbour at the line: its c1, and whether it is uncovered; none beyond the row's populated columns. -/
structure Neighbour where
  c1        : Nat
  uncovered : Bool

def uncoveredC (n : Option Neighbour) : Nat := match n with
  | some n => if n.uncovered then n.c1 else 0
  | none => 0

def clipC (c lo hi : Nat) : Nat := if c = 0 then 0 else (clamp c lo hi).toNat

/-- c2 from c1 (R121): the kernel, its words, the line, the nozzle's weights and its neighbours LL, L, R, RR. -/
def preKernel (k : Nat) (w : Nat → Nat) (m c1 wl wr : Nat) (ll l r rr : Option Neighbour) : Nat :=
  let lo16 := fun i => bits (w i) 0 16
  let hi16 := fun i => bits (w i) 16 16
  let redist := (wl * uncoveredC l + wr * uncoveredC r) / 256
  match k with
  | 0 => c1
  | 1 => min (lo16 0) (c1 + redist)
  | 2 =>
    let fall := bits (w 1) 0 8
    min (lo16 0) (c1 + redist + ((wl * fall / 256) * uncoveredC ll + (wr * fall / 256) * uncoveredC rr) / 256)
  | 3 => clipC c1 (lo16 0) (hi16 0)
  | 4 => if lo16 0 ≤ c1 && 0 < c1 then max c1 (hi16 0) else c1
  | 5 =>
    let side := fun (n : Option Neighbour) => match n with
      | some n => n.c1
      | none => c1
    let d : Int := 2 * c1 - side l - side r
    let lim : Int := lo16 1
    (clamp (c1 + clamp (sar (d * lo16 0) 12) (-lim) lim) 0 65535).toNat
  | 6 =>
    let i := m % max 1 (bits (w 0) 0 8)
    let g := bits (w (1 + i / 2)) (16 * (i % 2)) 16
    min 65535 (c1 * g / 16384)
  | _ => clipC (min (lo16 0) (c1 + redist)) (bits (w 1) 0 16) (bits (w 1) 16 16)

/-- A nozzle's level and trim while the post-screen kernel runs, and whether kernel 15 lowered the level. -/
structure LevelTrim where
  level   : Nat
  trim    : Int
  lowered : Bool := false

def levelTrim (w : Nat) (x : LevelTrim) : LevelTrim :=
  if 0 < x.level then { x with trim := x.trim + signed 4 (bits w (4 * x.level) 4) } else x
def thermalTrim (w0 w1 : Nat) (tTrim : Int) (x : LevelTrim) : LevelTrim :=
  { x with trim := x.trim + sar ((tTrim - signed 16 w0) * signed 16 w1) 16 }
def firstDrop (w idle : Nat) (x : LevelTrim) : LevelTrim :=
  if 0 < x.level && bits w 0 8 ≤ idle then { x with trim := x.trim + signed 4 (bits w 8 4) } else x

/-- The post-screen kernels (R123). -/
def postKernel (k : Nat) (w : Nat → Nat) (tTrim : Int) (idle run : Nat) (x : LevelTrim) : LevelTrim :=
  match k with
  | 9 => levelTrim (w 0) x
  | 10 => thermalTrim (w 0) (w 1) tTrim x
  | 11 => firstDrop (w 0) idle x
  | 12 => { x with level := bits (w 0) (3 * x.level) 3 }
  | 13 => if x.level = 0 && bits (w 0) 0 8 ≤ idle then { x with level := bits (w 0) 8 3 } else x
  | 14 => firstDrop (w 3) idle (thermalTrim (w 1) (w 2) tTrim (levelTrim (w 0) x))
  | 15 =>
    if bits (w 0) 8 3 ≤ x.level && bits (w 0) 0 8 ≤ run then { x with level := x.level - 1, lowered := true } else x
  | _ => x

/-- The kernel history after a line (R124): the idle and run counts from the final level. -/
def nextHistory (lhi : Nat) (lowered : Bool) (level : Nat) (h : Nat × Nat) : Nat × Nat :=
  let idle := if level = 0 then min 255 (h.1 + 1) else 0
  let run := if lowered then 0 else if lhi ≤ level then min 255 (h.2 + 1) else 0
  (idle, run)

/-- The history after `n` lines that count as level 0. -/
def idleHistory (n : Nat) (h : Nat × Nat) : Nat × Nat := if n = 0 then h else (min 255 (h.1 + n), 0)

/-- LHI of a bar (R124): kernel 15's, or 8. -/
def barLhi (set : List Byte) (x : ScreenBar) : Nat := if x.postK = 15 then bits (paramWord set x.postP 0) 8 3 else 8

/-- The fire word (R127, R128) of a level, a trim and the eighths of a tap. -/
def fireWord (level : Nat) (trim : Int) (vern : Nat) : Nat :=
  if level = 0 then 0 else vern * 128 + unsigned 4 (clamp trim (-8) 7) * 8 + level % 8

end Sys2Proof.Machine
end

