-- ==== Sys2Proof/Machine/Jobs.lean ====
section
/-! DEFINITION. Jobs, pages, bands and chains (chapter 03): admission, page order and replacement, and the start of a chain. -/

namespace Sys2Proof.Machine

/-! ### The job descriptor and its geometry table (R77, R78) -/

/-- The body of a job descriptor. -/
structure JobBody where
  id        : Nat
  res       : Nat
  join      : Nat
  index     : Bool
  cal       : Bool
  fmax      : Nat
  bandLines : Nat
  depth     : Nat
  cres      : Nat
  cw        : Nat
  xorg      : Int
  ofs       : Int
  geomLen   : Nat
  screenAddr : Nat
  screenLen : Nat

def Desc.jobBody (d : Desc) : JobBody :=
  let jn := d.at_ 19 1
  { id := d.at_ 16 2, res := d.at_ 18 1, join := bits jn 0 2, index := bits jn 2 2 = 1, cal := bit jn 4, fmax := d.at_ 20 2,
    bandLines := d.at_ 22 2, depth := d.at_ 24 1, cres := d.at_ 25 1, cw := d.at_ 28 4, xorg := signed 32 (d.at_ 32 4),
    ofs := signed 32 (d.at_ 36 4), geomLen := d.at_ 56 4, screenAddr := d.at_ 48 8, screenLen := d.at_ 60 4 }

/-- An entry of a geometry table. -/
def geoRow (g : List Byte) (i : Nat) : GeoRow :=
  let o := 16 + 32 * i
  ⟨leAt g o 2, byteAt g (o + 2), leAt g (o + 8) 8, leAt g (o + 16) 8, leAt g (o + 24) 4⟩

def geoRows (g : List Byte) : List GeoRow := (List.range (leAt g 0 2)).map (geoRow g)

/-- A list of row indices that rises. -/
def rising : List Nat → Bool
  | a :: b :: l => a < b && rising (b :: l)
  | _ => true

/-- The geometry table's own checks: lengths, reserved bytes, rising rows in range, one bar a port. -/
def geoFits (g : List Byte) (len : Nat) : Bool :=
  let rows := geoRows g
  len = 16 + 32 * leAt g 0 2 && g.length = len && leAt g 5 11 = 0
    && (List.range (leAt g 0 2)).all (fun i => leAt g (19 + 32 * i) 5 = 0 && leAt g (44 + 32 * i) 4 = 0)
    && rising (rows.map (·.k)) && rows.all (fun r => r.k < 1536 && r.bar < 16 && r.pitch ≠ 0)
    && rows.all (fun r => rows.all (fun q => r.k / 16 ≠ q.k / 16 || r.bar = q.bar))
    && 2 ≤ byteAt g 4 && byteAt g 4 ≤ 64 && rows.any (fun r => r.k = leAt g 2 2)

/-- The smallest line spacing that R94 loads for a rate in units of 10 Hz. -/
def tickMin (fmax : Nat) : Nat := ceilDiv 400000000 fmax

/-! ### Admission (R79, R80, R98) -/

/-- The job whose chain a SEAMLESS job continues, and after which a GAP job follows. -/
def State.lastJob (s : State) : Option Job := s.job.jobs.getLast?

/-- The chain of the last job. -/
def State.lastChain (s : State) : Option Chain := s.job.chains.getLast?

/-- The largest line spacing of the chains that have started. -/
def State.flyingMin (s : State) : Nat := ((s.flying.filter (·.started)).map (·.tmin)).foldl max 0

/-- The TRK_TICK_MIN that R94 loads for a job: its own alone for a NEW chain, and the largest of the chains in flight and of the
chain it joins or follows otherwise. -/
def State.spacingFor (s : State) (b : JobBody) : Nat :=
  match b.join, s.lastChain with
  | 0, _ => tickMin b.fmax
  | _, some c => max (tickMin b.fmax) (max c.tmin (if s.flying.any (·.id = c.id) then s.flyingMin else 0))
  | _, none => tickMin b.fmax

/-- The format check of R79 and R98. -/
def State.jobFormatBad (s : State) (d : Desc) (b : JobBody) (g : List Byte) : Bool :=
  let pred := s.lastChain
  4 ≤ b.res || 32 ≤ d.at_ 19 1 || b.join = 3 || 2 ≤ bits (d.at_ 19 1) 2 2 || d.at_ 26 2 ≠ 0
    || b.fmax < 100 || 25000 < b.fmax || b.bandLines % 16 ≠ 0 || b.bandLines < 64 || 4096 < b.bandLines
    || 1 < b.depth || 2 < b.cres || b.cw = 0 || 82688 < b.cw || (b.join = 1 && b.ofs ≠ 0) || d.at_ 40 8 % 64 ≠ 0
    || !geoFits g b.geomLen || s.job.jobs.any (fun j => j.id = b.id && !j.left)
    || 2 * 2 ^ s.get Reg.TRK_CFG.RPT_LOG > s.spacingFor b
    || (b.cal && (b.join = 2 || (b.join = 1 && !(pred.map (·.cal)).getD false)))

/-- Two geometry tables with one ink set: equal bars and row entries (R78). -/
def sameInk (a b : List GeoRow) : Bool := a = b

/-- G_min (R91), in counts. -/
def gapMin (fHz pitch : Nat) : Nat := ceilDiv (21 * fHz * pitch) (10000 * 2 ^ 32)

def refPitchOf (rows : List GeoRow) (ref : Nat) : Nat := ((rows.find? (·.k = ref)).map (·.pitch)).getD 0

/-- The rate check of R79: the ceiling over the blocks of the jobs in flight and this one, the ports' fire-data limits, and the
heads' rates. -/
def State.rateBad (s : State) (b : JobBody) (rows : List GeoRow) : Bool :=
  let hz := 10 * b.fmax
  let ks := (s.jobRows ++ rows.map (·.k)).eraseDups
  let ports := (rows.map (fun r => r.k / 16)).eraseDups
  fCeil s.engMHz (nbMax (s.rowEngines ks)) < hz
    || ports.any (fun p => s.fireLimit p < s.portCols p * hz * 10 || s.maxRate p < hz)

/-- The window rule's quantities (R80): W, STRIDE, LINE_BYTES and REQ. -/
structure Window where
  w         : Nat
  stride    : Nat
  lineBytes : Nat
  req       : Nat

def windowOf (b : JobBody) (rows : List GeoRow) (ref lead : Nat) : Window :=
  let ys := rows.map (fun r => signed 64 r.pos)
  let span := ceilDiv ((ys.foldl max (ys.headD 0) - ys.foldl min (ys.headD 0)).toNat) (refPitchOf rows ref)
  let w := ceilDiv (span * 65) 64 + lead + 2 * b.bandLines
  let stride := ceilDiv (b.cw * 2 ^ b.depth) 256 * 256
  let lb := stride * ((rows.map (·.bar)).eraseDups).length
  ⟨w, stride, lb, w * lb⟩

/-- The first failing check of R79, in its order; the window check writes W and REQ. -/
def State.jobRefusal (s : State) (d : Desc) (b : JobBody) (g : List Byte) : Option Nat × State :=
  let rows := geoRows g
  let ref := leAt g 2 2
  let pred := s.lastJob
  let pc := s.lastChain
  if s.jobFormatBad d b g then (some Code.ST_JOB_FORMAT, s)
  else
    let splice : Bool := match pred, pc with
      | some j, some c => b.join = 1 && (j.res ≠ b.res || !sameInk c.geo rows)
      | _, _ => b.join ≠ 0
    if splice then (some Code.ST_SPLICE_MISMATCH, s)
    else
      let (fm, lr) := match pred with
        | some j => (max j.fmax b.fmax, max (refPitchOf j.geo j.refRow) (refPitchOf rows ref))
        | none => (b.fmax, refPitchOf rows ref)
      if b.join = 2 && b.ofs < gapMin (10 * fm) lr then (some Code.ST_GAP_SHORT, s)
      else if s.rateBad b rows then (some Code.ST_RATE_FIT, s)
      else if b.cal then (none, (s.put64 Reg.JOB_WIN_REQ.PAIR 0).put Reg.JOB_WIN_LINES.LINES 0)
      else
        let x := windowOf b rows ref (byteAt g 4)
        let s := (s.put64 Reg.JOB_WIN_REQ.PAIR x.req).put Reg.JOB_WIN_LINES.LINES x.w
        let size := s.get64 Reg.JOB_PAGE_SIZE.PAIR
        let past : Bool := match b.join, pred, pc with
          | 0, _, _ => size < x.req
          | 1, some j, _ => decide (size < x.req) || decide (j.req < x.req)
          | _, _, some c => size < x.req + c.req
          | _, _, none => size < x.req
        (if past then some Code.ST_WINDOW_FIT else none, s)

/-! ### Screens (R92, R119) -/

/-- The bytes of a screen bank: 0 A, 1 B. -/
def State.bankBytes (s : State) (bank : Nat) : List Byte := if bank = 0 then s.eng.bankA else s.eng.bankB

/-- The shadow bank. -/
def State.shadowBank (s : State) : Nat := s.get (Reg.SE_STS.BANK 0)

/-- Whether a job needs a preload: its set differs from its predecessor's, or that one failed its check, since only a valid set is
reused (R92, R119). DEDUCED: a set that failed is preloaded again. -/
def State.newScreen (s : State) (b : JobBody) : Bool :=
  match s.job.lastSet with
  | some (_, _, _, .bad) => true
  | some (a, l, _, _) => a ≠ b.screenAddr || l ≠ b.screenLen
  | none => true

/-- Whether SCREEN_LEN lets a set be read at all (R119). -/
def screenLenFits (len : Nat) : Bool := 0xA040 ≤ len && len ≤ 0x40000 && len % 64 = 0

/-- A set that is not valid (R119). -/
def State.screenBad (s : State) (off : Nat) : State := s.post (ev Code.ST_SCREEN_SET_BAD srcJOB off)

/-! ### Acceptance -/

/-- A line that no row reaches: where a job stands until its predecessor's END page is known. -/
def farLine : Nat := 2 ^ 64

/-- The next chain: its ring begins where its predecessor's ends (R84). -/
def State.addChain (s : State) (b : JobBody) (g : List Byte) : State :=
  let rows := geoRows g
  let ref := leAt g 2 2
  let x := windowOf b rows ref (byteAt g 4)
  let x : Window := if b.cal then ⟨1, 0, 0, 0⟩ else x
  let size := max 1 (s.get64 Reg.JOB_PAGE_SIZE.PAIR)
  let gap := b.join = 2
  let bars := if gap then ((rows.map (·.bar)).eraseDups).map (fun i =>
      (i, (⟨s.get (Reg.TRK_BAR_S.VAL i), s.getI (Reg.TRK_BAR_B.VAL i), 0, s.get (Reg.FAB_BAR_SX.VAL i),
        s.getI (Reg.FAB_BAR_BX.VAL i)⟩ : BarCtx))) else []
  let c : Chain :=
    { id := s.job.nextChain, cal := b.cal, gap := gap, started := false, index := b.index, ofs := b.ofs, origin := 0,
      geo := rows, refRow := ref, lead := byteAt g 4, tick := 0xFFFFFFFF, refLine := none, ringW := x.w,
      lineBytes := x.lineBytes, ringOfs := s.job.ringEnd, req := x.req, tmin := tickMin b.fmax, total := none, stretch := false,
      leadShort := false, bars := bars, barQ := [], xQ := [] }
  s.setJobs (fun j => { j with
    nextChain := j.nextChain + 1, chains := j.chains ++ [c], ringEnd := (j.ringEnd + x.w * x.lineBytes) % size })

/-- The lines of a chain end where its last job ends, once that job's END page is known. -/
def State.chainTotal (s : State) (c : Nat) : State :=
  match (s.job.jobs.filter (·.chain = c)).getLast? with
  | none => s
  | some j => s.setChain c (fun x => { x with total := if j.z < farLine then j.total.map (j.z + ·) else none })

/-- TRK_TICK_MIN at the start of a chain, and for a SEAMLESS job (R94): the largest spacing of the chains in flight. -/
def State.loadTickMin (s : State) : State := s.put Reg.TRK_TICK_MIN.TICK_MIN s.flyingMin

/-- The origin of a GAP chain (R90): latched once the outgoing chain's last line is known. -/
def State.gapOrigin (s : State) : State :=
  s.each (s.job.chains.filter (fun d => d.gap && !d.started)) (fun d s =>
    match s.job.chains.find? (fun c => c.id + 1 = d.id) with
    | none => s
    | some c =>
      match c.total, c.row? c.refRow, d.row? d.refRow with
      | some t, some g, some h =>
        if !c.started then s
        else
          let x := d.bar h.bar
          let kb := sar (signed 64 h.pos * x.s) 30
          let o := s.duePos c g t - sar kb 16 - x.b + d.ofs * 65536
          ((s.setChain d.id (fun d => { d with started := true, origin := wrap48 o })).loadTickMin).predStart d
      | _, _, _ => s)

/-- The line after the highest that any row has passed in a chain, and after the highest that one has published. -/
def State.chainReach (s : State) (c : Nat) : Nat := ((s.chain? c).map s.readyFrom).getD 0
def State.chainShown (s : State) (c : Nat) : Nat :=
  ((s.chain? c).map (fun c => (c.rows.map (s.rowShown c)).foldl max 0)).getD 0

/-- The bands of a page whose first line was published before the page was there are missed (R85). -/
def Page.lateBands (p : Page) (cal : Bool) (bandLines shown : Nat) : Page :=
  let late := (List.range (ceilDiv p.lines bandLines)).filter (fun i => p.first + i * bandLines < shown && !p.lost.contains i)
  if cal || late = [] then p else { p with lost := late ++ p.lost, missed := true }

/-- A SEAMLESS job takes its place once its predecessor's lines are known: its pages move with it. -/
def State.placeJobs (s : State) : State :=
  s.each (s.job.jobs.zip (s.job.jobs.drop 1)) (fun (a, b) s =>
    match s.job.jobs.find? (·.id = a.id) with
    | none => s
    | some a =>
      match a.total with
      | some t =>
        if a.chain ≠ b.chain || b.z < farLine || farLine ≤ a.z then s
        else (s.setJob b.id (fun b => { b with
          z := a.z + t, readyLine := b.readyLine.map (max (s.chainReach b.chain)),
          pages := b.pages.map (fun p => { p with first := p.first - farLine + (a.z + t) }.lateBands b.cal b.bandLines (s.chainShown b.chain)) })).when
            (a.z + t < s.chainReach b.chain) (·.enterJob b.chain b.id)
      | none => s)

/-- A job's lines, and with them its chain's and its successors', are known. -/
def State.linesKnown (s : State) : State :=
  let s := s.placeJobs
  (s.each (s.job.chains.map (·.id)) (fun c s => s.chainTotal c)).gapOrigin

/-- A set that fails a check: not valid in any engine (R119). -/
def State.screenFailed (s : State) (addr len bank off : Nat) : State :=
  let s := s.setJobs (fun j => { j with
    lastSet := some (addr, len, bank, .bad),
    jobs := j.jobs.map (fun x => if x.bank = bank && x.preload = .loading then { x with preload := .bad } else x) })
  (s.each (List.range 64) (fun n s => s.put (Reg.SE_STS.SHADOW n) 3)).screenBad off

/-- The preload of an accepted job's set into every engine's shadow bank (R92, R144). A length out of range fails it before any byte
is read, at the offset of the header's LEN (R119). -/
def State.preload (s : State) (b : JobBody) : State :=
  let bank := s.shadowBank
  let s := s.setJobs (fun j => { j with
    lastSet := some (b.screenAddr, b.screenLen, bank, .loading), busyFor := some b.id })
  let s := (s.setEng (fun e => { e with badCopy := e.badCopy.filter (fun x => x.2 ≠ bank) })).put Reg.JOB_STS.SHADOW_BUSY 1
  let s := s.each (List.range 64) (fun n s => s.put (Reg.SE_STS.SHADOW n) 1)
  if screenLenFits b.screenLen then s.send (.hostRead 0 b.screenAddr b.screenLen)
  else s.screenFailed b.screenAddr b.screenLen bank 12

/-- A valid set that an abort left in the shadow banks serves a later job (R92): they are busy again until its rows have switched. -/
def State.reuseShadow (s : State) (id bank : Nat) : State :=
  if s.job.busyFor.isSome || bank ≠ s.shadowBank then s
  else (s.setJobs ({ · with busyFor := some id })).put Reg.JOB_STS.SHADOW_BUSY 1

/-- No job is held (R93). -/
def State.notHeld (s : State) : State := (s.setJobs ({ · with held := none })).put Reg.JOB_STS.HELD 0

/-- A job is accepted (R79): its chain, its screen set, and what they change. DEDUCED: the descriptor of a calibration job, which R98
lets complete with ST_ABORTED until its chain starts, completes with ST_OK at that start. -/
def State.acceptJob (s : State) (r index : Nat) (b : JobBody) (g : List Byte) : State :=
  let rows := geoRows g
  let fresh := s.newScreen b
  let s := if b.join = 1 then s else s.addChain b g
  let c := (s.lastChain.map (·.id)).getD 0
  let begun : Bool := (s.lastChain.map (·.started)).getD false
  let bars := (((rows.map (·.bar)).eraseDups.map Int.ofNat |> sortInts).map Int.toNat)
  let z := if b.join ≠ 1 then 0
    else match s.lastJob with
      | some p => match p.total with
        | some t => if p.z < farLine then p.z + t else farLine
        | none => farLine
      | none => farLine
  let (bank, pre) : Nat × Preload := if fresh then (s.shadowBank, .loading)
    else match s.job.lastSet with
      | some (_, _, bank, st) => (bank, st)
      | none => (s.shadowBank, .bad)
  let failed := if pre = .valid then barsFail (s.bankBytes bank) bars else none
  let s := match failed with
    | some off => s.screenBad off
    | none => s
  let ready := if pre = .valid && failed.isNone then some (max (s.chainReach c) (if z < farLine then z else 0)) else none
  let x := windowOf b rows (leAt g 2 2) (byteAt g 4)
  let j : Job :=
    { id := b.id, chain := c, z := z, res := b.res, fmax := b.fmax, bandLines := b.bandLines, depth := b.depth, cres := b.cres,
      cw := b.cw, xorg := b.xorg, screenAddr := b.screenAddr, screenLen := b.screenLen, bars := bars,
      stride := x.stride, cal := b.cal, geo := rows, total := none, nextPage := 0, nextLine := 0, pages := [], bank := bank,
      preload := if failed.isSome then .bad else pre, readyLine := ready, refRow := leAt g 2 2, lead := byteAt g 4,
      req := if b.cal then 0 else x.req, done := [], desc := if b.cal && !begun then some (r, index) else none }
  let s := (s.setJobs (fun q => { q with
    jobs := q.jobs.filter (·.id ≠ b.id) ++ [j], refused := q.refused.filter (· ≠ b.id) })).notHeld
  let s := s.setChain c (fun ch => { ch with tmin := max ch.tmin (tickMin b.fmax) })
  let s := s.when fresh (·.preload b)
  let s := s.when (!fresh) (·.reuseShadow b.id bank)
  let s := s.when begun State.loadTickMin
  let s := s.linesKnown
  let s := s.when (z < s.chainReach c) (·.enterJob c b.id)
  let s := s.when (b.join = 0 && s.flying = []) (·.loadGeo rows)
  let s := (s.showChains.refreshFab).refreshCeil
  let s := s.markStarted r index
  s.when (!b.cal || begun) (·.complete r index Code.ST_OK)

/-- Whether the job would need a third chain or a third screen set (R93). -/
def State.jobHeld (s : State) (b : JobBody) : Bool :=
  (b.join ≠ 1 && 2 ≤ s.job.chains.length) || (s.newScreen b && s.job.busyFor.isSome)

/-- The job descriptor at the head of a job/page ring, with its geometry table as read from the host (R79, R93, R98): it waits
for its mode, and while it would need a third chain or set. -/
def execJob (ring : Nat) (geom : List Byte) (s : State) : Host.Outcome State Fault Refusal :=
  .next (match s.headDesc ring with
    | none => s
    | some d =>
      let b := d.jobBody
      if s.ringType ring ≠ 1 || d.kind ≠ 1 || !(if b.cal then s.mode = 9 else s.modeIn 4 7) then s
      else
        let s := s.send (.hostRead (s.ringPort ring) (d.at_ 40 8) b.geomLen)
        match s.jobRefusal d b geom with
        | (some code, s) =>
          let s := s.setJobs (fun j => { j with refused := b.id :: j.refused.filter (· ≠ b.id) })
          let s := s.when (s.job.held.any (fun h => h.2 = b.id)) State.notHeld
          (s.markStarted ring d.index).complete ring d.index code
        | (none, s') =>
          if s'.jobHeld b then (s'.setJobs ({ · with held := some (b.join, b.id) })).put Reg.JOB_STS.HELD 1
          else s'.acceptJob ring d.index b geom)

/-- The preload ends (R119, R144): `set` as read, and the engines whose copy failed twice. It writes no bank that a published line
still needs. -/
def execScreenPreloadDone (set : List Byte) (badCopies : List Nat) (s : State) : Host.Outcome State Fault Refusal :=
  .next (match s.job.lastSet with
    | some (addr, len, bank, .loading) =>
      let bars := (s.job.busyFor.bind (fun id => (s.job.jobs.find? (·.id = id)).map (·.bars))).getD []
      if s.job.lines.any (fun l => l.bank = bank && l.blocks.any (·.words = none)) then s
      else match screenFails set len bars with
      | some off => s.screenFailed addr len bank off
      | none =>
        let s := s.setEng (fun e => { e with
          bankA := if bank = 0 then set else e.bankA, bankB := if bank = 1 then set else e.bankB,
          badCopy := (badCopies.filter (· < 64)).map (fun n => (n, bank)) ++ e.badCopy })
        let s := s.each (List.range 64) (fun n s => s.put (Reg.SE_STS.SHADOW n) (if badCopies.contains n then 3 else 2))
        let s := s.each (badCopies.filter (· < 64)) (fun n s => s.post (ev Code.ST_SCREEN_SET_BAD (srcSE n)))
        let s := s.setJobs ({ · with lastSet := some (addr, len, bank, .valid) })
        s.each (s.job.jobs.filter (fun x => x.bank = bank && x.preload = .loading)) (fun x s =>
          match barsFail set x.bars with
          | some off => (s.setJob x.id ({ · with preload := .bad })).screenBad off
          | none =>
            let l := s.chainReach x.chain
            s.setJob x.id (fun x => { x with preload := .valid, readyLine := some (max l (if x.z < farLine then x.z else 0)) }))
    | _ => s)

/-! ### Pages (R81, R82, R86, R87) -/

/-- Bands of a page from its table (R82); none where the table is malformed. -/
def pageBands (j : Job) (lines : Nat) (table : List Byte) (len : Nat) : Option (List Band) :=
  let n := ceilDiv lines j.bandLines
  let want := (List.range n).flatMap (fun i => j.bars.map (fun b => (i, b)))
  let got := (List.range len).map (fun i =>
    (⟨leAt table (16 * i) 8, leAt table (16 * i + 8) 4, byteAt table (16 * i + 12), leAt table (16 * i + 13) 3, .waiting, 0⟩ : Band))
  if j.cal then (if len = 0 then some [] else none)
  else if got.map (fun b => (b.idx, b.bar)) = want && table.length = 16 * len then some got else none

/-- Whether a page descriptor is malformed in itself. -/
def pageFormatBad (d : Desc) : Bool :=
  8 ≤ d.at_ 18 2 || d.at_ 24 4 = 0 || 16777216 < d.at_ 24 4 || d.at_ 32 8 % 16 ≠ 0 || d.at_ 48 16 ≠ 0

/-- A page is accepted in its job; the bands whose lines have gone by are missed (R85). -/
def State.addPage (s : State) (r : Nat) (d : Desc) (j : Job) (bands : List Band) : State :=
  let lines := d.at_ 24 4
  let last := bit (d.at_ 18 2) 0
  let p : Page := ⟨d.at_ 20 4, j.z + j.nextLine, lines, bit (d.at_ 18 2) 2, last, d.at_ 40 8, r, d.index, bands, false, []⟩
  let p := p.lateBands j.cal j.bandLines (if j.z < farLine then s.chainShown j.chain else 0)
  let s := s.setJob j.id (fun j => { j with
    pages := j.pages ++ [p], nextPage := j.nextPage + 1, nextLine := j.nextLine + lines,
    total := if last then some (j.nextLine + lines) else none })
  (s.markStarted r d.index).when last (·.linesKnown)

/-- A page descriptor at the ring's head completes at once. -/
def State.pageEnds (s : State) (r : Nat) (d : Desc) (code : Nat) : State := (s.markStarted r d.index).complete r d.index code

/-- Whether a job of that number waits for its admission at the head of a job/page ring (R81, R93, R98). -/
def State.jobWaits (s : State) (id : Nat) : Bool :=
  s.liveRings.any (fun r => s.ringType r = 1 && match s.headDesc r with
    | some d => d.kind = 1 && d.at_ 16 2 = id
    | none => false)

/-- The page descriptor at the head of a job/page ring, with its band table as read from the host. A replacement waits for the
next report boundary (R86), and a page for its job's admission. DESIGN CHOICE: a page that follows its job's END page is out of
order, ST_PAGE_ORDER (R81 names no status for it). -/
def execPage (ring : Nat) (table : List Byte) (s : State) : Host.Outcome State Fault Refusal :=
  .next (match s.headDesc ring with
    | none => s
    | some d =>
      if s.ringType ring ≠ 1 || d.kind ≠ 2 then s
      else if s.job.refused.contains (d.at_ 16 2) then s.pageEnds ring d Code.ST_JOB_REFUSED
      else if pageFormatBad d then s.pageEnds ring d Code.ST_JOB_FORMAT
      else match s.job.jobs.find? (·.id = d.at_ 16 2) with
        | none => if s.jobWaits (d.at_ 16 2) then s else s.pageEnds ring d Code.ST_JOB_FORMAT
        | some j =>
          if bit (d.at_ 18 2) 1 then s
          else if d.at_ 20 4 ≠ j.nextPage || j.total.isSome then s.pageEnds ring d Code.ST_PAGE_ORDER
          else
            let s := s.send (.hostRead (s.ringPort ring) (d.at_ 32 8) (16 * d.at_ 28 4))
            match pageBands j (d.at_ 24 4) table (d.at_ 28 4) with
              | none => s.pageEnds ring d Code.ST_JOB_FORMAT
              | some bands => s.addPage ring d j bands)

/-- A replacement is accepted (R87): the original page completes with ST_REPLACED. -/
def State.replacePage (s : State) (r : Nat) (d : Desc) (j : Job) (p : Page) (bands : List Band) : State :=
  let s := (s.stopBands p).complete p.ring p.index Code.ST_REPLACED
  let q := { p with
    zlib := bit (d.at_ 18 2) 2, tag := d.at_ 40 8, ring := r, index := d.index, bands := bands, missed := false, lost := [] }
  (s.setJob j.id (fun j => { j with pages := j.pages.map (fun x => if x.no = p.no then q else x) })).markStarted r d.index

/-- The replacement at a ring's head, its job and its target page. -/
def State.replacement (s : State) (ring : Nat) : Option (Desc × Job × Option Page) :=
  match s.headDesc ring with
  | none => none
  | some d =>
    if s.ringType ring ≠ 1 || d.kind ≠ 2 || !bit (d.at_ 18 2) 1 || pageFormatBad d then none
    else match s.job.jobs.find? (·.id = d.at_ 16 2) with
      | none => none
      | some j => some (d, j, j.pages.find? (·.no = d.at_ 20 4))

/-- A replacement is decided: `accept` is the test of R86, or the primary's decision. -/
def State.decideReplace (s : State) (ring : Nat) (table : List Byte) (d : Desc) (j : Job) (p : Page) (accept : Bool) : State :=
  match pageBands j (d.at_ 24 4) table (d.at_ 28 4) with
  | none => s.pageEnds ring d Code.ST_JOB_FORMAT
  | some bands =>
    let s := s.order [1 + accept.toNat * 2 ^ 8, p.first]
    if accept then s.replacePage ring d j p bands else s.pageEnds ring d Code.ST_REPLACE_LATE

/-- The decision on a replacement at a report boundary, after that boundary's publication (R86). A standby waits for the
primary's (R87), which its queue of orders holds. A page that has completed is late. DESIGN CHOICE: a replacement whose PAGE_NO no
page of the job has had is out of order, ST_PAGE_ORDER, at once (R86 names no status for it). -/
def execPageReplaceDecision (ring boundary : Nat) (table : List Byte) (s : State) : Host.Outcome State Fault Refusal :=
  .next (match s.replacement ring with
    | none => s
    | some (d, j, none) => match j.done.find? (·.1 = d.at_ 20 4) with
      | none => s.pageEnds ring d Code.ST_PAGE_ORDER
      | some (_, _, lines) =>
        if d.at_ 24 4 ≠ lines then s.pageEnds ring d Code.ST_REPLACE_LINES
        else s.when (s.tb.lastVote = some boundary) (fun s => s.pageEnds ring d Code.ST_REPLACE_LATE)
    | some (d, j, some p) =>
      if d.at_ 24 4 ≠ p.lines then s.pageEnds ring d Code.ST_REPLACE_LINES
      else if s.get Reg.DUE_STS.ROLE = 2 then
        match s.due.orders.findSome? (fun o => match o with
            | .replace f a => if f = p.first then some a else none
            | _ => none) with
        | none => s
        | some a =>
          (s.setDue (fun x => { x with orders := x.orders.filter (fun o => o ≠ .replace p.first a) })).decideReplace
            ring table d j p a
      else if s.tb.lastVote ≠ some boundary then s
      else s.decideReplace ring table d j p (s.chainReach j.chain + s.get Reg.JOB_RPL_GUARD.GUARD ≤ p.first))

/-! ### Bands (R83 to R85, R379, R380) -/

/-- The byte address of byte `i` of a bar's plane in the slot of chain line `m` (R84). -/
def State.planeAddr (s : State) (c : Chain) (j : Job) (bar m i : Nat) : Nat :=
  let o := c.ringOfs + m % max 1 c.ringW * c.lineBytes + j.stride * j.bars.findIdx (· = bar) + i
  dramAt (s.get64 Reg.JOB_PAGE_BASE.PAIR + o % max 1 (s.get64 Reg.JOB_PAGE_SIZE.PAIR))

/-- Whether the slot of chain line `m` is free: the line that had it has been settled on every row, and a chain that waits for
its predecessor to end does not share its page area (R84, R88). -/
def State.slotFree (s : State) (c : Chain) (m : Nat) : Bool :=
  let own : Bool := m < c.ringW || s.settledTo c (m - c.ringW)
  let shared := !c.gap && !c.started
    && s.flying.any (fun d => d.id < c.id && s.get64 Reg.JOB_PAGE_SIZE.PAIR < d.req + c.req)
  own && !shared

/-- The bands that wait, in the order of R84 and R379: by chain, job, band line, then rising bar. -/
def State.waitingBands (s : State) : List (Job × Page × Band) :=
  s.job.jobs.flatMap (fun j => j.pages.flatMap (fun p =>
    (p.bands.filter (fun b => b.st = .waiting)).map (fun b => (j, p, b))))

/-- The lines of a band. -/
def bandSpan (j : Job) (p : Page) (idx : Nat) : Nat := min j.bandLines (p.lines - idx * j.bandLines)

def State.setBand (s : State) (job no idx bar : Nat) (f : Band → Band) : State :=
  s.setJob job (fun j => { j with pages := j.pages.map (fun p =>
    if p.no = no then { p with bands := p.bands.map (fun b => if b.idx = idx && b.bar = bar then f b else b) } else p) })

/-- The lowest-numbered idle channel that is reserved for the page path. -/
def State.idlePageChannel (s : State) : Option Nat :=
  (List.range 8).find? (fun c => bit (s.get Reg.ZIP_CFG.PAGE_MASK) c && !bit (s.get Reg.ZIP_STS.PAGE_BUSY) c)

/-- The first band that waits starts on the lowest idle reserved channel once its slots are free (R379). -/
def execBandDispatch (s : State) : Host.Outcome State Fault Refusal :=
  .next (match s.waitingBands, s.idlePageChannel with
    | (j, p, b) :: _, some ch =>
      match s.chain? j.chain with
      | none => s
      | some c =>
        let first := p.first + b.idx * j.bandLines
        if farLine ≤ p.first || !s.slotFree c (first + bandSpan j p b.idx - 1) || !s.domOn 11 then s
        else
          let s := s.setBand j.id p.no b.idx b.bar ({ · with st := .running ch })
          (s.put Reg.ZIP_STS.PAGE_BUSY (putBit (s.get Reg.ZIP_STS.PAGE_BUSY) ch true)).send
            (.hostRead (s.ringPort p.ring) b.addr b.len)
    | _, _ => s)

/-- Work done by a compression channel, in its counters (chapter 12): KiB of input and output, completions, errors. -/
def State.zipWork (s : State) (ch inB outB : Nat) (err : Bool) : State :=
  let i := (s.zip.inB.lookup ch).getD 0 + inB
  let o := (s.zip.outB.lookup ch).getD 0 + outB
  let s := { s with zip := { s.zip with
    inB := Sparse.insert ch (i % 1024) s.zip.inB, outB := Sparse.insert ch (o % 1024) s.zip.outB } }
  let s := ((s.count (Reg.ZIP_CNT.CNT ch 0) (i / 1024)).count (Reg.ZIP_CNT.CNT ch 1) (o / 1024)).count (Reg.ZIP_CNT.CNT ch 2)
  let s := s.pmcAdd (504 + ch)
  s.when err (fun s => (s.count (Reg.ZIP_CNT.CNT ch 3)).pmcAdd (496 + ch))

/-- Write a band's inflated lines into their slots. -/
def State.writeBand (s : State) (c : Chain) (j : Job) (p : Page) (b : Band) (out : List Byte) : State :=
  let n := j.cw * (1 + j.depth)
  let first := p.first + b.idx * j.bandLines
  s.each (List.range (ceilDiv out.length n)) (fun i s =>
    let line := (out.drop (i * n)).take n
    let s := s.each line.zipIdx (fun e s => s.setByte (s.planeAddr c j b.bar (first + i) e.2) e.1)
    s.each (List.range (ceilDiv line.length 64)) (fun k s =>
      s.acceptWrite 1 (s.planeAddr c j b.bar (first + i) (64 * k) - dramAt 0)))

/-- What a band stream inflates to (R380, R382): its output up to the band's size, and the status it fails with, with the
decoder's code. -/
def bandResult (zlib : Bool) (want : Nat) (stream : Option (List Byte)) : List Byte × Nat × Option (Nat × Option Nat) :=
  match stream with
  | none => ([], 0, some (Code.ST_BAND_INFLATE, some Code.ST_ZDMA_ERR))
  | some src =>
    let (z, stop) := inflate zlib (want + 1) src
    let out := z.out.reverse.take want
    let used := ceilDiv (z.mark.getD z.pos) 8
    if want < z.len then (out, used, some (Code.ST_BAND_SIZE, none))
    else match stop with
      | some (.err code) => (out, used, some (Code.ST_BAND_INFLATE, some code))
      | some .more => (out, used, some (Code.ST_BAND_INFLATE, some Code.ST_ZERR_TRUNC))
      | none => (out, used, if z.len = want then none else some (Code.ST_BAND_SIZE, none))

/-- The band that runs on a channel. -/
def State.runningBand (s : State) (ch : Nat) : Option (Job × Page × Band) :=
  s.job.jobs.findSome? (fun j => j.pages.findSome? (fun p =>
    (p.bands.find? (fun b => b.st = .running ch)).map (fun b => (j, p, b))))

/-- ARG1 of a band's record, which names its job line and JOB_ID (R76). DESIGN CHOICE: bits [47:0] and [63:48]. -/
def bandLineArg (j : Job) (p : Page) (b : Band) : Nat := (p.first - j.z + b.idx * j.bandLines) % 2 ^ 48 + j.id * 2 ^ 48

/-- A band stream ends (R83): `stream` is what the host read answers, none where it fails. -/
def execBandComplete (channel : Nat) (stream : Option (List Byte)) (s : State) : Host.Outcome State Fault Refusal :=
  .next (match s.runningBand channel with
    | none => s
    | some (j, p, b) =>
      match s.chain? j.chain with
      | none => s
      | some c =>
        let want := bandSpan j p b.idx * j.cw * (1 + j.depth)
        let (out, used, bad) := bandResult p.zlib want (stream.map (fun bs => bs.take b.len))
        let s := (s.writeBand c j p b out).put Reg.ZIP_STS.PAGE_BUSY (putBit (s.get Reg.ZIP_STS.PAGE_BUSY) channel false)
        let s := s.zipWork channel used out.length (bad.any (·.2.isSome))
        match bad with
        | none => s.setBand j.id p.no b.idx b.bar ({ · with st := .complete, doneAt := s.now })
        | some (code, why) =>
          let s := s.setBand j.id p.no b.idx b.bar ({ · with st := .failed code })
          s.post (ev code srcJOB why (some (bandLineArg j p b)) (dataBar b.bar)))

/-! ### The start of a chain (R53, R89, R94) -/

/-- A chain starts with its origin: the bar array in force gives its bars, and every row its K_j and line 0. -/
def State.startChain (s : State) (c : Chain) (origin : Int) : State :=
  let bars := ((c.geo.map (·.bar)).eraseDups).map (fun i =>
    (i, (⟨s.get (Reg.TRK_BAR_S.VAL i), s.getI (Reg.TRK_BAR_B.VAL i), 0, s.get (Reg.FAB_BAR_SX.VAL i),
      s.getI (Reg.FAB_BAR_BX.VAL i)⟩ : BarCtx)))
  let s := s.setChain c.id (fun x => { x with
    started := true, origin := wrap48 origin, bars := bars, barQ := s.job.preBarQ ++ x.barQ, xQ := s.job.preXQ ++ x.xQ })
  let s := s.setJobs ({ · with preBarQ := [], preXQ := [] })
  let s := (s.loadGeo c.geo).loadTickMin
  let s := s.each (s.job.jobs.filter (fun j => j.chain = c.id)) (fun j s =>
    s.each j.desc.toList (fun d s => (s.setJob j.id ({ · with desc := none })).complete d.1 d.2 Code.ST_OK))
  match s.chain? c.id with
  | none => s
  | some d =>
    let s := s.each d.rows (fun k s => (s.setRow k (fun r => { r with ret := s.tb.returning, lastTf := none })).rowStarts k d)
    let s := s.each d.rows (fun k s => s.setRow k ({ · with rampTf := none }))
    let s := (((s.showChains).showContext d).predStart d).linesKnown
    (s.refreshFab.refreshCeil).showQueues

/-- The first chain that waits to start. -/
def State.waitingChain (s : State) : Option Chain :=
  if s.flying ≠ [] then none else (s.job.chains.head?).filter (fun c => !c.started)

/-- A NEW chain starts at a report boundary at which publication is allowed (R89); `indexTe` is the edge time of an index report
at that boundary. A standby starts chains by order alone (R325). -/
def execChainStart (boundary : Nat) (indexTe : Option Nat) (s : State) : Host.Outcome State Fault Refusal :=
  .next (match s.waitingChain with
    | none => s
    | some c =>
      let allowed := (if c.cal then s.mode = 9 else s.modeIn 6 7 && s.pwr.printFrom ≤ boundary) && s.get Reg.DUE_STS.ROLE ≠ 2 && s.expects boundary
        && !s.tb.dirRev && !s.flag Reg.TRK_STS.CRAWL && !s.tb.noMaj && s.now ≥ boundary
        && boundary % 2 ^ s.get Reg.TRK_CFG.RPT_LOG = 0
      let x := s.leadSeq
      let base : Option Int := if c.index then indexTe.map (fun te => x.ps + sar (x.v * ((te : Int) - x.ts)) 32) else some x.hwm
      match base with
      | none => s
      | some p =>
        if !allowed then s
        else
          let o := wrap48 (p + c.ofs * 65536)
          let s := (s.startChain c o).order [0, boundary, unsigned 64 o]
          s.each ((s.cal.batches.map (·.bar)).eraseDups) (fun b s => s.assignShare b))

end Sys2Proof.Machine
end

