-- ==== Sys2Proof/Machine/MemOps.lean ====
section
/-! DEFINITION. The DRAM controller: the planner's bound (R404, R405), training results (R410, R411), errors (R414) and self-refresh
(R409). -/

namespace Sys2Proof.Machine

/-- CAP (R404) for one or two refreshes in the interval. -/
def State.tickCap (s : State) (nref : Nat) : Nat := (2000 - nref * s.dramRfc - 160) * s.dramRate / 320

/-- The CAP in force. -/
def State.capNow (s : State) : Nat := s.tickCap (if s.flag Reg.MEM_STS.REF2X then 2 else 1)

/-- A sub-channel's capacity in GiB (the table "Sub-channel capacity"). -/
def State.subCapacity (s : State) : Nat :=
  [2, 3, 4].getD (s.get Reg.MEM_POP.DENS) 2 * (if s.flag Reg.MEM_POP.WIDTH then 2 else 4) * (1 + s.get Reg.MEM_POP.RANKS)

/-- Whether MEM_POP's fields name a supported population (R398): every combination but ×8 parts of 24 or 32 Gbit in two ranks,
and at least four sub-channels. -/
def popFits (w : Word) : Bool :=
  4 ≤ popcount 16 (bits w.toNat 16 16) && bits w.toNat 4 2 ≠ 3
    && !(bits w.toNat 0 1 = 0 && bits w.toNat 1 1 = 1 && bits w.toNat 4 2 ≠ 0)

/-- TICK reads reach a sub-channel (R405): those beyond CAP in an interval of 8,000 mt are counted and told. -/
def State.tickReads (s : State) (mc n : Nat) : State :=
  let recent := s.dram.ticks.filter (fun t => s.now < t.2.1 + 8000)
  let before := ((recent.filter (fun t => t.1 = mc)).map (·.2.2)).sum
  let excess := before + n - max before s.capNow
  let s := (s.setDram ({ · with ticks := (mc, s.now, n) :: recent })).pmcAdd (320 + mc) n
  if excess = 0 then s
  else ((s.put Reg.MEM_STS.TICK_OVER 1).count (Reg.MC_TICK_OVER.CNT mc) excess).postLimited
    (ev Code.ST_MEM_TICK_OVER (srcMC mc)) 0 4000000

/-- Reads of 64-byte segments at some DPAs, for an engine's line; a frozen controller takes none (R416). -/
def State.tickFetch (s : State) (key : Nat × Nat × Nat) (dpas : List Nat) : State :=
  let mcs := dpas.filterMap (fun a => (s.subChannel a).map (·.1))
  let s := s.each (mcs.eraseDups) (fun mc s => s.tickReads mc (mcs.filter (· = mc)).length)
  if s.frozen then s else s.each dpas (State.acceptTick key)

/-- They complete (R402, R404). -/
def State.tickDone (s : State) (key : Nat × Nat × Nat) : State := s.each (s.dram.subs.map (·.1)) (State.tickServed key)

/-! ### Training (R410, R411) -/

/-- The base address of a sub-channel's registers. -/
def mcBase (mc : Nat) : Nat := 0x600000 + mc * 0x4000

/-- Whether an offset within the instance holds a trained setting. -/
def isDelay (off : Nat) : Bool :=
  off % 4 = 0 && ((0x200 ≤ off && off < 0x2A0) || (0x300 ≤ off && off < 0x314) || (0x340 ≤ off && off ≤ 0x380))

/-- The offsets of the trained settings. -/
def delayOffsets : List Nat := ((List.range 97).map (fun i => 0x200 + 4 * i)).filter isDelay

/-- The settings, margins and result of a training enter the registers. -/
def State.trained (s : State) (o : TrainOutcome) : State :=
  let s := s.each (o.delays.filter (fun d => isDelay d.1)) (fun d s => s.setWord (mcBase o.mc + d.1) (d.2 &&& Reg.named (mcBase o.mc + d.1)))
  let s := s.setWord (Reg.MC_MARGIN.AT o.mc) (o.margin &&& Reg.named (Reg.MC_MARGIN.AT o.mc))
  s.setDram (fun d => { d with track := Sparse.erase o.mc d.track })

/-- The interleave, the capacity and the plan after training (R399, R404, R411). -/
def State.showMemory (s : State) : State :=
  let on := (List.range 16).filter (fun mc => s.get (Reg.MC_STS.STATE mc) = 2)
  let s := (s.put Reg.MEM_STS.EN_MASK (on.foldl (fun m i => m + 2 ^ i) 0)).put Reg.MEM_STS.N on.length
  let s := s.put64 Reg.MEM_CAP.PAIR (on.length * s.subCapacity * 2 ^ 30)
  (s.put Reg.MEM_PLAN.CAP1 (s.tickCap 1)).put Reg.MEM_PLAN.CAP2 (s.tickCap 2)

/-- Boot training ends for one sub-channel. -/
def State.trainEnds (s : State) (o : TrainOutcome) : State :=
  if s.get (Reg.MC_STS.STATE o.mc) ≠ 1 then s
  else
    let s := (s.trained o).put (Reg.MC_STS.RESULT o.mc) o.result
    let s := s.put (Reg.MC_STS.STATE o.mc) (if o.result = 3 then 3 else 2)
    let s := s.putB (Reg.MC_STS.MARGINAL o.mc) (o.result = 2)
    let s := s.when (o.result = 2) (·.post (ev Code.ST_MEM_MARGINAL (srcMC o.mc)))
    s.when (o.result = 3) (·.post (ev Code.ST_MEM_TRAIN_FAIL (srcMC o.mc)))

/-- A runtime retrain ends (R412): one that does not pass restores the last good setting. -/
def State.retrainEnds (s : State) (o : TrainOutcome) : State :=
  if s.get (Reg.MC_STS.STATE o.mc) ≠ 4 then s
  else
    let s := (s.put (Reg.MC_STS.RESULT o.mc) o.result).put (Reg.MC_STS.STATE o.mc) 2
    let old := s.dram.saved.filter (fun e => e.1 = o.mc)
    let s := s.setDram (fun d => { d with saved := d.saved.filter (fun e => e.1 ≠ o.mc) })
    if o.result = 1 then (s.trained o).put (Reg.MC_STS.MARGINAL o.mc) 0
    else
      let s := s.each old (fun e s => s.setWord e.2.1 e.2.2)
      let s := (s.put (Reg.MC_STS.MARGINAL o.mc) 1).put (Reg.MC_STS.RETRAIN_FAIL o.mc) 1
      s.post (ev Code.ST_MEM_MARGINAL (srcMC o.mc))

/-- A full retrain starts. -/
def State.retrainStarts (s : State) (mc : Nat) : State :=
  let now := delayOffsets.map (fun o => (mc, mcBase mc + o, s.word (mcBase mc + o)))
  (s.setDram (fun d => { d with saved := now ++ d.saved })).put (Reg.MC_STS.STATE mc) 4

/-! ### Self-refresh (R409) -/

/-- Before a MEM domain switches off, what is queued has issued, and every rank enters self-refresh. -/
def State.memSleeps (s : State) (d : Nat) : State :=
  let mine := (List.range 16).filter (fun mc => 9 + mc / 8 = d && s.get (Reg.MC_STS.STATE mc) = 2)
  let s := s.setDram (fun x => { x with subs := x.subs.filter (fun e => !mine.contains e.1), down := x.down.filter (fun r => !mine.contains r.1) })
  s.each mine (fun mc s => s.put (Reg.MC_STS.STATE mc) 5)

/-- On exit from self-refresh, each sub-channel runs the margin check before it accepts requests; one that fails it is retrained. What a
check finds is open. -/
def State.memWakes (s : State) (d : Nat) : State :=
  let mine := (List.range 16).filter (fun mc => 9 + mc / 8 = d && s.get (Reg.MC_STS.STATE mc) = 5)
  let n := s.free
  s.drawn.each mine (fun mc s =>
    let s := s.put (Reg.MC_STS.STATE mc) 2
    if Config.freeAt n mc % 2 = 0 then s else s.retrainStarts mc)

/-! ### Errors (R414, R416) -/

/-- An error record's test has its outcome at once. -/
def State.errTested (s : State) (e : ErrRec) (outcome : Nat) : State :=
  let seq := s.get Reg.ERR_LOG_HEAD.HEAD
  ((s.errRecord e).testStarted).errOutcome seq e.code outcome e.src

/-- A correctable DRAM error (R414). -/
def State.dramCe (s : State) (c : DramCe) : State :=
  match s.subChannel c.dpa with
  | none => s
  | some (mc, _) =>
  if s.frozen || s.get (Reg.MC_STS.STATE mc) ≠ 2 then s
  else
    let src := srcMC mc
    let s := (s.count (Reg.MC_CE_CNT.CNT mc)).put64 (Reg.MC_CE_ADDR.PAIR mc) c.dpa
    let s := s.postLimited (ev Code.ST_MEM_CE src none c.dpa) mc 4000000000
    let s := s.acceptWrite 2 c.dpa
    let s := s.errTested (er Code.ST_MEM_CE src 0 0 2 c.dpa) (if c.persists then 2 else 1)
    let s := s.when c.persists (fun s =>
      (s.count (Reg.MC_CE_LASTING.CNT mc)).post (ev Code.ST_MEM_CE_LASTING src none c.dpa))
    let hour := 14400000000000
    let s := s.setDram (fun d => { d with ces := (mc, s.now) :: d.ces.filter (fun e => s.now < e.2 + hour) })
    s.when (s.get Reg.MEM_SCRUB.CE_LIM < (s.dram.ces.filter (fun e => e.1 = mc)).length)
      (·.postLimited (ev Code.ST_MEM_CE_RATE src) mc hour)

/-- Whether an event of a scope may be posted now (R557). -/
def State.mayPost (s : State) (code scope interval : Nat) : Bool :=
  match s.posted.lookup (limitKey code scope) with
  | some t => t + interval ≤ s.now
  | none => true

end Sys2Proof.Machine
end

