-- ==== Sys2Proof/Machine/ThermOps.lean ====
section
/-! DEFINITION. The main die's thermal sensors and the domains they serve (R497). -/

namespace Sys2Proof.Machine

/-- The domains that a sensor serves (the table "Thermal sensors"). -/
def sensorDomains (i : Nat) : List Nat :=
  if i < 16 then [12 + i / 2]
  else if i < 20 then [i - 12]
  else if i = 20 then [8]
  else if i = 21 then [9]
  else if i = 22 then [10]
  else [0, 1, 2, 3, 11, 20]

/-- The sensors of a domain. -/
def domainSensors (d : Nat) : List Nat := (List.range 24).filter (fun i => (sensorDomains i).contains d)

/-- Whether a sensor is broken (R498). -/
def State.sensorBroken (s : State) (i : Nat) : Bool := s.get (Reg.THM_SENS.BROKEN i) ≠ 0

/-- A domain's temperature in 1/16 °C: the highest reading among its working sensors. -/
def State.domainTemp (s : State) (d : Nat) : Int :=
  match ((domainSensors d).filter (fun i => !s.sensorBroken i)).map (fun i => s.getI (Reg.THM_SENS.TEMP i)) with
  | [] => 0
  | t :: ts => ts.foldl max t

end Sys2Proof.Machine
end

