-- ==== Sys2Proof/Machine/LinkOps.lean ====
section
/-! DEFINITION. Lanes, and the links they make: what bring-up, faults and self-tests of head ports and peer links share (chapters
06 and 07). -/

namespace Sys2Proof.Machine

/-! ### Lanes -/

def State.lane (s : State) (n : Nat) : LaneSt := Sparse.get (fun _ => {}) s.lanes n
def State.setLane (s : State) (n : Nat) (f : LaneSt → LaneSt) : State :=
  { s with lanes := Sparse.insert n (f (s.lane n)) s.lanes }

/-- The lanes of a head port's link, and of a peer link (R177, R226). -/
def headLanes (p : Nat) : List Nat := [2 * p, 2 * p + 1]
def peerLanes (l : Nat) : List Nat := if l = 0 then (List.range 8).map (240 + ·) else [247 + l]

/-- The lanes of the link that a head or peer lane belongs to. -/
def linkLanes (n : Nat) : List Nat :=
  if n < 192 then headLanes (n / 2) else if n < 240 then [] else if n < 248 then peerLanes 0 else [n]

/-- The peer link of a peer lane. -/
def lanePeer (n : Nat) : Nat := if n < 248 then 0 else n - 247

/-- Whether a lane is a head or peer lane. -/
def linkLane (n : Nat) : Bool := n < 192 || (240 ≤ n && n < 256)

/-- Block lock is lost on a lane: its slips count from 0 again (R236). -/
def State.lockGone (n : Nat) (s : State) : State :=
  (s.put (Reg.L_STS.BLOCK_LOCK n) 0).put (Reg.L_BS.SLIPS n) 0

/-! ### Re-adaptation (R235, R310) -/

/-- Whether the link of a head or peer lane is UP. -/
def State.laneUp (s : State) (n : Nat) : Bool := if n < 192 then s.portUp (n / 2) else 240 ≤ n && s.peerLink (lanePeer n) = 8

/-- The temperature that R310 compares, in 1/16 °C, of a lane's power domain: its hottest sensor. -/
def State.laneTemp (s : State) (n : Nat) : Int := s.domainTemp ((domainAt (Reg.L_CTRL.AT n)).getD 0)

/-- A re-adaptation starts; one that runs goes on. A measurement that was running is served by its own (R255). -/
def State.reeqStart (n : Nat) (byCal : Bool) (s : State) : State :=
  if (s.lane n).reeq.isSome then s
  else
    let busy := s.flag (Reg.L_EYE.BUSY n)
    (s.put (Reg.L_EYE.BUSY n) 0).setLane n ({ · with reeq := some s.now, tempAt := some (s.laneTemp n), byCal := byCal, serves := busy, eyeGo := none })

/-- The calibration unit's lanes: up to eight re-adapt at once, in rising number, of those whose
link is UP (R310). -/
def State.sweepOn (s : State) : State :=
  let free := 8 - s.cal.sweeping.length
  let up := (List.range 256).filter (fun n => s.cal.sweep.contains n && s.laneUp n)
  let next := up.take free
  let s := s.setCal (fun c => { c with sweep := up.drop free, sweeping := c.sweeping ++ next })
  s.each next (fun n s => (s.count (Reg.CAL_CNT.CNT 9)).reeqStart n true)

/-- A periodic sweep ends once none of its lanes is left (R310). -/
def State.sweepDone (s : State) : State :=
  if s.cal.periodic && s.cal.sweep = [] && s.cal.sweeping = [] then
    (s.setCal ({ · with periodic := false })).post (ev Code.ST_CAL_LANE_DONE srcCAL)
  else s

/-- Lanes that go down leave the calibration unit's sweep (R228, R255). -/
def State.sweepGone (ns : List Nat) (s : State) : State :=
  if !(s.cal.sweep ++ s.cal.sweeping).any ns.contains then s
  else
    let s := s.setCal (fun c => { c with
      sweep := c.sweep.filter (fun n => !ns.contains n), sweeping := c.sweeping.filter (fun n => !ns.contains n) })
    s.sweepOn.sweepDone

/-- Lanes whose re-adaptation and measurement end with their link (R255). -/
def State.lanesStop (ns : List Nat) (s : State) : State :=
  (s.each ns (fun n s => (s.put (Reg.L_EYE.BUSY n) 0).setLane n
    ({ · with eyeGo := none, reeq := none, serves := false, byCal := false }))).sweepGone ns

/-- Lanes whose receiver is back in DETECT: nothing is detected yet, and no eye has been measured (R233). -/
def State.lanesDetect (ns : List Nat) (s : State) : State :=
  (s.each ns (fun n s =>
    (((s.put (Reg.L_STS.SIG n) 0).put (Reg.L_STS.CDR n) 0).lockGone n).setLane n ({ · with eye := none, noEq := false }))).lanesStop ns

/-- A setting of one bit of L_STS on the lanes of a link. -/
def State.lanesShow (ns : List Nat) (f : Nat → Fld) (v : Nat) (s : State) : State := s.each ns (fun n s => s.put (f n) v)

/-- What the polarity step finds on a lane (R188, R238): its polarity, kept on a wake, and its hint; the boundary is placed at the hint if
AUTO_HINT is 1, and on a wake always. -/
def State.lanePolarity (ns : List Nat) (o : BringupObs) (wake : Bool) (s : State) : State :=
  s.each ns.zipIdx (fun e s =>
    let m := o.markers.getD e.2 (false, 26)
    let hint := (m.2 + 40) % 66
    let s := (s.when (!wake) (·.putB (Reg.L_STS.POL_INV e.1) m.1)).put (Reg.L_BS.HINT e.1) hint
    s.when (wake || s.flag (Reg.L_BS.AUTO_HINT e.1)) (·.setLane e.1 (fun x => { x with boundary := (x.boundary + hint) % 66 })))

/-- The search of R189 on each lane: its slips, and the lock detector's output (R236, R237). -/
def State.laneSearch (peer : Bool) (ns : List Nat) (o : BringupObs) (s : State) : State :=
  s.each ns.zipIdx (fun e s => match searchFrom peer (o.seen.getD e.2 []) (s.lane e.1).boundary 66 0 with
    | none => s
    | some k =>
      ((s.put (Reg.L_BS.SLIPS e.1) ((s.get (Reg.L_BS.SLIPS e.1) + k) % 66)).put (Reg.L_STS.BLOCK_LOCK e.1) 1).setLane e.1
        (fun x => { x with boundary := (x.boundary + k) % 66 }))

/-- The lock detector at each lane's present boundary, while the host runs the search (R190, R237). -/
def State.laneDetect (peer : Bool) (ns : List Nat) (o : BringupObs) (s : State) : State :=
  s.each ns.zipIdx (fun e s =>
    s.putB (Reg.L_STS.BLOCK_LOCK e.1) (locks peer ((o.seen.getD e.2 []).getD (s.lane e.1).boundary [])))

/-- Whether the lock detector shows every lane locked. -/
def State.lanesLocked (s : State) (ns : List Nat) : Bool := ns.all (fun n => s.flag (Reg.L_STS.BLOCK_LOCK n))

/-- The LANE_IDs received (R183, R188): one a lane, and no two the same. -/
def obsIds (peer : Bool) (ns : List Nat) (o : BringupObs) : Option (List Nat) :=
  let ids := ns.zipIdx.filterMap (fun e => laneIdOf peer (o.blocks.getD e.2 []))
  if ids.length = ns.length && ids.eraseDups.length = ns.length then some ids else none

def State.laneIds (ns ids : List Nat) (s : State) : State :=
  s.each ns.zipIdx (fun e s => s.put (Reg.L_STS.LANE_ID e.1) (ids.getD e.2 0))

/-- Whether the lanes' TRAIN blocks, as they arrive, can be aligned (R191). -/
def obsDeskews (peer : Bool) (ns : List Nat) (o : BringupObs) : Bool :=
  deskews (ns.zipIdx.map (fun e => (readTrain peer ((o.blocks.getD e.2 []).headD (0, 0)).2).count))

/-- Whether RX_READY has come in 64 consecutive TRAIN blocks on every lane (R192). -/
def obsReady (peer : Bool) (ns : List Nat) (o : BringupObs) : Bool := ns.zipIdx.all (fun e => readyRun peer (o.blocks.getD e.2 []))

/-- The values that a receiver adapts to (R230): no rule states them. A receiver in MANUAL does not adapt. -/
def State.adapt (n : Nat) (s : State) : State :=
  if s.get (Reg.L_RXEQ.MODE n) = 2 then s
  else
    let v := s.open_ 12
    let taps := (List.range 7).map (fun i => Config.freeAt s.free i)
    ((s.drawn.put (Reg.L_RXEQ.CTLE n) (v % 16)).put (Reg.L_RXEQ.TAP1 n) (v / 16)).setLane n ({ · with taps := taps })

/-- The link lane of a link that a lane of it receives (R183, R247). -/
def State.rxLane (s : State) (n : Nat) : Nat := s.get (Reg.L_STS.LANE_ID n)

/-- The lane of a link that receives its link lane `j`. -/
def State.rxLaneOf (s : State) (ns : List Nat) (j : Nat) : Nat := (ns.find? (fun n => s.rxLane n = j)).getD (ns.getD j (ns.headD 0))

/-- The block errors of a received packet, whose SOP stood on link lane `first`: each counts on its lane (R180 to R183). -/
def State.packetErrors (ns : List Nat) (peer : Bool) (first : Nat) (blocks : List (Nat × Nat)) (s : State) : State :=
  s.each (blocks.zipIdx.filter (fun e => readBlock peer e.1 = .bad)) (fun e s =>
    s.count (Reg.L_CNT.CNT (s.rxLaneOf ns ((first + e.2) % ns.length)) 0))

/-- SKIP blocks of one sequence that a lane leaves, 1 to 3, and its counts (R185). -/
def State.skipLeave (leave n : Nat) (s : State) : State :=
  ((s.when (leave = 3) (·.count (Reg.L_CNT.CNT n 2))).when (leave = 1) (·.count (Reg.L_CNT.CNT n 3))).setLane n
    (fun x => { x with fill := x.fill + leave - 2 })

/-- A measurement starts, unless a re-adaptation's own serves (R255). -/
def State.eyeStart (n : Nat) (s : State) : State :=
  if (s.lane n).reeq.isSome then s.setLane n ({ · with serves := true })
  else (s.put (Reg.L_EYE.BUSY n) 1).setLane n ({ · with eyeGo := some s.now })

/-- Whether the eye of every lane of a link has been measured in this bring-up, and works (R233). -/
def State.eyesGood (s : State) (ns : List Nat) : Bool := ns.all (fun n => match (s.lane n).eye with
  | some q => 2 ≤ q
  | none => false)

/-- Whether the eye of a lane of a link has been measured in this bring-up, and fails (R233). -/
def State.eyesBad (s : State) (ns : List Nat) : Bool := ns.any (fun n => (s.lane n).eye = some 1)

/-- The lanes without a working eye are told (R233). -/
def State.noEq (ns : List Nat) (s : State) : State :=
  s.each (ns.filter (fun n => !(match (s.lane n).eye with
    | some q => decide (2 ≤ q)
    | none => false))) (fun n s =>
      ((s.put (Reg.L_EVT.NO_EQ n) 1).setLane n ({ · with noEq := true })).post (ev Code.ST_LANE_NO_EQ (srcL n)))

/-- Whether a FAULT lane keeps a link down (R242): not while a self-test brings the link up. -/
def State.laneFault (s : State) (ns : List Nat) : Bool :=
  ns.any (fun n => s.flag (Reg.L_STS.FAULT n)) && !ns.any (fun n => (s.lane n).test = 2)

/-- The reference clock of a lane (R226): 0 to 3 REFCLK_HQ, 4 CAM, 5 PEER, 6 PCIE. -/
def laneRef (n : Nat) : Nat := if n < 192 then n / 48 else if n < 224 then 4 else if n < 240 then 6 else 5

/-- Whether a link cannot come up now: its reference is lost (R228), or a lane of it runs loopback (R242). -/
def State.linkHeld (s : State) (ns : List Nat) : Bool :=
  ns.any (fun n => (s.lane n).test = 1 || s.pwr.refLost.contains (laneRef n))

/-! ### Lane self-tests (R242) -/

/-- A self-test of a link is due at the next permitted interval; `seq` is the error record whose test it is. -/
def State.laneTestDue (ns : List Nat) (asked : Bool) (seq : Option Nat) (s : State) : State :=
  s.each ns (fun n s => (s.put (Reg.L_SELFTEST.PENDING n) 1).setLane n (fun x => { x with
    asked := x.asked || asked, seqs := if n = ns.headD 0 then seq.toList ++ x.seqs else x.seqs }))

/-! ### The limits of the bring-up states, in mt (the table "Bring-up steps", R248) -/

def stepLimit (st : Nat) : Option Nat :=
  match st with
  | 2 => some 400000
  | 3 => some 80000
  | 4 => some 80000000
  | 5 => some 80000
  | 6 => some 80000
  | 7 => some 20000000
  | _ => none

/-! ### Head ports (R188, R193) -/

/-- The port's bring-up starts again from DETECT, at the rate that HP_CFG.RATE selects. A FAULT lane keeps the link down. -/
def State.hpRestart (p : Nat) (s : State) : State :=
  if !s.flag (Reg.HP_CTRL.EN p) then s
  else
    let s := ((s.linkLost p).portDown p).lanesDetect (headLanes p)
    let rate := s.get (Reg.HP_CFG.RATE p)
    let s := s.setPort p ({ · with
      named := false, locked := false, exch := [], voids := 0, relock := false, fatal := false, failedAt := none, rate := rate })
    let s := ((s.put (Reg.HP_LINK_STS.RX_TWI p) 0).put (Reg.HP_LINK_STS.HEAD_TX_TWI p) 0).lanesShow (headLanes p) Reg.L_STS.RX_TWI 0
    let s := s.lanesShow (headLanes p) Reg.L_STS.RATE rate
    s.hpState p (if s.laneFault (headLanes p) then 10 else 1)

/-- A failed bring-up (R193). -/
def State.hpFail (p : Nat) (s : State) : State :=
  let s := (s.linkLost p).portDown p
  if s.flag (Reg.HP_CFG.AUTO_RETRAIN p) && s.get (Reg.HP_LINK_STS.RETRIES p) < 16 then
    ((s.count (Reg.HP_LINK_STS.RETRIES p)).hpState p 10).setPort p ({ · with failedAt := some s.now, relock := false })
  else
    let s := (s.hpState p 10).setPort p ({ · with failedAt := none, relock := false })
    s.post (ev Code.ST_HP_BRINGUP_FAIL (srcHP p) none none (s.dataPort p))

/-- A burst of CRC errors on a head port (R220): told at most once per ms, with its record, and the lane self-test is due. -/
def State.crcBurst (p : Nat) (s : State) : State :=
  let s := s.put (Reg.HP_LINK_EVT.CRC_BURST p) 1
  if !s.mayPost Code.ST_HP_CRC_BURST p 4000000 then s
  else
    let seq := s.get Reg.ERR_LOG_HEAD.HEAD
    let s := s.postLimited (ev Code.ST_HP_CRC_BURST (srcHP p) none none (s.dataPort p)) p 4000000
    (s.errRecord (er Code.ST_HP_CRC_BURST (srcHP p) 0 1 3 (some (2 * p)) 0 (s.dataPort p))).laneTestDue (headLanes p) false seq

/-! ### Peer links (R248) -/

/-- The receiver's state of a peer link, on each of its lanes. -/
def State.peerState (l st : Nat) (s : State) : State :=
  (s.setPeer l ({ · with since := s.now })).lanesShow (peerLanes l) Reg.L_STS.LINK_STATE st

/-- A peer link leaves UP: told once; the channels of the Duet link start again at SEQ 0 (R252). -/
def State.peerDown (l : Nat) (s : State) : State :=
  if s.peerLink l ≠ 8 then s
  else
    let s := s.post (ev Code.ST_PEER_LINK_DOWN (srcL (peerLane l)))
    s.when (l = 0) (·.setDue ({ · with seqTx := [], seqRx := [], missing := [], kept := [] }))

/-- A peer link's lanes are enabled: all eight of the Duet's (R248). -/
def State.peerEnabled (s : State) (l : Nat) : Bool := (peerLanes l).all (fun n => s.flag (Reg.L_CTRL.EN n))

/-- A peer link's bring-up starts again, or its lanes are off; a FAULT lane keeps it down (R239, R242). -/
def State.peerRestart (l : Nat) (s : State) : State :=
  let s := ((s.peerDown l).lanesDetect (peerLanes l)).setPeer l (fun x => { x with
    failedAt := none, annIn := none, queue := [], training := false, tx := { x.tx with freeAt := 0, scr := [] } })
  s.peerState l (if !s.peerEnabled l then 0 else if s.laneFault (peerLanes l) then 10 else 1)

/-- A failed bring-up of a peer link: it retries after 1 ms, without limit. -/
def State.peerFail (l : Nat) (s : State) : State :=
  ((s.peerDown l).peerState l 10).setPeer l (fun x => { x with
    failedAt := some s.now, queue := [], training := false, tx := { x.tx with freeAt := 0, scr := [] } })

/-- The link of a head or peer lane goes down and brings up again. -/
def State.laneRestart (n : Nat) (s : State) : State :=
  if n < 192 then s.hpRestart (n / 2) else if 240 ≤ n then s.peerRestart (lanePeer n) else s

end Sys2Proof.Machine
end

