-- ==== Sys2Proof/Machine/Camera.lean ====
section
/-! DEFINITION. The commands of the camera ports and of inspection (chapter 08). -/

namespace Sys2Proof.Machine

/-! ### Ports (R260, R261, R275) -/

/-- The lanes of a camera port, and what L_STS shows of its first `n` (R239, R260). -/
def camLanes (p : Nat) : List Nat := (List.range 4).map (fun i => 192 + 4 * p + i)
def State.showCamLanes (s : State) (p n rate : Nat) : State :=
  s.each (camLanes p) (fun l s =>
    let on := l < 192 + 4 * p + n
    ((s.putB (Reg.L_STS.SIG l) on).putB (Reg.L_STS.CDR l) on).put (Reg.L_STS.RATE l) (if on then rate else 0))

/-- Of a camera port's lanes the first `n` are powered, and the others off (R239, R260). -/
def State.camPower (s : State) (p n : Nat) : State :=
  s.each (camLanes p) (fun l s => s.putB (Reg.L_STS.TX_IDLE l) (192 + 4 * p + n ≤ l))

/-- A port's state. -/
def State.camState (s : State) (p : Nat) : Nat := s.get (Reg.CAM_P_STS.STATE p)

/-- The upconnection's rate in 10 kbit/s (R258): 20.83 Mbit/s for discovery, and the high-speed one, which triggers require, once
CONNECTED. -/
def State.upRate (s : State) (p : Nat) : Nat := [0, 2083, 4167].getD (s.camState p) 0

/-- Discovery starts on the master connection at CXP-1 (R260). -/
def State.discover (s : State) (p : Nat) : State :=
  (((s.put (Reg.CAM_P_STS.STATE p) 1).put (Reg.CAM_P_STS.RATE_FOUND p) 1).put (Reg.CAM_P_STS.CONN_FOUND p) 0).showCamLanes p 0 0 |>.camPower p (s.camConns p)

/-- A disabled port's frames close at once, with the lines they lack absent (R292). -/
def State.closeDown (s : State) (p : Nat) : State :=
  let s := State.drainLines p true ((s.cam p).lines.length) s
  s.each (s.cam p).frames (fun f s =>
    let whole := min 4096 (((s.chain? f.chain).bind s.camLines).getD (4096 * (f.no + 1)) - 4096 * f.no)
    let lack := whole - (f.got + f.absent)
    let s := (s.count (Reg.CAM_P_CNT.CNT p 1) lack).pmcAdd (360 + p) lack
    s.closeFrame p { f with absent := f.absent + lack })

/-- EN goes to 0: the lanes are off, triggers stop, frames close, and captures of the port end (R260, R291, R292). -/
def State.camOff (s : State) (p : Nat) : State :=
  let s := s.closeDown p
  let s := s.setCam p (fun x => { x with trigs := [], next := none })
  let s := s.each (s.ins.caps.filter (fun c => c.port = p)) (fun c s =>
    (s.setIns (fun i => { i with caps := i.caps.filter (fun x => !(x.ring = c.ring && x.index = c.index)) })).complete
      c.ring c.index Code.ST_CAM_DOWN)
  let s := (((s.put (Reg.CAM_P_STS.STATE p) 0).put (Reg.CAM_P_STS.RATE_FOUND p) 0).put (Reg.CAM_P_STS.CONN_FOUND p) 0).showCamLanes p 0 0
  (s.camPower p 0).lanesStop (camLanes p)

/-- A write of a port that R275 may refuse: done, and taken back where the budget is exceeded. -/
def State.budgeted (s : State) (p : Nat) (f : State → State) : State :=
  let t := f s
  if t.flag (Reg.CAM_P_CTRL.EN p) && t.overBudget p then s.post (ev Code.ST_CAM_BUDGET (srcCP p)) else t.showDemand

/-- A write of CAM_P_CTRL: RATE 0 and CONN 3 are dropped (R294). -/
def State.camCtrlWrite (s : State) (slot p : Nat) (data : Word) : State :=
  let a := Reg.CAM_P_CTRL.AT p
  let retry := fun (s : State) => if wbit data 8 && s.camState p = 3 then s.discover p else s
  if s.lockedAt a then retry (s.writeFields slot a data)
  else if wbits data 4 3 = 0 || wbits data 2 2 = 3 then s.put (Reg.CAM_P_STS.CFG_ERR p) 1
  else
    let was := s.flag (Reg.CAM_P_CTRL.EN p)
    let now_ := wbit data 0
    if !was && now_ then
      s.budgeted p (fun s => (s.writeFields slot a data).discover p)
    else if was && !now_ then ((s.camOff p).writeFields slot a data).showDemand
    else
      let s := s.writeFields slot a data
      if now_ && s.camState p = 3 then s.discover p else s

def execCamPortEnable (slot port : Nat) (data : Word) (s : State) : Host.Outcome State Fault Refusal :=
  .next (if 8 ≤ port then s else s.ownerWrite slot (Reg.CAM_P_CTRL.AT port) (·.camCtrlWrite slot port data))

/-- Discovery ends with the connections found and the highest rate reached (R260). -/
def execCamDiscoveryDone (port found reached : Nat) (s : State) : Host.Outcome State Fault Refusal :=
  .next (if 8 ≤ port || s.camState port ≠ 1 then s
    else
      let want := s.camConns port
      let rate := s.get (Reg.CAM_P_CTRL.RATE port)
      let s := (s.put (Reg.CAM_P_STS.CONN_FOUND port) (min found 7)).put (Reg.CAM_P_STS.RATE_FOUND port) (min reached rate)
      if found < want || reached < rate then
        (s.put (Reg.CAM_P_STS.STATE port) 3).post (ev Code.ST_CAM_DISCOVERY_FAIL (srcCP port))
      else ((s.put (Reg.CAM_P_STS.STATE port) 2).showCamLanes port want rate).post (ev Code.ST_CAM_LINK_UP (srcCP port)))

/-- CAM_P_CTRL.RETRY, which no lock stops (R294): the command writes the bit beside the fields in force. -/
def execRetry (slot port : Nat) (s : State) : Host.Outcome State Fault Refusal :=
  .next (if 8 ≤ port then s
    else s.ownerWrite slot (Reg.CAM_P_CTRL.AT port) (fun s => if s.camState port = 3 then s.discover port else s))

def execStCamLinkDown (port : Nat) (s : State) : Host.Outcome State Fault Refusal :=
  .next (if 8 ≤ port || s.camState port ≠ 2 then s
    else (s.post (ev Code.ST_CAM_LINK_DOWN (srcCP port))).discover port)

/-! ### Camera writes of a set (R272) -/

/-- Whether the trigger of line q_e − D_s − 4 of a set has been published. -/
def State.writesDue (s : State) (p : Nat) (x : CamSet) : Bool :=
  let ahead := s.get (Reg.CAM_P_SENS.DELAY p) + 4
  match (s.cam p).next with
  | some (c, q) => x.start.chain < c || (x.start.chain = c && decide (x.start.q < q + ahead))
  | none => false

/-- Whether a set's camera writes are due and none of them has gone out. -/
def State.writesWait (s : State) (p slot : Nat) (x : CamSet) : Bool :=
  !x.failed && x.sent = 0 && setWrites x.bytes ≠ 0 && (x.pend || x.took.isSome) && s.writesDue p x && !(s.cam p).waiting.contains slot

/-! ### The control channel (R262) and events (R263) -/

/-- The TX buffer goes out on the control channel. -/
def State.ccSend (s : State) (p : Nat) : State :=
  let len := if s.get (Reg.CAM_P_CC_CTRL.LEN p) = 0 then 1024 else s.get (Reg.CAM_P_CC_CTRL.LEN p)
  let bytes := ((List.range 256).flatMap (fun i => leBytes 4 (s.get (Reg.CAM_P_TXBUF.VAL p i)))).take len
  let s := (s.send (.camera p 0 bytes)).put (Reg.CAM_P_CC_CTRL.BUSY p) 1
  s.setCam p (fun x => { x with ccSlot := none, ccAt := s.now })

/-- A write of CAM_P_CC_CTRL, never locked: LEN, the W1C bits, and SEND, which is dropped while BUSY; a timed write that is due goes
first (R292). -/
def State.ccWrite (s : State) (p : Nat) (data : Word) : State :=
  let a := Reg.CAM_P_CC_CTRL.AT p
  let busy := s.flag (Reg.CAM_P_CC_CTRL.BUSY p)
  let s := s.hostSet a false data
  if !wbit data 14 then s
  else if busy then s.put (Reg.CAM_P_STS.CFG_ERR p) 1
  else match (s.cam p).sets.find? (fun e => s.get Reg.ERR_STS.SHED ≠ 3 && s.writesWait p e.1 e.2) with
    | some e => (s.sendWrite p e.1).put (Reg.CAM_P_STS.CFG_ERR p) 1
    | none => s.ccSend p

def execSend (slot port : Nat) (data : Word) (s : State) : Host.Outcome State Fault Refusal :=
  .next (if 8 ≤ port then s else s.ownerWrite slot (Reg.CAM_P_CC_CTRL.AT port) (·.ccWrite port data))

/-- Bytes as consecutive words of a buffer. -/
def wordsOf (bytes : List Byte) (n : Nat) : List Nat := (List.range n).map (fun i => leAt bytes (4 * i) 4)

/-- An acknowledge arrives (R262): of a host transaction, into the RX buffer; of a timed write, for its set (R272). `ok` says that
the camera did not refuse. -/
def execStCamCcDone (port : Nat) (bytes : List Byte) (ok : Bool) (s : State) : Host.Outcome State Fault Refusal :=
  .next (if 8 ≤ port || !s.flag (Reg.CAM_P_CC_CTRL.BUSY port) then s
    else match (s.cam port).ccSlot with
      | some slot => (if ok then s.setAcked port slot else s.setFails port slot).ccNext port (some slot)
      | none =>
        let b := bytes.take 1024
        let s := s.setWords (Reg.CAM_P_RXBUF.VAL port 0).addr (wordsOf b (ceilDiv b.length 4))
        let s := (s.put (Reg.CAM_P_CC_CTRL.RXLEN port) b.length).put (Reg.CAM_P_CC_CTRL.DONE port) 1
        (s.post (ev Code.ST_CAM_CC_DONE (srcCP port))).ccNext port none)

/-- 200 ms pass without an acknowledge (R262). -/
def execStCamCcTimeout (port : Nat) (s : State) : Host.Outcome State Fault Refusal :=
  .next (if 8 ≤ port || !s.flag (Reg.CAM_P_CC_CTRL.BUSY port) || s.now < (s.cam port).ccAt + 800000000 then s
    else match (s.cam port).ccSlot with
      | some slot => (s.setFails port slot).ccNext port (some slot)
      | none => ((s.put (Reg.CAM_P_CC_CTRL.TIMEOUT port) 1).post (ev Code.ST_CAM_CC_TIMEOUT (srcCP port))).ccNext port none)

/-- An event packet arrives (R263). -/
def execStCamEvent (port : Nat) (bytes : List Byte) (s : State) : Host.Outcome State Fault Refusal :=
  .next (if 8 ≤ port || s.camState port ≠ 2 || 256 < bytes.length then s
    else if 4 ≤ s.get (Reg.CAM_P_EVT.COUNT port) then s.put (Reg.CAM_P_EVT.OVF port) 1
    else
      let i := s.get (Reg.CAM_P_EVT.HEAD port)
      let s := s.setWords (Reg.CAM_P_EVBUF.VAL port (64 * i)).addr (wordsOf bytes (ceilDiv bytes.length 4))
      let s := (s.put (Reg.CAM_P_EVT.HEAD port) (i + 1)).count (Reg.CAM_P_EVT.COUNT port)
      s.post (ev Code.ST_CAM_EVENT (srcCP port)))

/-! ### Triggers and lines (R265 to R269) -/

/-- Whether a published trigger is skipped (R266, R267). -/
def State.skipsTrigger (s : State) (p : Nat) (t : Trigger) : Bool :=
  let close : Bool := match (s.cam p).lastTrig with
    | some l => decide (t.t < l + s.get (Reg.CAM_P_TRIG_MIN.TRIG_MIN p))
    | none => false
  t.supp || close || t.t < t.tk + 1000 || s.upRate p ≠ 4167 || !s.flag (Reg.CAM_P_CTRL.TRIG_EN p)

/-- A trigger is sent at its time, or skipped; the sets whose line it is take effect. -/
def State.cameraTrigger (s : State) (p : Nat) (t : Trigger) : State :=
  let l : CamAt := ⟨t.chain, t.q⟩
  let s := s.setsTake p l
  if s.skipsTrigger p t then
    let s := (s.count (Reg.CAM_P_CNT.CNT p 4)).pmcAdd (472 + p)
    let s := s.setCam p (fun x => { x with trigs := x.trigs.filter (· ≠ t) })
    ((s.openFrame p l).tellOnce p l 0 Code.ST_CAM_TRIG_SKIP).lineAbsent p l
  else
    ((s.send (.trigger p t.t)).count (Reg.CAM_P_CNT.CNT p 3)).setCam p (fun x => { x with
      lastTrig := some t.t, trigs := x.trigs.map (fun y => if y = t then { y with sent := true } else y) })

def execCameraTrigger (port : Nat) (s : State) : Host.Outcome State Fault Refusal :=
  .next (match (s.cam port).trigs.find? (fun t => !t.sent) with
    | none => s
    | some t => if 8 ≤ port || s.now + 8 < t.t then s else s.cameraTrigger port t)

/-- The window of a trigger (R268). -/
def State.inWindow (s : State) (p at_ : Nat) (t : Trigger) : Bool :=
  t.sent && t.t + s.get (Reg.CAM_P_LAT.MIN p) * 1000 ≤ at_ && at_ ≤ t.t + s.get (Reg.CAM_P_LAT.MAX p) * 1000

/-- Whether a port takes a stream (R258, R259): one plain stream, in the format of the table that CAM_P_FMT names. -/
def State.takesStream (s : State) (p : Nat) (x : StreamLine) : Bool :=
  !x.head.region && !x.head.compressed && x.head.stream = 0
    && (x.head.comps = 1 || x.head.comps = 3) && (x.head.bits = 8 || x.head.bits = 10 || x.head.bits = 12)
    && x.head.comps = s.camComps p && x.head.bits = s.camBits p && x.pixels.length = s.get (Reg.CAM_P_FMT.PX p) * x.head.comps

/-- A stream line arrives on a connected port: `at_` is the arrival of its first packet. -/
def State.receiveLine (s : State) (p at_ : Nat) (x : StreamLine) : State :=
  let s := (s.count (Reg.CAM_P_CNT.CNT p 5) x.crcErrors).setCam p (fun c => { c with beats := c.beats + x.head.beats })
  if !s.takesStream p x then s.postLimited (ev Code.ST_CAM_FORMAT (srcCP p)) p 4000000000
  else match (s.cam p).trigs.find? (s.inWindow p at_) with
    | none =>
      let s := (s.count (Reg.CAM_P_CNT.CNT p 2)).pmcAdd (480 + p)
      match (s.cam p).frames.head? with
      | some f => s.tellOnce p ⟨f.chain, 4096 * f.no⟩ 2 Code.ST_CAM_LINE_STRAY
      | none => s.post (ev Code.ST_CAM_LINE_STRAY (srcCP p))
    | some t =>
      let l : CamAt := ⟨t.chain, t.q⟩
      let s := ((s.count (Reg.CAM_P_CNT.CNT p 0)).pmcAdd (352 + p)).put64 (Reg.CAM_P_LINE.PAIR p) t.q
      let s := s.setCam p (fun x => { x with trigs := x.trigs.filter (· ≠ t), lastGot := some l })
      s.lineFate p ⟨l, some x.pixels, x.full⟩

def execCameraLineReceive (port arrival : Nat) (head : StreamHead) (pixels : List Nat) (crcErrors : Nat) (full : Bool) (s : State) :
    Host.Outcome State Fault Refusal :=
  .next (if 8 ≤ port || s.camState port ≠ 2 then s else s.receiveLine port arrival ⟨head, pixels, crcErrors, full⟩)

/-- A trigger's window closes without a line (R268). -/
def execLineWindowClose (port : Nat) (s : State) : Host.Outcome State Fault Refusal :=
  .next (match (s.cam port).trigs.find? (fun t => t.sent) with
    | none => s
    | some t =>
      if 8 ≤ port || s.now ≤ t.t + s.get (Reg.CAM_P_LAT.MAX port) * 1000 then s
      else
        let l : CamAt := ⟨t.chain, t.q⟩
        let s := s.setCam port (fun x => { x with trigs := x.trigs.filter (· ≠ t) })
        ((s.openFrame port l).tellOnce port l 1 Code.ST_CAM_LINE_MISSING).lineAbsent port l)

/-! ### Descriptors (R271, R288 to R291) -/

/-- Whether a capture body's fields lie in the ranges of the table "Capture descriptor body". -/
def State.capFits (s : State) (d : Desc) : Bool :=
  let p := d.capPort
  let op := d.capOp
  let lines := op = 1 || op = 4
  1 ≤ op && op ≤ 4 && (op = 2 || p < 8)
    && (!lines || (d.capTap ≤ 7 && d.capX0 + d.capXn ≤ s.get (Reg.CAM_P_FMT.PX p)))
    && (op ≠ 1 || (1 ≤ d.capDecim && d.capDecim ≤ 4096 && (d.capTap < 6 || d.capSlot < 16)))
    && (op ≠ 4 || d.capTap < 6) && ((op ≠ 3 && op ≠ 4) || d.capSlot < 4)

/-- The chain line of a body's job line (R289); none while no accepted job of that number has its place. -/
def State.capChainLine (s : State) (d : Desc) : Option (Nat × Nat) :=
  match s.job.jobs.find? (fun j => j.id = d.capJob) with
  | some j => if j.z < farLine then some (j.chain, j.z + d.capLine) else none
  | none => none

/-- The head descriptor of a camera capture ring with one of the operations `ops`. -/
def State.capHead (s : State) (r : Nat) (ops : Nat → Bool) : Option Desc :=
  if s.ringType r ≠ 2 then none else (s.headDesc r).filter (fun d => ops d.capOp)

/-- A CAPTURE starts, and so does, in order to be refused, a body whose OP names nothing. -/
def State.startCapture (s : State) (r : Nat) (d : Desc) : State :=
  let p := d.capPort
  if !s.capFits d then (s.markStarted r d.index).complete r d.index Code.ST_DESC_FORMAT
  else if !s.flag (Reg.CAM_P_CTRL.EN p) then (s.markStarted r d.index).complete r d.index Code.ST_CAM_DOWN
  else match s.capChainLine d with
    | none => s
    | some (c, m) =>
      let first : CamAt := ⟨c, m / s.lineGroup⟩
      let s := s.markStarted r d.index
      let late : Bool := match (s.cam p).lastGot with
        | some g => first.le g
        | none => false
      if d.capLen < d.capLines * d.capStride (s.camComps p) then s.complete r d.index Code.ST_CAP_SHORT
      else if late then s.complete r d.index Code.ST_CAP_LATE
      else if d.capLines = 0 then s.complete r d.index Code.ST_OK
      else s.setIns (fun i => { i with caps := i.caps ++ [⟨r, d.index, p, first, 0, false⟩] })

def execCapture (ring : Nat) (s : State) : Host.Outcome State Fault Refusal :=
  .next (match s.capHead ring (fun op => op = 1 || op = 0 || 5 ≤ op) with
    | none => s
    | some d => s.startCapture ring d)

def execStats (ring : Nat) (s : State) : Host.Outcome State Fault Refusal :=
  .next (match s.capHead ring (· = 2) with
    | none => s
    | some d =>
      let s := s.markStarted ring d.index
      if d.capLen < 64 * d.capLines then s.complete ring d.index Code.ST_CAP_SHORT
      else if d.capLines = 0 then s.complete ring d.index Code.ST_OK
      else s.setIns (fun i => { i with stats := i.stats ++ [(ring, d.index, 0)] }))

/-- Service firmware writes the oldest statistics record into the oldest STATS buffer (R288); under load it sheds it (R524). -/
def State.writeStat (s : State) (x : StatRec) (r index n : Nat) (d : Desc) : State :=
  let late := decide (x.at_ + 40000000 < s.now)
  let flags := byteAt x.bytes 3 + late.toNat
  let bytes := updateAt x.bytes 3 (fun _ => BitVec.ofNat 8 flags)
  let s := s.send (.hostWrite (s.ringPort r) (d.capAddr + 64 * n) bytes)
  let s := s.setIns (fun i => { i with recs := i.recs.drop 1 })
  if d.capLines ≤ n + 1 then
    (s.setIns (fun i => { i with stats := i.stats.drop 1 })).complete r index Code.ST_OK
  else s.setIns (fun i => { i with stats := (r, index, n + 1) :: i.stats.drop 1 })

def execStatsRecordWrite (s : State) : Host.Outcome State Fault Refusal :=
  .next (match s.ins.recs.head?, s.ins.stats.head? with
    | none, _ => s
    | some x, st =>
      if 1 ≤ s.get Reg.ERR_STS.SHED then (s.setIns (fun i => { i with recs := i.recs.drop 1 })).pmcAdd 433
      else match st with
        | none => s
        | some (r, index, n) =>
          match (s.ring r).flight.find? (·.index = index) with
          | none => s.setIns (fun i => { i with stats := i.stats.drop 1 })
          | some d => s.writeStat x r index n d)

/-- Whether a slot is active or pending (R271); the active slot of a port that has had no set holds none. -/
def State.slotBusy (s : State) (p slot : Nat) : Bool :=
  bit (s.get (Reg.CAM_P_SET.PENDING p)) slot || ((s.cam p).acts.head?.map (·.2)) = some slot

/-- A SETLOAD with the set's bytes as read from the host buffer (R271, R272). -/
def State.setload (s : State) (r : Nat) (d : Desc) (bytes : List Byte) : State :=
  let p := d.capPort
  let n := d.capSlot
  if !s.capFits d then (s.markStarted r d.index).complete r d.index Code.ST_DESC_FORMAT
  else match s.capChainLine d with
    | none => s
    | some (c, m) =>
      let s := s.markStarted r d.index
      let b := bytes.take d.capLen
      if !setFits b (s.get (Reg.CAM_P_FMT.PX p)) (s.camComps p) || s.slotBusy p n then s.complete r d.index Code.ST_CAM_SET_BAD
      else
        let x : CamSet := ⟨b.take (setLen b), ⟨c, ceilDiv m s.lineGroup⟩, true, none, 0, 0, none, false⟩
        let s := s.setCam p (fun y => { y with sets := Sparse.insert n x y.sets })
        let s := s.put (Reg.CAM_P_SET.VALID p) (setBits (s.get (Reg.CAM_P_SET.VALID p)) n 1 1)
        (s.showSets p).complete r d.index Code.ST_OK

def execSetload (ring : Nat) (bytes : List Byte) (s : State) : Host.Outcome State Fault Refusal :=
  .next (match s.capHead ring (· = 3) with
    | none => s
    | some d => s.setload ring d bytes)

/-- The captured raw lines of a REPLAY buffer: each line's place, header and components. -/
def replayLine (b : List Byte) (stride comps xn i : Nat) : CamLine :=
  let o := i * stride
  let gone := bit (byteAt b (o + 8)) 0 || bit (byteAt b (o + 8)) 2
  ⟨⟨0, leAt b o 8⟩, if gone then none else some ((List.range (xn * comps)).map (fun j => leAt b (o + 16 + 2 * j) 2)), false⟩

/-- A REPLAY with the buffer's bytes (R290): on a set that SLOT holds, its lines go to the memory path. -/
def State.replayDesc (s : State) (r : Nat) (d : Desc) (bytes : List Byte) : State :=
  let p := d.capPort
  let s := s.markStarted r d.index
  if !s.capFits d then s.complete r d.index Code.ST_DESC_FORMAT
  else if d.capLen < d.capLines * d.capStride (s.camComps p) then s.complete r d.index Code.ST_CAP_SHORT
  else if d.capLines = 0 then s.complete r d.index Code.ST_OK
  else match (if bit (s.get (Reg.CAM_P_SET.VALID p)) d.capSlot then (s.cam p).sets.lookup d.capSlot else none) with
    | none => s.complete r d.index Code.ST_CAM_SET_BAD
    | some x => s.setIns (fun i => { i with replays := i.replays ++ [⟨r, d.index, x.bytes, bytes, 0, none⟩] })

/-- The lines of a REPLAY's buffer: one captured raw line through the stages with the set, its values written back in place. -/
def State.replayOut (s : State) (x : Replay) (d : Desc) : State :=
  let st := s.stream d.capPort
  let stride := d.capStride st.comps
  let lines := (List.range d.capLines).map (replayLine x.bytes stride st.comps d.capXn)
  match lines[x.next]? with
  | none => s
  | some l =>
    let raw : RawAt := fun dq q c =>
      let want : Int := l.at_.q + dq
      let src := if dq = 0 then some l else lines.find? (fun y => decide ((y.at_.q : Int) = want))
      if q < d.capX0 then none else (src.bind (·.px)).map (fun px => px.getD ((q - d.capX0) * st.comps + c) 0)
    let px := (List.range d.capXn).flatMap (fun j =>
      let q := d.capX0 + j
      if d.capTap = 0 then (List.range st.comps).map (fun c => ((raw 0 q c).getD 0 : Int))
      else stage st x.set raw (min d.capTap 4) q)
    if l.px.isNone then s
    else s.send (.hostWrite (s.ringPort x.ring) (d.capAddr + x.next * stride + 16) (px.flatMap (fun v => leBytes 2 (unsigned 16 v))))

/-- The memory path's capacity in pixels per second (R276): what the in-line lines of the ports that take triggers leave of 16 Gpx/s,
and RESERVE at least. -/
def State.memRate (s : State) : Nat :=
  let busy := ((List.range 8).filter (fun p => s.camState p = 2 && s.flag (Reg.CAM_P_CTRL.TRIG_EN p))).map s.camDemand
  let left : Rat := ((16000000000 : Nat) : Rat) - busy.sum
  max (s.get Reg.INS_MEMPATH.RESERVE * 1000000) (divOpen left.num left.den).toNat

/-- One REPLAY line at most on the memory path, at its capacity: a line waits while there is none (R276). -/
def State.memPath (s : State) : State :=
  match s.ins.replays with
  | [] => s
  | x :: rest =>
    match (s.ring x.ring).flight.find? (·.index = x.index) with
    | none => s.setIns ({ · with replays := rest })
    | some d =>
      match x.doneAt with
      | none =>
        if s.memRate = 0 then s
        else s.setIns ({ · with replays := { x with doneAt := some (s.now + ceilDiv (d.capXn * 4000000000) s.memRate) } :: rest })
      | some t =>
        if s.now < t then s
        else
          let s := s.replayOut x d
          if d.capLines ≤ x.next + 1 then (s.setIns ({ · with replays := rest })).complete x.ring x.index Code.ST_OK
          else s.setIns ({ · with replays := { x with next := x.next + 1, doneAt := none } :: rest })

def execReplay (ring : Nat) (bytes : List Byte) (s : State) : Host.Outcome State Fault Refusal :=
  .next (match s.capHead ring (· = 4) with
    | none => s
    | some d => s.replayDesc ring d bytes)

/-- Service firmware sends a pending set's camera writes; under load it holds them (R524), and while a transaction is outstanding they
wait for its end (R262). -/
def execSetCameraWrites (port slot : Nat) (s : State) : Host.Outcome State Fault Refusal :=
  .next (match (s.cam port).sets.lookup slot with
    | none => s
    | some x =>
      if 8 ≤ port || !s.writesWait port slot x then s
      else if s.get Reg.ERR_STS.SHED = 3 then s.pmcAdd 435
      else if s.flag (Reg.CAM_P_CC_CTRL.BUSY port) then s.setCam port (fun y => { y with waiting := y.waiting ++ [slot] })
      else s.sendWrite port slot)

end Sys2Proof.Machine
end

