-- ==== Sys2Proof/Machine/Packets.lean ====
section
/-! DEFINITION. Line packets (R202, R203), the tap bank of a line (R210), and the Duet's gate (R328). -/

namespace Sys2Proof.Machine

/-! ### The tap bank of a line (R210) -/

/-- Whether a tap change applies to a line of its row. -/
def TapChange.at_ (t : TapChange) (r c m : Nat) : Bool := t.row = r && (t.chain < c || (t.chain = c && t.line ≤ m))

/-- TBANK after the changes that apply to a line: a load takes the bank it was sent to, and one still to be sent takes the other. -/
def State.tbankAt (s : State) (p r c m : Nat) : Nat :=
  let x := s.port p
  (x.taps.filter (·.at_ r c m)).foldl (fun b t => if t.sent || t.again then t.bank else 1 - b) ((x.tbank.lookup r).getD 0)

/-- Whether a line waits for the ACK of a load. -/
def State.tapWaits (s : State) (p r c m : Nat) : Bool := (s.port p).taps.any (fun t => t.at_ r c m && !t.acked)

/-! ### The packet (R201 to R204) -/

/-- The blocks of a bit string of `n` bits, 64 bits to a block, the first lowest. -/
def blocksOf (n x : Nat) : List Nat := (List.range (ceilDiv n 64)).map (fun k => x / 2 ^ (64 * k) % 2 ^ 64)

/-- Words of `w` bits side by side, the first lowest. -/
def packWords (w : Nat) (l : List Nat) : Nat := l.foldr (fun x acc => x % 2 ^ w + 2 ^ w * acc) 0

/-- The fire words of a complete line, of the row's populated columns. -/
def State.lineWords (s : State) (l : PLine) : List Nat := (l.blocks.flatMap (fun b => b.words.getD [])).take (s.rowCols l.row)

/-- SENSE of a line (R204). -/
def State.senseBit (s : State) (p m : Nat) : Nat :=
  let d := s.get (Reg.HP_CFG.SENSE_DIV p)
  if d ≠ 0 && m % 2 ^ (d - 1) = 0 then 1 else 0

/-- The DATA blocks of a line packet: H0, H1 and the payload. -/
def State.lineBlocksOut (s : State) (l : PLine) : List Nat :=
  let p := l.row / 16
  let ws := s.lineWords l
  let h0 := lineSeq l.row l.line + l.row % 16 * 2 ^ 32 + ws.length * 2 ^ 36 + l.wave * 2 ^ 48
    + s.tbankAt p (l.row % 16) l.chain l.line * 2 ^ 52 + s.senseBit p l.line * 2 ^ 53
  h0 :: l.tf :: blocksOf (10 * ws.length) (packWords 10 ws)

/-- TXT in tenths of mt, for a packet of `n` DATA blocks (R209). -/
def State.txt10 (s : State) (p n : Nat) : Nat := (ceilDiv (n + 2) 2 + 4) * blockTime10 (s.port p).rate

/-- Whether a packet of `n` DATA blocks that starts at a moment, in 1/100 mt, meets R209. -/
def State.canStartAt (s : State) (p n t tf : Nat) : Bool :=
  t * 256 + 1000 * 25600 + s.txt10 p n * 2560 + s.get (Reg.HP_DELAY.DDOWN p) * 100 ≤ tf * 25600

/-- Whether one that starts now does. -/
def State.canStart (s : State) (p n tf : Nat) : Bool := s.canStartAt p n (s.now * 100) tf

/-! ### Digests and the gate (R328) -/

/-- A complete line's digest (R328). -/
def State.tellDigest (s : State) (row line : Nat) : State :=
  match s.job.lines.find? (fun l => l.row = row && l.line = line) with
  | none => s
  | some l => if l.incomplete || s.get Reg.DUE_STS.ROLE ≠ 1 then s
    else s.digest row line (packetCrc 1 (s.lineBlocksOut l)) false

/-- What the gate says of a complete line. -/
inductive Gate where
  | pass | unverified | wait | mismatch
  deriving DecidableEq, Repr

def State.gate (s : State) (l : PLine) : Gate :=
  if s.get Reg.DUE_STS.ROLE ≠ 2 then .pass
  else match s.due.digests.find? (fun d => d.port = l.row / 16 && d.seq = lineSeq l.row l.line) with
    | some d =>
      if d.nosend || d.crc = packetCrc 1 (s.lineBlocksOut l) then .pass else .mismatch
    | none =>
      let silent : Bool := match s.due.lastDigest with
        | some t => decide (t + 80000 ≤ s.now)
        | none => true
      if silent then .unverified else .wait

/-- A mismatching line is withheld and counted; sixteen in 1 s make the standby DETACHED (R328). -/
def State.gateMismatch (s : State) (l : PLine) : State :=
  let s := ((s.put Reg.DUE_EVT.MISMATCH 1).count (Reg.DUE_CNT.CNT 2)).pmcAdd 408
  let s := s.postLimited (ev Code.ST_DUE_MISMATCH srcDUE none l.line (dataRowOf l.row l.bar)) 0 4000000
  let recent := s.now :: s.due.mismatches.filter (fun t => s.now < t + 4000000000)
  let s := s.setDue ({ · with mismatches := recent.take 16 })
  let s := s.lineLate l Code.ST_DUE_MISMATCH (srcHP (l.row / 16))
  s.when (16 ≤ recent.length) State.detach

/-! ### Sending (R208 to R211, R221) -/

/-- A line that R209 refuses, or that the port may not send: why, and what counts it. -/
def State.refuseLine (s : State) (l : PLine) : State :=
  let p := l.row / 16
  let late := fun (s : State) (cause : Nat) => s.lineLate l cause (srcHP p)
  if s.get Reg.DUE_STS.ROLE = 4 then late s Code.ST_DUE_DETACHED
  else if !s.portUp p then late s Code.ST_HP_LINK_DOWN
  else if (s.port p).fatal then late s Code.ST_HP_HEAD_FAULT
  else if (s.port p).changed then late s Code.ST_HP_HEAD_CHANGED
  else if s.tapWaits p (l.row % 16) l.chain l.line then
    late (s.put (Reg.HP_LINK_EVT.TAP_LATE p) 1) Code.ST_HP_TAP_LATE
  else if s.gate l = .wait then
    late (((s.drawn).count (Reg.DUE_CNT.CNT 4)).pmcAdd 410) (s.open_ 16)
  else late ((s.put (Reg.HP_LINK_EVT.TX_LATE p) 1).count (Reg.HP_CNT.CNT p 2)) Code.ST_HP_TX_LATE

/-- Whether a complete line's WAVE comes too soon after the row's previous sent line (R211). -/
def State.waveTooSoon (s : State) (l : PLine) : Bool :=
  match (s.port (l.row / 16)).lastSent.find? (fun x => x.row = l.row % 16) with
  | some x => x.wave ≠ l.wave && l.tf < x.tf + 8400000
  | none => false

/-- Whether 16 lines of the row sent on this link still wait in the head (R208). -/
def State.headFull (s : State) (l : PLine) : Bool :=
  16 ≤ ((s.port (l.row / 16)).inHead.filter (fun x => x.1 = l.row % 16 && s.now < x.2.1)).length

/-- Whether a port may start a line, but for R209 and what is on its link. -/
def State.mayStart (s : State) (l : PLine) : Bool :=
  let p := l.row / 16
  s.get Reg.DUE_STS.ROLE ≠ 4 && s.portUp p && !(s.port p).fatal && !(s.port p).changed
    && !s.tapWaits p (l.row % 16) l.chain l.line && !s.headFull l && (s.gate l = .pass || s.gate l = .unverified)

/-- VOL of a level for a bar (R277). -/
def State.vol (s : State) (b level : Nat) : Nat :=
  if level = 0 then 0 else s.get64 (Reg.INS_BAR_VOL.PAIR b) / 256 ^ (level - 1) % 256

/-- The lines by which a nozzle's drops land beyond their own: its YOFF (R149), as R302 measures it in lines. DEDUCED. -/
def State.landing (s : State) (gn c m : Nat) : Int :=
  let per := s.get Reg.CAL_YSCALE.SCALE * ((s.chain? c).map Chain.refPitch).getD 0
  if per = 0 then 0 else ratRound ((s.steppedAt gn 8 c m eYoff * 2 ^ 48 : Int) / (per : Nat) : Rat)

/-- Whether two taps are of one column and camera line. -/
def Vol.same (a b : Vol) : Bool := a.chain = b.chain && a.q = b.q && a.gn = b.gn

/-- The tap of R277 on one word of a sent line, at its row's column `x.2`: the column's volume at the camera line its drop lands on. -/
def State.tapWord (s : State) (l : PLine) (acc : List Vol) (x : Nat × Nat) : List Vol :=
  let gn := rowGn l.row + x.2
  let level := x.1 % 8
  let at_ := ((l.line : Int) + s.landing gn l.chain l.line).fdiv s.lineGroup
  let new : Vol := ⟨l.chain, at_.toNat, columnGn gn, l.bar, s.vol l.bar level, if l.row % 2 = 0 then 1 else -1⟩
  if level = 0 || at_ < 0 then acc
  else if acc.any new.same then
    acc.map (fun e => if e.same new then { e with sum := e.sum + new.sum, side := e.side + new.side } else e)
  else acc ++ [new]

/-- The tap of R277 on a sent packet, in a ring of DEPTH_b camera lines (R278). -/
def State.tapVolumes (s : State) (l : PLine) (ws : List Nat) : State :=
  let b := l.bar
  if !s.flag (Reg.INS_BAR_CFG.EN b) || !s.ins.active.contains l.chain then s
  else
    let depth := ceilDiv (s.get (Reg.INS_BAR_DIST.VAL b)) s.lineGroup + 4160
    let old := fun (e : Vol) => e.chain = l.chain && e.bar = b && e.q + depth ≤ l.line / s.lineGroup
    { s with ins := { s.ins with vols := ws.zipIdx.foldl (s.tapWord l) (s.ins.vols.filter (fun e => !old e)) } }

/-- What the port keeps of a line it sends: the bank in use, the row's last sent line, and the line in the head's buffer. -/
def State.noteSent (s : State) (l : PLine) : State :=
  let p := l.row / 16
  let r := l.row % 16
  let bank := s.tbankAt p r l.chain l.line
  let asked := s.senseBit p l.line = 1
  s.setPort p (fun x => { x with
    sensed := (if asked then [⟨r, lineSeq l.row l.line, l.chain, l.line, l.tf⟩] else [])
      ++ x.sensed.filter (fun y => s.now < y.tf + 400000),
    onLink := some (l, x.tx.freeAt),
    tbank := Sparse.insert r bank x.tbank,
    taps := x.taps.filter (fun t => !t.at_ r l.chain l.line),
    lastSent := ⟨r, l.tf, l.wave⟩ :: x.lastSent.filter (fun y => y.row ≠ r),
    inHead := (r, l.tf, bank) :: x.inHead.filter (fun y => s.now < y.2.1 + 1000) })

/-- A complete line goes out (R200, R208). -/
def State.sendLine (s : State) (l : PLine) : State :=
  let p := l.row / 16
  let blind := s.gate l = .unverified
  let ws := s.lineWords l
  let s := s.sendBlocks p (packet 1 (s.lineBlocksOut l))
  let s := s.when blind (fun s => (s.count (Reg.DUE_CNT.CNT 3)).pmcAdd 409)
  let s := ((s.noteSent l).tapVolumes l ws).dropLine l.chain l.row l.line
  let s := s.rowClean l.row l.bar l.line
  (s.count (Reg.HP_CNT.CNT p 0)).pmcAdd (128 + p)

/-- The first waiting line of each row of a port. -/
def State.rowHeads (s : State) (p : Nat) : List PLine :=
  (List.range 16).filterMap (fun r => s.job.lines.find? (fun l => l.row = 16 * p + r))

/-- The line with the earliest fire time, the lower row first. -/
def earliest (ls : List PLine) : Option PLine :=
  ls.foldl (fun acc l => match acc with
    | none => some l
    | some b => if l.tf < b.tf || (l.tf = b.tf && l.row < b.row) then some l else acc) none

/-- The DATA blocks of a row's line packet (R202, R203). -/
def State.lineLen (s : State) (k : Nat) : Nat := 2 + ceilDiv (10 * s.rowCols k) 64

/-- Whether a line is past its last moment to start (R209). -/
def State.pastStart (s : State) (l : PLine) : Bool := !s.canStart (l.row / 16) (s.lineLen l.row) l.tf

/-- The complete first lines of a port's rows that may go out: neither past their last moment nor stopped by the gate or their waveform. -/
def State.eligible (s : State) (p : Nat) : List PLine :=
  (s.rowHeads p).filter (fun l => !l.incomplete && !s.pastStart l && s.gate l ≠ .mismatch && !s.waveTooSoon l && s.mayStart l)

/-- Whether the first head-control packet that waits may go (R208): no line packet is eligible, and after it every complete line packet
can still meet R209. -/
def State.hctlMay (s : State) (p : Nat) : Bool :=
  let n := ((s.port p).hctl.headD []).length
  let t := s.txStart p + (ceilDiv (n + 2) 2 + 4) * s.blockTime p
  s.dataMode p && s.eligible p = [] && (s.job.lines.filter (fun l => l.row / 16 = p && !l.incomplete && !s.pastStart l)).all
    (fun l => s.canStartAt p (s.lineLen l.row) t l.tf)

/-- The head-control packets that wait go out, in order, as far as they may; `n` bounds them. -/
def State.hctlDrain (p : Nat) : Nat → State → State
  | 0, s => s
  | n + 1, s => if (s.port p).hctl = [] || !s.hctlMay p then s else State.hctlDrain p n (s.sendHctl p)

def State.headDrain (p : Nat) (s : State) : State := State.hctlDrain p (s.port p).hctl.length s

/-- One turn of a port: of the complete first lines of its rows, those that can no longer start are late, those the gate or
their waveform stops are withheld, and the earliest of the rest that may start is sent once the link is free; where there is none,
head control goes (R208). -/
def State.sendTurn (s : State) (p : Nat) : State :=
  let whole := (s.rowHeads p).filter (fun l => !l.incomplete)
  let past := whole.filter s.pastStart
  let rest := whole.filter (fun l => !s.pastStart l)
  let bad := rest.filter (fun l => s.gate l = .mismatch)
  let soon := rest.filter (fun l => s.gate l ≠ .mismatch && s.waveTooSoon l)
  let free := s.eligible p
  let s := s.each past (fun l s => s.refuseLine l)
  let s := s.each bad (fun l s => s.gateMismatch l)
  let s := s.each soon (fun l s => s.lineLate l Code.ST_RAMP_LATE (srcHP p))
  match earliest free with
  | some l => if s.txBusy p then s else s.sendLine l
  | none => s.headDrain p

def execLinePacketSend (port : Nat) (s : State) : Host.Outcome State Fault Refusal :=
  .next ((s.sendTurn port).freeShadow.pagesDone)

end Sys2Proof.Machine
end

