-- ==== Sys2Proof/Machine/StarmapCmds.lean ====
section
/-! DEFINITION. The commands of the Starmap store (chapter 05): update records, their delivery, loads, saves and the peek. -/

namespace Sys2Proof.Machine

/-! ### Update records (R153, R154, R172) -/

/-- The update record in bytes 16 to 63 of a descriptor (R153). -/
def Desc.smpReq (d : Desc) : SmpReq :=
  let t := d.at_ 28 4
  { line := d.at_ 16 8, ramp := d.at_ 24 2, mask := d.at_ 26 2, gn := bits t 0 22, src := bits t 22 3,
    vals := (List.range 8).map (fun i => d.at_ (32 + 4 * i) 4) }

/-- A host record that is misdirected in itself: sent to a standby, with a SRC of no source, marked as a copy, or with a reserved
bit of TARGET set. -/
def State.smpMisdirected (s : State) (d : Desc) : Bool :=
  s.get Reg.DUE_STS.ROLE = 2 || 4 ≤ d.smpReq.src || d.at_ 28 4 / 2 ^ 25 ≠ 0

/-- A host's update record at the head of a calibration ring (R153, R154, R172). -/
def execSmpUpdate (ring : Nat) (s : State) : Host.Outcome State Fault Refusal :=
  .next (match s.headDesc ring with
    | none => s
    | some d =>
      if s.ringType ring ≠ 5 || d.kind ≠ 3 then s
      else
        let s := s.markStarted ring d.index
        if s.smpMisdirected d then
          (((s.count Reg.SMP_UPD_REF.CNT).pmcAdd 385)).complete ring d.index Code.ST_SMP_UPD_FORMAT
        else
          let (code, s) := s.smpSubmit d.smpReq
          s.calWatch.complete ring d.index (code.getD Code.ST_OK))

/-- A record is in every engine that needs it (R157). -/
def execRecordDelivery (seq : Nat) (s : State) : Host.Outcome State Fault Refusal :=
  .next (
    let s := s.setSmp (fun m => { m with recs := m.recs.map (fun r => if r.seq = seq then { r with delivered := true } else r) })
    State.applyNext s.cal.apply.length s)

/-! ### Loading and saving (R169, R170) -/

/-- The bytes of one port's part of the image. -/
def portImage : Nat := 786432

/-- A GO of SMP_XFER_CTRL by a slot (R169, R170). DESIGN CHOICE: a save that the mode does not permit reads RESULT MODE as a load does,
and posts nothing. -/
def State.xferGo (s : State) (slot : Nat) : State :=
  let first := s.get Reg.SMP_XFER_CTRL.FIRST_HP
  let n := s.get Reg.SMP_XFER_CTRL.COUNT
  let save := s.flag Reg.SMP_XFER_CTRL.DIR
  if s.smp.xfer.isSome then s
  else if n = 0 || 96 < first + n then s.put Reg.SMP_STS.CFG_ERR 1
  else
    let allowed := if save then s.modeIn 3 9 else (s.mode = 3 || s.mode = 4) && s.get Reg.JOB_STS.CHAINS = 0
    if !allowed then
      (s.put Reg.SMP_XFER_CTRL.RESULT 1).when (!save) (·.post (ev Code.ST_SMP_LOAD_BAD srcSMP))
    else
      let s := s.setSmp ({ · with xfer := some (first, n, save, slot) })
      let s := (s.put Reg.SMP_XFER_CTRL.BUSY 1).put Reg.SMP_STS.XFER_BUSY 1
      s.when (!save) (·.send (.hostRead slot (s.get64 Reg.SMP_XFER_HADDR.PAIR) (n * portImage)))

/-- A write of SMP_XFER_CTRL. -/
def State.xferWrite (s : State) (slot : Nat) (data : Word) : State :=
  s.trigger slot Reg.SMP_XFER_CTRL.AT data 17 (·.xferGo slot)

/-- The word that starts a transfer of `count` ports from `first` on. -/
def xferWord (dir first count : Nat) : Word := BitVec.ofNat 32 (first % 128 + count % 128 * 2 ^ 8 + dir * 2 ^ 16 + 2 ^ 17)

def execSmpLoad (slot first count : Nat) (s : State) : Host.Outcome State Fault Refusal :=
  .next (s.ownerWrite slot Reg.SMP_XFER_CTRL.AT (·.xferWrite slot (xferWord 0 first count)))

def execSmpSave (slot first count : Nat) (s : State) : Host.Outcome State Fault Refusal :=
  .next (s.ownerWrite slot Reg.SMP_XFER_CTRL.AT (·.xferWrite slot (xferWord 1 first count)))

/-- A nozzle's entry in the bytes of a load that starts at nozzle `g0`. -/
def loadEntry (bytes : List Byte) (g0 gn : Nat) : List Nat := (List.range 8).map (fun i => leAt bytes ((gn - g0) * 32 + 4 * i) 4)

/-- What two entries of a column may not be together (R150, R151): two working nozzles, or nozzles that do not name each other alike. -/
def pairBad (gn : Nat) (w : List Nat) (og : Nat) (o : List Nat) : Bool :=
  (eRole w = 0 && eState w ≠ 7 && eRole o = 0 && eState o ≠ 7)
    || ((ePartner w = og : Bool) != (ePartner o = gn : Bool)) || (ePartner w = og && eRole w = eRole o)

/-- Whether a populated nozzle's loaded entry breaks R148, R150 or R151: in itself, or with the other nozzle of its column. -/
def State.loadBad (s : State) (bytes : List Byte) (g0 gn : Nat) : Bool :=
  let w := loadEntry bytes g0 gn
  let og := otherNozzle gn
  bit (ew w 0) 31 || bit (ew w 1) 15 || 20000000 < eXpos w || !stateFits w
    || (ePartner w ≠ noPartner && (ePartner w ≠ og || !s.populated og || eState w = 7))
    || (s.populated og && pairBad gn w og (loadEntry bytes g0 og))

/-- The first failing nozzle of a load. -/
def State.loadFails (s : State) (bytes : List Byte) (first n : Nat) : Option Nat :=
  ((List.range (n * 24576)).map (first * 24576 + ·)).find? (fun gn => s.populated gn && s.loadBad bytes (first * 24576) gn)

/-- The counts of a port's columns (R176): spares and uncovered. -/
def State.portCounts (s : State) (p : Nat) : Nat × Nat :=
  (List.range 12288).foldl (fun (acc : Nat × Nat) i =>
    let g := p * 24576 + i / 1536 * 3072 + i % 1536
    let c := columnCounts g (s.entry? g) (s.entry? (g + 1536))
    (acc.1 + c.1, acc.2 + c.2)) (0, 0)

/-- How many populated nozzles of a port are in a state. -/
def State.stateCount (s : State) (p st : Nat) : Nat :=
  ((List.range 24576).filter (fun i => s.populated (p * 24576 + i) && eState (s.entry (p * 24576 + i)) = st)).length

/-- A nozzle state's count after a port's entries, or its populated columns, went from `old`'s to `s`'s (R176). A port that had not been
loaded was not counted. -/
def State.recounted (old s : State) (p st : Nat) : Nat :=
  s.get (Reg.SMP_STATE_CNT.CNT st) + s.stateCount p st - (if old.smp.loaded.contains p then old.stateCount p st else 0)

/-- The counts follow a load of a port, and its populated columns (R176, R560). -/
def State.recountPort (old : State) (p : Nat) (s : State) : State :=
  if !s.smp.loaded.contains p then s
  else
    let c := s.portCounts p
    let s := (s.put (Reg.SMP_PORT_STS.SPARES p) c.1).put (Reg.SMP_PORT_STS.UNCOVERED p) c.2
    let s := s.each (List.range 8) (fun st s =>
      s.put (Reg.SMP_STATE_CNT.CNT st) (old.recounted s p st))
    s.each (s.portBar p).toList (fun b s => s.showBarGain b)

/-- A load of a port: the counts, the alarm, and its tap tables (R175, R176, R210). -/
def State.portLoaded (old : State) (p : Nat) (s : State) : State :=
  let s := (State.recountPort old p s).spareAlarm p
  s.each ((List.range 16).filter (fun r => s.cols p r ≠ 0)) (fun r s => s.tapChange (16 * p + r) 0 0)

/-- An accepted load (R170): the ports' entries are replaced, and are in force at once; what was pending for them is gone. -/
def State.loadImage (s : State) (bytes : List Byte) (first n : Nat) : State :=
  let old := s
  let lo := first * 24576
  let hi := (first + n) * 24576
  let s := s.dramStore 2 (s.entryAt lo) (bytes.take (n * portImage))
  let gone := fun (r : Rec) => decide (lo ≤ r.gn) && decide (r.gn < hi)
  let s := s.put Reg.SMP_QLEN.LEN (s.get Reg.SMP_QLEN.LEN - (s.smp.recs.filter (fun r => r.pend && r.main && gone r)).length)
  let s := s.setSmp (fun m => { m with
    base := m.base.filter (fun e => e.1 < lo || hi ≤ e.1), recs := m.recs.filter (fun r => !gone r),
    loaded := ((List.range n).map (first + ·) ++ m.loaded).eraseDups })
  (s.put Reg.SMP_STS.IMG_VALID 1).each ((List.range n).map (first + ·)) (State.portLoaded old)

/-- The bytes that a save writes: unpopulated entries read as 0 (R148). -/
def State.saveBytes (s : State) (first n : Nat) : List Byte :=
  (List.range (n * 24576)).flatMap (fun i => (s.entry (first * 24576 + i)).flatMap (leBytes 4))

/-- A transfer ends: `bytes` is what a load has read from the host (R169, R170). -/
def execSmpXferDone (bytes : List Byte) (s : State) : Host.Outcome State Fault Refusal :=
  .next (match s.smp.xfer with
    | none => s
    | some (first, n, save, slot) =>
      let s := s.setSmp ({ · with xfer := none })
      let s := (s.put Reg.SMP_XFER_CTRL.BUSY 0).put Reg.SMP_STS.XFER_BUSY 0
      if save then
        let out := s.saveBytes first n
        let s := s.send (.hostWrite slot (s.get64 Reg.SMP_XFER_HADDR.PAIR) out)
        (s.put Reg.SMP_XFER_CRC.CRC (crc32Bytes out)).put Reg.SMP_XFER_CTRL.RESULT 0
      else if bytes.length ≠ n * portImage || crc32Bytes bytes ≠ s.get Reg.SMP_XFER_CRC.CRC then
        (s.put Reg.SMP_XFER_CTRL.RESULT 2).post (ev Code.ST_SMP_LOAD_BAD srcSMP)
      else match s.loadFails bytes first n with
        | some gn => ((s.put Reg.SMP_XFER_CTRL.RESULT 3).put Reg.SMP_XFER_BADGN.BADGN gn).post (ev Code.ST_SMP_LOAD_BAD srcSMP)
        | none => (s.loadImage bytes first n).put Reg.SMP_XFER_CTRL.RESULT 0)

/-- A write of SMP_PEEK_GN snapshots the target entry (R176). -/
def State.peek (s : State) (slot : Nat) (data : Word) : State :=
  let s := s.writeFields slot Reg.SMP_PEEK_GN.AT data
  let w := s.entry (s.get Reg.SMP_PEEK_GN.GN)
  s.each (List.range 8) (fun i s => s.put (Reg.SMP_PEEK_DATA.WORD i) (ew w i))

def execSmpPeek (slot : Nat) (data : Word) (s : State) : Host.Outcome State Fault Refusal :=
  .next (s.ownerWrite slot Reg.SMP_PEEK_GN.AT (·.peek slot data))

end Sys2Proof.Machine
end

