-- ==== Sys2Proof/Machine/HeadPort.lean ====
section
/-! DEFINITION. The commands of the head ports (chapter 06), but for HEALTH statuses, which feed other units. -/

namespace Sys2Proof.Machine

/-! ### HP_CTRL (R188, R190, R193, R212, R217, R225) -/

/-- A Twilight command that the port refuses (R217). -/
def State.twiRefused (s : State) (p : Nat) : State :=
  (s.put (Reg.HP_LINK_EVT.CFG_ERR p) 1).post (ev Code.ST_HP_TWI_REFUSED (srcHP p) none none (s.dataPort p))

/-- EN takes effect: 1 starts the bring-up, with the transmitter in Twilight while TX_TWI is 1 (R217); 0 holds the port off. -/
def State.hpEnable (p : Nat) (on : Bool) (s : State) : State :=
  if on then
    let twi := s.get (Reg.HP_CTRL.TX_TWI p)
    (((s.put (Reg.HP_LINK_STS.RETRIES p) 0).put (Reg.HP_LINK_STS.TX_TWI p) twi).lanesShow (headLanes p) Reg.L_STS.TX_IDLE twi).hpRestart p
  else
    let s := (((s.linkLost p).portDown p).lanesDetect (headLanes p)).lanesShow (headLanes p) Reg.L_STS.TX_IDLE 1
    let s := s.setPort p ({ · with named := false, locked := false, exch := [], failedAt := none, relock := false })
    (((s.put (Reg.HP_LINK_STS.RX_TWI p) 0).put (Reg.HP_LINK_STS.HEAD_TX_TWI p) 0).put (Reg.HP_LINK_STS.TX_TWI p) 0).hpState p 0

/-- CONTINUE (R190): ends a manual search. -/
def State.hpContinue (p : Nat) (s : State) : State :=
  if s.get (Reg.HP_LINK_STS.STATE p) ≠ 4 || !s.flag (Reg.HP_CTRL.MANUAL p) then s
  else if s.lanesLocked (headLanes p) then s.hpState p 5
  else s.hpFail p

/-- FLUSH by register (R212); a STANDBY and a DETACHED member send none (R329). -/
def State.hpFlushCmd (p : Nat) (s : State) : State :=
  if s.get Reg.DUE_STS.ROLE = 2 || s.get Reg.DUE_STS.ROLE = 4 then s else s.flushPort p

/-- The downlink enters Twilight (R217, R218), once what waits for the link has gone: TWI_ENTER on both lanes, and idle. The link counts as
leaving UP. -/
def State.txSleep (p : Nat) (s : State) : State :=
  if s.flag (Reg.HP_LINK_STS.TX_TWI p) then s
  else
    let s := s.when (s.dataMode p) (fun s => (s.each (s.port p).hctl (fun _ s => s.sendHctl p)).sendAll p .twiEnter)
    let s := ((s.linkDown p).put (Reg.HP_LINK_STS.TX_TWI p) 1).lanesShow (headLanes p) Reg.L_STS.TX_IDLE 1
    s.setPort p ({ · with exch := [] })

/-- A port goes to Twilight in both directions for M3 (R219, R482). -/
def State.portSleeps (p : Nat) (s : State) : State := (s.headTwi p 1).txSleep p

/-- The downlink wakes (R218): where it was in data mode it sends 4,096 TRAIN blocks with RX_READY and enters data mode again, and the port
runs state 7 before it enters state 8. -/
def State.txWake (p : Nat) (s : State) : State :=
  if !s.flag (Reg.HP_LINK_STS.TX_TWI p) then s
  else
    let s := (s.put (Reg.HP_LINK_STS.TX_TWI p) 0).lanesShow (headLanes p) Reg.L_STS.TX_IDLE 0
    let s := s.when (s.dataMode p) (fun s => (s.sendTrain p 4096 true false).enterData p)
    if s.get (Reg.HP_LINK_STS.STATE p) = 8 then
      (s.setPort p ({ · with locked := false, rtts := [], ddowns := [], voids := 0 })).hpState p 7
    else s

/-- A write of HP_CTRL: refused whole where it would put a port in a chain into Twilight; otherwise its fields, then what its bits
start. The head is told to sleep before the downlink does, and to wake after it (R217). -/
def State.hpCtrlWrite (s : State) (slot p : Nat) (data : Word) : State :=
  let rise := fun (f : Fld) => wbit data f.lo && !s.flag f
  let fall := fun (f : Fld) => !wbit data f.lo && s.flag f
  let tx := Reg.HP_CTRL.TX_TWI p
  let head := Reg.HP_CTRL.HEAD_TX_TWI p
  let (txUp, txDown, headUp, headDown) := (rise tx, fall tx, rise head, fall head)
  if (txUp || headUp) && s.inChain p then s.twiRefused p
  else
    let was := s.flag (Reg.HP_CTRL.EN p)
    let s := s.writeFields slot (Reg.HP_CTRL.AT p) data
    let on := s.flag (Reg.HP_CTRL.EN p)
    let s := s.when (was != on) (·.hpEnable p on)
    let s := s.when (wbit data 5) (·.hpFlushCmd p)
    let s := s.when (wbit data 3) (fun s => (s.put (Reg.HP_LINK_STS.RETRIES p) 0).hpRestart p)
    let s := s.when (wbit data 4) (·.hpContinue p)
    let s := s.when headUp (·.headTwi p 1)
    let s := (s.when txUp (·.txSleep p)).when txDown (·.txWake p)
    let still := txDown && s.flag (Reg.HP_LINK_STS.HEAD_TX_TWI p) && !s.flag head
    s.when (headDown || still) (·.headTwi p 0)

/-- A command that sets bits of HP_CTRL as the register stands. -/
def State.hpCtrlBits (s : State) (slot p : Nat) (f : Word → Word) : State :=
  s.ownerWrite slot (Reg.HP_CTRL.AT p) (fun s => s.hpCtrlWrite slot p (f (s.word (Reg.HP_CTRL.AT p))))

/-- A word with bit `i` set or cleared. -/
def wordBit (w : Word) (i : Nat) (on : Bool) : Word := if on then w ||| BitVec.ofNat 32 (2 ^ i) else w &&& ~~~ BitVec.ofNat 32 (2 ^ i)

def execHpPortEnable (slot port : Nat) (on : Bool) (s : State) : Host.Outcome State Fault Refusal :=
  .next (s.hpCtrlBits slot port (wordBit · 1 on))

def execHpContinue (slot port : Nat) (s : State) : Host.Outcome State Fault Refusal :=
  .next (s.hpCtrlBits slot port (wordBit · 4 true))

def execHpRetrain (slot port : Nat) (s : State) : Host.Outcome State Fault Refusal :=
  .next (s.hpCtrlBits slot port (wordBit · 3 true))

def execHpFlush (slot port : Nat) (s : State) : Host.Outcome State Fault Refusal :=
  .next (s.hpCtrlBits slot port (wordBit · 5 true))

def execHpTxTwi (slot port : Nat) (on : Bool) (s : State) : Host.Outcome State Fault Refusal :=
  .next (s.hpCtrlBits slot port (wordBit · 6 on))

def execHpHeadTxTwi (slot port : Nat) (on : Bool) (s : State) : Host.Outcome State Fault Refusal :=
  .next (s.hpCtrlBits slot port (wordBit · 7 on))

/-! ### Bring-up (R188 to R193, R218) -/

/-- The conditions of state 7 (R188, R199, R233): data mode, IDENT accepted, LOCKED, and a working eye on both lanes. -/
def State.hpTryUp (p : Nat) (s : State) : State :=
  let x := s.port p
  if s.eyesBad (headLanes p) then (s.noEq (headLanes p)).hpFail p
  else if x.named && x.locked && s.dataMode p && s.eyesGood (headLanes p) then (s.linkUp p).when (s.mode = 3) (State.portSleeps p)
  else s

/-- The receiver has deskewed (R192). A wake of the uplink alone is over, and the port reaches state 8 again (R193, R218); otherwise the
transmitter sends RX_READY and the port runs state 7. -/
def State.hpDeskewed (p : Nat) (s : State) : State :=
  if (s.port p).relock && s.portUp p then s.linkUp p
  else if (s.port p).relock then (s.setPort p ({ · with relock := false })).hpState p 7
  else
    (s.setPort p ({ · with training := true, rtts := [], ddowns := [], voids := 0, exch := [], reqAt := none })).hpState p 7

/-- The transmitter enters data mode once RX_READY has come on both lanes (R192); a sleeping one does so when it wakes. The eyes are
measured for R233. -/
def State.hpDataMode (p : Nat) (s : State) : State :=
  let s := (s.when (!s.flag (Reg.HP_LINK_STS.TX_TWI p)) (·.enterData p)).setPort p ({ · with training := false })
  s.each (headLanes p) State.eyeStart

/-- The uplink's signal is back after Twilight (R218): the receiver repeats states 1 to 6. -/
def State.hpRelock (p : Nat) (s : State) : State :=
  let s := (s.put (Reg.HP_LINK_STS.RX_TWI p) 0).put (Reg.HP_LINK_STS.HEAD_TX_TWI p) 0
  let s := (s.setPort p ({ · with relock := true })).lanesShow (headLanes p) Reg.L_STS.RX_TWI 0
  (s.lanesShow (headLanes p) Reg.L_STS.SIG 1).hpState p 2

/-- State 4 (R189, R190): the search locks both lanes or the step fails; under MANUAL the port stops with its detectors shown. On a wake
the port's own hardware searches (R218). -/
def State.hpSearch (p : Nat) (o : BringupObs) (s : State) : State :=
  let ns := headLanes p
  if s.flag (Reg.HP_CTRL.MANUAL p) && !(s.port p).relock then s.laneDetect false ns o
  else
    let s := s.laneSearch false ns o
    if s.lanesLocked ns then s.hpState p 5 else s.hpFail p

/-- The lanes found inverted, a bit each (R188). -/
def obsInv (o : BringupObs) : Nat := (o.markers.getD 0 (false, 26)).1.toNat + 2 * (o.markers.getD 1 (false, 26)).1.toNat

/-- A bring-up state's condition holds (the table "Bring-up steps"). A wake keeps polarity and lane map (R218). -/
def State.hpStep (p : Nat) (o : BringupObs) (s : State) : State :=
  let ns := headLanes p
  let wake := (s.port p).relock
  if s.flag (Reg.HP_LINK_STS.HEAD_TX_TWI p) then s.when o.ok (·.hpRelock p)
  else match s.get (Reg.HP_LINK_STS.STATE p) with
    | 1 => s.when o.ok (fun s => (s.lanesShow ns Reg.L_STS.SIG 1).hpState p 2)
    | 2 => s.when o.ok (fun s => ((s.lanesShow ns Reg.L_STS.CDR 1).each ns State.adapt).hpState p 3)
    | 3 => s.when o.ok (fun s =>
      ((s.when (!wake) (·.put (Reg.HP_LINK_STS.RX_INV p) (obsInv o))).lanePolarity ns o wake).hpState p 4)
    | 4 => s.hpSearch p o
    | 5 => match obsIds false ns o with
      | none => s
      | some ids =>
        (s.when (!wake) (fun s => (s.putB (Reg.HP_LINK_STS.RX_SWAP p) (ids.headD 0 = 1)).laneIds ns ids)).hpState p 6
    | 6 => if obsDeskews false ns o then s.hpDeskewed p else s.hpFail p
    | 7 => if (s.port p).training then s.when (obsReady false ns o) (·.hpDataMode p) else s.when o.ok (·.hpTryUp p)
    | _ => s

def execHpBringupStep (port : Nat) (obs : BringupObs) (s : State) : Host.Outcome State Fault Refusal :=
  .next (s.when (s.flag (Reg.HP_CTRL.EN port) && !s.linkHeld (headLanes port)) (·.hpStep port obs))

/-- A state exceeds its limit (R193); in state 7 for want of a working eye, the lanes are told (R233). -/
def execHpBringupTimeout (port : Nat) (s : State) : Host.Outcome State Fault Refusal :=
  .next (
    let st := s.get (Reg.HP_LINK_STS.STATE port)
    match stepLimit st with
    | none => s
    | some d =>
      if s.now < (s.port port).since + d then s
      else (s.when (st = 7) (·.noEq (headLanes port))).hpFail port)

def execHpRetryTimer (port : Nat) (s : State) : Host.Outcome State Fault Refusal :=
  .next (match (s.port port).failedAt with
    | none => s
    | some t => s.when (t + 4000000 ≤ s.now) (·.hpRestart port))

/-- Signal is lost on a lane in states 2 to 8 (R188, R248); a sleeping uplink has none to lose (R217). -/
def State.signalLoss (lane : Nat) (s : State) : State :=
  let s' := (s.put (Reg.L_EVT.SIG_LOSS lane) 1).put (Reg.L_STS.SIG lane) 0
  if lane < 192 then
    let p := lane / 2
    let st := s.get (Reg.HP_LINK_STS.STATE p)
    if s.flag (Reg.HP_LINK_STS.HEAD_TX_TWI p) then s else s'.when (2 ≤ st && st ≤ 8) (·.hpRestart p)
  else
    let st := s.peerLink (lanePeer lane)
    s'.when (2 ≤ st && st ≤ 8) (·.peerRestart (lanePeer lane))

def execHpSignalLoss (lane : Nat) (s : State) : Host.Outcome State Fault Refusal :=
  .next (s.when (linkLane lane) (·.signalLoss lane))

/-- Block lock is lost on a lane (R220, R253): what caused it is counted, and the receiver goes to state 1. -/
def State.lockLoss (lane errors : Nat) (elastic : Bool) (s : State) : State :=
  let s := (s.count (Reg.L_CNT.CNT lane 0) errors).count (Reg.L_CNT.CNT lane 1)
  let s := s.put (Reg.L_EVT.LOCK_LOSS lane) 1
  let s := s.when elastic (fun s => (s.put (Reg.L_EVT.ELASTIC lane) 1).count (Reg.L_CNT.CNT lane 4))
  let s := s.lockGone lane
  if lane < 192 then
    let p := lane / 2
    let st := s.get (Reg.HP_LINK_STS.STATE p)
    (s.count (Reg.HP_CNT.CNT p 4) errors).when (2 ≤ st && st ≤ 8) (·.hpRestart p)
  else
    let st := s.peerLink (lanePeer lane)
    s.when (2 ≤ st && st ≤ 8) (·.peerRestart (lanePeer lane))

/-- Blocks received on a locked lane (R180 to R182, R192, R220): the first two after END are free to be in error. Errors are counted; with
too many, an elastic buffer over- or underflow, or after deskew SKIP or BEACON at different counter values on the lanes, lock is lost. -/
def execHpBlockLockLoss (lane : Nat) (blocks : List (Nat × Nat)) (seen : RxFaults) (s : State) :
    Host.Outcome State Fault Refusal :=
  .next (
    let peer : Bool := 192 ≤ lane
    let bs := blocks.drop (2 - seen.afterEnd)
    let errors := badBlocks peer bs
    if !linkLane lane || !s.flag (Reg.L_STS.BLOCK_LOCK lane) then s
    else if errorBurst peer bs || seen.elastic || (seen.askew && 7 ≤ s.get (Reg.L_STS.LINK_STATE lane)) then s.lockLoss lane errors seen.elastic
    else (s.count (Reg.L_CNT.CNT lane 0) errors).when (lane < 192) (·.count (Reg.HP_CNT.CNT (lane / 2) 4) errors))

/-! ### Lane fill and time beacons (R184 to R186) -/

/-- Whether a link's transmitter runs, whether it is in data mode, and whether its TRAIN blocks say RX_READY (R188, R192). -/
def State.transmits (s : State) (k : Nat) : Bool :=
  if k < 96 then s.flag (Reg.HP_CTRL.EN k) && !s.flag (Reg.HP_LINK_STS.TX_TWI k) else s.peerEnabled (k - 96)
def State.sendsData (s : State) (k : Nat) : Bool := if k < 96 then s.dataMode k else s.peerData (k - 96)
def State.sendsReady (s : State) (k : Nat) : Bool := if k < 96 then (s.port k).training else (s.peer (k - 96)).training

/-- A SKIP sequence at the counter values 0 and 1 modulo 2,048 (R184, R247), after the TRAIN or IDLE blocks that lead to it. -/
def execHpSkip (lane : Nat) (s : State) : Host.Outcome State Fault Refusal :=
  .next (
    let k := linkOf lane
    let at_ := nextCount (s.tx k).blocks 2048 0
    s.when (linkLane lane && s.transmits k) (·.fillTo k at_ (at_ + 2) (s.sendsData k) (s.sendsReady k)))

/-- What a receiver leaves of a SKIP sequence for a fill of its elastic buffer (R185): one block less above the middle, one more
below it. DESIGN CHOICE, log entry 128. -/
def leaveFor (fill : Int) : Nat := if 0 < fill then 1 else if fill < 0 then 3 else 2

/-- A SKIP sequence arrives on a lane of a head port's or peer link, the lane counted from the link's first, and finds its buffer `fill`
blocks from its middle (R185): each lane decides alone before deskew, and after it link lane 0 for all. -/
def execHpSkipReceive (link lane : Nat) (fill : Int) (s : State) : Host.Outcome State Fault Refusal :=
  .next (
    let n := linkFirst link + lane
    let st := s.get (Reg.L_STS.LINK_STATE n)
    if 105 ≤ link || linkWidth link ≤ lane || st < 2 || 9 < st then s
    else
      let s := s.setLane n ({ · with fill := fill })
      if st < 7 then s.skipLeave (leaveFor fill) n
      else s.when (s.rxLane n = 0) (fun s => s.each (linkLanes n) (State.skipLeave (leaveFor fill))))

/-- A BEACON at the counter values 512 modulo 1,024, with bits [55:0] of Meridian time (R186), after the IDLE blocks that lead to it. -/
def execHpBeacon (port : Nat) (s : State) : Host.Outcome State Fault Refusal :=
  .next (
    let at_ := nextCount (s.tx port).blocks 1024 512
    s.when (s.dataMode port) (·.fillTo port at_ (at_ + 1) true false))

/-! ### Time transfer (R195 to R199) -/

/-- The interval between exchanges: 16 µs in state 7, 1 ms in state 8. -/
def State.exchangeTime (s : State) (p : Nat) : Nat := if s.get (Reg.HP_LINK_STS.STATE p) = 7 then 64000 else 4000000

/-- TT_REQ goes out on link lane 0, and its departure is stamped (R186, R195). -/
def State.ttReq (p : Nat) (s : State) : State :=
  let xid := ((s.port p).xid + 1) % 256
  (s.setPort p (fun x => { x with
    xid := xid, reqAt := some s.now, exch := x.exch.filter (·.xid ≠ xid) ++ [⟨xid, s.departs p, none⟩] })).sendNow p (.ttReq xid)

/-- Whether exchanges run: in data mode with the uplink awake, once the head has sent its IDENT (R192, R217). -/
def State.exchanges (s : State) (p : Nat) : Bool :=
  s.dataMode p && (s.port p).named && !s.flag (Reg.HP_LINK_STS.HEAD_TX_TWI p) && !(s.port p).relock

def execHpTtReq (port : Nat) (s : State) : Host.Outcome State Fault Refusal :=
  .next (
    let due : Bool := match (s.port port).reqAt with
      | some t => decide (t + s.exchangeTime port ≤ s.now)
      | none => true
    s.when (s.exchanges port && due) (·.ttReq port))

def execHpTtRsp (port xid : Nat) (s : State) : Host.Outcome State Fault Refusal :=
  .next (s.setPort port (fun x => { x with
    exch := x.exch.map (fun e => if e.xid = xid && e.t4 = none then { e with t4 := some s.now } else e) }))

/-- The head's time lock is lost (R199): the port leaves UP and runs state 7 again; then it is told. -/
def State.timeUnlock (p : Nat) (s : State) : State :=
  let s := s.when (s.portUp p) (fun s => (s.portDown p).hpState p 7)
  let s := s.setPort p ({ · with locked := false, rtts := [], ddowns := [], voids := 0, exch := [] })
  (s.put (Reg.HP_LINK_EVT.TIME_UNLOCK p) 1).post (ev Code.ST_HP_TIME_UNLOCK (srcHP p) none none (s.dataPort p))

/-- The head reports LOCKED (R198, R199). -/
def State.headLocked (p : Nat) (locked : Bool) (s : State) : State :=
  let s := (s.putB (Reg.HP_LINK_STS.TIME_LOCK p) locked).setPort p ({ · with locked := locked })
  s.when (!locked && s.portUp p) (·.timeUnlock p)

/-- A void exchange (R196, R199). -/
def State.voidExchange (p xid : Nat) (s : State) : State :=
  let s := s.setPort p (fun x => { x with exch := x.exch.filter (·.xid ≠ xid), voids := x.voids + 1 })
  s.when (4 ≤ (s.port p).voids) (·.timeUnlock p)

/-- The mean of the last valid delays, to the nearest 1/256 mt. -/
def meanDelay (l : List Int) : Int := if l = [] then 0 else roundDiv l.sum l.length

/-- A TIME status ends an exchange (R196, R197). In state 8 with fewer than eight valid exchanges before it, the median is of those there
are, and with none every exchange is valid (DESIGN CHOICE, log entry 129). -/
def State.takeTime (p : Nat) (st : TimeStatus) (e : Exchange) (t4 : Nat) (s : State) : State :=
  let rtt : Int := ((t4 : Int) - e.t1) - ((st.t3 : Int) - st.t2)
  let d : Int := 128 * (rtt + s.getI (Reg.HP_TT_ASYM.ASYM p))
  let x := s.port p
  let first := s.get (Reg.HP_LINK_STS.STATE p) = 7 && x.rtts.length < 8
  if !first && x.rtts ≠ [] && 8 < (rtt - median x.rtts).natAbs then s.voidExchange p e.xid
  else
    let rtts := (rtt :: x.rtts).take 8
    let ds := (d :: x.ddowns).take 8
    let s := s.setPort p (fun x => { x with exch := x.exch.filter (·.xid ≠ e.xid), rtts := rtts, ddowns := ds, voids := 0 })
    let s := (s.putI (Reg.HP_DELAY.DDOWN p) (meanDelay ds)).putI (Reg.HP_RTT.RTT p) (median rtts)
    s.timebase p e.xid

def execHpTime (port : Nat) (st : TimeStatus) (s : State) : Host.Outcome State Fault Refusal :=
  .next (
    if !s.exchanges port then s
    else
      let s := s.putSat (Reg.HP_OFFSET.THETA port) st.theta
      let s := match (s.port port).exch.find? (fun e => e.xid = st.xid) with
        | some e => match e.t4 with
          | some t4 => s.takeTime port st e t4
          | none => s
        | none => s
      s.headLocked port st.locked)

/-- A TIME status that has not come within 200 µs (R196). -/
def execHpTimeStatusTimeout (port xid : Nat) (s : State) : Host.Outcome State Fault Refusal :=
  .next (match (s.port port).exch.find? (fun e => e.xid = xid) with
    | none => s
    | some e => s.when (e.t1 + 800000 ≤ s.now) (·.voidExchange port xid))

/-! ### IDENT (R207) -/

/-- What the device accepts. -/
def identFits (d : Ident) : Bool :=
  d.ver = 1 && 1000 ≤ d.maxRate && d.maxRate ≤ 250000
    && (List.range 16).all (fun r => (bit d.rowmask r == decide (1 ≤ d.cols.getD r 0)) && d.cols.getD r 0 ≤ 1536)

/-- Whether a head differs from the one recorded at Ready. -/
def identDiffers (a b : Ident) : Bool :=
  a.vendor ≠ b.vendor || a.model ≠ b.model || a.serial ≠ b.serial || a.rowmask ≠ b.rowmask
    || (List.range 16).any (fun r => a.cols.getD r 0 ≠ b.cols.getD r 0)

/-- The registers that hold the last IDENT accepted. -/
def State.showIdent (p : Nat) (d : Ident) (s : State) : State :=
  let s := ((s.put (Reg.HP_HEAD_ID.MODEL p) d.model).put (Reg.HP_HEAD_ID.VENDOR p) d.vendor).put64 (Reg.HP_HEAD_SERIAL.PAIR p) d.serial
  let s := ((s.put (Reg.HP_HEAD_CAP.ROWMASK p) d.rowmask).put (Reg.HP_HEAD_CAP.TRIM_STEP p) d.trimStep).put
    (Reg.HP_HEAD_CAP.NWAVE_M1 p) d.nwaveM1
  let s := ((s.put (Reg.HP_HEAD_CAP.DUAL p) d.dual).put (Reg.HP_HEAD_CAP.HPORT p) d.hport).put (Reg.HP_HEAD_RATE.MAX_RATE p) d.maxRate
  s.each (List.range 16) (fun r s => s.put (Reg.HP_HEAD_COLS.COLS p r) (d.cols.getD r 0))

/-- An IDENT is accepted: the populated columns and MAX_RATE follow it (R24, R508), and a changed head is told. -/
def State.takeIdent (p : Nat) (d : Ident) (s : State) : State :=
  let old := s
  let moved := (List.range 16).any (fun r => old.cols p r ≠ (if bit d.rowmask r then d.cols.getD r 0 else 0))
  let s := (s.showIdent p d).setPort p ({ · with ident := some d, named := true })
  let s := s.when moved (fun s => State.recountPort old p s)
  let changed : Bool := match (s.port p).ready with
    | some r => identDiffers r d
    | none => false
  let s := s.when changed (fun s =>
    ((s.put (Reg.HP_LINK_EVT.HEAD_CHANGED p) 1).setPort p ({ · with changed := true })).post
      (ev Code.ST_HP_HEAD_CHANGED (srcHP p) none none (s.dataPort p)))
  s.refreshFab.refreshCeil

def execHpIdent (port : Nat) (id : Ident) (s : State) : Host.Outcome State Fault Refusal :=
  .next (
    if !s.dataMode port && !s.flag (Reg.HP_LINK_STS.TX_TWI port) then s
    else if identFits id then s.takeIdent port id
    else
      let s := (s.put (Reg.HP_LINK_EVT.IDENT_BAD port) 1).post
        (ev Code.ST_HP_IDENT_BAD (srcHP port) none none (s.dataPort port))
      s.hpFail port)

/-! ### ACK, FAULT, and what the uplink loses (R205, R220) -/

/-- What an ACK says of a tap load (R210): done, or the bank in use, after which the load is repeated to that bank. -/
def State.tapAcked (p row result : Nat) (s : State) : State :=
  s.setPort p (fun x => { x with taps := x.taps.map (fun t =>
    if t.row ≠ row || !t.sent || t.acked then t
    else if result = 0 then { t with acked := true, again := false } else { t with sent := false, again := true }) })

def execHpAck (port cmdId op result : Nat) (s : State) : Host.Outcome State Fault Refusal :=
  .next (match (s.port port).cmds.find? (fun c => c.id = cmdId && c.op = op) with
    | none => s
    | some c =>
      let s := s.setPort port (fun x => { x with cmds := x.cmds.filter (fun y => !(y.id = cmdId && y.op = op)) })
      if result = 1 || result = 3 then
        (s.put (Reg.HP_LINK_EVT.HEAD_FAULT port) 1).post (ev Code.ST_HP_HEAD_FAULT (srcHP port) op none (s.dataPort port))
      else s.when (op = 2) (·.tapAcked port c.row result))

def execHpFault (port code : Nat) (fatal : Bool) (_detail : Nat) (s : State) : Host.Outcome State Fault Refusal :=
  .next (
    let s := s.put (Reg.HP_HEAD_STATE.FAULT_CODE port) code
    s.when fatal (fun s =>
      ((s.put (Reg.HP_LINK_EVT.HEAD_FAULT port) 1).setPort port ({ · with fatal := true })).post
        (ev Code.ST_HP_HEAD_FAULT (srcHP port) none none (s.dataPort port))))

/-- An uplink packet that does not stand (R182, R200, R201, R220): discarded and, for its CRC or its
framing, counted; its block errors count as such, and one without them as one (DEDUCED, log entry 130). One of another PTYPE is
discarded only. -/
def execHpUplinkDiscard (port : Nat) (packet : RxPacket) (s : State) : Host.Outcome State Fault Refusal :=
  .next (
    if s.get (Reg.HP_LINK_STS.STATE port) < 7 then s
    else match readPacket [1, 2] (packet.blocks.map (readBlock false)) with
      | .malformed =>
        (s.packetErrors (headLanes port) false packet.first packet.blocks).count (Reg.HP_CNT.CNT port 4)
          (max 1 (badBlocks false packet.blocks))
      | .badCrc =>
        let times := s.now :: (s.port port).crcTimes.filter (fun t => s.now < t + 4000000)
        let s := (s.count (Reg.HP_CNT.CNT port 3)).setPort port ({ · with crcTimes := times.take 8 })
        s.when (8 ≤ times.length) (·.crcBurst port)
      | _ => s)

/-- No HEALTH for 5 ms while the head's transmitter is awake (R220). -/
def execHpHealthTimeout (port : Nat) (s : State) : Host.Outcome State Fault Refusal :=
  .next (
    let late : Bool := match (s.port port).lastHealth with
      | some t => decide (t + 20000000 ≤ s.now)
      | none => false
    s.when (s.get (Reg.HP_LINK_STS.STATE port) = 8 && !s.flag (Reg.HP_LINK_STS.HEAD_TX_TWI port) && late) (·.hpRestart port))

/-- No ACK within 200 µs (R220): resent up to three times, and then the link is retrained. -/
def execHpAckTimeout (port cmdId : Nat) (s : State) : Host.Outcome State Fault Refusal :=
  .next (match (s.port port).cmds.find? (fun c => c.id = cmdId) with
    | none => s
    | some c =>
      if !(match c.sentAt with
        | some t => decide (t + 800000 ≤ s.now)
        | none => false) then s
      else if c.resends < 3 then
        s.setPort port (fun x => { x with
          cmds := x.cmds.map (fun y => if y.id = cmdId then { y with sentAt := none, resends := y.resends + 1 } else y),
          hctl := x.hctl ++ [c.blocks] })
      else
        let s := (s.put (Reg.HP_LINK_EVT.ACK_TIMEOUT port) 1).post
          (ev Code.ST_HP_ACK_TIMEOUT (srcHP port) none none (s.dataPort port))
        s.hpRestart port)

/-! ### Sense packets (R204) -/

/-- A sense packet (R163, R204): for the line of its row that was sent with SENSE and its SEQ. -/
def execHpSensePacket (port : Nat) (pkt : SensePacket) (s : State) : Host.Outcome State Fault Refusal :=
  .next (
    let k := 16 * port + pkt.row
    if !s.dataMode port || 16 ≤ pkt.row || s.rowCols k < pkt.words.length then s
    else match (s.port port).sensed.find? (fun x => x.row = pkt.row && x.seq = pkt.seq) with
      | none => s
      | some x =>
        let s := (s.count (Reg.HP_CNT.CNT port 5)).setPort port (fun y => { y with sensed := y.sensed.filter (· ≠ x) })
        (s.each pkt.words.zipIdx (fun e s => s.sense (rowGn k + e.2) x.chain x.line e.1)).calWatch)

/-! ### Tap loads and HEAD_MODE (R205, R210) -/

/-- The tap change of a row that is to be loaded next: the first not sent, once no earlier one waits for its lines. -/
def State.nextTap (s : State) (p r : Nat) : Option TapChange :=
  match (s.port p).taps.filter (fun t => t.row = r) with
  | t :: _ => if t.sent then none else some t
  | [] => none

/-- Changes whose lines the row has passed, and that were acknowledged, are behind it, once no earlier line of the row waits. -/
def State.foldTaps (p r : Nat) (s : State) : State :=
  let k := 16 * p + r
  let passed := fun (t : TapChange) => t.row = r && t.acked
    && s.job.lines.all (fun l => l.row ≠ k || t.at_ r l.chain l.line) && (match s.chain? t.chain with
    | some c => s.rowPassed c k t.line
    | none => true)
  s.setPort p (fun x => { x with
    tbank := ((x.taps.filter passed).foldl (fun b t => Sparse.insert r t.bank b) x.tbank),
    taps := x.taps.filter (fun t => !passed t) })

/-- Whether a line that uses a bank of a row is too recent for a load into it (R210). -/
def State.bankBusy (s : State) (p r bank : Nat) : Bool :=
  (s.port p).inHead.any (fun x => x.1 = r && x.2.2 = bank && s.now < x.2.1 + 1000)

def execHpTapLoad (port row : Nat) (s : State) : Host.Outcome State Fault Refusal :=
  .next (
    let s := s.foldTaps port row
    match s.nextTap port row with
    | none => s
    | some t =>
      let bank := if t.again then t.bank else 1 - ((s.port port).tbank.lookup row).getD 0
      if !s.portUp port || s.bankBusy port row bank then s
      else
        let s := s.setPort port (fun x => { x with
          taps := x.taps.map (fun y => if y = t then { y with sent := true, bank := bank } else y) })
        s.tapLoad port row t.chain t.line bank)

def execHpHeadMode (slot port : Nat) (data : Word) (s : State) : Host.Outcome State Fault Refusal :=
  .next (s.ownerWrite slot (Reg.HP_HEAD_CMD.AT port) (fun s =>
    if 3 < wbits data 0 3 then s.put (Reg.HP_LINK_EVT.CFG_ERR port) 1
    else (s.writeFields slot (Reg.HP_HEAD_CMD.AT port) data).headMode (wbits data 0 3) port))

/-! ### TWI_ENTER (R218) -/

/-- The head's transmitter goes to sleep; the port's receiver enters RX Twilight while RX_TWI_EN is 1. -/
def execHpTwiEnter (port : Nat) (s : State) : Host.Outcome State Fault Refusal :=
  .next (
    let st := s.get (Reg.HP_LINK_STS.STATE port)
    if st < 7 || 8 < st then s
    else
      let s := (s.put (Reg.HP_LINK_STS.HEAD_TX_TWI port) 1).setPort port ({ · with exch := [] })
      s.when (s.flag (Reg.HP_CTRL.RX_TWI_EN port)) (fun s =>
        ((s.put (Reg.HP_LINK_STS.RX_TWI port) 1).lanesShow (headLanes port) Reg.L_STS.RX_TWI 1).hpState port 9))

end Sys2Proof.Machine
end

