-- ==== Sys2Proof/Machine/Lanes.lean ====
section
/-! DEFINITION. The commands of the serial lanes and the peer links (chapter 07). -/

namespace Sys2Proof.Machine

/-- A dropped write of a lane's register. -/
def State.laneDrop (n : Nat) (s : State) : State := s.put (Reg.L_EVT.CFG_ERR n) 1

/-- Whether a row of a head lane's port is in a chain. -/
def State.laneInChain (s : State) (n : Nat) : Bool := n < 192 && s.inChain (n / 2)

/-! ### Equalisation (R229) -/

/-- A write of L_TXEQ. -/
def State.txeqWrite (s : State) (slot n : Nat) (data : Word) : State :=
  let g := laneGroup n
  if g = 1 || g = 2 || 24 < wbits data 0 4 + wbits data 4 5 then s.laneDrop n else s.writeFields slot (Reg.L_TXEQ.AT n) data

def execLTxeqWrite (slot lane : Nat) (data : Word) (s : State) : Host.Outcome State Fault Refusal :=
  .next (s.ownerWrite slot (Reg.L_TXEQ.AT lane) (·.txeqWrite slot lane data))

/-- The receiver's values in force (R230). -/
def State.rxVals (s : State) (n : Nat) : RxVals := ⟨(s.word (Reg.L_RXEQ.AT n)).toNat / 16 % 2 ^ 12, (s.lane n).taps⟩
def State.setRx (n : Nat) (v : RxVals) (s : State) : State :=
  ((s.put (Reg.L_RXEQ.CTLE n) (v.rxeq % 16)).put (Reg.L_RXEQ.TAP1 n) (v.rxeq / 16)).setLane n ({ · with taps := v.taps })

/-- A write of L_RXEQ (R230): CTLE and TAP1 as written count in MANUAL alone, and taps 2 to 8 stay; a receiver that goes from MANUAL to
CONT, or to FREEZE before its link is UP, adapts. -/
def State.rxeqWrite (s : State) (slot n : Nat) (data : Word) : State :=
  let mode := wbits data 0 2
  if laneGroup n = 2 || mode = 3 then s.laneDrop n
  else if mode = 2 then s.writeFields slot (Reg.L_RXEQ.AT n) data
  else
    let was := s.get (Reg.L_RXEQ.MODE n)
    let t := s.writeFields slot (Reg.L_RXEQ.AT n) ((data &&& 0xFFFF000F) ||| (s.word (Reg.L_RXEQ.AT n) &&& 0xFFF0))
    t.when (was = 2 && t.get (Reg.L_RXEQ.MODE n) ≠ 2 && t.flag (Reg.L_STS.CDR n)
      && (t.get (Reg.L_RXEQ.MODE n) = 0 || !t.laneUp n)) (State.adapt n)

/-! ### Eyes (R231 to R234) -/

/-- QUAL of an eye (R232). -/
def State.eyeQual (s : State) (n ew eh : Nat) : Nat :=
  if ew < s.get (Reg.L_EYE_LIM.WORK_EW n) || eh < s.get (Reg.L_EYE_LIM.WORK_EH n) then 1
  else if ew < s.get (Reg.L_EYE_LIM.GOOD_EW n) || eh < s.get (Reg.L_EYE_LIM.GOOD_EH n) then 2
  else 3

/-- MARGINAL: told once until it clears (R234). -/
def State.setMarginal (n : Nat) (s : State) : State :=
  if s.flag (Reg.L_STS.MARGINAL n) then s
  else ((s.put (Reg.L_STS.MARGINAL n) 1).put (Reg.L_EVT.MARGINAL n) 1).post (ev Code.ST_LANE_MARGINAL (srcL n))

/-- The result of a measurement of a path with the values `v` is reported, and its values kept if it is GOOD. -/
def State.showEye (n ew eh : Nat) (v : RxVals) (s : State) : State :=
  let q := s.eyeQual n ew eh
  let s := ((s.put (Reg.L_EYE.EW n) ew).put (Reg.L_EYE.EH n) eh).put (Reg.L_EYE.QUAL n) q
  let s := ((s.put (Reg.L_EYE.VALID n) 1).put (Reg.L_EYE.BUSY n) 0).setLane n ({ · with
    eyeGo := none, eyeAt := some s.now, eye := some q })
  if !s.laneUp n then s
  else if q = 3 then (s.put (Reg.L_STS.MARGINAL n) 0).setLane n ({ · with good := some v })
  else s.setMarginal n

def execEyeMeasureDone (lane ew eh : Nat) (s : State) : Host.Outcome State Fault Refusal :=
  .next (s.when (s.flag (Reg.L_EYE.BUSY lane)) (fun s => s.showEye lane ew eh (s.rxVals lane)))

/-- The measurement of each second while the link is UP (R234). A receiver in CONT has gone on adapting (R230; log entry 132). -/
def execEyePeriodic (lane : Nat) (s : State) : Host.Outcome State Fault Refusal :=
  .next (
    let due : Bool := match (s.lane lane).eyeAt with
      | some t => decide (t + 4000000000 ≤ s.now)
      | none => true
    s.when (s.laneUp lane && due && !s.flag (Reg.L_EYE.BUSY lane)) (fun s =>
      (s.when (s.get (Reg.L_RXEQ.MODE lane) = 0 && (s.lane lane).reeq.isNone) (State.adapt lane)).eyeStart lane))

/-! ### Re-adaptation (R235, R310) -/

/-- A re-adaptation of the calibration unit's ends (R310). -/
def State.sweepEnds (n : Nat) (s : State) : State :=
  let s := (s.setLane n ({ · with byCal := false })).setCal (fun c => { c with sweeping := c.sweeping.filter (· ≠ n) })
  let s := s.when (s.flag (Reg.L_STS.MARGINAL n)) (·.count (Reg.CAL_CNT.CNT 10))
  let s := s.when (n < 192) (fun s => s.put (Reg.CAL_PORT_STS.LANE_Q (n / 2))
    (min (s.get (Reg.L_EYE.QUAL (2 * (n / 2)))) (s.get (Reg.L_EYE.QUAL (2 * (n / 2) + 1)))))
  s.sweepOn.sweepDone

/-- A re-adaptation ends (R234, R235, R255): the shadow path, of eye `ew` by `eh` and values `v`, is switched in if it meets WORK and is at
least as wide as the eye in force; without a working setting the last good values are restored. Its measurement is shown where the path
is switched in or a measurement was asked for meanwhile; otherwise the eye in force is measured. A host lane shows no eye (R245). -/
def State.reeqEnds (n ew eh : Nat) (v : RxVals) (s : State) : State :=
  let x := s.lane n
  let s := s.setLane n ({ · with reeq := none, serves := false })
  let s :=
    if laneGroup n = 2 then s.setRx n v
    else if s.eyeQual n ew eh = 1 then
      let s := (match x.good with
        | some g => s.setRx n g
        | none => s).setMarginal n
      if x.serves then s.showEye n ew eh v else s.eyeStart n
    else if s.get (Reg.L_EYE.EW n) ≤ ew then (s.setRx n v).showEye n ew eh v
    else if x.serves then s.showEye n ew eh v
    else s.eyeStart n
  s.when x.byCal (·.sweepEnds n)

def execReeqDone (lane ew eh : Nat) (found : RxSetting) (s : State) : Host.Outcome State Fault Refusal :=
  .next (s.when (s.lane lane).reeq.isSome (·.reeqEnds lane ew eh ⟨found.rxeq.toNat / 16 % 2 ^ 12, found.taps⟩))

/-! ### L_CTRL, L_BS and L_PRBS (R235, R236, R240 to R242, R245, R246) -/

/-- A write of L_CTRL: dropped whole where R241, R245 or R246 drop what it asks; EN is ignored but on peer lanes. -/
def State.lCtrlWrite (s : State) (slot n : Nat) (data : Word) : State :=
  let g := laneGroup n
  let loop := wbits data 3 2
  let old := s.get (Reg.L_CTRL.LOOP n)
  if loop = 3 || (loop ≠ old && (g = 1 || g = 2)) || (loop ≠ old && loop ≠ 0 && s.laneInChain n)
      || (g = 2 && (wbit data 6 || wbit data 7)) then s.laneDrop n
  else
    let data := if 240 ≤ n then data else data &&& ~~~ 2
    let on := s.flag (Reg.L_CTRL.EN n)
    let s := s.writeFields slot (Reg.L_CTRL.AT n) data
    let moved := s.flag (Reg.L_CTRL.EN n) != on
    let s := s.when moved (·.putB (Reg.L_STS.TX_IDLE n) on)
    let s := s.when (moved || s.get (Reg.L_CTRL.LOOP n) ≠ old) (·.laneRestart n)
    let s := s.when (wbit data 5) (·.reeqStart n false)
    let s := s.when (wbit data 6) (·.eyeStart n)
    s.when (wbit data 7) (·.laneTestDue (linkLanes n) true none)

/-- A command that changes L_CTRL as it stands. -/
def State.lCtrlBits (s : State) (slot n : Nat) (f : Word → Word) : State :=
  s.ownerWrite slot (Reg.L_CTRL.AT n) (fun s => s.lCtrlWrite slot n (f (s.word (Reg.L_CTRL.AT n))))

def execEyeGo (slot lane : Nat) (s : State) : Host.Outcome State Fault Refusal :=
  .next (s.lCtrlBits slot lane (wordBit · 6 true))

def execReeq (slot lane : Nat) (s : State) : Host.Outcome State Fault Refusal :=
  .next (s.lCtrlBits slot lane (wordBit · 5 true))

def execLoop (slot lane mode : Nat) (s : State) : Host.Outcome State Fault Refusal :=
  .next (s.lCtrlBits slot lane (fun w => wordBit (wordBit w 3 (bit mode 0)) 4 (bit mode 1)))

def execLaneSelftest (slot lane : Nat) (s : State) : Host.Outcome State Fault Refusal :=
  .next (s.lCtrlBits slot lane (wordBit · 7 true))

/-- Slips that have taken effect: four blocks have passed (R236). -/
def State.settleSlips (s : State) : State :=
  s.each (s.lanes.filter (fun e => match e.2.slipAt with
    | some t => decide (4 * s.blockTime (linkOf e.1) ≤ 100 * (s.now - t))
    | none => false)) (fun e s => (s.put (Reg.L_BS.PENDING e.1) 0).setLane e.1 ({ · with slipAt := none }))

/-- The receive block boundary moves one bit (R236); a lock that was reported is lost (R255). DESIGN CHOICE (log entry 133): the slip that
loses lock is the first that SLIPS then counts. -/
def State.slip (n : Nat) (s : State) : State :=
  let had := s.flag (Reg.L_STS.BLOCK_LOCK n)
  let s := s.when had (fun s => ((s.put (Reg.L_EVT.LOCK_LOSS n) 1).count (Reg.L_CNT.CNT n 1)).lockGone n)
  let s := s.put (Reg.L_BS.SLIPS n) ((s.get (Reg.L_BS.SLIPS n) + 1) % 66)
  let s := (s.put (Reg.L_BS.PENDING n) 1).setLane n (fun x => { x with
    slipAt := some s.now, boundary := (x.boundary + 1) % 66 })
  s.when (had && 5 ≤ s.get (Reg.L_STS.LINK_STATE n) && s.get (Reg.L_STS.LINK_STATE n) ≤ 8) (·.laneRestart n)

/-- A write of L_BS: dropped on host and camera lanes; a BITSLIP while one is in progress is dropped. -/
def State.lBsWrite (s : State) (slot n : Nat) (data : Word) : State :=
  let s := s.settleSlips
  if laneGroup n = 1 || laneGroup n = 2 then s.laneDrop n
  else
    let s := s.writeFields slot (Reg.L_BS.AT n) data
    if !wbit data 0 then s else if s.flag (Reg.L_BS.PENDING n) then s.laneDrop n else s.slip n

def execBitslip (slot lane : Nat) (s : State) : Host.Outcome State Fault Refusal :=
  .next (s.ownerWrite slot (Reg.L_BS.AT lane) (fun s => s.lBsWrite slot lane (s.word (Reg.L_BS.AT lane) ||| 1)))

/-- A write of L_PRBS. -/
def State.lPrbsWrite (s : State) (slot n : Nat) (data : Word) : State :=
  let g := laneGroup n
  let was := s.flag (Reg.L_PRBS.GEN_EN n)
  let chk := s.flag (Reg.L_PRBS.CHK_EN n)
  let rises := wbit data 4 && !was
  if g = 2 || (g = 1 && wbit data 4 != was) || 4 < wbits data 0 3 || (rises && s.laneInChain n) then s.laneDrop n
  else
    let s := s.writeFields slot (Reg.L_PRBS.AT n) data
    let s := s.when (!was && s.flag (Reg.L_PRBS.GEN_EN n)) (·.laneRestart n)
    let s := s.when (!chk && s.flag (Reg.L_PRBS.CHK_EN n)) (fun s =>
      (s.put64 (Reg.L_PRBS_BITS.PAIR n) 0).setLane n ({ · with chk := {} }))
    s.when (!s.flag (Reg.L_PRBS.CHK_EN n)) (·.put (Reg.L_PRBS.CHK_LOCK n) 0)

def execPrbsGenEn (slot lane : Nat) (on : Bool) (s : State) : Host.Outcome State Fault Refusal :=
  .next (s.ownerWrite slot (Reg.L_PRBS.AT lane) (fun s => s.lPrbsWrite slot lane (wordBit (s.word (Reg.L_PRBS.AT lane)) 4 on)))

/-- The bits a lane receives in one cycle of 1 ns, in 1/32 bit (the table "Lane groups"). -/
def State.laneBits (s : State) (n : Nat) : Nat :=
  let rate := s.get (Reg.L_STS.RATE n)
  if n < 192 then (if rate = 1 then 660 else 330)
  else if n < 224 then [0, 40, 80, 100, 160, 200, 320, 400].getD rate 0
  else if n < 240 then 0
  else 825

/-- One cycle of a lane's PRBS checker (R240): it locks after 64 error-free bits, and then counts bits compared and bits in error. Its own
generator's bits return without error in NEAR loopback (R241); how many of any others err is open. -/
def State.prbsCycle (n : Nat) (s : State) : State :=
  let x := (s.lane n).chk
  let near := s.get (Reg.L_CTRL.LOOP n) = 1
  let total := if near || s.flag (Reg.L_STS.CDR n) then x.frac + s.laneBits n else x.frac
  let k := total / 32
  let clean := near && s.flag (Reg.L_PRBS.GEN_EN n)
  let errs := if clean then 0 else s.open_ 8 % (k + 1)
  let s := s.when (!clean) State.drawn
  let s := s.setLane n ({ · with chk := ⟨if errs = 0 then min 64 (x.run + k) else 0, total % 32⟩ })
  if s.flag (Reg.L_PRBS.CHK_LOCK n) then
    (s.count (Reg.L_PRBS_ERR.ERR n) errs).put64 (Reg.L_PRBS_BITS.PAIR n) (s.get64 (Reg.L_PRBS_BITS.PAIR n) + k)
  else s.when (64 ≤ x.run + k && errs = 0) (·.put (Reg.L_PRBS.CHK_LOCK n) 1)

/-- The lanes whose checker is enabled with a pattern. -/
def State.checkers (s : State) : List Nat :=
  (s.regs.filter (fun e => 0x500000 ≤ e.1 && e.1 < 0x540000 && e.1 % 0x400 = 0x20 && wbit e.2 5 && wbits e.2 0 3 ≠ 0)).map
    (fun e => (e.1 - 0x500000) / 0x400)

def State.prbsTick (s : State) : State := s.each s.checkers State.prbsCycle

/-! ### Lane self-tests (R242) -/

/-- Whether a link's self-test may run now: no chain in flight on the head port, and none at all for a peer link. -/
def State.testInterval (s : State) (n : Nat) : Bool := if n < 192 then !s.inChain (n / 2) else s.flying = []

/-- The link of a lane goes down for its self-test. -/
def State.testDown (n : Nat) (s : State) : State :=
  if n < 192 then ((s.portDown (n / 2)).lanesDetect (linkLanes n)).hpState (n / 2) 1
  else ((s.peerDown (lanePeer n)).lanesDetect (linkLanes n)).peerState (lanePeer n) 1

def execLaneSelftestRun (lane : Nat) (s : State) : Host.Outcome State Fault Refusal :=
  .next (
    if !linkLane lane || !s.flag (Reg.L_SELFTEST.PENDING lane) || !s.testInterval lane then s
    else
      let s := (s.testStarted).testDown lane
      s.each (linkLanes lane) (fun n s =>
        (((s.put (Reg.L_SELFTEST.PENDING n) 0).put (Reg.L_SELFTEST.RUNNING n) 1).put (Reg.L_PRBS.CHK_LOCK n) 1).setLane n
          ({ · with test := 1 })))

/-- A self-test ends on a link's lanes: the result, and the outcome of the records whose test it is (R516): transient for PASS,
lasting for FAIL, untested otherwise. Every lane of the link takes the result (DESIGN CHOICE, log entry 134). -/
def State.laneTestEnds (ns : List Nat) (result : Nat) (s : State) : State :=
  let seqs := ns.flatMap (fun n => (s.lane n).seqs)
  let first := ns.headD 0
  let code := if first < 192 then Code.ST_HP_CRC_BURST else Code.ST_PEER_CRC_BURST
  let src := if first < 192 then srcHP (first / 2) else srcL first
  let s := s.each ns (fun n s =>
    let s := (s.put (Reg.L_SELFTEST.RUNNING n) 0).put (Reg.L_SELFTEST.RESULT n) result
    (s.put (Reg.L_EVT.SELFTEST_DONE n) 1).setLane n ({ · with test := 0, asked := false, seqs := [] }))
  s.each seqs (fun q s => s.errOutcome q code (if result = 1 then 1 else if result = 2 then 2 else 3) src)

/-- What the checkers of a link's lanes have counted in the loopback of 10^8 bits (R240, R242). -/
def State.loopbackCounts (ns : List Nat) (errors : List Nat) (s : State) : State :=
  s.each ns.zipIdx (fun e s =>
    ((s.count (Reg.L_PRBS_ERR.ERR e.1) (errors.getD e.2 0)).put64 (Reg.L_PRBS_BITS.PAIR e.1)
      (s.get64 (Reg.L_PRBS_BITS.PAIR e.1) + 100000000)).put (Reg.L_PRBS.CHK_LOCK e.1) (s.get (Reg.L_PRBS.CHK_EN e.1)))

/-- The loopback ends: any bit in error makes the lane FAULT and the test FAIL; otherwise the link brings up. -/
def State.loopbackEnds (ns : List Nat) (errors : List Nat) (s : State) : State :=
  let s := s.loopbackCounts ns errors
  let bad := (ns.zipIdx.filter (fun e => errors.getD e.2 0 ≠ 0)).map (·.1)
  if bad = [] then (s.each ns (fun n s => s.setLane n ({ · with test := 2 }))).laneRestart (ns.headD 0)
  else
    let s := s.each bad (fun n s => (s.put (Reg.L_STS.FAULT n) 1).post (ev Code.ST_LANE_SELFTEST_FAIL (srcL n)))
    (s.laneTestEnds ns 2).laneRestart (ns.headD 0)

/-- The bring-up of a self-test ends: CHANNEL if its eye check failed (R233), PASS otherwise. Every lane of the link takes the outcome, and each
is told (DESIGN CHOICE, log entry 134). -/
def State.testBringup (ns : List Nat) (s : State) : State :=
  if ns.any (fun n => (s.lane n).noEq) then
    (s.each ns (fun n s => s.post (ev Code.ST_LANE_CHANNEL_FAIL (srcL n)))).laneTestEnds ns 3
  else
    let asked := ns.any (fun n => (s.lane n).asked)
    let s := s.each ns (fun n s =>
      let s := (s.when asked (·.put (Reg.L_STS.FAULT n) 0)).when ((s.lane n).eye = some 2) (·.setMarginal n)
      s.post (ev Code.ST_LANE_SELFTEST_PASS (srcL n)))
    s.laneTestEnds ns 1

def execLaneSelftestDone (lane : Nat) (step : LaneTestStep) (s : State) : Host.Outcome State Fault Refusal :=
  .next (
    let ns := linkLanes lane
    let at_ := fun (k : Nat) => ns.any (fun n => (s.lane n).test = k)
    match step with
    | .loopback errors => s.when (at_ 1) (·.loopbackEnds ns errors)
    | .bringup =>
      let st := s.get (Reg.L_STS.LINK_STATE lane)
      s.when (at_ 2 && (st = 8 || st = 10)) (·.testBringup ns))

/-! ### Peer links (R248 to R254) -/

/-- A peer link reaches UP. -/
def State.peerUp (l : Nat) (s : State) : State :=
  let s := (s.peerState l 8).post (ev Code.ST_PEER_LINK_UP (srcL (peerLane l)))
  s.when (l = 0) (·.setDue ({ · with seqTx := [], seqRx := [], missing := [], kept := [] }))

/-- State 4 of a peer link (R189, R248): the search locks every lane or the step fails. -/
def State.peerSearch (l : Nat) (o : BringupObs) (s : State) : State :=
  let s := s.laneSearch true (peerLanes l) o
  if s.lanesLocked (peerLanes l) then s.peerState l 5 else s.peerFail l

/-- A peer link's transmitter enters data mode (R192), and its eyes are measured for R233. -/
def State.peerDataMode (l : Nat) (s : State) : State :=
  let s := (s.enterData (96 + l)).setPeer l ({ · with training := false })
  s.each (peerLanes l) State.eyeStart

/-- The condition of state 7 HELLO: an ANNOUNCE has arrived and the eye check passes (R233, R248). -/
def State.peerTryUp (l : Nat) (s : State) : State :=
  let ns := peerLanes l
  if s.eyesBad ns then (s.noEq ns).peerFail l
  else s.when ((s.peer l).annIn.isSome && s.eyesGood ns) (·.peerUp l)

/-- A bring-up state's condition holds on a peer link (the table "Bring-up steps", R247, R248). -/
def State.peerStep (l : Nat) (o : BringupObs) (s : State) : State :=
  let ns := peerLanes l
  match s.peerLink l with
  | 1 => s.when o.ok (fun s => (s.lanesShow ns Reg.L_STS.SIG 1).peerState l 2)
  | 2 => s.when o.ok (fun s => ((s.lanesShow ns Reg.L_STS.CDR 1).each ns State.adapt).peerState l 3)
  | 3 => s.when o.ok (fun s => (s.lanePolarity ns o false).peerState l 4)
  | 4 => s.peerSearch l o
  | 5 => match obsIds true ns o with
    | none => s
    | some ids => (s.laneIds ns ids).peerState l 6
  | 6 =>
    if obsDeskews true ns o then
      (s.setPeer l ({ · with annIn := none, sentAt := none, training := true })).peerState l 7
    else s.peerFail l
  | 7 => if (s.peer l).training then s.when (obsReady true ns o) (·.peerDataMode l) else s.peerTryUp l
  | _ => s

def execPeerBringupStep (link : Nat) (obs : BringupObs) (s : State) : Host.Outcome State Fault Refusal :=
  .next (s.when (link < 9 && s.peerEnabled link && !s.linkHeld (peerLanes link)) (·.peerStep link obs))

def execPeerBringupTimeout (link : Nat) (s : State) : Host.Outcome State Fault Refusal :=
  .next (
    let st := s.peerLink link
    match stepLimit st with
    | none => s
    | some d =>
      if 9 ≤ link || s.now < (s.peer link).since + d then s
      else (s.when (st = 7) (·.noEq (peerLanes link))).peerFail link)

def execPeerRetryTimer (link : Nat) (s : State) : Host.Outcome State Fault Refusal :=
  .next (match (s.peer link).failedAt with
    | none => s
    | some t => s.when (t + 4000000 ≤ s.now) (·.peerRestart link))

/-- ANNOUNCE every 1 ms; changes of ROLE or CEIL send it at once where they are made (R250). -/
def execAnnounce (link : Nat) (s : State) : Host.Outcome State Fault Refusal :=
  .next (
    let due : Bool := match (s.peer link).sentAt with
      | some t => decide (t + 4000000 ≤ s.now)
      | none => true
    s.when (link < 9 && due) (State.announce link))

/-- An ANNOUNCE arrives (R250, R254); the Duet peer's ceiling is what a standby publishes (R329). DESIGN CHOICE (log entry 135):
ST_STN_TWO_MASTERS is limited to once per 1 s on each link. -/
def execAnnounceReceive (link role ceil serial : Nat) (s : State) : Host.Outcome State Fault Refusal :=
  .next (
    if 9 ≤ link || !s.peerData link then s
    else
      let s := s.setPeer link ({ · with annIn := some s.now, annRole := role, annCeil := ceil, annSerial := serial })
      if link = 0 then (s.setDue ({ · with peerCeil := ceil })).refreshCeil
      else s.when (s.get Reg.MER_CTRL.ROLE = 1 && role = 1) (·.postLimited
        (ev Code.ST_STN_TWO_MASTERS (srcL (peerLane link))) link 4000000000))

/-- No ANNOUNCE for 5 ms (R250). -/
def execAnnounceTimeout (link : Nat) (s : State) : Host.Outcome State Fault Refusal :=
  .next (
    let late : Bool := match (s.peer link).annIn with
      | some t => decide (t + 20000000 ≤ s.now)
      | none => decide ((s.peer link).since + 20000000 ≤ s.now)
    s.when (link < 9 && s.peerLink link = 8 && late) (·.peerFail link))

/-- A burst of discards on a peer link (R253): told at most once per ms, with its record, and the lane self-test is due. -/
def State.peerBurst (l : Nat) (s : State) : State :=
  if !s.mayPost Code.ST_PEER_CRC_BURST l 4000000 then s
  else
    let seq := s.get Reg.ERR_LOG_HEAD.HEAD
    let s := s.postLimited (ev Code.ST_PEER_CRC_BURST (srcL (peerLane l))) l 4000000
    (s.errRecord (er Code.ST_PEER_CRC_BURST (srcL (peerLane l)) 0 1 3 (some (peerLane l)))).laneTestDue (peerLanes l) false seq

/-- Packets that a peer receiver discards: counted on link lane 0, and a burst when eight fall within 1 ms. -/
def State.peerDiscard (l n : Nat) (s : State) : State :=
  let s := (s.count (Reg.L_CNT.CNT (peerLane l) 5) n).when (l ≠ 0) (·.pmcAdd (415 + l) n)
  let times := List.replicate (min n 8) s.now ++ (s.peer l).crcTimes.filter (fun t => s.now < t + 4000000)
  let s := s.setPeer l ({ · with crcTimes := times.take 8 })
  s.when (8 ≤ times.length) (·.peerBurst l)

/-- Packets received on a peer link, each from its SOP on link lane 0 on: those that are malformed, of another PTYPE, or whose CRC fails are
discarded (R249, R253), and their block errors counted. -/
def execStPeerCrcBurst (link : Nat) (packets : List (List (Nat × Nat))) (s : State) : Host.Outcome State Fault Refusal :=
  .next (
    if 9 ≤ link || !s.peerData link then s
    else
      let bad := packets.filter (fun p => readPacket [1, 2, 3] (p.map (readBlock true)) ≠ .good)
      (s.each bad (fun p s => s.packetErrors (peerLanes link) true 0 p)).peerDiscard link bad.length)

end Sys2Proof.Machine
end

