-- ==== Sys2Proof/Machine/Calibration.lean ====
section
/-! DEFINITION. The commands of the calibration unit (chapter 09). -/

namespace Sys2Proof.Machine

/-! ### Conditions -/

/-- Whether runs and stitches may take place (R296, R311). -/
def State.calRuns (s : State) : Bool :=
  s.flag Reg.CAL_CTRL.EN && (s.mode = 6 || s.mode = 7 || s.mode = 9) && s.get Reg.DUE_STS.ROLE ≠ 2

/-- Whether a bar has a run, and whether it has a stitch (R296, R312). -/
def State.barRuns (s : State) (b : Nat) : Bool := s.cal.runs.any (·.bar = b)
def State.barStitch (s : State) (b : Nat) : Bool := (s.cal.stitch.map (·.bar)) = some b

/-- Ports that wait without a camera are told once (R296). -/
def State.noCamera (s : State) (p : Nat) : State :=
  let s := s.put Reg.CAL_STS.NO_CAMERA 1
  if s.cal.noCam.contains p then s
  else (s.setCal (fun c => { c with noCam := p :: c.noCam })).post (ev Code.ST_CAL_NO_CAMERA srcCAL none none (s.dataPort p))

def execCalAgeDue (port : Nat) (s : State) : Host.Outcome State Fault Refusal :=
  .next (
    let age := s.get Reg.CAL_TRIG.AGE
    if 96 ≤ port || age = 0 || s.now ≤ s.get (Reg.CAL_PORT_TS.VAL port) * 2 ^ 32 + age * 240000000000 then s
    else s.calDue port 2)

/-! ### Which nozzles a batch takes (R297) -/

/-- What the scan makes of a nozzle: it joins the batch, it is skipped for the run, it waits for a later batch, or it is none of
the run's. -/
inductive Pick where
  | take | skip | later | none
  deriving DecidableEq, Repr

/-- Whether a working nozzle's partner can cover it. -/
def State.canCover (s : State) (gn : Nat) (w : List Nat) : Bool :=
  ePartner w ≠ noPartner && (let sp := s.entry (ePartner w)
    eRole sp = 1 && eState sp = 6 && ePartner sp = gn)

def State.pick (s : State) (batch : List Nat) (gn : Nat) : Pick :=
  let w := s.entry gn
  let partner := ePartner w
  let busy := partner ≠ noPartner && (eState (s.entry partner) = 5 || batch.contains partner)
  let covered := if eRole w = 0 then s.canCover gn w else partner ≠ noPartner && !needsCover (s.entry partner)
  let sep : Int := 10 * s.get Reg.CAL_MARK.XSEP
  if !s.populated gn || !bit (ePolicy w) 3 || eState w = 7 || eState w = 5 then .none
  else if busy then .later
  else if !covered && s.mode ≠ 9 then (if eRole w = 0 then .skip else .none)
  else if batch.any (fun g => decide ((((eXpos (s.entry g) : Int) - eXpos w).natAbs : Int) < sep)) then .later
  else .take

/-- A scan of nozzles: those taken, up to a number, and those skipped. -/
def State.scan (s : State) (limit : Nat) : List Nat → List Nat × List Nat → List Nat × List Nat
  | [], acc => acc
  | g :: gs, acc =>
    if limit ≤ acc.1.length then acc
    else match s.pick acc.1 g with
      | .take => State.scan s limit gs (acc.1 ++ [g], acc.2)
      | .skip => State.scan s limit gs (acc.1, acc.2 ++ [g])
      | _ => State.scan s limit gs acc

/-- A port's nozzles that a run has still to calibrate. -/
def State.runLeft (s : State) (r : CalRun) : List Nat :=
  ((List.range 24576).map (r.port * 24576 + ·)).filter (fun g => s.populated g && !r.done.contains g)

/-! ### Taking (R298, R300) -/

/-- The chain whose gutters a batch fires in: the outgoing one. -/
def State.calChain (s : State) : Nat :=
  (s.shownChain.map (·.id)).getD ((s.job.chains.head?.map (·.id)).getD s.job.nextChain)

/-- The take record of a nozzle, and the nozzle if it is accepted. -/
def State.takeNozzle (s : State) (gn : Nat) : Option CalNoz × State :=
  let w := s.entry gn
  let (ok, s) := s.smpCreate 3 gn 1 (s.get Reg.CAL_RAMP.TAKE) (eSet w 0 0 3 5)
  if ok then (some { gn := gn, pre := w, since := s.now, tap := eTap w }, s.count (Reg.CAL_CNT.CNT 0))
  else (none, s)

def State.takeAll (s : State) (gns : List Nat) : List CalNoz × State :=
  gns.foldl (fun (a : List CalNoz × State) g =>
    let (n, s) := a.2.takeNozzle g
    (match n with
      | some n => a.1 ++ [n]
      | none => a.1, s)) ([], s)

/-- The line n_e that records of a row created now take (R155). -/
def State.calLine (s : State) (k : Nat) : Nat := (s.rowP k + s.get Reg.SMP_MIN_AHEAD.LINES).toNat

/-- A new batch of taken nozzles with its cells. -/
def State.addBatch (s : State) (port bar set : Nat) (noz : List CalNoz) (cells : List Nat) : State :=
  let ahead := (noz.map (fun n => s.calLine (n.gn / 1536))).foldl max 0
  let gns := noz.map (·.gn)
  let id := s.cal.nextId
  let b : CalBatch :=
    { id := id, port := port, bar := bar, chain := s.calChain, set := set, first := ahead + s.get Reg.CAL_RAMP.TAKE, ne := ahead,
      noz := noz, cells := cells.map (fun n => ⟨n, 0, none, gns, gns, [], false⟩), pass := 0, mid := none, voids := 0,
      total := cells.length * noz.length, tsum := 0, tn := 0 }
  (s.setCal (fun c => { c with nextId := id + 1, batches := c.batches ++ [b] })).showTaken

/-! ### The end of a run (R296) -/

/-- A stitch ends, and its RUN descriptors complete. -/
def State.stitchEnds (s : State) (bar status : Nat) : State :=
  ((s.setCal ({ · with stitch := none })).runEnded (fun _ => false) (some bar) status).showTaken

/-- The statistics of a run's CALQ values; of none, they are open. -/
def State.runQuality (s : State) (r : CalRun) : State :=
  let (m, w) : Nat × Nat := if r.qs = [] then (s.open_ 8, s.open_ 16 / 256)
    else ((divOpen r.qs.sum r.qs.length).toNat, r.qs.foldl max 0)
  ((s.drawn).put (Reg.CAL_PORT_STS.QMEAN r.port) m).put (Reg.CAL_PORT_STS.QWORST r.port) w

def State.endRun (s : State) (r : CalRun) : State :=
  let p := r.port
  let s := (s.runQuality r).put (Reg.CAL_PORT_TEMP.TCAL p) (s.get (Reg.CAL_PORT_TEMP.THEAD p))
  let s := (s.put (Reg.CAL_PORT_TS.VAL p) (s.now / 2 ^ 32)).put (Reg.CAL_PORT_STS.DUE p) 0
  let s := (s.put (Reg.CAL_PORT_STS.RUNNING p) 0).setCal (fun c => { c with
    runs := c.runs.filter (·.port ≠ p), noCam := c.noCam.filter (· ≠ p), tcal := (p :: c.tcal).eraseDups })
  let s := s.post (ev Code.ST_CAL_RUN_DONE srcCAL r.returned (r.done.length - r.returned) (s.dataPort p))
  (s.runEnded (fun q => q = p) none (if r.late then Code.ST_CAL_TIMEOUT else Code.ST_OK)).showTaken

/-- A run ends when no batch of it runs and no nozzle is left to take. -/
def State.runOver (s : State) (p : Nat) : State :=
  match s.cal.runs.find? (·.port = p) with
  | none => s
  | some r =>
    let left := (s.runLeft r).filter (fun g => match s.pick [] g with
      | .none => false
      | _ => true)
    if s.cal.batches.any (fun b => b.port = p && b.set = 0) || left ≠ [] then s else s.endRun r

/-! ### Runs and batches -/

/-- A due port starts its run. -/
def State.startRun (s : State) (p b : Nat) : State :=
  let s := (s.setCal (fun c => { c with
    due := c.due.filter (· ≠ p), runs := c.runs ++ [⟨p, b, [], 0, [], false⟩] })).put (Reg.CAL_PORT_STS.RUNNING p) 1
  let s := (s.showTaken).post (ev Code.ST_CAL_RUN_START srcCAL none none (s.dataPort p))
  let lanes := (headLanes p).filter (fun n => s.laneUp n && !s.cal.sweeping.contains n && !s.cal.sweep.contains n)
  let s := s.when (s.flag Reg.CAL_CTRL.LANE_EN) (fun s =>
    (s.setCal (fun c => { c with sweep := c.sweep ++ lanes })).sweepOn)
  s.runOver p

/-- The first due port that may start, in the order in which they became due; ports without a camera are told on the way. -/
def State.startFirst : List Nat → State → State
  | [], s => s
  | p :: ps, s =>
    match s.portBar p with
    | none => State.startFirst ps s
    | some b =>
      if s.barRuns b || s.barStitch b then State.startFirst ps s
      else match s.calCamera b with
        | none => State.startFirst ps (s.noCamera p)
        | some _ => s.startRun p b

/-- The working nozzles that a scan skips. -/
def State.skipUncovered (s : State) (p : Nat) (gns : List Nat) : State :=
  let s := s.setCal (fun c => { c with
    runs := c.runs.map (fun r => if r.port = p then { r with done := r.done ++ gns } else r) })
  s.each gns (fun g s =>
    (s.count (Reg.CAL_CNT.CNT 11)).post (ev Code.ST_CAL_SKIP_UNCOVERED srcCAL none none (s.dataNozzle g)))

def State.formBatch (s : State) (r : CalRun) : State :=
  let (take, skip) := s.scan (s.get Reg.CAL_CFG.BATCH_MAX) (s.runLeft r) ([], [])
  let s := s.skipUncovered r.port skip
  let (noz, s) := s.takeAll take
  let s := if noz = [] then s
    else
      let s := s.addBatch r.port r.bar 0 noz (List.range (16 + s.get Reg.CAL_MARK.NPOS))
      let s := s.assignCells r.bar
      match s.cal.batches.getLast? with
      | some b => s.sharePlan b
      | none => s
  s.runOver r.port

/-! ### Measuring a mark (R302, R303) -/

/-- A measured mark. -/
structure Mark where
  there : Bool
  xc    : Rat
  ym    : Rat

/-- The mark that a cell's sums give (R302): `pitch` is L_ref, `f` the first firing line. -/
def State.mark (s : State) (pitch f : Nat) (m : MarkSum) : Mark :=
  let a : Rat := m.a
  let yc : Rat := (m.aq : Rat) / (2 * a)
  let err : Rat := (s.lineGroup : Nat) * yc - ((f : Nat) + (s.get Reg.CAL_MARK.MLEN : Nat) / 2)
  ⟨decide (m.a ≥ s.get Reg.CAL_DETECT.MIN_A) && m.a ≠ 0, (m.ax : Rat) / a,
    err * (pitch : Nat) / (4294967296 : Nat) * (s.get Reg.CAL_YSCALE.SCALE : Nat) / (65536 : Nat)⟩

/-- What a mark tells of a nozzle. -/
def CalNoz.measured (n : CalNoz) (no : Nat) (m : Mark) : CalNoz :=
  if no < 16 then
    let t : Int := (no : Int) - 8
    { n with thr := n.thr + 1, ton := if m.there then some (match n.ton with
        | some o => min o t
        | none => t) else n.ton }
  else { n with pxs := n.pxs ++ [m.xc], pys := n.pys ++ [m.ym] }

/-- Whether a nozzle has failed: no threshold cell shows a mark. -/
def CalNoz.failed (n : CalNoz) : Bool := n.thr = 16 && n.ton = none

/-- Cells all of whose marks are measured leave; void marks are fired again in a new slot. -/
def CalBatch.tidy (b : CalBatch) : CalBatch :=
  { b with cells := b.cells.filterMap (fun x =>
      if x.left ≠ [] then some x
      else if x.void = [] then none
      else some { x with slot := none, gns := x.void, left := x.void, void := [], fired := false }) }

/-- A nozzle that has failed fires no position cells. -/
def CalBatch.dropFailed (b : CalBatch) : CalBatch :=
  let gone := (b.noz.filter (·.failed)).map (·.gn)
  let keep := fun (l : List Nat) => l.filter (fun g => !gone.contains g)
  { b with cells := (b.cells.map (fun x =>
      if x.no < 16 then x else { x with gns := keep x.gns, left := keep x.left, void := keep x.void })).filter (·.gns ≠ []) }

/-- A batch with more than a quarter of its cells void is abandoned (R302). -/
def State.voidBatch (s : State) (b : CalBatch) : State :=
  let s := s.dropBatch b.id Code.ST_CAL_BATCH_VOID
  if b.set = 0 then s
  else
    let s := s.each ((s.cal.batches.filter (·.set ≠ 0)).map (·.id)) (fun id s => s.dropBatch id Code.ST_CAL_BATCH_VOID)
    s.stitchEnds b.bar Code.ST_CAL_STOPPED

/-- The camera lines that view a cell (R302). -/
def State.cellView (s : State) (f : Nat) : Nat × Nat := (f / s.lineGroup, (f + s.cellLines - 1) / s.lineGroup)

/-- Whether a cell has passed the camera of its bar; without a camera it never will. -/
def State.cellPassed (s : State) (b : CalBatch) (f : Nat) : Bool :=
  match s.calCamera b.bar with
  | none => true
  | some p => (s.cam p).past.any (fun l => l.at_.chain = b.chain && (s.cellView f).2 ≤ l.at_.q)

def State.measureCell (s : State) (b : CalBatch) (x : CalCell) (n : CalNoz) : State :=
  let f := x.slot.getD 0
  let k := n.gn / 1536
  let pitch := ((s.chain? b.chain).map (·.refPitch)).getD 0
  let lost := s.cal.lost.any (fun e => e.1 = k && e.2.1 = b.chain && f ≤ e.2.2 && e.2.2 < f + s.get Reg.CAL_MARK.MLEN)
  let sums := s.markOf n.gn b.chain f
  let m := s.mark pitch f sums
  let gap := sums.gap || sums.lines < (s.cellView f).2 - (s.cellView f).1 + 1
  let void := gap || lost || (16 ≤ x.no && !m.there)
  let s := (s.dropMark sums).when void (fun s => (s.count (Reg.CAL_CNT.CNT 7)).pmcAdd 390)
  let s := s.setBatch b.id (fun b =>
    let b : CalBatch := { b with
      voids := b.voids + void.toNat,
      noz := b.noz.map (fun y => if y.gn = n.gn && !void then y.measured x.no m else y),
      cells := b.cells.map (fun y => if y.no = x.no && y.slot = x.slot then
        { y with left := y.left.filter (· ≠ n.gn), void := if void then y.void ++ [n.gn] else y.void } else y) }
    (b.dropFailed).tidy)
  match s.cal.batches.find? (·.id = b.id) with
  | none => s
  | some c => if c.total < 4 * c.voids then s.voidBatch c else s.assignShare b.bar

/-- A nozzle's cell in the slot that begins at chain line `slot` has passed the camera: cell `cell` of the batch numbered `batch`. -/
def execCalCellMeasure (batch cell gn slot : Nat) (s : State) : Host.Outcome State Fault Refusal :=
  .next (
    let hit := (s.cal.batches.find? (·.id = batch)).bind (fun b =>
      match b.noz.find? (·.gn = gn), b.cells.find? (fun x => x.no = cell && x.slot = some slot && x.left.contains gn) with
      | some n, some x => some (b, x, n)
      | _, _ => none)
    match hit with
    | some (b, x, n) => if s.get Reg.DUE_STS.ROLE = 2 || !s.cellPassed b slot then s else s.measureCell b x n
    | none => s)

/-! ### The end of a pass (R304 to R306) -/

/-- Eighths of a tap for a down-web error (R304, R309). -/
def State.tapStep (s : State) (y tick : Rat) (pitch : Nat) : Int :=
  let unit : Rat := (pitch : Nat) / (4294967296 : Nat) * ((s.get Reg.CAL_YSCALE.SCALE : Nat) / (65536 : Nat)) * (5 / 2)
  ratRound (y * tick / unit)

/-- A nozzle's errors after a pass. -/
def CalNoz.errors (n : CalNoz) (x : Nat) (mid : Rat × Rat) : CalNoz :=
  { n with ex := medianRat n.pxs - (x : Nat) - mid.1, ey := medianRat n.pys - mid.2 }

/-- What a pass decides for a nozzle: finished, or another pass with TAP'. -/
def State.judge (s : State) (b : CalBatch) (tick : Rat) (pitch : Nat) (n : CalNoz) : CalNoz :=
  if n.failed || n.fin then { n with fin := true }
  else
    let tol : Rat := (s.get Reg.CAL_ADJ.YTOL : Nat)
    if -tol ≤ n.ey && n.ey ≤ tol then { n with fin := true }
    else
      let step : Int := 8 * s.get Reg.CAL_ADJ.MAXSTEP
      let t : Int := n.tap - clamp (s.tapStep n.ey tick pitch) (-step) step
      let inside := 0 ≤ t && t ≤ 2047
      { n with tap := (clamp t 0 2047).toNat, clamped := !inside, fin := !(inside && b.pass + 1 < s.get Reg.CAL_ADJ.PASSES) }

/-- r² of R306: the largest of ey², and of the variances of x_c and y_m over the pass's position cells. -/
def CalNoz.spread (n : CalNoz) : Rat :=
  let var := fun (l : List Rat) =>
    let m := l.sum / (l.length : Nat)
    (l.map (fun x => (x - m) * (x - m))).sum / (l.length : Nat)
  max (n.ey * n.ey) (max (var n.pxs) (var n.pys))

/-- CALQ = clamp(ceil(r / 2.5), 1, 254). -/
def CalNoz.calq (n : CalNoz) : Nat :=
  ((List.range 254).map (· + 1)).find? (fun (k : Nat) => decide (n.spread ≤ ((k * k : Nat) : Rat) * (25 / 4))) |>.getD 254

/-- A nozzle's outcome: its STATE, its CALQ and the counter it counts in (the table "Calibration outcomes"). -/
def State.outcome (s : State) (n : CalNoz) : Nat × Nat × Nat :=
  let works := eRole n.pre = 0
  let weak : Bool := match n.ton with
    | some t => decide (7 < t - signed 4 (s.get Reg.CAL_ADJ.TNOM))
    | none => false
  let res : Rat := ((s.get Reg.CAL_ADJ.RES * s.get Reg.CAL_ADJ.RES : Nat))
  if n.failed then
    let runs := (s.cal.missing.lookup n.gn).getD 0 + 1
    let retire := works && s.flag Reg.CAL_CTRL.RETIRE_EN && s.get Reg.CAL_CFG.RETIRE_N ≤ runs
    (if works && !retire then 3 else 7, 255, if works && !retire then 4 else 5)
  else if !works then (6, n.calq, 1)
  else if n.clamped || n.spread > res then (2, n.calq, 3)
  else if weak then (1, n.calq, 2)
  else (0, n.calq, 1)

/-- The entry that a finished nozzle returns with (R306). -/
def State.returnEntry (s : State) (n : CalNoz) (st calq : Nat) : List Nat :=
  let w := eSet (s.entry n.gn) 0 0 3 st
  let w := eSet (eSet w 3 24 8 calq) 7 0 32 (s.now / 2 ^ 32)
  let w := eSet (eSet (eSet w 4 16 16 0) 5 0 32 0) 6 0 32 0
  if n.failed then w
  else
    let w := eSet (eSet w 1 4 11 n.tap) 3 16 8 (unsigned 8 (s.trimOf n * 16))
    eSet (eSet w 2 0 32 (clamp ((eXpos n.pre : Int) + ratOpen n.ex) 0 (2 ^ 32 - 1)).toNat) 3 0 16 (unsigned 16 (ratOpen n.ey))

/-- A finished nozzle returns; a refused record leaves it in its batch for another try. -/
def State.returnNozzle (s : State) (id : Nat) (n : CalNoz) : State :=
  let (st, calq, i) := s.outcome n
  let mask := 1 + 2 ^ 5 + 2 ^ 6 + 2 ^ 7 + 2 ^ 8 + 2 ^ 10 + 2 ^ 11 + 2 ^ 12
  let (ok, s) := s.smpCreate 3 n.gn mask (s.get Reg.CAL_RAMP.RET) (s.returnEntry n st calq)
  if !ok then s
  else
    let s := (s.count (Reg.CAL_CNT.CNT i)).when n.failed
      (·.post (ev Code.ST_CAL_NOZ_FAIL srcCAL none none (s.dataNozzle n.gn)))
    let runs := (s.cal.missing.lookup n.gn).getD 0 + 1
    let s := s.setCal (fun c => { c with
      missing := if n.failed && eRole n.pre = 0 && st = 3 then Sparse.insert n.gn runs c.missing else Sparse.erase n.gn c.missing,
      runs := c.runs.map (fun r => if r.port = n.gn / 24576 then
        { r with done := r.done ++ [n.gn], returned := r.returned + 1, qs := if calq = 255 then r.qs else r.qs ++ [calq] } else r) })
    s.setBatch id (fun b => { b with noz := b.noz.filter (·.gn ≠ n.gn) })

/-- A nozzle's pass record (R304): TAP alone, at once. -/
def State.passRecord (s : State) (id : Nat) (n : CalNoz) : State :=
  let (ok, s) := s.smpCreate 3 n.gn 32 0 (eSet (s.entry n.gn) 1 4 11 n.tap)
  s.setBatch id (fun b => { b with
    noz := b.noz.map (fun y => if y.gn = n.gn then { y with pxs := if ok then [] else y.pxs, pys := if ok then [] else y.pys, fin := !ok }
      else y) })

/-- The nozzles that go on fire NPOS more position cells. -/
def State.nextPass (s : State) (id : Nat) (b : CalBatch) : State :=
  let on := b.noz.filter (!·.fin)
  if on = [] then s
  else
    let gns := on.map (·.gn)
    let npos := s.get Reg.CAL_MARK.NPOS
    let ahead := (on.map (fun n => s.calLine (n.gn / 1536))).foldl max 0
    let cells := (List.range npos).map (fun i => (⟨16 + npos * (b.pass + 1) + i, b.pass + 1, none, gns, gns, [], false⟩ : CalCell))
    (s.count (Reg.CAL_CNT.CNT 8)).setBatch id (fun b => { b with
      pass := b.pass + 1, first := ahead, cells := b.cells ++ cells, total := b.total + npos * gns.length, tsum := 0, tn := 0 })

/-- The mean voted TICK over the pass's firing lines. -/
def State.passTick (s : State) (b : CalBatch) : Rat :=
  if b.tn = 0 then (s.get Reg.TRK_TICK.TICK : Nat) else ((b.tsum : Nat) : Rat) / (b.tn : Nat)

/-- A batch without nozzles is over. -/
def State.closeBatch (s : State) (id : Nat) : State :=
  match s.cal.batches.find? (·.id = id) with
  | none => s
  | some b =>
    if b.noz ≠ [] then s.showTaken
    else
      let s := (s.planGone b).setCal (fun c => { c with batches := c.batches.filter (·.id ≠ id) })
      let s := s.when (s.cal.batches = []) (·.setCal ({ · with lost := [] }))
      (s.showTaken).when (b.set = 0) (·.runOver b.port)

/-- A pass of a run's batch ends. -/
def State.endPass (s : State) (b : CalBatch) : State :=
  let meas := b.noz.filter (fun n => !n.failed && !n.fin)
  let x := fun (n : CalNoz) => eXpos (s.entry n.gn)
  let mid := b.mid.getD (medianRat (meas.map (fun n => medianRat n.pxs - (x n : Nat))), medianRat (meas.map (fun n => medianRat n.pys)))
  let pitch := ((s.chain? b.chain).map (·.refPitch)).getD (s.get64 (Reg.TRK_ROW_PITCH.PAIR (s.get Reg.TRK_REF.REF_ROW)))
  let tick := s.passTick b
  let noz := b.noz.map (fun n => s.judge b tick pitch (if n.failed || n.fin then n else n.errors (x n) mid))
  let s := s.setBatch b.id (fun b => { b with noz := noz, mid := some mid })
  let s := s.each (noz.filter (fun (n : CalNoz) => !n.fin)) (fun n s => s.passRecord b.id n)
  let s := match s.cal.batches.find? (·.id = b.id) with
    | some c => s.nextPass b.id c
    | none => s
  let s := match s.cal.batches.find? (·.id = b.id) with
    | some c => s.each (c.noz.filter CalNoz.fin) (fun n s => s.returnNozzle b.id n)
    | none => s
  (s.closeBatch b.id).assignShare b.bar

/-! ### Stitching (R308, R309) -/

/-- The printers of a port in the target image. -/
def State.printers (s : State) (p : Nat) : List Nat :=
  (List.range 12288).filterMap (fun i =>
    let g := p * 24576 + i / 1536 * 3072 + i % 1536
    match s.targetPrinter g with
    | 1 => some g
    | 2 => some (g + 1536)
    | _ => none)

/-- Insert a port by the mean XPOS of its printers. -/
def insertPort (x : Nat × Rat) : List (Nat × Rat) → List (Nat × Rat)
  | [] => [x]
  | y :: ys => if x.2 ≤ y.2 then x :: y :: ys else y :: insertPort x ys

/-- A bar's ports in that order. -/
def State.stitchPorts (s : State) (b : Nat) : List Nat :=
  let ports := ((s.barRows b).map (· / 16)).eraseDups
  let means := ports.filterMap (fun p =>
    let g := s.printers p
    if g = [] then none else some (p, ((g.map (fun n => eXpos (s.entry n))).sum : Rat) / (g.length : Nat)))
  ((means.foldr insertPort []).map (·.1))

/-- A port's TAPs stay in range under a change. -/
def State.tapsFit (s : State) (p : Nat) (d : Int) : Bool :=
  (List.range 24576).all (fun i =>
    let g := p * 24576 + i
    !s.populated g || (0 ≤ (eTap (s.entry g) : Int) + d && (eTap (s.entry g) : Int) + d ≤ 2047))

/-- The corrections that a stitch of a bar asks for, port by port from the left; once a port's TAP would leave its range, it and those to
its right get no TAP change. -/
def State.applyPorts (apX apY : Bool) : List (Nat × Rat × Rat) → Bool → State → State
  | [], _, s => s
  | (p, cx, cy) :: rest, out, s =>
    let pitch := ((s.shownChain).map (·.refPitch)).getD (s.get64 (Reg.TRK_ROW_PITCH.PAIR (s.get Reg.TRK_REF.REF_ROW)))
    let dt := -s.tapStep cy (s.get Reg.TRK_TICK.TICK : Nat) pitch
    let out := out || (apY && !s.tapsFit p dt)
    let s := if out then
        (s.put (Reg.CAL_PORT_STS.ST_RANGE p) 1).post (ev Code.ST_CAL_STITCH_RANGE srcCAL none none (s.dataPort p))
      else s.put (Reg.CAL_PORT_STS.ST_RANGE p) 0
    let yes := apY && !out
    let mask := (if apX then 2 ^ 7 else 0) + (if yes then 2 ^ 5 else 0)
    let rows := (List.range 16).map (16 * p + ·) |>.filter (fun k => s.rowCols k ≠ 0)
    let s := s.when (mask ≠ 0) (·.setCal (fun c => { c with
      apply := c.apply ++ rows.map (fun k => (k, mask, (if apX then -ratOpen cx else 0), (if yes then dt else 0))) }))
    State.applyPorts apX apY rest out s

/-- A stitch ends: it is told, and its corrections are made. -/
def State.stitchDone (s : State) (t : Stitch) : State :=
  let s := s.post (ev Code.ST_CAL_STITCH_DONE srcCAL none none (dataBar t.bar))
  let s := State.applyPorts (s.flag Reg.CAL_STITCH_CTRL.APPLY_X) (s.flag Reg.CAL_STITCH_CTRL.APPLY_Y) t.cs.reverse false s
  let s := State.applyNext s.cal.apply.length s
  s.stitchEnds t.bar Code.ST_OK

/-- A port's stitch result. -/
def State.showStitch (s : State) (p : Nat) (cx cy : Rat) : State :=
  ((s.putSat (Reg.CAL_PORT_STITCH.DX p) (ratOpen cx)).putSat (Reg.CAL_PORT_STITCH.DY p) (ratOpen cy)).put (Reg.CAL_PORT_STS.ST_VALID p) 1

/-- Order a port's printers by XPOS, rising. -/
def insertBy (f : Nat → Nat) (x : Nat) : List Nat → List Nat
  | [] => [x]
  | y :: ys => if f x ≤ f y then x :: y :: ys else y :: insertBy f x ys

/-- The next pair of a stitch takes its nozzles and fires; a pair of which no nozzle can be taken ends the stitch, and so does the
last. -/
def State.stitchPair (s : State) (t : Stitch) : State :=
  match t.ports.drop t.pair with
  | a :: b :: _ =>
    let k := s.get Reg.CAL_STITCH_CTRL.K
    let byX := fun (l : List Nat) => l.foldr (insertBy (fun g => eXpos (s.entry g))) []
    let ga := (s.scan k (byX (s.printers a)).reverse ([], [])).1
    let gb := (s.scan k (byX (s.printers b)) ([], [])).1
    let (na, s) := s.takeAll ga
    let (nb, s) := s.takeAll gb
    let npos := s.get Reg.CAL_MARK.NPOS
    let cells := (List.range npos).map (16 + ·)
    let s := s.setCal ({ · with stitch := some t })
    let s := s.when (na ≠ []) (·.addBatch a t.bar 1 na cells)
    let s := s.when (nb ≠ []) (·.addBatch b t.bar 2 nb cells)
    if na = [] || nb = [] then
      let s := s.each ((s.cal.batches.filter (·.set ≠ 0)).map (·.id)) (fun id s => s.dropBatch id Code.ST_CAL_STOPPED)
      s.stitchEnds t.bar Code.ST_CAL_STOPPED
    else s.assignShare t.bar
  | _ => s.stitchDone t

/-- The first stitch that may start does: no run of its bar is under way (R312). -/
def State.tryStitch (s : State) : State :=
  if s.cal.stitch.isSome || !s.calRuns then s
  else match s.cal.stitchQ.find? (fun b => !s.barRuns b && (s.calCamera b).isSome) with
    | none => s
    | some b =>
      let s := s.setCal (fun c => { c with stitchQ := c.stitchQ.filter (· ≠ b) })
      let ports := s.stitchPorts b
      let t : Stitch := ⟨b, ports, 0, (ports.take 1).map (fun p => (p, 0, 0)), none⟩
      let s := s.each (ports.take 1) (fun p s => s.showStitch p 0 0)
      ((s.setCal ({ · with stitch := some t })).showTaken).stitchPair t

/-- A stitch set is measured: its errors, and its nozzles return with their values before the take. -/
def State.endSet (s : State) (b : CalBatch) (t : Stitch) : State :=
  let ex := medianRat (b.noz.map (fun n => medianRat n.pxs - (eXpos n.pre : Nat)))
  let ey := medianRat (b.noz.map (fun n => medianRat n.pys))
  let s := s.each b.noz (fun n s => (s.smpCreate 3 n.gn 1 (s.get Reg.CAL_RAMP.RET) n.pre).2)
  let s := (s.planGone b).setCal (fun c => { c with batches := c.batches.filter (·.id ≠ b.id) })
  let s := s.showTaken
  match t.ea, t.cs with
  | some (ax, ay), (_, cx, cy) :: _ =>
    if b.set = 1 then s
    else
      let c := (cx + ex - ax, cy + ey - ay)
      let u : Stitch := { t with pair := t.pair + 1, cs := (b.port, c) :: t.cs, ea := none }
      ((s.showStitch b.port c.1 c.2).setCal ({ · with stitch := some u })).stitchPair u
  | _, _ => s.setCal ({ · with stitch := some { t with ea := some (ex, ey) } })

/-- A batch all of whose cells are measured ends its pass. -/
def execCalPassEnd (batch : Nat) (s : State) : Host.Outcome State Fault Refusal :=
  .next (match s.cal.batches.find? (·.id = batch) with
    | none => s
    | some b =>
      if b.cells ≠ [] || s.get Reg.DUE_STS.ROLE = 2 then s
      else if b.set = 0 then (s.endPass b).tryStitch
      else match s.cal.stitch with
        | some t => if b.set = 2 && t.ea.isNone then s else (s.endSet b t).tryStitch
        | none => s)

def execCalRunStart (s : State) : Host.Outcome State Fault Refusal :=
  .next (if !s.calRuns then s
    else if 2 ≤ s.get Reg.ERR_STS.SHED then s.when (s.cal.due ≠ []) (·.pmcAdd 434)
    else State.startFirst s.cal.due s.tryStitch)

def execCalBatchForm (port : Nat) (s : State) : Host.Outcome State Fault Refusal :=
  .next (match s.cal.runs.find? (·.port = port) with
    | none => s
    | some r => if !s.calRuns then s
      else if 2 ≤ s.get Reg.ERR_STS.SHED then s.pmcAdd 434 else (s.formBatch r).tryStitch)

/-- GO of CAL_STITCH_CTRL, which no lock stops. -/
def State.stitchGo (s : State) (data : Word) : State :=
  let b := wbits data 12 4
  let s := s.setCal (fun c => { c with stitchQ := if c.stitchQ.contains b then c.stitchQ else c.stitchQ ++ [b] })
  s.tryStitch

def State.stitchWrite (s : State) (slot : Nat) (data : Word) : State :=
  let k := wbits data 0 8
  if !s.lockedAt Reg.CAL_STITCH_CTRL.AT && k < 4 then s.put Reg.CAL_STS.CFG_ERR 1
  else s.trigger slot Reg.CAL_STITCH_CTRL.AT data 10 (·.stitchGo data)

def execGo (slot : Nat) (data : Word) (s : State) : Host.Outcome State Fault Refusal :=
  .next (s.ownerWrite slot Reg.CAL_STITCH_CTRL.AT (·.stitchWrite slot data))

/-! ### Descriptors, STOP and MAX_TIME -/

/-- The head descriptor of a calibration ring of one KIND. -/
def State.calHead (s : State) (r kind : Nat) : Option Desc :=
  if s.ringType r ≠ 5 then none else (s.headDesc r).filter (·.kind = kind)

/-- A RUN body outside its ranges. -/
def Desc.runBad (d : Desc) : Bool :=
  let stitch := bit (d.at_ 16 2) 0
  2 ≤ d.at_ 16 2 || 16 ≤ d.at_ 20 1 || (!stitch && (d.at_ 19 1 = 0 || 96 < d.at_ 18 1 + d.at_ 19 1))
    || leAt d.bytes 21 3 ≠ 0 || leAt d.bytes 24 32 ≠ 0

def execRun (ring : Nat) (s : State) : Host.Outcome State Fault Refusal :=
  .next (match s.calHead ring 2 with
    | none => s
    | some d =>
      let s := s.markStarted ring d.index
      if d.runBad then s.complete ring d.index Code.ST_DESC_FORMAT
      else if bit (d.at_ 16 2) 0 then
        let b := d.at_ 20 1
        let s := s.setCal (fun c => { c with
          descs := c.descs ++ [⟨ring, d.index, [], some b, Code.ST_OK⟩],
          stitchQ := if c.stitchQ.contains b then c.stitchQ else c.stitchQ ++ [b] })
        s.tryStitch
      else
        let ports := (List.range (d.at_ 19 1)).map (d.at_ 18 1 + ·)
        let s := s.setCal (fun c => { c with descs := c.descs ++ [⟨ring, d.index, ports, none, Code.ST_OK⟩] })
        s.each ports (fun p s => s.calDue p 4))

/-- A GUTTER body outside its ranges. -/
def Desc.gutterBad (d : Desc) : Bool :=
  2 ≤ d.at_ 20 1 || d.at_ 32 4 < 16 || 16777216 < d.at_ 32 4 || leAt d.bytes 21 3 ≠ 0 || leAt d.bytes 36 20 ≠ 0

/-- The part of a band that is usable on its bars (R299). -/
def State.gutterFrom (s : State) (c : Chain) (mask first : Nat) : Nat :=
  (bitList 16 mask).foldl (fun m b => max m (s.barHigh b c + s.get Reg.SMP_MIN_AHEAD.LINES).toNat) first

def execGutter (ring : Nat) (s : State) : Host.Outcome State Fault Refusal :=
  .next (match s.calHead ring 1 with
    | none => s
    | some d =>
      let late := fun (s : State) => (s.markStarted ring d.index).complete ring d.index Code.ST_CAL_GUTTER_LATE
      if d.gutterBad then (s.markStarted ring d.index).complete ring d.index Code.ST_DESC_FORMAT
      else match s.job.jobs.find? (·.id = d.at_ 16 2) with
        | none => late s
        | some j =>
          if farLine ≤ j.z then s
          else match s.chain? j.chain with
            | none => late s
            | some c =>
              let first := j.z + d.at_ 24 8
              let last := first + d.at_ 32 4 - 1
              let lo := s.gutterFrom c (d.at_ 18 2) first
              if last < lo then late s
              else
                let g : Gutter := ⟨c.id, d.at_ 18 2, lo, last, bit (d.at_ 20 1) 0⟩
                let s := s.setCal (fun x => { x with bands := x.bands ++ [g] })
                let s := (s.markStarted ring d.index).complete ring d.index Code.ST_OK
                s.each (bitList 16 g.bars) (fun b s => s.assignShare b))

def State.calCtrlWrite (s : State) (slot : Nat) (data : Word) : State :=
  s.trigger slot Reg.CAL_CTRL.AT data 4 (·.calStop Code.ST_CAL_STOPPED)

def execStop (slot : Nat) (data : Word) (s : State) : Host.Outcome State Fault Refusal :=
  .next (s.ownerWrite slot Reg.CAL_CTRL.AT (·.calCtrlWrite slot data))

/-- Nozzles that have been CALIBRATING for MAX_TIME are abandoned (R307). -/
def State.timeOut (s : State) (b : CalBatch) (n : CalNoz) : State :=
  let s := (s.calRestore n Code.ST_CAL_TIMEOUT).setBatch b.id (·.without n.gn)
  let s := s.setCal (fun c => { c with
    runs := c.runs.map (fun r => if r.port = b.port && b.set = 0 then { r with done := r.done ++ [n.gn], late := true } else r) })
  s.closeBatch b.id

def execStCalTimeout (s : State) : Host.Outcome State Fault Refusal :=
  .next (
    let limit := s.get Reg.CAL_CFG.MAX_TIME * 4000000000
    let old := s.cal.batches.flatMap (fun b => (b.noz.filter (fun n => n.since + limit ≤ s.now)).map (fun n => (b, n)))
    if s.get Reg.DUE_STS.ROLE = 2 then s
    else
      let s := s.each old (fun e s => s.timeOut e.1 e.2)
      match s.cal.stitch with
      | some t => if s.cal.batches.any (fun b => b.set ≠ 0) || !old.any (fun e => e.1.set ≠ 0) then s
        else s.stitchEnds t.bar Code.ST_CAL_TIMEOUT
      | none => s.tryStitch)

/-! ### Lane recalibration (R310) -/

/-- The head and peer lanes that are UP. -/
def State.upLanes (s : State) : List Nat := (List.range 256).filter (fun n => linkLane n && s.laneUp n)

/-- The lanes whose domain's temperature has moved by DIE_DT since their last re-adaptation. -/
def State.movedLanes (s : State) : List Nat :=
  let d := s.get Reg.CAL_LANE.DIE_DT
  s.upLanes.filter (fun n => d ≠ 0 && (match (s.lane n).tempAt with
    | some t => decide (16 * d ≤ (s.laneTemp n - t).natAbs)
    | none => false))

def execCalLaneSweep (s : State) : Host.Outcome State Fault Refusal :=
  .next (
    let period := s.get Reg.CAL_LANE.PERIOD
    let idle := s.cal.sweep = [] && s.cal.sweeping = []
    if !s.flag Reg.CAL_CTRL.LANE_EN then s
    else if period ≠ 0 && idle && s.cal.sweepAt + period * 4000000000 ≤ s.now then
      let lanes := s.upLanes
      let s := s.setCal ({ · with sweepAt := s.now, sweep := lanes, periodic := lanes ≠ [] })
      if lanes = [] then s.post (ev Code.ST_CAL_LANE_DONE srcCAL) else s.sweepOn
    else
      let lanes := s.movedLanes.filter (fun n => !s.cal.sweep.contains n && !s.cal.sweeping.contains n)
      (s.setCal (fun c => { c with sweep := c.sweep ++ lanes })).sweepOn)

/-! ### The end of a chain (R76, R97, R269, R307) -/

def execChainEnd (s : State) : Host.Outcome State Fault Refusal :=
  .next (match s.flying.find? s.chainDone with
    | none => s
    | some c =>
      let s := s.closeChainFrames c.id
      let next := s.chainAfter c.id
      let s := (((s.pagesDone.finishChain c).refire c.id next).pagesDone).settleMove.refreshCeil
      s.each ((s.cal.batches.map (·.bar)).eraseDups) (fun b s => s.assignShare b))

end Sys2Proof.Machine
end

