-- ==== Sys2Proof/Machine/MotionCmds.lean ====
section
/-! DEFINITION. The commands of bar motion (chapter 15). -/

namespace Sys2Proof.Machine

/-- A write of AXn_CMD by a slot, with an ACT and, for START, its segments. -/
def State.axisWrite (s : State) (slot n act first last : Nat) : State :=
  if 4 ≤ n then s
  else s.ownerWrite slot (Reg.AX_CMD.AT n) (fun s =>
    (s.motionCmd n (BitVec.ofNat 32 (act + 256 * (first % 64) + 65536 * (last % 64)))).outputs)

def execAxStart (slot ax first last : Nat) (s : State) : Host.Outcome State Fault Refusal :=
  .next (s.axisWrite slot ax 1 first last)
def execAxGoto (slot ax : Nat) (s : State) : Host.Outcome State Fault Refusal := .next (s.axisWrite slot ax 2 0 0)
def execAxMoveStop (slot ax : Nat) (s : State) : Host.Outcome State Fault Refusal := .next (s.axisWrite slot ax 3 0 0)
def execAxResume (slot ax : Nat) (s : State) : Host.Outcome State Fault Refusal := .next (s.axisWrite slot ax 4 0 0)
def execAxEnable (slot ax : Nat) (s : State) : Host.Outcome State Fault Refusal := .next (s.axisWrite slot ax 5 0 0)
def execAxDisable (slot ax : Nat) (s : State) : Host.Outcome State Fault Refusal := .next (s.axisWrite slot ax 6 0 0)
def execAxSetPos (slot ax : Nat) (s : State) : Host.Outcome State Fault Refusal := .next (s.axisWrite slot ax 7 0 0)

def execAxTarget (slot ax : Nat) (data : Word) (s : State) : Host.Outcome State Fault Refusal :=
  .next (if 4 ≤ ax then s else s.ownerWrite slot (Reg.AX_TARGET.AT ax) (·.motionTarget ax data))

/-- REMAIN_SET (R477): accepted only in OFF or STANDING, discarded and counted otherwise. -/
def State.remainSet (s : State) (n : Nat) (v : Int) : State :=
  let s := s.cmdFrame 0x1B (n + 4 * unsigned 32 v)
  if (s.axis n).st = .off || (s.axis n).st = .standing then s.setAxis n ({ · with remain := v })
  else (s.put Reg.MOT_EVT.FRAME_DROP 1).count (Reg.FLD_CNT.CNT 7)

def execAxRemainSet (ax : Nat) (value : Int) (s : State) : Host.Outcome State Fault Refusal :=
  .next (s.when (ax < 4) (·.remainSet ax value))

def execMotionControlTick (enc : List Int) (sense : MotionSense) (s : State) : Host.Outcome State Fault Refusal :=
  .next (s.when (s.fld.state ≠ .off && s.fld.state ≠ .pwrFail) (fun s => (s.controlTick enc sense.est sense.cs).outputs))

/-- A stall or following error: of a lift, its end at the hard stop or its failure (R476); of a move, its end (R473). -/
def State.axisFault (s : State) (n : Nat) (stall : Bool) : State :=
  let s := (s.pmcAdd (468 + n)).count (Reg.MOT_CNT.CNT 2)
  if (s.axis n).st = .emergency && stall && (s.axis n).hardStop then s.parked n true
  else
    let lift := (s.axis n).st = .emergency
    let s := if lift then (s.liftEnds n).parkFail n else s.axisFail n
    let s := if stall then s.axisTold n 0x10 0 (fun s => (s.put (Reg.AX_EVT.STALL n) 1).post (ev Code.ST_MOT_STALL (srcAX n)))
      else s.axisTold n 0x11 0 (fun s => (s.put (Reg.AX_EVT.FOLLOW n) 1).post (ev Code.ST_MOT_FOLLOW (srcAX n)))
    s.when (s.gantry && n < 2 && stall) (fun s =>
      match (s.axis (1 - n)).st with
      | .table | .plan => s.setAxis (1 - n) (fun x => { x with
          st := .stopping,
          phases := velPhases x.motion 0 (256 * s.fget (Reg.AX_STOP_A.VAL 0)) (65536 * s.fget (Reg.AX_STOP_J.VAL 0)) })
      | _ => s)

def execStMotStall (ax : Nat) (s : State) : Host.Outcome State Fault Refusal :=
  .next (s.when (ax < 4 && (s.axis ax).st.moving && s.fget (Reg.AX_ADAPT.STALL_T ax) ≤ (s.axis ax).stallT)
    (fun s => (s.axisFault ax true).outputs))

/-- |P − E| beyond LIM for 1 ms: 100 control ticks. -/
def execStMotFollow (ax : Nat) (s : State) : Host.Outcome State Fault Refusal :=
  .next (s.when (ax < 4 && (s.axis ax).st.moving && 100 ≤ (s.axis ax).followT) (fun s => (s.axisFault ax false).outputs))

/-- A coil or current-sense fault (R474): OFF at once; in a lift PARK_FAIL as well (R479). -/
def State.coilFault (s : State) (n coil : Nat) : State :=
  let st := (s.axis n).st
  let s := s.when (st = .emergency) (·.parkFail n)
  let s := s.when (st = .table || st = .plan || st = .stopping) (·.moveShort n .standing)
  (s.axisOff n).axisTold n 0x14 coil (fun s => (s.put (Reg.AX_EVT.COIL n) 1).post (ev Code.ST_MOT_COIL (srcAX n) coil))

/-- A coil of an axis: 0 A, 1 B. -/
def State.coil (s : State) (n k : Nat) : Coil := if k = 0 then (s.axis n).coils.1 else (s.axis n).coils.2

/-- A coil has been weak, or its CS input at an end of its span, for 200 µs: 20 control ticks (R474). -/
def execStMotCoil (ax coil : Nat) (s : State) : Host.Outcome State Fault Refusal :=
  .next (s.when (ax < 4 && coil < 2 && (s.axis ax).st ≠ .off && (20 ≤ (s.coil ax coil).weak || 20 ≤ (s.coil ax coil).rail))
    (fun s => (s.coilFault ax coil).outputs))

/-- BRK_DELAY ms after ENABLE the axis is STANDING; after an entry to OFF its bridges turn off (R475). -/
def execBrakeDelay (ax : Nat) (s : State) : Host.Outcome State Fault Refusal :=
  .next (
    if s.now < (s.axis ax).brkAt + s.brkDelay ax then s
    else match (s.axis ax).brkPend with
    | some true => (s.setAxis ax ({ · with st := .standing, restAt := s.now, brkPend := none })).outputs
    | some false => s.setAxis ax ({ · with bridges := false, cur := 0, brkPend := none })
    | none => s)

/-- After HOLD_DELAY ms at rest I is IHOLD (R469). -/
def execHoldDelay (ax : Nat) (s : State) : Host.Outcome State Fault Refusal :=
  .next (s.when (ax < 4 && (s.axis ax).st = .standing
      && (s.axis ax).restAt + 4000000 * s.fget (Reg.AX_CUR2.HOLD_DELAY ax) ≤ s.now)
    (fun s => s.setAxis ax ({ · with atHold := true, cur := 1000000 * s.fget (Reg.AX_CUR2.IHOLD ax) })))

/-- The motion descriptor at the ring's head (R478). -/
def State.motionDesc (s : State) (r : Nat) (d : Desc) : State :=
  let op := d.at_ 16 1
  let n := d.at_ 17 1
  let s := s.markStarted r d.index
  if op = 0 then s.complete r d.index Code.ST_DESC_FORMAT
  else if d.at_ 24 32 ≠ 0 || 7 < op || 3 < n || (op = 1 && (63 < d.at_ 18 1 || 63 < d.at_ 19 1)) then
    s.complete r d.index Code.ST_MOT_REFUSED 0
  else
    let s := if (op = 2 || op = 7) && (s.axisBar n).isNone then
        (s.cmdFrame 0x1A (n + 4 * d.at_ 20 4)).axisTarget n (signed 32 (d.at_ 20 4)) else s
    let (first, last) := if op = 1 then (d.at_ 18 1, d.at_ 19 1) else (0, 0)
    ((s.cmdFrame 0x19 (n + 4 * op + 32 * first + 2048 * last)).axisMove n op first last (some (r, d.index))).outputs

/-- A motion descriptor starts unless motion is held (R468). -/
def execMotionDescriptor (ring : Nat) (s : State) : Host.Outcome State Fault Refusal :=
  .next (match s.headDesc ring with
    | none => s
    | some d =>
      if s.ringType ring ≠ 4 || 0x40 ≤ d.at_ 16 1 || s.flag Reg.DUE_STS.MOT_HELD then s else s.motionDesc ring d)

end Sys2Proof.Machine
end

