-- ==== Sys2Proof/Machine/Duet.lean ====
section
/-! DEFINITION. The Duet: pairing, heartbeats, the peer's reports, orders, the state copy, the gate and the Allemande (chapter 10,
and R249, R252 of chapter 07). -/

namespace Sys2Proof.Machine

def State.duetRole (s : State) : Nat := s.get Reg.DUE_STS.ROLE

/-! ### Duet settings (R316) -/

/-- The words of the Duet settings, in the order that R316 lists them: the row table, the bar array, TRK_CFG without LEAD, the FAB bar
array, SENSE_DIV, NEXT and HP_HEAD_CMD of every port, ROLE and SMP_MIN_AHEAD. -/
def State.duetSettings (s : State) : List Nat :=
  let w := fun (a : Nat) => (s.word a).toNat
  (List.range 1536).flatMap (fun k => (List.range 6).map (fun i => w ((Reg.TRK_ROW_POS.AT k) + 4 * i)))
    ++ (List.range 16).flatMap (fun b => [s.get (Reg.TRK_BAR_S.VAL b), s.get (Reg.TRK_BAR_B.VAL b)])
    ++ [(s.put Reg.TRK_CFG.LEAD 0).word Reg.TRK_CFG.AT |>.toNat]
    ++ (List.range 16).flatMap (fun b => [s.get (Reg.FAB_BAR_SX.VAL b), s.get (Reg.FAB_BAR_BX.VAL b)])
    ++ (List.range 96).map (fun p => s.get (Reg.HP_CFG.SENSE_DIV p))
    ++ (List.range 96).flatMap (fun p => (List.range 16).map (fun r => s.get (Reg.HP_ROW_WAVE.NEXT p r)))
    ++ (List.range 96).map (fun p => s.get (Reg.HP_HEAD_CMD.MODE p))
    ++ [s.get Reg.MER_CTRL.ROLE, s.get Reg.SMP_MIN_AHEAD.LINES]

/-- DUE_CFG_DIGEST: the CRC-32 of the Duet settings, four bytes to a word. -/
def State.cfgDigest (s : State) : Nat := crc32Bytes (s.duetSettings.flatMap (leBytes 4))

def State.showDigest (s : State) : State := s.put Reg.DUE_CFG_DIGEST.DIGEST s.cfgDigest

/-! ### The field outputs and motion at a change of owner (R332, R334) -/

/-- The shared outputs are driven from the copied states. -/
def State.driveCopied (s : State) : State := s.outSet (BitVec.ofNat 32 s.due.outCopy)

/-- AXn_REMAIN takes the difference where a copied target is not the encoder's position (R334). -/
def State.remainCopied (s : State) : State :=
  s.each s.due.axisCopy (fun e s =>
    let enc := (s.axis e.1).enc
    s.when (e.1 < 4 && e.2.target ≠ enc) (·.remainSet e.1 (e.2.target - enc)))

/-- Motion runs again (R333, R334). -/
def State.motionFree (s : State) : State :=
  s.when (s.flag Reg.DUE_STS.MOT_HELD) (fun s => (s.put Reg.DUE_STS.MOT_HELD 0).releaseMotion)

/-- A member becomes SOLO: its own outputs and motion, and no swap, order or gate (R331). -/
def State.becomeSolo (s : State) : State :=
  let s := (s.setRole 0).setDue (fun d => { d with
    claimAt := none, bothAt := none, raising := false, orders := [], digests := [], missing := [], pairAt := none, peerPair := none,
    discipline := false, swapped := none })
  s.motionFree

/-- At a switchover the new primary gives up the batches whose measurement is incomplete (R311). -/
def State.dropCopied (s : State) : State := s.each (s.cal.batches.map (·.id)) (fun id s => s.dropBatch id Code.ST_CAL_STOPPED)

/-! ### Pairing (R318, R319) -/

/-- Whether this member is the prospective primary: by PREF, and side A where PREF does not tell. -/
def State.wouldLead (s : State) : Bool :=
  let mine := s.get Reg.DUE_CFG.PREF
  if mine ≠ s.due.peerPref then mine = 1 else s.get Reg.DUE_CFG.SIDE = 0

/-- Pairing fails with PAIR_RESULT `code`: both stay as they were (R318). -/
def State.pairFails (s : State) (code : Nat) : State :=
  let s := s.setDue ({ · with pairAt := none, peerPair := none, discipline := false })
  (s.put Reg.DUE_STS.PAIR_RESULT code).post (ev Code.ST_DUE_PAIR_FAIL srcDUE (some code))

/-- Whether this member is in a mode and a role that may pair, with no chain in flight (R318, R338). -/
def State.mayPair (s : State) : Bool := s.modeIn 3 4 && (s.duetRole = 0 || s.duetRole = 4) && s.flying = []

/-- Both members have written PAIR: the prospective standby disciplines its Meridian to its peer. -/
def State.pairSettle (s : State) : State :=
  s.when (s.due.pairAt.isSome && s.due.peerPair.isSome && !s.wouldLead) (fun s =>
    (s.setDue ({ · with discipline := true })).setTb ({ · with goodRun := 0, stepped := false, missed := 0, rtts := [] }))

/-- DUE_CTRL.PAIR on this member. -/
def State.pairOwn (s : State) : State :=
  let s := s.showDigest
  if !s.mayPair then s.pairFails 8
  else if !s.duetUp then s.pairFails 7
  else (s.setDue ({ · with pairAt := some s.now })).pairSettle

/-- A write of DUE_CTRL (R340): DETACH, SWAP, UNPAIR and PAIR act as their rules state. -/
def State.dueCtrlWrite (s : State) (slot : Nat) (data : Word) : State :=
  let s := s.writeFields slot Reg.DUE_CTRL.AT data
  let s := s.when (wbit data 1) State.pairOwn
  let s := s.when (wbit data 2) (fun s =>
    if !s.modeIn 3 4 then s.put Reg.DUE_EVT.CFG_ERR 1
    else s.when (s.duetRole = 1 || s.duetRole = 2 || s.duetRole = 4) State.becomeSolo)
  let s := s.when (wbit data 3) (fun s =>
    if s.duetRole ≠ 1 then s.put Reg.DUE_EVT.CFG_ERR 1
    else s.when s.due.swap.isNone (·.setDue ({ · with swap := some ⟨s.now, none, 0, false, false⟩ })))
  s.when (wbit data 4) State.detach

/-- A command that sets one bit of DUE_CTRL, LOCK as it stands. -/
def State.dueCtrlBit (s : State) (slot i : Nat) : State :=
  s.ownerWrite slot Reg.DUE_CTRL.AT (fun s => s.dueCtrlWrite slot (wordBit (s.word Reg.DUE_CTRL.AT) i true))

def execPair (step : PairStep) (s : State) : Host.Outcome State Fault Refusal :=
  .next (match step with
    | .own slot => s.dueCtrlBit slot 1
    | .peer side pref =>
      s.when s.duetUp (fun s =>
        (s.setDue ({ · with peerPair := some s.now, peerSide := side, peerPref := pref })).pairSettle))

def execUnpair (slot : Nat) (s : State) : Host.Outcome State Fault Refusal := .next (s.dueCtrlBit slot 2)
def execSwap (slot : Nat) (s : State) : Host.Outcome State Fault Refusal := .next (s.dueCtrlBit slot 3)
def execDetach (slot : Nat) (s : State) : Host.Outcome State Fault Refusal := .next (s.dueCtrlBit slot 4)

/-- The CRC-32 over the save stream of the whole image. -/
def State.imageCrc (s : State) : Nat := crc32Bytes (s.saveBytes 0 96)

/-- The first check of R318 that fails, as PAIR_RESULT codes it; 0 where all pass. -/
def State.pairCheck (s : State) (p : PeerFacts) : Nat :=
  let used := (s.enabledRows.map (· / 16)).eraseDups
  let dual := used.all (fun q => match (s.port q).ident with
    | some d => decide (d.dual = 1)
    | none => false)
  let locked := if s.wouldLead then p.locked else s.flag Reg.MER_STN_STS.LOCKED
  if s.get Reg.DUE_CFG.SIDE = s.due.peerSide then 1
  else if s.cfgDigest ≠ p.digest then 2
  else if s.imageCrc ≠ p.image then 3
  else if !dual || !p.dual then 4
  else if s.get Reg.MER_CTRL.ROLE = 1 || p.role = 1 then 5
  else if !locked then 6
  else if !s.duetUp then 7
  else if !s.mayPair || !(p.mode = 3 || p.mode = 4) then 8
  else 0

/-- When the next Allemande is due (R335): ALLEM_PERIOD minutes after the last swap. -/
def State.showAllem (s : State) : State :=
  s.put64 Reg.DUE_ALLEM_NEXT.PAIR (s.due.lastSwap + s.get Reg.DUE_CFG.ALLEM_PERIOD * 240000000000)

/-- Pairing succeeds (R318): both members take their roles, and positions restart from the next report. -/
def State.pairDone (s : State) : State :=
  let lead := s.wouldLead
  let s := (s.setRole (if lead then 1 else 2)).put Reg.DUE_STS.EPOCH 0
  let s := s.setDue (fun d => { d with
    pairAt := none, peerPair := none, discipline := false, adjOwn := 0, adjPeer := 0, shadow := [{}, {}, {}], diffs := [],
    orders := [], digests := [], missing := [], skewTold := [], withheld := [], copyQ := [], lastSwap := s.now, lastDigest := none })
  let s := s.setTb (fun t => { t with seqs := t.seqs.map (fun x => { x with fresh := true, lastTk := none }) })
  let s := ((s.putI64 Reg.DUE_CNT_OFS.PAIR 0).put Reg.DUE_STS.PAIR_RESULT 0).showAllem
  s.post (ev Code.ST_DUE_PAIRED srcDUE)

/-- Pairing is judged (R318): while only the lock is missing it waits, up to 10 ms after the later write. -/
def execPairResult (peer : PeerFacts) (s : State) : Host.Outcome State Fault Refusal :=
  .next (match s.due.pairAt, s.due.peerPair with
    | some a, some b =>
      let s := s.showDigest
      match s.pairCheck peer with
      | 0 => s.pairDone
      | 6 => if s.now < max a b + 40000000 then s else s.pairFails 6
      | c => s.pairFails c
    | _, _ => s)

/-! ### Heartbeats (R330) -/

/-- A heartbeat every 100 µs on the HB channel; the pin's goes with the beacon (R429). -/
def execHb (s : State) : Host.Outcome State Fault Refusal :=
  .next (
    if s.due.hbAt = some (s.now / 400000) then s
    else
      let s := s.setDue ({ · with hbAt := some (s.now / 400000) })
      s.duetSend 0 [s.duetRole + s.get Reg.DUE_STS.LOCAL_SRC * 2 ^ 3 + s.get Reg.DUE_STS.EPOCH * 2 ^ 8
        + s.now / 4000000 % 2 ^ 32 * 2 ^ 16])

/-- A valid heartbeat on the lane path, or on the pin path; the return of a lost path is told (R330). -/
def State.heard (s : State) (lane : Bool) : State :=
  let back := if lane then s.due.laneLost else s.due.pinLost
  let s := s.setDue (fun d =>
    if lane then { d with laneHb := some s.now, laneLost := false, bothAt := none }
    else { d with pinHb := some s.now, pinLost := false, bothAt := none })
  let s := s.put (if lane then Reg.DUE_STS.LANE_HB else Reg.DUE_STS.PIN_HB) 1
  s.when back (·.post (ev Code.ST_DUE_PATH_OK srcDUE))

/-- The code of HB_IN for a pulse `w` mt wide (R429, R330): the role whose width lies within 1.5 µs, or 7. -/
def hbCodeOf (w : Nat) : Nat :=
  (([1, 2, 3, 4].filter (fun c => decide (((w : Int) - 4000 * hbWidth c).natAbs ≤ 6000))).head?).getD 7

/-- A pulse on DUET_HB_IN, by its width in mt: the field die sends HB_IN with its code, and the main die takes it as a heartbeat,
or counts it as invalid (R330, R429). -/
def execHbIn (width : Nat) (s : State) : Host.Outcome State Fault Refusal :=
  .next (s.when s.fieldOn (fun s =>
    (s.stsFrame 0x26 (hbCodeOf width)).when s.awake (fun s =>
      if hbCodeOf width = 7 then (s.count (Reg.DUE_CNT.CNT 1)).pmcAdd 412 else s.heard false)))

/-! ### CHAN packets (R252, R320, R321) -/

/-- The standby acknowledges a packet of channel `ch`, or asks for it again (ACK, R320). -/
def State.duetAck (s : State) (ch seq : Nat) (nak : Bool) (more : List Nat) : State :=
  s.duetSend 6 ((ch + seq * 2 ^ 16 + nak.toNat * 2 ^ 48) :: more)

/-- The outstanding access to the peer's registers ends (R373). -/
def State.peerAccessEnds (s : State) (f : Fld) : State :=
  { (s.put Reg.DEV_PEER_CTRL.BUSY 0).put f 1 with host := { s.host with peerAt := none } }

/-- It fails: by a gap of its channel (R321), or without an answer. -/
def State.peerAccessFails (s : State) : State :=
  s.when s.host.peerAt.isSome (fun s => (s.peerAccessEnds Reg.DEV_PEER_CTRL.FAIL).post (ev Code.ST_PEER_REG_FAIL srcDEV))

/-- The gap between the SEQ expected and the SEQ received (R321). -/
def State.duetGap (s : State) (ch want seq : Nat) : State :=
  let s := s.post (ev Code.ST_PEER_SEQ_GAP (srcL 240) (some ch) (some (want + 2 ^ 32 * seq)))
  let lost := (seq + 2 ^ 32 - want) % 2 ^ 32
  if ch = 0 then (s.count (Reg.DUE_CNT.CNT 0) lost).pmcAdd 411 lost
  else if (ch = 2 || ch = 3) && s.duetRole = 2 then
    s.each (List.range lost) (fun i s =>
      let q := (want + i) % 2 ^ 32
      (s.setDue (fun d => { d with missing := d.missing ++ [(ch, q, s.now)] })).duetAck ch q true [])
  else if ch = 5 then s.peerAccessFails
  else s

/-- A CHAN packet arrives: its SEQ is checked; one that a NAK asked for fills its gap. -/
def State.chanIn (s : State) (ch seq : Nat) : State :=
  if s.due.missing.any (fun m => m.1 = ch && m.2.1 = seq) then
    s.setDue (fun d => { d with missing := d.missing.filter (fun m => !(m.1 = ch && m.2.1 = seq)) })
  else
    let want := match s.due.seqRx.lookup ch with
      | some q => (q + 1) % 2 ^ 32
      | none => 0
    let s := s.setDue (fun d => { d with seqRx := Sparse.insert ch seq d.seqRx })
    s.when (seq ≠ want) (·.duetGap ch want seq)

/-- What a heartbeat says of the peer (R320). -/
def State.hbIn (s : State) (b1 : Nat) : State :=
  ((s.put Reg.DUE_STS.PEER_ROLE (b1 % 8)).setDue ({ · with peerLocal := bit b1 3 })).heard true

/-- Send a kept packet again, once (R321). -/
def State.resend (s : State) (ch seq : Nat) : State :=
  match s.due.kept.find? (fun k => k.1 = ch && k.2.1 = seq) with
  | none => s
  | some k =>
    let s := s.setDue (fun d => { d with kept := d.kept.filter (fun k => !(k.1 = ch && k.2.1 = seq)) })
    let s := s.peerPut 0 ⟨2 + ch, 3, duetHead ch seq :: k.2.2.1, if ch = 3 then some (seq, k.2.2.2) else none⟩
    (s.count (Reg.DUE_CNT.CNT 7)).pmcAdd 414

/-- ACK or NAK at the primary (R320, R321, R335). -/
def State.ackIn (s : State) (b1 : Nat) : State :=
  let ch := b1 % 256
  let seq := b1 / 2 ^ 16 % 2 ^ 32
  if bit b1 48 then s.resend ch seq
  else s.setDue (fun d => { d with
    kept := d.kept.filter (fun k => !(k.1 = ch && k.2.1 = seq)),
    swap := d.swap.map (fun x => if ch = 2 && x.at_.isSome && x.seq = seq then { x with acked := true } else x) })

/-- A CHAN packet's arrival: what its channel's SEQ tells, the heartbeat and the acknowledges. Reports, orders, state copies, digests
and register accesses act by their own rows. A CHAN packet on a station lane, or of a channel that R320 does not list, is discarded and
counted. -/
def execChan (lane ch seq b1 : Nat) (s : State) : Host.Outcome State Fault Refusal :=
  .next (
    if lane < 240 || 256 ≤ lane then s
    else if s.peerLink (lanePeer lane) ≠ 8 then s
    else if lanePeer lane ≠ 0 || 6 < ch then s.peerDiscard (lanePeer lane) 1
    else
      let s := s.chanIn ch seq
      if ch = 0 then s.hbIn b1 else if ch = 6 then s.ackIn b1 else s)

/-- An ORDER or STATE packet is still missing 100 µs after its NAK (R321). -/
def execDuetNakTimeout (s : State) : Host.Outcome State Fault Refusal :=
  .next (if s.due.missing.any (fun m => m.2.2 + 400000 ≤ s.now) then (s.setDue ({ · with missing := [] })).detach else s)

/-! ### Timing reports (R322) -/

/-- The standby votes the reports that the primary's packet names: the primary's die's, or its own. -/
def State.standbyFeed (s : State) (d : DieReports) : State :=
  if s.tb.lastVote = some d.tk then s
  else if !d.srcPeer then s.feed d s.due.adjPeer
  else match s.due.local_ with
    | some mine => if mine.tk = d.tk then s.feed { mine with stale := d.stale } (s.getI64 Reg.DUE_CNT_OFS.PAIR) else s
    | none => s

/-- Boundaries went by without a report to vote: the standby's sequencers restart from the first one that comes (R559). -/
def State.restartGap (s : State) (tk : Nat) : State :=
  match s.tb.lastVote with
  | none => s
  | some v =>
    if tk ≤ v + 2 ^ s.get Reg.TRK_CFG.RPT_LOG then s
    else s.setTb (fun t => { t with seqs := t.seqs.map (fun x => { x with fresh := true, lastTk := none }) })

/-- A TIMING packet: `ownDie` says that SRCDIE names the sender's own die. -/
def execTiming (tk : Nat) (ownDie : Bool) (reports : List EdgeReport) (stale : List Bool) (s : State) :
    Host.Outcome State Fault Refusal :=
  let d : DieReports := ⟨tk, !ownDie, reports, stale⟩
  .next (
    if !s.duetUp || tk % 2 ^ s.get Reg.TRK_CFG.RPT_LOG ≠ 0 then s
    else
      let s := s.setDue ({ · with peer := some d, localTold := false })
      if s.duetRole = 2 then ((s.put Reg.DUE_STS.LOCAL_SRC 0).restartGap tk).standbyFeed d
      else s.setDue (fun x => { x with
        shadow := x.shadow.zipIdx.map (fun e => match reports[e.2]? with
          | some r => if stale.getD e.2 true then e.1 else s.taken r tk 0 e.1
          | none => e.1) }))

/-- No TIMING packet by tk + 3,000 mt: the standby votes its own die's reports, corrected by ΔC. -/
def execStDueTimingLocal (boundary : Nat) (s : State) : Host.Outcome State Fault Refusal :=
  .next (
    if s.duetRole ≠ 2 || boundary % 2 ^ s.get Reg.TRK_CFG.RPT_LOG ≠ 0 || s.now < boundary + 3000
        || s.tb.lastVote = some boundary || (s.due.peer.map (·.tk)) = some boundary then s
    else
      let s := match s.due.local_ with
        | some d => if d.tk = boundary then s.feed d (s.getI64 Reg.DUE_CNT_OFS.PAIR) else s
        | none => s
      let s := s.put Reg.DUE_STS.LOCAL_SRC 1
      s.when (!s.due.localTold) (fun s =>
        (s.setDue ({ · with localTold := true })).post (ev Code.ST_DUE_TIMING_LOCAL srcDUE)))

/-! ### The loss of the paths, and the claim (R330 to R334) -/

/-- Exchanges on every UP port, whose TIMEBASE carries this member's SOURCE (R332, R335). -/
def State.exchangeAll (s : State) : State := s.each s.upPorts State.ttReq

/-- A member enters CLAIM (R332). -/
def State.claim (s : State) : State :=
  let lost := s.due.missing.any (·.1 = 3)
  let s := s.setRole 3
  let s := s.setDue ({ · with claimAt := some s.now, tsrc := [], raising := false, orders := [], digests := [], missing := [] })
  let s := ((s.put Reg.DUE_EVT.TAKEOVER 1).count (Reg.DUE_CNT.CNT 5)).post (ev Code.ST_DUE_TAKEOVER srcDUE)
  let s := s.when lost (·.post (ev Code.ST_DUE_DIVERGE srcDUE))
  (s.exchangeAll.driveCopied).dropCopied

def Order.isSwap (o : Order) : Bool := match o with
  | .swap _ => true
  | .handover _ => true
  | _ => false

/-- Both paths are lost (R331, R338): a standby claims; a primary holds motion; a swap before its point is cancelled. -/
def State.bothLost (s : State) : State :=
  let s := s.setDue (fun d => { d with
    bothAt := some s.now, swap := none,
    orders := d.orders.filter (fun o => !o.isSwap) })
  if s.duetRole = 2 then s.claim
  else s.when (s.duetRole = 1) (fun s =>
    (s.put Reg.DUE_STS.MOT_HELD 1).setDue ({ · with claimAt := some s.now, tsrc := [] }))

/-- Whether a path that was live has carried no valid heartbeat for 300 µs. -/
def State.pathSilent (s : State) (last : Option Nat) : Bool := match last with
  | some t => decide (t + 1200000 ≤ s.now)
  | none => false

/-- One path is lost (R330). -/
def State.pathLost (s : State) (lane : Bool) : State :=
  let s := s.setDue (fun d => if lane then { d with laneLost := true } else { d with pinLost := true })
  let s := s.put (if lane then Reg.DUE_STS.LANE_HB else Reg.DUE_STS.PIN_HB) 0
  let s := s.put (if lane then Reg.DUE_EVT.LANE_LOSS else Reg.DUE_EVT.PIN_LOSS) 1
  let s := s.when (!lane) (fun s => (s.count (Reg.DUE_CNT.CNT 1) 3).pmcAdd 412 3)
  s.post (ev Code.ST_DUE_PATH_LOSS srcDUE)

/-- A CLAIM or a held PRIMARY is confirmed (R333, R334). -/
def State.confirmed (s : State) : State :=
  let s := s.setDue ({ · with claimAt := none, tsrc := [] })
  if s.duetRole = 3 then
    let s := (s.setRole 1).setDue ({ · with own := false, raising := true })
    (s.post (ev Code.ST_DUE_CONFIRMED srcDUE)).remainCopied
  else s.motionFree

/-- A port's HEALTH after the loss says whether its head takes time from this member (R333). -/
def State.confirmBy (s : State) (p : Nat) (tsrc : Bool) : State :=
  if s.due.claimAt.isNone then s
  else
    let s := s.setDue (fun d => { d with tsrc := (if tsrc then [p] else []) ++ d.tsrc.filter (· ≠ p) })
    s.when (s.upPorts.length ≤ 2 * (s.due.tsrc.filter s.portUp).length) State.confirmed

/-- A claim or a hold is not confirmed within 2 ms (R333). -/
def execStDueRevert (s : State) : Host.Outcome State Fault Refusal :=
  .next (match s.due.claimAt with
    | none => s
    | some t =>
      if s.now < t + 8000000 then s
      else
        let s := (s.setRole 4).setDue ({ · with claimAt := none, tsrc := [] })
        (s.put Reg.DUE_EVT.REVERT 1).post (ev Code.ST_DUE_REVERT srcDUE))

/-- Both paths stay lost for 1 s (R331). -/
def execStDuePeerLost (s : State) : Host.Outcome State Fault Refusal :=
  .next (match s.due.bothAt with
    | none => s
    | some t =>
      if s.now < t + 4000000000 then s
      else (s.when (s.duetRole = 1 || s.duetRole = 2 || s.duetRole = 4) State.becomeSolo).setDue ({ · with bothAt := none })
        |>.post (ev Code.ST_DUE_PEER_LOST srcDUE))

/-- The axis encoders have shown no count for MOT_QUIET ms, `axis` the last of them: a confirmed new primary raises DUET_OWN (R334). -/
def execDuetOwnRaise (axis : Nat) (s : State) : Host.Outcome State Fault Refusal :=
  let quiet := s.mot.axes.all (fun x => x.encAt + s.get Reg.DUE_CFG.MOT_QUIET * 4000000 ≤ s.now)
  .next (
    if 4 ≤ axis || !s.due.raising || s.duetRole ≠ 1 || !quiet then s
    else (s.setDue ({ · with own := true, raising := false })).motionFree)

/-! ### Orders (R325) -/

/-- Whether an order's tag has been reached; a swap waits for its own row, and a replacement for its decision. -/
def Order.reached (o : Order) (now : Nat) : Bool := match o with
  | .start tk _ | .safestop tk _ => decide (tk ≤ now)
  | .abort _ _ => true
  | .replace _ _ | .swap _ | .handover _ => false

/-- The standby applies an order. -/
def State.applyOrder (s : State) (o : Order) : State :=
  match o with
  | .start _ origin =>
    (match s.waitingChain with
    | some c => s.startChain c origin
    | none => s)
  | .safestop _ code => s.when (s.modeIn 5 9) (·.enterSafeStop code)
  | .abort device type => s.when (device || type = 1) State.endChains
  | _ => s

/-- The orders whose tags are reached take effect. SAFESTOP governs a SWAP of the same boundary (R338). -/
def State.runOrders (s : State) : State :=
  let due := s.due.orders.filter (·.reached s.now)
  let cancel := fun (o : Order) => due.any (fun x => match x, o with
    | .safestop tk _, .swap ts => tk = ts
    | _, _ => false)
  (s.setDue (fun d => { d with orders := d.orders.filter (fun o => !o.reached s.now && !cancel o) })).each due
    (fun o s => s.applyOrder o)

/-- An order arrives and is acknowledged, a SWAP with ΔC; or, with none arriving, the tags that time has reached are applied. -/
def execOrder (order : Option Order) (s : State) : Host.Outcome State Fault Refusal :=
  .next (
    if s.duetRole ≠ 2 then s
    else match order with
      | none => s.runOrders
      | some o =>
        if !s.duetUp then s
        else
          let more := match o with
            | .swap _ => [unsigned 64 (s.getI64 Reg.DUE_CNT_OFS.PAIR)]
            | _ => []
          ((s.duetAck 2 ((s.due.seqRx.lookup 2).getD 0) false more).setDue
            (fun d => { d with orders := d.orders ++ [o] })).runOrders)

/-! ### The state copy (R326, R327) -/

/-- The items of a state copy that stand in no queue. -/
def State.copyItems (s : State) : List CopyItem :=
  ((List.range 96).filter (fun p => s.get (Reg.CAL_PORT_TS.VAL p) ≠ 0 || s.cal.tcal.contains p)).map (fun p =>
      .calPort p (s.get (Reg.CAL_PORT_TEMP.TCAL p)) (s.get (Reg.CAL_PORT_TS.VAL p)))
    ++ s.cal.missing.map (fun e => .missing e.1 e.2)
    ++ (s.liveRings.filter (fun r => s.ringType r = 1 || s.ringType r = 2 || s.ringType r = 5)).map (fun r => .queue r (s.ringCons r))
    ++ (List.range 4).map (fun n =>
      .axis n (s.axis n).tgt (s.axis n).seg (s.axis n).remain (s.get (Reg.AX_STS.STATE n)))
    ++ [.outputs (s.get Reg.FLD_OUT_VAL.VALUE), .digest s.cfgDigest]

/-- The primary sends a state copy. -/
def State.sendCopy (s : State) : State :=
  if !s.duetUp then s
  else
    let s := s.showDigest
    let seq := (s.due.seqTx.lookup 3).getD 0
    let items := s.due.copyQ ++ s.copyItems
    ((s.setDue (fun d => { d with
      copyQ := [], seqTx := Sparse.insert 3 ((seq + 1) % 2 ^ 32) d.seqTx, kept := d.kept ++ [(3, seq, [], items)] })).peerPut 0
      ⟨5, 3, [duetHead 3 seq], some (seq, items)⟩).pmcAdd 413

/-- At the end of each 1 ms control cycle. -/
def execState (s : State) : Host.Outcome State Fault Refusal :=
  .next (
    if s.duetRole ≠ 1 || s.due.await || s.due.copyAt = some (s.now / 4000000) then s
    else (s.setDue ({ · with copyAt := some (s.now / 4000000) })).sendCopy)

/-- Published lines of a row from a line on that have not gone out are withheld too. -/
def State.holdLines (s : State) (k c line cause : Nat) : State :=
  s.setJobs (fun j => { j with lines := j.lines.map (fun l =>
    if l.row = k && l.chain = c && line ≤ l.line && l.late = none then { l with late := some cause } else l) })

/-- A copied Starmap record (R172, R173). -/
def State.copyRec (s : State) (seq : Nat) (q : SmpReq) : State :=
  let k := q.gn / 1536
  let s := s.setSmp ({ · with nextSeq := (seq + 1) % 2 ^ 32 })
  let s := match (s.rowSt k).chain with
    | none => s
    | some c =>
      s.when ((q.line : Int) ≤ s.rowP k) (fun s =>
        let s := s.setSmp (fun m => { m with withheld := m.withheld ++ [(k, c, q.line)] })
        ((s.holdLines k c q.line Code.ST_SMP_DIVERGE).put Reg.SMP_STS.DIVERGE 1).post
          (ev Code.ST_SMP_DIVERGE srcSMP none q.line (s.dataRow k)))
  match s.smpResult q with
  | some r => s.smpTake q r seq
  | none => s

/-- A tagged item came too late: the rows concerned are withheld from its line until each starts a new chain (R327). -/
def State.diverge (s : State) (rows : List Nat) (line : Nat) (data : Nat) : State :=
  match s.updChain with
  | none => s
  | some c =>
    let mine := rows.filter (fun k => (s.rowSt k).chain = some c.id)
    let s := s.each mine (fun k s =>
      (s.setDue (fun d => { d with withheld := d.withheld ++ [(k, c.id, line)] })).holdLines k c.id line Code.ST_DUE_DIVERGE)
    (s.put Reg.DUE_EVT.DIVERGE 1).post (ev Code.ST_DUE_DIVERGE srcDUE none line data)

/-- A copied batch plan (R311): it replaces the plan of its number, and an empty one removes it. -/
def State.copyPlan (s : State) (b : CalBatch) : State :=
  let b : CalBatch := { b with chain := (s.updChain.map (·.id)).getD b.chain }
  let s := s.setCal (fun c => { c with
    nextId := max c.nextId (b.id + 1),
    batches := c.batches.filter (·.id ≠ b.id) ++ (if b.noz = [] then [] else [b]) })
  let firsts := b.cells.filterMap (·.slot)
  let late := match s.chain? b.chain with
    | some c => firsts.any (fun f => (f : Int) ≤ s.barHigh b.bar c)
    | none => false
  s.when (late && b.noz ≠ []) (fun s =>
    let rows := (b.noz.map (·.gn / 1536)).eraseDups
    let line := firsts.foldl min (firsts.headD 0)
    let s := s.each rows (fun k s =>
      (s.setCal (fun c => { c with withheld := c.withheld ++ [(k, b.chain, line)] })).holdLines k b.chain line Code.ST_CAL_DIVERGE)
    (s.put Reg.CAL_STS.DIVERGE 1).post (ev Code.ST_CAL_DIVERGE srcCAL none line (dataBar b.bar)))

/-- One item of a state copy at the standby. -/
def State.copyItem (s : State) (i : CopyItem) : State :=
  match i with
  | .smpRec seq line ramp mask gn src vals => s.copyRec seq ⟨line, ramp, mask, gn, src, vals⟩
  | .bar b line sc ofs =>
    (s.when ((line : Int) ≤ s.barTop b) (fun s => s.diverge (s.barRows b) line (dataBar b))).queueBar b line sc ofs
  | .xweb b line sx bx =>
    (s.when ((line : Int) ≤ s.barTop b) (fun s => s.diverge (s.barRows b) line (dataBar b))).queueXweb b line sx bx
  | .trim p line temp =>
    let rows := s.portRows p
    let s := s.when (rows.any (fun k => (line : Int) ≤ s.rowP k)) (fun s => s.diverge rows line (s.dataPort p))
    (s.setJobs (fun j => { j with tupd := j.tupd ++ [⟨s.updId, p, line, temp⟩] })).showQueues
  | .plan b => s.copyPlan b
  | .calPort p tcal ts =>
    ((s.put (Reg.CAL_PORT_TEMP.TCAL p) tcal).put (Reg.CAL_PORT_TS.VAL p) ts).setCal (fun c => { c with tcal := (p :: c.tcal).eraseDups })
  | .missing gn n => s.setCal (fun c => { c with missing := Sparse.insert gn n c.missing })
  | .queue r index =>
    s.when (s.ringState r ≠ 0 && s.ringCons r ≠ index && !s.due.skewTold.contains r) (fun s =>
      (s.setDue (fun d => { d with skewTold := r :: d.skewTold })).post (ev Code.ST_DUE_QUEUE_SKEW srcDUE r))
  | .axis n target seg remain mode => s.setDue (fun d => { d with axisCopy := Sparse.insert n ⟨target, seg, remain, mode⟩ d.axisCopy })
  | .outputs v => s.setDue ({ · with outCopy := v })
  | .digest v => s.when (s.cfgDigest ≠ v) State.detach

/-- A state copy arrives at the standby, or the old primary's last one at a new primary (R326, R335). -/
def execStateCopyReceive (items : List CopyItem) (s : State) : Host.Outcome State Fault Refusal :=
  .next (
    if !s.duetUp || !(s.duetRole = 2 || s.due.await) then s
    else
      let s := s.showDigest.duetAck 3 ((s.due.seqRx.lookup 3).getD 0) false []
      (s.each items (fun i s => s.copyItem i)).setDue ({ · with await := false }))

/-! ### Digests (R328) -/

/-- Whether a digest's row-line has not been settled here. -/
def State.digestLive (s : State) (port seq : Nat) : Bool :=
  let k := 16 * port + seq % 16
  s.job.lines.any (fun l => l.row = k && lineSeq k l.line = seq)
    || decide ((seq / 16 + 2 ^ 28 - s.rowNext k % 2 ^ 28) % 2 ^ 28 < 2 ^ 27)

/-- A DIGEST packet of one port: up to 32 row-lines, by SEQ, CRC and NOSEND. -/
def execDigest (port : Nat) (lines : List (Nat × Nat × Bool)) (s : State) : Host.Outcome State Fault Refusal :=
  .next (
    if !s.duetUp || s.duetRole ≠ 2 || 96 ≤ port then s
    else
      let live := lines.filter (fun e => s.digestLive port e.1)
      s.setDue (fun d => { d with
        lastDigest := some s.now,
        digests := d.digests.filter (fun x => !(x.port = port && live.any (fun e => e.1 = x.seq)))
          ++ live.map (fun e => ⟨port, e.1, e.2.1, e.2.2⟩) }))

/-- No DIGEST packet for 20 µs: lines that waited at the gate may go (R328). -/
def execDigestGateTimeout (s : State) : Host.Outcome State Fault Refusal :=
  let silent : Bool := match s.due.lastDigest with
    | some t => decide (t + 80000 ≤ s.now)
    | none => true
  .next (if s.duetRole ≠ 2 || !silent then s else (s.each s.upPorts (fun p s => s.sendTurn p)).freeShadow.pagesDone)

/-! ### The Allemande (R335, R336) -/

/-- The conditions of an Allemande. -/
def State.allemReady (s : State) : Bool :=
  s.get Reg.DUE_STS.PEER_ROLE = 2 && !s.due.peerLocal && (List.range 4).all (fun n => !(s.axis n).st.moving)
    && s.cal.batches.all (fun b => b.noz = [])

/-- The primary orders a swap at a boundary. -/
def State.orderSwap (s : State) (kind ts : Nat) (x : Swap) : State :=
  let seq := (s.due.seqTx.lookup 2).getD 0
  (s.order [kind, ts]).setDue ({ · with swap := some { x with at_ := some ts, seq := seq, acked := false } })

/-- Whether a line of a chain will not yet be published on REF_ROW before boundary `ts`, as the leading sequencer goes now (R58). -/
def State.aheadAt (s : State) (c : Chain) (ts n : Nat) : Bool :=
  match c.row? c.refRow with
  | none => false
  | some g => match s.leadSeq.due (s.duePos c g n) with
    | none => true
    | some t => decide ((c.lead * c.tick : Nat) < t + signed 32 g.tofs - ts)

/-- Whether a boundary may be a swap point (R335): the next line of REF_ROW starts a page at it, or no chain is in flight. -/
def State.swapPlace (s : State) (ts : Nat) : Bool :=
  match s.flying.find? (·.started) with
  | none => true
  | some c => s.job.jobs.any (fun j => j.chain = c.id && j.pages.any (fun p =>
      s.aheadAt c ts p.first && (p.first = 0 || !s.aheadAt c ts (p.first - 1))))

/-- An Allemande begins when its period is over, and proceeds when its conditions hold; `ts` is the swap point: a boundary at least
2 ms ahead, at which a page starts on REF_ROW where a chain is in flight. -/
def execAllemandeStart (ts : Nat) (s : State) : Host.Outcome State Fault Refusal :=
  .next (
    if s.duetRole ≠ 1 || s.due.swapped.isSome then s
    else
      let begins := s.due.swap.isNone && s.flag Reg.DUE_CFG.ALLEM_EN && s.get64 Reg.DUE_ALLEM_NEXT.PAIR ≤ s.now
      let s := s.when begins (·.setDue ({ · with swap := some ⟨s.now, none, 0, false, false⟩ }))
      match s.due.swap with
      | none => s
      | some x =>
        if x.at_.isSome || !s.allemReady || !s.swapPlace ts || ts % 2 ^ s.get Reg.TRK_CFG.RPT_LOG ≠ 0 || ts < s.now + 8000000 then s
        else s.orderSwap 4 ts x)

/-- The conditions have not held within 10 minutes. -/
def execStDueAllemSkip (s : State) : Host.Outcome State Fault Refusal :=
  .next (match s.due.swap with
    | none => s
    | some x =>
      if x.at_.isSome || x.handover || s.now < x.since + 2400000000000 then s
      else
        let next := s.get64 Reg.DUE_ALLEM_NEXT.PAIR
        let s := s.setDue ({ · with swap := none })
        let s := s.when (next ≤ s.now) (fun s => (s.setDue ({ · with lastSwap := next })).showAllem)
        (s.put Reg.DUE_EVT.ALLEM_SKIP 1).post (ev Code.ST_DUE_ALLEM_SKIP srcDUE))

/-- Without the standby's ACK by t_s − 1 ms the swap is cancelled, and tried again at the next page. -/
def execAllemandeCancel (s : State) : Host.Outcome State Fault Refusal :=
  .next (match s.due.swap with
    | some x =>
      (match x.at_ with
      | some ts => s.when (!x.acked && !x.handover && ts ≤ s.now + 4000000) (·.setDue ({ · with swap := some { x with at_ := none } }))
      | none => s)
    | none => s)

/-- A primary whose field die is lost hands over at the first boundary at least 200 µs ahead (R336). -/
def State.handOver (s : State) : State :=
  if s.duetRole ≠ 1 || !s.fld.lost || s.get Reg.DUE_STS.PEER_ROLE ≠ 2 || s.due.swap.any (·.handover) then s
  else
    let rpt := 2 ^ s.get Reg.TRK_CFG.RPT_LOG
    s.orderSwap 5 (ceilDiv (s.now + 800000) rpt * rpt) ⟨s.now, none, 0, false, true⟩

def execHandover (s : State) : Host.Outcome State Fault Refusal := .next s.handOver

/-- The swap point this member is to pass: the primary's own, or the one ordered. -/
def State.swapPoint (s : State) : Option Nat :=
  if s.duetRole = 1 then s.due.swap.bind (fun x => if x.acked || x.handover then x.at_ else none)
  else if s.duetRole = 2 then s.due.orders.findSome? (fun o => match o with
    | .swap ts | .handover ts => some ts
    | _ => none)
  else none

/-- The roles flip (step 3 of R335). The old primary's last state copy goes out first; it keeps DRIVE, and the new primary gets OWN,
until 100 µs later (R558). -/
def State.flip (s : State) (ts : Nat) : State :=
  let old := s.duetRole = 1
  let s := s.when old State.sendCopy
  let s := s.setRole (if old then 2 else 1)
  let s := s.setDue (fun d => { d with
    drive := true, own := false, swapped := some (ts, !old), await := !old, orders := [], digests := [], missing := [], swap := none,
    lastSwap := ts })
  if old then s.exchangeAll else s.driveCopied.dropCopied

def execAllemandeSwapPoint (s : State) : Host.Outcome State Fault Refusal :=
  .next (match s.swapPoint with
    | some ts => s.when (ts ≤ s.now) (·.flip ts)
    | none => s)

/-- At t_s + 100 µs (step 4 of R335): the new primary's TIMEBASE carries SOURCE 1 and DUET_OWN rises; the old primary releases its
outputs. -/
def execStDueAllemande (s : State) : Host.Outcome State Fault Refusal :=
  .next (match s.due.swapped with
    | none => s
    | some (ts, lead) =>
      if s.now < ts + 400000 then s
      else
        let s := s.setDue (fun d => { d with swapped := none, drive := lead, own := lead })
        let s := s.when lead (fun s => s.each s.upPorts (fun p s => s.timebase p (s.port p).xid))
        let s := ((s.count (Reg.DUE_CNT.CNT 6)).showAllem).post (ev Code.ST_DUE_ALLEMANDE srcDUE)
        s)

/-- A path carries no valid heartbeat for 300 µs (R330, R338): a swap point that time has reached comes first. -/
def execStDuePathLoss (s : State) : Host.Outcome State Fault Refusal :=
  let lane := !s.due.laneLost && s.pathSilent s.due.laneHb
  let pin := !s.due.pinLost && s.pathSilent s.due.pinHb
  .next (
    if !lane && !pin then s
    else
      let s := match s.swapPoint with
        | some ts => s.when (ts ≤ s.now) (·.flip ts)
        | none => s
      let s := (s.when lane (·.pathLost true)).when pin (·.pathLost false)
      s.when (s.due.laneLost && s.due.pinLost) State.bothLost)

end Sys2Proof.Machine
end

