-- ==== Sys2Proof/Machine/EngOps.lean ====
section
/-! DEFINITION. Engines that go out, moves of blocks between engines, and self-tests (chapter 04, R136 to R143). -/

namespace Sys2Proof.Machine

/-- The FMAX of the jobs in flight, in Hz. -/
def State.jobFmax (s : State) : Nat := (s.job.jobs.filter (fun j => !j.left)).foldl (fun m j => max m (10 * j.fmax)) 0

/-- The refusals of a move (R136): 1 BUSY, 2 TARGET, 3 CAPACITY. -/
def State.moveRefused (s : State) (src dst : Nat) : Nat :=
  let held := (s.engineBlocks src).length + (s.engineBlocks dst).length
  let es := (s.rowEngines s.jobRows).map (fun n => if n = src then dst else n)
  if s.eng.move.isSome then 1
  else if dst = src || s.engineOut dst then 2
  else if 72 < held || fCeil s.engMHz (nbMax es) < s.jobFmax then 3
  else 0

/-- A move that is not refused begins: the target loads the moved blocks' records. -/
def State.beginMove (s : State) (src dst : Nat) : State :=
  (s.setEng ({ · with move := some ⟨src, dst, false, [], [], []⟩ })).put Reg.FAB_STS.MOVE_BUSY 1

/-- One engine's bit of FAB_OUT. -/
def State.markOut (s : State) (n : Nat) (out : Bool) : State :=
  let s := s.put64 Reg.FAB_OUT.PAIR (putBit (s.get64 Reg.FAB_OUT.PAIR) n out)
  (s.put Reg.FAB_STS.OUT_CNT (popcount 64 (s.get64 Reg.FAB_OUT.PAIR))).put (Reg.SE_STS.STATE n) (if out then 3 else 0)

/-- The next engine in rising number, modulo 64, that is not out (R140). -/
def State.nextEngine (s : State) (n : Nat) : Nat :=
  (((List.range 63).map (fun i => (n + 1 + i) % 64)).find? (fun m => !s.engineOut m)).getD n

/-- SE_CHECKER of every engine follows the engines out: one that is out is checked by none, so its checker checks the one before. -/
def State.showCheckers (s : State) : State :=
  s.each (List.range 64) (fun n s =>
    let by_ := s.nextEngine n
    (s.put (Reg.SE_CHECKER.CHECKED_BY n) by_).when (!s.engineOut n) (·.put (Reg.SE_CHECKER.CHECKS by_) n))

/-- An engine stops computing: the blocks of published lines that it has not composed are withheld (R143). -/
def State.withholdOut (s : State) (n : Nat) : State :=
  s.setJobs (fun j => { j with lines := j.lines.map (fun l => { l with blocks := l.blocks.map (fun b =>
    if b.engine = some n && b.words = none && b.cause = none then { b with cause := some Code.ST_SE_OUT } else b) }) })

/-- An engine goes out (R143): stops, is reported, ends a move whose target it is, and may start the move to the spare. DEDUCED
from R145 (both engines' blocks withheld, ST_SE_OUT for each): the source of a move that ends so is out too. -/
def State.engineGoesOut (s : State) (n : Nat) : State :=
  if s.engineOut n then s
  else
    let s := (((s.markOut n true).showCheckers).withholdOut n).post (ev Code.ST_SE_OUT (srcSE n))
    let s := s.setEng (fun e => { e with tests := e.tests.filter (fun t => t.1 ≠ n) })
    let s := s.put (Reg.SE_SELFTEST.RUNNING n) 0
    let s := match s.eng.move with
      | some m =>
        if m.dst = n then
          let s := (s.setEng ({ · with move := none })).put Reg.FAB_STS.MOVE_BUSY 0
          (((s.markOut m.src true).showCheckers).withholdOut m.src).post (ev Code.ST_SE_OUT (srcSE m.src))
        else s
      | none => s
    let sp := s.get Reg.FAB_SPARE.ENG
    s.when (s.flag Reg.FAB_CTRL.AUTO_MOVE && s.flag Reg.FAB_SPARE.EN && s.engineBlocks sp = []
      && s.moveRefused n sp = 0) (·.beginMove n sp)

/-- An engine's self-test starts (R142): cause 0 a request, 1 a spot-check mismatch, 2 an SRAM error; one that runs goes on. -/
def State.engineTest (s : State) (n cause : Nat) : State :=
  if s.eng.tests.any (fun t => t.1 = n) then s
  else
    let s := s.testStarted.setEng (fun e => { e with tests := (n, cause, s.now) :: e.tests })
    let s := (s.put (Reg.SE_SELFTEST.RUNNING n) 1).put (Reg.SE_SELFTEST.CAUSE n) cause
    s.when (!s.engineOut n) (·.put (Reg.SE_STS.STATE n) 2)

end Sys2Proof.Machine
end

