-- ==== Sys2Proof/Machine/Engines.lean ====
section
/-! DEFINITION. The commands of the swath engines and the fabric (chapter 04): fetch, the stages of a line, moves, spot-checks and
self-tests. -/

namespace Sys2Proof.Machine

/-! ### What a line reads (R106 to R113) -/

/-- What the engines read of a published line: the line, its chain and job, the bar's entry in the screen bank the row uses, and
that bank's bytes. -/
structure LineCtx where
  l    : PLine
  c    : Chain
  j    : Job
  bar  : Nat
  set  : List Byte
  x    : ScreenBar

def State.lineCtx (s : State) (l : PLine) : Option LineCtx :=
  match s.chain? l.chain, s.jobAt l.chain l.line with
  | some c, some j =>
    let bar := ((c.row? l.row).map (·.bar)).getD 0
    let set := s.bankBytes l.bank
    some ⟨l, c, j, bar, set, screenBar set bar⟩
  | _, _ => none

/-- XPOS of a nozzle in force at the line. -/
def State.xposAt (s : State) (x : LineCtx) (gn : Nat) : Int := s.rampedAt gn 7 x.l.chain x.l.line (fun w => eXpos w)

/-- The sample position u of a nozzle (R109). -/
def State.sampleAt (s : State) (x : LineCtx) (gn : Nat) : Int := samplePos (s.xposAt x gn) x.l.sx x.l.bx x.j.xorg x.j.cres

/-- The samples that a position reads (R110). -/
def tapsOf (mode : Nat) (u : Int) : List Int :=
  match mode with
  | 0 => [sar (u + 32768) 16]
  | 1 => [sar u 16, sar u 16 + 1]
  | _ => [sar u 16 - 1, sar u 16, sar u 16 + 1, sar u 16 + 2]

/-- The columns of a block that are populated, with the two beyond each end that give it its neighbours (R104, R122). -/
def State.haloCols (s : State) (nb : Nat) : List Nat :=
  let lo := 512 * (nb % 3)
  ((List.range 516).map (fun i => lo + i)).filterMap (fun i => if 2 ≤ i && i - 2 < s.rowCols (nb / 3) then some (i - 2) else none)

/-- The 64-byte segments of the plane line that a block needs, by their DPA (R106). -/
def State.segments (s : State) (x : LineCtx) (nb : Nat) : List Nat :=
  let taps : List Int := (s.haloCols nb).flatMap (fun i => tapsOf x.x.rsmode (s.sampleAt x (rowGn (nb / 3) + i)))
  let segs := taps.filterMap (fun (i : Int) => if 0 ≤ i && i < x.j.cw then some (i.toNat * (1 + x.j.depth) / 64) else none)
  segs.eraseDups.map (fun g => s.planeAddr x.c x.j x.bar x.l.line (64 * g) - dramAt 0)

/-- One contone sample, widened to 16 bits; 0 outside the line and in a calibration job (R98, R106, R110). -/
def State.contone (s : State) (x : LineCtx) (i : Int) : Nat :=
  if x.j.cal || i < 0 || (x.j.cw : Int) ≤ i then 0
  else
    let a := fun k => (s.byte (s.planeAddr x.c x.j x.bar x.l.line k)).toNat
    if x.j.depth = 0 then a i.toNat * 257 else a (2 * i.toNat) + 256 * a (2 * i.toNat + 1)

/-! ### The stages (R105, R112 to R127) -/

/-- c1 of a nozzle (stages 2 and 3). -/
def State.c1At (s : State) (x : LineCtx) (gn : Nat) : Nat :=
  let c0 := resample x.x.rsmode (s.contone x) (s.sampleAt x gn)
  density x.set (s.switchedAt gn 3 x.l.chain x.l.line (fun w => eDlut w)).toNat
    (s.rampedAt gn 4 x.l.chain x.l.line (fun w => eDgain w)).toNat c0

/-- A neighbour (R122): its c1, and whether nothing prints its column. -/
def State.neighbour (s : State) (x : LineCtx) (k : Nat) (i : Int) : Option Neighbour :=
  if i < 0 || (s.rowCols k : Int) ≤ i then none
  else
    let gn := rowGn k + i.toNat
    some ⟨s.c1At x gn, s.printerAt gn x.l.chain x.l.line = 0⟩

/-- A nozzle's kernel history before a line of its row (R124): the lines since the last one composed count as level 0, and a
row's first line in a chain starts from 255 and 0. -/
def State.historyAt (s : State) (l : PLine) (nb gn : Nat) : Nat × Nat :=
  match s.eng.front.lookup nb with
  | some (c, n) =>
    if c = l.chain then idleHistory (l.idx - n) ((s.eng.hist.lookup gn).getD (255, 0)) else idleHistory l.idx (255, 0)
  | none => idleHistory l.idx (255, 0)

/-- What a nozzle's stages give: its fire word, and its history after the line. -/
def State.nozzleLine (s : State) (x : LineCtx) (nb i : Nat) : Nat × (Nat × Nat) :=
  let k := nb / 3
  let gn := rowGn k + i
  let c := x.l.chain
  let m := x.l.line
  let h := s.historyAt x.l nb gn
  let pre := paramWord x.set x.x.preP
  let post := paramWord x.set x.x.postP
  let near := fun d => s.neighbour x k (i + d)
  let c1 := s.c1At x gn
  let c2 := preKernel x.x.preK pre m c1 (s.rampedAt gn 9 c m (fun w => eWl w)).toNat (s.rampedAt gn 9 c m (fun w => eWr w)).toNat
    (near (-2)) (near (-1)) (near 1) (near 2)
  let level := dropLevel x.set x.x.ltab c2 (threshold x.set x.x (s.xposAt x gn) m)
  let trim := roundDiv (s.rampedAt gn 6 c m eTrim) 16
  let y := postKernel x.x.postK post x.l.ttrim h.1 h.2 ⟨level, trim, false⟩
  let gated := if s.prints gn c m then y.level else 0
  let (level, trim) := (s.calSub gn c m).getD (gated, y.trim)
  let tap := (s.steppedAt gn 5 c m (fun w => eTap w)).toNat
  (fireWord level trim (tap % 8), nextHistory (barLhi x.set x.x) y.lowered level h)

/-- The 512 fire words of a block's segment, and the histories of its nozzles (R129); columns beyond the row's populated ones are
0. -/
def State.blockLine (s : State) (x : LineCtx) (nb : Nat) : List Nat × List (Nat × (Nat × Nat)) :=
  let lo := 512 * (nb % 3)
  let all := (List.range 512).map (fun i => if lo + i < s.rowCols (nb / 3) then some (lo + i, s.nozzleLine x nb (lo + i)) else none)
  (all.map (fun o => (o.map (·.2.1)).getD 0), all.filterMap (fun o => o.map (fun p => (rowGn (nb / 3) + p.1, p.2.2))))

/-! ### Commands of a line -/

/-- Change a published line. -/
def State.setLine (s : State) (l : PLine) (f : PLine → PLine) : State :=
  s.setJobs (fun j => { j with lines := j.lines.map (fun x =>
    if x.chain = l.chain && x.row = l.row && x.line = l.line then f x else x) })

/-- Change an engine's blocks of a line. -/
def PLine.blocksOf (l : PLine) (n : Nat) (f : Blk → Blk) : PLine :=
  { l with blocks := l.blocks.map (fun b => if b.engine = some n then f b else b) }

def State.lineOf (s : State) (row line : Nat) : Option PLine := s.job.lines.find? (fun l => l.row = row && l.line = line)

/-- A block whose reads have not been issued, and that nothing withholds. -/
def Blk.toFetch (b : Blk) (n : Nat) : Bool := b.engine = some n && b.issued = none && b.cause = none && b.words = none

/-- A line's publication reaches an engine, which issues its reads (R106, R405). After a freeze they end with an error (R417). -/
def execSegmentFetch (engine row line : Nat) (s : State) : Host.Outcome State Fault Refusal :=
  .next (match s.lineOf row line with
    | none => s
    | some l =>
      if s.engineOut engine || !l.blocks.any (fun b => b.toFetch engine) then s
      else match s.lineCtx l with
        | none => s
        | some x =>
          let segs := if x.j.cal then [] else
            ((l.blocks.filter (fun b => b.toFetch engine)).flatMap (fun b => s.segments x b.nb)).eraseDups
          let lost : Option Nat := if s.frozen && segs ≠ [] then some Code.ST_MEM_FROZEN else none
          let s := s.setLine l (fun l => l.blocksOf engine (fun b =>
            if b.toFetch engine then { b with issued := some s.now, present := segs = [], cause := lost } else b))
          s.tickFetch (engine, row, line) segs)

/-- The last of an engine's reads for a line completes (R404): its segments are in the tile cache, unless one came with an
uncorrectable error (R107, R417). -/
def execTickReadComplete (engine row line : Nat) (uncorrectable : Bool) (s : State) : Host.Outcome State Fault Refusal :=
  .next (match s.lineOf row line with
    | none => s
    | some l => (s.tickDone (engine, row, line)).setLine l (fun l => l.blocksOf engine (fun b =>
        if b.issued.isNone || b.present || b.cause.isSome then b
        else if uncorrectable || s.frozen then { b with cause := some Code.ST_MEM_FROZEN }
        else { b with present := true })))

/-- Whether an earlier published line of the row still holds work of the block (R124: lines are composed in line order). -/
def State.earlierWaits (s : State) (l : PLine) (nb : Nat) : Bool :=
  s.job.lines.any (fun x => x.chain = l.chain && x.row = l.row && x.idx < l.idx && x.late.isNone
    && x.blocks.any (fun b => b.nb = nb && b.words = none && b.cause = none))

/-- The blocks of a line whose work the engine can start now (R106, R137). -/
def State.readyBlocks (s : State) (n : Nat) (l : PLine) : List Blk :=
  let cal := ((s.jobAt l.chain l.line).map (·.cal)).getD false
  l.blocks.filter (fun b => b.engine = some n && b.words = none && b.cause = none && b.present && l.late.isNone
    && (match b.issued with
      | some t => cal || decide (t + 8000 ≤ s.now)
      | none => false)
    && !s.earlierWaits l b.nb)

/-- The work of `n` block-lines from now, with the pipe's 2,000 mt, ends by the delivery deadline (R139). -/
def State.workFits (s : State) (n tf : Nat) : Bool :=
  s.now + 18000 ≤ tf && 512000 * n ≤ (tf - s.now - 18000) * s.engMHz

/-- An engine's screen pipe works for some of its clocks, after what it works on. -/
def State.pipeWorks (s : State) (n clocks : Nat) : State :=
  s.setEng (fun e => { e with
    work := Sparse.insert n ((e.work.lookup n).getD 0 + clocks) e.work,
    busyTo := Sparse.insert n (max s.now ((e.busyTo.lookup n).getD 0) + ceilDiv (4000 * clocks) (max 1 s.engMHz)) e.busyTo })

/-- A block's segment is composed and delivered (R105, R129): its nozzles' histories run on. -/
def State.compose (s : State) (x : LineCtx) (nb : Nat) : State :=
  let (words, hist) := s.blockLine x nb
  let s := s.setLine x.l (fun l => { l with blocks := l.blocks.map (fun b => if b.nb = nb then { b with words := some words } else b) })
  s.setEng (fun e => { e with
    hist := hist.foldl (fun m h => Sparse.insert h.1 h.2 m) e.hist,
    front := Sparse.insert nb (x.l.chain, x.l.idx + 1) e.front })

/-- An engine computes its blocks of a line, or abandons them where the work cannot end by the deadline (R105, R137, R139). Of the
lines it could start, it takes the one with the earliest deadline. -/
def execEngineLineCompute (engine row line : Nat) (s : State) : Host.Outcome State Fault Refusal :=
  .next (match s.lineOf row line with
    | none => s
    | some l =>
      let mine := s.readyBlocks engine l
      if mine = [] || s.engineOut engine || s.frozen
          || s.job.lines.any (fun x => x.tf < l.tf && s.readyBlocks engine x ≠ []) then s
      else if !s.workFits mine.length l.tf then
        s.setLine l (fun l => l.blocksOf engine (fun b => if mine.contains b then { b with cause := some Code.ST_LATE_WORK } else b))
      else match s.lineCtx l with
        | none => s
        | some x =>
          let s := (s.each mine (fun b s => s.compose x b.nb)).tellDigest row line
          s.pipeWorks engine (128 * mine.length))

/-! ### The fabric map and moves (R132 to R136) -/

/-- The entry of the staged map for a block. -/
def State.stagedEngine (s : State) (nb : Nat) : Option Nat :=
  let w := (s.word (0x71000 + 4 * (nb / 4))).toNat / 2 ^ (8 * (nb % 4))
  if bit w 7 then some (bits w 0 6) else none

/-- The outcome of a commit of the staged map: 0, or the first refusal of R132. -/
def State.mapResult (s : State) (locked : Bool) : Nat :=
  let staged := (List.range 4608).filterMap (fun nb => (s.stagedEngine nb).map (fun n => (nb, n)))
  if s.get Reg.JOB_STS.CHAINS ≠ 0 then 1
  else if locked then 5
  else if staged.any (fun e => s.rowCols (e.1 / 3) ≤ 512 * (e.1 % 3)) then 2
  else if staged.any (fun e => s.engineOut e.2) then 3
  else if (List.range 64).any (fun n => 72 < (staged.filter (fun e => e.2 = n)).length) then 4
  else 0

/-- The staged map comes into force. -/
def State.takeMap (s : State) : State :=
  let s := s.each (List.range 1152) (fun w s => s.setWord (0x73000 + 4 * w) (s.word (0x71000 + 4 * w)))
  (s.put Reg.FAB_STS.MAP_VALID 1).refreshFab.refreshCeil

/-- A commit of the staged map (R132). -/
def State.commitMap (s : State) (locked : Bool) : State :=
  let r := s.mapResult locked
  (s.put Reg.FAB_STS.MAP_RESULT r).when (r = 0) (·.takeMap)

def execFabMapCommit (slot : Nat) (data : Word) (s : State) : Host.Outcome State Fault Refusal :=
  .next (
    let locked := s.lockedAt Reg.FAB_CTRL.AT
    s.ownerWrite slot Reg.FAB_CTRL.AT (fun s => s.trigger slot Reg.FAB_CTRL.AT data 1 (·.commitMap locked)))

/-- A commit of a move (R136). -/
def State.commitMove (s : State) : State :=
  let src := s.get Reg.FAB_MOVE_CTRL.SRC
  let dst := s.get Reg.FAB_MOVE_CTRL.DST
  let r := s.moveRefused src dst
  (s.put Reg.FAB_MOVE_CTRL.RESULT r).when (r = 0) (·.beginMove src dst)

def execFabMoveCommit (slot : Nat) (data : Word) (s : State) : Host.Outcome State Fault Refusal :=
  .next (s.ownerWrite slot Reg.FAB_MOVE_CTRL.AT (fun s => s.trigger slot Reg.FAB_MOVE_CTRL.AT data 13 State.commitMove))

/-- The target of a move holds the moved blocks' records (R136): each row that holds moved blocks then takes the target
from its next line. `badRows` are the rows whose copy of the kernel history will meet an uncorrectable error. -/
def execFabMoveLoadDone (badRows : List Nat) (s : State) : Host.Outcome State Fault Refusal :=
  .next (match s.eng.move with
    | none => s
    | some m =>
      if m.loaded then s
      else
        let rows := ((s.engineBlocks m.src).map (· / 3)).eraseDups
        let s := s.setEng ({ · with move := some { m with loaded := true, rows := rows, badRows := badRows } })
        if rows = [] then s.finishMove else s.settleMove)

/-! ### Spot-checks and self-tests (R140 to R143) -/

/-- The block's own copy in a line that waits. -/
def PLine.blk (l : PLine) (nb : Nat) : Option Blk := l.blocks.find? (fun b => b.nb = nb)

/-- A mismatch (R141, R516): SUSPECT, the record, the self-test, and the segment withheld while its deadline is ahead. -/
def State.spotMismatch (s : State) (n nb : Nat) (l : Option PLine) : State :=
  let seq := s.get Reg.ERR_LOG_HEAD.HEAD
  let line : Nat := (l.map (·.line)).getD 0
  let s := ((s.count (Reg.SE_SPOT_MISS.MISS n)).put (Reg.SE_STS.SUSPECT n) 1).post
    (ev Code.ST_SE_SPOT_MISMATCH (srcSE n) none line (s.dataLine (nb / 3) line))
  let s := s.errRecord (er Code.ST_SE_SPOT_MISMATCH (srcSE n) 0 1 5 none line (s.dataLine (nb / 3) line))
  let s := (s.setEng (fun e => { e with seqs := (n, seq) :: e.seqs })).engineTest n 1
  match l with
  | none => s
  | some l =>
    if l.tf < s.now + 16000 then s
    else s.setLine l (fun l => { l with blocks := l.blocks.map (fun b =>
      if b.nb = nb then { b with words := none, cause := some Code.ST_SE_WITHHELD } else b) })

/-- A spot-check of a block at a line (R140, R141) by the checker of its engine: `finished` says that it ended by the line's
deadline, and `matched` that the CRCs agree. -/
def execSpotCheck (block line : Nat) (finished matched : Bool) (s : State) : Host.Outcome State Fault Refusal :=
  .next (
    let l := (s.lineOf (block / 3) line).filter (fun l => ((l.blk block).bind (·.words)).isSome)
    let n : Option Nat := match l with
      | some l => (l.blk block).bind (·.engine)
      | none => s.servedBy block
    match n with
    | none => s
    | some n =>
      if !s.flag Reg.FAB_CTRL.SPOT_EN || s.engineOut n || s.get (Reg.SE_CHECKER.CHECKED_BY n) = n
          || !((line + block) % 64 = 0 || s.flag (Reg.SE_STS.SUSPECT n)) then s
      else if !finished then s.count (Reg.SE_SPOT.SKIP n)
      else (s.count (Reg.SE_SPOT.DONE n)).when (!matched) (·.spotMismatch n block l))

/-- A requested self-test (R142). -/
def execSeSelftest (slot engine : Nat) (s : State) : Host.Outcome State Fault Refusal :=
  .next (s.ownerWrite slot (Reg.SE_CTRL.AT engine) (fun s => s.when (engine < 64) (·.engineTest engine 0)))

/-- The records whose test an engine's self-test was take its outcome (R516). -/
def State.engineOutcome (s : State) (n outcome : Nat) : State :=
  let mine := s.eng.seqs.filter (fun e => e.1 = n)
  let s := s.setEng (fun e => { e with seqs := e.seqs.filter (fun e => e.1 ≠ n) })
  s.each mine (fun e s => s.errOutcome e.2 Code.ST_SE_SPOT_MISMATCH outcome (srcSE n))

/-- An engine's self-test ends (R142): `result` is 1 PASS, 2 FAIL or 3 INCOMPLETE. DEDUCED: a requested test that passes on an engine
that is out takes its blocks from the map in force even while a move from it runs. -/
def State.engineTestEnds (s : State) (n cause result : Nat) : State :=
  let s := s.setEng (fun e => { e with tests := e.tests.filter (fun t => t.1 ≠ n) })
  let s := (s.put (Reg.SE_SELFTEST.RUNNING n) 0).put (Reg.SE_SELFTEST.RESULT n) result
  let s := s.engineOutcome n (if result = 1 then 1 else 2)
  if result ≠ 1 then (s.post (ev Code.ST_SE_SELFTEST_FAIL (srcSE n))).engineGoesOut n
  else
    let s := (s.put (Reg.SE_STS.SUSPECT n) 0).post (ev Code.ST_SE_SELFTEST_PASS (srcSE n))
    if !s.engineOut n then (s.put (Reg.SE_STS.STATE n) 0).refreshFab
    else if cause ≠ 0 then s
    else ((s.each (s.engineBlocks n) (fun nb s => s.put (mapByte nb) 0)).markOut n false).showCheckers.refreshFab

def execSeSelftestDone (engine : Nat) (pass : Bool) (s : State) : Host.Outcome State Fault Refusal :=
  .next (match s.eng.tests.find? (fun t => t.1 = engine) with
    | none => s
    | some (_, cause, _) => s.engineTestEnds engine cause (if pass then 1 else 2))

/-- A self-test that has not completed within 100 ms (R142). -/
def execSeSelftestTimeout (engine : Nat) (s : State) : Host.Outcome State Fault Refusal :=
  .next (match s.eng.tests.find? (fun t => t.1 = engine) with
    | none => s
    | some (_, cause, at_) => if s.now < at_ + 400000000 then s else s.engineTestEnds engine cause 3)

end Sys2Proof.Machine
end

