-- ==== Sys2Proof/Machine/Domains.lean ====
section
/-! DEFINITION. Power domains (R29, R30, R492, R493, R563) and the changes of mode that a request brings (R482 to R486). -/

namespace Sys2Proof.Machine

/-! ### Switching a domain -/

/-- Take the entries of some keys out of a map. -/
def dropKeys {α : Type} (p : Nat → Bool) (l : List (Nat × α)) : List (Nat × α) := l.filter (fun e => !p e.1)

/-- The domain of an on-die memory, by its number in `SramHit`. -/
def sramDomain (mem : Nat) : Nat :=
  if mem < 64 then 12 + mem / 8
  else if mem = 64 then 20
  else if mem = 65 then 8
  else if mem = 66 then 2
  else if mem = 67 then 11
  else 1

/-- The on-die memory at an internal address, and its domain (R34). The last window holds rings, contexts and service memory, in
an order the spec does not give: its domain is not told. -/
def sramAt (a : Nat) : Option Nat :=
  if a < 0x8000000 then some (a / 0x200000)
  else if a < 0xA000000 then some 64
  else if a < 0xA400000 then some 65
  else none
def sramAddrIn (d a : Nat) : Bool :=
  match sramAt a with
  | some m => sramDomain m = d
  | none => false

/-- The region tests of a domain's memories end untested (R527), and what the debug window wrote there is lost. -/
def State.endTestsOf (s : State) (d : Nat) : State :=
  let mine := s.err.tests.filter (fun t => sramDomain t.mem = d)
  let s := { s with err := { s.err with
    tests := s.err.tests.filter (fun t => sramDomain t.mem ≠ d), sram := s.err.sram.filter (fun e => !sramAddrIn d e.1) } }
  s.each mine (fun t s => s.each t.seqs (fun e s => s.errOutcome e.1 e.2 3 (srcDom d)))

/-- The registers of a domain return to their reset values. A MEM domain that holds an enabled sub-channel keeps what DRAM needs
(R409). -/
def State.regsLost (s : State) (d : Nat) : State :=
  if d = 9 || d = 10 then s.memSleeps d
  else { s with
    regs := dropKeys (fun a => domainAt a = some d) s.regs, fresh := s.fresh.filter (fun e => domainAt e.1 ≠ some d) }

/-- The lanes that a domain holds lose what they hold beside their registers. -/
def State.lanesLost (s : State) (p : Nat → Bool) : State := { s with lanes := dropKeys p s.lanes }

/-- The Duet link, the station links and the member's part in a pair. -/
def State.duetLost (s : State) : State :=
  let s : State := { s.setDue (fun _ => {}) with peers := [] }
  s.lanesLost (fun n => decide (240 ≤ n))

/-- The head ports of a domain: all but the last IDENT accepted since reset, which still decides the populated columns (R560). -/
def State.portsLost (s : State) (i : Nat) : State :=
  let s : State := { s with ports := s.ports.map (fun e => if e.1 / 24 = i then (e.1, { ident := e.2.ident }) else e) }
  s.lanesLost (fun n => n < 192 && n / 48 = i)

/-- The cameras and the inspection unit. -/
def State.camerasLost (s : State) : State :=
  let s : State := { s with cams := [] }
  let s : State := { s with ins := {} }
  s.lanesLost (fun n => 192 ≤ n && n < 224)

/-- The compression channels: running bands wait again. -/
def State.zipLost (s : State) : State :=
  let s : State := { s with zip := {} }
  s.setJobs (fun x => { x with jobs := x.jobs.map (fun j => { j with pages := j.pages.map (fun p => { p with
    bands := p.bands.map (fun b => match b.st with
      | .running _ => { b with st := .waiting }
      | _ => b) }) }) })

/-- The engines of a cluster. -/
def State.clusterLost (s : State) (i : Nat) : State :=
  s.setEng (fun e => { e with
    hist := [], front := [], move := none, tests := e.tests.filter (fun t => t.1 / 8 ≠ i),
    badCopy := ((List.range 8).flatMap (fun j => [(8 * i + j, 0), (8 * i + j, 1)]))
      ++ e.badCopy.filter (fun t => t.1 / 8 ≠ i) })

/-- The units that print. -/
def State.printLost (s : State) : State :=
  let s := (s.setJobs (fun _ => {})).setSmp (fun _ => {})
  let s : State := { (s.setCal (fun _ => {})).setEng (fun _ => {}) with rows := [] }
  s

/-- What the units of a domain hold beside their registers is lost (R493). -/
def State.unitsLost (s : State) (d : Nat) : State :=
  if d = 3 then s.duetLost
  else if 4 ≤ d && d ≤ 7 then s.portsLost (d - 4)
  else if d = 8 then s.camerasLost
  else if d = 11 then s.zipLost
  else if 12 ≤ d && d ≤ 19 then s.clusterLost (d - 12)
  else if d = 20 then s.printLost
  else s
/-- A domain goes off: it loses every register and its SRAM's content (R493), and the region tests of its memories end untested
(R527). -/
def State.domLost (d : Nat) (s : State) : State := (((s.regsLost d).unitsLost d).endTestsOf d).pmcAdd 450

/-- The domains that are on. -/
def State.domains (s : State) : Nat := s.get Reg.PWR_DOM_STS.ON

/-- Switch to a set of domains: the others off in reverse order, then those on (R492). Engines take up their blocks again. -/
def State.setDomains (want : Nat) (s : State) : State :=
  let old := s.domains
  let off := (List.range 21).filter (fun d => bit old d && !bit want d)
  let on := (List.range 21).filter (fun d => !bit old d && bit want d)
  let s := s.each off.reverse State.domLost
  let s := (s.pmcAdd 450 on.length).each (on.filter (fun d => d = 9 || d = 10)) (fun d s => s.memWakes d)
  (s.put Reg.PWR_DOM_STS.ON want).refreshFab

/-! ### What may be on -/

/-- Whether a domain's dependencies hold in a set (the table "Domain dependencies"). -/
def depends (want d : Nat) : Bool :=
  let mem := bit want 9 || bit want 10
  d = 0 || bit want 0
    && (if d = 2 || d = 20 then bit want 1
      else if (4 ≤ d && d ≤ 8) || d = 11 then mem
      else if 12 ≤ d && d ≤ 19 then bit want 20 && mem
      else true)

/-- The domains of a set whose dependencies hold in it, to a fixed point. -/
def prune : Nat → Nat → Nat
  | 0, want => want
  | n + 1, want => prune n (((bitList 21 want).filter (depends want)).foldl (fun m d => putBit m d true) 0)

/-- Whether a MEM domain holds an enabled sub-channel (R409). -/
def State.memDomain (s : State) (d : Nat) : Bool := s.subChannels.any (fun mc => 9 + mc / 8 = d)

/-- A set of domains as R409 carries it out: a MEM domain without an enabled sub-channel stays off. -/
def State.memMask (s : State) (want : Nat) : Nat :=
  [9, 10].foldl (fun m d => if s.memDomain d then m else putBit m d false) want

/-- The domains of M4 (R482, R492, R563): those PWR_DOM_CFG.M4_ON names, PD0 to PD2, and both of two MEM domains if it names one. -/
def State.m4Domains (s : State) : Nat :=
  let want := s.get Reg.PWR_DOM_CFG.M4_ON ||| 7
  let want := if bit want 9 || bit want 10 then want ||| 0x600 else want
  prune 4 (s.memMask want)

/-- The domains of M3 (R482, R563); PD3 as it is. -/
def State.m3Domains (s : State) (pd3 : Bool) : Nat := s.memMask (putBit 0x1006F7 3 pd3)

/-- Whether the map in force assigns a block to an engine of a cluster. -/
def State.clusterMapped (s : State) (c : Nat) : Bool :=
  (List.range 4608).any (fun nb => match s.blockEngine nb with
    | some n => n / 8 = c
    | none => false)

/-- The refusals of a domain request (R492): 1 MODE, 2 DEPEND, 3 MAPPED, 4 FIXED, 5 MEMPAIR. -/
def State.domRefusal (s : State) (want : Nat) : Nat :=
  let kept := s.memMask want
  if s.mode ≠ 3 && s.mode ≠ 4 then 1
  else if (bitList 21 kept).any (fun d => !depends kept d) then 2
  else if (List.range 8).any (fun c => s.domOn (12 + c) && !bit want (12 + c) && s.clusterMapped c) then 3
  else if want % 8 ≠ 7 then 4
  else if s.memDomain 9 && s.memDomain 10 && s.domOn 9 && s.domOn 10 && bit want 9 != bit want 10 then 5
  else 0

/-- A request for domains (R492): refused whole, or under way. -/
def State.domRequest (s : State) (want : Nat) : State :=
  let r := s.domRefusal want
  let s := s.put Reg.PWR_DOM_STS.RESULT r
  if r ≠ 0 then s.post (ev Code.ST_PWR_DOM_REFUSED srcPWR)
  else { s with pwr := { s.pwr with domPend := some (s.memMask want) } }

/-- Whether a set of domains would switch a MEM domain off in which a full retrain runs (R418). -/
def State.retrainHolds (s : State) (want : Nat) : Bool :=
  (List.range 16).any (fun mc => s.get (Reg.MC_STS.STATE mc) = 4 && !bit want (9 + mc / 8))

/-- A switch under way completes, once no full retrain holds it (R418). -/
def State.domDone (s : State) : State :=
  match s.pwr.domPend with
  | none => s
  | some want =>
    if s.retrainHolds want then s
    else ({ s with pwr := { s.pwr with domPend := none } }).setDomains want

end Sys2Proof.Machine
end

