-- ==== Sys2Proof/Machine/ModeOps.lean ====
section
/-! DEFINITION. Mode requests (R483 to R486) and derating (R485): what a request checks and what a change of mode does. -/

namespace Sys2Proof.Machine

/-! ### Twilight by mode (R219, R482) -/

/-- A port wakes on leaving M3, but for what HP_CTRL keeps asleep (R217). -/
def State.portWakes (p : Nat) (s : State) : State :=
  let s := s.when (!s.flag (Reg.HP_CTRL.TX_TWI p)) (·.txWake p)
  s.when (!s.flag (Reg.HP_CTRL.HEAD_TX_TWI p)) (·.headTwi p 0)

/-! ### Entering a mode -/

/-- The device records the IDENT of each port at the transition from Configure to Ready (R207; it covers the used ports of R484). -/
def State.recordIdents (s : State) : State :=
  s.each ((s.ports.filter (fun e => e.2.ident.isSome)).map (·.1)) (fun p s => s.setPort p (fun x => { x with ready := x.ident }))

/-- Switch to a mode's domains (R482); a MEM domain in which a full retrain runs goes off once that has ended (R418). -/
def State.enterDomains (want : Nat) (s : State) : State :=
  if s.retrainHolds want then
    { s.setDomains (want ||| (s.domains &&& 0x600)) with pwr := { s.pwr with domPend := some want } }
  else s.setDomains want

/-- What entering a mode on request includes (R482, R486, R563). -/
def State.enterMode (m : Nat) (s : State) : State :=
  let old := s.mode
  let s := (s.domDone).put Reg.DEV_MODE.RESULT 0
  let s := (s.setMode m).pmcAdd 455
  let s := s.when (old = 8) (fun s => s.each s.upPorts (fun p s => s.headMode (s.get (Reg.HP_HEAD_CMD.MODE p)) p))
  let s := s.when (old = 4 && m = 5) State.recordIdents
  if m = 3 then
    (s.each s.upPorts State.portSleeps).enterDomains (s.m3Domains (s.domOn 3))
  else if m = 4 then
    let s := s.enterDomains s.m4Domains
    let s : State := { s.setJobs ({ · with ringEnd := 0 }) with
      ports := s.ports.map (fun (e : Nat × PortSt) => (e.1, { e.2 with changed := false })) }
    s.each ((s.ports.map Prod.fst).filter (fun p => s.flag (Reg.HP_CTRL.EN p))) State.portWakes
  else if m = 6 then
    let rpt := 2 ^ s.get Reg.TRK_CFG.RPT_LOG
    { s with pwr := { s.pwr with printFrom := (s.now / rpt + 1) * rpt } }
  else if m = 8 then s.each s.upPorts (State.headMode 3)
  else s

/-! ### Requests -/

/-- The requests each mode accepts (the table "Mode transitions"). -/
def modeAccepts (m : Nat) : List Nat :=
  match m with
  | 3 => [4]
  | 4 => [3, 5]
  | 5 => [4, 6, 8, 9]
  | 6 | 7 | 8 | 9 => [5]
  | 10 => [3, 4]
  | _ => []

/-- Whether a pending request's condition holds: no chain in flight, and for M10 no axis STOPPING or EMERGENCY either. -/
def State.modeReady (s : State) (target : Nat) : Bool :=
  if (s.mode = 5 && (target = 8 || target = 9)) || s.mode = 6 || s.mode = 7 || s.mode = 9 then s.get Reg.JOB_STS.CHAINS = 0
  else if s.mode = 10 then
    s.flying = [] && s.mot.axes.all (fun x => x.st ≠ .stopping && x.st ≠ .emergency)
  else true

/-- The first check of R484 that fails. -/
def State.readyRefusal (s : State) : Option Nat :=
  let ports := (s.enabledRows.map (· / 16)).eraseDups
  if s.job.jobs = [] then some Code.ST_MODE_NO_JOB
  else if !s.flag Reg.FAB_STS.MAP_VALID then some Code.ST_MODE_NO_MAP
  else if !s.flag Reg.SMP_STS.IMG_VALID || ports.any (fun p => !s.smp.loaded.contains p) then some Code.ST_MODE_NO_IMAGE
  else if s.jobPorts.any (fun p => !s.portUp p) then some Code.ST_HP_NOT_UP
  else if s.get Reg.MER_CTRL.ROLE = 2 && !s.flag Reg.MER_STN_STS.LOCKED then some Code.ST_MER_UNLOCKED
  else if s.get Reg.ZIP_CFG.PAGE_MASK = 0 then some Code.ST_ZIP_NO_PAGE_CH
  else if s.get Reg.FLD_STS.STATE ≠ 3 then some Code.ST_FLD_NOT_ACTIVE
  else none

/-- A MODE descriptor completes: none if the request came from DEV_MODE. -/
def State.modeDesc (s : State) (desc : Option (Nat × Nat)) (status detail : Nat) : State :=
  match desc with
  | some (r, i) => s.complete r i status detail
  | none => s

/-- A refused request (R483). -/
def State.modeRefuse (s : State) (code : Nat) (desc : Option (Nat × Nat)) : State :=
  ((s.put Reg.DEV_MODE.RESULT 1).post (ev Code.ST_MODE_REFUSED srcPWR code)).modeDesc desc Code.ST_MODE_REFUSED code

/-- A request for M10 is a Safe-stop cause (R494). -/
def State.requestStop (s : State) (desc : Option (Nat × Nat)) : State :=
  let s := s.safeStop Code.ST_SAFESTOP
  if s.mode = 10 then (s.put Reg.DEV_MODE.RESULT 0).modeDesc desc Code.ST_OK 0
  else s.modeDesc desc Code.ST_MODE_REFUSED Code.ST_SAFESTOP

/-- A request for a mode (R483). -/
def State.modeRequest (s : State) (target : Nat) (desc : Option (Nat × Nat)) : State :=
  if target = 10 then s.requestStop desc
  else if !(modeAccepts s.mode).contains target then s.modeRefuse Code.ST_MODE_ILLEGAL desc
  else
    match if s.mode = 4 && target = 5 then s.readyRefusal else none with
    | some c => (s.modeRefuse c desc).post (ev c srcPWR)
    | none =>
      let s := s.cancelMode Code.ST_MODE_CANCELLED
      if s.modeReady target then (s.enterMode target).modeDesc desc Code.ST_OK 0
      else { s.put Reg.DEV_MODE.RESULT 2 with pwr := { s.pwr with modeReq := some ⟨target, desc⟩ } }

/-- A pending request whose condition holds is carried out. -/
def State.modePending (s : State) : State :=
  match s.pwr.modeReq with
  | none => s
  | some q =>
    if s.modeReady q.target then
      (({ s with pwr := { s.pwr with modeReq := none } }).enterMode q.target).modeDesc q.desc Code.ST_OK 0
    else s

/-! ### Derating (R485) -/

/-- The condition that keeps the device in M7, by its code; a level condition counts before a spare condition. -/
def State.derated (s : State) : Option Nat :=
  let level := max (s.get Reg.PWR_LEVEL.REQ) 2 < s.get Reg.PWR_LEVEL.IN_FORCE
  let ports := ((s.flying.flatMap Chain.rows).map (· / 16)).eraseDups
  if level then
    some (if s.get Reg.PWR_LEVEL.CAUSE = 1 then Code.ST_THM_THROTTLE else Code.ST_PWR_LEVEL)
  else if !s.flag Reg.PWR_CTRL.M7_SPARE_EN then none
  else if ports.any (fun p => s.get (Reg.SMP_PORT_STS.UNCOVERED p) ≠ 0) then some Code.ST_SMP_UNCOVERED
  else if ports.any (fun p => s.get (Reg.SMP_PORT_STS.SPARES p) < s.get Reg.SMP_SPARE_LOW.MIN) then some Code.ST_SMP_SPARE_LOW
  else none

/-- The device passes between M6 and M7 (R485). -/
def State.derate (s : State) : State :=
  match s.derated with
  | some c =>
    let s := { s with pwr := { s.pwr with derateCode := c } }
    if s.mode = 6 then s.autoMode 7 c else s
  | none => if s.mode = 7 then s.autoMode 6 s.pwr.derateCode else s

end Sys2Proof.Machine
end

