-- ==== Sys2Proof/Machine/Levels.lean ====
section
/-! DEFINITION. The power level, the core regulator and Surge (R503 to R507, R541, R542), and thermal levels (R497 to R501). -/

namespace Sys2Proof.Machine

def State.setPwr (s : State) (f : PwrSt → PwrSt) : State := { s with pwr := f s.pwr }

/-! ### The core regulator (R541) -/

/-- A PMBus transfer to the core regulator, by PWR_VR_CFG. -/
def State.pmbus (s : State) (command : Nat) (data : Option Nat) : State :=
  s.send (.pmbus (s.get Reg.PWR_VR_CFG.ADDR) (s.flag Reg.PWR_VR_CFG.PEC_EN) command data)

/-- In M2 the device reads VOUT_MODE once; what the regulator answers is open. -/
def State.voutRead (s : State) : State :=
  s.when (s.mode = 2 && s.pwr.voutMode.isNone) (fun s =>
    (s.drawn.setPwr ({ · with voutMode := some (s.free % 256) })).pmbus 0x20 none)

/-- The word that sets a target in mV: in the linear mode the volts in units of 2^N, with N the mode's low five bits in two's
complement. -/
def voutWord (mode mv : Nat) : Nat :=
  if mode / 32 % 8 ≠ 0 then Config.voutData mode mv
  else if mode % 32 < 16 then mv / (1000 * 2 ^ (mode % 32))
  else (mv * 2 ^ (32 - mode % 32) + 500) / 1000

/-- The PMBus command VOUT_COMMAND, for the target of a level. -/
def State.voutCommand (s : State) (l : Nat) : State :=
  (s.pmbus 0x21 (some (voutWord (s.pwr.voutMode.getD 0) (levelVolt l)))).put Reg.PWR_VSENSE.TARGET (levelVolt l)

/-- The level whose clock is in force. -/
def State.clockLevel (s : State) : Nat := ((List.range 5).find? (fun l => levelMHz l = s.engMHz)).getD 4

/-- The engine clock becomes a level's, under R135: FAB_CEIL and the published ceiling follow in the same decision. -/
def State.setClock (s : State) (l : Nat) : State := ((s.put Reg.PWR_CLK.ENG_MHZ (levelMHz l)).refreshFab).refreshCeil

/-- The clock and the voltage follow a new level in force (R505): a lower clock at once, its voltage after it; a higher clock only
after the regulator acknowledges the voltage it needs. -/
def State.clockFollows (s : State) (l : Nat) : State :=
  if levelMHz l ≤ s.engMHz then
    (((s.setClock l).voutCommand l).put Reg.PWR_VR_STS.BUSY 0).setPwr ({ · with vrPend := none })
  else
    let c := s.clockLevel
    ((s.voutCommand l).put Reg.PWR_VR_STS.BUSY 1).setPwr ({ · with vrPend := some (c, l, s.now) })

/-! ### Surge (R507) -/

/-- Surge time within the last 600 s, in mt. -/
def State.surgeTime (s : State) : Nat :=
  let lo := s.now - 2400000000000
  ((match s.pwr.surgeSince with
    | some t => [(t, s.now)]
    | none => []) ++ s.pwr.surgeUsed).foldl (fun n e => n + (e.2 - max e.1 lo)) 0

/-- PWR_SURGE.USED, in 10 ms. -/
def State.showSurge (s : State) : State := s.put Reg.PWR_SURGE.USED (min (s.surgeTime / 40000000) 65535)

/-- Surge time starts and ends with levels 0 and 1. -/
def State.surgeFollows (s : State) (l : Nat) : State :=
  match s.pwr.surgeSince with
  | some t =>
    if l ≤ 1 then s
    else (s.setPwr (fun x => { x with
      surgeSince := none,
      surgeUsed := (t, s.now) :: x.surgeUsed.filter (fun e => s.now < e.2 + 2400000000000) })).showSurge
  | none => if l ≤ 1 then s.setPwr ({ · with surgeSince := some s.now }) else s

/-! ### The level in force (R504) -/

/-- The four components of the level in force, in the order of PWR_LEVEL.CAUSE; a level held after a failed raise counts with the power
level (R542). -/
def State.levelParts (s : State) : List Nat :=
  let held : Nat := match s.pwr.vrHold with
    | some (l, t) => if s.now < t then l else 0
    | none => 0
  [s.get Reg.PWR_LEVEL.REQ, s.get Reg.PWR_LEVEL.THERM, max (s.get Reg.PWR_LEVEL.POWER) held, if s.pwr.surgeBar then 2 else 0]

/-- The level in force follows its components; each change is posted with the ceiling (R504). In M11 every clock stays as it
was (R496). -/
def State.relevel (s : State) : State :=
  if s.mode = 11 then s
  else
    let parts := s.levelParts
    let l := parts.foldl max 0
    let s := s.put Reg.PWR_LEVEL.CAUSE (parts.findIdx (· = l))
    if l = s.get Reg.PWR_LEVEL.IN_FORCE then s
    else
      let s := ((s.put Reg.PWR_LEVEL.IN_FORCE l).surgeFollows l).clockFollows l
      s.post (ev Code.ST_PWR_LEVEL srcPWR l (s.get Reg.PWR_CEIL.CEIL))

/-! ### Thermal levels (R499 to R504) -/

/-- A domain's thermal level: 0 normal, 1 Warning, 2 Throttle. -/
def State.thermLevel (s : State) (d : Nat) : Nat := s.get64 Reg.THM_DOM_LVL.PAIR / 4 ^ d % 4

/-- The level that a domain takes (R498, R499): from the level before, with 5 °C of hysteresis; a broken sensor throttles. -/
def State.levelOf (s : State) (d prev : Nat) : Nat :=
  let t := s.domainTemp d
  if (domainSensors d).any s.sensorBroken then 2
  else if 1680 ≤ t || (prev = 2 && 1600 ≤ t) then 2
  else if 1520 ≤ t || (1 ≤ prev && 1440 ≤ t) then 1
  else 0

/-- A domain's level changes (R499): each threshold entered or left is posted with the domain and its temperature. -/
def State.setThermLevel (s : State) (d new : Nat) : State :=
  let old := s.thermLevel d
  let t := unsigned 64 (s.domainTemp d)
  let e := fun (code : Nat) (s : State) => s.post (ev code (srcDom d) (some d) (some t))
  let s := s.put64 Reg.THM_DOM_LVL.PAIR (s.get64 Reg.THM_DOM_LVL.PAIR - old * 4 ^ d + new * 4 ^ d)
  let s := s.when (old < 1 && 1 ≤ new) (fun s => e Code.ST_THM_WARNING ((s.put Reg.THM_EVT.WARN 1).pmcAdd 448))
  let s := s.when (old < 2 && 2 ≤ new) (fun s => e Code.ST_THM_THROTTLE ((s.put Reg.THM_EVT.THROTTLE 1).pmcAdd 447))
  let s := s.when (2 ≤ old && new < 2) (e Code.ST_THM_THROTTLE_CLEAR)
  s.when (1 ≤ old && new < 1) (e Code.ST_THM_WARNING_CLEAR)

/-- The target of the thermal level (R504). -/
def State.thermTarget (s : State) : Nat :=
  let ls := (List.range 21).map s.thermLevel
  if ls.any (· = 2) then 4 else if ls.any (· = 1) then 2 else 0

/-- The thermal level follows its target: up at once; a fall begins. -/
def State.thermFollows (s : State) : State :=
  let t := s.thermTarget
  if s.get Reg.PWR_LEVEL.THERM ≤ t then (s.put Reg.PWR_LEVEL.THERM t).setPwr ({ · with fallAt := none })
  else s.setPwr (fun x => { x with fallAt := x.fallAt.or (some s.now) })

/-- The working sensor with the highest reading. -/
def State.hottest (s : State) : Nat :=
  (List.range 24).foldl (fun b i =>
    if s.sensorBroken i then b
    else if s.sensorBroken b || s.getI (Reg.THM_SENS.TEMP b) < s.getI (Reg.THM_SENS.TEMP i) then i else b) 0

/-- A sensor breaks (R498): 1 open, 2 short, 3 out of range, 4 stuck; until device reset. Its record is
untested (R516). -/
def State.sensorBreaks (i kind : Nat) (s : State) : State :=
  if s.sensorBroken i then s
  else
    let s := (s.put (Reg.THM_SENS.BROKEN i) kind).put Reg.THM_EVT.BROKEN 1
    let s := s.put Reg.THM_STS.BROKEN (s.get Reg.THM_STS.BROKEN + 1)
    (s.errRecord (er Code.ST_THM_SENSOR_BROKEN srcTHM 3 1 0)).post (ev Code.ST_THM_SENSOR_BROKEN srcTHM)

/-- How a reading shows a sensor broken (R498). -/
def brokenBy (r : SensorReading) : Nat :=
  if r.defect = 1 || r.defect = 2 then r.defect
  else if r.temp16 < -880 || 2560 < r.temp16 then 3
  else 0

/-- The levels of every domain follow the readings (R499, R500), then the thermal level and the level in force. -/
def State.thermal (s : State) : State :=
  let first := s.pwr.firstThm
  let s := s.setPwr ({ · with firstThm := false })
  let s := s.each (List.range 21) (fun d s => s.setThermLevel d (s.levelOf d (if first then 2 else s.thermLevel d)))
  let ls := (List.range 21).map s.thermLevel
  let s := ((s.putB Reg.THM_STS.WARN (ls.any (1 ≤ ·))).putB Reg.THM_STS.THROTTLE (ls.any (· = 2))).put Reg.THM_STS.HOTTEST s.hottest
  (s.thermFollows).relevel

/-- The sensors that count toward a shutdown (R500, R501). -/
def State.tripped (s : State) (first : Bool) : List Nat :=
  (List.range 24).filter (fun i => s.sensorBroken i || (if first then 1808 else 1888) ≤ s.getI (Reg.THM_SENS.TEMP i))

/-- Shutdown (R501): FLUSH, THERMTRIP_N, THM_TRIP, every domain but PD0 off, and M1. -/
def State.shutdown (s : State) (trip : List Nat) : State :=
  let s := s.cancelMode Code.ST_THM_SHUTDOWN
  let s := (s.endChains).each s.upPorts State.flushPort
  let s := s.send (.pin "THERMTRIP_N" 0)
  let s := (s.put Reg.THM_TRIP.VALID 1).put Reg.THM_TRIP.TRIP (trip.foldl (fun m i => putBit m i true) 0)
  let s := s.post (ev Code.ST_THM_SHUTDOWN srcTHM)
  let s := s.autoMode 1 Code.ST_THM_SHUTDOWN
  (s.setPwr ({ · with shut := true, heldAt := s.now, domPend := none, vrPend := none })).setDomains 1

end Sys2Proof.Machine
end

