-- ==== Sys2Proof/Machine/Power.lean ====
section
/-! DEFINITION. The commands of modes, domains, power and temperature (chapter 16), and of the core regulator (chapter 18). -/

namespace Sys2Proof.Machine

/-! ### Modes -/

/-- A write of DEV_MODE (R483); REQ 0 and REQ 12 to 15 as R483 says. -/
def execModeRequest (slot : Nat) (req : Nat) (s : State) : Host.Outcome State Fault Refusal :=
  .next (s.ownerWrite slot Reg.DEV_MODE.AT (fun s => s.when (req % 16 ≠ 0) (·.modeRequest (req % 16) none)))

def execModePendingComplete (s : State) : Host.Outcome State Fault Refusal := .next s.modePending

def execDerateChange (s : State) : Host.Outcome State Fault Refusal :=
  .next (s.when (s.mode = 6 || s.mode = 7) (·.derate))

/-- The reserved bytes of a maintenance body are 0 (R509). -/
def Desc.zeroAt (d : Desc) (from_ n : Nat) : Bool := (List.range n).all (fun i => byteAt d.bytes (from_ + i) = 0)

/-- The MODE descriptor at a ring's head (R509). -/
def execMode (ring : Nat) (s : State) : Host.Outcome State Fault Refusal :=
  .next (match s.headDesc ring with
    | none => s
    | some d =>
      if s.ringType ring ≠ 4 || (d.at_ 16 1 ≠ 0x40 && d.at_ 16 1 < 0x42) then s
      else
        let s := s.markStarted ring d.index
        if d.at_ 16 1 ≠ 0x40 || 11 < d.at_ 17 1 || !d.zeroAt 18 38 then s.complete ring d.index Code.ST_DESC_FORMAT
        else if d.at_ 17 1 = 0 then s.modeRefuse Code.ST_MODE_ILLEGAL (some (ring, d.index))
        else s.modeRequest (d.at_ 17 1) (some (ring, d.index)))

/-! ### Spit lines (R509) -/

/-- A SPIT body that does not fit: reserved bytes, LEVEL, WAVE, LINES, or a PERIOD below 1 / MAX_RATE of a selected head. -/
def State.spitBad (s : State) (d : Desc) (ports : List Nat) : Bool :=
  let level := d.at_ 17 1
  let lines := d.at_ 36 4
  !d.zeroAt 19 1 || !d.zeroAt 22 2 || !d.zeroAt 44 12 || level = 0 || 7 < level || 15 < d.at_ 18 1
    || lines = 0 || 1000000 < lines || ports.any (fun p => d.at_ 40 4 * s.maxRate p < 4000000000)

/-- The selected rows of the selected UP ports. -/
def State.spitRows (s : State) (d : Desc) (ports : List Nat) : List Nat :=
  ports.flatMap (fun p => ((List.range 16).filter (fun r => bit (d.at_ 20 2) r && s.cols p r ≠ 0)).map (16 * p + ·))

/-- The first fire time of a row: 50 µs ahead, or 2.1 ms after the row's last sent line if that used another WAVE. -/
def State.spitStart (s : State) (k wave : Nat) : Nat :=
  let t := s.now + 200000
  match (s.port (k / 16)).lastSent.find? (fun x => x.row = k % 16) with
  | some x => if x.wave ≠ wave then max t (x.tf + 8400000) else t
  | none => t

/-- A SPIT descriptor starts. -/
def State.spitBegin (s : State) (r : Nat) (d : Desc) : State :=
  let s := s.markStarted r d.index
  let ports := (bitList 96 (d.at_ 24 12)).filter s.portUp
  if s.spitBad d ports then s.complete r d.index Code.ST_DESC_FORMAT
  else if s.mode ≠ 8 then (s.drawn).complete r d.index Code.ST_MODE_REFUSED (s.open_ 32)
  else
    let rows := (s.spitRows d ports).map (fun k => (k, s.spitStart k (d.at_ 18 1), 0))
    let x : Spit := ⟨r, d.index, d.at_ 36 4, d.at_ 40 4, d.at_ 17 1, d.at_ 18 1, rows,
      ports.map (fun p => (p, (s.port p).spits)), 0⟩
    let s := s.each ports (fun p s => s.setPort p (fun y => { y with spits := (y.spits + x.lines) % 2 ^ 28 }))
    s.setPwr (fun y => { y with spits := y.spits ++ [x] })

/-- The DATA blocks of a row's n-th spit line. -/
def State.spitBlocks (s : State) (x : Spit) (k tf n : Nat) : List Nat :=
  let cols := s.rowCols k
  let seq := ((x.base.lookup (k / 16)).getD 0 + n) % 2 ^ 28 * 16 + k % 16
  let bank := (((s.port (k / 16)).tbank).lookup (k % 16)).getD 0
  (seq + k % 16 * 2 ^ 32 + cols * 2 ^ 36 + x.wave * 2 ^ 48 + bank * 2 ^ 52) :: tf
    :: blocksOf (10 * cols) (packWords 10 (List.replicate cols x.level))

/-- Whether a row's next spit line can still be sent (R207, R209, R221). -/
def State.spitFits (s : State) (k tf : Nat) : Bool :=
  let p := k / 16
  s.mode = 8 && s.portUp p && !(s.port p).fatal && !(s.port p).changed
    && s.canStart p (s.lineLen k) tf

/-- The lines of a row that can no longer be sent, from line `n` on; `fuel` bounds them by the lines left. -/
def State.spitPast (s : State) (x : Spit) (k t0 : Nat) : Nat → Nat → Nat
  | 0, n => n
  | fuel + 1, n => if s.spitFits k (t0 + n * x.period) then n else State.spitPast s x k t0 fuel (n + 1)

/-- One row's turn: its lines that can no longer be sent are counted; its next one goes out where the port takes it now. -/
def State.spitRow (s : State) (x : Spit) (go : List Nat) (row : Nat × Nat × Nat) : State × (Nat × Nat × Nat) × Nat :=
  let k := row.1
  let t0 := row.2.1
  let n := State.spitPast s x k t0 (x.lines - row.2.2) row.2.2
  let lost := n - row.2.2
  if n < x.lines && go.contains k && !s.txBusy (k / 16) then
    let tf := t0 + n * x.period
    let s := (s.sendBlocks (k / 16) (packet 1 (s.spitBlocks x k tf n))).setPort (k / 16) (fun y => { y with
      lastSent := ⟨k % 16, tf, x.wave⟩ :: y.lastSent.filter (fun z => z.row ≠ k % 16) })
    ((s.count (Reg.HP_CNT.CNT (k / 16) 0)).pmcAdd (128 + k / 16), (k, t0, n + 1), lost)
  else (s, (k, t0, n), lost)

/-- A running SPIT: each row's turn, then its completion after its last fire time. -/
def State.spitTurn (x : Spit) (go : List Nat) (s : State) : State :=
  let a := x.rows.foldl (fun (acc : State × List (Nat × Nat × Nat) × Nat) row =>
    let b := acc.1.spitRow x go row
    (b.1, acc.2.1 ++ [b.2.1], acc.2.2 + b.2.2)) (s, [], 0)
  let x' := { x with rows := a.2.1, unsent := x.unsent + a.2.2 }
  let past := x'.rows.all (fun r => x.lines ≤ r.2.2 && r.2.1 + (x.lines - 1) * x.period ≤ s.now)
  let rest := a.1.pwr.spits.filter (fun y => !(y.ring = x.ring && y.index = x.index))
  let s := a.1.setPwr ({ · with spits := if past then rest else rest ++ [x'] })
  s.when past (·.complete x.ring x.index Code.ST_OK x'.unsent)

/-- SPIT (R509): a descriptor at the ring's head starts; those that run send the next line of each row in `rows`. -/
def execSpit (ring : Nat) (rows : List Nat) (s : State) : Host.Outcome State Fault Refusal :=
  let s' := match s.headDesc ring with
    | none => s
    | some d => if s.ringType ring ≠ 4 || d.at_ 16 1 ≠ 0x41 then s else s.spitBegin ring d
  .next (s'.each (s'.pwr.spits.filter (fun x => x.ring = ring)) (fun x s => s.spitTurn x rows))

/-! ### Domains (R492) -/

def execPwrDomReq (slot : Nat) (data : Word) (s : State) : Host.Outcome State Fault Refusal :=
  .next (s.ownerWrite slot Reg.PWR_DOM_CTRL.AT (·.domRequest (wbits data 0 21)))

def execDomainSwitchDone (s : State) : Host.Outcome State Fault Refusal := .next s.domDone

/-! ### Temperature (R497 to R501, R504) -/

/-- The sensors are read (R497). -/
def State.readSensors (s : State) (readings : List SensorReading) : State :=
  let hot := (readings.filter (fun r => r.defect = 0 && 1808 ≤ r.temp16)).length
  let s := s.setPwr ({ · with hot := hot })
  s.each (readings.zipIdx.take 24) (fun r s => s.putSat (Reg.THM_SENS.TEMP r.2) r.1.temp16)

/-- Every 100 µs (R497 to R501): broken sensors, thermal levels, and shutdown. In M1 after a shutdown only the sensors run. -/
def execThermalSample (readings : List SensorReading) (s : State) : Host.Outcome State Fault Refusal :=
  .next (
    let first := s.pwr.firstThm
    if s.pwr.resetLow || s.pwr.rails ≠ [] then
      s.setPwr ({ · with hot := (readings.filter (fun r => r.defect = 0 && 1808 ≤ r.temp16)).length })
    else if s.pwr.shut then s.readSensors readings
    else
      let s := s.readSensors readings
      let s := s.each ((readings.zipIdx.take 24).filter (fun r => brokenBy r.1 ≠ 0)) (fun r s => s.sensorBreaks r.2 (brokenBy r.1))
      let s := s.thermal
      let trip := s.tripped first
      s.when (2 ≤ trip.length) (·.shutdown trip))

/-- A sensor's test step (R498): stuck if it moves the reading by other than 20 ± 4 °C, in 1/16 °C. -/
def execSensorTestStep (sensor : Nat) (moved : Int) (s : State) : Host.Outcome State Fault Refusal :=
  .next (
    if 24 ≤ sensor || !s.awake || (256 ≤ moved && moved ≤ 384) || s.sensorBroken sensor then s
    else
      let s := (s.sensorBreaks sensor 4).thermal
      let trip := s.tripped false
      s.when (2 ≤ trip.length) (·.shutdown trip))

/-- The thermal level falls by one every 100 ms from the moment of the fall (R504). -/
def execThermalLevelFall (s : State) : Host.Outcome State Fault Refusal :=
  .next (match s.pwr.fallAt with
    | none => s
    | some t =>
      let l := s.get Reg.PWR_LEVEL.THERM - 1
      if s.now < t + 400000000 then s
      else
        let s := s.put Reg.PWR_LEVEL.THERM l
        (s.setPwr ({ · with fallAt := if s.thermTarget < l then some (t + 400000000) else none })).relevel)

/-! ### Power (R504 to R507) -/

/-- The estimates of the last 10 ms or 1 s, one per 100 µs, as their sum and number (R504, R505). -/
def State.estSum (s : State) (n : Nat) : Nat × Nat := ((s.pwr.ests.take n).sum, (s.pwr.ests.take n).length)

/-- The estimate of R505, in mW, in the parts that activity, clock and voltage give, that temperature gives, and the rest, with the means
of R504: above the limit of the level in force the power level rises, at most once per
10 ms; 10 W or more below the limit one below its own, it falls. -/
def execPowerLevelEval (dynamic leakage rest : Nat) (s : State) : Host.Outcome State Fault Refusal :=
  .next (
    if !s.awake || s.mode = 11 then s
    else
      let est := min (dynamic + leakage + rest) (2 ^ 18 - 1)
      let s := ((s.put Reg.PWR_EST.EST est).setPwr (fun x => { x with ests := (est :: x.ests).take 10000 })).showSurge
      let p := s.get Reg.PWR_LEVEL.POWER
      let f := s.get Reg.PWR_LEVEL.IN_FORCE
      let (sum10, n10) := s.estSum 100
      let (sum1, n1) := s.estSum 10000
      let due : Bool := match s.pwr.powerAt with
        | some t => decide (t + 40000000 ≤ s.now)
        | none => true
      let s :=
        if levelLimit f * n10 < sum10 then
          (if due then (s.put Reg.PWR_LEVEL.POWER (min (f + 1) 4)).setPwr ({ · with powerAt := some s.now }) else s)
        else if p ≠ 0 && sum1 + 10000 * n1 ≤ levelLimit (p - 1) * n1 then s.put Reg.PWR_LEVEL.POWER (p - 1)
        else s
      s.relevel)

/-- USED reaches 120 s (R507): Surge is barred. -/
def State.surgeEnds (s : State) : State :=
  if s.pwr.surgeBar || s.surgeTime < 480000000000 then s
  else
    let s := ((s.showSurge).put Reg.PWR_LEVEL.SURGE_OK 0).setPwr ({ · with surgeBar := true })
    (s.post (ev Code.ST_PWR_SURGE_END srcPWR)).relevel

/-- A write of PWR_LEVEL (R504, R507): larger values are dropped; a Surge request that cannot be in force is told and stays. -/
def State.levelWrite (s : State) (data : Word) : State :=
  let r := wbits data 0 3
  if 4 < r then s
  else
    let s := s.surgeEnds.put Reg.PWR_LEVEL.REQ r
    let s := s.when (r ≤ 1 && (s.pwr.surgeBar || 2 ≤ s.get Reg.PWR_LEVEL.THERM)) (·.post (ev Code.ST_PWR_SURGE_REFUSED srcPWR))
    s.relevel

def execPwrLevelReq (slot : Nat) (data : Word) (s : State) : Host.Outcome State Fault Refusal :=
  .next (s.ownerWrite slot Reg.PWR_LEVEL.AT (·.levelWrite data))

def execStPwrSurgeEnd (s : State) : Host.Outcome State Fault Refusal := .next s.surgeEnds

/-- USED has fallen to 60 s (R507). -/
def execSurgeUnbar (s : State) : Host.Outcome State Fault Refusal :=
  .next (
    if !s.pwr.surgeBar || 240000000000 < s.surgeTime then s
    else (((s.showSurge).put Reg.PWR_LEVEL.SURGE_OK 1).setPwr ({ · with surgeBar := false })).relevel)

/-! ### The core regulator (R541, R542) -/

/-- A reading of VSENSE_CORE in mV: at the target less 10 mV or above, it acknowledges a raise, and the clock rises (R505). -/
def execVrAck (vsense : Nat) (s : State) : Host.Outcome State Fault Refusal :=
  .next (
    if !s.awake then s
    else
      let s := s.put Reg.PWR_VSENSE.VSENSE (min vsense 1023)
      match s.pwr.vrPend with
      | none => s
      | some (_, l, _) =>
        if vsense + 10 < levelVolt l || s.mode = 11 then s
        else ((s.setPwr ({ · with vrPend := none })).put Reg.PWR_VR_STS.BUSY 0).setClock l)

/-- A raise that 200 µs did not acknowledge (R542): the level of the clock in force holds for 100 ms, and its VOUT_COMMAND is written
again as the level in force follows. -/
def execStPwrVrFail (s : State) : Host.Outcome State Fault Refusal :=
  .next (match s.pwr.vrPend with
    | none => s
    | some (c, _, t) =>
      if s.now < t + 800000 || s.mode = 11 then s
      else
        let s := ((s.put Reg.PWR_VR_STS.FAIL 1).count Reg.PWR_VR_STS.FAILS).put Reg.PWR_VR_STS.BUSY 0
        let s := s.setPwr ({ · with vrPend := none, vrHold := some (c, s.now + 400000000) })
        (s.post (ev Code.ST_PWR_VR_FAIL srcPWR)).relevel)

/-- VR_ALERT_N low (R541): `status` is what the regulator's STATUS_WORD answers. -/
def execVrAlert (status : Nat) (s : State) : Host.Outcome State Fault Refusal :=
  .next (s.when s.awake (fun s => ((s.pmbus 0x79 none).put Reg.PWR_VR_STS.STATUS (status % 2 ^ 16)).postLimited
    (ev Code.ST_PWR_VR_FAIL srcPWR) 1 4000000000))

end Sys2Proof.Machine
end

