-- ==== Sys2Proof/Machine/Signature.lean ====
section
/-! DEFINITION. The hash and the signature check of a boot image (R489): SHA-384 (FIPS 180-4) and ECDSA over P-384, as FIPS 186-5
defines it. -/

namespace Sys2Proof.Machine

/-! ### SHA-384 -/

/-- The constants of the 80 rounds. -/
def shaRounds1 : List Nat := [
  0x428a2f98d728ae22, 0x7137449123ef65cd, 0xb5c0fbcfec4d3b2f, 0xe9b5dba58189dbbc,
  0x3956c25bf348b538, 0x59f111f1b605d019, 0x923f82a4af194f9b, 0xab1c5ed5da6d8118,
  0xd807aa98a3030242, 0x12835b0145706fbe, 0x243185be4ee4b28c, 0x550c7dc3d5ffb4e2,
  0x72be5d74f27b896f, 0x80deb1fe3b1696b1, 0x9bdc06a725c71235, 0xc19bf174cf692694,
  0xe49b69c19ef14ad2, 0xefbe4786384f25e3, 0x0fc19dc68b8cd5b5, 0x240ca1cc77ac9c65,
  0x2de92c6f592b0275, 0x4a7484aa6ea6e483, 0x5cb0a9dcbd41fbd4, 0x76f988da831153b5,
  0x983e5152ee66dfab, 0xa831c66d2db43210, 0xb00327c898fb213f, 0xbf597fc7beef0ee4,
  0xc6e00bf33da88fc2, 0xd5a79147930aa725, 0x06ca6351e003826f, 0x142929670a0e6e70,
  0x27b70a8546d22ffc, 0x2e1b21385c26c926, 0x4d2c6dfc5ac42aed, 0x53380d139d95b3df,
  0x650a73548baf63de, 0x766a0abb3c77b2a8, 0x81c2c92e47edaee6, 0x92722c851482353b]
def shaRounds2 : List Nat := [
  0xa2bfe8a14cf10364, 0xa81a664bbc423001, 0xc24b8b70d0f89791, 0xc76c51a30654be30,
  0xd192e819d6ef5218, 0xd69906245565a910, 0xf40e35855771202a, 0x106aa07032bbd1b8,
  0x19a4c116b8d2d0c8, 0x1e376c085141ab53, 0x2748774cdf8eeb99, 0x34b0bcb5e19b48a8,
  0x391c0cb3c5c95a63, 0x4ed8aa4ae3418acb, 0x5b9cca4f7763e373, 0x682e6ff3d6b2b8a3,
  0x748f82ee5defb2fc, 0x78a5636f43172f60, 0x84c87814a1f0ab72, 0x8cc702081a6439ec,
  0x90befffa23631e28, 0xa4506cebde82bde9, 0xbef9a3f7b2c67915, 0xc67178f2e372532b,
  0xca273eceea26619c, 0xd186b8c721c0c207, 0xeada7dd6cde0eb1e, 0xf57d4f7fee6ed178,
  0x06f067aa72176fba, 0x0a637dc5a2c898a6, 0x113f9804bef90dae, 0x1b710b35131c471b,
  0x28db77f523047d84, 0x32caab7b40c72493, 0x3c9ebe0a15c9bebc, 0x431d67c49c100d4c,
  0x4cc5d4becb3e42b6, 0x597f299cfc657e2a, 0x5fcb6fab3ad6faec, 0x6c44198c4a475817]

/-- The initial hash value. -/
def shaStart : List Nat := [
  0xcbbb9d5dc1059ed8, 0x629a292a367cd507, 0x9159015a3070dd17, 0x152fecd8f70e5939,
  0x67332667ffc00b31, 0x8eb44a8768581511, 0xdb0c2e0d64f98fa7, 0x47b5481dbefa4fa4]

/-- A 64-bit word rotated right. -/
def rotr64 (x n : Nat) : Nat := x / 2 ^ n + x % 2 ^ n * 2 ^ (64 - n)

/-- The next word of a block's schedule, from the words so far, newest first. -/
def shaNext (ws : List Nat) : Nat :=
  let a := ws.getD 14 0
  let b := ws.getD 1 0
  ((rotr64 b 19 ^^^ rotr64 b 61 ^^^ (b / 2 ^ 6)) + ws.getD 6 0 + (rotr64 a 1 ^^^ rotr64 a 8 ^^^ (a / 2 ^ 7)) + ws.getD 15 0) % 2 ^ 64

/-- The 80 words of a block's schedule. -/
def shaSchedule (block : List Nat) : List Nat := ((List.range 64).foldl (fun ws _ => shaNext ws :: ws) block.reverse).reverse

/-- One round, on the working variables a to h. -/
def shaRound (v : List Nat) (kw : Nat) : List Nat :=
  let (a, b, c) := (v.getD 0 0, v.getD 1 0, v.getD 2 0)
  let (e, f, g) := (v.getD 4 0, v.getD 5 0, v.getD 6 0)
  let t1 := v.getD 7 0 + (rotr64 e 14 ^^^ rotr64 e 18 ^^^ rotr64 e 41) + ((e &&& f) ^^^ ((2 ^ 64 - 1 - e) &&& g)) + kw
  let t2 := (rotr64 a 28 ^^^ rotr64 a 34 ^^^ rotr64 a 39) + ((a &&& b) ^^^ (a &&& c) ^^^ (b &&& c))
  [(t1 + t2) % 2 ^ 64, a, b, c, (v.getD 3 0 + t1) % 2 ^ 64, e, f, g]

/-- The hash value after one block of 16 words. -/
def shaBlock (h block : List Nat) : List Nat :=
  let v := (List.zip (shaRounds1 ++ shaRounds2) (shaSchedule block)).foldl (fun v kw => shaRound v (kw.1 + kw.2)) h
  List.zipWith (fun x y => (x + y) % 2 ^ 64) h v

/-- Bytes as one number, the first the most significant. -/
def beNum (bs : List Nat) : Nat := bs.foldl (fun n b => 256 * n + b % 256) 0

/-- A number as `n` bytes, the most significant first. -/
def beBytes (n x : Nat) : List Nat := (List.range n).map (fun i => x / 256 ^ (n - 1 - i) % 256)

/-- SHA-384 of bytes, as a number of 384 bits. -/
def sha384 (msg : List Nat) : Nat :=
  let padded := msg ++ [0x80] ++ List.replicate ((239 - msg.length % 128) % 128) 0 ++ beBytes 16 (8 * msg.length)
  let h := (List.range (padded.length / 128)).foldl (fun h i =>
    let part := (padded.drop (128 * i)).take 128
    shaBlock h ((List.range 16).map (fun j => beNum ((part.drop (8 * j)).take 8)))) shaStart
  (h.take 6).foldl (fun n w => 2 ^ 64 * n + w) 0

/-! ### ECDSA over P-384 -/

/-- The curve y² = x³ - 3x + b over the integers modulo p, its base point and that point's order. -/
def curveP : Nat := 2 ^ 384 - 2 ^ 128 - 2 ^ 96 + 2 ^ 32 - 1
def curveB : Nat := 0xb3312fa7e23ee7e4988e056be3f82d19181d9c6efe8141120314088f5013875ac656398d8a2ed19d2a85c8edd3ec2aef
def curveN : Nat := 0xffffffffffffffffffffffffffffffffffffffffffffffffc7634d81f4372ddf581a0db248b0a77aecec196accc52973
def curveX : Nat := 0xaa87ca22be8b05378eb1c71ef320ad746e1d3b628ba79b9859f741e082542a385502f25dbf55296c3a545e3872760ab7
def curveY : Nat := 0x3617de4a96262c6f5d9e98bf9292dc29f8f41dbd289a147ce9da3113b5f0b8c00a60b1ce1d7e819d7a431d7c90ea0e5f

/-- A power modulo m, from the exponent's bits. -/
def powMod (m x e : Nat) : Nat :=
  (List.range 384).foldl (fun r i => let r := r * r % m; if bit e (383 - i) then r * x % m else r) 1

/-- The inverse modulo a prime. -/
def invMod (m x : Nat) : Nat := powMod m (x % m) (m - 2)

/-- The sum of two points; `none` is the point at infinity. -/
def curveAdd (a b : Option (Nat × Nat)) : Option (Nat × Nat) :=
  match a, b with
  | none, b => b
  | a, none => a
  | some (x1, y1), some (x2, y2) =>
    if x1 = x2 ∧ (y1 + y2) % curveP = 0 then none
    else
      let l := if x1 = x2 then (3 * x1 * x1 + (curveP - 3)) * invMod curveP (2 * y1)
        else (y2 + (curveP - y1)) * invMod curveP (x2 + (curveP - x1))
      let x := (l * l + 2 * curveP - x1 - x2) % curveP
      some (x, (l * (x1 + (curveP - x)) + (curveP - y1)) % curveP)

/-- A multiple of a point. -/
def curveMul (k : Nat) (a : Option (Nat × Nat)) : Option (Nat × Nat) :=
  (List.range 384).foldl (fun r i => let r := curveAdd r r; if bit k (383 - i) then curveAdd r a else r) none

/-- Whether (r, s) is a signature of a hash under the public key (x, y). -/
def ecdsaOk (hash x y r s : Nat) : Bool :=
  let onCurve := decide (x < curveP) && decide (y < curveP)
    && decide (y * y % curveP = (x * x * x + (curveP - 3) * x + curveB) % curveP)
  let w := invMod curveN s
  onCurve && 0 < r && r < curveN && 0 < s && s < curveN &&
    match curveAdd (curveMul (hash * w % curveN) (some (curveX, curveY))) (curveMul (r * w % curveN) (some (x, y))) with
    | none => false
    | some (u, _) => u % curveN = r

end Sys2Proof.Machine
end

