-- ==== Sys2Proof/Machine/Reset.lean ====
section
/-! DEFINITION. Device reset (R487, R540, R543), Boot (R488 to R491) and what each keeps (R515, R512). -/

namespace Sys2Proof.Machine

/-! ### Device reset -/

/-- The registers that keep their contents through device reset (R515): the log, ERR_LOG_HEAD, ERR_FIRST, ERR_FRZ_RAW and THM_TRIP. -/
def keptReg (a : Nat) : Bool :=
  match Reg.find a with
  | some (r, _) => ["ERR_LOG", "ERR_LOG_HEAD", "ERR_FIRST", "ERR_FRZ_RAW", "THM_TRIP"].contains r.name
  | none => false

/-- The field die through a device reset of the main die (R428, R487): the main die's end of the barrier starts anew. -/
def FldSt.kept (f : FldSt) : FldSt :=
  { f with
    lastF := none, lost := false, rtts := [], commits := [], outTries := 0, spdSent := none, hbSent := none, discards := [],
    test := none, untested := none, line := [], beat := none, openI := 0, openB := 0, mainI := 0, mainB := 0 }

/-- ENCOUT and the quadrature errors of its inputs belong to the field die. -/
def TbSt.kept (t : TbSt) : TbSt :=
  { encoutAcc := t.encoutAcc, encoutN := t.encoutN, encoutM := t.encoutM, encoutPend := t.encoutPend, encoutCnt := t.encoutCnt,
    encoutPins := t.encoutPins, qerrs := t.qerrs, qburst := t.qburst }

def MotSt.kept (m : MotSt) : MotSt := { m with axes := m.axes.map (fun (x : AxisSt) => { x with desc := none }), held := [] }

/-- The main die in device reset (R6, R487), with its cause in PWR_RST_CAUSE: every register at its reset value and every unit as it
starts, but for what R515 keeps (nothing on a power-on reset, cause 0), DRAM, and the field die. -/
def State.resetDie (s : State) (cause : Nat) : State :=
  let aon := cause = 0
  let s' : State :=
    { regs := if aon then [] else s.regs.filter (fun e => keptReg e.1)
      mem := if aon || cause = 8 then [] else s.mem.filter (fun e => 0x4000000000 ≤ e.1)
      now := s.now
      host := { perst := s.host.perst }
      err := { frzRaw := !aon && s.err.frzRaw }
      pwr := { resetLow := s.pwr.resetLow, rails := s.pwr.rails, shut := s.pwr.shut, heldAt := s.pwr.heldAt,
               straps := s.pwr.straps, hot := s.pwr.hot, refLost := s.pwr.refLost }
      tb := s.tb.kept
      fld := s.fld.kept
      mot := s.mot.kept
      tap := if aon then {} else s.tap
      free := s.free
      out := s.out
      pending := s.pending }
  s'.put Reg.PWR_RST_CAUSE.CAUSE cause

/-- The main die held in reset or off (R482, R487): M0 without main power and SAFE24, M1 otherwise. -/
def State.heldMode (s : State) : State :=
  (s.put Reg.DEV_MODE.MODE (if s.pwr.rails ≠ [] && !s.safe24 then 0 else 1)).put Reg.PWR_DOM_STS.ON 0

/-- A cause holds the main die in reset. -/
def State.holdDie (s : State) (cause : Nat) : State := ((s.resetDie cause).setPwr ({ · with heldAt := s.now })).heldMode

/-- The main die leaves reset (R491): Meridian starts at 0, Boot starts, THERMTRIP_N is released, and each port answers 100 ms after
its reset release. -/
def State.startBoot (s : State) : State :=
  let s := s.resetDie (s.get Reg.PWR_RST_CAUSE.CAUSE)
  let trip := s.pwr.shut
  let s := (s.setPwr ({ · with shut := false })).setFld (fun f => { f with lastM := f.lastM.map (fun _ => 0) })
  let s : State := { s with now := 0 }
  let s := s.when trip (·.send (.pin "THERMTRIP_N" 1))
  let s := s.put Reg.PWR_BOOT_CTRL.SRC s.pwr.straps.bootSrc
  let s := s.put Reg.PWR_BOOT_STS.STEP 1
  s.when (s.pwr.straps.bootSrc = 1) (·.put Reg.PWR_BOOT_STS.RESULT 9)

/-- The main die leaves reset if nothing holds it: after a shutdown, only while fewer than two sensors read 113 °C or above (R501). -/
def State.release (s : State) : State :=
  if s.pwr.resetLow || s.pwr.rails ≠ [] then s
  else if s.pwr.shut && 2 ≤ s.pwr.hot then s
  else s.startBoot

/-- A write of DEV_RESET (R487): only 0xA5; FLUSH goes out first, on every UP port (R212). -/
def State.resetWrite (s : State) (data : Word) : State :=
  s.when (data.toNat = 0xA5) (fun s => ((s.each s.upPorts (fun p s => s.sendBlocks p [.flush 0xFFFF])).resetDie 2).startBoot)

def execDevReset (slot : Nat) (data : Word) (s : State) : Host.Outcome State Fault Refusal :=
  .next (s.ownerWrite slot Reg.DEV_RESET.AT (·.resetWrite data))

/-- RESET_N low for 10 µs (R543); after a shutdown its end is the cause (R487), and during a supply fault that fault is (R554). -/
def execResetNAssert (s : State) : Host.Outcome State Fault Refusal :=
  .next (
    if s.pwr.resetLow then s
    else
      let cause := if s.pwr.rails ≠ [] then s.get Reg.PWR_RST_CAUSE.CAUSE else if s.pwr.shut then 3 else 1
      (s.setPwr ({ · with resetLow := true })).holdDie cause)

/-- RESET_N rises: the straps are sampled (R543), and Boot starts unless something else holds the die. -/
def execResetNRelease (straps : Straps) (s : State) : Host.Outcome State Fault Refusal :=
  .next (
    if !s.pwr.resetLow then s
    else (s.setPwr ({ · with resetLow := false, straps := straps })).release)

/-- A main-supply fault (R540), by its code in PWR_RST_CAUSE; of two in one clock the lower code is recorded (R554). -/
def State.supplyFault (s : State) (rail : Nat) : State :=
  let rails := (rail, s.now) :: s.pwr.rails.filter (·.1 ≠ rail)
  (s.setPwr ({ · with rails := rails })).holdDie (((rails.filter (·.2 = s.now)).map (·.1)).foldl min rail)

def execSupplyFault (rail : Nat) (s : State) : Host.Outcome State Fault Refusal :=
  .next (if rail = 0 || (4 ≤ rail && rail ≤ 9) then s.supplyFault rail else s)

/-- VR_PGOOD low for 10 µs while RESET_N is high (R541). -/
def execVrPgoodLoss (s : State) : Host.Outcome State Fault Refusal :=
  .next (if s.pwr.resetLow then s else s.supplyFault 4)

/-- A faulted rail has been within its release level for 1 ms (R540); with the last one the reset ends, and the straps are sampled
again (R543). -/
def execSupplyFaultRelease (recovery : RailRecovery) (s : State) : Host.Outcome State Fault Refusal :=
  .next (
    if !s.pwr.rails.any (·.1 = recovery.rail) then s
    else
      let s := s.setPwr (fun x => { x with rails := x.rails.filter (·.1 ≠ recovery.rail) })
      if s.pwr.rails ≠ [] then s else (s.setPwr ({ · with straps := recovery.straps })).release)

/-! ### Boot (R488 to R491) -/

/-- The source that the ROM reads next (R488): 0 slot A, 1 slot B, 2 the host. -/
def State.bootSource (s : State) : Nat :=
  if s.pwr.straps.bootSrc = 1 then 2
  else if !s.pwr.bootFails.any (·.1 = 0) then 0
  else if !s.pwr.bootFails.any (·.1 = 1) then 1
  else 2

/-- Whether Boot still looks for an image. -/
def State.seeking (s : State) : Bool :=
  s.mode = 2 && s.awake && s.get Reg.PWR_BOOT_STS.STEP < 4 && s.get Reg.PWR_BOOT_STS.RESULT ≠ 7 && s.get Reg.PWR_BOOT_STS.RESULT ≠ 8

/-- PWR_BOOT_CTRL.GO (R488): the ROM reads the image through the port of the writing slot. -/
def State.bootGo (slot : Nat) (s : State) : State :=
  if !s.seeking || s.bootSource ≠ 2 || s.pwr.bootPort.isSome then s
  else
    let s := (s.put Reg.PWR_BOOT_STS.RESULT 0).setPwr ({ · with bootPort := some slot })
    s.send (.hostRead slot (s.get64 Reg.PWR_BOOT_ADDR.PAIR) (s.get Reg.PWR_BOOT_LEN.LEN))

def execPwrBootGo (slot : Nat) (s : State) : Host.Outcome State Fault Refusal :=
  .next (s.ownerWrite slot Reg.PWR_BOOT_CTRL.AT (State.bootGo slot))

/-- A little-endian field of an image's header (the table "Boot image header"). -/
def imageField (img : List Nat) (off n : Nat) : Nat := beNum ((img.drop off).take n).reverse

/-- Whether SIG_R and SIG_S sign header bytes 0 to 143 and the body under PUBKEY (R489). -/
def imageSigned (img : List Nat) : Bool :=
  let be := fun (off : Nat) => beNum ((img.drop off).take 48)
  img.getD 32 0 = 4 && ecdsaOk (sha384 (img.take 144 ++ (img.drop 512).take (imageField img 8 4))) (be 33) (be 81) (be 144) (be 192)

/-- Why the ROM refuses an image (R489), as PWR_BOOT_STS.RESULT shows it: 2 read error, 3 format, 4 key, 6 SVN, 5 signature. -/
def imageFault (image : Option (List Nat)) : Option Nat :=
  match image with
  | none => some 2
  | some img =>
    let len := imageField img 8 4
    let slot := imageField img 16 4
    if imageField img 0 4 ≠ 0x4B594657 || imageField img 4 2 ≠ 1 || 8388608 < len || img.length < 512 + len then some 3
    else if 3 < slot || Config.fuseKeyRevoked slot || sha384 ((img.drop 32).take 97) ≠ Config.fuseKeyHash slot then some 4
    else if imageField img 12 4 < Config.fuseSvnMin then some 6
    else if !imageSigned img then some 5
    else none

/-- PWR_BOOT_STS.STEP until the image is verified (R491): 3 while the ROM reads one, 2 while it waits for one from the host. -/
def State.bootStep (s : State) : State :=
  s.when (s.seeking) (·.put Reg.PWR_BOOT_STS.STEP (if s.bootSource = 2 && s.pwr.bootPort.isNone then 2 else 3))

/-- The bytes of an image from the source that the ROM reads are in, or the read failed (R489, R490). -/
def execBootImageVerify (image : ReadImage) (s : State) : Host.Outcome State Fault Refusal :=
  .next (
    let source := image.source
    let image := image.image
    if !s.seeking || source ≠ s.bootSource || (source = 2 && s.pwr.bootPort.isNone) then s
    else
      match imageFault image with
      | none =>
        let s := (s.put Reg.PWR_BOOT_STS.RESULT 0).put Reg.PWR_BOOT_STS.STEP 4
        (s.putB Reg.PWR_BOOT_STS.SLOT (source = 1)).put Reg.PWR_BOOT_STS.SVN (imageField (image.getD []) 12 4)
      | some r =>
        let s := s.put Reg.PWR_BOOT_STS.RESULT (if source = 1 then 9 else r)
        (s.setPwr (fun x => { x with
          bootPort := none, bootFails := if source = 2 then x.bootFails else x.bootFails ++ [(source, r)] })).bootStep)

/-- Boot completes (R491): M3, with its domains (R409, R563), and the records that waited for it. -/
def execStBootDone (s : State) : Host.Outcome State Fault Refusal :=
  .next (
    let sts := s.get Reg.PWR_BOOT_STS.RESULT
    if s.mode ≠ 2 || !s.awake || s.get Reg.PWR_BOOT_STS.STEP < 4 || sts = 7 || sts = 8 || s.subChannels = [] then s
    else
      let s := (s.put Reg.PWR_BOOT_STS.RESULT 1).put Reg.PWR_BOOT_STS.STEP 6
      let s := (s.setDomains (s.m3Domains true)).autoMode 3 Code.ST_BOOT_DONE
      let s := s.post (ev Code.ST_BOOT_DONE srcPWR (some (s.get Reg.PWR_BOOT_STS.SLOT)) (some (s.get Reg.PWR_BOOT_STS.SVN)))
      let s := s.each s.pwr.bootFails (fun f s => s.post (ev Code.ST_BOOT_SLOT_FAIL srcPWR f.2))
      s.post (ev Code.ST_PWR_RESET_CAUSE srcPWR (s.get Reg.PWR_RST_CAUSE.CAUSE)))

end Sys2Proof.Machine
end

