-- ==== Sys2Proof/Machine/Zip.lean ====
section
/-! DEFINITION. The compression rings: the encoder's framing, contexts, suspends and completions (chapter 12). -/

namespace Sys2Proof.Machine

/-! ### The encoder (R383 to R385) -/

/-- Bytes from bits, the first bit of each the lowest; the last byte is filled with zeros. -/
def bitsToBytes : Nat → List Bool → List Byte
  | 0, _ => []
  | n + 1, bs => BitVec.ofNat 8 ((bs.take 8).foldr (fun b acc => b.toNat + 2 * acc) 0) :: bitsToBytes n (bs.drop 8)

/-- `n` bits of a number, the lowest first. -/
def numBits (n x : Nat) : List Bool := (List.range n).map (bit x)

/-- A stored block at a bit position (RFC 1951). -/
def storedBlock (pos : Nat) (final : Bool) (block : List Byte) : List Bool :=
  final :: [false, false] ++ List.replicate ((8 - (pos + 3) % 8) % 8) false
    ++ numBits 16 block.length ++ numBits 16 (65535 - block.length) ++ byteBits block

/-- Whether bits are the final block of the input: they decode, whole, to the block after the input before it. -/
def codesBlock (before block : List Byte) (bs : List Bool) : Bool :=
  let z : ZDec := ⟨.block, bs, 0, (before.reverse).take 32768, min before.length 32768, none⟩
  match zRun false (z.len + block.length + 1) (8 * bs.length + 8) z with
  | (r, none) => r.bits = [] && (r.out.take (r.len - z.len)).reverse = block
  | _ => false

/-- The table "Effort levels": chain length, lazy limit (0 for none) and nice length. -/
def effort (level : Nat) : Nat × Nat × Nat :=
  [(1, 0, 16), (4, 0, 32), (8, 0, 64), (8, 16, 64), (16, 32, 128), (32, 128, 128), (64, 258, 258), (256, 258, 258)].getD (level - 1)
    (1024, 258, 258)

/-- Whether literals and matches spell a block after the input before it, within the 32 KiB window. -/
def spells (before block : List Byte) (ts : List (Nat × Nat)) : Bool :=
  let win := (before.reverse).take 32768
  let r := ts.foldl (fun (acc : Option (List Byte × Nat)) t => acc.bind (fun (out, n) =>
    if t.1 = 0 then (if t.2 < 256 then some (BitVec.ofNat 8 t.2 :: out, n + 1) else none)
    else if t.1 < 3 || 258 < t.1 || t.2 = 0 || min 32768 (win.length + n) < t.2 then none
    else some (zCopy t.2 t.1 out, n + t.1))) (some (win, 0))
  match r with
  | some (out, n) => (out.take n).reverse = block
  | none => false

/-- The literals and matches of a block: what the search finds, which spells the block. -/
def blockTokens (level : Nat) (before block ahead : List Byte) : List (Nat × Nat) :=
  let ts := Config.lzTokens (effort level) before block (ahead.take 258)
  if spells before block ts then ts else block.map (fun b => (0, b.toNat))

/-- A code word, its highest bit first. -/
def codeBits (n x : Nat) : List Bool := (numBits n x).reverse

/-- A literal or length symbol in the fixed code of RFC 1951. -/
def fixedSym (s : Nat) : List Bool :=
  if s < 144 then codeBits 8 (0x30 + s)
  else if s < 256 then codeBits 9 (0x190 + (s - 144))
  else if s < 280 then codeBits 7 (s - 256)
  else codeBits 8 (0xC0 + (s - 280))

/-- The last symbol whose base a value reaches. -/
def symFor (base : Nat → Nat × Nat) (syms : List Nat) (x : Nat) : Nat := (syms.filter (fun s => (base s).1 ≤ x)).getLastD 0

/-- A literal or a match in the fixed code. -/
def fixedToken (t : Nat × Nat) : List Bool :=
  if t.1 = 0 then fixedSym t.2
  else
    let l := symFor lenBase ((List.range 29).map (· + 257)) t.1
    let d := symFor distBase (List.range 30) t.2
    fixedSym l ++ numBits (lenBase l).2 (t.1 - (lenBase l).1) ++ codeBits 5 d ++ numBits (distBase d).2 (t.2 - (distBase d).1)

/-- One block (R384): the shortest of fixed, dynamic and stored, in that order on a tie. -/
def deflateBlock (level pos : Nat) (final : Bool) (before block ahead : List Byte) : List Bool :=
  let ts := blockTokens level before block ahead
  let stored := storedBlock pos final block
  let fixed := final :: [true, false] ++ ts.flatMap fixedToken ++ List.replicate 7 false
  let dyn := Config.dynamicBlock ts
  let coded := if dyn.length + 3 < fixed.length && codesBlock before block (true :: false :: true :: dyn)
    then final :: false :: true :: dyn else fixed
  if stored.length < coded.length then stored else coded

/-- The blocks of a stream from its input on: each of 65,535 bytes but the last. Without `final` the encoder holds back its last 258 bytes
and every unfinished block. `fuel` bounds the blocks. -/
def deflateBits (level : Nat) (final : Bool) : Nat → List Bool → List Byte → List Byte → List Bool
  | 0, acc, _, _ => acc
  | fuel + 1, acc, before, rest =>
    if 65535 + 258 ≤ rest.length || (final && 65535 < rest.length) then
      let block := rest.take 65535
      deflateBits level final fuel (acc ++ deflateBlock level acc.length false before block (rest.drop 65535))
        (before ++ block) (rest.drop 65535)
    else if !final then acc
    else if rest = [] then acc ++ [true, true, false] ++ List.replicate 7 false
    else acc ++ deflateBlock level acc.length true before rest []

/-- The zlib header of a level (R384). -/
def zlibHeader (level : Nat) : List Byte :=
  [0x78, if level = 1 then 0x01 else if level ≤ 5 then 0x5E else if level = 6 then 0x9C else 0xDA]

/-- The output of a DEFLATE stream for the input so far: whole bytes only until it is final. -/
def deflateOut (level : Nat) (zlib final : Bool) (input : List Byte) : List Byte :=
  let bs := deflateBits level final (input.length / 65535 + 2) [] [] input
  let body := bitsToBytes (if final then ceilDiv bs.length 8 else bs.length / 8) bs
  (if zlib then zlibHeader level else []) ++ body
    ++ (if zlib && final then (leBytes 4 (adler32 input)).reverse else [])

/-! ### The ring table (R386) -/

def State.isStream (s : State) (r : Nat) : Bool := s.flag (Reg.ZIP_RING.STREAM r)

/-- A write of a ring's entry: only while the ring is DISABLED, and never a slot that another stream ring holds. -/
def State.zipRing (s : State) (slot r : Nat) (data : Word) : State :=
  let ctx := wbits data 0 6
  let taken := wbit data 7 && (List.range 256).any (fun q => q ≠ r && s.isStream q && s.get (Reg.ZIP_RING.CTX q) = ctx)
  if s.lockedAt (Reg.ZIP_RING.AT r) then s.writeFields slot (Reg.ZIP_RING.AT r) data
  else if s.ringState r ≠ 0 || taken then s.put Reg.ZIP_STS.CFG_ERR 1
  else
    let s := s.writeFields slot (Reg.ZIP_RING.AT r) data
    s.when (s.isStream r) (fun s => s.put (Reg.ZIP_CTX_STS.RING (s.get (Reg.ZIP_RING.CTX r))) r)

def execZipRingWrite (slot ring : Nat) (data : Word) (s : State) : Host.Outcome State Fault Refusal :=
  .next (if 256 ≤ ring then s else s.ownerWrite slot (Reg.ZIP_RING.AT ring) (·.zipRing slot ring data))

/-! ### Descriptors and contexts (R387, R391 to R394) -/

def State.setZip (s : State) (f : ZipSt → ZipSt) : State := { s with zip := f s.zip }

/-- STATE of a context slot: 0 EMPTY, 1 OPEN, 2 ERROR; a slot that is not OPEN holds no stream. -/
def State.ctxState (s : State) (slot st : Nat) (pending : Bool) : State :=
  let s := (s.put (Reg.ZIP_CTX_STS.STATE slot) st).putB (Reg.ZIP_CTX_STS.PENDING slot) pending
  s.when (st ≠ 1) (·.setZip (fun z => { z with ctxs := Sparse.erase slot z.ctxs }))

/-- Whether the body of a compression descriptor is malformed (R387). -/
def zipFormatBad (stream : Bool) (d : Desc) : Bool :=
  let op := d.at_ 16 1
  let flags := d.at_ 17 1
  let level := d.at_ 18 1
  (op ≠ 1 && op ≠ 2) || 16 ≤ flags || d.at_ 19 1 ≠ 0 || d.at_ 36 4 ≠ 0 || d.at_ 32 4 = 0 || d.at_ 48 8 % 16 ≠ 0
    || (op = 1 && (level = 0 || 9 < level)) || (op = 2 && level ≠ 0)
    || (!stream && (2 ≤ flags || d.at_ 20 4 = 0))

/-- The lowest idle channel that is not reserved for the page path (R378). -/
def State.idleRingChannel (s : State) : Option Nat :=
  (List.range 8).find? (fun c => !bit (s.get Reg.ZIP_CFG.PAGE_MASK) c && !bit (s.get Reg.ZIP_STS.RING_BUSY) c)

def State.showRingBusy (s : State) (ch : Nat) (on : Bool) : State :=
  s.put Reg.ZIP_STS.RING_BUSY (putBit (s.get Reg.ZIP_STS.RING_BUSY) ch on)

/-- A descriptor that does not run completes with its status. -/
def State.zipEnds (s : State) (r : Nat) (d : Desc) (status : Nat) : State := (s.markStarted r d.index).complete r d.index status

/-- A descriptor runs on a channel: its input is read from the host. A channel that ran the stream's last descriptor has its context, and
loads none (R391). -/
def State.zipRun (s : State) (ch r : Nat) (d : Desc) (slot : Option Nat) (src : Option (List Byte)) (lost : Bool) : State :=
  let len := d.at_ 20 4
  let flags := d.at_ 17 1
  let lost := lost && !bit flags 1 && s.zip.last.lookup ch ≠ slot
  let last := (s.zip.last.filter (fun e => e.1 ≠ ch && some e.2 ≠ slot))
  let s := s.setZip (fun z => { z with last := slot.elim last (fun x => Sparse.insert ch x last) })
  let s := ((s.markStarted r d.index).showRingBusy ch true).setZip (fun z => { z with runs := z.runs ++ [{
    channel := ch, ring := r, index := d.index, slot := slot, op := d.at_ 16 1, zlib := bit flags 0, level := d.at_ 18 1,
    final := bit flags 2, src := src.map (·.take len), dst := d.at_ 40 8, dstLen := d.at_ 32 4, result := d.at_ 48 8, lost := lost }] })
  s.when (len ≠ 0) (·.send (.hostRead (s.ringPort r) (d.at_ 24 8) len))

/-- What the context slot of a stream ring answers to a descriptor (R393): whether it runs. -/
def State.ctxTakes (s : State) (slot : Nat) (d : Desc) : Bool × State :=
  let flags := d.at_ 17 1
  let s := s.when (bit flags 3) (·.ctxState slot 0 false)
  match s.get (Reg.ZIP_CTX_STS.STATE slot) with
  | 0 =>
    if !bit flags 1 then (false, s)
    else
      let c : ZCtx := ⟨d.at_ 16 1, bit flags 0, d.at_ 18 1, [], 0, false⟩
      (true, (s.ctxState slot 1 false).setZip (fun z => { z with ctxs := Sparse.insert slot c z.ctxs }))
  | 1 =>
    let fits : Bool := match s.zip.ctxs.lookup slot with
      | some c => c.op = d.at_ 16 1 && c.zlib = bit flags 0 && c.level = d.at_ 18 1
      | none => false
    (!bit flags 1 && fits, s)
  | _ => (false, s)

/-- A compression ring's head descriptor of the given OP starts on an idle channel: `src` is what the host read answers (none where it
fails), and `lost` says that its context fails its load. A stream ring runs one descriptor at a time. -/
def State.zipStart (s : State) (r op : Nat) (src : Option (List Byte)) (lost : Bool) : State :=
  if s.ringType r ≠ 3 || !s.domOn 11 then s
  else match s.headDesc r with
    | none => s
    | some d =>
      let stream := s.isStream r
      if stream && s.zip.runs.any (·.ring = r) then s
      else if zipFormatBad stream d then s.zipEnds r d Code.ST_ZDESC_FORMAT
      else if d.at_ 16 1 ≠ op then s
      else match s.idleRingChannel with
        | none => s
        | some ch =>
          if !stream then s.zipRun ch r d none src false
          else
            let slot := s.get (Reg.ZIP_RING.CTX r)
            let (runs, s) := s.ctxTakes slot d
            if runs then s.zipRun ch r d (some slot) src lost else s.zipEnds r d Code.ST_ZCTX_BAD

def execDeflate (ring : Nat) (src : Option (List Byte)) (ctxLost : Bool) (s : State) : Host.Outcome State Fault Refusal :=
  .next (s.zipStart ring 1 src ctxLost)

def execInflate (ring : Nat) (src : Option (List Byte)) (ctxLost : Bool) (s : State) : Host.Outcome State Fault Refusal :=
  .next (s.zipStart ring 2 src ctxLost)

/-! ### Results (R388, R389, R392, R395) -/

/-- What a descriptor ends with: its status, the bytes it writes to DST, the input bytes it consumed, the stream's uncompressed bytes so
far, and the context it leaves (none where the stream is closed). -/
structure ZEnd where
  status : Nat
  out    : List Byte
  used   : Nat
  plain  : List Byte
  ctx    : Option ZCtx

/-- INFLATE: a block ring fails with ST_ZOUT_FULL where a stream ring suspends. -/
def inflateEnd (block : Bool) (c : ZCtx) (final : Bool) (src : List Byte) (room : Nat) : ZEnd :=
  let limit := c.given + room
  let input := c.input ++ src
  let (z, stop) := inflate c.zlib limit input
  let final := c.final || final
  let all := z.out.reverse
  let end_ := fun (status bits : Nat) (keep : Bool) =>
    let used := ceilDiv bits 8 - c.input.length
    let out := (all.take limit).drop c.given
    (⟨status, out, used, all.take limit,
      if keep then some { c with input := input.take (c.input.length + used), given := c.given + out.length, final := final } else none⟩ : ZEnd)
  let full := end_ (if block then Code.ST_ZOUT_FULL else Code.ST_ZSUSPEND) (z.mark.getD z.pos) (!block)
  if limit < z.len then full
  else match stop with
    | none => end_ Code.ST_OK z.pos (!block && !final)
    | some .more =>
      if block || final then end_ Code.ST_ZERR_TRUNC (8 * input.length) false
      else end_ Code.ST_OK (8 * input.length) true
    | some (.err code) => if !block && z.len = limit then full else end_ code z.pos false

/-- DEFLATE on a block ring: where it stops early, `used` says how much of the input has been consumed, and `undef` what a DEFLATE without
gain has written. -/
def deflateBlockEnd (level : Nat) (zlib : Bool) (src : List Byte) (room : Nat) (undef : List Byte) (used : Nat) : ZEnd :=
  let out := deflateOut level zlib true src
  if src.length ≤ out.length then ⟨Code.ST_ZNOGAIN, undef, used, src.take used, none⟩
  else if room < out.length then ⟨Code.ST_ZOUT_FULL, out.take room, used, src.take used, none⟩
  else ⟨Code.ST_OK, out, src.length, src, none⟩

/-- DEFLATE on a stream ring: where DST fills first, `pick` says how much of the input has been consumed, if that much gives the output. -/
def deflateStreamEnd (c : ZCtx) (final : Bool) (src : List Byte) (room pick : Nat) : ZEnd :=
  let input := c.input ++ src
  let final := c.final || final
  let out := deflateOut c.level c.zlib final input
  let now := (out.drop c.given).take room
  if out.length ≤ c.given + room then
    ⟨Code.ST_OK, now, src.length, input, if final then none else some { c with input := input, given := out.length }⟩
  else
    let k := min pick src.length
    let part := c.input ++ src.take k
    let enough := c.given + room ≤ (deflateOut c.level c.zlib false part).length
    if k < src.length && enough then
      ⟨Code.ST_ZSUSPEND, now, k, part, some { c with input := part, given := c.given + room }⟩
    else ⟨Code.ST_ZSUSPEND, now, src.length, input, some { c with input := input, given := c.given + room, final := final }⟩

/-- Bytes that the spec leaves undefined. -/
def State.openBytes (s : State) (n : Nat) : List Byte := (List.range n).map (fun i => BitVec.ofNat 8 (Config.freeAt s.free i))

/-- A descriptor's end from its input. -/
def State.zipEnd (s : State) (j : ZJob) (src : List Byte) : ZEnd :=
  let x := s.open_ 64
  let c := (j.slot.bind (fun x => s.zip.ctxs.lookup x)).getD ⟨j.op, j.zlib, j.level, [], 0, false⟩
  match j.slot with
  | none =>
    if j.op = 2 then inflateEnd true c true src j.dstLen
    else deflateBlockEnd j.level j.zlib src j.dstLen (s.openBytes (x % (min j.dstLen src.length + 1))) (x / 2 ^ 32 % (src.length + 1))
  | some _ => if j.op = 2 then inflateEnd false c j.final src j.dstLen else deflateStreamEnd c j.final src j.dstLen (x % (src.length + 1))

/-- The context after a descriptor: OPEN with what it keeps, EMPTY when the stream is closed, ERROR after an error. -/
def State.ctxAfter (s : State) (slot : Nat) (e : ZEnd) : State :=
  if e.status = Code.ST_OK || e.status = Code.ST_ZSUSPEND then
    (match e.ctx with
    | some c => (s.ctxState slot 1 (e.status = Code.ST_ZSUSPEND)).setZip (fun z => { z with ctxs := Sparse.insert slot c z.ctxs })
    | none => s.ctxState slot 0 false)
  else s.ctxState slot 2 false

/-- The channel of a descriptor is idle again. -/
def State.zipIdle (s : State) (j : ZJob) : State :=
  (s.showRingBusy j.channel false).setZip (fun z => { z with runs := z.runs.filter (· ≠ j) })

/-- The output, the result block (R388) and the completion. -/
def State.zipDone (s : State) (j : ZJob) (e : ZEnd) : State :=
  let port := s.ringPort j.ring
  let s := s.when (e.out ≠ []) (·.send (.hostWrite port j.dst e.out))
  let s := s.when (j.result ≠ 0) (·.send (.hostWrite port j.result
    (leBytes 4 e.out.length ++ leBytes 4 e.used ++ leBytes 4 (adler32 e.plain) ++ leBytes 4 e.plain.length)))
  s.complete j.ring j.index e.status (if e.status = Code.ST_ZNOGAIN then 0 else e.out.length)

/-- A descriptor's host access fails, or its context did not load (R393, R394) or DRAM is frozen (R417). -/
def State.zipFails (s : State) (j : ZJob) (status : Nat) : State :=
  let s := match j.slot with
    | some slot => s.ctxState slot 2 false
    | none => s
  ((s.zipIdle j).zipWork j.channel 0 0 (status = Code.ST_ZDMA_ERR)).complete j.ring j.index status

/-- The descriptor on a channel finishes: `written` says that its writes to the host succeeded. -/
def execZipDescriptorDone (channel : Nat) (written : Bool) (s : State) : Host.Outcome State Fault Refusal :=
  .next (match s.zip.runs.find? (·.channel = channel) with
    | none => s
    | some j =>
      if s.frozen && j.slot.isSome then s.zipFails j Code.ST_MEM_FROZEN
      else if j.lost then s.zipFails j Code.ST_ZCTX_LOST
      else match j.src with
        | none => s.zipFails j Code.ST_ZDMA_ERR
        | some src =>
          if !written then s.zipFails j Code.ST_ZDMA_ERR
          else
            let e := s.zipEnd j src
            let s := s.drawn.zipIdle j
            let s := match j.slot with
              | some slot => s.ctxAfter slot e
              | none => s
            (s.zipWork channel e.used e.out.length (e.status ≠ Code.ST_OK && e.status ≠ Code.ST_ZSUSPEND)).zipDone j e)

/-- A ring abort (R394): the descriptor in execution stops, and its context becomes EMPTY. -/
def State.zipAbort (s : State) (r : Nat) : State :=
  let s := s.each (s.zip.runs.filter (·.ring = r)) (fun j s => s.zipIdle j)
  s.when (s.isStream r) (fun s => s.ctxState (s.get (Reg.ZIP_RING.CTX r)) 0 false)

end Sys2Proof.Machine
end

