-- ==== Sys2Proof/Machine/Sram.lean ====
section
/-! DEFINITION. On-die SRAM (R517 to R520): ECC hits, region tests, remaps, and what an uncorrectable error does. -/

namespace Sys2Proof.Machine

def State.setErr (s : State) (f : ErrSt → ErrSt) : State := { s with err := f s.err }

/-! ### Where a memory lies -/

/-- SRC of a hit: the engine, the SRAM-S bank of 1 MiB (R34), or the unit that owns the memory. -/
def sramSrc (mem offset : Nat) : Nat :=
  if mem < 64 then srcSE mem
  else if mem = 64 then srcBank (offset / 2 ^ 20 % 32)
  else if mem = 65 then srcCAM
  else if mem = 66 then srcRNG
  else if mem = 67 then srcZIP
  else srcSVC

/-- A fetch fails (R360): the ring goes into ERROR and fetches nothing more; what it has started runs on. -/
def State.ringError (s : State) (r : Nat) : State :=
  if !submissionType (s.ringType r) || (s.ringState r ≠ 1 && s.ringState r ≠ 3) then s
  else ((s.put (Reg.RNG_R_STS.STATE r) 4).put (Reg.RNG_R_STS.FETCH_ERR r) 1).post (ev Code.ST_RING_FETCH_ERR srcRNG r)

/-- Data of a camera line is lost (R519): a waiting line, or one on its way, is absent. -/
def State.cameraLineLost (s : State) (p q : Nat) : State :=
  if (s.cam p).lines.any (fun l => l.at_.q = q && l.px.isSome) then
    ((s.setCam p (fun x => { x with lines := x.lines.map (fun l => if l.at_.q = q then { l with px := none } else l) })).count
      (Reg.CAM_P_CNT.CNT p 1)).pmcAdd (360 + p)
  else match (s.cam p).trigs.find? (fun t => t.sent && t.q = q) with
    | none => s
    | some t =>
      let l : CamAt := ⟨t.chain, t.q⟩
      ((s.setCam p (fun x => { x with trigs := x.trigs.filter (· ≠ t) })).openFrame p l).lineAbsent p l

/-- A context slot's data in SRAM is lost (R393, R519): its running descriptor completes, and the slot becomes ERROR. -/
def State.contextLost (s : State) (slot : Nat) : State :=
  (s.each (s.zip.runs.filter (fun j => j.slot = some slot)) (fun j s => s.zipFails j Code.ST_ZCTX_LOST)).ctxState slot 2 false

/-- What an uncorrectable error does (the table "Uncorrectable SRAM errors"). -/
def State.sramLost (s : State) (h : SramHit) : State :=
  if h.mem < 64 then
    if h.lineData then
      s.each (s.job.lines.filter (fun l => l.row = h.row && l.line = h.line)) (fun l s =>
        s.lineLate l Code.ST_SRAM_UE (srcSE h.mem))
    else (s.engineGoesOut h.mem).engineTest h.mem 2
  else if h.mem = 64 then s.freeze Code.ST_SRAM_UE
  else if h.mem = 65 then s.cameraLineLost h.who h.line
  else if h.mem = 66 then s.ringError h.who
  else if h.mem = 67 then s.contextLost h.who
  else (s.setPwr ({ · with svcHalted := true })).safeStop Code.ST_SRAM_UE

/-! ### Hits and tests -/

/-- Whether an error counts as uncorrectable: also one in a row marked faulty (R518). -/
def State.hitLost (s : State) (h : SramHit) : Bool :=
  h.uncorrectable || s.err.faulty.contains (h.mem, h.offset / 64 * 64)

/-- SEV of a hit's record: 3 where it enters M11, 2 where it enters Safe-stop, 1 where it is uncorrectable. -/
def State.hitSev (s : State) (h : SramHit) : Nat :=
  if !s.hitLost h then 0
  else if h.mem = 64 then 3
  else if h.mem = 68 && s.modeIn 5 9 then 2
  else 1

/-- The region test that a hit starts, or joins (R517, R527). -/
def State.hitTest (s : State) (h : SramHit) (seq code : Nat) (lost : Bool) : State :=
  let region := h.offset / 4096 * 4096
  if s.err.tests.any (fun t => t.mem = h.mem && t.region = region) then
    s.setErr (fun e => { e with tests := e.tests.map (fun t =>
      if t.mem = h.mem && t.region = region then { t with seqs := t.seqs ++ [(seq, code)], ue := t.ue || lost } else t) })
  else s.testStarted.setErr (fun e => { e with tests := e.tests ++ [⟨h.mem, region, [(seq, code)], false⟩] })

/-- An ECC hit in on-die SRAM (R517, R519): counted, recorded with its test pending, posted, tested, and, where the word is lost, what
its memory's row of the table states. -/
def State.sramHit (h : SramHit) (s : State) : State :=
  if !s.awake || !s.domOn (sramDomain h.mem) then s
  else
    let lost := s.hitLost h
    let code := if lost then Code.ST_SRAM_UE else Code.ST_SRAM_CE
    let src := sramSrc h.mem h.offset
    let data : Option Nat := if h.mem < 64 && h.lineData then some (s.dataLine h.row h.line) else none
    let seq := s.get Reg.ERR_LOG_HEAD.HEAD
    let s := (s.count (Reg.ERR_CNT.CNT (if lost then 1 else 0))).pmcAdd (if lost then 425 else 424)
    let s := s.errRecord (er code src 0 (s.hitSev h) 1 h.offset (if h.lineData then h.line % 2 ^ 32 else 0) data)
    let s := (s.post (ev code src none none data)).hitTest h seq code lost
    s.when lost (·.sramLost h)

/-- A macro's key in the counts of spare rows: 256 KiB macros of one memory. -/
def macroKey (mem offset : Nat) : Nat := mem * 2 ^ 20 + offset / 2 ^ 18

/-- Free spare rows of a macro (R518). -/
def State.sparesOf (s : State) (k : Nat) : Nat := 16 - (s.err.spareUsed.lookup k).getD 0

/-- ERR_SPARE follows the macro with the fewest free spare rows; how macros are numbered the spec leaves open. -/
def State.showSpares (s : State) : State :=
  let least := (s.err.spareUsed.map (fun e => 16 - e.2)).foldl min 16
  (s.drawn.put Reg.ERR_SPARE.MACRO (s.open_ 16)).put Reg.ERR_SPARE.FREE least

/-- A failing row (R518): remapped to a free spare of its macro, or marked faulty. -/
def State.rowFails (s : State) (mem row : Nat) : State :=
  let k := macroKey mem row
  let src := sramSrc mem row
  let free := s.sparesOf k
  if free = 0 then
    let s := s.setErr (fun e => { e with faulty := (mem, row) :: e.faulty })
    (s.put Reg.ERR_STS.NOSPARE 1).post (ev Code.ST_SRAM_NOSPARE src)
  else
    let s := s.setErr (fun e => { e with
      spareUsed := Sparse.insert k (17 - free) e.spareUsed, remapped := (mem, row) :: e.remapped })
    let s := ((s.showSpares).count (Reg.ERR_CNT.CNT 2)).pmcAdd 426
    let s := s.post (ev Code.ST_SRAM_REMAP src row)
    if free = 3 && !s.err.spareLow then
      (s.setErr ({ · with spareLow := true })).post (ev Code.ST_SRAM_SPARE_LOW src)
    else s

/-- A region test ends (R517, R518, R527): `rows` are the failing 64-byte rows. -/
def State.regionEnds (s : State) (t : RegionTest) (rows : List Nat) : State :=
  let rows := rows.filter (fun r => r / 4096 * 4096 = t.region && r % 64 = 0)
  let s := s.setErr (fun e => { e with tests := e.tests.filter (fun u => !(u.mem = t.mem && u.region = t.region)) })
  let s := s.each rows (fun r s => s.rowFails t.mem r)
  let outcome := if rows = [] && !t.ue then 1 else 2
  s.each t.seqs (fun q s => s.errOutcome q.1 q.2 outcome (sramSrc t.mem t.region))

def execSramEccHit (hit : SramHit) (s : State) : Host.Outcome State Fault Refusal := .next (s.sramHit hit)

def execSramRegionTestDone (mem region : Nat) (failingRows : List Nat) (s : State) : Host.Outcome State Fault Refusal :=
  .next (match s.err.tests.find? (fun t => t.mem = mem && t.region = region) with
    | none => s
    | some t => s.regionEnds t failingRows)

/-- The scrub of R520: every hit is handled as any other. -/
def execSramScrub (hits : List SramHit) (s : State) : Host.Outcome State Fault Refusal :=
  .next (s.when (s.flag Reg.ERR_CTRL.SCRUB_EN) (fun s => s.each hits State.sramHit))

end Sys2Proof.Machine
end

