-- ==== Sys2Proof/Machine/Faults.lean ====
section
/-! DEFINITION. Checked logic (R521), the service load (R524), the performance counters' bank (R526) and the log's clearing
(R515). -/

namespace Sys2Proof.Machine

/-- SRC of a checked unit (R521): 0 TRK, 1 JOB, 2 SMP, 3 FAB, 4 to 7 HL0 to HL3. -/
def checkedSrc (unit : Nat) : Nat :=
  if unit = 0 then srcTRK
  else if unit = 1 then srcJOB
  else if unit = 2 then srcSMP
  else if unit = 3 then srcFAB
  else srcUnit unit (12 + unit)

/-- A checked unit's copies differ (R521): the record, the event and M11. -/
def execStErrLockstep (unit : Nat) (s : State) : Host.Outcome State Fault Refusal :=
  .next (
    let src := checkedSrc unit
    let on := s.domOn (if unit = 0 then 0 else if unit ≤ 3 then 20 else unit)
    if 8 ≤ unit || !s.awake || !on then s
    else
      let s := (s.count (Reg.ERR_CNT.CNT 6)).pmcAdd 430
      let s := (s.errRecord (er Code.ST_ERR_LOCKSTEP src 3 3 0)).post (ev Code.ST_ERR_LOCKSTEP src)
      s.freeze Code.ST_ERR_LOCKSTEP)

/-- The shed level changes (R524). -/
def State.shed (s : State) (l : Nat) : State := ((s.put Reg.ERR_STS.SHED l).setErr ({ · with lowRun := 0 })).post (ev Code.ST_SVC_SHED srcSVC l)

/-- The end of a 10 ms window (R523, R524): `load` in Q1.15, and whether class A work waited longer than 5 ms. -/
def execSvcLoadWindow (load : Nat) (classAWaited : Bool) (s : State) : Host.Outcome State Fault Refusal :=
  .next (
    if !s.awake then s
    else
      let load := min load (2 ^ 16 - 1)
      let s := (s.put Reg.ERR_SVC_LOAD.LOAD load).put Reg.ERR_SVC_LOAD.PEAK (max load (s.get Reg.ERR_SVC_LOAD.PEAK))
      let l := s.get Reg.ERR_STS.SHED
      let high := s.get Reg.ERR_SVC_CFG.SHED_HI * 32768 < load * 100 || classAWaited
      let run := if load * 100 < s.get Reg.ERR_SVC_CFG.SHED_LO * 32768 then s.err.lowRun + 1 else 0
      let s := s.setErr ({ · with lowRun := if high then 0 else run })
      if high then (if l < 3 then s.shed (l + 1) else s)
      else if 10 ≤ run && 0 < l then s.shed (l - 1)
      else s)

/-! ### The performance counters (R526) -/

/-- A snapshot: every live counter in one clock, from before a CLEAR in that clock (R526, R527). -/
def State.pmcSnap (s : State) : State :=
  let old : State := match s.tally.old with
    | some regs => { s with regs := regs }
    | none => s
  let s := s.each (List.range 512) (fun i s => s.put64 (Reg.PMC_SNAP.PAIR i) (old.pmc i))
  (s.put64 Reg.PMC_SNAP_TIME.PAIR s.now).put Reg.PMC_STS.SNAP_SEQ (s.get Reg.PMC_STS.SNAP_SEQ + 1)

/-- Every live counter is 0, but for the events of this clock (R526). -/
def State.pmcClear (s : State) : State :=
  let live := fun (e : Nat × Word) => 0x121000 ≤ e.1 && e.1 < 0x122000
  let old := s.tally.old.or (some (s.regs.filter live))
  let s : State := { s with regs := s.regs.filter (fun e => !live e), tally := { s.tally with old := old } }
  s.each s.tally.added (fun e s => s.put64 (Reg.PMC_CNT.PAIR e.1) (e.2 % 2 ^ 48))

/-- A write of PMC_MODE w: the counters keep their modes for this clock (R526). -/
def State.pmcModeWrite (s : State) (slot a : Nat) (data : Word) : State :=
  let old := s.word a
  let s := s.writeFields slot a data
  { s with tally := { s.tally with modes := if (s.tally.modes.lookup a).isSome then s.tally.modes else (a, old) :: s.tally.modes } }

/-- A write of PMC_CTRL: its LOCK, then SNAP before CLEAR (R527). -/
def State.pmcCtrlWrite (s : State) (slot : Nat) (data : Word) : State :=
  let s := s.writeFields slot Reg.PMC_CTRL.AT data
  (s.when (wbit data 1) State.pmcSnap).when (wbit data 2) State.pmcClear

def execSnap (slot : Nat) (s : State) : Host.Outcome State Fault Refusal :=
  .next (s.ownerWrite slot Reg.PMC_CTRL.AT (fun s => s.pmcCtrlWrite slot (s.word Reg.PMC_CTRL.AT ||| 2)))

def execClear (slot : Nat) (s : State) : Host.Outcome State Fault Refusal :=
  .next (s.ownerWrite slot Reg.PMC_CTRL.AT (fun s => s.pmcCtrlWrite slot (s.word Reg.PMC_CTRL.AT ||| 4)))

/-! ### The error log -/

/-- CLEAR_LOG (R515): the log, ERR_LOG_HEAD, ERR_FIRST and ERR_FRZ_RAW read 0 again. -/
def State.logClear (s : State) : State :=
  let gone := fun (a : Nat) => a = Reg.ERR_LOG_HEAD.AT || (0x110400 ≤ a && a < 0x110490) || (0x118000 ≤ a && a < 0x11A000)
  { s with regs := s.regs.filter (fun e => !gone e.1), err := { s.err with lostNext := false, recs := [], moved := [] } }

/-- A write of ERR_CTRL. -/
def State.errCtrlWrite (s : State) (slot : Nat) (data : Word) : State := s.trigger slot Reg.ERR_CTRL.AT data 2 State.logClear

def execClearLog (slot : Nat) (s : State) : Host.Outcome State Fault Refusal :=
  .next (s.ownerWrite slot Reg.ERR_CTRL.AT (fun s => s.errCtrlWrite slot (s.word Reg.ERR_CTRL.AT ||| 4)))

end Sys2Proof.Machine
end

