-- ==== Sys2Proof/Machine/Rings.lean ====
section
/-! DEFINITION. Rings, doorbells, descriptor fetch and aborts (R352 to R370). -/

namespace Sys2Proof.Machine

/-! ### Enabling and disabling (R353) -/

/-- The rings that are not DISABLED and have a type. -/
def State.ringsOf (s : State) (t : Nat) : List Nat := s.liveRings.filter (fun q => s.ringType q = t)

/-- The enabled submission rings. -/
def State.submissionRings (s : State) : List Nat := s.liveRings.filter (fun q => submissionType (s.ringType q))

/-- How many rings of a type may be enabled at once (the table "Ring types"). -/
def ringLimit (t : Nat) : Nat := [0, 1, 16, 32, 1, 1, 64, 16].getD t 0

/-- RNG_STS.SLOTS. -/
def State.showSlots (s : State) : State := s.put Reg.RNG_STS.SLOTS ((s.submissionRings.map s.ringSize).sum)

/-- The first check of R353 that a ring to be enabled fails: 1 STATE, 2 BASE, 6 TYPE, 3 LIMIT, 4 SLOTS, 5 CQ; 0 where all hold. -/
def State.enableFault (s : State) (r : Nat) : Nat :=
  let t := s.ringType r
  let cq := s.get (Reg.RNG_R_CFG.CQ r)
  let sharing := s.submissionRings.filter (fun q => s.get (Reg.RNG_R_CFG.CQ q) = cq)
  if s.ringState r ≠ 0 then 1
  else if s.get64 (Reg.RNG_R_BASE.PAIR r) % 4096 ≠ 0 then 2
  else if t = 0 then 6
  else if ringLimit t ≤ (s.ringsOf t).length then 3
  else if !submissionType t then 0
  else if 16384 < (s.submissionRings.map s.ringSize).sum + s.ringSize r then 4
  else if s.ringType cq ≠ 6 || s.ringState cq = 0 || s.ringPort cq ≠ s.ringPort r
      || s.ringSize cq < (sharing.map s.ringSize).sum + s.ringSize r then 5
  else 0

/-- A ring is enabled: its indices start at 0 and its first pass has PHASE 1 (R361). -/
def State.ringOn (s : State) (r : Nat) : State :=
  let s := ((s.put (Reg.RNG_R_PROD.VAL r) 0).put (Reg.RNG_R_CONS.VAL r) 0).put (Reg.RNG_R_HCONS.VAL r) 0
  let s := ((s.put (Reg.RNG_R_STS.PHASE r) 1).put (Reg.RNG_R_STS.STATE r) 1).put (Reg.RNG_R_CFG.EN r) 1
  (s.setRing r {}).showSlots

/-- A ring reads DISABLED. -/
def State.ringOff (s : State) (r : Nat) : State :=
  let s := (s.put (Reg.RNG_R_STS.STATE r) 0).put (Reg.RNG_R_CFG.EN r) 0
  { s with host := { s.host with rings := Sparse.erase r s.host.rings } }.showSlots

/-- Whether a completion of a ring is still held for its completion ring (R362). -/
def State.completionPending (s : State) (r : Nat) : Bool :=
  (s.ring (s.get (Reg.RNG_R_CFG.CQ r))).held.any (fun h => byteAt h.bytes 29 = r)

/-- Whether a ring may be disabled (R353). -/
def State.mayDisable (s : State) (r : Nat) : Bool :=
  let st := s.ringState r
  if s.ringType r = 6 then !s.submissionRings.any (fun q => s.get (Reg.RNG_R_CFG.CQ q) = r)
  else if s.ringType r = 7 then true
  else st = 3 || (st = 1 && s.openDescs r = [] && !s.completionPending r) || (st = 4 && (s.ring r).flight.all (fun d => !d.started))

/-- A ring in ERROR that is disabled writes ST_ABORTED for what was posted and never started. -/
def State.ringDisable (s : State) (r : Nat) : State :=
  if !s.mayDisable r then s.put Reg.RNG_STS.CFG_RESULT 1
  else
    let s := s.when (s.ringState r = 4) (fun s => s.each (s.openDescs r) (fun i s => s.completeAborted r i))
    s.ringOff r

/-- A write of RNG_R_CFG (R353): dropped whole where LOG2 is out of range or a fixed field would change; IRQ_EN and VEC may change at
any time; EN enables and disables. -/
def State.ringCfgWrite (s : State) (slot r : Nat) (data : Word) : State :=
  let a := Reg.RNG_R_CFG.AT r
  let old := s.word a
  let fixed : Word := 0x3FFD7#32
  let was := s.flag (Reg.RNG_R_CFG.EN r)
  let want := wbit data 26
  if s.lockedAt a then s.writeFields slot a data
  else if wbits data 6 4 < 4 || 10 < wbits data 6 4 || (s.ringState r ≠ 0 && (old ^^^ data) &&& fixed ≠ 0) then
    s.put Reg.RNG_STS.CFG_ERR 1
  else
    let s := (s.writeFields slot a data).put (Reg.RNG_R_CFG.EN r) was.toNat
    if want && !was then
      let f := s.enableFault r
      let s := s.put Reg.RNG_STS.CFG_RESULT f
      if f = 0 then s.ringOn r else s
    else if !want && was then s.ringDisable r
    else s

def execRingEnable (slot ring : Nat) (data : Word) (s : State) : Host.Outcome State Fault Refusal :=
  .next (if 256 ≤ ring then s else s.ownerWrite slot (Reg.RNG_R_CFG.AT ring) (fun s => s.ringCfgWrite slot ring data))

/-! ### Aborts (R367 to R369) -/

/-- What a ring's function does when its ring is aborted (R96, R291, R307, R394): it stops what the ring started, by the ring's
type. -/
def State.stopFunction (s : State) (r : Nat) : State :=
  match s.ringType r with
  | 1 => s.endChains.order [3 + 2 ^ 16]
  | 2 => s.setIns (fun i => { i with
      caps := i.caps.filter (fun c => c.ring ≠ r), stats := i.stats.filter (fun x => x.1 ≠ r),
      replays := i.replays.filter (fun x => x.ring ≠ r) })
  | 3 => s.zipAbort r
  | 4 => s.setPwr (fun p => { p with spits := p.spits.filter (fun x => x.ring ≠ r) })
  | 5 => s.calStop Code.ST_CAL_STOPPED
  | _ => s

/-- A doorbell write that is dropped. -/
def State.doorbellBad (s : State) (r : Nat) : State :=
  ((s.rngCount 1).put (Reg.RNG_R_STS.DB_BAD r) 1).postLimited (ev Code.ST_DB_BAD srcRNG) r 4000000

/-- An abort comes before the producer doorbells of its clock, which are dropped (R374): those whose descriptors are not fetched yet. -/
def State.dropPosted (s : State) (r : Nat) : State :=
  match (s.ring r).prodAt with
  | some (t, before) =>
    let fresh := (s.ringProd r + 2 ^ 32 - before) % 2 ^ 32
    if t = s.now && fresh ≤ (s.ringProd r + 2 ^ 32 - s.ringCons r) % 2 ^ 32 then
      ((s.put (Reg.RNG_R_PROD.VAL r) before).setRing r { s.ring r with prodAt := none }).doorbellBad r
    else s
  | none => s

/-- An abort takes effect on a RUNNING ring: it is ABORTING, and its function stops; `aborted` counts the records already written. -/
def State.ringAbort (s : State) (r : Nat) : State :=
  let s := s.dropPosted r
  let n := (s.ring r).flight.length
  let s := (s.put (Reg.RNG_R_STS.STATE r) 2).stopFunction r
  s.setRing r { s.ring r with aborted := n - (s.ring r).flight.length }

/-- A device abort (R369): every submission ring that runs; and every chain in flight ends (R96), whether or not its ring runs. -/
def State.deviceAbort (s : State) : State :=
  let rs := s.submissionRings.filter (fun r => s.ringState r = 1)
  let busy := s.submissionRings.any (fun r => s.ringState r = 1 || s.ringState r = 2)
  let s := (((s.rngCount 7).each rs (fun r s => s.ringAbort r)).endChains).order [3 + 2 ^ 8]
  if busy then { s with host := { s.host with devAbort := true } } else s.post (ev Code.ST_DEV_ABORTED srcRNG)

/-- A device abort completes with its last ring (R369). -/
def State.devAbortDone (s : State) : State :=
  if s.host.devAbort && !s.submissionRings.any (fun q => s.ringState q = 2) then
    { s with host := { s.host with devAbort := false } }.post (ev Code.ST_DEV_ABORTED srcRNG)
  else s

/-- An abort completes (R368): the rest of what was posted completes with ST_ABORTED, once the completion ring has room, and the ring is
STOPPED; after the last ring of a device abort, so is that. -/
def State.abortDone (s : State) (r : Nat) : State :=
  let cq := s.get (Reg.RNG_R_CFG.CQ r)
  let open_ := s.openDescs r
  let room := s.ringSize cq - (s.ringCons cq + 2 ^ 32 - s.ringHcons cq) % 2 ^ 32
  if s.ringState r ≠ 2 || (s.ring cq).held ≠ [] || room < open_.length then s
  else
    let n := (s.ring r).aborted + open_.length
    let s := s.each open_ (fun i s => s.completeAborted r i)
    let s := (s.put (Reg.RNG_R_CONS.VAL r) (s.ringProd r)).put (Reg.RNG_R_STS.STATE r) 3
    let s := (s.put (Reg.RNG_R_STS.ABORT_DONE r) 1).setRing r { s.ring r with aborted := 0 }
    (s.post (ev Code.ST_RING_ABORTED srcRNG r n)).devAbortDone

def execStRingAborted (ring : Nat) (s : State) : Host.Outcome State Fault Refusal := .next (s.abortDone ring)

/-! ### Doorbells (R357, R358) -/

/-- What every doorbell needs (R358): the ring's port, whose slot is the owner, and a ring that is enabled and of a suitable type. -/
def State.doorbellOk (s : State) (port r : Nat) (suits : Nat → Bool) : Bool :=
  s.ringState r ≠ 0 && s.ringPort r = port && s.isOwner port && suits (s.ringType r)

/-- A producer doorbell that is accepted, and the index before the first of its clock on a ring that runs (R374). -/
def State.posted_ (s : State) (r v : Nat) : State :=
  let x := s.ring r
  let same := x.prodAt.any (fun p => p.1 = s.now)
  let s := s.when (!same && s.ringState r = 1) (·.setRing r { x with prodAt := some (s.now, s.ringProd r) })
  ((s.rngCount 0).put (Reg.RNG_R_PROD.VAL r) v).put (Reg.RNG_R_STS.STATE r) 1

/-- DB_PROD: the producer index is accepted, and a STOPPED ring runs again (R368). -/
def State.dbProd (s : State) (port r v : Nat) : State :=
  let st := s.ringState r
  if !s.doorbellOk port r submissionType || (st ≠ 1 && st ≠ 3) || 2 ^ 31 ≤ (v + 2 ^ 32 - s.ringProd r) % 2 ^ 32
      || s.ringSize r < (v + 2 ^ 32 - s.ringCons r) % 2 ^ 32 then s.doorbellBad r
  else s.posted_ r v

/-- DB_HCONS: the host's consumer index moves toward the device's write index. -/
def State.dbHcons (s : State) (port r v : Nat) : State :=
  if !s.doorbellOk port r (fun t => t = 6 || t = 7)
      || (s.ringCons r + 2 ^ 32 - s.ringHcons r) % 2 ^ 32 < (v + 2 ^ 32 - s.ringHcons r) % 2 ^ 32 then s.doorbellBad r
  else (s.rngCount 0).put (Reg.RNG_R_HCONS.VAL r) v

/-- DB_ABORT: of the ring, or, with bit 1, of the device alone (R358). An abort of a ring that does not run is dropped and counted
(R368). -/
def State.dbAbort (s : State) (port r v : Nat) : State :=
  let ok := v / 2 ^ 16 = 0xA5A5 && v % 2 ^ 16 < 4 && v % 4 ≠ 0
  if !s.doorbellOk port r submissionType || !ok then s.doorbellBad r
  else if bit v 1 then (s.rngCount 0).deviceAbort
  else if s.ringState r ≠ 1 then s.rngCount 1
  else ((s.rngCount 0).rngCount 6).ringAbort r

/-- A write of a doorbell page by a port (R357): the value is 32 bits; a port that does not answer takes nothing. -/
def State.doorbell (s : State) (port r v : Nat) (f : State → State) : State :=
  if 2 ≤ port || 256 ≤ r || 2 ^ 32 ≤ v || !s.reach port then s else f (s.inbound port)

def execDbProd (port ring value : Nat) (s : State) : Host.Outcome State Fault Refusal :=
  .next (s.doorbell port ring value (fun s => s.dbProd port ring value))

def execDbHcons (port ring value : Nat) (s : State) : Host.Outcome State Fault Refusal :=
  .next (s.doorbell port ring value (fun s => s.dbHcons port ring value))

def execDbAbortRing (port ring value : Nat) (s : State) : Host.Outcome State Fault Refusal :=
  .next (s.doorbell port ring value (fun s => s.dbAbort port ring value))

def execDbAbortDevice (port ring value : Nat) (s : State) : Host.Outcome State Fault Refusal :=
  .next (s.doorbell port ring value (fun s => s.dbAbort port ring value))

/-- DEV_ABORT (R369): only 0xA5A5_0002. -/
def execDevAbort (slot : Nat) (data : Word) (s : State) : Host.Outcome State Fault Refusal :=
  .next (s.ownerWrite slot Reg.DEV_ABORT.AT (fun s => s.when (data.toNat = 0xA5A50002) State.deviceAbort))

/-! ### Fetching (R356, R359, R360) -/

/-- Whether a ring fetches: it runs, something is posted, and its completion ring holds nothing back (R362). -/
def State.fetches (s : State) (r : Nat) : Bool :=
  s.awake && submissionType (s.ringType r) && s.ringState r = 1 && s.ringCons r ≠ s.ringProd r
    && (s.ring (s.get (Reg.RNG_R_CFG.CQ r))).held = []

/-- A descriptor's 64 bytes arrive (R359): in flight in ring order, or completed at once where its header is bad (R356). -/
def State.fetched (s : State) (r : Nat) (bytes : List Byte) : State :=
  let i := s.ringCons r
  let d : Desc := ⟨i, bytes, false⟩
  let s := s.send (.hostRead (s.ringPort r) (s.get64 (Reg.RNG_R_BASE.PAIR r) + 64 * (i % s.ringSize r)) 64)
  let s := (s.rngCount 2).put (Reg.RNG_R_CONS.VAL r) (i + 1)
  let s := s.setRing r { s.ring r with flight := (s.ring r).flight ++ [d] }
  s.each (d.headerStatus (s.ringType r)).toList (fun c s => (s.markStarted r i).complete r i c)

def execDescriptorFetch (ring : Nat) (bytes : List Byte) (s : State) : Host.Outcome State Fault Refusal :=
  .next (s.when (s.fetches ring && bytes.length = 64) (fun s => s.fetched ring bytes))

def execStRingFetchErr (ring : Nat) (s : State) : Host.Outcome State Fault Refusal :=
  .next (s.when (s.fetches ring) (fun s => s.ringError ring))

def execCqResume (ring : Nat) (s : State) : Host.Outcome State Fault Refusal :=
  .next (s.when (s.ringType ring = 6 && s.ringState ring ≠ 0) (State.drainHeld ring ((s.ring ring).held.length)))

/-- RNG_R_MOD.TIME µs after the first record since the last message (R366). -/
def execMsixModerationTimer (ring : Nat) (s : State) : Host.Outcome State Fault Refusal :=
  .next (match (s.ring ring).firstRec with
    | none => s
    | some t =>
      if s.now < t + 4000 * s.get (Reg.RNG_R_MOD.TIME ring) || !s.flag (Reg.RNG_R_CFG.IRQ_EN ring) || s.ringState ring = 0 then s
      else (s.setRing ring { s.ring ring with since := 0, firstRec := none }).msixSend (s.ringPort ring) (s.get (Reg.RNG_R_CFG.VEC ring)))

end Sys2Proof.Machine
end

