-- ==== Sys2Proof/Machine/HostCmds.lean ====
section
/-! DEFINITION. Ownership (R345 to R350), port resets (R344, R544), the counter page (R371), the mailbox (R372) and accesses to the
Duet peer (R373). -/

namespace Sys2Proof.Machine

def State.setHost (s : State) (f : HostSt → HostSt) : State := { s with host := f s.host }

/-! ### Ownership -/

def State.claimants (s : State) : List Nat := bitList 4 (s.get Reg.DEV_OWN_STS.CLAIMANTS)

def State.setClaimant (s : State) (slot : Nat) (on : Bool) : State :=
  s.put Reg.DEV_OWN_STS.CLAIMANTS (putBit (s.get Reg.DEV_OWN_STS.CLAIMANTS) slot on)

/-- A slot's priority (R346). -/
def State.priority (s : State) (slot : Nat) : Nat := s.get Reg.DEV_OWN_CFG.PRIO / 4 ^ slot % 4

/-- A lease is renewed (R347): LEASE ms from now. -/
def State.renew (s : State) (slot : Nat) : State :=
  s.setHost (fun h => { h with lease := Sparse.insert slot (s.now + 4000000 * s.get Reg.DEV_OWN_CFG.LEASE) h.lease })

/-- Whether a slot's lease is live. -/
def State.leaseLive (s : State) (slot : Nat) : Bool := s.now < (s.host.lease.lookup slot).getD 0

/-- A slot becomes owner; it is no claimant. -/
def State.makeOwner (s : State) (slot : Nat) : State :=
  ((s.setClaimant slot false).put Reg.DEV_OWN_STS.OWNER slot).put Reg.DEV_OWN_STS.OWNED 1

/-- The device has no owner. -/
def State.noOwner (s : State) : State := (s.put Reg.DEV_OWN_STS.OWNED 0).put Reg.DEV_OWN_STS.OWNER 0

/-- Whether a claim beats the owner's: both reached the unowned device in this clock, and its priority is higher, or its slot
lower among equals (R346). -/
def State.outclaims (s : State) (slot o : Nat) : Bool :=
  s.host.claimAt = some s.now && (s.priority o < s.priority slot || (s.priority o = s.priority slot && slot < o))

/-- CLAIM (R346). -/
def State.claimDevice (s : State) (slot : Nat) : State :=
  let s := s.renew slot
  match s.owner with
  | none => ((s.makeOwner slot).setHost ({ · with claimAt := some s.now })).post (ev Code.ST_OWN_CLAIMED srcDEV)
  | some o =>
    if o = slot then s
    else if s.outclaims slot o then (s.makeOwner slot).setClaimant o true
    else s.setClaimant slot true

/-- RELEASE (R348). -/
def State.releaseDevice (s : State) (slot : Nat) : State := s.noOwner.setHost (fun h => { h with lease := Sparse.erase slot h.lease })

/-- HANDOVER (R348): to a claimant with a live lease; until this clock ends, writes are checked against the old owner (R374). -/
def State.handover (s : State) (slot target : Nat) : State :=
  if s.claimants.contains target && s.leaseLive target then
    let s := (s.makeOwner target).setHost ({ · with handed := some (slot, s.now) })
    ((s.setClaimant slot true).put Reg.DEV_OWN_STS.HANDOVER 1).post (ev Code.ST_OWN_HANDOVER srcDEV)
  else s.put Reg.DEV_OWN_STS.REFUSED 1

/-- A write of DEV_OWN_CTRL: CLAIM from any slot; the rest from the owner alone (R350). -/
def State.ownCtrl (s : State) (slot act target : Nat) : State :=
  if act = 1 then (if s.reach slot then (s.inbound slot).claimDevice slot else s)
  else s.ownerWrite slot Reg.DEV_OWN_CTRL.AT (fun s =>
    if act = 2 then s.releaseDevice slot else if act = 3 then s.handover slot target else s)

def execClaim (slot : Nat) (s : State) : Host.Outcome State Fault Refusal := .next (s.when (slot < 4) (·.ownCtrl slot 1 0))
def execRelease (slot : Nat) (s : State) : Host.Outcome State Fault Refusal := .next (s.ownCtrl slot 2 0)
def execOwnHandover (slot target : Nat) (s : State) : Host.Outcome State Fault Refusal := .next (s.ownCtrl slot 3 (target % 4))

/-- A write of DEV_OWN_HB (R347): it renews the lease of the owner or of a claimant. -/
def State.heartbeat (s : State) (slot : Nat) : State :=
  if !s.reach slot then s
  else (s.inbound slot).when (s.isOwner slot || s.claimants.contains slot) (·.renew slot)

def execDevOwnHb (slot : Nat) (s : State) : Host.Outcome State Fault Refusal := .next (s.when (slot < 4) (·.heartbeat slot))

/-- The claimant that an election chooses (R349): the highest priority, the lowest slot among equals. -/
def State.elected (s : State) : Option Nat :=
  (s.claimants.filter s.leaseLive).foldl (fun best c => match best with
    | none => some c
    | some b => if s.priority b < s.priority c then some c else some b) none

/-- The owner's lease expires, or its port goes (R344, R349). -/
def State.ownerLost (s : State) : State :=
  let s := (s.put Reg.DEV_OWN_STS.EXPIRED 1).post (ev Code.ST_OWN_LEASE_EXPIRED srcDEV)
  match s.elected with
  | some w => ((s.makeOwner w).put Reg.DEV_OWN_STS.ELECTED 1).post (ev Code.ST_OWN_ELECTED srcDEV w)
  | none =>
    let s := s.noOwner
    s.when (s.flag Reg.DEV_OWN_CFG.LOSS_ACT && s.flying ≠ []) (State.safeStop Code.ST_OWN_LEASE_EXPIRED)

/-- Leases are checked (R347): claimants whose lease is over cease to be claimants, then the owner's. -/
def State.checkLeases (s : State) : State :=
  let past := fun (slot : Nat) => (s.host.lease.lookup slot).getD 0 < s.now
  let s := s.each (s.claimants.filter past) (fun c s => s.setClaimant c false)
  match s.owner with
  | some o => s.when (past o) State.ownerLost
  | none => s

def execLeaseCheck (s : State) : Host.Outcome State Fault Refusal := .next (s.when s.awake State.checkLeases)

/-! ### A port's reset or link-down (R344, R544) -/

/-- The rings bound to a port are disabled without a record, what they started is aborted, and the port's slot loses its ownership or
its claim. -/
def State.portReset (s : State) (port : Nat) : State :=
  let rs := s.liveRings.filter (fun r => s.ringPort r = port)
  let subs := rs.filter (fun r => submissionType (s.ringType r))
  let s := s.each rs (fun r s => s.ringOff r)
  let s := s.each subs (fun r s => s.stopFunction r)
  let s := ((s.setClaimant port false).post (ev Code.ST_PORT_RESET (srcPort port))).devAbortDone
  s.when (s.owner = some port) State.ownerLost

def execStPortReset (port : Nat) (s : State) : Host.Outcome State Fault Refusal :=
  .next (s.when (port < 2 && s.reach port) (·.portReset port))

/-- PERST_x_N low for 10 µs (R544): the port's link goes down; while RESET_N is low there is no separate effect (R554). -/
def execPerstAssert (port : Nat) (s : State) : Host.Outcome State Fault Refusal :=
  .next (
    if 2 ≤ port || s.host.perst.getD port false then s
    else
      let s' := s.setHost (fun h => { h with perst := h.perst.set port true })
      s'.when s.awake (·.portReset port))

/-- PERST_x_N rises (R544): the port answers configuration requests 100 ms later. -/
def execPerstRelease (port : Nat) (s : State) : Host.Outcome State Fault Refusal :=
  .next (
    if 2 ≤ port || !s.host.perst.getD port false then s
    else s.drawn.setHost (fun h => { h with
      perst := h.perst.set port false, readyAt := h.readyAt.set port (s.now + 400000000), trained := h.trained.set port s.free }))

/-! ### The mailbox (R372) -/

/-- GO: dropped while BUSY. -/
def State.mailboxGo (s : State) : State :=
  if s.flag Reg.MBX_STS.BUSY then s.put Reg.MBX_STS.CFG_ERR 1
  else ((s.put Reg.MBX_STS.BUSY 1).pmcAdd 436).setHost ({ · with mbxAt := some s.now })

def execMbxGo (slot : Nat) (s : State) : Host.Outcome State Fault Refusal :=
  .next (s.ownerWrite slot Reg.MBX_CTRL.AT State.mailboxGo)

/-- A reply: word 0 its status and LEN, word 1 LATE, then its bytes. -/
def State.mailboxReply (s : State) (status : Nat) (bytes : List Byte) (late : Bool) : State :=
  let bytes := bytes.take 1016
  let words := (List.range (ceilDiv bytes.length 4)).map (fun i => leAt bytes (4 * i) 4)
  let s := s.setWords (Reg.MBX_RSP.AT 0) ((status % 2 ^ 16 + bytes.length * 2 ^ 16) :: late.toNat :: words)
  let s := ((s.put Reg.MBX_STS.BUSY 0).put Reg.MBX_STS.DONE 1).setHost ({ · with mbxAt := none })
  s.post (ev Code.ST_MBX_REPLY srcMBX)

/-- TELEMETRY's values (the table "Mailbox commands"): the die sensors, the field die's, and each UP port's head temperatures. -/
def State.telemetry (s : State) : List Byte :=
  let ups := (List.range 96).filter (fun p => s.flag (Reg.HP_LINK_STS.UP p))
  let die := (List.range 24).map (fun i => s.get (Reg.THM_SENS.TEMP i))
  let head := ups.flatMap (fun p => (List.range 4).map (fun i => s.get (Reg.HP_HEAD_TEMP.TEMP p i)))
  (die ++ unsigned 16 (signed 12 (s.get Reg.FLD_HEALTH.TEMP)) :: head).flatMap (leBytes 2)

/-- Whether a value of TELEMETRY is older than 10 ms: a head's by its last HEALTH status; `sensors` says it of the dies' own. -/
def State.telemetryLate (s : State) (sensors : Bool) : Bool :=
  sensors || (List.range 96).any (fun p => s.flag (Reg.HP_LINK_STS.UP p)
    && (s.port p).lastHealth.all (fun t => t + 40000000 < s.now))

/-- What service firmware answers to a CMD of the table (R372), with the versions and the log's bytes from
the offset asked for; none of any other CMD. -/
def State.mailboxAnswer (s : State) (version log : List Byte) : Option (List Byte) :=
  let req := (s.word (Reg.MBX_REQ.AT 0)).toNat
  let log := log.take 1012
  let cmd := bits req 0 16
  if cmd = 1 then some ((version ++ List.replicate 16 0).take 16)
  else if cmd = 2 then some s.telemetry
  else if cmd = 3 then some (leBytes 4 ((s.word (Reg.MBX_REQ.AT 1)).toNat + log.length) ++ log)
  else none

/-- Service firmware replies (R372): ST_OK and the answer, or ST_MBX_UNKNOWN. LATE is TELEMETRY's. -/
def execStMbxReply (version log : List Byte) (sensors : Bool) (s : State) : Host.Outcome State Fault Refusal :=
  .next (
    let late := bits (s.word (Reg.MBX_REQ.AT 0)).toNat 0 16 = 2 && s.telemetryLate sensors
    if !s.flag Reg.MBX_STS.BUSY || s.pwr.svcHalted then s
    else match s.mailboxAnswer version log with
      | some b => (s.mailboxReply Code.ST_OK b late).when late (·.pmcAdd 438)
      | none => s.mailboxReply Code.ST_MBX_UNKNOWN [] false)

/-- No reply within 10 ms (R372). -/
def execStMbxTimeout (s : State) : Host.Outcome State Fault Refusal :=
  .next (match s.host.mbxAt with
    | none => s
    | some t => if s.now < t + 40000000 then s else (s.pmcAdd 437).mailboxReply Code.ST_MBX_TIMEOUT [] false)

/-! ### The Duet peer's registers (R373) -/

/-- A write of DEV_PEER_CTRL; GO is dropped while BUSY. -/
def State.peerCtrlWrite (s : State) (slot : Nat) (data : Word) : State :=
  let busy := s.flag Reg.DEV_PEER_CTRL.BUSY
  let s := s.writeFields slot Reg.DEV_PEER_CTRL.AT data
  if busy || !wbit data 0 then s
  else
    let tag := (s.host.peerTag + 1) % 256
    let s := (s.setHost ({ · with peerTag := tag, peerAt := some s.now })).put Reg.DEV_PEER_CTRL.BUSY 1
    s.duetSend 5 [s.get Reg.DEV_PEER_ADDR.ADDR + tag * 2 ^ 32 + s.get Reg.DEV_PEER_CTRL.WRITE * 2 ^ 40,
      s.get Reg.DEV_PEER_DATA.DATA]

def execDevPeerGo (slot : Nat) (data : Word) (s : State) : Host.Outcome State Fault Refusal :=
  .next (s.ownerWrite slot Reg.DEV_PEER_CTRL.AT (fun s => s.peerCtrlWrite slot data))

/-- The peer's answer (R373), in whose STATUS the spec names no values. -/
def execPeerRegAnswer (tag : Nat) (data : Word) (_status : Nat) (s : State) : Host.Outcome State Fault Refusal :=
  .next (
    if s.host.peerAt.isNone || tag ≠ s.host.peerTag then s
    else
      let s := s.when (!s.flag Reg.DEV_PEER_CTRL.WRITE) (·.put Reg.DEV_PEER_DATA.DATA data.toNat)
      s.peerAccessEnds Reg.DEV_PEER_CTRL.DONE)

/-- No answer to the access of this TAG within 200 µs (R373). -/
def execStPeerRegFail (tag : Nat) (s : State) : Host.Outcome State Fault Refusal :=
  .next (match s.host.peerAt with
    | none => s
    | some t => if tag ≠ s.host.peerTag || s.now < t + 800000 then s else s.peerAccessFails)

/-! ### The counter page (R371) -/

/-- A word of the counter page: the live counters, whose high words come from the port's latch, or the snapshot. -/
def State.counterWord (s : State) (port off : Nat) : Nat :=
  let i := off % 4096 / 8
  if off < 4096 then
    (if off % 8 = 0 then s.pmc i % 2 ^ 32 else (s.host.bar4Hi.lookup port).getD 0)
  else if off < 8192 then s.get64 (Reg.PMC_SNAP.PAIR i) / 2 ^ (off % 8 * 8) % 2 ^ 32
  else 0

/-- A read of the counter page by a port. -/
def State.counterRead (s : State) (port off : Nat) : State :=
  if !s.flag Reg.DEV_CTRL.PERF_USER_EN then s.send (.readData port 2 off 0)
  else
    let w := s.counterWord port off
    let s := s.when (off < 4096 && off % 8 = 0) (·.setHost (fun h => { h with
      bar4Hi := Sparse.insert port (s.pmc (off / 8) / 2 ^ 32) h.bar4Hi }))
    s.send (.readData port 2 off (BitVec.ofNat 32 w))

/-- BAR4 (R12, R371): any access but an aligned word is Unsupported Request. -/
def execBar4Read (port off size : Nat) (s : State) : Host.Outcome State Fault Refusal :=
  .next (
    if 2 ≤ port || 65536 ≤ off || !s.reach port then s
    else
      let s := s.inbound port
      if size ≠ 4 || off % 4 ≠ 0 then (s.badSize port 2 off).send (.unsupported port 2 off) else s.counterRead port off)

end Sys2Proof.Machine
end

