-- ==== Sys2Proof/Machine/Memory.lean ====
section
/-! DEFINITION. The commands of the DRAM controller (chapter 13). -/

namespace Sys2Proof.Machine

/-- A write of MEM_POP (R398): dropped where it names no supported population. -/
def State.memPop (s : State) (data : Word) : State :=
  if popFits data then s.hostSet Reg.MEM_POP.AT false data
  else s.put Reg.MEM_STS.CFG_ERR 1

/-- Service firmware writes MEM_POP in M2, before training (R398); a write that is dropped ends Boot with RESULT 7 (R490). -/
def execMemPopWrite (data : Word) (s : State) : Host.Outcome State Fault Refusal :=
  .next (if s.mode ≠ 2 then s
    else if popFits data then s.memPop data
    else (s.memPop data).put Reg.PWR_BOOT_STS.RESULT 7)

/-- Boot training of every populated sub-channel (R410, R411). -/
def execDramTraining (step : TrainStep) (s : State) : Host.Outcome State Fault Refusal :=
  .next (match step with
    | .start =>
      if s.mode ≠ 2 || s.get Reg.MEM_POP.POP = 0 || s.get Reg.PWR_BOOT_STS.RESULT = 7 then s
      else s.each (bitList 16 (s.get Reg.MEM_POP.POP)) (fun mc s => (s.put (Reg.MC_STS.STATE mc) 1).put Reg.PWR_BOOT_STS.STEP 5)
    | .done outcomes =>
      let mine := outcomes.filter (fun o => o.mc < 16 && s.get (Reg.MC_STS.STATE o.mc) = 1)
      if mine = [] then s
      else
        let s := s.each mine (fun o s => s.trainEnds o)
        let failed := (List.range 16).filter (fun mc => s.get (Reg.MC_STS.STATE mc) = 3)
        if (List.range 16).any (fun mc => s.get (Reg.MC_STS.STATE mc) = 1) then s
        else
        let s := s.showMemory
        if s.subChannels = [] then
          (s.post (ev Code.ST_MEM_NONE (srcMC (failed.headD 0)))).put Reg.PWR_BOOT_STS.RESULT 8
        else s.when (failed ≠ [])
          (·.post (ev Code.ST_MEM_REDUCED (srcMC (failed.headD 0)) (some (s.get64 Reg.MEM_CAP.PAIR / 2 ^ 30)))))

/-- An all-bank refresh (R406): once for each multiple of tREFI; doubled refresh starts at a multiple of 15,600 mt after its
request (R407, R418). -/
def execRefresh (s : State) : Host.Outcome State Fault Refusal :=
  .next (
    let trefi := if s.flag Reg.MEM_STS.REF2X then 7800 else 15600
    let due := s.now / trefi * trefi
    if s.subChannels = [] || s.dram.lastRef = some due then s
    else
      let s := s.setDram (fun d => { d with lastRef := some due, refs := d.refs + 1 })
      match s.dram.wantDbl with
      | none => s
      | some t =>
        if due % 15600 ≠ 0 || due ≤ t then s
        else ((s.setDram ({ · with wantDbl := none })).put Reg.MEM_STS.REF2X 1).post
          (ev Code.ST_MEM_REF2X (srcMC (((List.range 16).find? (fun mc => s.flag (Reg.MC_STS.REF2X_REQ mc))).getD 0))))

/-- The refresh-rate poll (R407). -/
def execRefreshRatePoll (ranks : List RankStatus) (s : State) : Host.Outcome State Fault Refusal :=
  .next (
    let ranks := ranks.filter (fun r => s.subChannels.contains r.mc)
    if s.frozen || ranks = [] then s
    else
      let s := s.each s.subChannels (fun mc s =>
        s.putB (Reg.MC_STS.REF2X_REQ mc) (ranks.any (fun r => r.mc = mc && r.doubled)))
      let want := ranks.any (·.doubled)
      let hot := ranks.filter (·.hotter)
      let s :=
        if want || hot ≠ [] then
          s.setDram (fun d => { d with
            calmAt := none,
            wantDbl := if want && !s.flag Reg.MEM_STS.REF2X then d.wantDbl.or (some s.now) else d.wantDbl })
        else
          let since := s.dram.calmAt.getD s.now
          let s := s.setDram ({ · with calmAt := some since, wantDbl := none })
          s.when (since + 400000000 ≤ s.now) (·.put Reg.MEM_STS.REF2X 0)
      match hot with
      | [] => s
      | r :: _ =>
        let tell := s.mayPost Code.ST_MEM_HOT 0 4000000000
        let s := (s.put Reg.MEM_STS.HOT 1).postLimited (ev Code.ST_MEM_HOT (srcMC r.mc)) 0 4000000000
        s.when (tell && s.flag Reg.MEM_CTRL.HOT_ACT) (State.safeStop Code.ST_MEM_HOT))

/-- A rank that has had no command for MEM_PD.TIMER ns enters power-down; a request for it keeps it up (R408, R418). -/
def execPowerDownTimer (mc rank : Nat) (s : State) : Host.Outcome State Fault Refusal :=
  .next (if s.get Reg.MEM_PD.TIMER = 0 || s.frozen || !s.subChannels.contains mc || s.get Reg.MEM_POP.RANKS < rank
      || s.dram.down.contains (mc, rank) || s.get (Reg.MC_STS.STATE mc) ≠ 2
      || s.now < (s.dram.lastCmd.lookup (2 * mc + rank)).getD 0 + 4 * s.get Reg.MEM_PD.TIMER
      || (s.subQ mc).reads ≠ [] || (s.subQ mc).writes.any (·.at_.rank = rank) then s
    else s.setDram (fun d => { d with down := (mc, rank) :: d.down }))

/-- A tracking of one sub-channel (R412): its write delays move to the trained values and a correction of at most 8 steps. -/
def State.trackWrites (s : State) (mc : Nat) (want : Int) : State :=
  let old := (s.dram.track.lookup mc).getD 0
  let new := clamp want (-8) 8
  let s := s.each (List.range 40) (fun q s =>
    s.putI (Reg.MC_DQ_DLY.WR mc q) ((s.get (Reg.MC_DQ_DLY.WR mc q) : Int) - old + new))
  let s := s.setDram (fun d => { d with track := Sparse.insert mc new d.track })
  s.when (new ≠ want) (fun s => (s.put (Reg.MC_STS.DRIFT mc) 1).post (ev Code.ST_MEM_DRIFT (srcMC mc)))

/-- Write-timing tracking, once every 64 refreshes (R412): the corrections found, by sub-channel. -/
def execWriteTracking (corrections : List (Nat × Int)) (s : State) : Host.Outcome State Fault Refusal :=
  .next (if !s.flag Reg.MEM_CTRL.TRACK_EN || s.frozen || s.dram.refs < 64 then s
    else
      let s := s.setDram (fun d => { d with refs := d.refs % 64 })
      s.each (corrections.filter (fun c => s.get (Reg.MC_STS.STATE c.1) = 2)) (fun c s => s.trackWrites c.1 c.2))

/-- A request for a full retrain (R412): accepted in M3, M4 and M9 with no chain in flight. -/
def State.retrain (s : State) (mc : Nat) : State :=
  if (s.mode = 3 || s.mode = 4 || s.mode = 9) && s.get Reg.JOB_STS.CHAINS = 0 && s.get (Reg.MC_STS.STATE mc) = 2 && !s.frozen then
    s.retrainStarts mc
  else s.put Reg.MEM_STS.CFG_ERR 1

/-- A full retrain of one sub-channel starts or ends (R412). -/
def execMcRetrain (mc : Nat) (step : RetrainStep) (s : State) : Host.Outcome State Fault Refusal :=
  .next (if 16 ≤ mc then s
    else match step with
    | .write slot data => s.ownerWrite slot (Reg.MC_CTRL.AT mc) (fun s => s.when (wbit data 0) (·.retrain mc))
    | .firmware => s.retrain mc
    | .done o => if o.mc = mc then s.retrainEnds o else s)

/-- A corrected DRAM error (R414). -/
def execStMemCe (e : DramCe) (s : State) : Host.Outcome State Fault Refusal := .next (s.dramCe e)

/-- The freeze log (R416, R420), and the raw burst (R522). -/
def State.freezeLog (s : State) (mc : Nat) (x : DramStop) : State :=
  let l := s.localAddr (((s.subChannel x.dpa).map (·.2)).getD 0)
  let s := if s.flag Reg.MEM_FRZ_STS.VALID then s
    else
      let s := (s.put Reg.MEM_FRZ_STS.MC mc).put Reg.MEM_FRZ_STS.CAUSE x.cause
      let s := ((s.put Reg.MEM_FRZ_STS.CLASS x.cls).put Reg.MEM_FRZ_STS.SYND x.synd).put Reg.MEM_FRZ_STS.VALID 1
      let s := (s.put64 Reg.MEM_FRZ_ADDR.PAIR x.dpa).put64 Reg.MEM_FRZ_TIME.PAIR s.now
      let s := (s.put Reg.MEM_FRZ_LOC.C l.c).put Reg.MEM_FRZ_LOC.BG l.bg
      ((s.put Reg.MEM_FRZ_LOC.BA l.ba).put Reg.MEM_FRZ_LOC.RANK l.rank).put Reg.MEM_FRZ_LOC.ROW l.row
  if s.err.frzRaw then s
  else { s.setWords (Reg.ERR_FRZ_RAW.RAW 0).addr ((List.range 20).map (fun i => leAt x.raw (4 * i) 4)) with
    err := { s.err with frzRaw := true } }

/-- What waits in the controller ends with an error, and the descriptors whose requests that concerns complete (R417): captures and
replays, whose lines are staged in DRAM. -/
def State.freezeRequests (s : State) : State :=
  let caps := s.ins.caps
  let replays := s.ins.replays
  let s := { s.setDram ({ · with subs := [] }) with ins := { s.ins with caps := [], replays := [] } }
  let s := s.each caps (fun c s => s.complete c.ring c.index Code.ST_MEM_FROZEN)
  s.each replays (fun x s => s.complete x.ring x.index Code.ST_MEM_FROZEN)

/-- The controller freezes (R416, R417, R522): the freeze log, the error record, every published line late with cause
ST_MEM_FROZEN, and mode M11. -/
def execMemFreeze (x : DramStop) (s : State) : Host.Outcome State Fault Refusal :=
  .next (if s.frozen then s
    else match s.subChannel x.dpa with
    | none => s
    | some (mc, _) =>
      let code := if x.cause = 3 then Code.ST_MEM_CMD_ERR else Code.ST_MEM_UE
      let s := (s.put Reg.MEM_STS.FROZEN 1).freezeLog mc x
      let s := s.each s.job.lines (fun l s => s.lineLate l Code.ST_MEM_FROZEN (srcHP (l.row / 16)))
      let s := (s.errRecord (er code (srcMC mc) 3 3 0 x.dpa)).post (ev code (srcMC mc) none x.dpa)
      (s.freezeRequests).freeze code)

/-- A pass of patrol scrub (R415): the corrected errors it meets. -/
def execPatrolScrub (hits : List DramCe) (s : State) : Host.Outcome State Fault Refusal :=
  .next (if !s.flag Reg.MEM_CTRL.SCRUB_EN || s.frozen then s else s.each hits (fun e s => s.dramCe e))

/-- Whether a sub-channel's training helpers act (R420). -/
def State.training (s : State) (mc : Nat) : Bool := s.get (Reg.MC_STS.STATE mc) = 1 || s.get (Reg.MC_STS.STATE mc) = 4

/-- The pattern generator's operation (R410, R420): a comparison adds the bits in error to MC_CMP_MASK and MC_CMP_CNT. -/
def State.patternGo (s : State) (mc : Nat) (mask errors : Nat) : State :=
  if !s.training mc then s.put Reg.MEM_STS.CFG_ERR 1
  else if s.get (Reg.MC_PG_CTRL.OP mc) = 0 then s
  else (s.put64 (Reg.MC_CMP_MASK.PAIR mc) (s.get64 (Reg.MC_CMP_MASK.PAIR mc) ||| mask % 2 ^ 40)).count (Reg.MC_CMP_CNT.CNT mc) errors

/-- Service firmware's write of MC_PG_CTRL; `mask` and `errors` are what the compare unit finds. -/
def execMcPgGo (mc : Nat) (data : Word) (mask errors : Nat) (s : State) : Host.Outcome State Fault Refusal :=
  .next (if 16 ≤ mc then s
    else
      let a := Reg.MC_PG_CTRL.AT mc
      let s := s.hostSet a (s.lockedAt a) data
      s.when (wbit data 0) (·.patternGo mc mask errors))

/-- A mode-register access (R410, R420): a read shows what the device answers. -/
def State.mraGo (s : State) (mc answer : Nat) : State :=
  if !s.training mc then s.put Reg.MEM_STS.CFG_ERR 1
  else if s.flag (Reg.MC_MRA.READ mc) then s.put (Reg.MC_MRA.DATA mc) answer
  else s

/-- Service firmware's write of MC_MRA; `answer` is what the device's mode register holds. -/
def execMcMraGo (mc : Nat) (data : Word) (answer : Nat) (s : State) : Host.Outcome State Fault Refusal :=
  .next (if 16 ≤ mc then s
    else
      let a := Reg.MC_MRA.AT mc
      let s := s.hostSet a false data
      s.when (wbit data 12) (·.mraGo mc answer))

end Sys2Proof.Machine
end

