-- ==== Sys2Proof/Machine/RefClock.lean ====
section
/-! DEFINITION. Loss and return of the lanes' reference clocks (R228). -/

namespace Sys2Proof.Machine

/-- The lanes of a reference whose domain is on. -/
def State.refLanes (s : State) (ref : Nat) : List Nat :=
  (List.range 256).filter (fun n => laneRef n = ref && s.domOn ((domainAt (Reg.L_CTRL.AT n)).getD 0))

/-- The head ports and peer links of a reference. -/
def refPorts (ref : Nat) : List Nat := if ref < 4 then (List.range 24).map (24 * ref + ·) else []
def refPeers (ref : Nat) : List Nat := if ref = 5 then List.range 9 else []

/-- A self-test that the loss interrupts runs again (R242): RESULT 0, PENDING. -/
def State.testAgain (ns : List Nat) (s : State) : State :=
  if !ns.any (fun n => (s.lane n).test ≠ 0) then s
  else s.each ns (fun n s => ((s.put (Reg.L_SELFTEST.RUNNING n) 0).put (Reg.L_SELFTEST.RESULT n) 0).put (Reg.L_SELFTEST.PENDING n) 1
    |>.setLane n ({ · with test := 0 }))

/-- A connected camera port's link goes down, and discovery starts again (R261). -/
def State.cameraDrops (p : Nat) (s : State) : State :=
  if s.camState p ≠ 2 then s else (s.post (ev Code.ST_CAM_LINK_DOWN (srcCP p))).discover p

/-- The links of a reference go down under their own chapters' rules. -/
def State.refLinksDown (s : State) (ref : Nat) : State :=
  let s := s.each ((refPorts ref).filter (fun p => s.domOn (4 + ref) && p < 96)) (fun p s =>
    (s.testAgain (headLanes p)).hpRestart p)
  let s := s.each ((refPeers ref).filter (fun _ => s.domOn 3)) (fun l s => (s.testAgain (peerLanes l)).peerRestart l)
  let s := s.when (ref = 4 && s.domOn 8) (fun s => (s.lanesStop (s.refLanes ref)).each (List.range 8) State.cameraDrops)
  s.when (ref = 6) (fun s => (s.portReset 0).portReset 1)

/-- A reference is declared lost (R228): its lanes drop CDR lock, it is told and recorded once, and its links go down. -/
def execRefClockLoss (ref : Nat) (s : State) : Host.Outcome State Fault Refusal :=
  .next (
    if 7 ≤ ref || s.pwr.refLost.contains ref then s
    else
      let s := s.setPwr (fun p => { p with refLost := ref :: p.refLost })
      let ns := s.refLanes ref
      if !s.awake || ns = [] then s
      else
        let s := s.each ns (fun n s => (s.put (Reg.L_STS.CDR n) 0).put (Reg.L_EVT.REF_LOSS n) 1)
        let src := srcL (ns.headD 0)
        let s := (s.errRecord (er Code.ST_LANE_REF_LOSS src 3 1 0 (ns.headD 0))).post (ev Code.ST_LANE_REF_LOSS src)
        s.refLinksDown ref)

/-- The reference has stayed within ±200 ppm for 1 ms (R228): every link on it restarts its bring-up from state 1. -/
def execRefClockRestore (ref : Nat) (s : State) : Host.Outcome State Fault Refusal :=
  .next (
    if !s.pwr.refLost.contains ref then s
    else
      let s := s.setPwr (fun p => { p with refLost := p.refLost.filter (· ≠ ref) })
      let s := s.each ((refPorts ref).filter (fun _ => s.domOn (4 + ref))) State.hpRestart
      let s := s.each ((refPeers ref).filter (fun _ => s.domOn 3)) State.peerRestart
      s.when (ref = 4 && s.domOn 8) (fun s =>
        s.each ((List.range 8).filter (fun p => s.flag (Reg.CAM_P_CTRL.EN p))) (fun p s => s.discover p)))

end Sys2Proof.Machine
end

