-- ==== Sys2Proof/Machine/Bus.lean ====
section
/-! DEFINITION. Register accesses (R7 to R15, R31, R345 to R351): what a read returns and a write does at every BAR offset, the debug
window (R34 to R36), the peer's REG packets (R373) and the service console (R453). -/

namespace Sys2Proof.Machine

/-! ### Values that a write may not carry -/

/-- The element of an array at an address. -/
def elemOf (a base stride n : Nat) : Option Nat :=
  if base ≤ a && (a - base) % stride = 0 && (a - base) / stride < n then some ((a - base) / stride) else none

/-- The error bit of a write to TRK, SMP, CAL or INS whose value breaks a stated range (R53, R60, R157, R162, R314). -/
def State.rangeTrkCal (s : State) (a : Nat) (v : Word) : Option Fld :=
  let err := fun (c : Bool) (f : Fld) => if c then some f else none
  if a = Reg.TRK_TICK_MIN.AT then
    let t := wbits v 0 24
    err (t < 16000 || 4000000 < t || t < 2 * 2 ^ s.get Reg.TRK_CFG.RPT_LOG) Reg.TRK_STS.CFG_ERR
  else if a = Reg.TRK_CRAWL.AT then err (v.toNat < 32000 || 4000000 < v.toNat) Reg.TRK_STS.CFG_ERR
  else if a = Reg.TRK_REF.AT then err (1536 ≤ wbits v 0 11) Reg.TRK_STS.CFG_ERR
  else if 0x44000 ≤ a ∧ a < 0x50000 ∧ a % 32 = 0x14 then
    err (wbit v 0 && s.get64 (Reg.TRK_ROW_PITCH.PAIR ((a - 0x44000) / 32)) = 0) Reg.TRK_STS.CFG_ERR
  else if a = Reg.SMP_MIN_AHEAD.AT then err (wbits v 0 16 < 16) Reg.SMP_STS.CFG_ERR
  else if a = Reg.SMP_HCFG.AT then err (wbits v 0 4 < 4 || 12 < wbits v 0 4) Reg.SMP_STS.CFG_ERR
  else if a = Reg.CAL_MARK.AT then
    err (wbits v 20 12 < 100 || wbits v 16 4 < 4 || wbits v 12 3 = 0 || wbits v 0 4 = 0 || wbits v 0 4 + wbits v 4 8 < 8
      || 64 < wbits v 0 4 + wbits v 4 8) Reg.CAL_STS.CFG_ERR
  else if a = Reg.CAL_ADJ.AT then err (wbits v 24 8 = 0 || wbits v 20 4 = 0 || 8 < wbits v 20 4) Reg.CAL_STS.CFG_ERR
  else if a = Reg.CAL_CFG.AT then
    err (wbits v 24 8 = 0 || wbits v 20 4 = 0 || wbits v 0 13 = 0 || 4096 < wbits v 0 13) Reg.CAL_STS.CFG_ERR
  else if 0xA0100 ≤ a ∧ a < 0xA0300 ∧ a % 32 = 0 then err (85 < wbits v 24 8) Reg.INS_STS.CFG_ERR
  else none

/-- The error bit of a write to ZIP, RNG, DUE, ERR, HP, L or MEM whose value breaks a stated range (R395, R399, R524, chapter 06,
chapter 07). -/
def State.rangeRest (s : State) (a : Nat) (v : Word) : Option Fld :=
  let err := fun (c : Bool) (f : Fld) => if c then some f else none
  if a = Reg.ZIP_CFG.AT then err (s.get Reg.ZIP_STS.PAGE_BUSY ≠ 0) Reg.ZIP_STS.CFG_ERR
  else if 0xD1000 ≤ a ∧ a < 0xD3000 ∧ a % 32 = 0x1C then err (wbits v 16 16 = 0) Reg.RNG_STS.CFG_ERR
  else if a = Reg.DUE_CFG.AT then err (wbits v 16 16 < 10) Reg.DUE_EVT.CFG_ERR
  else if a = Reg.ERR_SCRUB.AT then err (wbits v 0 16 < 60) Reg.ERR_STS.CFG_ERR
  else if a = Reg.ERR_SVC_CFG.AT then err (wbits v 0 8 ≤ wbits v 8 8) Reg.ERR_STS.CFG_ERR
  else if 0x400000 ≤ a ∧ a < 0x460000 then
    let p := (a - 0x400000) / 0x1000
    let o := a % 0x1000
    if o = 4 then err (4 < wbits v 5 3) (Reg.HP_LINK_EVT.CFG_ERR p)
    else if 0xC0 ≤ o ∧ o < 0x100 then err (s.get (Reg.HP_HEAD_CAP.NWAVE_M1 p) < wbits v 0 4) (Reg.HP_LINK_EVT.CFG_ERR p)
    else none
  else if 0x500000 ≤ a ∧ a < 0x540000 then
    let n := (a - 0x500000) / 0x400
    let o := a % 0x400
    if o = 0x10 then err (wbits v 0 2 = 3 || laneGroup n = 2) (Reg.L_EVT.CFG_ERR n)
    else if o = 0x1C then err (wbits v 16 7 < wbits v 0 7) (Reg.L_EVT.CFG_ERR n)
    else none
  else if a = Reg.MEM_CFG.AT then
    err (wbits v 0 4 < 8 || !(s.mode = 2 || s.mode = 3) || s.get Reg.JOB_STS.CHAINS ≠ 0) Reg.MEM_STS.CFG_ERR
  else if a = Reg.MEM_SCRUB.AT then err (wbits v 0 8 = 0) Reg.MEM_STS.CFG_ERR
  else if a = Reg.MEM_ARB.AT then err (wbits v 0 8 = 0 || wbits v 8 8 = 0 || wbits v 16 8 = 0) Reg.MEM_STS.CFG_ERR
  else none

/-- A write of a register whose fields alone it concerns: dropped with its unit's CFG_ERR where the value is out of range, which a
locked RWL register does not come to (R15). -/
def State.writePlain (s : State) (slot a : Nat) (data : Word) : State :=
  let bad := if a < 0xB0000 then s.rangeTrkCal a data else s.rangeRest a data
  match bad with
  | none => s.writeFields slot a data
  | some f => if s.lockedAt a && Reg.mask a .rwl ≠ 0 then s.writeFields slot a data else s.put f 1

/-! ### Single registers -/

/-- DEV (chapter 11). -/
def State.writeDEV (s : State) (slot a : Nat) (data : Word) : State :=
  if a = Reg.DEV_MODE.AT then s.when (wbits data 8 4 ≠ 0) (·.modeRequest (wbits data 8 4) none)
  else if a = Reg.DEV_RESET.AT then s.resetWrite data
  else if a = Reg.DEV_ABORT.AT then s.when (data.toNat = 0xA5A50002) State.deviceAbort
  else if a = Reg.DEV_PEER_CTRL.AT then s.peerCtrlWrite slot data
  else if a = Reg.DEV_OWN_CFG.AT && !s.lockedAt a && (wbits data 0 16 < 10 || 10000 < wbits data 0 16) then s
  else s.writeFields slot a data

/-- PWR and THM (chapter 16). -/
def State.writePWR (s : State) (slot a : Nat) (data : Word) : State :=
  if a = Reg.PWR_DOM_CTRL.AT then s.domRequest (wbits data 0 21)
  else if a = Reg.PWR_LEVEL.AT then s.levelWrite data
  else if a = Reg.PWR_BOOT_CTRL.AT then s.when (wbit data 0) (State.bootGo slot)
  else s.writeFields slot a data

/-- MER, TRK and ENC (chapter 02), but for the field-held registers. A changed ROLE is announced at once (R250). -/
def State.writeTime (s : State) (slot a : Nat) (data : Word) : State :=
  if a = Reg.MER_CTRL.AT then
    if !s.lockedAt a && wbits data 1 2 = 3 then s
    else
      let old := s.get Reg.MER_CTRL.ROLE
      let s := s.writeFields slot a data
      s.when (s.get Reg.MER_CTRL.ROLE ≠ old) (fun s =>
        ((s.restartFollow).setTb ({ · with roleWas := some (old, s.now) })).announceAll)
  else if a = Reg.MER_STN_CFG.AT then
    let old := s.get Reg.MER_STN_CFG.UPLINK
    let s := s.writeFields slot a data
    s.when (s.get Reg.MER_STN_CFG.UPLINK ≠ old && s.get Reg.MER_CTRL.ROLE = 2) State.restartFollow
  else if a = Reg.MER_RATE.AT then s.when (s.get Reg.MER_CTRL.ROLE ≠ 2) (·.writeFields slot a data)
  else if a = Reg.TRK_CTRL.AT then (s.writeFields slot a data).each (bitList 3 (wbits data 1 3)) State.requestTest
  else if a = Reg.TRK_BUPD_CTRL.AT then s.commitWrite slot a data State.barCommit
  else s.writePlain slot a data

/-- JOB, FAB, SMP and CAL. -/
def State.writePrint (s : State) (slot a : Nat) (data : Word) : State :=
  if a = Reg.FAB_CTRL.AT then
    let locked := s.lockedAt a
    s.trigger slot a data 1 (·.commitMap locked)
  else if a = Reg.FAB_MOVE_CTRL.AT then s.trigger slot a data 13 State.commitMove
  else if a = Reg.FAB_XUPD_CTRL.AT then s.commitWrite slot a data State.xwebCommit
  else if a = Reg.FAB_TUPD_CTRL.AT then s.commitWrite slot a data State.trimCommit
  else if a = Reg.SMP_XFER_CTRL.AT then s.xferWrite slot data
  else if a = Reg.SMP_PEEK_GN.AT then s.peek slot data
  else if a = Reg.CAL_CTRL.AT then s.calCtrlWrite slot data
  else if a = Reg.CAL_STITCH_CTRL.AT then s.stitchWrite slot data
  else s.writePlain slot a data

/-- A write of CAM_P_FMT: ranges, then the budget (R275). -/
def State.fmtWrite (s : State) (slot p : Nat) (data : Word) : State :=
  let a := Reg.CAM_P_FMT.AT p
  let px := wbits data 0 15
  if s.lockedAt a then s.writeFields slot a data
  else if 4 < wbits data 27 3 || 4 < wbits data 24 3 || wbits data 22 2 = 3 || wbits data 20 2 = 3 || px < 64 || 16384 < px || px % 16 ≠ 0
  then s.put (Reg.CAM_P_STS.CFG_ERR p) 1
  else if px = s.get (Reg.CAM_P_FMT.PX p) then (s.writeFields slot a data).showDemand
  else s.budgeted p (·.writeFields slot a data)

/-- A write of CAM_P_EVT: TAIL's advance frees slots (R263). -/
def State.camEvtWrite (s : State) (slot p : Nat) (data : Word) : State :=
  let freed := (wbits data 2 2 + 4 - s.get (Reg.CAM_P_EVT.TAIL p)) % 4
  let s := s.writeFields slot (Reg.CAM_P_EVT.AT p) data
  s.put (Reg.CAM_P_EVT.COUNT p) (s.get (Reg.CAM_P_EVT.COUNT p) - freed)

/-- INS and CAM (chapter 08). -/
def State.writeCAM (s : State) (slot a : Nat) (data : Word) : State :=
  if a < 0xB1000 || 0xB1800 ≤ a then s.writePlain slot a data
  else
    let p := (a - 0xB1000) / 0x100
    if a = Reg.CAM_P_CTRL.AT p then s.camCtrlWrite slot p data
    else if a = Reg.CAM_P_FMT.AT p then s.fmtWrite slot p data
    else if a = Reg.CAM_P_TRIG_MIN.AT p then
      (if s.lockedAt a then s.writeFields slot a data else s.budgeted p (·.writeFields slot a data))
    else if a = Reg.CAM_P_CC_CTRL.AT p then s.ccWrite p data
    else if a = Reg.CAM_P_EVT.AT p then s.camEvtWrite slot p data
    else s.writeFields slot a data

/-- A write of an MSI-X structure: a vector that is unmasked with its pending bit set sends its message (R366). -/
def State.msixWrite (s : State) (slot a : Nat) (data : Word) : State :=
  let s := s.writeFields slot a data
  let port := a / 0x4000000
  let o := a - port * 0x4000000 - 0xD8000
  if o % 16 ≠ 12 || 0x1000 ≤ o then s
  else
    let v := o / 16
    let pba : Fld := { addr := Reg.MSIX_PBA.AT (v / 32) + msixBase port, lo := v % 32, width := 1 }
    if s.flag pba && !wbit data 0 then (s.put pba 0).msixSend port v else s

/-- ZIP, RNG and DUE. -/
def State.writeHost (s : State) (slot a : Nat) (data : Word) : State :=
  if 0xC0400 ≤ a ∧ a < 0xC0800 then s.zipRing slot ((a - 0xC0400) / 4) data
  else if 0xD1000 ≤ a ∧ a < 0xD3000 ∧ a % 32 = 0 then s.ringCfgWrite slot ((a - 0xD1000) / 32) data
  else if a = Reg.DUE_CTRL.AT then s.dueCtrlWrite slot data
  else if a = Reg.DUE_CFG.AT then (s.writePlain slot a data).when (s.duetRole = 1 || s.duetRole = 2) State.showAllem
  else s.writePlain slot a data

/-- FLD and MOT (chapters 14 and 15), but for the field-held registers. -/
def State.writeFLD (s : State) (slot a : Nat) (data : Word) : State :=
  if a = Reg.FLD_CTRL.AT then
    let s := s.writeFields slot a data
    (s.when (wbit data 1) State.armField).when (wbit data 2) State.statusReq
  else if a = Reg.FLD_OUT_VAL.AT then s.outSet data
  else if a = Reg.FLD_OUT_CLR.AT then s.latchClr data
  else if 0x101000 ≤ a ∧ a < 0x102000 ∧ a % 0x400 = 0 then (s.motionCmd ((a - 0x101000) / 0x400) data).outputs
  else if 0x101000 ≤ a ∧ a < 0x102000 ∧ a % 0x400 = 4 then s.motionTarget ((a - 0x101000) / 0x400) data
  else s.writeFields slot a data

/-- ERR, PMC and MBX (chapters 17 and 11). -/
def State.writeERR (s : State) (slot a : Nat) (data : Word) : State :=
  if a = Reg.ERR_CTRL.AT then s.errCtrlWrite slot data
  else if a = Reg.PMC_CTRL.AT then s.pmcCtrlWrite slot data
  else if 0x120100 ≤ a ∧ a < 0x120140 then s.pmcModeWrite slot a data
  else if a = Reg.MBX_CTRL.AT then s.when (wbit data 0) State.mailboxGo
  else s.writePlain slot a data

/-- SE, HP, L, MC and MEM instances. What a training helper that is started from a register finds is open. -/
def State.writeInst (s : State) (slot a : Nat) (data : Word) : State :=
  if a < 0x300000 then
    let n := (a - 0x200000) / 0x4000
    if a = Reg.SE_CTRL.AT n then s.when (wbit data 0) (·.engineTest n 0) else s.writeFields slot a data
  else if a < 0x460000 then
    let p := (a - 0x400000) / 0x1000
    if a = Reg.HP_CTRL.AT p then s.hpCtrlWrite slot p data
    else if a = Reg.HP_HEAD_CMD.AT p then
      (if 3 < wbits data 0 3 then s.put (Reg.HP_LINK_EVT.CFG_ERR p) 1 else (s.writeFields slot a data).headMode (wbits data 0 3) p)
    else s.writePlain slot a data
  else if a < 0x540000 then
    let n := (a - 0x500000) / 0x400
    if a = Reg.L_CTRL.AT n then s.lCtrlWrite slot n data
    else if a = Reg.L_TXEQ.AT n then s.txeqWrite slot n data
    else if a = Reg.L_RXEQ.AT n then s.rxeqWrite slot n data
    else if a = Reg.L_BS.AT n then s.lBsWrite slot n data
    else if a = Reg.L_PRBS.AT n then s.lPrbsWrite slot n data
    else s.writePlain slot a data
  else
    let mc := (a - 0x600000) / 0x4000
    if a = Reg.MC_CTRL.AT mc then s.when (wbit data 0) (·.retrain mc)
    else if a = Reg.MC_PG_CTRL.AT mc then
      (s.writeFields slot a data).when (wbit data 0) (fun s => s.drawn.drawn.patternGo mc (s.open_ 40) (s.drawn.open_ 32))
    else if a = Reg.MC_MRA.AT mc then
      (s.writeFields slot a data).when (wbit data 12) (fun s => s.drawn.mraGo mc (s.open_ 8))
    else if a = Reg.MEM_POP.AT then (if s.lockedAt a then s.writeFields slot a data else s.memPop data)
    else s.writePlain slot a data

/-- A field-held register (R433): ENCOUT_N waits for ENCOUT_M (R48). -/
def State.writeHeld (s : State) (slot a : Nat) (data : Word) : State :=
  if a = Reg.ENCOUT_M.AT then s.encoutCommit slot data
  else if a = Reg.ENCOUT_N.AT then
    (if s.lockedAt a then s.writeFields slot a data else s.setTb ({ · with encoutBuf := some data.toNat }))
  else s.writeFieldHeld slot a data

/-- A write of a 32-bit register by the owner. -/
def State.writeReg (s : State) (slot a : Nat) (data : Word) : State :=
  if fieldHeld a then s.writeHeld slot a data
  else if a < 0x10000 then s.writeDEV slot a data
  else if a < 0x30000 then s.writePWR slot a data
  else if a < 0x60000 then s.writeTime slot a data
  else if a < 0xA0000 then s.writePrint slot a data
  else if a < 0xC0000 then s.writeCAM slot a data
  else if 0xD8000 ≤ a ∧ a < 0xDA000 then s.msixWrite slot a data
  else if a < 0xF0000 then s.writeHost slot a data
  else if a < 0x110000 then s.writeFLD slot a data
  else if a < 0x140000 then s.writeERR slot a data
  else if a < 0x640000 then s.writeInst slot a data
  else s.msixWrite slot a data

/-! ### Pairs (R13, R14) -/

/-- The error bit of a pair whose value its register table drops: JOB_PAGE_BASE and SIZE (R80), SMP_IMG_BASE, INS_PRED_BASE and SIZE,
and ZIP_CTX_BASE (R391). -/
def State.pairDropped (s : State) (lo v : Nat) : Option Fld :=
  let err := fun (c : Bool) (f : Fld) => if c then some f else none
  let device := 2 ^ 29
  let page := s.get64 Reg.JOB_PAGE_BASE.PAIR
  let meets := fun (b n c m : Nat) => decide (b < c + m) && decide (c < b + n)
  if lo = Reg.JOB_PAGE_BASE.PAIR.addr then err (v % 65536 ≠ 0) Reg.JOB_STS.CFG_ERR
  else if lo = Reg.JOB_PAGE_SIZE.PAIR.addr then
    err (v % 65536 ≠ 0 || meets page v 0 device || s.get64 Reg.MEM_CAP.PAIR < page + v) Reg.JOB_STS.CFG_ERR
  else if lo = Reg.SMP_IMG_BASE.PAIR.addr then err (v % 65536 ≠ 0 || device < v + 75497472) Reg.SMP_STS.CFG_ERR
  else if lo = Reg.INS_PRED_BASE.PAIR.addr then
    let n := s.get64 Reg.INS_PRED_SIZE.PAIR
    err (v % 65536 ≠ 0 || meets v n 0 device || meets v n page (s.get64 Reg.JOB_PAGE_SIZE.PAIR)) Reg.INS_STS.CFG_ERR
  else if lo = Reg.INS_PRED_SIZE.PAIR.addr then err (v % 65536 ≠ 0) Reg.INS_STS.CFG_ERR
  else if lo = Reg.ZIP_CTX_BASE.PAIR.addr then err (v % 65536 ≠ 0 || device < v + 64 * 327680) Reg.ZIP_STS.CFG_ERR
  else none

/-- A write of a _HI register commits the pair (R14): MER_SET as R38 states; RNG_R_BASE only while its ring is DISABLED; a locked pair
is dropped, and reported where it would change. -/
def State.commitPair (s : State) (slot lo : Nat) (hi : Word) : State :=
  let v := s.pairWritten slot lo hi
  let loW := BitVec.ofNat 32 v
  if lo = Reg.MER_SET.PAIR.addr then s.merSet slot hi
  else if s.lockedAt lo && Reg.mask lo .rwl ≠ 0 then
    s.when (s.get64 ⟨lo⟩ ≠ v) (·.reportAccess slot 0 (lo + 4) 1)
  else if 0xD1000 ≤ lo ∧ lo < 0xD3000 ∧ s.ringState ((lo - 0xD1000) / 32) ≠ 0 then s
  else match s.pairDropped lo v with
    | some f => s.put f 1
    | none =>
      (s.hostSet lo false loW).hostSet (lo + 4) false hi

/-- A write of a _LO register is buffered (R14). -/
def State.bufferLo (s : State) (slot lo : Nat) (data : Word) : State :=
  s.setHost (fun h => { h with loBuf := Sparse.insert (pairKey slot lo) data.toNat h.loBuf })

/-- Whether a register has a field that a write can change. -/
def Reg.writable (a : Nat) : Bool :=
  [Access.rw, .wo, .w1c, .w1s, .rwl].any (fun x => Reg.mask a x ≠ 0)

/-- The register file's address for an offset that a slot names: MC8's view of the controller-wide registers (R420), and port B's
MSI-X structures (R341). -/
def canonAt (slot off : Nat) : Nat :=
  if 0x623000 ≤ off ∧ off < 0x623100 then off - 0x20000
  else if slot = 1 ∧ 0xD8000 ≤ off ∧ off < 0xDA000 then off + 0x4000000
  else off

/-- The owner's write at an offset: a register, the half of a pair, or nothing (R11). -/
def State.writeAt (s : State) (slot off : Nat) (data : Word) : State :=
  let a := canonAt slot off
  match Reg.find a with
  | none => s
  | some (r, part) =>
    if !Reg.writable (a - part) then s
    else if part = 4 then s.commitPair slot (a - 4) data
    else if r.pair then s.bufferLo slot a data
    else s.writeReg slot a data

/-! ### Reads -/

/-- What L_STS shows of a host lane (R239, R243, R245): nothing while its port does not answer, and else what the port's training found: the
lanes in use, a width of 1, 2, 4, 8 or, in ×16, 16 from either end, their rate and polarity, and whether the link's power state idles
the transmitter. No rule gives the outcome of a training (log entry 140). -/
def State.showHostLane (s : State) (n : Nat) : State :=
  let wide := s.pwr.straps.pcieX16 = 1
  let port := if wide || n < 232 then 0 else 1
  let lanes := if wide then 16 else 8
  let i := (n - 224) % lanes
  let found := fun (k : Nat) => Config.freeAt (s.host.trained.getD port 0) k
  let width := [lanes, 8, 4, 2, 1].getD (found 0 % 5) lanes
  let inUse := if found 1 % 2 = 0 then i < width else lanes - width ≤ i
  if !s.reach port || !inUse then s
  else
    let s := ((s.put (Reg.L_STS.SIG n) 1).put (Reg.L_STS.CDR n) 1).put (Reg.L_STS.RATE n) (1 + found 2 % 5)
    (s.put (Reg.L_STS.POL_INV n) (found (3 + i) % 2)).put (Reg.L_STS.TX_IDLE n) (Config.freeAt s.free port % 2)

/-- The word that a register shows: what the hardware gives at the read, else what the register file holds. -/
def State.view (s : State) (slot a : Nat) : Word :=
  let half := fun (base v : Nat) => BitVec.ofNat 32 (v / 2 ^ (8 * (a - base)))
  if a = Reg.DEV_ID.AT then BitVec.ofNat 32 (0x96000000 + Config.fuseGrade % 2 * 2 ^ 12 + Config.fuseStep % 256)
  else if a = Reg.DEV_SERIAL.AT || a = Reg.DEV_SERIAL.AT + 4 then half Reg.DEV_SERIAL.AT (Config.fuseSerial % 2 ^ 64)
  else if a = Reg.DEV_OWN_SLOT.AT then BitVec.ofNat 32 slot
  else if a = Reg.MER_TIME.AT || a = Reg.MER_TIME.AT + 4 then half Reg.MER_TIME.AT s.now
  else if a = Reg.MER_RATE.AT && s.get Reg.MER_CTRL.ROLE = 2 then BitVec.ofNat 32 (unsigned 32 s.tb.loopRate)
  else if a = Reg.PWR_SURGE.AT then s.showSurge.word a
  else if a = Reg.DUE_CFG_DIGEST.AT then BitVec.ofNat 32 s.cfgDigest
  else if 0x500000 ≤ a ∧ a < 0x540000 ∧ a % 0x400 = 4 then
    let n := (a - 0x500000) / 0x400
    let st := s.pwr.straps
    let at156 := if n < 192 then st.refHq else if n < 224 then st.refCam else if n < 240 then 0 else st.refPeer
    ((s.put (Reg.L_STS.REF156 n) at156).when (224 ≤ n && n < 240) (·.showHostLane n)).word a
  else s.word a

/-- The registers whose RC field holds a highest or smallest value, where every other one counts. -/
def isPeak (a : Nat) : Bool :=
  a = Reg.ZIP_PAGE_SLACK.AT || a = Reg.ERR_SVC_LOAD.AT || (0x200000 ≤ a && a < 0x300000 && (a - 0x200000) % 0x4000 = 8)

/-- What an RC field of a register keeps through a read in the clock of its events (R8): a count keeps those events, and a highest
or smallest value the one they gave. -/
def keptRc (a : Nat) (before now : Word) (f : FieldRow) : Nat :=
  if f.acc ≠ .rc then 0
  else if isPeak a then bits now.toNat f.lo f.width * 2 ^ f.lo
  else (bits now.toNat f.lo f.width - bits before.toNat f.lo f.width) * 2 ^ f.lo

/-- What the owner's read clears (R9): the RC fields; ZIP_PAGE_SLACK, a smallest value, starts again from its reset value. The events
of this clock are not lost to it (R8). -/
def State.clearRead (s : State) (a : Nat) : State :=
  let m := BitVec.ofNat 32 (Reg.mask a .rc)
  if m = 0 then s
  else
    let rest : Word := if a = Reg.ZIP_PAGE_SLACK.AT then m else 0
    match s.fresh.lookup a, Reg.find a with
    | some (before, set), some (r, _) =>
      let kept := BitVec.ofNat 32 (r.fields.foldl (fun acc f => acc + keptRc a before (s.word a) f) 0)
      { s.setWord a ((s.word a &&& ~~~ m) ||| kept) with fresh := Sparse.insert a ((before &&& ~~~ m) ||| rest, set) s.fresh }
    | _, _ => s.setWord a ((s.word a &&& ~~~ m) ||| rest)

/-- What the owner's read of a register returns: its RC fields as they were before the events of this clock (R8). -/
def State.ownerView (s : State) (slot a : Nat) : Word :=
  let m := BitVec.ofNat 32 (Reg.mask a .rc)
  match s.fresh.lookup a with
  | some (before, _) => (s.view slot a &&& ~~~ m) ||| (before &&& m)
  | none => s.view slot a

/-- A read of a register at an offset by a slot: the word and the state after. -/
def State.readAt (s : State) (slot off : Nat) : Word × State :=
  let a := canonAt slot off
  match Reg.find a with
  | none => (0, s)
  | some (r, part) =>
    if part = 4 then (BitVec.ofNat 32 ((s.host.loSnap.lookup (pairKey slot (a - 4))).getD 0), s)
    else if r.pair then
      (s.view slot a, s.setHost (fun h => { h with
        loSnap := Sparse.insert (pairKey slot a) (s.view slot (a + 4)).toNat h.loSnap }))
    else if s.isOwner slot then (s.ownerView slot a, s.clearRead a)
    else (s.view slot a, s)

/-! ### The debug window (R34 to R36) -/

/-- The internal address that a BAR0 address in the window reaches. -/
def State.windowAt (s : State) (off : Nat) : Nat := s.get Reg.DEV_DBG_BASE.BASE * 0x2000000 + (off - 0x2000000)

/-- Whether an internal address lies in the map and, in DRAM, within what is installed. -/
def State.windowMapped (s : State) (i : Nat) : Bool :=
  i < 0xA800000 || (0x4000000000 ≤ i && i - 0x4000000000 < s.get64 Reg.MEM_CAP.PAIR)

/-- Whether the domain behind an internal address is on; service, ring and compression-context memory lie in one region, which needs
all three domains (R34). -/
def State.windowOn (s : State) (i : Nat) : Bool :=
  if 0x4000000000 ≤ i then [9, 10].all (fun d => !s.memDomain d || s.domOn d)
  else if 0xA400000 ≤ i then [1, 2, 11].all s.domOn
  else match sramAt i with
    | some m => s.domOn (sramDomain m)
    | none => true

/-- Whether R35 lets an access of the window through. -/
def State.windowOk (s : State) (i : Nat) : Bool :=
  s.flag Reg.DEV_DBG_CTRL.EN && s.windowMapped i && s.windowOn i
    && (i < 0x4000000000 || s.modeIn 3 5 || s.modeIn 8 9)

/-- A refused access (R35): `reason` 0 for a write by a slot that is not the owner, 2 for any other. -/
def State.windowRefused (s : State) (slot off reason : Nat) : State :=
  let s := s.put (if s.windowMapped (s.windowAt off) then Reg.DEV_DBG_STS.BLOCKED else Reg.DEV_DBG_STS.UNMAPPED) 1
  ((s.put Reg.DEV_ACC_STS.DBG 1).pmcAdd 451).reportAccess slot 0 off reason

/-- A write through the window. -/
def State.windowWrite (s : State) (slot off : Nat) (data : Word) : State :=
  let i := s.windowAt off
  if !s.isOwner slot then s.windowRefused slot off 0
  else if !s.windowOk i || !s.flag Reg.DEV_DBG_CTRL.WR_EN || !s.modeIn 3 4 then s.windowRefused slot off 2
  else if 0x4000000000 ≤ i then s.dramStore 3 i (leBytes 4 data.toNat)
  else { s with err := { s.err with sram := Sparse.insert i data s.err.sram } }

/-- Whether an ECC hit is one at an internal address. -/
def hitIsAt (h : SramHit) (i : Nat) : Bool :=
  if h.mem < 64 then i / 4 = (h.mem * 0x200000 + h.offset) / 4
  else if h.mem = 64 then i / 4 = (0x8000000 + h.offset) / 4
  else if h.mem = 65 then i / 4 = (0xA000000 + h.offset) / 4
  else 0xA400000 ≤ i && i < 0xA800000

/-- A read through the window, and the hit in on-die SRAM that it meets; an error in a row marked faulty is uncorrectable (R518). SRAM that the window has not written holds what its unit put
there, whose form the spec does not give: an open value. -/
def State.windowRead (s : State) (slot off : Nat) (hit : Option SramHit) : Word × State :=
  let i := s.windowAt off
  if !s.windowOk i then (0, s.windowRefused slot off 2)
  else if 0x4000000000 ≤ i then (BitVec.ofNat 32 (s.memWord i), s.dramLoad i 4)
  else
    let hit := hit.filter (fun h => hitIsAt h i)
    let lost := hit.filter s.hitLost
    let s := match hit with
      | some h => s.sramHit h
      | none => s
    match lost with
    | some _ => (0xFFFFFFFF, s.put Reg.DEV_DBG_STS.UNCORR 1)
    | none => match s.err.sram.lookup i with
      | some w => (w, s)
      | none => (BitVec.ofNat 32 (s.open_ 32), s.drawn)

/-! ### Accesses -/

/-- A write by a slot at a BAR0 offset, of a word: CLAIM and heartbeats from any slot, all else from the owner (R350). -/
def State.wordWrite (s : State) (slot off : Nat) (data : Word) : State :=
  if 4 ≤ slot || 0x4000000 ≤ off then s
  else if off = Reg.DEV_OWN_CTRL.AT then s.ownCtrl slot (wbits data 0 2) (wbits data 4 2)
  else if off = Reg.DEV_OWN_HB.AT then s.heartbeat slot
  else if 0x2000000 ≤ off then (if s.reach slot then (s.inbound slot).windowWrite slot off data else s)
  else s.ownerWrite slot off (·.writeAt slot off data)

/-- A read by a slot at a BAR0 offset, of a word, that reaches the device. -/
def State.wordRead (s : State) (slot off : Nat) (hit : Option SramHit) : Word × State :=
  if 0x2000000 ≤ off then s.windowRead slot off hit
  else if !s.addrOn off then (0, s.offDomain off)
  else s.readAt slot off

/-- A port logs a bad write in AER as an Unsupported Request, an advisory non-fatal error (R351); slots 2 and 3 are no PCIe ports. -/
def State.logAer (s : State) (slot : Nat) : State :=
  if 2 ≤ slot then s
  else (s.setHost (fun h => { h with aer := updateAt h.aer slot (· + 1) })).send (.aer slot)

/-- A write of any size at any BAR (R12, R351, R357, R371). -/
def State.busWrite (s : State) (slot bar off size : Nat) (data : Word) : State :=
  if 4 ≤ slot || !s.reach slot || (bar ≠ 0 && 2 ≤ slot) then s
  else if size ≠ 4 || off % 4 ≠ 0 then ((s.inbound slot).badSize slot bar off).logAer slot
  else if bar = 0 then s.wordWrite slot off data
  else if bar = 1 then
    let r := off / 0x1000
    let v := data.toNat
    if off % 0x1000 = 0 then s.doorbell slot r v (fun s => s.dbProd slot r v)
    else if off % 0x1000 = 4 then s.doorbell slot r v (fun s => s.dbHcons slot r v)
    else if off % 0x1000 = 8 then s.doorbell slot r v (fun s => s.dbAbort slot r v)
    else s.inbound slot
  else s.inbound slot

/-- A read of any size at any BAR, which is answered (R12, R351, R357, R371). -/
def State.busRead (s : State) (slot bar off size : Nat) (hit : Option SramHit) : State :=
  if 4 ≤ slot || !s.reach slot || (bar ≠ 0 && 2 ≤ slot) || (bar = 0 && 0x4000000 ≤ off) then s
  else
    let s := s.inbound slot
    if size ≠ 4 || off % 4 ≠ 0 then (s.badSize slot bar off).send (.unsupported slot bar off)
    else if bar = 0 then
      let (w, s) := s.wordRead slot off hit
      s.send (.readData slot 0 off w)
    else if bar = 1 then s.send (.readData slot 1 off 0)
    else s.counterRead slot off

def execRegisterWrite (slot : Nat) (bar : Nat) (off size : Nat) (data : Word) (s : State) : Host.Outcome State Fault Refusal :=
  .next (s.busWrite slot bar off size data)

/-- Which half of a pair a BAR0 offset names. -/
def pairPart (slot off : Nat) : Option Nat := (Reg.find (canonAt slot off)).bind (fun e => if e.1.pair then some e.2 else none)

def execLoReadSnapshot (slot off : Nat) (s : State) : Host.Outcome State Fault Refusal :=
  .next (s.when (pairPart slot off = some 0) (·.busRead slot 0 off 4 none))

def execLoWriteBuffer (slot off : Nat) (data : Word) (s : State) : Host.Outcome State Fault Refusal :=
  .next (s.when (pairPart slot off = some 0) (·.busWrite slot 0 off 4 data))

def execHiWriteCommit (slot off : Nat) (data : Word) (s : State) : Host.Outcome State Fault Refusal :=
  .next (s.when (pairPart slot off = some 4) (·.busWrite slot 0 off 4 data))

def execRcReadClear (slot bar off size : Nat) (s : State) : Host.Outcome State Fault Refusal :=
  .next (s.busRead slot bar off size none)

def execDebugWindowRead (slot off size : Nat) (hit : Option SramHit) (s : State) : Host.Outcome State Fault Refusal :=
  .next (s.when (0x2000000 ≤ off && off < 0x4000000) (·.busRead slot 0 off size hit))

def execDebugWindowWrite (slot off size : Nat) (data : Word) (s : State) : Host.Outcome State Fault Refusal :=
  .next (s.when (0x2000000 ≤ off && off < 0x4000000) (·.busWrite slot 0 off size data))

/-- A write to a field-held register (R433). -/
def execCfgCommit (slot off : Nat) (data : Word) (s : State) : Host.Outcome State Fault Refusal :=
  .next (s.when (fieldHeld off) (·.busWrite slot 0 off 4 data))

/-! ### The peer's REG packets (R373) -/

/-- The answer to a REG packet: RESP set, the data, and a STATUS whose values the spec does not name. -/
def State.regAnswer (s : State) (off tag : Nat) (write : Bool) (data : Word) : State :=
  s.drawn.duetSend 5 [off % 2 ^ 26 + tag % 256 * 2 ^ 32 + write.toNat * 2 ^ 40 + 2 ^ 41, data.toNat + s.open_ 16 * 2 ^ 32]

def execReg (off tag : Nat) (write : Bool) (data : Word) (s : State) : Host.Outcome State Fault Refusal :=
  .next (
    let off := off % 2 ^ 26
    if !s.awake || !s.duetUp then s
    else if off % 4 ≠ 0 then (s.badSize 2 0 off).regAnswer off tag write 0
    else if write then (s.wordWrite 2 off data).regAnswer off tag write data
    else
      let (w, s) := s.wordRead 2 off none
      s.regAnswer off tag write w)

/-! ### The service console (R453) -/

/-- The value of eight hexadecimal digits. -/
def hexDigit (c : Nat) : Option Nat :=
  if 48 ≤ c && c ≤ 57 then some (c - 48)
  else if 65 ≤ c && c ≤ 70 then some (c - 55)
  else if 97 ≤ c && c ≤ 102 then some (c - 87)
  else none
def hexWord (cs : List Nat) : Option Nat :=
  if cs.length ≠ 8 then none
  else cs.foldl (fun acc c => acc.bind (fun n => (hexDigit c).map (fun d => 16 * n + d))) (some 0)

/-- A word as eight hexadecimal digits. -/
def hexText (w : Word) : List Nat :=
  (List.range 8).map (fun i => let d := bits w.toNat (28 - 4 * i) 4; if d < 10 then 48 + d else 55 + d)

/-- A reply, with its CR LF: it crosses the barrier in UART_TX frames, and leaves on FI_UART_TX. -/
def State.consoleReply (s : State) (text : List Nat) : State :=
  (s.uartFrames 3 0x16 (text ++ [13, 10])).send (.console ((text ++ [13, 10]).map (BitVec.ofNat 8)))

/-- "! 0n". -/
def State.consoleError (s : State) (n : Nat) : State := s.consoleReply [33, 32, 48, 48 + n]

/-- A line of the console (the table "Console commands"), as master slot M3. -/
def State.consoleLine (s : State) (line : List Nat) : State :=
  let addr := hexWord ((line.drop 3).take 8)
  if !s.flag Reg.FLD_UART_CFG.CON_EN then s.consoleError 3
  else match addr with
    | none => s.consoleError 1
    | some off =>
      if line.take 3 = [82, 68, 32] && line.length = 11 then
        if off % 4 ≠ 0 then (s.badSize 3 0 off).consoleError 2
        else
          let (w, s) := if off < 0x4000000 then s.wordRead 3 off none else (0, s)
          s.consoleReply ([61, 32] ++ hexText w)
      else match line.take 3 = [87, 82, 32] && (line.drop 11).take 1 = [32], hexWord (line.drop 12) with
        | true, some v =>
          if off % 4 ≠ 0 then (s.badSize 3 0 off).consoleError 2
          else
            let free := off = Reg.DEV_OWN_HB.AT || (off = Reg.DEV_OWN_CTRL.AT && v % 4 = 1)
            let s' := s.wordWrite 3 off (BitVec.ofNat 32 v)
            if s.isOwner 3 || free then s'.consoleReply [61] else s'.consoleError 4
        | _, _ => s.consoleError 1

/-- One byte: CR ends a line; a line beyond 32 characters is in none of the forms. -/
def State.consoleByte (c : Nat) (s : State) : State :=
  if c % 256 = 13 then (s.setFld ({ · with line := [] })).consoleLine s.fld.line
  else s.setFld (fun f => { f with line := (f.line ++ [c % 256]).take 33 })

/-- Bytes from the console, each with its stop bit, in HELD and ACTIVE: one whose stop bit is low is discarded and counted (R552);
the others cross the barrier in UART_RX frames, and the engine takes up to 64 that arrive together; the rest are lost (R453). -/
def State.consoleBytes (s : State) (bytes : List (Nat × Bool)) : State :=
  let good := (bytes.filter (·.2)).map (·.1)
  let past := good.length - 64
  let s := (s.uartFrames 4 0x25 good).count (Reg.FLD_CNT.CNT 6) (bytes.length - good.length + past)
  let s := s.each (good.take 64) State.consoleByte
  s.when (0 < past) (fun s => (s.put Reg.FLD_EVT.UART_OVF 1).postLimited (ev Code.ST_FLD_UART_OVF srcFLD) 0 4000000000)

def execUartRx (bytes : List (Nat × Bool)) (s : State) : Host.Outcome State Fault Refusal :=
  .next (s.when (s.awake && (s.fld.state = .held || s.fld.state = .active)) (·.consoleBytes bytes))

end Sys2Proof.Machine
end

