-- ==== Sys2Proof/Machine/FieldIn.lean ====
section
/-! DEFINITION. The field island's inputs and the loss of the field die, as they reach the main die (R428, R441 to R443). -/

namespace Sys2Proof.Machine

/-- An input's reading changes at the field die (R441, R442): zone 0 below 5 V, 1 above 11 V, 2 in the hysteresis band. -/
def execDiChange (input zone : Nat) (s : State) : Host.Outcome State Fault Refusal :=
  let old := (s.fld.level, s.fld.band)
  let s := (s.inputReads input zone).actInputs
  .next (s.when ((s.fld.level, s.fld.band) ≠ old) State.sendInState)

/-- The inputs of a function whose mirrored reading is 0. -/
def State.openMirrored (s : State) (func : Nat) : List Nat :=
  (List.range 12).filter (fun i => s.get (Reg.FLD_DI_CFG.FUNC i) = func && !bit (s.get Reg.FLD_DI_STS.LEVEL) i)

/-- Numbers below 32 as a mask. -/
def maskOf (l : List Nat) : Nat := l.foldl (fun m i => putBit m i true) 0

/-- Interlocks at the main die (R443): told when they open and when they close; in ACTIVE and ORPHAN, SAFESTOP acts. -/
def State.interlocks (s : State) (acts : Bool) : State :=
  let now := s.openMirrored 1
  let told := s.fld.openI
  let acted := if acts then s.fld.mainI else 0
  let s := s.setFld ({ · with openI := maskOf now, mainI := if acts then maskOf now else 0 })
  let s := s.each (now.filter (fun i => !bit told i)) (fun i s =>
    ((s.put Reg.FLD_DI_EVT.INTERLOCK 1).pmcAdd 462).post (ev Code.ST_FLD_INTERLOCK srcFLD i))
  let s := s.each ((bitList 12 told).filter (fun i => !now.contains i)) (fun i s =>
    s.post (ev Code.ST_FLD_INTERLOCK_CLEAR srcFLD i))
  s.when (acts && now.any (fun i => !bit acted i && s.flag (Reg.FLD_DI_CFG.SAFESTOP i))) (State.safeStop Code.ST_FLD_INTERLOCK)

/-- Web breaks at the main die (R443): told, and in ACTIVE and ORPHAN a Safe-stop cause. -/
def State.webBreaks (s : State) (acts : Bool) : State :=
  let now := s.openMirrored 2
  let told := s.fld.openB
  let acted := if acts then s.fld.mainB else 0
  let s := s.setFld ({ · with openB := maskOf now, mainB := if acts then maskOf now else 0 })
  let s := s.each (now.filter (fun i => !bit told i)) (fun i s =>
    ((s.put Reg.FLD_DI_EVT.WEB_BREAK 1).pmcAdd 463).post (ev Code.ST_FLD_WEB_BREAK srcFLD i))
  s.when (acts && now.any (fun i => !bit acted i)) (State.safeStop Code.ST_FLD_WEB_BREAK)

/-- IN_STATE arrives at the main die (R441, R443). -/
def execInState (s : State) : Host.Outcome State Fault Refusal :=
  .next (
    if !s.awake || !s.fieldOn then s
    else
      let f := s.fld
      let chg := (f.level ^^^ s.get Reg.FLD_DI_STS.LEVEL) % 2 ^ 12
      let s := (s.put Reg.FLD_DI_STS.LEVEL f.level).put Reg.FLD_DI_STS.BAND f.band
      let s := (s.put Reg.FLD_DI_EVT.CHG (s.get Reg.FLD_DI_EVT.CHG ||| chg)).pmcAdd 460 (bitList 12 chg).length
      let acts := f.state = .active || f.state = .orphan
      (s.interlocks acts).webBreaks acts)

/-- No BCN_F for 480 µs (R428, R336): the field die is lost, and a primary hands over. -/
def execStFldLost (s : State) : Host.Outcome State Fault Refusal :=
  let silent : Bool := match s.fld.lastF with
    | some t => decide (t + 1920000 ≤ s.now)
    | none => false
  .next (
    if s.fld.lost || !silent || !s.awake then s
    else
      let s := s.setFld ({ · with lost := true })
      let s := ((s.put Reg.FLD_EVT.LOST 1).put Reg.FLD_STS.STATE 0).timeLock false
      (s.post (ev Code.ST_FLD_LOST srcFLD)).handOver)

end Sys2Proof.Machine
end

