-- ==== Sys2Proof/Machine/Health.lean ====
section
/-! DEFINITION. HEALTH statuses (R199, R206, R220, R295, R333, R502). -/

namespace Sys2Proof.Machine

/-- HP_HEAD_TEMP, HP_HEAD_STATE and the head counts mirror the last HEALTH. -/
def State.mirrorHealth (p : Nat) (h : HealthStatus) (s : State) : State :=
  let s := s.each (List.range 4) (fun i s => s.putI (Reg.HP_HEAD_TEMP.TEMP p i) (h.temps.getD i 0))
  let s := s.each (List.range 8) (fun i s => s.put (Reg.HP_HEAD_CNT.CNT p i) (h.counts.getD i 0))
  let s := (s.put (Reg.HP_HEAD_STATE.HSEQ p) h.seq).putB (Reg.HP_HEAD_STATE.FAULT p) h.fault
  let s := (s.put (Reg.HP_HEAD_STATE.CAP p) h.cap).put (Reg.HP_HEAD_STATE.MODE p) h.mode
  s.putB (Reg.HP_LINK_STS.HEAD_TSRC p) h.tsrc

/-- T_head: the mean of the four temperatures over the last 64 statuses, and T_cal at the first one while UP; the temperature cause of
R295. -/
def State.headTemp (p : Nat) (h : HealthStatus) (s : State) : State :=
  let l := (h.temps.sum :: (s.cal.thead.lookup p).getD []).take 64
  let s := s.setCal (fun c => { c with thead := Sparse.insert p l c.thead })
  let s := s.putI (Reg.CAL_PORT_TEMP.THEAD p) (divOpen l.sum (4 * l.length))
  let s := s.when (s.portUp p && !s.cal.tcal.contains p) (fun s =>
    (s.setCal (fun c => { c with tcal := p :: c.tcal })).put (Reg.CAL_PORT_TEMP.TCAL p) (s.get (Reg.CAL_PORT_TEMP.THEAD p)))
  let dt := s.get Reg.CAL_TRIG.DT
  let far := dt ≤ (s.getI (Reg.CAL_PORT_TEMP.THEAD p) - s.getI (Reg.CAL_PORT_TEMP.TCAL p)).natAbs
  s.when (dt ≠ 0 && s.cal.tcal.contains p && far) (·.calDue p 1)

/-- A head above THM_HEAD_LIM is told once until it is 5 °C below on every sensor (R502). -/
def State.headHeat (p : Nat) (h : HealthStatus) (s : State) : State :=
  let lim := s.getI Reg.THM_HEAD_LIM.LIM
  let told := s.pwr.headHot.contains p
  if h.temps.any (fun t => lim < t) then
    (if told then s
    else
      let s := { s with pwr := { s.pwr with headHot := p :: s.pwr.headHot } }
      (s.put Reg.THM_EVT.HEAD_HOT 1).post (ev Code.ST_THM_HEAD_HOT srcTHM none none (s.dataPort p)))
  else if told && h.temps.all (fun t => t ≤ lim - 80) then
    { s with pwr := { s.pwr with headHot := s.pwr.headHot.filter (· ≠ p) } }
  else s

/-- Eight increments of the head's CRC count since its last HEALTH, 1 ms ago, are a burst (R220). -/
def State.headCrc (p : Nat) (h : HealthStatus) (s : State) : State :=
  let now := h.counts.getD 0 0
  let burst : Bool := match (s.port p).headCrc with
    | some c => decide (8 ≤ (now + 2 ^ 16 - c) % 2 ^ 16)
    | none => false
  (s.setPort p ({ · with headCrc := some now })).when burst (·.crcBurst p)

def execHpHealth (port : Nat) (h : HealthStatus) (s : State) : Host.Outcome State Fault Refusal :=
  .next (
    let st := s.get (Reg.HP_LINK_STS.STATE port)
    if 96 ≤ port || st < 7 || 8 < st || s.flag (Reg.HP_LINK_STS.HEAD_TX_TWI port) then s
    else
      let s := s.mirrorHealth port h
      let s := s.setPort port (fun x => { x with lastHealth := some s.now, fatal := x.fatal && h.fault })
      let s := ((s.headCrc port h).headTemp port h).headHeat port h
      (s.headLocked port h.locked).confirmBy port h.tsrc)

end Sys2Proof.Machine
end

