-- ==== Sys2Proof/Machine/Dispatch.lean ====
section
/-! DEFINITION. One arm per command: the direct call of its meaning. -/

namespace Sys2Proof.Machine

/-- The effect of a command on everything but the queue. -/
def exec (i : Instr) (s : State) : Host.Outcome State Fault Refusal :=
  match i with
  | .registerWrite slot bar off size data => Sys2Proof.Machine.execRegisterWrite slot bar off size data s
  | .loReadSnapshot slot off => Sys2Proof.Machine.execLoReadSnapshot slot off s
  | .loWriteBuffer slot off data => Sys2Proof.Machine.execLoWriteBuffer slot off data s
  | .hiWriteCommit slot off data => Sys2Proof.Machine.execHiWriteCommit slot off data s
  | .rcReadClear slot bar off size => Sys2Proof.Machine.execRcReadClear slot bar off size s
  | .debugWindowRead slot off size hit => Sys2Proof.Machine.execDebugWindowRead slot off size hit s
  | .debugWindowWrite slot off size data => Sys2Proof.Machine.execDebugWindowWrite slot off size data s
  | .merSet slot hi => Sys2Proof.Machine.execMerSet slot hi s
  | .ptmDialogue root => Sys2Proof.Machine.execPtmDialogue root s
  | .stationTimeExchange lane xid t1 far t4 => Sys2Proof.Machine.execStationTimeExchange lane xid t1 far t4 s
  | .stMerHoldover => Sys2Proof.Machine.execStMerHoldover s
  | .stMerHoldLimit => Sys2Proof.Machine.execStMerHoldLimit s
  | .encoderCount input edge => Sys2Proof.Machine.execEncoderCount input edge s
  | .quadratureError input => Sys2Proof.Machine.execQuadratureError input s
  | .encCheckCompare => Sys2Proof.Machine.execEncCheckCompare s
  | .encoderIndex input => Sys2Proof.Machine.execEncoderIndex input s
  | .encoutMCommit slot data => Sys2Proof.Machine.execEncoutMCommit slot data s
  | .edgeReport boundary => Sys2Proof.Machine.execEdgeReport boundary s
  | .edgeReportReceive channel rpt arrival => Sys2Proof.Machine.execEdgeReportReceive channel rpt arrival s
  | .reportStale channel boundary => Sys2Proof.Machine.execReportStale channel boundary s
  | .troikaVote boundary => Sys2Proof.Machine.execTroikaVote boundary s
  | .barUpdateCommit slot data => Sys2Proof.Machine.execBarUpdateCommit slot data s
  | .trkSelftest slot channels => Sys2Proof.Machine.execTrkSelftest slot channels s
  | .trkSelftestDone channel replayMatches => Sys2Proof.Machine.execTrkSelftestDone channel replayMatches s
  | .trkShadowEnd channel => Sys2Proof.Machine.execTrkShadowEnd channel s
  | .stLateWork port row line => Sys2Proof.Machine.execStLateWork port row line s
  | .job ring geom => Sys2Proof.Machine.execJob ring geom s
  | .page ring table => Sys2Proof.Machine.execPage ring table s
  | .pageReplaceDecision ring boundary table => Sys2Proof.Machine.execPageReplaceDecision ring boundary table s
  | .bandDispatch => Sys2Proof.Machine.execBandDispatch s
  | .bandComplete channel stream => Sys2Proof.Machine.execBandComplete channel stream s
  | .chainStart boundary indexTe => Sys2Proof.Machine.execChainStart boundary indexTe s
  | .chainEnd => Sys2Proof.Machine.execChainEnd s
  | .screenPreloadDone set badCopies => Sys2Proof.Machine.execScreenPreloadDone set badCopies s
  | .segmentFetch engine row line => Sys2Proof.Machine.execSegmentFetch engine row line s
  | .tickReadComplete engine row line uncorrectable => Sys2Proof.Machine.execTickReadComplete engine row line uncorrectable s
  | .engineLineCompute engine row line => Sys2Proof.Machine.execEngineLineCompute engine row line s
  | .xwebUpdateCommit slot data => Sys2Proof.Machine.execXwebUpdateCommit slot data s
  | .trimTempUpdateCommit slot data => Sys2Proof.Machine.execTrimTempUpdateCommit slot data s
  | .fabMapCommit slot data => Sys2Proof.Machine.execFabMapCommit slot data s
  | .fabMoveCommit slot data => Sys2Proof.Machine.execFabMoveCommit slot data s
  | .fabMoveLoadDone badRows => Sys2Proof.Machine.execFabMoveLoadDone badRows s
  | .spotCheck block line finished matched => Sys2Proof.Machine.execSpotCheck block line finished matched s
  | .seSelftest slot engine => Sys2Proof.Machine.execSeSelftest slot engine s
  | .seSelftestDone engine pass => Sys2Proof.Machine.execSeSelftestDone engine pass s
  | .seSelftestTimeout engine => Sys2Proof.Machine.execSeSelftestTimeout engine s
  | .smpUpdate ring => Sys2Proof.Machine.execSmpUpdate ring s
  | .recordDelivery seq => Sys2Proof.Machine.execRecordDelivery seq s
  | .smpLoad slot first count => Sys2Proof.Machine.execSmpLoad slot first count s
  | .smpSave slot first count => Sys2Proof.Machine.execSmpSave slot first count s
  | .smpXferDone bytes => Sys2Proof.Machine.execSmpXferDone bytes s
  | .smpPeek slot data => Sys2Proof.Machine.execSmpPeek slot data s
  | .hpPortEnable slot port on => Sys2Proof.Machine.execHpPortEnable slot port on s
  | .hpBringupStep port obs => Sys2Proof.Machine.execHpBringupStep port obs s
  | .hpBringupTimeout port => Sys2Proof.Machine.execHpBringupTimeout port s
  | .hpRetryTimer port => Sys2Proof.Machine.execHpRetryTimer port s
  | .hpSignalLoss lane => Sys2Proof.Machine.execHpSignalLoss lane s
  | .hpContinue slot port => Sys2Proof.Machine.execHpContinue slot port s
  | .hpRetrain slot port => Sys2Proof.Machine.execHpRetrain slot port s
  | .hpFlush slot port => Sys2Proof.Machine.execHpFlush slot port s
  | .hpTxTwi slot port on => Sys2Proof.Machine.execHpTxTwi slot port on s
  | .hpHeadTxTwi slot port on => Sys2Proof.Machine.execHpHeadTxTwi slot port on s
  | .hpSkip lane => Sys2Proof.Machine.execHpSkip lane s
  | .hpSkipReceive link lane fill => Sys2Proof.Machine.execHpSkipReceive link lane fill s
  | .hpBeacon port => Sys2Proof.Machine.execHpBeacon port s
  | .hpTtReq port => Sys2Proof.Machine.execHpTtReq port s
  | .hpTtRsp port xid => Sys2Proof.Machine.execHpTtRsp port xid s
  | .hpTime port st => Sys2Proof.Machine.execHpTime port st s
  | .hpTimeStatusTimeout port xid => Sys2Proof.Machine.execHpTimeStatusTimeout port xid s
  | .hpIdent port id => Sys2Proof.Machine.execHpIdent port id s
  | .hpHealth port h => Sys2Proof.Machine.execHpHealth port h s
  | .hpAck port cmdId op result => Sys2Proof.Machine.execHpAck port cmdId op result s
  | .hpFault port code fatal detail => Sys2Proof.Machine.execHpFault port code fatal detail s
  | .hpSensePacket port pkt => Sys2Proof.Machine.execHpSensePacket port pkt s
  | .hpUplinkDiscard port packet => Sys2Proof.Machine.execHpUplinkDiscard port packet s
  | .hpBlockLockLoss lane blocks seen => Sys2Proof.Machine.execHpBlockLockLoss lane blocks seen s
  | .hpHealthTimeout port => Sys2Proof.Machine.execHpHealthTimeout port s
  | .hpAckTimeout port cmdId => Sys2Proof.Machine.execHpAckTimeout port cmdId s
  | .linePacketSend port => Sys2Proof.Machine.execLinePacketSend port s
  | .hpTapLoad port row => Sys2Proof.Machine.execHpTapLoad port row s
  | .hpHeadMode slot port data => Sys2Proof.Machine.execHpHeadMode slot port data s
  | .refClockLoss ref => Sys2Proof.Machine.execRefClockLoss ref s
  | .refClockRestore ref => Sys2Proof.Machine.execRefClockRestore ref s
  | .lTxeqWrite slot lane data => Sys2Proof.Machine.execLTxeqWrite slot lane data s
  | .eyeGo slot lane => Sys2Proof.Machine.execEyeGo slot lane s
  | .eyeMeasureDone lane ew eh => Sys2Proof.Machine.execEyeMeasureDone lane ew eh s
  | .eyePeriodic lane => Sys2Proof.Machine.execEyePeriodic lane s
  | .reeq slot lane => Sys2Proof.Machine.execReeq slot lane s
  | .reeqDone lane ew eh found => Sys2Proof.Machine.execReeqDone lane ew eh found s
  | .bitslip slot lane => Sys2Proof.Machine.execBitslip slot lane s
  | .loop slot lane mode => Sys2Proof.Machine.execLoop slot lane mode s
  | .prbsGenEn slot lane on => Sys2Proof.Machine.execPrbsGenEn slot lane on s
  | .laneSelftest slot lane => Sys2Proof.Machine.execLaneSelftest slot lane s
  | .laneSelftestRun lane => Sys2Proof.Machine.execLaneSelftestRun lane s
  | .laneSelftestDone lane step => Sys2Proof.Machine.execLaneSelftestDone lane step s
  | .announce link => Sys2Proof.Machine.execAnnounce link s
  | .announceReceive link role ceil serial => Sys2Proof.Machine.execAnnounceReceive link role ceil serial s
  | .announceTimeout link => Sys2Proof.Machine.execAnnounceTimeout link s
  | .chan lane ch seq b1 => Sys2Proof.Machine.execChan lane ch seq b1 s
  | .stPeerCrcBurst link packets => Sys2Proof.Machine.execStPeerCrcBurst link packets s
  | .peerRetryTimer link => Sys2Proof.Machine.execPeerRetryTimer link s
  | .camPortEnable slot port data => Sys2Proof.Machine.execCamPortEnable slot port data s
  | .camDiscoveryDone port found reached => Sys2Proof.Machine.execCamDiscoveryDone port found reached s
  | .retry slot port => Sys2Proof.Machine.execRetry slot port s
  | .stCamLinkDown port => Sys2Proof.Machine.execStCamLinkDown port s
  | .send slot port data => Sys2Proof.Machine.execSend slot port data s
  | .stCamCcDone port bytes ok => Sys2Proof.Machine.execStCamCcDone port bytes ok s
  | .stCamCcTimeout port => Sys2Proof.Machine.execStCamCcTimeout port s
  | .stCamEvent port bytes => Sys2Proof.Machine.execStCamEvent port bytes s
  | .cameraTrigger port => Sys2Proof.Machine.execCameraTrigger port s
  | .cameraLineReceive port arrival head pixels crcErrors full => Sys2Proof.Machine.execCameraLineReceive port arrival head pixels crcErrors full s
  | .lineWindowClose port => Sys2Proof.Machine.execLineWindowClose port s
  | .statsRecordWrite => Sys2Proof.Machine.execStatsRecordWrite s
  | .capture ring => Sys2Proof.Machine.execCapture ring s
  | .stats ring => Sys2Proof.Machine.execStats ring s
  | .setload ring bytes => Sys2Proof.Machine.execSetload ring bytes s
  | .replay ring bytes => Sys2Proof.Machine.execReplay ring bytes s
  | .setCameraWrites port slot => Sys2Proof.Machine.execSetCameraWrites port slot s
  | .calAgeDue port => Sys2Proof.Machine.execCalAgeDue port s
  | .run ring => Sys2Proof.Machine.execRun ring s
  | .gutter ring => Sys2Proof.Machine.execGutter ring s
  | .calRunStart => Sys2Proof.Machine.execCalRunStart s
  | .calBatchForm port => Sys2Proof.Machine.execCalBatchForm port s
  | .calCellMeasure batch cell gn slot => Sys2Proof.Machine.execCalCellMeasure batch cell gn slot s
  | .calPassEnd batch => Sys2Proof.Machine.execCalPassEnd batch s
  | .stop slot data => Sys2Proof.Machine.execStop slot data s
  | .stCalTimeout => Sys2Proof.Machine.execStCalTimeout s
  | .go slot data => Sys2Proof.Machine.execGo slot data s
  | .calLaneSweep => Sys2Proof.Machine.execCalLaneSweep s
  | .pair step => Sys2Proof.Machine.execPair step s
  | .pairResult peer => Sys2Proof.Machine.execPairResult peer s
  | .unpair slot => Sys2Proof.Machine.execUnpair slot s
  | .detach slot => Sys2Proof.Machine.execDetach slot s
  | .swap slot => Sys2Proof.Machine.execSwap slot s
  | .hb => Sys2Proof.Machine.execHb s
  | .hbIn width => Sys2Proof.Machine.execHbIn width s
  | .stDuePathLoss => Sys2Proof.Machine.execStDuePathLoss s
  | .stDueRevert => Sys2Proof.Machine.execStDueRevert s
  | .stDuePeerLost => Sys2Proof.Machine.execStDuePeerLost s
  | .duetOwnRaise axis => Sys2Proof.Machine.execDuetOwnRaise axis s
  | .timing tk ownDie reports stale => Sys2Proof.Machine.execTiming tk ownDie reports stale s
  | .stDueTimingLocal boundary => Sys2Proof.Machine.execStDueTimingLocal boundary s
  | .order order => Sys2Proof.Machine.execOrder order s
  | .state => Sys2Proof.Machine.execState s
  | .stateCopyReceive items => Sys2Proof.Machine.execStateCopyReceive items s
  | .duetNakTimeout => Sys2Proof.Machine.execDuetNakTimeout s
  | .digest port lines => Sys2Proof.Machine.execDigest port lines s
  | .digestGateTimeout => Sys2Proof.Machine.execDigestGateTimeout s
  | .allemandeStart ts => Sys2Proof.Machine.execAllemandeStart ts s
  | .allemandeSwapPoint => Sys2Proof.Machine.execAllemandeSwapPoint s
  | .stDueAllemande => Sys2Proof.Machine.execStDueAllemande s
  | .handover => Sys2Proof.Machine.execHandover s
  | .reg off tag write data => Sys2Proof.Machine.execReg off tag write data s
  | .claim slot => Sys2Proof.Machine.execClaim slot s
  | .release slot => Sys2Proof.Machine.execRelease slot s
  | .ownHandover slot target => Sys2Proof.Machine.execOwnHandover slot target s
  | .devOwnHb slot => Sys2Proof.Machine.execDevOwnHb slot s
  | .leaseCheck => Sys2Proof.Machine.execLeaseCheck s
  | .ringEnable slot ring data => Sys2Proof.Machine.execRingEnable slot ring data s
  | .dbProd port ring value => Sys2Proof.Machine.execDbProd port ring value s
  | .dbHcons port ring value => Sys2Proof.Machine.execDbHcons port ring value s
  | .dbAbortRing port ring value => Sys2Proof.Machine.execDbAbortRing port ring value s
  | .dbAbortDevice port ring value => Sys2Proof.Machine.execDbAbortDevice port ring value s
  | .devAbort slot data => Sys2Proof.Machine.execDevAbort slot data s
  | .stRingAborted ring => Sys2Proof.Machine.execStRingAborted ring s
  | .descriptorFetch ring bytes => Sys2Proof.Machine.execDescriptorFetch ring bytes s
  | .stRingFetchErr ring => Sys2Proof.Machine.execStRingFetchErr ring s
  | .cqResume ring => Sys2Proof.Machine.execCqResume ring s
  | .msixModerationTimer ring => Sys2Proof.Machine.execMsixModerationTimer ring s
  | .stPortReset port => Sys2Proof.Machine.execStPortReset port s
  | .mbxGo slot => Sys2Proof.Machine.execMbxGo slot s
  | .stMbxReply version log sensors => Sys2Proof.Machine.execStMbxReply version log sensors s
  | .stMbxTimeout => Sys2Proof.Machine.execStMbxTimeout s
  | .devPeerGo slot data => Sys2Proof.Machine.execDevPeerGo slot data s
  | .peerRegAnswer tag data status => Sys2Proof.Machine.execPeerRegAnswer tag data status s
  | .stPeerRegFail tag => Sys2Proof.Machine.execStPeerRegFail tag s
  | .bar4Read port off size => Sys2Proof.Machine.execBar4Read port off size s
  | .deflate ring src ctxLost => Sys2Proof.Machine.execDeflate ring src ctxLost s
  | .inflate ring src ctxLost => Sys2Proof.Machine.execInflate ring src ctxLost s
  | .zipRingWrite slot ring data => Sys2Proof.Machine.execZipRingWrite slot ring data s
  | .memPopWrite data => Sys2Proof.Machine.execMemPopWrite data s
  | .dramTraining step => Sys2Proof.Machine.execDramTraining step s
  | .refresh => Sys2Proof.Machine.execRefresh s
  | .refreshRatePoll ranks => Sys2Proof.Machine.execRefreshRatePoll ranks s
  | .powerDownTimer mc rank => Sys2Proof.Machine.execPowerDownTimer mc rank s
  | .writeTracking corrections => Sys2Proof.Machine.execWriteTracking corrections s
  | .mcRetrain mc step => Sys2Proof.Machine.execMcRetrain mc step s
  | .stMemCe e => Sys2Proof.Machine.execStMemCe e s
  | .memFreeze x => Sys2Proof.Machine.execMemFreeze x s
  | .patrolScrub hits => Sys2Proof.Machine.execPatrolScrub hits s
  | .mcPgGo mc data mask errors => Sys2Proof.Machine.execMcPgGo mc data mask errors s
  | .mcMraGo mc data answer => Sys2Proof.Machine.execMcMraGo mc data answer s
  | .bcnM err accepted => Sys2Proof.Machine.execBcnM err accepted s
  | .bcnF rtt => Sys2Proof.Machine.execBcnF rtt s
  | .stFldLost => Sys2Proof.Machine.execStFldLost s
  | .mainDieLost => Sys2Proof.Machine.execMainDieLost s
  | .cfgCommit slot off data => Sys2Proof.Machine.execCfgCommit slot off data s
  | .cfgAck index crc => Sys2Proof.Machine.execCfgAck index crc s
  | .cfgAckTimeout => Sys2Proof.Machine.execCfgAckTimeout s
  | .arm slot => Sys2Proof.Machine.execArm slot s
  | .outSet slot data => Sys2Proof.Machine.execOutSet slot data s
  | .outState readback => Sys2Proof.Machine.execOutState readback s
  | .statusReq slot => Sys2Proof.Machine.execStatusReq slot s
  | .latchClr slot data => Sys2Proof.Machine.execLatchClr slot data s
  | .outputLatch output overcurrent => Sys2Proof.Machine.execOutputLatch output overcurrent s
  | .safe24Undervoltage => Sys2Proof.Machine.execSafe24Undervoltage s
  | .safe24Restore high band => Sys2Proof.Machine.execSafe24Restore high band s
  | .diChange input zone => Sys2Proof.Machine.execDiChange input zone s
  | .inState => Sys2Proof.Machine.execInState s
  | .encLineFault inst => Sys2Proof.Machine.execEncLineFault inst s
  | .spdSet => Sys2Proof.Machine.execSpdSet s
  | .replayCmd channel => Sys2Proof.Machine.execReplayCmd channel s
  | .uartRx bytes => Sys2Proof.Machine.execUartRx bytes s
  | .barrierFrameDiscard frame => Sys2Proof.Machine.execBarrierFrameDiscard frame s
  | .fieldFault code inst detail => Sys2Proof.Machine.execFieldFault code inst detail s
  | .fieldHealth temp v24 i24 => Sys2Proof.Machine.execFieldHealth temp v24 i24 s
  | .axEnable slot ax => Sys2Proof.Machine.execAxEnable slot ax s
  | .axDisable slot ax => Sys2Proof.Machine.execAxDisable slot ax s
  | .axStart slot ax first last => Sys2Proof.Machine.execAxStart slot ax first last s
  | .axGoto slot ax => Sys2Proof.Machine.execAxGoto slot ax s
  | .axMoveStop slot ax => Sys2Proof.Machine.execAxMoveStop slot ax s
  | .axResume slot ax => Sys2Proof.Machine.execAxResume slot ax s
  | .axSetPos slot ax => Sys2Proof.Machine.execAxSetPos slot ax s
  | .axTarget slot ax data => Sys2Proof.Machine.execAxTarget slot ax data s
  | .axRemainSet ax value => Sys2Proof.Machine.execAxRemainSet ax value s
  | .motionControlTick enc sense => Sys2Proof.Machine.execMotionControlTick enc sense s
  | .stMotStall ax => Sys2Proof.Machine.execStMotStall ax s
  | .stMotFollow ax => Sys2Proof.Machine.execStMotFollow ax s
  | .stMotCoil ax coil => Sys2Proof.Machine.execStMotCoil ax coil s
  | .brakeDelay ax => Sys2Proof.Machine.execBrakeDelay ax s
  | .holdDelay ax => Sys2Proof.Machine.execHoldDelay ax s
  | .motionDescriptor ring => Sys2Proof.Machine.execMotionDescriptor ring s
  | .modeRequest slot req => Sys2Proof.Machine.execModeRequest slot req s
  | .modePendingComplete => Sys2Proof.Machine.execModePendingComplete s
  | .derateChange => Sys2Proof.Machine.execDerateChange s
  | .mode ring => Sys2Proof.Machine.execMode ring s
  | .spit ring rows => Sys2Proof.Machine.execSpit ring rows s
  | .devReset slot data => Sys2Proof.Machine.execDevReset slot data s
  | .resetNAssert => Sys2Proof.Machine.execResetNAssert s
  | .resetNRelease straps => Sys2Proof.Machine.execResetNRelease straps s
  | .supplyFault rail => Sys2Proof.Machine.execSupplyFault rail s
  | .supplyFaultRelease recovery => Sys2Proof.Machine.execSupplyFaultRelease recovery s
  | .perstAssert port => Sys2Proof.Machine.execPerstAssert port s
  | .pwrBootGo slot => Sys2Proof.Machine.execPwrBootGo slot s
  | .bootImageVerify image => Sys2Proof.Machine.execBootImageVerify image s
  | .stBootDone => Sys2Proof.Machine.execStBootDone s
  | .pwrDomReq slot data => Sys2Proof.Machine.execPwrDomReq slot data s
  | .domainSwitchDone => Sys2Proof.Machine.execDomainSwitchDone s
  | .thermalSample readings => Sys2Proof.Machine.execThermalSample readings s
  | .sensorTestStep sensor moved => Sys2Proof.Machine.execSensorTestStep sensor moved s
  | .thermalLevelFall => Sys2Proof.Machine.execThermalLevelFall s
  | .powerLevelEval dynamic leakage rest => Sys2Proof.Machine.execPowerLevelEval dynamic leakage rest s
  | .pwrLevelReq slot data => Sys2Proof.Machine.execPwrLevelReq slot data s
  | .stPwrSurgeEnd => Sys2Proof.Machine.execStPwrSurgeEnd s
  | .surgeUnbar => Sys2Proof.Machine.execSurgeUnbar s
  | .vrAck vsense => Sys2Proof.Machine.execVrAck vsense s
  | .stPwrVrFail => Sys2Proof.Machine.execStPwrVrFail s
  | .vrAlert status => Sys2Proof.Machine.execVrAlert status s
  | .vrPgoodLoss => Sys2Proof.Machine.execVrPgoodLoss s
  | .sramEccHit hit => Sys2Proof.Machine.execSramEccHit hit s
  | .sramRegionTestDone mem region failingRows => Sys2Proof.Machine.execSramRegionTestDone mem region failingRows s
  | .sramScrub hits => Sys2Proof.Machine.execSramScrub hits s
  | .stErrLockstep unit => Sys2Proof.Machine.execStErrLockstep unit s
  | .svcLoadWindow load classAWaited => Sys2Proof.Machine.execSvcLoadWindow load classAWaited s
  | .snap slot => Sys2Proof.Machine.execSnap slot s
  | .clear slot => Sys2Proof.Machine.execClear slot s
  | .clearLog slot => Sys2Proof.Machine.execClearLog slot s
  | .peerBringupStep link obs => Sys2Proof.Machine.execPeerBringupStep link obs s
  | .peerBringupTimeout link => Sys2Proof.Machine.execPeerBringupTimeout link s
  | .hpTwiEnter port => Sys2Proof.Machine.execHpTwiEnter port s
  | .timeLockClear => Sys2Proof.Machine.execTimeLockClear s
  | .zipDescriptorDone channel written => Sys2Proof.Machine.execZipDescriptorDone channel written s
  | .stDueAllemSkip => Sys2Proof.Machine.execStDueAllemSkip s
  | .allemandeCancel => Sys2Proof.Machine.execAllemandeCancel s
  | .perstRelease port => Sys2Proof.Machine.execPerstRelease port s

end Sys2Proof.Machine
end

