-- ==== Sys2Proof/Machine/Tick.lean ====
section
/-! DEFINITION. What passes with time when no command waits: one cycle of the 1 GHz Meridian PLL (R37), with what the spec ties to its
clock (R525) or to the millisecond (SE_LOAD), to four blocks of a link (R236), the PRBS checkers' bits (R240), the packets that wait for
a link (R208, R252), the memory path's lines (R276) and DRAM's queued writes (R402). -/

namespace Sys2Proof.Machine

/-- The rate in force, in 2^-40 (R37, R40, R319). -/
def State.rate (s : State) : Int :=
  if s.get Reg.MER_CTRL.ROLE = 2 || s.disciplined then s.tb.loopRate else signed 32 (s.get Reg.MER_RATE.ADJ)

/-- One cycle of the Meridian counter: 4 × (1 + ADJ × 2^-40) mt, the fraction in its 40-bit accumulator (R37). A new clock has seen no
event yet (R8). -/
def State.meridian (s : State) : State :=
  let n := ((s.tb.frac : Int) + 4 * (2 ^ 40 + s.rate)).toNat
  { s.setTb ({ · with frac := n % 2 ^ 40 }) with now := s.now + n / 2 ^ 40, fresh := [], tally := {} }

/-- The counters of conditions that the registers show, and that hold now (the table "Counter list"). -/
def State.levels (s : State) : List Nat :=
  let busy := s.get Reg.ZIP_STS.PAGE_BUSY ||| s.get Reg.ZIP_STS.RING_BUSY
  (s.eng.busyTo.filter (s.now < ·.2)).map (·.1)
    ++ (s.dram.subs.filter (s.now < ·.2.freeAt)).map (336 + ·.1)
    ++ (bitList 8 busy).map (368 + ·)
    ++ (if s.flag Reg.TRK_STS.CRAWL then [382] else [])
    ++ (if s.flag Reg.TRK_STS.REVERSE then [383] else [])
    ++ (if s.get Reg.ERR_STS.SHED ≠ 0 then [432] else [])
    ++ [440 + min (s.get Reg.PWR_LEVEL.IN_FORCE) 4]
    ++ (if s.mode = 7 then [445] else [])

/-- Such a counter adds 1 for the cycle in level mode, and 1 where its condition begins in edge mode (R525). -/
def State.countLevels (s : State) : State :=
  let l := s.levels
  let s' := s.each l (fun i s => if s.pmcIsLevel i then s.pmcAdd i else s.when (!s.err.levels.contains i) (·.pmcAdd i))
  { s' with err := { s'.err with levels := l } }

/-- SE_LOAD at the end of a 1 ms window: the share of engine clocks, Q1.15, and the highest since the last read. -/
def State.loadWindow (s : State) : State :=
  let work := s.eng.work
  let s := { s with eng := { s.eng with work := [] } }
  s.each ((List.range 64).filter (fun n => s.domOn (12 + n / 8))) (fun n s =>
    let load := min 65535 (divOpen ((work.lookup n).getD 0 * 32768 : Nat) (max 1 (1000 * s.engMHz))).toNat
    (s.put (Reg.SE_LOAD.LOAD n) load).put (Reg.SE_LOAD.PEAK n) (max load (s.get (Reg.SE_LOAD.PEAK n))))

/-- What waits for a link goes out as soon as it may (R208, R252). -/
def State.linksTick (s : State) : State :=
  let s := s.each ((s.ports.filter (fun e => e.2.hctl ≠ [])).map (·.1)) State.headDrain
  s.each ((s.peers.filter (fun e => e.2.queue ≠ [])).map (·.1)) State.peerDrain

/-- One cycle. -/
def State.tick (s : State) : State :=
  let s := s.tellStop
  let s' := s.meridian
  if !s.awake then s'
  else (((s'.when (s'.mode = 2) (·.bootStep.voutRead)).countLevels.settleSlips).prbsTick.linksTick.memPath.dramTick).when (s.now / 4000000 ≠ s'.now / 4000000) State.loadWindow

end Sys2Proof.Machine
end

