-- ==== Sys2Proof/WellFormed.lean ====
section
/-! DEFINITION. Which commands name what the block has: master slots (R345), PCIe ports, head ports, camera ports, rings, lanes, links,
engines, sub-channels, axes, channels and rows (R16 to R25). -/

namespace Sys2Proof

/-- Whether every instance that a command names exists. -/
def Instr.wf : Instr → Bool
  | .registerWrite slot bar _ _ _ => decide (slot < 4) && decide (bar < 3)
  | .loReadSnapshot slot _ => decide (slot < 4)
  | .loWriteBuffer slot _ _ => decide (slot < 4)
  | .hiWriteCommit slot _ _ => decide (slot < 4)
  | .rcReadClear slot bar _ _ => decide (slot < 4) && decide (bar < 3)
  | .debugWindowRead slot _ _ _ => decide (slot < 4)
  | .debugWindowWrite slot _ _ _ => decide (slot < 4)
  | .merSet slot _ => decide (slot < 4)
  | .ptmDialogue _ => true
  | .stationTimeExchange lane _ _ _ _ => decide (lane < 256)
  | .stMerHoldover => true
  | .stMerHoldLimit => true
  | .encoderCount input _ => decide (input < 2)
  | .quadratureError input => decide (input < 2)
  | .encCheckCompare => true
  | .encoderIndex input => decide (input < 2)
  | .encoutMCommit slot _ => decide (slot < 4)
  | .edgeReport _ => true
  | .edgeReportReceive channel _ _ => decide (channel < 3)
  | .reportStale channel _ => decide (channel < 3)
  | .troikaVote _ => true
  | .barUpdateCommit slot _ => decide (slot < 4)
  | .trkSelftest slot _ => decide (slot < 4)
  | .trkSelftestDone channel _ => decide (channel < 3)
  | .trkShadowEnd channel => decide (channel < 3)
  | .stLateWork port row _ => decide (port < 96) && decide (row < 1536)
  | .job ring _ => decide (ring < 256)
  | .page ring _ => decide (ring < 256)
  | .pageReplaceDecision ring _ _ => decide (ring < 256)
  | .bandDispatch => true
  | .bandComplete channel _ => decide (channel < 8)
  | .chainStart _ _ => true
  | .chainEnd => true
  | .screenPreloadDone _ _ => true
  | .segmentFetch engine row _ => decide (engine < 64) && decide (row < 1536)
  | .tickReadComplete engine row _ _ => decide (engine < 64) && decide (row < 1536)
  | .engineLineCompute engine row _ => decide (engine < 64) && decide (row < 1536)
  | .xwebUpdateCommit slot _ => decide (slot < 4)
  | .trimTempUpdateCommit slot _ => decide (slot < 4)
  | .fabMapCommit slot _ => decide (slot < 4)
  | .fabMoveCommit slot _ => decide (slot < 4)
  | .fabMoveLoadDone _ => true
  | .spotCheck block _ _ _ => decide (block < 4608)
  | .seSelftest slot engine => decide (slot < 4) && decide (engine < 64)
  | .seSelftestDone engine _ => decide (engine < 64)
  | .seSelftestTimeout engine => decide (engine < 64)
  | .smpUpdate ring => decide (ring < 256)
  | .recordDelivery _ => true
  | .smpLoad slot _ _ => decide (slot < 4)
  | .smpSave slot _ _ => decide (slot < 4)
  | .smpXferDone _ => true
  | .smpPeek slot _ => decide (slot < 4)
  | .hpPortEnable slot port _ => decide (slot < 4) && decide (port < 96)
  | .hpBringupStep port _ => decide (port < 96)
  | .hpBringupTimeout port => decide (port < 96)
  | .hpRetryTimer port => decide (port < 96)
  | .hpSignalLoss lane => decide (lane < 256)
  | .hpContinue slot port => decide (slot < 4) && decide (port < 96)
  | .hpRetrain slot port => decide (slot < 4) && decide (port < 96)
  | .hpFlush slot port => decide (slot < 4) && decide (port < 96)
  | .hpTxTwi slot port _ => decide (slot < 4) && decide (port < 96)
  | .hpHeadTxTwi slot port _ => decide (slot < 4) && decide (port < 96)
  | .hpSkip lane => decide (lane < 256)
  | .hpSkipReceive link lane _ => decide (link < 105) && decide (lane < 8)
  | .hpBeacon port => decide (port < 96)
  | .hpTtReq port => decide (port < 96)
  | .hpTtRsp port _ => decide (port < 96)
  | .hpTime port _ => decide (port < 96)
  | .hpTimeStatusTimeout port _ => decide (port < 96)
  | .hpIdent port _ => decide (port < 96)
  | .hpHealth port _ => decide (port < 96)
  | .hpAck port _ _ _ => decide (port < 96)
  | .hpFault port _ _ _ => decide (port < 96)
  | .hpSensePacket port _ => decide (port < 96)
  | .hpUplinkDiscard port _ => decide (port < 96)
  | .hpBlockLockLoss lane _ _ => decide (lane < 256)
  | .hpHealthTimeout port => decide (port < 96)
  | .hpAckTimeout port _ => decide (port < 96)
  | .linePacketSend port => decide (port < 96)
  | .hpTapLoad port row => decide (port < 96) && decide (row < 16)
  | .hpHeadMode slot port _ => decide (slot < 4) && decide (port < 96)
  | .refClockLoss ref => decide (ref < 7)
  | .refClockRestore ref => decide (ref < 7)
  | .lTxeqWrite slot lane _ => decide (slot < 4) && decide (lane < 256)
  | .eyeGo slot lane => decide (slot < 4) && decide (lane < 256)
  | .eyeMeasureDone lane _ _ => decide (lane < 256)
  | .eyePeriodic lane => decide (lane < 256)
  | .reeq slot lane => decide (slot < 4) && decide (lane < 256)
  | .reeqDone lane _ _ _ => decide (lane < 256)
  | .bitslip slot lane => decide (slot < 4) && decide (lane < 256)
  | .loop slot lane _ => decide (slot < 4) && decide (lane < 256)
  | .prbsGenEn slot lane _ => decide (slot < 4) && decide (lane < 256)
  | .laneSelftest slot lane => decide (slot < 4) && decide (lane < 256)
  | .laneSelftestRun lane => decide (lane < 256)
  | .laneSelftestDone lane _ => decide (lane < 256)
  | .announce link => decide (link < 9)
  | .announceReceive link _ _ _ => decide (link < 9)
  | .announceTimeout link => decide (link < 9)
  | .chan lane _ _ _ => decide (lane < 256)
  | .stPeerCrcBurst link _ => decide (link < 9)
  | .peerRetryTimer link => decide (link < 9)
  | .camPortEnable slot port _ => decide (slot < 4) && decide (port < 8)
  | .camDiscoveryDone port _ _ => decide (port < 8)
  | .retry slot port => decide (slot < 4) && decide (port < 8)
  | .stCamLinkDown port => decide (port < 8)
  | .send slot port _ => decide (slot < 4) && decide (port < 8)
  | .stCamCcDone port _ _ => decide (port < 8)
  | .stCamCcTimeout port => decide (port < 8)
  | .stCamEvent port _ => decide (port < 8)
  | .cameraTrigger port => decide (port < 8)
  | .cameraLineReceive port _ _ _ _ _ => decide (port < 8)
  | .lineWindowClose port => decide (port < 8)
  | .statsRecordWrite => true
  | .capture ring => decide (ring < 256)
  | .stats ring => decide (ring < 256)
  | .setload ring _ => decide (ring < 256)
  | .replay ring _ => decide (ring < 256)
  | .setCameraWrites port slot => decide (port < 8) && decide (slot < 4)
  | .calAgeDue port => decide (port < 96)
  | .run ring => decide (ring < 256)
  | .gutter ring => decide (ring < 256)
  | .calRunStart => true
  | .calBatchForm port => decide (port < 96)
  | .calCellMeasure _ _ gn _ => decide (gn < 2359296)
  | .calPassEnd _ => true
  | .stop slot _ => decide (slot < 4)
  | .stCalTimeout => true
  | .go slot _ => decide (slot < 4)
  | .calLaneSweep => true
  | .pair _ => true
  | .pairResult _ => true
  | .unpair slot => decide (slot < 4)
  | .detach slot => decide (slot < 4)
  | .swap slot => decide (slot < 4)
  | .hb => true
  | .hbIn _ => true
  | .stDuePathLoss => true
  | .stDueRevert => true
  | .stDuePeerLost => true
  | .duetOwnRaise axis => decide (axis < 4)
  | .timing _ _ _ _ => true
  | .stDueTimingLocal _ => true
  | .order _ => true
  | .state => true
  | .stateCopyReceive _ => true
  | .duetNakTimeout => true
  | .digest port _ => decide (port < 96)
  | .digestGateTimeout => true
  | .allemandeStart _ => true
  | .allemandeSwapPoint => true
  | .stDueAllemande => true
  | .handover => true
  | .reg _ _ _ _ => true
  | .claim slot => decide (slot < 4)
  | .release slot => decide (slot < 4)
  | .ownHandover slot target => decide (slot < 4) && decide (target < 4)
  | .devOwnHb slot => decide (slot < 4)
  | .leaseCheck => true
  | .ringEnable slot ring _ => decide (slot < 4) && decide (ring < 256)
  | .dbProd port ring _ => decide (port < 2) && decide (ring < 256)
  | .dbHcons port ring _ => decide (port < 2) && decide (ring < 256)
  | .dbAbortRing port ring _ => decide (port < 2) && decide (ring < 256)
  | .dbAbortDevice port ring _ => decide (port < 2) && decide (ring < 256)
  | .devAbort slot _ => decide (slot < 4)
  | .stRingAborted ring => decide (ring < 256)
  | .descriptorFetch ring _ => decide (ring < 256)
  | .stRingFetchErr ring => decide (ring < 256)
  | .cqResume ring => decide (ring < 256)
  | .msixModerationTimer ring => decide (ring < 256)
  | .stPortReset port => decide (port < 2)
  | .mbxGo slot => decide (slot < 4)
  | .stMbxReply _ _ _ => true
  | .stMbxTimeout => true
  | .devPeerGo slot _ => decide (slot < 4)
  | .peerRegAnswer _ _ _ => true
  | .stPeerRegFail tag => decide (tag < 256)
  | .bar4Read port _ _ => decide (port < 2)
  | .deflate ring _ _ => decide (ring < 256)
  | .inflate ring _ _ => decide (ring < 256)
  | .zipRingWrite slot ring _ => decide (slot < 4) && decide (ring < 256)
  | .memPopWrite _ => true
  | .dramTraining _ => true
  | .refresh => true
  | .refreshRatePoll _ => true
  | .powerDownTimer mc _ => decide (mc < 16)
  | .writeTracking _ => true
  | .mcRetrain mc _ => decide (mc < 16)
  | .stMemCe _ => true
  | .memFreeze _ => true
  | .patrolScrub _ => true
  | .mcPgGo mc _ _ _ => decide (mc < 16)
  | .mcMraGo mc _ _ => decide (mc < 16)
  | .bcnM _ _ => true
  | .bcnF _ => true
  | .stFldLost => true
  | .mainDieLost => true
  | .cfgCommit slot _ _ => decide (slot < 4)
  | .cfgAck _ _ => true
  | .cfgAckTimeout => true
  | .arm slot => decide (slot < 4)
  | .outSet slot _ => decide (slot < 4)
  | .outState _ => true
  | .statusReq slot => decide (slot < 4)
  | .latchClr slot _ => decide (slot < 4)
  | .outputLatch output _ => decide (output < 8)
  | .safe24Undervoltage => true
  | .safe24Restore _ _ => true
  | .diChange input _ => decide (input < 12)
  | .inState => true
  | .encLineFault _ => true
  | .spdSet => true
  | .replayCmd channel => decide (channel < 3)
  | .uartRx _ => true
  | .barrierFrameDiscard f => f.channel < 7 && f.bits < 2 ^ 48
  | .fieldFault _ _ _ => true
  | .fieldHealth _ _ _ => true
  | .axEnable slot ax => decide (slot < 4) && decide (ax < 4)
  | .axDisable slot ax => decide (slot < 4) && decide (ax < 4)
  | .axStart slot ax _ _ => decide (slot < 4) && decide (ax < 4)
  | .axGoto slot ax => decide (slot < 4) && decide (ax < 4)
  | .axMoveStop slot ax => decide (slot < 4) && decide (ax < 4)
  | .axResume slot ax => decide (slot < 4) && decide (ax < 4)
  | .axSetPos slot ax => decide (slot < 4) && decide (ax < 4)
  | .axTarget slot ax _ => decide (slot < 4) && decide (ax < 4)
  | .axRemainSet ax _ => decide (ax < 4)
  | .motionControlTick _ _ => true
  | .stMotStall ax => decide (ax < 4)
  | .stMotFollow ax => decide (ax < 4)
  | .stMotCoil ax _ => decide (ax < 4)
  | .brakeDelay ax => decide (ax < 4)
  | .holdDelay ax => decide (ax < 4)
  | .motionDescriptor ring => decide (ring < 256)
  | .modeRequest slot req => decide (slot < 4) && decide (req < 16)
  | .modePendingComplete => true
  | .derateChange => true
  | .mode ring => decide (ring < 256)
  | .spit ring _ => decide (ring < 256)
  | .devReset slot _ => decide (slot < 4)
  | .resetNAssert => true
  | .resetNRelease _ => true
  | .supplyFault _ => true
  | .supplyFaultRelease _ => true
  | .perstAssert port => decide (port < 2)
  | .pwrBootGo slot => decide (slot < 4)
  | .bootImageVerify image => image.source < 3
  | .stBootDone => true
  | .pwrDomReq slot _ => decide (slot < 4)
  | .domainSwitchDone => true
  | .thermalSample _ => true
  | .sensorTestStep sensor _ => decide (sensor < 25)
  | .thermalLevelFall => true
  | .powerLevelEval _ _ _ => true
  | .pwrLevelReq slot _ => decide (slot < 4)
  | .stPwrSurgeEnd => true
  | .surgeUnbar => true
  | .vrAck _ => true
  | .stPwrVrFail => true
  | .vrAlert _ => true
  | .vrPgoodLoss => true
  | .sramEccHit _ => true
  | .sramRegionTestDone mem _ _ => decide (mem < 69)
  | .sramScrub _ => true
  | .stErrLockstep _ => true
  | .svcLoadWindow _ _ => true
  | .snap slot => decide (slot < 4)
  | .clear slot => decide (slot < 4)
  | .clearLog slot => decide (slot < 4)
  | .peerBringupStep link _ => decide (link < 9)
  | .peerBringupTimeout link => decide (link < 9)
  | .hpTwiEnter port => decide (port < 96)
  | .timeLockClear => true
  | .zipDescriptorDone channel _ => decide (channel < 8)
  | .stDueAllemSkip => true
  | .allemandeCancel => true
  | .perstRelease port => decide (port < 2)

end Sys2Proof
end

