-- ==== Sys2Proof/Safety.lean ====
section
/-! DEFINITION. What counts as a well-kept state and as a safe step of the block. -/

namespace Sys2Proof.Machine

/-- The two sparse maps of a state are in their canonical form: keys strictly rising, and nothing listed that an unlisted key gives. -/
def State.Wf (s : State) : Prop := s.RegsWf ∧ s.MemWf

/-- A step is safe where it ends in a next state whose maps are still canonical. -/
def SafeStep (s : State) : Prop := ∃ t, step s = .next t ∧ t.Wf

/-- A slot's write to a register is carried out (R31, R350): the device hears the slot, the unit's domain is on, and the slot is the
owner. -/
abbrev State.mayWrite (s : State) (slot a : Nat) : Prop :=
  s.reach slot = true ∧ (s.inbound slot).addrOn a = true ∧ (s.inbound slot).isOwner slot = true

/-- The commands that are the owner's write of a register that has a row of its own: the slot that writes and the register's BAR0
address. -/
def ownersWrite : Instr → Option (Nat × Nat)
  | .merSet slot _ => some (slot, Reg.MER_SET.PAIR.addr + 4)
  | .encoutMCommit slot _ => some (slot, Reg.ENCOUT_M.AT)
  | .barUpdateCommit slot _ => some (slot, Reg.TRK_BUPD_CTRL.AT)
  | .trkSelftest slot _ => some (slot, Reg.TRK_CTRL.AT)
  | .xwebUpdateCommit slot _ => some (slot, Reg.FAB_XUPD_CTRL.AT)
  | .trimTempUpdateCommit slot _ => some (slot, Reg.FAB_TUPD_CTRL.AT)
  | .fabMapCommit slot _ => some (slot, Reg.FAB_CTRL.AT)
  | .fabMoveCommit slot _ => some (slot, Reg.FAB_MOVE_CTRL.AT)
  | .seSelftest slot engine => some (slot, Reg.SE_CTRL.AT engine)
  | .smpLoad slot _ _ => some (slot, Reg.SMP_XFER_CTRL.AT)
  | .smpSave slot _ _ => some (slot, Reg.SMP_XFER_CTRL.AT)
  | .smpPeek slot _ => some (slot, Reg.SMP_PEEK_GN.AT)
  | .hpPortEnable slot port _ => some (slot, Reg.HP_CTRL.AT port)
  | .hpContinue slot port => some (slot, Reg.HP_CTRL.AT port)
  | .hpRetrain slot port => some (slot, Reg.HP_CTRL.AT port)
  | .hpFlush slot port => some (slot, Reg.HP_CTRL.AT port)
  | .hpTxTwi slot port _ => some (slot, Reg.HP_CTRL.AT port)
  | .hpHeadTxTwi slot port _ => some (slot, Reg.HP_CTRL.AT port)
  | .hpHeadMode slot port _ => some (slot, Reg.HP_HEAD_CMD.AT port)
  | .lTxeqWrite slot lane _ => some (slot, Reg.L_TXEQ.AT lane)
  | .eyeGo slot lane => some (slot, Reg.L_CTRL.AT lane)
  | .reeq slot lane => some (slot, Reg.L_CTRL.AT lane)
  | .bitslip slot lane => some (slot, Reg.L_BS.AT lane)
  | .loop slot lane _ => some (slot, Reg.L_CTRL.AT lane)
  | .prbsGenEn slot lane _ => some (slot, Reg.L_PRBS.AT lane)
  | .laneSelftest slot lane => some (slot, Reg.L_CTRL.AT lane)
  | .camPortEnable slot port _ => if port < 8 then some (slot, Reg.CAM_P_CTRL.AT port) else none
  | .retry slot port => if port < 8 then some (slot, Reg.CAM_P_CTRL.AT port) else none
  | .send slot port _ => if port < 8 then some (slot, Reg.CAM_P_CC_CTRL.AT port) else none
  | .stop slot _ => some (slot, Reg.CAL_CTRL.AT)
  | .go slot _ => some (slot, Reg.CAL_STITCH_CTRL.AT)
  | .pair (.own slot) => some (slot, Reg.DUE_CTRL.AT)
  | .unpair slot => some (slot, Reg.DUE_CTRL.AT)
  | .detach slot => some (slot, Reg.DUE_CTRL.AT)
  | .swap slot => some (slot, Reg.DUE_CTRL.AT)
  | .release slot => some (slot, Reg.DEV_OWN_CTRL.AT)
  | .ownHandover slot _ => some (slot, Reg.DEV_OWN_CTRL.AT)
  | .ringEnable slot ring _ => if ring < 256 then some (slot, Reg.RNG_R_CFG.AT ring) else none
  | .devAbort slot _ => some (slot, Reg.DEV_ABORT.AT)
  | .mbxGo slot => some (slot, Reg.MBX_CTRL.AT)
  | .devPeerGo slot _ => some (slot, Reg.DEV_PEER_CTRL.AT)
  | .zipRingWrite slot ring _ => if ring < 256 then some (slot, Reg.ZIP_RING.AT ring) else none
  | .mcRetrain mc (.write slot _) => if mc < 16 then some (slot, Reg.MC_CTRL.AT mc) else none
  | .arm slot => some (slot, Reg.FLD_CTRL.AT)
  | .outSet slot _ => some (slot, Reg.FLD_OUT_VAL.AT)
  | .statusReq slot => some (slot, Reg.FLD_CTRL.AT)
  | .latchClr slot _ => some (slot, Reg.FLD_OUT_CLR.AT)
  | .axEnable slot ax => if ax < 4 then some (slot, Reg.AX_CMD.AT ax) else none
  | .axDisable slot ax => if ax < 4 then some (slot, Reg.AX_CMD.AT ax) else none
  | .axStart slot ax _ _ => if ax < 4 then some (slot, Reg.AX_CMD.AT ax) else none
  | .axGoto slot ax => if ax < 4 then some (slot, Reg.AX_CMD.AT ax) else none
  | .axMoveStop slot ax => if ax < 4 then some (slot, Reg.AX_CMD.AT ax) else none
  | .axResume slot ax => if ax < 4 then some (slot, Reg.AX_CMD.AT ax) else none
  | .axSetPos slot ax => if ax < 4 then some (slot, Reg.AX_CMD.AT ax) else none
  | .axTarget slot ax _ => if ax < 4 then some (slot, Reg.AX_TARGET.AT ax) else none
  | .modeRequest slot _ => some (slot, Reg.DEV_MODE.AT)
  | .devReset slot _ => some (slot, Reg.DEV_RESET.AT)
  | .pwrBootGo slot => some (slot, Reg.PWR_BOOT_CTRL.AT)
  | .pwrDomReq slot _ => some (slot, Reg.PWR_DOM_CTRL.AT)
  | .pwrLevelReq slot _ => some (slot, Reg.PWR_LEVEL.AT)
  | .snap slot => some (slot, Reg.PMC_CTRL.AT)
  | .clear slot => some (slot, Reg.PMC_CTRL.AT)
  | .clearLog slot => some (slot, Reg.ERR_CTRL.AT)
  | _ => none

/-- Every waiting command names instances that the block has. -/
def State.queueWf (s : State) : Bool := s.pending.all Instr.wf

/-- The parts of the block beside its registers: the internal address space, Meridian time, power, clocks and modes, the sequencers, jobs, engines, the Starmap and the rows, the head ports, the field die and the axes, Duet, calibration, the serial lanes and the peer links, the cameras and inspection, the compression channels, the memory controllers, the test access port, the error log. -/
inductive Part
  | memory
  | time
  | power
  | sequencers
  | printing
  | ports
  | field
  | duet
  | calibration
  | links
  | cameras
  | compression
  | dram
  | testPort
  | errors
  deriving DecidableEq, Repr

/-- A part is the same in two states. -/
def Part.same (p : Part) (s t : State) : Prop :=
  match p with
  | .memory => t.mem = s.mem
  | .time => t.now = s.now
  | .power => t.pwr = s.pwr
  | .sequencers => t.tb = s.tb
  | .printing => t.job = s.job ∧ t.eng = s.eng ∧ t.smp = s.smp ∧ t.rows = s.rows
  | .ports => t.ports = s.ports
  | .field => t.fld = s.fld ∧ t.mot = s.mot
  | .duet => t.due = s.due
  | .calibration => t.cal = s.cal
  | .links => t.lanes = s.lanes ∧ t.peers = s.peers
  | .cameras => t.cams = s.cams ∧ t.ins = s.ins
  | .compression => t.zip = s.zip
  | .dram => t.dram = s.dram
  | .testPort => t.tap = s.tap
  | .errors => t.err = s.err

/-- The parts that a command may change: its own unit's, and those that the units it hands work or reports to hold. A row that is not named
here is out of the command's reach (the isolation of the block's units). -/
def changedBy : Instr → List Part
  | .registerWrite .. => [.memory, .time, .power, .sequencers, .printing, .ports, .field, .duet, .calibration, .links, .cameras, .compression, .dram, .testPort, .errors]
  | .loReadSnapshot .. => [.memory, .power, .printing, .ports, .field, .duet, .calibration, .links, .cameras, .compression, .dram, .errors]
  | .loWriteBuffer .. => [.memory, .time, .power, .sequencers, .printing, .ports, .field, .duet, .calibration, .links, .cameras, .compression, .dram, .testPort, .errors]
  | .hiWriteCommit .. => [.memory, .time, .power, .sequencers, .printing, .ports, .field, .duet, .calibration, .links, .cameras, .compression, .dram, .testPort, .errors]
  | .rcReadClear .. => [.memory, .power, .printing, .ports, .field, .duet, .calibration, .links, .cameras, .compression, .dram, .errors]
  | .debugWindowRead .. => [.memory, .power, .printing, .ports, .field, .duet, .calibration, .links, .cameras, .compression, .dram, .errors]
  | .debugWindowWrite .. => [.memory, .time, .power, .sequencers, .printing, .ports, .field, .duet, .calibration, .links, .cameras, .compression, .dram, .testPort, .errors]
  | .merSet .. => [.time, .ports, .links, .errors]
  | .ptmDialogue .. => [.sequencers]
  | .stationTimeExchange .. => [.time, .sequencers, .ports, .links]
  | .stMerHoldover => [.sequencers]
  | .stMerHoldLimit => [.sequencers]
  | .encoderCount .. => [.sequencers, .printing, .field, .calibration, .cameras]
  | .quadratureError .. => [.memory, .power, .sequencers, .printing, .ports, .field, .duet, .calibration, .links, .cameras, .dram]
  | .encCheckCompare => [.memory, .power, .sequencers, .printing, .ports, .field, .duet, .calibration, .links, .cameras, .dram]
  | .encoderIndex .. => [.sequencers, .field]
  | .encoutMCommit .. => [.sequencers, .field, .errors]
  | .edgeReport .. => [.field]
  | .edgeReportReceive .. => [.sequencers, .duet, .links]
  | .reportStale .. => [.duet, .links]
  | .troikaVote .. => [.memory, .power, .sequencers, .printing, .ports, .field, .duet, .calibration, .links, .cameras, .dram, .errors]
  | .barUpdateCommit .. => [.printing, .duet, .cameras, .errors]
  | .trkSelftest .. => [.sequencers, .field, .errors]
  | .trkSelftestDone .. => [.sequencers]
  | .trkShadowEnd .. => [.sequencers]
  | .stLateWork .. => [.printing, .duet, .calibration, .links]
  | .job .. => [.printing, .duet, .links, .cameras]
  | .page .. => [.printing, .cameras]
  | .pageReplaceDecision .. => [.printing, .duet, .links]
  | .bandDispatch => [.printing]
  | .bandComplete .. => [.memory, .printing, .compression, .dram]
  | .chainStart .. => [.printing, .duet, .calibration, .links, .cameras]
  | .chainEnd => [.memory, .printing, .ports, .duet, .calibration, .links, .cameras, .dram]
  | .screenPreloadDone .. => [.printing]
  | .segmentFetch .. => [.printing, .dram]
  | .tickReadComplete .. => [.printing, .dram]
  | .engineLineCompute .. => [.printing, .duet, .links]
  | .xwebUpdateCommit .. => [.printing, .duet, .cameras, .errors]
  | .trimTempUpdateCommit .. => [.printing, .duet, .errors]
  | .fabMapCommit .. => [.duet, .links, .errors]
  | .fabMoveCommit .. => [.printing, .errors]
  | .fabMoveLoadDone .. => [.printing, .duet, .links]
  | .spotCheck .. => [.printing, .errors]
  | .seSelftest .. => [.printing, .errors]
  | .seSelftestDone .. => [.printing]
  | .seSelftestTimeout .. => [.printing]
  | .smpUpdate .. => [.memory, .printing, .ports, .duet, .calibration, .dram]
  | .recordDelivery .. => [.memory, .printing, .ports, .duet, .calibration, .dram]
  | .smpLoad .. => [.printing, .errors]
  | .smpSave .. => [.printing, .errors]
  | .smpXferDone .. => [.memory, .printing, .ports, .dram]
  | .smpPeek .. => [.errors]
  | .hpPortEnable .. => [.memory, .power, .printing, .ports, .field, .duet, .calibration, .links, .cameras, .dram, .errors]
  | .hpBringupStep .. => [.memory, .power, .printing, .ports, .field, .duet, .calibration, .links, .cameras, .dram]
  | .hpBringupTimeout .. => [.memory, .power, .printing, .ports, .field, .duet, .calibration, .links, .cameras, .dram]
  | .hpRetryTimer .. => [.memory, .power, .printing, .ports, .field, .duet, .calibration, .links, .cameras, .dram]
  | .hpSignalLoss .. => [.memory, .power, .printing, .ports, .field, .duet, .calibration, .links, .cameras, .dram]
  | .hpContinue .. => [.memory, .power, .printing, .ports, .field, .duet, .calibration, .links, .cameras, .dram, .errors]
  | .hpRetrain .. => [.memory, .power, .printing, .ports, .field, .duet, .calibration, .links, .cameras, .dram, .errors]
  | .hpFlush .. => [.memory, .power, .printing, .ports, .field, .duet, .calibration, .links, .cameras, .dram, .errors]
  | .hpTxTwi .. => [.memory, .power, .printing, .ports, .field, .duet, .calibration, .links, .cameras, .dram, .errors]
  | .hpHeadTxTwi .. => [.memory, .power, .printing, .ports, .field, .duet, .calibration, .links, .cameras, .dram, .errors]
  | .hpSkip .. => [.ports, .links]
  | .hpSkipReceive .. => [.links]
  | .hpBeacon .. => [.ports, .links]
  | .hpTtReq .. => [.ports, .links]
  | .hpTtRsp .. => [.ports]
  | .hpTime .. => [.memory, .power, .printing, .ports, .field, .duet, .calibration, .links, .cameras, .dram]
  | .hpTimeStatusTimeout .. => [.memory, .power, .printing, .ports, .field, .duet, .calibration, .links, .cameras, .dram]
  | .hpIdent .. => [.memory, .power, .printing, .ports, .field, .duet, .calibration, .links, .cameras, .dram]
  | .hpHealth .. => [.memory, .power, .printing, .ports, .field, .duet, .calibration, .links, .cameras, .dram, .errors]
  | .hpAck .. => [.ports]
  | .hpFault .. => [.ports]
  | .hpSensePacket .. => [.memory, .printing, .ports, .duet, .calibration, .dram]
  | .hpUplinkDiscard .. => [.ports, .links, .errors]
  | .hpBlockLockLoss .. => [.memory, .power, .printing, .ports, .field, .duet, .calibration, .links, .cameras, .dram]
  | .hpHealthTimeout .. => [.memory, .power, .printing, .ports, .field, .duet, .calibration, .links, .cameras, .dram]
  | .hpAckTimeout .. => [.memory, .power, .printing, .ports, .field, .duet, .calibration, .links, .cameras, .dram]
  | .linePacketSend .. => [.printing, .ports, .field, .duet, .calibration, .links, .cameras]
  | .hpTapLoad .. => [.ports]
  | .hpHeadMode .. => [.ports, .errors]
  | .refClockLoss .. => [.memory, .power, .printing, .ports, .field, .duet, .calibration, .links, .cameras, .compression, .dram, .errors]
  | .refClockRestore .. => [.memory, .power, .printing, .ports, .field, .duet, .calibration, .links, .cameras, .dram]
  | .lTxeqWrite .. => [.errors]
  | .eyeGo .. => [.memory, .power, .printing, .ports, .field, .duet, .calibration, .links, .cameras, .dram, .errors]
  | .eyeMeasureDone .. => [.links]
  | .eyePeriodic .. => [.links]
  | .reeq .. => [.memory, .power, .printing, .ports, .field, .duet, .calibration, .links, .cameras, .dram, .errors]
  | .reeqDone .. => [.calibration, .links]
  | .bitslip .. => [.memory, .power, .printing, .ports, .field, .duet, .calibration, .links, .cameras, .dram, .errors]
  | .loop .. => [.memory, .power, .printing, .ports, .field, .duet, .calibration, .links, .cameras, .dram, .errors]
  | .prbsGenEn .. => [.memory, .power, .printing, .ports, .field, .duet, .calibration, .links, .cameras, .dram, .errors]
  | .laneSelftest .. => [.memory, .power, .printing, .ports, .field, .duet, .calibration, .links, .cameras, .dram, .errors]
  | .laneSelftestRun .. => [.memory, .power, .printing, .ports, .field, .duet, .calibration, .links, .cameras, .dram]
  | .laneSelftestDone .. => [.memory, .power, .printing, .ports, .field, .duet, .calibration, .links, .cameras, .dram]
  | .announce .. => [.links]
  | .announceReceive .. => [.duet, .links]
  | .announceTimeout .. => [.duet, .links]
  | .chan .. => [.duet, .links, .errors]
  | .stPeerCrcBurst .. => [.links, .errors]
  | .peerRetryTimer .. => [.duet, .calibration, .links]
  | .camPortEnable .. => [.memory, .printing, .ports, .duet, .calibration, .links, .cameras, .dram, .errors]
  | .camDiscoveryDone .. => []
  | .retry .. => [.errors]
  | .stCamLinkDown .. => []
  | .send .. => [.cameras, .errors]
  | .stCamCcDone .. => [.cameras]
  | .stCamCcTimeout .. => [.cameras]
  | .stCamEvent .. => []
  | .cameraTrigger .. => [.memory, .printing, .ports, .duet, .calibration, .cameras, .dram]
  | .cameraLineReceive .. => [.memory, .printing, .ports, .duet, .calibration, .cameras, .dram]
  | .lineWindowClose .. => [.memory, .printing, .ports, .duet, .calibration, .cameras, .dram]
  | .statsRecordWrite => [.cameras]
  | .capture .. => [.cameras]
  | .stats .. => [.cameras]
  | .setload .. => [.cameras]
  | .replay .. => [.cameras]
  | .setCameraWrites .. => [.cameras]
  | .calAgeDue .. => [.calibration]
  | .run .. => [.memory, .printing, .ports, .duet, .calibration, .dram]
  | .gutter .. => [.duet, .calibration]
  | .calRunStart => [.memory, .printing, .ports, .duet, .calibration, .links, .dram]
  | .calBatchForm .. => [.memory, .printing, .ports, .duet, .calibration, .dram]
  | .calCellMeasure .. => [.memory, .printing, .ports, .duet, .calibration, .dram]
  | .calPassEnd .. => [.memory, .printing, .ports, .duet, .calibration, .dram]
  | .stop .. => [.memory, .printing, .ports, .duet, .calibration, .dram, .errors]
  | .stCalTimeout => [.memory, .printing, .ports, .duet, .calibration, .dram]
  | .go .. => [.memory, .printing, .ports, .duet, .calibration, .dram, .errors]
  | .calLaneSweep => [.calibration, .links]
  | .pair .. => [.sequencers, .field, .duet, .links, .errors]
  | .pairResult .. => [.sequencers, .field, .duet, .links]
  | .unpair .. => [.sequencers, .field, .duet, .links, .errors]
  | .detach .. => [.sequencers, .field, .duet, .links, .errors]
  | .swap .. => [.sequencers, .field, .duet, .links, .errors]
  | .hb => [.duet, .links]
  | .hbIn .. => [.duet]
  | .stDuePathLoss => [.memory, .printing, .ports, .field, .duet, .calibration, .links, .dram]
  | .stDueRevert => [.field, .duet, .links]
  | .stDuePeerLost => [.field, .duet, .links]
  | .duetOwnRaise .. => [.field, .duet]
  | .timing .. => [.sequencers, .duet]
  | .stDueTimingLocal .. => [.sequencers, .duet]
  | .order .. => [.memory, .power, .printing, .ports, .field, .duet, .calibration, .links, .cameras, .dram]
  | .state => [.duet, .links]
  | .stateCopyReceive .. => [.memory, .printing, .ports, .field, .duet, .calibration, .links, .cameras, .dram]
  | .duetNakTimeout => [.field, .duet, .links]
  | .digest .. => [.duet]
  | .digestGateTimeout => [.printing, .ports, .field, .duet, .calibration, .links, .cameras]
  | .allemandeStart .. => [.duet, .links]
  | .allemandeSwapPoint => [.memory, .printing, .ports, .field, .duet, .calibration, .links, .dram]
  | .stDueAllemande => [.ports, .duet]
  | .handover => [.duet, .links]
  | .reg .. => [.memory, .time, .power, .sequencers, .printing, .ports, .field, .duet, .calibration, .links, .cameras, .compression, .dram, .testPort, .errors]
  | .claim .. => [.errors]
  | .release .. => [.errors]
  | .ownHandover .. => [.errors]
  | .devOwnHb .. => []
  | .leaseCheck => [.memory, .power, .printing, .ports, .field, .duet, .calibration, .links, .cameras, .dram]
  | .ringEnable .. => [.errors]
  | .dbProd .. => []
  | .dbHcons .. => []
  | .dbAbortRing .. => [.memory, .power, .printing, .ports, .duet, .calibration, .links, .cameras, .compression, .dram]
  | .dbAbortDevice .. => [.memory, .power, .printing, .ports, .duet, .calibration, .links, .cameras, .compression, .dram]
  | .devAbort .. => [.memory, .power, .printing, .ports, .duet, .calibration, .links, .cameras, .compression, .dram, .errors]
  | .stRingAborted .. => []
  | .descriptorFetch .. => []
  | .stRingFetchErr .. => []
  | .cqResume .. => []
  | .msixModerationTimer .. => []
  | .stPortReset .. => [.memory, .power, .printing, .ports, .field, .duet, .calibration, .links, .cameras, .compression, .dram]
  | .mbxGo .. => [.errors]
  | .stMbxReply .. => []
  | .stMbxTimeout => []
  | .devPeerGo .. => [.duet, .links, .errors]
  | .peerRegAnswer .. => []
  | .stPeerRegFail .. => []
  | .bar4Read .. => []
  | .deflate .. => [.compression]
  | .inflate .. => [.compression]
  | .zipRingWrite .. => [.errors]
  | .memPopWrite .. => []
  | .dramTraining .. => [.dram]
  | .refresh => [.dram]
  | .refreshRatePoll .. => [.memory, .power, .printing, .ports, .field, .duet, .calibration, .links, .cameras, .dram]
  | .powerDownTimer .. => [.dram]
  | .writeTracking .. => [.dram]
  | .mcRetrain .. => [.dram, .errors]
  | .stMemCe .. => [.dram, .errors]
  | .memFreeze .. => [.memory, .power, .printing, .ports, .field, .duet, .calibration, .links, .cameras, .dram, .errors]
  | .patrolScrub .. => [.dram, .errors]
  | .mcPgGo .. => []
  | .mcMraGo .. => []
  | .bcnM .. => [.sequencers, .field]
  | .bcnF .. => [.sequencers, .field]
  | .stFldLost => [.sequencers, .field, .duet, .links]
  | .mainDieLost => [.sequencers, .field]
  | .cfgCommit .. => [.memory, .time, .power, .sequencers, .printing, .ports, .field, .duet, .calibration, .links, .cameras, .compression, .dram, .testPort, .errors]
  | .cfgAck .. => [.sequencers, .field]
  | .cfgAckTimeout => [.field]
  | .arm .. => [.field, .errors]
  | .outSet .. => [.field, .errors]
  | .outState .. => [.field]
  | .statusReq .. => [.errors]
  | .latchClr .. => [.field, .errors]
  | .outputLatch .. => [.field]
  | .safe24Undervoltage => [.sequencers, .field]
  | .safe24Restore .. => [.field]
  | .diChange .. => [.field]
  | .inState => [.memory, .power, .printing, .ports, .field, .duet, .calibration, .links, .cameras, .dram]
  | .encLineFault .. => []
  | .spdSet => [.field]
  | .replayCmd .. => [.field]
  | .uartRx .. => [.memory, .time, .power, .sequencers, .printing, .ports, .field, .duet, .calibration, .links, .cameras, .compression, .dram, .testPort, .errors]
  | .barrierFrameDiscard .. => [.field, .errors]
  | .fieldFault .. => []
  | .fieldHealth .. => [.field]
  | .axEnable .. => [.field, .errors]
  | .axDisable .. => [.field, .errors]
  | .axStart .. => [.field, .errors]
  | .axGoto .. => [.field, .errors]
  | .axMoveStop .. => [.field, .errors]
  | .axResume .. => [.field, .errors]
  | .axSetPos .. => [.field, .errors]
  | .axTarget .. => [.field, .errors]
  | .axRemainSet .. => [.field]
  | .motionControlTick .. => [.field]
  | .stMotStall .. => [.field]
  | .stMotFollow .. => [.field]
  | .stMotCoil .. => [.field]
  | .brakeDelay .. => [.field]
  | .holdDelay .. => [.field]
  | .motionDescriptor .. => [.field]
  | .modeRequest .. => [.memory, .power, .printing, .ports, .field, .duet, .calibration, .links, .cameras, .compression, .dram, .errors]
  | .modePendingComplete => [.memory, .power, .printing, .ports, .duet, .calibration, .links, .cameras, .compression, .dram, .errors]
  | .derateChange => [.memory, .power, .printing, .ports, .duet, .calibration, .links, .dram]
  | .mode .. => [.memory, .power, .printing, .ports, .field, .duet, .calibration, .links, .cameras, .compression, .dram, .errors]
  | .spit .. => [.power, .ports, .links]
  | .devReset .. => [.memory, .time, .power, .sequencers, .printing, .ports, .field, .duet, .calibration, .links, .cameras, .compression, .dram, .testPort, .errors]
  | .resetNAssert => [.memory, .power, .sequencers, .printing, .ports, .field, .duet, .calibration, .links, .cameras, .compression, .dram, .testPort, .errors]
  | .resetNRelease .. => [.memory, .time, .power, .sequencers, .printing, .ports, .field, .duet, .calibration, .links, .cameras, .compression, .dram, .testPort, .errors]
  | .supplyFault .. => [.memory, .power, .sequencers, .printing, .ports, .field, .duet, .calibration, .links, .cameras, .compression, .dram, .testPort, .errors]
  | .supplyFaultRelease .. => [.memory, .time, .power, .sequencers, .printing, .ports, .field, .duet, .calibration, .links, .cameras, .compression, .dram, .testPort, .errors]
  | .perstAssert .. => [.memory, .power, .printing, .ports, .field, .duet, .calibration, .links, .cameras, .compression, .dram]
  | .pwrBootGo .. => [.power, .errors]
  | .bootImageVerify .. => [.power]
  | .stBootDone => [.memory, .printing, .ports, .duet, .calibration, .links, .cameras, .compression, .dram, .errors]
  | .pwrDomReq .. => [.power, .errors]
  | .domainSwitchDone => [.power, .printing, .ports, .duet, .calibration, .links, .cameras, .compression, .dram, .errors]
  | .thermalSample .. => [.memory, .power, .printing, .ports, .duet, .calibration, .links, .cameras, .compression, .dram, .errors]
  | .sensorTestStep .. => [.memory, .power, .printing, .ports, .duet, .calibration, .links, .cameras, .compression, .dram, .errors]
  | .thermalLevelFall => [.power, .duet, .links]
  | .powerLevelEval .. => [.power, .duet, .links]
  | .pwrLevelReq .. => [.power, .duet, .links, .errors]
  | .stPwrSurgeEnd => [.power, .duet, .links]
  | .surgeUnbar => [.power, .duet, .links]
  | .vrAck .. => [.power, .duet, .links]
  | .stPwrVrFail => [.power, .duet, .links]
  | .vrAlert .. => []
  | .vrPgoodLoss => [.memory, .power, .sequencers, .printing, .ports, .field, .duet, .calibration, .links, .cameras, .compression, .dram, .testPort, .errors]
  | .sramEccHit .. => [.memory, .power, .printing, .ports, .field, .duet, .calibration, .links, .cameras, .compression, .dram, .errors]
  | .sramRegionTestDone .. => [.errors]
  | .sramScrub .. => [.memory, .power, .printing, .ports, .field, .duet, .calibration, .links, .cameras, .compression, .dram, .errors]
  | .stErrLockstep .. => [.memory, .power, .printing, .ports, .field, .duet, .calibration, .links, .cameras, .dram, .errors]
  | .svcLoadWindow .. => [.errors]
  | .snap .. => [.errors]
  | .clear .. => [.errors]
  | .clearLog .. => [.errors]
  | .peerBringupStep .. => [.ports, .duet, .links]
  | .peerBringupTimeout .. => [.duet, .links]
  | .hpTwiEnter .. => [.ports]
  | .timeLockClear => [.field]
  | .zipDescriptorDone .. => [.compression]
  | .stDueAllemSkip => [.duet]
  | .allemandeCancel => [.duet]
  | .perstRelease .. => []

end Sys2Proof.Machine
end

