-- ==== Sys2Proof/Certificates/Slice0/Obligations.lean ====
section
/-! DEFINITION. The statements, from the numbered rules of spec/: what the commands of each family do, what every step keeps, and what
no command may do. -/

open Sys2Proof Sys2Proof.Machine

/-- A step carries out the command at the front of the queue. For every command c and state s, a step of s with c at the front of its
queue is exec of c on s with the queue's rest. The queue is the model's own: it stands for the order in which the bus, the links and
the pins present their commands. (spec/opcode_table.json, notes/assumptions/1; derived.) -/
def Obligations.StepRunsTheFrontCommand : Prop :=
  ∀ (c : Instr) (cs : List Instr) (s : State), step { s with pending := c :: cs } = exec c { s with pending := cs }

/-- On an empty queue one clock cycle passes, and Meridian time counts on. With no command waiting a step answers a next state in which
Meridian time has gone on by the whole part of 4 × (1 + rate × 2^-40) mt plus the accumulated fraction, the fraction is carried in the
40-bit accumulator, and the queue, memory, the field die, the axes, calibration, compression and the test port are as before; Duet is
as an entry into Safe-stop that is told in this cycle leaves it. The rate is that of the cycle, after such a telling. That a step on
an empty queue is one cycle is the model's choice (log entry 3). (R37, notes/assumptions/3; derived.) -/
def Obligations.CycleCountsMeridian : Prop :=
  ∀ s : State, s.pending = [] →
    ∃ t, step s = .next t
      ∧ t.now = s.now + ((s.tb.frac : Int) + 4 * (2 ^ 40 + s.tellStop.rate)).toNat / 2 ^ 40
      ∧ t.tb.frac = ((s.tb.frac : Int) + 4 * (2 ^ 40 + s.tellStop.rate)).toNat % 2 ^ 40
      ∧ t.pending = [] ∧ t.mem = s.mem ∧ t.fld = s.fld ∧ t.mot = s.mot ∧ t.cal = s.cal ∧ t.zip = s.zip ∧ t.tap = s.tap
      ∧ t.due = s.tellStop.due

/-- What reset leaves. After reset no command waits, the register map and the memory hold nothing but reset values in canonical form,
Meridian time is 0, the mode is M2, no slot owns the device, no interrupt has been sent and no ring runs. The zero of unwritten memory
is the model's choice (log entry 2). (R6, R37, R345, R487, notes/assumptions/2; derived.) -/
def Obligations.ResetState : Prop :=
  State.reset.Wf ∧ State.reset.pending = [] ∧ State.reset.queueWf = true ∧ State.reset.now = 0 ∧ State.reset.mode = 2
    ∧ State.reset.owner = none ∧ State.reset.liveRings = [] ∧ State.reset.out = []
    ∧ (∀ a, State.reset.word a = Reg.resetWord a) ∧ (∀ a, State.reset.byte a = 0)

/-- Every step keeps the register map and the memory canonical. From every state whose register map and memory are in canonical form
(addresses strictly rising, nothing listed that an unlisted address gives), reached from reset or not, a step that answers a next
state answers one in which both still are. (R6, R13, R34, notes/assumptions/2; derived.) -/
def Obligations.StepKeepsTheMapsCanonical : Prop :=
  ∀ s t : State, s.Wf → step s = .next t → t.Wf

/-- Every command ends in a next state and leaves the queue to the step. Whatever the state and the operands, a command neither faults nor
is refused, and it leaves the commands that wait as they are. (spec/opcode_table.json, notes/assumptions/1; derived.) -/
def Obligations.CommandsLeaveTheQueue : Prop :=
  ∀ (c : Instr) (s : State), ∃ t, exec c s = .next t ∧ t.pending = s.pending

/-- A command changes no unit that it does not reach. For each command and each of fifteen parts of the block (memory, time, power,
sequencers, printing, head ports, field die, Duet, calibration, links, cameras, compression, DRAM, test port, error log), the part is
the same in the next state unless the table changedBy names it for that command. (R16, R26, spec/95_what_each_step_holds.md; derived.) -/
def Obligations.CommandsStayWithinTheirUnits : Prop :=
  ∀ (c : Instr) (s t : State) (p : Part), exec c s = .next t → p ∉ changedBy c → p.same s t

/-- A write by a slot that is not the owner is dropped and reported. For each command that is a write of a register with a row of its own,
from a slot that reaches the device: with the register's domain on and another slot (or none) as owner, the next state is the state
after the inbound request with the R350 report alone; with the domain off it is that state with the R31 record and count alone; and
from a slot that does not reach the device nothing changes. That the domain is judged before the owner is the model's reading (log
entry 10). (R350, R31, R9; derived.) -/
def Obligations.OnlyTheOwnerWrites : Prop :=
  ∀ (c : Instr) (s : State) (slot a : Nat), ownersWrite c = some (slot, a) →
    (s.reach slot = true → (s.inbound slot).addrOn a = true → (s.inbound slot).isOwner slot = false →
      exec c s = .next ((s.inbound slot).reportAccess slot 0 a 0))
    ∧ (s.reach slot = true → (s.inbound slot).addrOn a = false → exec c s = .next ((s.inbound slot).offDomain a))
    ∧ (s.reach slot = false → exec c s = .next s)

/-- What the report of a dropped write leaves. The report of a dropped write at an offset of BAR0 leaves the offset in DEV_ACC_ADDR, the
slot in LAST_SLOT and the BAR in LAST_BAR, sets NONOWNER and counts the slot's DEV_NONOWN_CNT up by one until it saturates; no other
register below the rings' window changes, nor does anything beside the registers, the event rings, the rate limits and what is sent.
(R350, R562; derived.) -/
def Obligations.DroppedWriteReport : Prop :=
  ∀ (s : State) (slot off reason : Nat), slot < 4 → off < 0x4000000 →
    ∃ t, s.reportAccess slot 0 off reason = t
      ∧ t.get Reg.DEV_ACC_ADDR.ADDR = off ∧ t.get Reg.DEV_ACC_STS.LAST_SLOT = slot ∧ t.get Reg.DEV_ACC_STS.LAST_BAR = 0
      ∧ t.get Reg.DEV_ACC_STS.NONOWNER = 1
      ∧ t.get (Reg.DEV_NONOWN_CNT.CNT slot) = min (s.get (Reg.DEV_NONOWN_CNT.CNT slot) + 1) (2 ^ 32 - 1)
      ∧ (∀ b, b < 0xD0000 → b ≠ Reg.DEV_ACC_ADDR.AT → b ≠ Reg.DEV_ACC_STS.AT → b ≠ Reg.DEV_NONOWN_CNT.AT slot → t.word b = s.word b)
      ∧ (∀ p : Part, p.same s t)

/-- A written register keeps and takes its bits by their access types. For a bit that exactly one access type of the register's fields
covers, what a write leaves in it is: RW the bit written; RO and RC the old bit; WO 0; W1C the old bit unless 1 is written; W1S the
old bit or the written one; RWL the bit written while the unit is unlocked and the old bit while it is locked. A bit that no field
covers is left 0. (R7, R10, R15; derived.) -/
def Obligations.AccessTypes : Prop :=
  ∀ (a : Nat) (locked : Bool) (old new : Word) (i : Nat), i < 32 →
    (∀ acc : Access, (Reg.mask a acc).testBit i = true → (∀ x, x ≠ acc → (Reg.mask a x).testBit i = false) →
      (Reg.merge a locked old new).getLsbD i = match acc with
        | .rw => new.getLsbD i
        | .ro => old.getLsbD i
        | .rc => old.getLsbD i
        | .wo => false
        | .w1c => old.getLsbD i && !new.getLsbD i
        | .w1s => old.getLsbD i || new.getLsbD i
        | .rwl => if locked then old.getLsbD i else new.getLsbD i)
    ∧ ((∀ x, (Reg.mask a x).testBit i = false) → (Reg.merge a locked old new).getLsbD i = false)

/-- The owner's write of a register without a row of its own. The owner's aligned 32-bit write, in BAR0, of a register of the Meridian,
Troika, encoder, job, fabric, Starmap or calibration unit that has no command of its own and whose value no stated range forbids,
replaces the register's word by what the access types leave of it, where a W1C bit that the hardware set in this clock stays set, and
changes nothing else; a locked write that would change an RWL field does that and is reported with reason 1, and in the fabric's and
the engines' registers sets FAB_STS.CFG_ERR (log entry 121). A write of MER_STN_CFG that changes UPLINK on a follower also starts the
following anew. A write to an offset that no register holds changes nothing. (R7, R8, R11, R12, R15, R41, R350, notes/assumptions/121;
derived.) -/
def Obligations.PlainRegisterWrite : Prop :=
  ∀ (s : State) (slot a : Nat) (data : Word), slot < 4 → a % 4 = 0 → 0x30000 ≤ a → a < 0xA0000 → s.mayWrite slot a →
    (∀ r, Reg.find a = some (r, 0) → r.pair = false → Reg.writable a = true → fieldHeld a = false →
      a ∉ [Reg.MER_CTRL.AT, Reg.MER_RATE.AT, Reg.TRK_CTRL.AT, Reg.TRK_BUPD_CTRL.AT, Reg.FAB_CTRL.AT, Reg.FAB_MOVE_CTRL.AT, Reg.FAB_XUPD_CTRL.AT,
        Reg.FAB_TUPD_CTRL.AT, Reg.SMP_XFER_CTRL.AT, Reg.SMP_PEEK_GN.AT, Reg.CAL_CTRL.AT, Reg.CAL_STITCH_CTRL.AT] →
      (s.inbound slot).rangeTrkCal a data = none →
      let u := s.inbound slot
      let late := ((u.fresh.lookup a).getD (0, 0)).2 &&& BitVec.ofNat 32 (Reg.mask a .w1c)
      let t := u.setWord a (Reg.merge a (u.lockedAt a) (u.word a) data ||| (u.word a &&& late))
      let v := if u.lockedAt a && Reg.changesLocked a (u.word a) data
        then (t.reportAccess slot 0 a 1).when (inFab a) (·.put Reg.FAB_STS.CFG_ERR 1) else t
      exec (.registerWrite slot 0 a 4 data) s
        = .next (if a = Reg.MER_STN_CFG.AT && v.get Reg.MER_STN_CFG.UPLINK ≠ u.get Reg.MER_STN_CFG.UPLINK
            && v.get Reg.MER_CTRL.ROLE = 2 then v.restartFollow else v))
    ∧ (Reg.find a = none → exec (.registerWrite slot 0 a 4 data) s = .next (s.inbound slot))

/-- A read of _LO latches the upper half for the slot that reads, and a read of _HI returns it. A read of the _LO register of a pair by a
slot answers the pair's low word and keeps its high word, as it stands then, as that slot's snapshot; a read of _HI answers the
reading slot's snapshot, or 0 where the slot has none, and keeps every other slot's. Neither changes a register or memory. (R13, R9,
R31; derived.) -/
def Obligations.PairReads : Prop :=
  ∀ (s : State) (slot a : Nat) (r : RegRow), slot < 4 → a % 4 = 0 → a < 0xD0000 → s.reach slot = true → (s.inbound slot).addrOn a = true →
    (Reg.find a = some (r, 0) → r.pair = true →
      let u := s.inbound slot
      ∃ t, exec (.loReadSnapshot slot a) s = .next t
        ∧ t.out = .readData slot 0 a (u.view slot a) :: u.out
        ∧ t.host.loSnap.lookup (pairKey slot a) = some (u.view slot (a + 4)).toNat
        ∧ (∀ k, k ≠ pairKey slot a → t.host.loSnap.lookup k = u.host.loSnap.lookup k)
        ∧ t.regs = u.regs ∧ t.mem = u.mem)
    ∧ (Reg.find a = some (r, 4) →
      exec (.rcReadClear slot 0 a 4) s
        = .next ((s.inbound slot).send (.readData slot 0 a (BitVec.ofNat 32 (((s.inbound slot).host.loSnap.lookup (pairKey slot (a - 4))).getD 0)))))

/-- A write of _LO waits for _HI, which commits both halves at once. The owner's write of a writable _LO register changes only what that
slot's buffer holds for the pair, locked or not. The value that a later _HI write of the slot commits is that buffered word and the
_HI data above it, and 0 for the low word where the slot has buffered none. The _HI write, with the unit unlocked, puts that value
into the pair by the access types of its fields (hostSet, where R8 keeps a W1C bit that the hardware set in this clock) and changes
nothing else; with the unit locked it is dropped, and reported with reason 1 only where it would change the pair. Pairs whose value a
range of their own restricts, MER_SET and the ring bases have statements of their own. (R7, R8, R14, R15, R350; derived.) -/
def Obligations.PairWrites : Prop :=
  ∀ (s : State) (slot lo : Nat) (r : RegRow) (low hi : Word), slot < 4 → lo % 4 = 0 → lo < 0xD0000 → r.pair = true →
    lo ≠ Reg.MER_SET.PAIR.addr → Reg.find lo = some (r, 0) → Reg.find (lo + 4) = some (r, 4) → Reg.writable lo = true →
    (s.mayWrite slot lo →
      ∃ t, exec (.loWriteBuffer slot lo low) s = .next t
        ∧ t.regs = (s.inbound slot).regs ∧ t.mem = (s.inbound slot).mem ∧ t.out = (s.inbound slot).out
        ∧ t.pairWritten slot lo hi = low.toNat + 2 ^ 32 * hi.toNat
        ∧ ∀ k, k ≠ pairKey slot lo → t.host.loBuf.lookup k = (s.inbound slot).host.loBuf.lookup k)
    ∧ (s.host.loBuf.lookup (pairKey slot lo) = none → s.pairWritten slot lo hi = 2 ^ 32 * hi.toNat)
    ∧ (s.mayWrite slot (lo + 4) →
      let u := s.inbound slot
      let v := u.pairWritten slot lo hi
      ((u.lockedAt lo && Reg.mask lo .rwl ≠ 0) = false → u.pairDropped lo v = none →
        exec (.hiWriteCommit slot (lo + 4) hi) s
          = .next ((u.hostSet lo false (BitVec.ofNat 32 v)).hostSet (lo + 4) false hi))
      ∧ ((u.lockedAt lo && Reg.mask lo .rwl ≠ 0) = true →
        exec (.hiWriteCommit slot (lo + 4) hi) s
          = .next (if u.get64 ⟨lo⟩ = v then u else u.reportAccess slot 0 (lo + 4) 1)))

/-- A register read answers the word and clears read-clear fields for the owner alone. An aligned 32-bit read of a single register by a
slot that reaches the device, with the domain on, answers the word the register shows, its RC fields as they stood before this clock's
events (R8). It clears the register's RC fields where the slot is the owner, and changes no register where it is not. With the domain
off it answers 0 and leaves the R31 record and count. (R7, R8, R9, R31; derived.) -/
def Obligations.ReadClearsForTheOwner : Prop :=
  ∀ (s : State) (slot a : Nat) (r : RegRow), slot < 4 → a % 4 = 0 → a < 0xD0000 → s.reach slot = true →
    let u := s.inbound slot
    (Reg.find a = some (r, 0) → r.pair = false → u.addrOn a = true →
      (u.isOwner slot = true → exec (.rcReadClear slot 0 a 4) s = .next ((u.clearRead a).send (.readData slot 0 a (u.ownerView slot a))))
      ∧ (u.isOwner slot = false → exec (.rcReadClear slot 0 a 4) s = .next (u.send (.readData slot 0 a (u.view slot a)))))
    ∧ (u.addrOn a = false → exec (.rcReadClear slot 0 a 4) s = .next ((u.offDomain a).send (.readData slot 0 a 0)))

/-- The debug window reads and writes the internal address space where R35 lets it. With the window enabled, the internal address i
mapped, its domains on and the mode one that R35 lists, an aligned read of DRAM answers the four bytes at i, little-endian, and
changes no more than the queues of the sub-channels. A read of on-die SRAM answers the word last written there through the window, and
an open value where none was, after an ECC hit at i has had its effect; where the word is lost it answers 0xFFFF_FFFF and sets UNCORR.
The owner's write, with WR_EN in M3 or M4, stores its four bytes: in DRAM every other byte is as it was and nothing but memory and
those queues changes. A read that R35 refuses answers 0 and is reported with reason 2; a write that it refuses stores nothing, and is
reported with reason 2, or 0 for a slot that is not the owner. (R8, R12, R34, R35, R36, R518; derived.) -/
def Obligations.DebugWindow : Prop :=
  ∀ (s : State) (slot off : Nat) (data : Word) (hit : Option SramHit), slot < 4 → 0x2000000 ≤ off → off < 0x4000000 → off % 4 = 0 →
    s.reach slot = true →
    let u := s.inbound slot
    let i := u.windowAt off
    (u.windowOk i = true → 0x4000000000 ≤ i →
      exec (.debugWindowRead slot off 4 hit) s = .next ((u.dramLoad i 4).send (.readData slot 0 off (BitVec.ofNat 32 (u.memWord i))))
        ∧ ∃ d, u.dramLoad i 4 = { u with dram := d })
    ∧ (u.windowOk i = true → i < 0x4000000000 →
      (∀ t, t = (match hit.filter (fun h => hitIsAt h i) with | some h => u.sramHit h | none => u) →
        ((hit.filter (fun h => hitIsAt h i)).filter u.hitLost = none →
          exec (.debugWindowRead slot off 4 hit) s = .next (match t.err.sram.lookup i with
            | some w => t.send (.readData slot 0 off w)
            | none => t.drawn.send (.readData slot 0 off (BitVec.ofNat 32 (t.open_ 32)))))
        ∧ ((hit.filter (fun h => hitIsAt h i)).filter u.hitLost ≠ none →
          exec (.debugWindowRead slot off 4 hit) s = .next ((t.put Reg.DEV_DBG_STS.UNCORR 1).send (.readData slot 0 off 0xFFFFFFFF)))))
    ∧ (u.windowOk i = false →
      exec (.debugWindowRead slot off 4 hit) s = .next ((u.windowRefused slot off 2).send (.readData slot 0 off 0)))
    ∧ (u.windowOk i = true → u.flag Reg.DEV_DBG_CTRL.WR_EN = true → u.modeIn 3 4 = true → u.isOwner slot = true → 0x4000000000 ≤ i →
      ∃ t, exec (.debugWindowWrite slot off 4 data) s = .next t
        ∧ t.memWord i = data.toNat
        ∧ (∀ b, b < i ∨ i + 4 ≤ b → t.byte b = u.byte b) ∧ t.regs = u.regs
        ∧ ∃ d, t = { u with mem := t.mem, dram := d })
    ∧ (u.windowOk i = true → u.flag Reg.DEV_DBG_CTRL.WR_EN = true → u.modeIn 3 4 = true → u.isOwner slot = true → i < 0x4000000000 →
      exec (.debugWindowWrite slot off 4 data) s = .next { u with err := { u.err with sram := Sparse.insert i data u.err.sram } })
    ∧ (u.isOwner slot = true → (u.windowOk i && u.flag Reg.DEV_DBG_CTRL.WR_EN && u.modeIn 3 4) = false →
      exec (.debugWindowWrite slot off 4 data) s = .next (u.windowRefused slot off 2))
    ∧ (u.isOwner slot = false → exec (.debugWindowWrite slot off 4 data) s = .next (u.windowRefused slot off 0))

/-- Setting Meridian, the PTM dialogue, time exchanges and holdover. MER_SET loads the buffered and written halves in M2 to M4 while the
role is not FOLLOWER, and is otherwise reported as a locked write. A PTM dialogue that is due on a running device latches the root's
time and Meridian time of one instant and counts SEQ where the selected port answers, and else sets FAIL. An exchange on a peer link
that is up: the requester sends TT_REQ, and where the link steers it the exchange enters the loop; a station peer that does not
declare itself MASTER is ignored; a member that does not request but answers there sends TT_RSP and TIME; any other exchange changes
nothing. A follower that has missed three exchanges, or whose uplink is not up, clears LOCKED, sets HOLD and LOCK_LOST and posts
ST_MER_HOLDOVER, once in a holdover; one whose holdover estimate passes HOLD_LIM sets HOLD_LIM_EXC and posts ST_MER_HOLD_LIMIT, once
in a holdover. (R38, R39, R40, R41, R42, R251, R255, R319, notes/assumptions/106, notes/assumptions/107; derived.) -/
def Obligations.MeridianTimeCommands : Prop :=
  (∀ (s : State) (slot : Nat) (hi : Word), s.mayWrite slot (Reg.MER_SET.PAIR.addr + 4) →
    ((s.inbound slot).modeIn 2 4 = true → (s.inbound slot).get Reg.MER_CTRL.ROLE ≠ 2 →
      exec (.merSet slot hi) s = .next { (s.inbound slot).retime with now := (s.inbound slot).pairWritten slot Reg.MER_SET.PAIR.addr hi })
    ∧ ((s.inbound slot).modeIn 2 4 = false ∨ (s.inbound slot).get Reg.MER_CTRL.ROLE = 2 →
      exec (.merSet slot hi) s = .next ((s.inbound slot).reportAccess slot 0 (Reg.MER_SET.PAIR.addr + 4) 1)))
  ∧ (∀ s : State, s.awake = true → s.flag Reg.MER_PTM_CTRL.EN = true →
    (∀ t, s.tb.ptmAt = some t → t + 4000000 * 2 ^ min (s.get Reg.MER_PTM_CTRL.PERIOD) 10 ≤ s.now) →
    let port := s.get Reg.MER_PTM_CTRL.PORT
    let u := (s.setTb ({ · with ptmAt := some s.now })).pmcAdd 454
    let v := u.send (.ptm port)
    (s.reach port = true → ∀ root, exec (.ptmDialogue (some root)) s = .next
      ((((v.put64 Reg.MER_PTM_ROOT.PAIR root).put64 Reg.MER_PTM_MT.PAIR v.now).put Reg.MER_PTM_CTRL.VALID 1).put Reg.MER_PTM_CTRL.SEQ
        ((((v.put64 Reg.MER_PTM_ROOT.PAIR root).put64 Reg.MER_PTM_MT.PAIR v.now).get Reg.MER_PTM_CTRL.SEQ) + 1)))
    ∧ (s.reach port = true → exec (.ptmDialogue none) s = .next (v.put Reg.MER_PTM_CTRL.FAIL 1))
    ∧ (s.reach port = false → ∀ root, exec (.ptmDialogue root) s = .next (u.put Reg.MER_PTM_CTRL.FAIL 1)))
  ∧ (∀ (s : State) (l xid t1 t2 t3 t4 : Nat), l < 9 → s.awake = true → s.peerLink l = 8 →
    (s.requests (s.roleAt t1) l = true → (l = 0 ∨ (s.peer l).annRole = 1) → s.steeredBy (s.roleAt t1) = some l →
      exec (.stationTimeExchange (peerLane l) xid t1 ⟨t2, t3⟩ t4) s = .next ((s.peerTtReq l).follow t1 t2 t3 t4))
    ∧ (s.requests (s.roleAt t1) l = true → (l = 0 ∨ (s.peer l).annRole = 1) → s.steeredBy (s.roleAt t1) ≠ some l →
      exec (.stationTimeExchange (peerLane l) xid t1 ⟨t2, t3⟩ t4) s = .next (s.peerTtReq l))
    ∧ (s.requests (s.roleAt t1) l = true → l ≠ 0 → (s.peer l).annRole ≠ 1 →
      exec (.stationTimeExchange (peerLane l) xid t1 ⟨t2, t3⟩ t4) s = .next s)
    ∧ (s.requests (s.roleAt t1) l = false → s.answers (s.roleAt t2) l = true →
      exec (.stationTimeExchange (peerLane l) xid t1 ⟨t2, t3⟩ t4) s = .next (s.peerAnswer l xid t2 t3))
    ∧ (s.requests (s.roleAt t1) l = false → s.answers (s.roleAt t2) l = false →
      exec (.stationTimeExchange (peerLane l) xid t1 ⟨t2, t3⟩ t4) s = .next s))
  ∧ (∀ (s : State) (l : Nat), s.steering = some l →
    (s.flag Reg.MER_STN_STS.HOLD = false → 3 ≤ s.tb.missed ∨ s.peerLink l ≠ 8 ∨ s.tb.lastGood.getD (s.peer l).since + 3 * 4000000 ≤ s.now →
      exec .stMerHoldover s = .next (((((s.setTb (fun t => { t with goodRun := 0, holdTold := false })).put Reg.MER_STN_STS.LOCKED 0).put
        Reg.MER_STN_STS.HOLD 1).put Reg.MER_STN_STS.LOCK_LOST 1).post (ev Code.ST_MER_HOLDOVER srcMER)))
    ∧ (s.flag Reg.MER_STN_STS.HOLD = true → exec .stMerHoldover s = .next s))
  ∧ (∀ s : State, let estimate := (s.now - s.tb.lastGood.getD 0) * s.get Reg.MER_STN_CFG.HOLD_PPB
    (s.flag Reg.MER_STN_STS.HOLD = true → s.tb.holdTold = false → s.get Reg.MER_STN_CFG.HOLD_LIM * 4000000000 < estimate →
      exec .stMerHoldLimit s = .next (((s.put Reg.MER_STN_STS.HOLD_LIM_EXC 1).setTb ({ · with holdTold := true })).post
        (ev Code.ST_MER_HOLD_LIMIT srcMER)))
    ∧ (s.flag Reg.MER_STN_STS.HOLD = false ∨ s.tb.holdTold = true ∨ estimate ≤ s.get Reg.MER_STN_CFG.HOLD_LIM * 4000000000 →
      exec .stMerHoldLimit s = .next s))

/-- What a count, a quadrature error, a comparison, an index and an ENCOUT pair do. While the field die decodes: a valid transition of the
selected input, whose level lasts FILT ns or more, changes the 48-bit count by one in the decoded sense, drives ENCOUT, and where its
sense is against the direction in force also turns the web; the other input counts the check increment; a shorter level is ignored. A
quadrature error of the selected input leaves the count, sets QERR and counts; where sixteen lie within 1 ms and no burst runs it
begins one: QERR_BURST, its event and Safe-stop. With CHK_EN at 1 a comparison that finds the increments further apart than the
tolerance sets CHK_MISMATCH and posts, and with CHK_ACT stops; every comparison starts the increments again. An index applies a
waiting ENCOUT pair and shows on Z; where IDX_MODE is ALWAYS, or ONCE and armed, it loads the count with IDX_VAL, records the jump and
clears ARM; otherwise it loads nothing. A write of ENCOUT_M commits a pair with 1 ≤ N ≤ M to the field die; any other pair sets
CFG_ERR; a locked one is dropped and reported where it would change the pair. (R43, R44, R45, R46, R47, R48, R14, R15; derived.) -/
def Obligations.EncoderCommands : Prop :=
  (∀ (s : State) (input level : Nat) (forward : Bool), s.decodes = true → input < 2 →
    let fwd := forward != s.fflag Reg.ENC_CTRL.INV
    (s.mainInput input = true → s.fget Reg.ENC_CTRL.FILT ≤ level →
      let c := (s.get64 Reg.ENC_COUNT.PAIR + (if fwd then 1 else 2 ^ 48 - 1)) % 2 ^ 48
      let a := (s.put64 Reg.ENC_COUNT.PAIR c).pmcAdd (if fwd then 456 else 457)
      let b := a.setFld ({ · with edgeAt := some a.now })
      let t := (b.encoutStep fwd).encoutDrive.setTb (fun t => { t with incMain := t.incMain + (if fwd then 1 else -1) })
      exec (.encoderCount input ⟨forward, level⟩) s = .next (if t.flag Reg.ENC_STS.DIR = fwd then t.turnWeb (!fwd) else t))
    ∧ (s.mainInput input = false → s.fget Reg.ENC_CTRL.FILT ≤ level →
      exec (.encoderCount input ⟨forward, level⟩) s
        = .next (s.setTb (fun t => { t with incChk := t.incChk + (if fwd then 1 else -1) })))
    ∧ (level < s.fget Reg.ENC_CTRL.FILT → exec (.encoderCount input ⟨forward, level⟩) s = .next s))
  ∧ (∀ (s : State) (input : Nat), s.decodes = true → s.mainInput input = true →
    let a := ((s.put Reg.ENC_STS.QERR 1).count Reg.ENC_QERR_CNT.CNT).pmcAdd 458
    let old := a.tb.qerrs.filter (fun t => a.now < t + 4000000)
    let bursting := a.tb.qburst && 16 ≤ old.length
    let b := a.setTb ({ · with qerrs := (a.now :: old).take 64, qburst := bursting || 16 ≤ old.length + 1 })
    exec (.quadratureError input) s = .next (if bursting = false ∧ 16 ≤ old.length + 1
      then State.safeStop Code.ST_ENC_QERR_BURST ((b.put Reg.ENC_STS.QERR_BURST 1).post (ev Code.ST_ENC_QERR_BURST srcENC)) else b))
  ∧ (∀ s : State,
    let d := s.tb.incMain * 2 ^ 24 - s.tb.incChk * s.get Reg.ENC_CHK_RATIO.RATIO
    let a := s.setTb ({ · with incMain := 0, incChk := 0 })
    (s.flag Reg.ENC_CTRL.CHK_EN = true → s.get Reg.ENC_CHK_TOL.TOL * 2 ^ 24 < d.natAbs →
      let t := (a.put Reg.ENC_STS.CHK_MISMATCH 1).post (ev Code.ST_ENC_CHECK_MISMATCH srcENC)
      exec .encCheckCompare s = .next (if t.flag Reg.ENC_CTRL.CHK_ACT then State.safeStop Code.ST_ENC_CHECK_MISMATCH t else t))
    ∧ (s.flag Reg.ENC_CTRL.CHK_EN = false ∨ d.natAbs ≤ s.get Reg.ENC_CHK_TOL.TOL * 2 ^ 24 → exec .encCheckCompare s = .next a))
  ∧ (∀ (s : State) (input : Nat), s.decodes = true → s.mainInput input = true →
    let a := (match s.tb.encoutPend with
      | some (n, m) => s.encoutTake n m
      | none => s).encoutIndex
    let pre := a.get64 Reg.ENC_COUNT.PAIR
    let val := signed 32 (a.fget Reg.ENC_IDX_VAL.VAL)
    let b := (((a.put64 Reg.ENC_COUNT.PAIR (unsigned 48 val)).putSat Reg.ENC_IDX_JUMP.JUMP (wrapCount ((pre : Int) - val))).put
      Reg.ENC_STS.IDX 1).put Reg.ENC_CTRL.ARM 0
    exec (.encoderIndex input) s = .next (
      if a.fget Reg.ENC_CTRL.IDX_MODE = 1 ∨ a.fget Reg.ENC_CTRL.IDX_MODE = 2 ∧ a.flag Reg.ENC_CTRL.ARM = true
      then ((b.setFld (fun f => { f with idxAt := some (pre % 2 ^ 18, b.now) })).pmcAdd 459).post (ev Code.ST_ENC_INDEX srcENC) else a))
  ∧ (∀ (s : State) (slot : Nat) (data : Word), s.mayWrite slot Reg.ENCOUT_M.AT →
    let n := (s.inbound slot).tb.encoutBuf.getD ((s.inbound slot).get Reg.ENCOUT_N.N)
    let u := (s.inbound slot).setTb ({ · with encoutBuf := none })
    (u.lockedAt Reg.ENCOUT_M.AT = false → 1 ≤ n → n ≤ data.toNat →
      exec (.encoutMCommit slot data) s = .next ((u.commitField Reg.ENCOUT_N.AT (BitVec.ofNat 32 n)).commitField Reg.ENCOUT_M.AT data))
    ∧ (u.lockedAt Reg.ENCOUT_M.AT = false → n = 0 ∨ data.toNat < n →
      exec (.encoutMCommit slot data) s = .next (u.put Reg.ENC_STS.CFG_ERR 1))
    ∧ (u.lockedAt Reg.ENCOUT_M.AT = true → exec (.encoutMCommit slot data) s = .next (
      if u.get Reg.ENCOUT_M.M ≠ data.toNat ∨ u.get Reg.ENCOUT_N.N ≠ n then u.reportAccess slot 0 Reg.ENCOUT_M.AT 1 else u)))

/-- A sequencer takes a report by R51's arithmetic. After its first report, a report with EDGE moves a sequencer's position, velocity and
edge time by R51's formulas, in exact integers with shifts that round toward minus infinity; one without EDGE leaves the three; and a
forward report raises the high-water position to the new position where that is ahead. The correction adj of the die's counts (R323)
and the removed index jump enter the count. The first report sets the position to the count, the velocity to 0 and the time to the
edge's. (R51, R46, R323; derived.) -/
def Obligations.PredictorArithmetic : Prop :=
  (∀ (x : Seq) (kp kv rpt : Nat) (idxVal adj : Int) (r : EdgeReport) (tk : Nat), x.fresh = false → r.idx = false → r.edge = true →
    let y := x.take kp kv rpt idxVal adj r tk
    let pp := x.ps + sar (x.v * ((r.te : Int) - x.ts)) 32
    let e := wrap48 (((r.count : Int) + x.jump - adj) * 65536 - pp)
    y.ps = wrap48 (pp + sar e kp) ∧ y.v = x.v + sar (e * 2 ^ 32) (kv + rpt) ∧ y.ts = r.te
      ∧ (r.reverse = false → y.hwm = if 0 < wrap48 (y.ps - x.hwm) then y.ps else x.hwm) ∧ (r.reverse = true → y.hwm = x.hwm))
  ∧ (∀ (x : Seq) (kp kv rpt : Nat) (idxVal adj : Int) (r : EdgeReport) (tk : Nat), x.fresh = false → r.edge = false →
    let y := x.take kp kv rpt idxVal adj r tk
    y.ps = x.ps ∧ y.v = x.v ∧ y.ts = x.ts)
  ∧ (∀ (x : Seq) (kp kv rpt : Nat) (idxVal adj : Int) (r : EdgeReport) (tk : Nat), x.fresh = true →
    let y := x.take kp kv rpt idxVal adj r tk
    y.ps = wrap48 (((r.count : Int) - adj) * 65536) ∧ y.v = 0 ∧ y.ts = r.te ∧ y.fresh = false)

/-- Edge reports, the vote, channel self-tests, bar updates and late lines. While TIME_LOCK is set, at a report boundary each field-die
channel sends its report, one that replays its stored pattern, and the interval's edge, index and replay counts start anew. A report
that is expected (R559) and arrives within 1,000 mt enters its sequencer, or on a standby the shadow of one, an index in it giving the
jump; one that has not arrived 1,000 mt after its boundary sets its STALE bit. Once the reports of a boundary are in or can no longer
come, the vote is taken, after channels that have passed their replay load. TRK_CTRL.SELFTEST asks each named channel: one under test
ignores it, one out of the vote begins, one of three in the vote leaves it and begins, one of two ignores it. A replay that matches
has the channel load at the next report boundary; one that does not, or that the field die ignored, fails it. A clean shadow run
brings the channel back and clears FAILED and TESTING; a mismatch fails it. A line that is incomplete at its fire time less 16,000 mt
becomes late. A bar update's COMMIT queues an accepted update and shows its RESULT, and reports a past line or a limit; a standby
drops it with CFG_ERR; a write without COMMIT changes the fields alone. (R50, R51, R55, R58, R63, R64, R66, R67, R329, R430, R432,
R559; derived.) -/
def Obligations.TroikaCommands : Prop :=
  (∀ (s : State) (boundary : Nat), s.fld.lock = true →
    boundary % 2 ^ s.fget Reg.TRK_CFG.RPT_LOG = 0 → boundary ≤ s.now → s.fld.rptAt ≠ some boundary →
    exec (.edgeReport boundary) s = .next ((s.each [0, 1, 2] (fun ch u =>
        if u.fld.replay.any (fun e => e.1 = ch) then
          (u.drawn.sendFrameAt boundary ch 5 (u.open_ 68 % 2 ^ 34)).sendFrameAt (boundary + 164) ch 6 (u.open_ 68 / 2 ^ 34 % 2 ^ 33)
        else u.reportFrames ch boundary)).setFld (fun f => { f with
      edgeAt := none, idxAt := none, rptAt := some boundary,
      replay := (f.replay.map (fun e => (e.1, e.2 - 1))).filter (fun e => e.2 ≠ 0) })))
  ∧ (∀ (s : State) (channel arrival : Nat) (rpt : EdgeReport),
    let tk := arrival / 2 ^ s.get Reg.TRK_CFG.RPT_LOG * 2 ^ s.get Reg.TRK_CFG.RPT_LOG
    channel < 3 → s.flag Reg.FLD_STS.TIME_LOCK = true → s.expects tk = true → s.lastDue tk = false → arrival ≤ tk + 1000 →
    let a := s.loadChannels tk
    let b := if rpt.idx = true ∧ (a.seq channel).fresh = false
      then a.putSat Reg.ENC_IDX_JUMP.JUMP (wrapCount (fullPre (a.seq channel).lastC rpt.cpre - a.getI Reg.ENC_IDX_VAL.VAL)) else a
    (b.votesOwn = true → exec (.edgeReportReceive channel rpt arrival) s
      = .next ((b.seqReport channel tk b.due.adjOwn rpt).keepLocal channel tk (some rpt)))
    ∧ (b.votesOwn = false → exec (.edgeReportReceive channel rpt arrival) s
      = .next ((b.setDue (fun d => { d with shadow := updateAt d.shadow channel (b.taken rpt tk 0) })).keepLocal channel tk (some rpt))))
  ∧ (∀ (s : State) (channel boundary : Nat), channel < 3 → boundary % 2 ^ s.get Reg.TRK_CFG.RPT_LOG = 0 → boundary + 1000 ≤ s.now →
    s.expects boundary = true →
    let mine := if s.votesOwn then s.seq channel else s.due.shadow.getD channel {}
    mine.testing = false → mine.lastTk ≠ some boundary →
    exec (.reportStale channel boundary) s
      = .next ((s.put Reg.ENC_STS.STALE (putBit (s.get Reg.ENC_STS.STALE) channel true)).keepLocal channel boundary none))
  ∧ (∀ (s : State) (boundary : Nat), boundary % 2 ^ s.get Reg.TRK_CFG.RPT_LOG = 0 → boundary ≤ s.now → s.tb.lastVote ≠ some boundary →
    s.expects boundary = true ∨ s.votesOwn = false → s.reportsIn boundary = true →
    exec (.troikaVote boundary) s = .next (((((s.loadChannels boundary).feedPeer boundary).countDiff boundary).report boundary).calWatch))
  ∧ (∀ (s : State) (slot channels : Nat), s.mayWrite slot Reg.TRK_CTRL.AT →
    exec (.trkSelftest slot channels) s = .next ((s.inbound slot).each (bitList 3 channels) State.requestTest))
  ∧ (∀ (s : State) (ch : Nat), s.requestTest ch =
    if bit (s.get Reg.TRK_STS.TESTING) ch = true then s
    else if bit (s.get Reg.TRK_STS.IN) ch = false then s.channelTest ch
    else if s.inVote.length = 3 then (s.leaveVote ch).channelTest ch
    else s)
  ∧ (∀ (s : State) (channel : Nat), channel < 3 → (s.seq channel).testing = true → (s.seq channel).loadAt = none →
    ((s.seq channel).replays = true → exec (.trkSelftestDone channel true) s = .next (s.setSeq channel (fun x => { x with
      loadAt := some ((s.now / 2 ^ s.get Reg.TRK_CFG.RPT_LOG + 1) * 2 ^ s.get Reg.TRK_CFG.RPT_LOG) })))
    ∧ exec (.trkSelftestDone channel false) s = .next (s.channelFails channel)
    ∧ ((s.seq channel).replays = false → exec (.trkSelftestDone channel true) s = .next (s.channelFails channel)))
  ∧ (∀ (s : State) (channel : Nat), channel < 3 → (s.seq channel).shadow = some 0 →
    ((s.seq channel).shadowBad = false →
      let a := s.put Reg.TRK_STS.TESTING (putBit (s.get Reg.TRK_STS.TESTING) channel false)
      let b := a.put Reg.TRK_STS.FAILED (putBit (a.get Reg.TRK_STS.FAILED) channel false)
      let c := b.put Reg.TRK_STS.IN (putBit (b.get Reg.TRK_STS.IN) channel true)
      let d := (c.putB Reg.TRK_STS.DUAL (c.get Reg.TRK_STS.IN ≠ 7)).setSeq channel ({ · with shadow := none })
      exec (.trkShadowEnd channel) s = .next ((d.post (ev Code.ST_TRK_SELFTEST_PASS (srcT channel))).channelOutcome channel 1))
    ∧ ((s.seq channel).shadowBad = true → exec (.trkShadowEnd channel) s = .next (s.channelFails channel)))
  ∧ (∀ (s : State) (port row line : Nat) (l : PLine), s.job.lines.find? (fun l => l.row = 16 * port + row && l.line = line) = some l →
    l.tf ≤ s.now + 16000 → l.incomplete = true → exec (.stLateWork port row line) s = .next (s.deadline l))
  ∧ (∀ (s : State) (slot : Nat) (data : Word), s.mayWrite slot Reg.TRK_BUPD_CTRL.AT →
    let w := (s.inbound slot).writeFields slot Reg.TRK_BUPD_CTRL.AT data
    let b := w.get Reg.TRK_BUPD_CTRL.BAR
    let line := w.get64 Reg.TRK_BUPD_LINE.PAIR
    let sc := w.get Reg.TRK_BUPD_S.S
    let ofs := w.getI Reg.TRK_BUPD_B.B
    (bit data.toNat 8 = false → exec (.barUpdateCommit slot data) s = .next w.showQueues)
    ∧ (bit data.toNat 8 = true → w.get Reg.DUE_STS.ROLE = 2 → exec (.barUpdateCommit slot data) s = .next (w.put Reg.DUE_EVT.CFG_ERR 1).showQueues)
    ∧ (bit data.toNat 8 = true → w.get Reg.DUE_STS.ROLE ≠ 2 → exec (.barUpdateCommit slot data) s = .next
      (((match w.barResult b line sc ofs with
        | 0 => w.queueBar b line sc ofs
        | 1 => w.post (ev Code.ST_TRK_UPDATE_PAST srcTRK none line (dataBar b))
        | 2 => w.post (ev Code.ST_TRK_UPDATE_LIMIT srcTRK none line (dataBar b))
        | _ => w).put Reg.TRK_BUPD_CTRL.RESULT (w.barResult b line sc ofs)).showQueues).showQueues))

/-- Jobs, pages and bands. A job descriptor at the head of a running job ring, in the mode its kind needs, is accepted where no check of
R79 fails and no third chain or screen set is needed; it is held where one is; and it completes with the first failing check's code
otherwise, a job held till then no longer held. A page of a refused job, malformed, of a job neither accepted nor waiting, out of
order (after an END page too: the model's choice, log entry 113) or with a band table that does not fit completes with its code; any
other joins its job with its bands waiting. A replacement of a page that has not completed, of the same LINES, is decided at the
boundary last voted by what the chain's rows have passed, and on a standby by the primary's decision; one of other LINES completes
with ST_REPLACE_LINES, and one of a completed page is late. The first waiting band whose slots are free starts on the lowest idle
reserved channel, and its stream's end writes the band and frees the channel: complete where it inflates to the band's size, failed
with its code and an event otherwise, whose second argument names the job line and the job (log entry 112). (R76, R79, R81, R83, R84,
R86, R87, R93, R98, R379, notes/assumptions/112, notes/assumptions/113; derived.) -/
def Obligations.JobAndPageCommands : Prop :=
  (∀ (s : State) (ring : Nat) (geom : List Byte) (d : Desc), s.headDesc ring = some d → s.ringType ring = 1 → d.kind = 1 →
    (if d.jobBody.cal then s.mode = 9 else s.modeIn 4 7 = true) →
    let u := s.send (.hostRead (s.ringPort ring) (d.at_ 40 8) d.jobBody.geomLen)
    let v := (u.jobRefusal d d.jobBody geom).2
    ((u.jobRefusal d d.jobBody geom).1 = none → v.jobHeld d.jobBody = false →
      exec (.job ring geom) s = .next (v.acceptJob ring d.index d.jobBody geom))
    ∧ ((u.jobRefusal d d.jobBody geom).1 = none → v.jobHeld d.jobBody = true →
      exec (.job ring geom) s = .next ((v.setJobs ({ · with held := some (d.jobBody.join, d.jobBody.id) })).put Reg.JOB_STS.HELD 1))
    ∧ (∀ code, (u.jobRefusal d d.jobBody geom).1 = some code →
      let x := v.setJobs (fun j => { j with refused := d.jobBody.id :: j.refused.filter (· ≠ d.jobBody.id) })
      exec (.job ring geom) s = .next (State.pageEnds (if x.job.held.any (fun h => h.2 = d.jobBody.id) then x.notHeld else x) ring d code)))
  ∧ (∀ (s : State) (ring : Nat) (table : List Byte) (d : Desc), s.headDesc ring = some d → s.ringType ring = 1 → d.kind = 2 →
    let found := s.job.jobs.find? (·.id = d.at_ 16 2)
    (s.job.refused.contains (d.at_ 16 2) = true → exec (.page ring table) s = .next (s.pageEnds ring d Code.ST_JOB_REFUSED))
    ∧ (s.job.refused.contains (d.at_ 16 2) = false → pageFormatBad d = true →
      exec (.page ring table) s = .next (s.pageEnds ring d Code.ST_JOB_FORMAT))
    ∧ (s.job.refused.contains (d.at_ 16 2) = false → pageFormatBad d = false → found = none →
      exec (.page ring table) s = .next (if s.jobWaits (d.at_ 16 2) then s else s.pageEnds ring d Code.ST_JOB_FORMAT))
    ∧ (∀ j, s.job.refused.contains (d.at_ 16 2) = false → pageFormatBad d = false → found = some j → bit (d.at_ 18 2) 1 = false →
      (d.at_ 20 4 ≠ j.nextPage ∨ j.total.isSome = true → exec (.page ring table) s = .next (s.pageEnds ring d Code.ST_PAGE_ORDER))
      ∧ (d.at_ 20 4 = j.nextPage → j.total.isSome = false →
        let u := s.send (.hostRead (s.ringPort ring) (d.at_ 32 8) (16 * d.at_ 28 4))
        (∀ bands, pageBands j (d.at_ 24 4) table (d.at_ 28 4) = some bands → exec (.page ring table) s = .next (u.addPage ring d j bands))
        ∧ (pageBands j (d.at_ 24 4) table (d.at_ 28 4) = none →
          exec (.page ring table) s = .next (u.pageEnds ring d Code.ST_JOB_FORMAT)))))
  ∧ (∀ (s : State) (ring boundary : Nat) (table : List Byte) (d : Desc) (j : Job) (p : Page), s.replacement ring = some (d, j, some p) →
    (d.at_ 24 4 ≠ p.lines → exec (.pageReplaceDecision ring boundary table) s = .next (s.pageEnds ring d Code.ST_REPLACE_LINES))
    ∧ (d.at_ 24 4 = p.lines → s.get Reg.DUE_STS.ROLE ≠ 2 → s.tb.lastVote = some boundary →
      exec (.pageReplaceDecision ring boundary table) s
        = .next (s.decideReplace ring table d j p (s.chainReach j.chain + s.get Reg.JOB_RPL_GUARD.GUARD ≤ p.first)))
    ∧ (∀ (first : Order) (l : List Order) (a : Bool), d.at_ 24 4 = p.lines → s.get Reg.DUE_STS.ROLE = 2 → first = .replace p.first a →
      s.due.orders = first :: l →
      exec (.pageReplaceDecision ring boundary table) s = .next ((s.setDue (fun x => { x with
        orders := x.orders.filter (fun o => o ≠ .replace p.first a) })).decideReplace ring table d j p a)))
  ∧ (∀ (s : State) (ring boundary : Nat) (table : List Byte) (d : Desc) (j : Job) (no first lines : Nat),
    s.replacement ring = some (d, j, none) → j.done.find? (·.1 = d.at_ 20 4) = some (no, first, lines) →
    (d.at_ 24 4 ≠ lines → exec (.pageReplaceDecision ring boundary table) s = .next (s.pageEnds ring d Code.ST_REPLACE_LINES))
    ∧ (d.at_ 24 4 = lines → s.tb.lastVote = some boundary →
      exec (.pageReplaceDecision ring boundary table) s = .next (s.pageEnds ring d Code.ST_REPLACE_LATE)))
  ∧ (∀ (s : State) (j : Job) (p : Page) (b : Band) (l : List (Job × Page × Band)) (ch : Nat) (c : Chain),
    s.waitingBands = (j, p, b) :: l → s.idlePageChannel = some ch → s.chain? j.chain = some c → p.first < farLine →
    s.slotFree c (p.first + b.idx * j.bandLines + bandSpan j p b.idx - 1) = true → s.domOn 11 = true →
    let u := s.setBand j.id p.no b.idx b.bar ({ · with st := .running ch })
    exec .bandDispatch s = .next ((u.put Reg.ZIP_STS.PAGE_BUSY (putBit (u.get Reg.ZIP_STS.PAGE_BUSY) ch true)).send
      (.hostRead (u.ringPort p.ring) b.addr b.len)))
  ∧ (∀ (s : State) (ch : Nat) (stream : Option (List Byte)) (j : Job) (p : Page) (b : Band) (c : Chain) (out : List Byte) (used : Nat)
      (bad : Option (Nat × Option Nat)),
    s.runningBand ch = some (j, p, b) → s.chain? j.chain = some c →
    bandResult p.zlib (bandSpan j p b.idx * j.cw * (1 + j.depth)) (stream.map (fun bs => bs.take b.len)) = (out, used, bad) →
    let v := s.writeBand c j p b out
    let u := (v.put Reg.ZIP_STS.PAGE_BUSY (putBit (s.get Reg.ZIP_STS.PAGE_BUSY) ch false)).zipWork ch used out.length (bad.any (·.2.isSome))
    (bad = none → exec (.bandComplete ch stream) s
      = .next (u.setBand j.id p.no b.idx b.bar ({ · with st := .complete, doneAt := u.now })))
    ∧ (∀ code why, bad = some (code, why) → exec (.bandComplete ch stream) s
      = .next ((u.setBand j.id p.no b.idx b.bar ({ · with st := .failed code })).post
          (ev code srcJOB why (some (bandLineArg j p b)) (dataBar b.bar)))))

/-- Chains start and end, and a screen set's preload ends. Where publication is allowed at a boundary (the mode and its first printing
boundary, a report expected, forward, no crawl, a majority), a chain that waits on a device that is no standby starts with its origin:
the lead channel's high-water position, or its position at the index edge, plus the chain's offset in counts; the start is ordered to
a standby, and calibration batches take their cells. A chain whose last line is settled on every row ends: its camera frames close,
its updates are discarded, unfinished batches are carried to the next chain, the pages are done and a move settles. A preloaded set
ends once no published line still needs its bank: one that fails its checks is bad in every engine; otherwise the bank holds it, valid
in every engine but those whose copy failed twice, each of which is told, and each job that waited for it is ready from the chain's
reach on, or bad where its own bars fail. (R53, R89, R92, R97, R119, R144, R300, R304, R325, R508, notes/assumptions/109,
notes/assumptions/188; derived.) -/
def Obligations.ChainAndScreenCommands : Prop :=
  (∀ (s : State) (boundary : Nat) (c : Chain), s.waitingChain = some c →
    (if c.cal then s.mode = 9 else s.modeIn 6 7 = true ∧ s.pwr.printFrom ≤ boundary) → s.get Reg.DUE_STS.ROLE ≠ 2 → s.expects boundary = true →
    s.tb.dirRev = false → s.flag Reg.TRK_STS.CRAWL = false → s.tb.noMaj = false → boundary ≤ s.now →
    boundary % 2 ^ s.get Reg.TRK_CFG.RPT_LOG = 0 →
    (c.index = false → ∀ indexTe,
      let o := wrap48 (s.leadSeq.hwm + c.ofs * 65536)
      let t := (s.startChain c o).order [0, boundary, unsigned 64 o]
      exec (.chainStart boundary indexTe) s = .next (t.each ((t.cal.batches.map (·.bar)).eraseDups) (fun b s => s.assignShare b)))
    ∧ (c.index = true → ∀ te : Nat,
      let o := wrap48 (s.leadSeq.ps + sar (s.leadSeq.v * ((te : Int) - s.leadSeq.ts)) 32 + c.ofs * 65536)
      let t := (s.startChain c o).order [0, boundary, unsigned 64 o]
      exec (.chainStart boundary (some te)) s = .next (t.each ((t.cal.batches.map (·.bar)).eraseDups) (fun b s => s.assignShare b))))
  ∧ (∀ (s : State) (c : Chain), s.flying.find? s.chainDone = some c →
    let u := s.closeChainFrames c.id
    let t := (((u.pagesDone.finishChain c).refire c.id (u.chainAfter c.id)).pagesDone).settleMove.refreshCeil
    exec .chainEnd s = .next (t.each ((t.cal.batches.map (·.bar)).eraseDups) (fun b s => s.assignShare b)))
  ∧ (∀ (s : State) (set : List Byte) (bad : List Nat) (addr len bank : Nat), s.job.lastSet = some (addr, len, bank, .loading) →
    s.job.lines.any (fun l => l.bank = bank && l.blocks.any (·.words = none)) = false →
    let found := screenFails set len ((s.job.busyFor.bind (fun id => (s.job.jobs.find? (·.id = id)).map (·.bars))).getD [])
    (∀ off, found = some off → exec (.screenPreloadDone set bad) s = .next (s.screenFailed addr len bank off))
    ∧ (found = none →
      let held := s.setEng (fun e => { e with
        bankA := if bank = 0 then set else e.bankA, bankB := if bank = 1 then set else e.bankB,
        badCopy := (bad.filter (· < 64)).map (fun n => (n, bank)) ++ e.badCopy })
      let shown := held.each (List.range 64) (fun n u => u.put (Reg.SE_STS.SHADOW n) (if bad.contains n then 3 else 2))
      let told := (shown.each (bad.filter (· < 64)) (fun n u => u.post (ev Code.ST_SCREEN_SET_BAD (srcSE n)))).setJobs
        ({ · with lastSet := some (addr, len, bank, .valid) })
      exec (.screenPreloadDone set bad) s = .next (told.each (told.job.jobs.filter (fun x => x.bank = bank && x.preload = .loading)) (fun x u =>
        match barsFail set x.bars with
        | some off => (u.setJob x.id ({ · with preload := .bad })).screenBad off
        | none => u.setJob x.id (fun y => { y with
            preload := .valid, readyLine := some (max (u.chainReach x.chain) (if y.z < farLine then y.z else 0)) })))))

/-- What engines do for a published line, and their spot-checks and self-tests. An engine that is not out and has blocks of a published
line to fetch issues the segment reads of those blocks, at that time; a line of a calibration job needs none, and a frozen controller
takes none, so that the blocks are withheld with ST_MEM_FROZEN. A read that completes makes its segments present, or, uncorrectable or
frozen, withholds them. Where nothing nearer its deadline is ready and memory is not frozen, the line's ready blocks are composed if
their work fits before the deadline, and are abandoned with ST_LATE_WORK where it does not. A spot-check is made by another engine of
a block whose turn it is, or whose engine is suspect: one that finishes counts DONE, one that has no time counts SKIP, and a mismatch
takes the engine to its self-test. The owner's request starts a self-test, unless one runs, in STATE TEST where the engine is not out;
its end is PASS or FAIL, or INCOMPLETE after 100 ms. (R105, R106, R107, R137, R139, R140, R141, R142, R404, R405, R416, R417;
derived.) -/
def Obligations.EngineCommands : Prop :=
  (∀ (s : State) (engine row line : Nat) (l : PLine) (x : LineCtx), s.lineOf row line = some l → s.engineOut engine = false →
    l.blocks.any (fun b => b.toFetch engine) = true → s.lineCtx l = some x →
    let segs := if x.j.cal then [] else ((l.blocks.filter (fun b => b.toFetch engine)).flatMap (fun b => s.segments x b.nb)).eraseDups
    exec (.segmentFetch engine row line) s = .next ((s.setLine l (fun l => l.blocksOf engine (fun b =>
      if b.toFetch engine then { b with
        issued := some s.now, present := segs = [], cause := if s.frozen && segs ≠ [] then some Code.ST_MEM_FROZEN else none }
      else b))).tickFetch (engine, row, line) segs))
  ∧ (∀ (s : State) (engine row line : Nat) (l : PLine) (uncorrectable : Bool), s.lineOf row line = some l →
    let u := s.tickDone (engine, row, line)
    exec (.tickReadComplete engine row line uncorrectable) s = .next (u.setLine l (fun l => l.blocksOf engine (fun b =>
      if b.issued.isNone || b.present || b.cause.isSome then b
      else if uncorrectable || s.frozen then { b with cause := some Code.ST_MEM_FROZEN } else { b with present := true }))))
  ∧ (∀ (s : State) (engine row line : Nat) (l : PLine), s.lineOf row line = some l → s.readyBlocks engine l ≠ [] →
    s.engineOut engine = false → s.frozen = false → (∀ x ∈ s.job.lines, x.tf < l.tf → s.readyBlocks engine x = []) →
    (s.workFits (s.readyBlocks engine l).length l.tf = false →
      exec (.engineLineCompute engine row line) s = .next (s.setLine l (fun l' => l'.blocksOf engine (fun b =>
        if (s.readyBlocks engine l).contains b then { b with cause := some Code.ST_LATE_WORK } else b))))
    ∧ (∀ x, s.workFits (s.readyBlocks engine l).length l.tf = true → s.lineCtx l = some x →
      exec (.engineLineCompute engine row line) s = .next
        (((s.each (s.readyBlocks engine l) (fun b s => s.compose x b.nb)).tellDigest row line).pipeWorks engine
          (128 * (s.readyBlocks engine l).length))))
  ∧ (∀ (s : State) (block line n : Nat),
    let l := (s.lineOf (block / 3) line).filter (fun l => ((l.blk block).bind (·.words)).isSome)
    (match l with | some l => (l.blk block).bind (·.engine) | none => s.servedBy block) = some n → s.flag Reg.FAB_CTRL.SPOT_EN = true →
    s.engineOut n = false → s.get (Reg.SE_CHECKER.CHECKED_BY n) ≠ n → (line + block) % 64 = 0 ∨ s.flag (Reg.SE_STS.SUSPECT n) = true →
    exec (.spotCheck block line true true) s = .next (s.count (Reg.SE_SPOT.DONE n))
    ∧ exec (.spotCheck block line true false) s = .next ((s.count (Reg.SE_SPOT.DONE n)).spotMismatch n block l)
    ∧ (∀ m, exec (.spotCheck block line false m) s = .next (s.count (Reg.SE_SPOT.SKIP n))))
  ∧ (∀ (s : State) (slot engine : Nat), engine < 64 → s.mayWrite slot (Reg.SE_CTRL.AT engine) →
    let u := s.inbound slot
    (u.eng.tests.any (fun t => t.1 = engine) = true → exec (.seSelftest slot engine) s = .next u)
    ∧ (u.eng.tests.any (fun t => t.1 = engine) = false →
      let a := u.testStarted.setEng (fun e => { e with tests := (engine, 0, u.now) :: e.tests })
      let b := (a.put (Reg.SE_SELFTEST.RUNNING engine) 1).put (Reg.SE_SELFTEST.CAUSE engine) 0
      exec (.seSelftest slot engine) s = .next (if b.engineOut engine then b else b.put (Reg.SE_STS.STATE engine) 2)))
  ∧ (∀ (s : State) (engine cause at_ : Nat), s.eng.tests.find? (fun t => t.1 = engine) = some (engine, cause, at_) →
    exec (.seSelftestDone engine true) s = .next (s.engineTestEnds engine cause 1)
    ∧ exec (.seSelftestDone engine false) s = .next (s.engineTestEnds engine cause 2)
    ∧ (at_ + 400000000 ≤ s.now → exec (.seSelftestTimeout engine) s = .next (s.engineTestEnds engine cause 3)))

/-- Fabric updates, the fabric map and the move of an engine's blocks. A commit of a cross-web or of a trim-temperature update is judged
and its RESULT shown; a standby drops it with CFG_ERR, and a write without COMMIT changes the fields alone. A commit of the staged map
gives the first refusal of R132 in MAP_RESULT, or brings the map into force; a write of FAB_CTRL without it changes the fields alone.
A commit of a move gives its refusal in RESULT, or begins the move; a write without it changes the fields alone. Once the target has
loaded the records of a move, every row that holds moved blocks takes the target from its next line, which for a row in no chain is at
once; where there is no such row the move ends. (R111, R125, R132, R136, R140, R329, R350; derived.) -/
def Obligations.FabricCommands : Prop :=
  (∀ (s : State) (slot : Nat) (data : Word), s.mayWrite slot Reg.FAB_XUPD_CTRL.AT →
    let w := (s.inbound slot).writeFields slot Reg.FAB_XUPD_CTRL.AT data
    let b := w.get Reg.FAB_XUPD_CTRL.BAR
    let line := w.get64 Reg.FAB_XUPD_LINE.PAIR
    let sx := w.get Reg.FAB_XUPD_SX.SX
    let bx := w.getI Reg.FAB_XUPD_BX.BX
    exec (.xwebUpdateCommit slot data) s = .next (State.showQueues (
      if bit data.toNat 8 = false then w
      else if w.get Reg.DUE_STS.ROLE = 2 then w.put Reg.DUE_EVT.CFG_ERR 1
      else ((match w.xwebResult b line sx bx with
        | 0 => w.queueXweb b line sx bx
        | 1 => w.post (ev Code.ST_FAB_XUPD_PAST srcFAB none line (dataBar b))
        | 2 => w.post (ev Code.ST_FAB_XUPD_LIMIT srcFAB none line (dataBar b))
        | _ => w).put Reg.FAB_XUPD_CTRL.RESULT (w.xwebResult b line sx bx)).showQueues)))
  ∧ (∀ (s : State) (slot : Nat) (data : Word), s.mayWrite slot Reg.FAB_TUPD_CTRL.AT →
    let w := (s.inbound slot).writeFields slot Reg.FAB_TUPD_CTRL.AT data
    let r := w.trimUpdate (w.get Reg.FAB_TUPD_CTRL.PORT) (w.get64 Reg.FAB_TUPD_LINE.PAIR) (w.getI Reg.FAB_TUPD_TEMP.TEMP)
    exec (.trimTempUpdateCommit slot data) s = .next (State.showQueues (
      if bit data.toNat 8 = false then w
      else if w.get Reg.DUE_STS.ROLE = 2 then w.put Reg.DUE_EVT.CFG_ERR 1
      else (r.2.put Reg.FAB_TUPD_CTRL.RESULT r.1).showQueues)))
  ∧ (∀ (s : State) (slot : Nat) (data : Word), s.mayWrite slot Reg.FAB_CTRL.AT →
    let w := (s.inbound slot).writeFields slot Reg.FAB_CTRL.AT data
    let r := w.mapResult (s.lockedAt Reg.FAB_CTRL.AT)
    let t := w.put Reg.FAB_STS.MAP_RESULT r
    exec (.fabMapCommit slot data) s = .next (if bit data.toNat 1 = false then w else if r = 0 then t.takeMap else t))
  ∧ (∀ (s : State) (slot : Nat) (data : Word), s.mayWrite slot Reg.FAB_MOVE_CTRL.AT →
    let w := (s.inbound slot).writeFields slot Reg.FAB_MOVE_CTRL.AT data
    let src := w.get Reg.FAB_MOVE_CTRL.SRC
    let dst := w.get Reg.FAB_MOVE_CTRL.DST
    let r := w.moveRefused src dst
    let t := w.put Reg.FAB_MOVE_CTRL.RESULT r
    exec (.fabMoveCommit slot data) s = .next (
      if bit data.toNat 13 = false then w
      else if r = 0 then (t.setEng ({ · with move := some ⟨src, dst, false, [], [], []⟩ })).put Reg.FAB_STS.MOVE_BUSY 1 else t))
  ∧ (∀ (s : State) (bad : List Nat) (m : Move), s.eng.move = some m → m.loaded = false →
    let rows := ((s.engineBlocks m.src).map (· / 3)).eraseDups
    let t := s.setEng ({ · with move := some { m with loaded := true, rows := rows, badRows := bad } })
    exec (.fabMoveLoadDone bad) s
      = .next (if rows = [] then t.finishMove else t.each (rows.filter (fun k => (t.rowSt k).chain.isNone)) (fun k u => u.moveRow k)))

/-- Starmap records, loads, saves and peeks. An update record that a calibration ring brings is misdirected, and refused with
ST_SMP_UPD_FORMAT and counted, or is submitted and completes with its refusal or ST_OK. A delivered record is marked so, and rows
whose predecessors' records are all delivered get theirs. A GO of a load or a save while a transfer runs does nothing; of no ports, or
beyond port 95, it is dropped with CFG_ERR; in another mode it gives RESULT MODE, and for a load its event (that a save gives RESULT
MODE without an event is the model's choice, log entry 123); otherwise it starts the transfer. A transfer that ends clears BUSY; a
save writes the target image and its CRC, a load with a wrong length or CRC gives RESULT 2, one with a bad entry RESULT 3 and its GN,
each with the event, and one whose entries all pass is the target image. A peek copies one target entry into the data words. (R153,
R154, R157, R169, R170, R172, R176, R312, notes/assumptions/123; derived.) -/
def Obligations.StarmapCommands : Prop :=
  (∀ (s : State) (ring : Nat) (d : Desc), s.headDesc ring = some d → s.ringType ring = 5 → d.kind = 3 →
    let u := s.markStarted ring d.index
    (u.smpMisdirected d = true → exec (.smpUpdate ring) s
      = .next (((u.count Reg.SMP_UPD_REF.CNT).pmcAdd 385).complete ring d.index Code.ST_SMP_UPD_FORMAT))
    ∧ (u.smpMisdirected d = false → exec (.smpUpdate ring) s
      = .next ((u.smpSubmit d.smpReq).2.calWatch.complete ring d.index ((u.smpSubmit d.smpReq).1.getD Code.ST_OK))))
  ∧ (∀ (s : State) (seq : Nat),
    let u := s.setSmp (fun m => { m with recs := m.recs.map (fun r => if r.seq = seq then { r with delivered := true } else r) })
    exec (.recordDelivery seq) s = .next (State.applyNext u.cal.apply.length u))
  ∧ (∀ (s : State) (slot first n : Nat), s.mayWrite slot Reg.SMP_XFER_CTRL.AT →
    exec (.smpLoad slot first n) s = .next (((s.inbound slot).writeFields slot Reg.SMP_XFER_CTRL.AT (xferWord 0 first n)).xferGo slot)
    ∧ exec (.smpSave slot first n) s = .next (((s.inbound slot).writeFields slot Reg.SMP_XFER_CTRL.AT (xferWord 1 first n)).xferGo slot))
  ∧ (∀ (w : State) (slot : Nat),
    let first := w.get Reg.SMP_XFER_CTRL.FIRST_HP
    let n := w.get Reg.SMP_XFER_CTRL.COUNT
    let save := w.flag Reg.SMP_XFER_CTRL.DIR
    let may := if save then w.modeIn 3 9 else (w.mode = 3 || w.mode = 4) && w.get Reg.JOB_STS.CHAINS = 0
    let u := ((w.setSmp ({ · with xfer := some (first, n, save, slot) })).put Reg.SMP_XFER_CTRL.BUSY 1).put Reg.SMP_STS.XFER_BUSY 1
    (w.smp.xfer.isSome = true → w.xferGo slot = w)
    ∧ (w.smp.xfer.isSome = false → n = 0 ∨ 96 < first + n → w.xferGo slot = w.put Reg.SMP_STS.CFG_ERR 1)
    ∧ (w.smp.xfer.isSome = false → n ≠ 0 → first + n ≤ 96 → may = false →
      w.xferGo slot = if save then w.put Reg.SMP_XFER_CTRL.RESULT 1
        else (w.put Reg.SMP_XFER_CTRL.RESULT 1).post (ev Code.ST_SMP_LOAD_BAD srcSMP))
    ∧ (w.smp.xfer.isSome = false → n ≠ 0 → first + n ≤ 96 → may = true →
      w.xferGo slot = if save then u else u.send (.hostRead slot (u.get64 Reg.SMP_XFER_HADDR.PAIR) (n * portImage))))
  ∧ (∀ (s : State) (bytes : List Byte) (first n slot : Nat) (save : Bool), s.smp.xfer = some (first, n, save, slot) →
    let u := ((s.setSmp ({ · with xfer := none })).put Reg.SMP_XFER_CTRL.BUSY 0).put Reg.SMP_STS.XFER_BUSY 0
    exec (.smpXferDone bytes) s = .next (
      if save then ((u.send (.hostWrite slot (u.get64 Reg.SMP_XFER_HADDR.PAIR) (u.saveBytes first n))).put
        Reg.SMP_XFER_CRC.CRC (crc32Bytes (u.saveBytes first n))).put Reg.SMP_XFER_CTRL.RESULT 0
      else if bytes.length ≠ n * portImage ∨ crc32Bytes bytes ≠ u.get Reg.SMP_XFER_CRC.CRC then
        (u.put Reg.SMP_XFER_CTRL.RESULT 2).post (ev Code.ST_SMP_LOAD_BAD srcSMP)
      else match u.loadFails bytes first n with
        | some gn => ((u.put Reg.SMP_XFER_CTRL.RESULT 3).put Reg.SMP_XFER_BADGN.BADGN gn).post (ev Code.ST_SMP_LOAD_BAD srcSMP)
        | none => (u.loadImage bytes first n).put Reg.SMP_XFER_CTRL.RESULT 0))
  ∧ (∀ (s : State) (slot : Nat) (data : Word), s.mayWrite slot Reg.SMP_PEEK_GN.AT →
    let w := (s.inbound slot).writeFields slot Reg.SMP_PEEK_GN.AT data
    exec (.smpPeek slot data) s = .next (w.each (List.range 8) (fun i u => u.put (Reg.SMP_PEEK_DATA.WORD i)
      (ew (w.entry (w.get Reg.SMP_PEEK_GN.GN)) i))))

/-- What the bits of HP_CTRL and a head-mode command start. Each of the commands of HP_CTRL is the owner's write of the register as it
stands with its bit set, or for EN, TX_TWI and HEAD_TX_TWI as asked. A write that would put the downlink or the head into Twilight
while the port is in a chain is refused whole, with CFG_ERR and ST_HP_TWI_REFUSED. Any other takes its fields by their access types
and then does in turn what its bits ask: a changed EN starts the bring-up or holds the port off, FLUSH flushes, RETRAIN clears RETRIES
and starts again from state 1, CONTINUE ends a manual search, a rising HEAD_TX_TWI tells the head to sleep, a rising TX_TWI puts the
downlink into Twilight and a falling one wakes it, and after that a falling HEAD_TX_TWI, or a downlink woken while the head still
sleeps unasked, wakes the head. A head mode up to 3 is sent to the head; another sets CFG_ERR. A TWI_ENTER in state 7 or 8 puts the
head's transmitter to sleep, and the receiver into RX Twilight where RX_TWI_EN is 1. (R188, R190, R193, R200, R205, R212, R217, R218,
R350; derived.) -/
def Obligations.HeadPortControl : Prop :=
  (∀ (s : State) (slot p : Nat), s.mayWrite slot (Reg.HP_CTRL.AT p) →
    let u := s.inbound slot
    let w := u.word (Reg.HP_CTRL.AT p)
    (∀ on, exec (.hpPortEnable slot p on) s = .next (u.hpCtrlWrite slot p (wordBit w 1 on)))
    ∧ exec (.hpRetrain slot p) s = .next (u.hpCtrlWrite slot p (wordBit w 3 true))
    ∧ exec (.hpContinue slot p) s = .next (u.hpCtrlWrite slot p (wordBit w 4 true))
    ∧ exec (.hpFlush slot p) s = .next (u.hpCtrlWrite slot p (wordBit w 5 true))
    ∧ (∀ on, exec (.hpTxTwi slot p on) s = .next (u.hpCtrlWrite slot p (wordBit w 6 on)))
    ∧ (∀ on, exec (.hpHeadTxTwi slot p on) s = .next (u.hpCtrlWrite slot p (wordBit w 7 on))))
  ∧ (∀ (u : State) (slot p : Nat) (d : Word),
    let rise : Fld → Bool := fun f => wbit d f.lo && !u.flag f
    let fall : Fld → Bool := fun f => !wbit d f.lo && u.flag f
    let tx := Reg.HP_CTRL.TX_TWI p
    let head := Reg.HP_CTRL.HEAD_TX_TWI p
    let a := u.writeFields slot (Reg.HP_CTRL.AT p) d
    let on := a.flag (Reg.HP_CTRL.EN p)
    let b := if u.flag (Reg.HP_CTRL.EN p) = on then a else a.hpEnable p on
    let c := if wbit d 5 then b.hpFlushCmd p else b
    let e := if wbit d 3 then (c.put (Reg.HP_LINK_STS.RETRIES p) 0).hpRestart p else c
    let f := if wbit d 4 then e.hpContinue p else e
    let g := if rise head then f.headTwi p 1 else f
    let h := if rise tx then g.txSleep p else g
    let i := if fall tx then h.txWake p else h
    ((rise tx || rise head) = true → u.inChain p = true → u.hpCtrlWrite slot p d = u.twiRefused p)
    ∧ ((rise tx || rise head) = false ∨ u.inChain p = false → u.hpCtrlWrite slot p d =
      if fall head || (fall tx && i.flag (Reg.HP_LINK_STS.HEAD_TX_TWI p) && !i.flag head) then i.headTwi p 0 else i))
  ∧ (∀ (s : State) (slot p : Nat) (data : Word), s.mayWrite slot (Reg.HP_HEAD_CMD.AT p) →
    (wbits data 0 3 ≤ 3 → exec (.hpHeadMode slot p data) s
      = .next (((s.inbound slot).writeFields slot (Reg.HP_HEAD_CMD.AT p) data).headMode (wbits data 0 3) p))
    ∧ (3 < wbits data 0 3 → exec (.hpHeadMode slot p data) s = .next ((s.inbound slot).put (Reg.HP_LINK_EVT.CFG_ERR p) 1)))
  ∧ (∀ (s : State) (p : Nat), 7 ≤ s.get (Reg.HP_LINK_STS.STATE p) → s.get (Reg.HP_LINK_STS.STATE p) ≤ 8 →
    let u := (s.put (Reg.HP_LINK_STS.HEAD_TX_TWI p) 1).setPort p ({ · with exch := [] })
    exec (.hpTwiEnter p) s = .next (if u.flag (Reg.HP_CTRL.RX_TWI_EN p)
      then ((u.put (Reg.HP_LINK_STS.RX_TWI p) 1).lanesShow (headLanes p) Reg.L_STS.RX_TWI 1).hpState p 9 else u))

/-- How a head port's link comes up and goes down. On an enabled port whose lanes neither lose their reference nor run loopback, what a
bring-up state sees decides as the table "Bring-up steps" says: signal, clock and polarity advance it; in state 4 the search locks
both lanes or fails, and under MANUAL (but not on a wake) only shows the detectors; two different lane numbers advance it; deskew
succeeds within R191's bound or fails; state 7 enters data mode once RX_READY has come, and then ends when its conditions hold. A
sleeping uplink whose signal is back locks again. A state that lasts past its limit fails the bring-up, in state 7 with the lanes
without a working eye told; a failed one that may retry starts again after 1 ms, and loss of signal in states 2 to 8 starts it again,
but for a sleeping uplink. Blocks received on a locked lane count their errors; too many of them, an elastic buffer's overflow, or a
skewed SKIP after deskew loses lock. No HEALTH for 5 ms in state 8, with the head awake, starts the bring-up again. (R188, R189, R190,
R191, R192, R193, R199, R218, R219, R220, R228, R233; derived.) -/
def Obligations.HeadBringup : Prop :=
  (∀ (s : State) (p : Nat) (o : BringupObs), s.flag (Reg.HP_CTRL.EN p) = true → s.linkHeld (headLanes p) = false →
    let st := s.get (Reg.HP_LINK_STS.STATE p)
    let ns := headLanes p
    let wake := (s.port p).relock
    (s.flag (Reg.HP_LINK_STS.HEAD_TX_TWI p) = true → exec (.hpBringupStep p o) s = .next (if o.ok then s.hpRelock p else s))
    ∧ (s.flag (Reg.HP_LINK_STS.HEAD_TX_TWI p) = false →
      (st = 1 → exec (.hpBringupStep p o) s = .next (if o.ok then (s.lanesShow ns Reg.L_STS.SIG 1).hpState p 2 else s))
      ∧ (st = 2 → exec (.hpBringupStep p o) s
        = .next (if o.ok then ((s.lanesShow ns Reg.L_STS.CDR 1).each ns State.adapt).hpState p 3 else s))
      ∧ (st = 3 → exec (.hpBringupStep p o) s = .next (if o.ok then
          (State.lanePolarity ns o wake (if wake then s else s.put (Reg.HP_LINK_STS.RX_INV p) (obsInv o))).hpState p 4 else s))
      ∧ (st = 4 → s.flag (Reg.HP_CTRL.MANUAL p) = true → wake = false → exec (.hpBringupStep p o) s = .next (s.laneDetect false ns o))
      ∧ (st = 4 → s.flag (Reg.HP_CTRL.MANUAL p) = false ∨ wake = true → exec (.hpBringupStep p o) s
        = .next (if (s.laneSearch false ns o).lanesLocked ns then (s.laneSearch false ns o).hpState p 5 else (s.laneSearch false ns o).hpFail p))
      ∧ (st = 5 → exec (.hpBringupStep p o) s = .next (match obsIds false ns o with
        | none => s
        | some ids => (if wake then s else (s.putB (Reg.HP_LINK_STS.RX_SWAP p) (ids.headD 0 = 1)).laneIds ns ids).hpState p 6))
      ∧ (st = 6 → exec (.hpBringupStep p o) s = .next (if obsDeskews false ns o then s.hpDeskewed p else s.hpFail p))
      ∧ (st = 7 → exec (.hpBringupStep p o) s = .next (
          if (s.port p).training then (if obsReady false ns o then s.hpDataMode p else s) else if o.ok then s.hpTryUp p else s))))
  ∧ (∀ (s : State) (p d : Nat), stepLimit (s.get (Reg.HP_LINK_STS.STATE p)) = some d → (s.port p).since + d ≤ s.now →
    exec (.hpBringupTimeout p) s
      = .next (State.hpFail p (if s.get (Reg.HP_LINK_STS.STATE p) = 7 then s.noEq (headLanes p) else s)))
  ∧ (∀ (s : State) (p t : Nat), (s.port p).failedAt = some t → t + 4000000 ≤ s.now → exec (.hpRetryTimer p) s = .next (s.hpRestart p))
  ∧ (∀ (s : State) (lane : Nat), lane < 192 →
    let st := s.get (Reg.HP_LINK_STS.STATE (lane / 2))
    let u := (s.put (Reg.L_EVT.SIG_LOSS lane) 1).put (Reg.L_STS.SIG lane) 0
    (s.flag (Reg.HP_LINK_STS.HEAD_TX_TWI (lane / 2)) = true → exec (.hpSignalLoss lane) s = .next s)
    ∧ (s.flag (Reg.HP_LINK_STS.HEAD_TX_TWI (lane / 2)) = false →
      exec (.hpSignalLoss lane) s = .next (if 2 ≤ st ∧ st ≤ 8 then u.hpRestart (lane / 2) else u)))
  ∧ (∀ (s : State) (lane : Nat), 240 ≤ lane → lane < 256 →
    let u := (s.put (Reg.L_EVT.SIG_LOSS lane) 1).put (Reg.L_STS.SIG lane) 0
    exec (.hpSignalLoss lane) s
      = .next (if 2 ≤ s.peerLink (lanePeer lane) ∧ s.peerLink (lanePeer lane) ≤ 8 then u.peerRestart (lanePeer lane) else u))
  ∧ (∀ (s : State) (lane : Nat) (blocks : List (Nat × Nat)) (seen : RxFaults), linkLane lane = true →
    s.flag (Reg.L_STS.BLOCK_LOCK lane) = true →
    let peer := decide (192 ≤ lane)
    let bs := blocks.drop (2 - seen.afterEnd)
    let lost := errorBurst peer bs || seen.elastic || (seen.askew && 7 ≤ s.get (Reg.L_STS.LINK_STATE lane))
    let u := s.count (Reg.L_CNT.CNT lane 0) (badBlocks peer bs)
    (lost = true → exec (.hpBlockLockLoss lane blocks seen) s = .next (s.lockLoss lane (badBlocks peer bs) seen.elastic))
    ∧ (lost = false → exec (.hpBlockLockLoss lane blocks seen) s
      = .next (if lane < 192 then u.count (Reg.HP_CNT.CNT (lane / 2) 4) (badBlocks peer bs) else u)))
  ∧ (∀ (s : State) (p t : Nat), s.get (Reg.HP_LINK_STS.STATE p) = 8 → s.flag (Reg.HP_LINK_STS.HEAD_TX_TWI p) = false →
    (s.port p).lastHealth = some t → t + 20000000 ≤ s.now → exec (.hpHealthTimeout p) s = .next (s.hpRestart p))

/-- SKIP, BEACON and the time exchanges of a head port. A transmitter that sends fills its lanes, with TRAIN or IDLE blocks, up to the
next counter value that is 0 modulo 2,048 and sends a SKIP sequence there on every lane; a head port in data mode fills them up to 512
modulo 1,024 and sends a BEACON with Meridian time. A SKIP sequence that arrives in states 2 to 9 leaves one to three blocks for the
lane's buffer fill (the thresholds are the model's, log entry 128), counted where it leaves one or three: of each lane alone before
deskew, and after it of all lanes by link lane 0. When its interval is over a port that runs exchanges sends TT_REQ with the next XID
and stamps its departure; the answer stamps t4; a TIME status shows the head's offset, ends the exchange it names once t4 is known,
and gives the head's lock; an exchange with no status after 200 µs is void. (R184, R185, R186, R188, R194, R195, R196, R198, R199,
R200, R247, notes/assumptions/128; derived.) -/
def Obligations.HeadTimeExchange : Prop :=
  (∀ (s : State) (lane : Nat), linkLane lane = true → s.transmits (linkOf lane) = true →
    let k := linkOf lane
    let at_ := nextCount (s.tx k).blocks 2048 0
    exec (.hpSkip lane) s = .next (s.fillTo k at_ (at_ + 2) (s.sendsData k) (s.sendsReady k)))
  ∧ (∀ (s : State) (link n : Nat) (fill : Int), link < 105 → n < linkWidth link → 2 ≤ s.get (Reg.L_STS.LINK_STATE (linkFirst link + n)) →
    s.get (Reg.L_STS.LINK_STATE (linkFirst link + n)) ≤ 9 →
    let lane := linkFirst link + n
    let u := s.setLane lane ({ · with fill := fill })
    (s.get (Reg.L_STS.LINK_STATE lane) < 7 → exec (.hpSkipReceive link n fill) s = .next (u.skipLeave (leaveFor fill) lane))
    ∧ (7 ≤ s.get (Reg.L_STS.LINK_STATE lane) → exec (.hpSkipReceive link n fill) s
      = .next (if u.rxLane lane = 0 then u.each (linkLanes lane) (State.skipLeave (leaveFor fill)) else u)))
  ∧ (∀ (s : State) (p : Nat), s.dataMode p = true →
    let at_ := nextCount (s.tx p).blocks 1024 512
    exec (.hpBeacon p) s = .next (s.fillTo p at_ (at_ + 1) true false))
  ∧ (∀ (s : State) (p : Nat), s.exchanges p = true →
    (∀ t, (s.port p).reqAt = some t → t + s.exchangeTime p ≤ s.now) →
    let xid := ((s.port p).xid + 1) % 256
    exec (.hpTtReq p) s = .next ((s.setPort p (fun x => { x with
      xid := xid, reqAt := some s.now, exch := x.exch.filter (·.xid ≠ xid) ++ [⟨xid, s.departs p, none⟩] })).sendNow p (.ttReq xid)))
  ∧ (∀ (s : State) (p xid : Nat), exec (.hpTtRsp p xid) s = .next (s.setPort p (fun x => { x with
      exch := x.exch.map (fun e => if e.xid = xid && e.t4 = none then { e with t4 := some s.now } else e) })))
  ∧ (∀ (s : State) (p : Nat) (st : TimeStatus), s.exchanges p = true →
    let u := s.putSat (Reg.HP_OFFSET.THETA p) st.theta
    exec (.hpTime p st) s = .next (State.headLocked p st.locked (match (u.port p).exch.find? (fun e => e.xid = st.xid) with
      | some e => (match e.t4 with
        | some t4 => u.takeTime p st e t4
        | none => u)
      | none => u)))
  ∧ (∀ (s : State) (p xid : Nat) (e : Exchange), (s.port p).exch.find? (fun e => e.xid = xid) = some e → e.t1 + 800000 ≤ s.now →
    exec (.hpTimeStatusTimeout p xid) s = .next (s.voidExchange p xid))

/-- What a head's status packets do. An IDENT on a port in data mode, or whose downlink sleeps, is taken where it fits; one that does not
sets IDENT_BAD, posts and fails the bring-up. A HEALTH status in state 7 or 8 with the head awake is mirrored whole, and its counts,
temperatures, lock and time source are judged. An ACK takes its command off the list: a failed one sets HEAD_FAULT and posts, a tap
load's is passed to its row. A FAULT shows its code, and a fatal one sets HEAD_FAULT and posts. A sense packet of a line sent with
SENSE counts and folds its words into the nozzles' health; one of no such line is ignored (log entry 142). An uplink packet in state 7
or later that is malformed counts its block errors (at least one: log entry 130); one with a wrong CRC counts, and eight within 1 ms
are a burst; one of an unknown type is only discarded. A command without an ACK for 200 µs waits to be sent again, up to three times,
and then restarts the port. (R182, R200, R201, R203, R204, R205, R206, R207, R210, R220, notes/assumptions/130, notes/assumptions/142;
derived.) -/
def Obligations.HeadStatusPackets : Prop :=
  (∀ (s : State) (p : Nat) (id : Ident), s.dataMode p = true ∨ s.flag (Reg.HP_LINK_STS.TX_TWI p) = true →
    (identFits id = true → exec (.hpIdent p id) s = .next (s.takeIdent p id))
    ∧ (identFits id = false → exec (.hpIdent p id) s = .next (((s.put (Reg.HP_LINK_EVT.IDENT_BAD p) 1).post
      (ev Code.ST_HP_IDENT_BAD (srcHP p) none none (s.dataPort p))).hpFail p)))
  ∧ (∀ (s : State) (p : Nat) (h : HealthStatus), p < 96 → 7 ≤ s.get (Reg.HP_LINK_STS.STATE p) → s.get (Reg.HP_LINK_STS.STATE p) ≤ 8 →
    s.flag (Reg.HP_LINK_STS.HEAD_TX_TWI p) = false →
    let u := (s.mirrorHealth p h)
    let v := u.setPort p (fun x => { x with lastHealth := some u.now, fatal := x.fatal && h.fault })
    exec (.hpHealth p h) s = .next (((((v.headCrc p h).headTemp p h).headHeat p h).headLocked p h.locked).confirmBy p h.tsrc))
  ∧ (∀ (s : State) (p cmdId op result : Nat) (c : HeadCmd), (s.port p).cmds.find? (fun c => c.id = cmdId && c.op = op) = some c →
    let u := s.setPort p (fun x => { x with cmds := x.cmds.filter (fun y => !(y.id = cmdId && y.op = op)) })
    ((result = 1 ∨ result = 3) → exec (.hpAck p cmdId op result) s
      = .next ((u.put (Reg.HP_LINK_EVT.HEAD_FAULT p) 1).post (ev Code.ST_HP_HEAD_FAULT (srcHP p) op none (u.dataPort p))))
    ∧ (result ≠ 1 → result ≠ 3 → exec (.hpAck p cmdId op result) s = .next (if op = 2 then u.tapAcked p c.row result else u)))
  ∧ (∀ (s : State) (p code detail : Nat),
    let u := s.put (Reg.HP_HEAD_STATE.FAULT_CODE p) code
    exec (.hpFault p code false detail) s = .next u
    ∧ exec (.hpFault p code true detail) s = .next (((u.put (Reg.HP_LINK_EVT.HEAD_FAULT p) 1).setPort p ({ · with fatal := true })).post
        (ev Code.ST_HP_HEAD_FAULT (srcHP p) none none (u.dataPort p))))
  ∧ (∀ (s : State) (p : Nat) (pkt : SensePacket), s.dataMode p = true → pkt.row < 16 → pkt.words.length ≤ s.rowCols (16 * p + pkt.row) →
    exec (.hpSensePacket p pkt) s = .next (match (s.port p).sensed.find? (fun x => x.row = pkt.row && x.seq = pkt.seq) with
      | none => s
      | some x => State.calWatch (((s.count (Reg.HP_CNT.CNT p 5)).setPort p (fun y => { y with sensed := y.sensed.filter (· ≠ x) })).each
          pkt.words.zipIdx (fun e u => u.sense (rowGn (16 * p + pkt.row) + e.2) x.chain x.line e.1))))
  ∧ (∀ (s : State) (p first : Nat) (blocks : List (Nat × Nat)), 7 ≤ s.get (Reg.HP_LINK_STS.STATE p) →
    let fate := readPacket [1, 2] (blocks.map (readBlock false))
    let times := s.now :: (s.port p).crcTimes.filter (fun t => s.now < t + 4000000)
    let t := (s.count (Reg.HP_CNT.CNT p 3)).setPort p ({ · with crcTimes := times.take 8 })
    (fate = .malformed → exec (.hpUplinkDiscard p ⟨first, blocks⟩) s = .next
      ((s.packetErrors (headLanes p) false first blocks).count (Reg.HP_CNT.CNT p 4) (max 1 (badBlocks false blocks))))
    ∧ (fate = .badCrc → exec (.hpUplinkDiscard p ⟨first, blocks⟩) s = .next (if 8 ≤ times.length then t.crcBurst p else t))
    ∧ (fate ≠ .malformed → fate ≠ .badCrc → exec (.hpUplinkDiscard p ⟨first, blocks⟩) s = .next s))
  ∧ (∀ (s : State) (p cmdId at_ : Nat) (c : HeadCmd), (s.port p).cmds.find? (fun c => c.id = cmdId) = some c → c.sentAt = some at_ →
    at_ + 800000 ≤ s.now →
    (c.resends < 3 → exec (.hpAckTimeout p cmdId) s = .next (s.setPort p (fun x => { x with
      cmds := x.cmds.map (fun y => if y.id = cmdId then { y with sentAt := none, resends := y.resends + 1 } else y),
      hctl := x.hctl ++ [c.blocks] })))
    ∧ (3 ≤ c.resends → exec (.hpAckTimeout p cmdId) s = .next (((s.put (Reg.HP_LINK_EVT.ACK_TIMEOUT p) 1).post
      (ev Code.ST_HP_ACK_TIMEOUT (srcHP p) none none (s.dataPort p))).hpRestart p)))

/-- Line packets and tap loads. A port's turn settles the complete lines that can no longer start, withholds those that the digests or
their waveform stop, and sends the earliest that may start, unless the link is busy with a packet, or head control where no line may;
then shadows and pages that nothing holds are freed. The next tap change of a row is loaded, once the port is UP and no line uses the
bank, into the bank that is not in use, or again into the bank that an ACK called in use, and is marked sent; otherwise the row's
changes are only brought up to date. (R208, R209, R210, R219, R211; derived.) -/
def Obligations.LineAndTapPackets : Prop :=
  (∀ (s : State) (p : Nat),
    let whole := (s.rowHeads p).filter (fun l => !l.incomplete)
    let rest := whole.filter (fun l => !s.pastStart l)
    let a := s.each (whole.filter s.pastStart) (fun l u => u.refuseLine l)
    let b := a.each (rest.filter (fun l => s.gate l = .mismatch)) (fun l u => u.gateMismatch l)
    let c := b.each (rest.filter (fun l => s.gate l ≠ .mismatch && s.waveTooSoon l)) (fun l u => u.lineLate l Code.ST_RAMP_LATE (srcHP p))
    let t := match earliest (s.eligible p) with
      | some l => if c.txBusy p then c else c.sendLine l
      | none => c.headDrain p
    exec (.linePacketSend p) s = .next t.freeShadow.pagesDone)
  ∧ (∀ (s : State) (p row : Nat),
    let u := s.foldTaps p row
    exec (.hpTapLoad p row) s = .next (match u.nextTap p row with
      | none => u
      | some t =>
        let bank := if t.again then t.bank else 1 - ((u.port p).tbank.lookup row).getD 0
        if u.portUp p = false ∨ u.bankBusy p row bank = true then u
        else (u.setPort p (fun x => { x with
          taps := x.taps.map (fun y => if y = t then { y with sent := true, bank := bank } else y) })).tapLoad p row t.chain t.line bank))

/-- The equaliser, the eye and re-adaptation of a lane, and L_CTRL. The owner's write of L_TXEQ of a head or peer lane is taken unless PRE
and POST ask for more than 24 steps together, when it is dropped; host and camera lanes drop it. EYE_GO, REEQ, LOOP and SELFTEST are
the owner's write of L_CTRL as it stands with their bits. Such a write is dropped whole where it asks LOOP 3, changes LOOP on a host
or camera lane, sets a loop on a lane in a chain, or asks a host lane for its eye or self-test; otherwise its fields are taken (EN on
peer lanes alone), a changed EN or LOOP restarts the link, and REEQ, EYE_GO and SELFTEST start a re-adaptation, a measurement and a
test. A measurement that runs ends with its result shown, its quality by the lane's limits; while the link is UP, GOOD clears MARGINAL
and keeps the receiver's values, and less is MARGINAL. One is due every second on a lane whose link is UP, where a receiver in CONT
has gone on adapting. A re-adaptation in progress ends. (R190, R229, R230, R231, R232, R234, R235, R241, R242, R245, R246, R255;
derived.) -/
def Obligations.LaneTraining : Prop :=
  (∀ (s : State) (slot lane : Nat) (data : Word), s.mayWrite slot (Reg.L_TXEQ.AT lane) →
    (laneGroup lane ≠ 1 → laneGroup lane ≠ 2 → wbits data 0 4 + wbits data 4 5 ≤ 24 →
      exec (.lTxeqWrite slot lane data) s = .next ((s.inbound slot).writeFields slot (Reg.L_TXEQ.AT lane) data))
    ∧ (24 < wbits data 0 4 + wbits data 4 5 ∨ laneGroup lane = 1 ∨ laneGroup lane = 2 →
      exec (.lTxeqWrite slot lane data) s = .next ((s.inbound slot).laneDrop lane)))
  ∧ (∀ (s : State) (slot lane : Nat), s.mayWrite slot (Reg.L_CTRL.AT lane) →
    let u := s.inbound slot
    let w := u.word (Reg.L_CTRL.AT lane)
    exec (.eyeGo slot lane) s = .next (u.lCtrlWrite slot lane (wordBit w 6 true))
    ∧ exec (.reeq slot lane) s = .next (u.lCtrlWrite slot lane (wordBit w 5 true))
    ∧ exec (.laneSelftest slot lane) s = .next (u.lCtrlWrite slot lane (wordBit w 7 true))
    ∧ (∀ mode, exec (.loop slot lane mode) s = .next (u.lCtrlWrite slot lane (wordBit (wordBit w 3 (bit mode 0)) 4 (bit mode 1)))))
  ∧ (∀ (u : State) (slot lane : Nat) (data : Word),
    let g := laneGroup lane
    let loop := wbits data 3 2
    let old := u.get (Reg.L_CTRL.LOOP lane)
    let drop : Bool := loop = 3 || (loop ≠ old && (g = 1 || g = 2)) || (loop ≠ old && loop ≠ 0 && u.laneInChain lane)
      || (g = 2 && (wbit data 6 || wbit data 7))
    let on := u.flag (Reg.L_CTRL.EN lane)
    let x := if 240 ≤ lane then data else data &&& ~~~ 2
    let a := u.writeFields slot (Reg.L_CTRL.AT lane) x
    let b := if a.flag (Reg.L_CTRL.EN lane) = on then a else a.putB (Reg.L_STS.TX_IDLE lane) on
    let c := if a.flag (Reg.L_CTRL.EN lane) = on ∧ b.get (Reg.L_CTRL.LOOP lane) = old then b else b.laneRestart lane
    let d := if wbit x 5 then State.reeqStart lane false c else c
    let e := if wbit x 6 then State.eyeStart lane d else d
    (drop = true → u.lCtrlWrite slot lane data = u.laneDrop lane)
    ∧ (drop = false → u.lCtrlWrite slot lane data = if wbit x 7 then e.laneTestDue (linkLanes lane) true none else e))
  ∧ (∀ (s : State) (lane ew eh : Nat), s.flag (Reg.L_EYE.BUSY lane) = true →
    let q := s.eyeQual lane ew eh
    let u := (((((s.put (Reg.L_EYE.EW lane) ew).put (Reg.L_EYE.EH lane) eh).put (Reg.L_EYE.QUAL lane) q).put (Reg.L_EYE.VALID lane) 1).put
      (Reg.L_EYE.BUSY lane) 0).setLane lane ({ · with eyeGo := none, eyeAt := some s.now, eye := some q })
    exec (.eyeMeasureDone lane ew eh) s = .next (
      if u.laneUp lane = false then u
      else if q = 3 then (u.put (Reg.L_STS.MARGINAL lane) 0).setLane lane ({ · with good := some (s.rxVals lane) })
      else u.setMarginal lane))
  ∧ (∀ (s : State) (lane : Nat), s.laneUp lane = true → s.flag (Reg.L_EYE.BUSY lane) = false →
    (∀ t, (s.lane lane).eyeAt = some t → t + 4000000000 ≤ s.now) →
    exec (.eyePeriodic lane) s = .next (State.eyeStart lane (
      if s.get (Reg.L_RXEQ.MODE lane) = 0 ∧ (s.lane lane).reeq = none then s.adapt lane else s)))
  ∧ (∀ (s : State) (lane ew eh : Nat) (found : RxSetting), (s.lane lane).reeq.isSome = true →
    exec (.reeqDone lane ew eh found) s = .next (s.reeqEnds lane ew eh ⟨found.rxeq.toNat / 16 % 2 ^ 12, found.taps⟩))

/-- Bit slips, patterns and self-tests of a lane. A bit slip is dropped on host and camera lanes and while one is in progress, and slips
any other lane. A write of the pattern generator's enable is dropped on a camera lane, on a host lane that it would change, for a
pattern above 4 and where it would start on a lane in a chain; otherwise its fields are taken, a rising GEN_EN restarts the link, a
rising CHK_EN starts the checker anew and CHK_EN at 0 unlocks it. A test that is due runs once its link is in its test interval, which
takes the link down and shows RUNNING on its lanes, their checkers locked; a loopback that ends settles it, where a lane with errors
is FAULT, and so does the bring-up after it once it is UP or has failed, for every lane of the link (log entry 134). (R236, R237,
R240, R241, R242, R245, R246, R255, R516, notes/assumptions/133, notes/assumptions/134, notes/assumptions/139; derived.) -/
def Obligations.LaneTests : Prop :=
  (∀ (s : State) (slot lane : Nat), s.mayWrite slot (Reg.L_BS.AT lane) →
    let u := s.inbound slot
    let w := u.settleSlips.writeFields slot (Reg.L_BS.AT lane) (u.word (Reg.L_BS.AT lane) ||| 1)
    exec (.bitslip slot lane) s = .next (
      if laneGroup lane = 1 ∨ laneGroup lane = 2 then u.settleSlips.laneDrop lane
      else if w.flag (Reg.L_BS.PENDING lane) = true then w.laneDrop lane else w.slip lane))
  ∧ (∀ (s : State) (slot lane : Nat) (on : Bool), s.mayWrite slot (Reg.L_PRBS.AT lane) →
    let u := s.inbound slot
    let d := wordBit (u.word (Reg.L_PRBS.AT lane)) 4 on
    let g := laneGroup lane
    let drop : Bool := g = 2 || (g = 1 && wbit d 4 != u.flag (Reg.L_PRBS.GEN_EN lane)) || 4 < wbits d 0 3
      || (wbit d 4 && !u.flag (Reg.L_PRBS.GEN_EN lane) && u.laneInChain lane)
    let a := u.writeFields slot (Reg.L_PRBS.AT lane) d
    let b := if u.flag (Reg.L_PRBS.GEN_EN lane) = false ∧ a.flag (Reg.L_PRBS.GEN_EN lane) = true then a.laneRestart lane else a
    let c := if u.flag (Reg.L_PRBS.CHK_EN lane) = false ∧ b.flag (Reg.L_PRBS.CHK_EN lane) = true
      then (b.put64 (Reg.L_PRBS_BITS.PAIR lane) 0).setLane lane ({ · with chk := {} }) else b
    exec (.prbsGenEn slot lane on) s = .next (
      if drop then u.laneDrop lane else if c.flag (Reg.L_PRBS.CHK_EN lane) then c else c.put (Reg.L_PRBS.CHK_LOCK lane) 0))
  ∧ (∀ (s : State) (lane : Nat), linkLane lane = true → s.flag (Reg.L_SELFTEST.PENDING lane) = true → s.testInterval lane = true →
    exec (.laneSelftestRun lane) s = .next ((s.testStarted.testDown lane).each (linkLanes lane) (fun n t =>
      (((t.put (Reg.L_SELFTEST.PENDING n) 0).put (Reg.L_SELFTEST.RUNNING n) 1).put (Reg.L_PRBS.CHK_LOCK n) 1).setLane n ({ · with test := 1 }))))
  ∧ (∀ (s : State) (lane : Nat) (errors : List Nat), (linkLanes lane).any (fun n => (s.lane n).test = 1) = true →
    let ns := linkLanes lane
    let u := s.loopbackCounts ns errors
    let bad := (ns.zipIdx.filter (fun e => errors.getD e.2 0 ≠ 0)).map (·.1)
    exec (.laneSelftestDone lane (.loopback errors)) s = .next (
      if bad = [] then (u.each ns (fun n t => t.setLane n ({ · with test := 2 }))).laneRestart (ns.headD 0)
      else ((u.each bad (fun n t => (t.put (Reg.L_STS.FAULT n) 1).post (ev Code.ST_LANE_SELFTEST_FAIL (srcL n)))).laneTestEnds
        ns 2).laneRestart (ns.headD 0)))
  ∧ (∀ (s : State) (lane : Nat), (linkLanes lane).any (fun n => (s.lane n).test = 2) = true →
    s.get (Reg.L_STS.LINK_STATE lane) = 8 ∨ s.get (Reg.L_STS.LINK_STATE lane) = 10 →
    exec (.laneSelftestDone lane .bringup) s = .next (s.testBringup (linkLanes lane)))

/-- A reference clock is lost and returns. The loss of a reference not yet lost is kept; where the die is awake and lanes of it are on,
each of them drops CDR and sets REF_LOSS, the loss is recorded and posted once with the first of them, and its links go down. Its
return starts the links that use it again whose domains are on, head ports, peer links and, for the cameras' reference with their
domain on, the discovery of each enabled camera port. (R226, R228, R255, R543, R544; derived.) -/
def Obligations.ReferenceClocks : Prop :=
  (∀ (s : State) (ref : Nat), ref < 7 → s.pwr.refLost.contains ref = false →
    let u := s.setPwr (fun p => { p with refLost := ref :: p.refLost })
    let ns := u.refLanes ref
    (u.awake = false ∨ ns = [] → exec (.refClockLoss ref) s = .next u)
    ∧ (u.awake = true → ns ≠ [] → exec (.refClockLoss ref) s = .next
      ((((u.each ns (fun n t => (t.put (Reg.L_STS.CDR n) 0).put (Reg.L_EVT.REF_LOSS n) 1)).errRecord
        (er Code.ST_LANE_REF_LOSS (srcL (ns.headD 0)) 3 1 0 (ns.headD 0))).post (ev Code.ST_LANE_REF_LOSS (srcL (ns.headD 0)))).refLinksDown ref)))
  ∧ (∀ (s : State) (ref : Nat), s.pwr.refLost.contains ref = true →
    let u := s.setPwr (fun p => { p with refLost := p.refLost.filter (· ≠ ref) })
    let v := u.each ((refPorts ref).filter (fun _ => u.domOn (4 + ref))) State.hpRestart
    let w := v.each ((refPeers ref).filter (fun _ => v.domOn 3)) State.peerRestart
    exec (.refClockRestore ref) s = .next (
      if ref = 4 ∧ w.domOn 8 = true then w.each ((List.range 8).filter (fun p => w.flag (Reg.CAM_P_CTRL.EN p))) (fun p t => t.discover p)
      else w))

/-- Peer links: bring-up, ANNOUNCE, discards and CHAN packets. A bring-up state whose condition holds, on an enabled link whose lanes are
free, advances through signal, clock, polarity, block lock, lane numbers, deskew, the end of training and HELLO to UP; a lock search
or a deskew that fails, a bad eye, and a state that lasts past its limit fail the link, which tries again after 1 ms. In data mode an
ANNOUNCE is due every 1 ms, one that arrives records what the peer says (on the Duet link its power ceiling, on a station link it
tells when both stations are time masters; once per 1 s and link is the model's choice, log entry 135), and 5 ms of UP without one
fail the link. Packets received with errors count as discards. A CHAN packet on the Duet link is taken into its channel's sequence,
its HB and ACK contents acted on; one on a station link, or of no listed channel, is discarded. (R248, R249, R250, R251, R252, R253,
R254, R311, R360; derived.) -/
def Obligations.PeerLinkCommands : Prop :=
  (∀ (s : State) (l : Nat) (o : BringupObs), l < 9 → s.peerEnabled l = true → s.linkHeld (peerLanes l) = false →
    let ns := peerLanes l
    let r := exec (.peerBringupStep l o) s
    (s.peerLink l = 1 → o.ok = true → r = .next ((s.lanesShow ns Reg.L_STS.SIG 1).peerState l 2))
    ∧ (s.peerLink l = 2 → o.ok = true → r = .next (((s.lanesShow ns Reg.L_STS.CDR 1).each ns State.adapt).peerState l 3))
    ∧ (s.peerLink l = 3 → o.ok = true → r = .next ((s.lanePolarity ns o false).peerState l 4))
    ∧ (s.peerLink l = 4 →
      let t := s.laneSearch true ns o
      r = .next (if t.lanesLocked ns then t.peerState l 5 else t.peerFail l))
    ∧ (s.peerLink l = 5 → ∀ ids, obsIds true ns o = some ids → r = .next ((s.laneIds ns ids).peerState l 6))
    ∧ (s.peerLink l = 6 → r = .next (
        if obsDeskews true ns o then (s.setPeer l ({ · with annIn := none, sentAt := none, training := true })).peerState l 7
        else s.peerFail l))
    ∧ (s.peerLink l = 7 → (s.peer l).training = true → obsReady true ns o = true → r = .next (s.peerDataMode l))
    ∧ (s.peerLink l = 7 → (s.peer l).training = false → s.eyesBad ns = true → r = .next ((s.noEq ns).peerFail l))
    ∧ (s.peerLink l = 7 → (s.peer l).training = false → s.eyesBad ns = false → s.eyesGood ns = true → (s.peer l).annIn.isSome = true →
      r = .next (s.peerUp l)))
  ∧ (∀ (s : State) (l d : Nat), l < 9 → stepLimit (s.peerLink l) = some d → (s.peer l).since + d ≤ s.now →
    exec (.peerBringupTimeout l) s = .next ((if s.peerLink l = 7 then s.noEq (peerLanes l) else s).peerFail l))
  ∧ (∀ (s : State) (l t : Nat), (s.peer l).failedAt = some t → t + 4000000 ≤ s.now → exec (.peerRetryTimer l) s = .next (s.peerRestart l))
  ∧ (∀ (s : State) (l : Nat), l < 9 → s.peerData l = true →
    ((∀ t, (s.peer l).sentAt = some t → t + 4000000 ≤ s.now) →
      let what := (s.get Reg.MER_CTRL.ROLE, s.get Reg.PWR_CEIL.CEIL)
      exec (.announce l) s = .next ((s.setPeer l ({ · with sentAt := some s.now, sent := what })).peerPut l
        ⟨1, 2, [what.1, what.2, Config.fuseSerial % 2 ^ 64], none⟩))
    ∧ (∀ role ceil serial : Nat,
      let u := s.setPeer l ({ · with annIn := some s.now, annRole := role, annCeil := ceil, annSerial := serial })
      exec (.announceReceive l role ceil serial) s = .next (
        if l = 0 then (u.setDue ({ · with peerCeil := ceil })).refreshCeil
        else if u.get Reg.MER_CTRL.ROLE = 1 ∧ role = 1 then
          u.postLimited (ev Code.ST_STN_TWO_MASTERS (srcL (peerLane l))) l 4000000000
        else u))
    ∧ (∀ packets : List (List (Nat × Nat)),
      let bad := packets.filter (fun p => readPacket [1, 2, 3] (p.map (readBlock true)) ≠ .good)
      exec (.stPeerCrcBurst l packets) s
        = .next ((s.each bad (fun p t => t.packetErrors (peerLanes l) true 0 p)).peerDiscard l bad.length)))
  ∧ (∀ (s : State) (l : Nat), l < 9 → s.peerLink l = 8 → ((s.peer l).annIn.getD (s.peer l).since) + 20000000 ≤ s.now →
    exec (.announceTimeout l) s = .next (s.peerFail l))
  ∧ (∀ (s : State) (lane ch seq b1 : Nat), 240 ≤ lane → lane < 256 → s.peerLink (lanePeer lane) = 8 →
    exec (.chan lane ch seq b1) s = .next (
      if lanePeer lane ≠ 0 ∨ 6 < ch then s.peerDiscard (lanePeer lane) 1
      else if ch = 0 then (s.chanIn ch seq).hbIn b1
      else if ch = 6 then (s.chanIn ch seq).ackIn b1
      else s.chanIn ch seq))

/-- Pairing, unpairing, detaching and DUE_CTRL. PAIR, UNPAIR, SWAP and DETACH are the owner's write of DUE_CTRL as it stands with their
bit set, which takes the fields and then, for each of the four bits, in order: opens the pairing of this member; outside M3 and M4
says CFG_ERR, else makes a paired die SOLO; outside the primary says CFG_ERR, else asks for an exchange of roles unless one is asked
for; detaches. The peer's PAIR is recorded while the link is UP. With both seen, the first check of R318 that fails is shown (a
missing lock only 10 ms after the later write), and pairing completes where all pass. A paired die is SOLO again 1 s after both paths
are lost, reverts a CLAIM that is not confirmed after 2 ms, and hands over when its field die is lost, unless a handover stands.
(R318, R319, R331, R340, R317, R333, R336, R338, R339; derived.) -/
def Obligations.DuetPairing : Prop :=
  (∀ (s : State) (slot : Nat), s.mayWrite slot Reg.DUE_CTRL.AT →
    let u := s.inbound slot
    let d := fun i => wordBit (u.word Reg.DUE_CTRL.AT) i true
    exec (.pair (.own slot)) s = .next (u.dueCtrlWrite slot (d 1)) ∧ exec (.unpair slot) s = .next (u.dueCtrlWrite slot (d 2))
    ∧ exec (.swap slot) s = .next (u.dueCtrlWrite slot (d 3)) ∧ exec (.detach slot) s = .next (u.dueCtrlWrite slot (d 4)))
  ∧ (∀ (s : State) (slot : Nat) (data : Word),
    let a := s.writeFields slot Reg.DUE_CTRL.AT data
    let b := if wbit data 1 then a.pairOwn else a
    let c := if wbit data 2 then
        if !b.modeIn 3 4 then b.put Reg.DUE_EVT.CFG_ERR 1
        else if b.duetRole = 1 || b.duetRole = 2 || b.duetRole = 4 then b.becomeSolo else b
      else b
    let e := if wbit data 3 then
        if c.duetRole ≠ 1 then c.put Reg.DUE_EVT.CFG_ERR 1
        else if c.due.swap.isNone then c.setDue ({ · with swap := some ⟨c.now, none, 0, false, false⟩ }) else c
      else c
    s.dueCtrlWrite slot data = if wbit data 4 then e.detach else e)
  ∧ (∀ s : State,
    let u := s.showDigest
    s.pairOwn = if u.mayPair = false then u.pairFails 8 else if u.duetUp = false then u.pairFails 7
      else (u.setDue ({ · with pairAt := some u.now })).pairSettle)
  ∧ (∀ (s : State) (side pref : Nat), s.duetUp = true → exec (.pair (.peer side pref)) s
    = .next ((s.setDue ({ · with peerPair := some s.now, peerSide := side, peerPref := pref })).pairSettle))
  ∧ (∀ (s : State) (peer : PeerFacts) (a b : Nat), s.due.pairAt = some a → s.due.peerPair = some b →
    let u := s.showDigest
    exec (.pairResult peer) s = .next (
      if u.pairCheck peer = 0 then u.pairDone
      else if u.pairCheck peer = 6 ∧ u.now < max a b + 40000000 then u
      else u.pairFails (u.pairCheck peer)))
  ∧ (∀ (s : State) (t : Nat), s.due.bothAt = some t → t + 4000000000 ≤ s.now →
    exec .stDuePeerLost s = .next (((if s.duetRole = 1 ∨ s.duetRole = 2 ∨ s.duetRole = 4 then s.becomeSolo else s).setDue
      ({ · with bothAt := none })).post (ev Code.ST_DUE_PEER_LOST srcDUE)))
  ∧ (∀ (s : State) (t : Nat), s.due.claimAt = some t → t + 8000000 ≤ s.now →
    exec .stDueRevert s = .next ((((s.setRole 4).setDue ({ · with claimAt := none, tsrc := [] })).put Reg.DUE_EVT.REVERT 1).post
      (ev Code.ST_DUE_REVERT srcDUE)))
  ∧ (∀ (s : State), s.duetRole = 1 → s.fld.lost = true → s.get Reg.DUE_STS.PEER_ROLE = 2 → (∀ x, s.due.swap = some x → x.handover = false) →
    let rpt := 2 ^ s.get Reg.TRK_CFG.RPT_LOG
    exec .handover s = .next (s.orderSwap 5 (ceilDiv (s.now + 800000) rpt * rpt) ⟨s.now, none, 0, false, true⟩))

/-- What the Duet channels carry. A heartbeat is sent once each 100 µs, and a pulse on the pin goes to the main die as the code of its
width: a role makes the pin's path live, none counts as invalid. The primary sends a state copy once each control cycle, and a
standby, or a member that awaits the last one, acknowledges one and takes each item. An order that arrives is acknowledged, a SWAP
with the clock offset, and kept until its tag is reached. TIMING feeds the standby's vote, a boundary whose TIMING is missing is voted
from its own reports, and DIGEST names lines that the peer sent. A gap that a NAK did not close in 100 µs detaches. With no digest for
20 µs every port that is UP has a turn. A path silent for 300 µs is lost, after a swap point that has passed; with both lost the
member acts on that. After a claim, the outputs are owned once the axes have been quiet MOT_QUIET ms. (R320, R321, R322, R327, R328,
R330, R331, R334, R338, R559; derived.) -/
def Obligations.DuetChannels : Prop :=
  (∀ (s : State), s.due.hbAt ≠ some (s.now / 400000) →
    let u := s.setDue ({ · with hbAt := some (s.now / 400000) })
    exec .hb s = .next (u.duetSend 0 [s.duetRole + s.get Reg.DUE_STS.LOCAL_SRC * 2 ^ 3 + s.get Reg.DUE_STS.EPOCH * 2 ^ 8
      + s.now / 4000000 % 2 ^ 32 * 2 ^ 16]))
  ∧ (∀ (s : State) (width : Nat), s.fieldOn = true →
    let u := s.stsFrame 0x26 (hbCodeOf width)
    exec (.hbIn width) s = .next (
      if s.awake = false then u else if hbCodeOf width = 7 then (u.count (Reg.DUE_CNT.CNT 1)).pmcAdd 412 else u.heard false))
  ∧ (∀ (s : State), s.duetRole = 1 → s.due.await = false → s.due.copyAt ≠ some (s.now / 4000000) →
    exec .state s = .next ((s.setDue ({ · with copyAt := some (s.now / 4000000) })).sendCopy))
  ∧ (∀ (s : State) (items : List CopyItem), s.duetUp = true → s.duetRole = 2 ∨ s.due.await = true →
    let u := s.showDigest.duetAck 3 ((s.due.seqRx.lookup 3).getD 0) false []
    exec (.stateCopyReceive items) s = .next ((u.each items (fun i t => t.copyItem i)).setDue ({ · with await := false })))
  ∧ (∀ (s : State), s.duetRole = 2 →
    exec (.order none) s = .next s.runOrders
    ∧ ∀ o : Order, s.duetUp = true →
      let more := match o with
        | .swap _ => [unsigned 64 (s.getI64 Reg.DUE_CNT_OFS.PAIR)]
        | _ => []
      exec (.order (some o)) s = .next ((s.duetAck 2 ((s.due.seqRx.lookup 2).getD 0) false more).setDue
        (fun d => { d with orders := d.orders ++ [o] })).runOrders)
  ∧ (∀ (s : State) (tk : Nat) (own : Bool) (reports : List EdgeReport) (stale : List Bool), s.duetUp = true →
    tk % 2 ^ s.get Reg.TRK_CFG.RPT_LOG = 0 →
    let u := s.setDue ({ · with peer := some ⟨tk, !own, reports, stale⟩, localTold := false })
    exec (.timing tk own reports stale) s = .next (
      if u.duetRole = 2 then ((u.put Reg.DUE_STS.LOCAL_SRC 0).restartGap tk).standbyFeed ⟨tk, !own, reports, stale⟩
      else u.setDue (fun x => { x with
        shadow := x.shadow.zipIdx.map (fun e => match reports[e.2]? with
          | some r => if stale.getD e.2 true then e.1 else u.taken r tk 0 e.1
          | none => e.1) })))
  ∧ (∀ (s : State) (b : Nat), s.duetRole = 2 → b % 2 ^ s.get Reg.TRK_CFG.RPT_LOG = 0 → b + 3000 ≤ s.now → s.tb.lastVote ≠ some b →
    s.due.peer.map (·.tk) ≠ some b →
    let u := match s.due.local_ with
      | some d => if d.tk = b then s.feed d (s.getI64 Reg.DUE_CNT_OFS.PAIR) else s
      | none => s
    let v := u.put Reg.DUE_STS.LOCAL_SRC 1
    exec (.stDueTimingLocal b) s = .next (if v.due.localTold then v
      else (v.setDue ({ · with localTold := true })).post (ev Code.ST_DUE_TIMING_LOCAL srcDUE)))
  ∧ (∀ (s : State) (p : Nat) (lines : List (Nat × Nat × Bool)), s.duetUp = true → s.duetRole = 2 → p < 96 →
    let live := lines.filter (fun e => s.digestLive p e.1)
    exec (.digest p lines) s = .next (s.setDue (fun d => { d with
      lastDigest := some s.now,
      digests := d.digests.filter (fun x => !(x.port = p && live.any (fun e => e.1 = x.seq)))
        ++ live.map (fun e => ⟨p, e.1, e.2.1, e.2.2⟩) })))
  ∧ (∀ (s : State), s.duetRole = 2 → (∀ t, s.due.lastDigest = some t → t + 80000 ≤ s.now) →
    exec .digestGateTimeout s = .next (s.each s.upPorts (fun p u => u.sendTurn p)).freeShadow.pagesDone)
  ∧ (∀ (s : State), s.due.missing.any (fun m => m.2.2 + 400000 ≤ s.now) = true →
    exec .duetNakTimeout s = .next (s.setDue ({ · with missing := [] })).detach)
  ∧ (∀ (s : State) (axis : Nat), axis < 4 → s.due.raising = true → s.duetRole = 1 →
    s.mot.axes.all (fun x => x.encAt + s.get Reg.DUE_CFG.MOT_QUIET * 4000000 ≤ s.now) = true →
    exec (.duetOwnRaise axis) s = .next (s.setDue ({ · with own := true, raising := false })).motionFree)
  ∧ (∀ (s : State),
    let lane := !s.due.laneLost && s.pathSilent s.due.laneHb
    let pin := !s.due.pinLost && s.pathSilent s.due.pinHb
    let u := match s.swapPoint with
      | some ts => if ts ≤ s.now then s.flip ts else s
      | none => s
    let v := if lane then u.pathLost true else u
    let w := if pin then v.pathLost false else v
    lane = true ∨ pin = true → exec .stDuePathLoss s = .next (if w.due.laneLost && w.due.pinLost then w.bothLost else w))

/-- Exchanges of the roles. The primary, with an exchange asked for or its period over, orders it at a report boundary at least 2 ms ahead
once its conditions hold and the place is one where a page starts or none runs. One that has no acknowledgement 1 ms before its point
is withdrawn, and one that could not be ordered within 10 minutes is skipped and told, its period starting again where it was due. At
the point each member changes its role, and 100 µs later the outputs' drive follows and the exchange is counted and told. (R334, R335,
R337, R558; derived.) -/
def Obligations.Allemandes : Prop :=
  (∀ (s : State) (ts : Nat), s.duetRole = 1 → s.due.swapped = none →
    let begins := s.due.swap.isNone && s.flag Reg.DUE_CFG.ALLEM_EN && s.get64 Reg.DUE_ALLEM_NEXT.PAIR ≤ s.now
    let u := if begins then s.setDue ({ · with swap := some ⟨s.now, none, 0, false, false⟩ }) else s
    ∀ x, u.due.swap = some x → x.at_ = none → u.allemReady = true → u.swapPlace ts = true →
    ts % 2 ^ u.get Reg.TRK_CFG.RPT_LOG = 0 → u.now + 8000000 ≤ ts → exec (.allemandeStart ts) s = .next (u.orderSwap 4 ts x))
  ∧ (∀ (s : State) (x : Swap) (ts : Nat), s.due.swap = some x → x.at_ = some ts → x.acked = false → x.handover = false → ts ≤ s.now + 4000000 →
    exec .allemandeCancel s = .next (s.setDue ({ · with swap := some { x with at_ := none } })))
  ∧ (∀ (s : State) (x : Swap), s.due.swap = some x → x.at_ = none → x.handover = false → x.since + 2400000000000 ≤ s.now →
    let next := s.get64 Reg.DUE_ALLEM_NEXT.PAIR
    let u := s.setDue ({ · with swap := none })
    let v := if next ≤ s.now then (u.setDue ({ · with lastSwap := next })).showAllem else u
    exec .stDueAllemSkip s = .next ((v.put Reg.DUE_EVT.ALLEM_SKIP 1).post (ev Code.ST_DUE_ALLEM_SKIP srcDUE)))
  ∧ (∀ (s : State) (ts : Nat), s.swapPoint = some ts → ts ≤ s.now → exec .allemandeSwapPoint s = .next (s.flip ts))
  ∧ (∀ (s : State) (ts : Nat) (lead : Bool), s.due.swapped = some (ts, lead) → ts + 400000 ≤ s.now →
    let u := s.setDue (fun d => { d with swapped := none, drive := lead, own := lead })
    let v := if lead then u.each u.upPorts (fun p t => t.timebase p (t.port p).xid) else u
    exec .stDueAllemande s = .next (((v.count (Reg.DUE_CNT.CNT 6)).showAllem).post (ev Code.ST_DUE_ALLEMANDE srcDUE)))

/-- Camera ports: enable, discovery, control channel and events. A write of CAM_P_CTRL whose RETRY finds the port in DISCOVERY_FAIL starts
discovery, which is all a locked one does beside its unlocked fields; an unlocked one with RATE 0 or CONN 3 is dropped with CFG_ERR,
one that enables the port starts discovery if the budget allows it and is taken back and told if not, one that disables the port stops
it, and any other on an enabled port in DISCOVERY_FAIL starts discovery again. Discovery that finds enough connections at the rate
makes the link UP, else it fails. A link that goes down is told and discovered again. SEND while BUSY is CFG_ERR, as where a set's
write is due, which goes out first; with the channel idle it sends the transmit buffer. An acknowledge, or 200 ms without one, ends
the transaction: of the host with its flag and event, of a timed write in its set. A camera event goes into the next slot of the event
buffer, or sets OVF where all four are taken. (R260, R261, R262, R263, R264, R292, R294, R275; derived.) -/
def Obligations.CameraLinkCommands : Prop :=
  (∀ (s : State) (slot p : Nat) (data : Word), p < 8 → s.mayWrite slot (Reg.CAM_P_CTRL.AT p) →
    let a := Reg.CAM_P_CTRL.AT p
    let u := s.inbound slot
    let w := u.writeFields slot a data
    let was := u.flag (Reg.CAM_P_CTRL.EN p)
    exec (.retry slot p) s = .next (if u.camState p = 3 then u.discover p else u)
    ∧ (u.lockedAt a = true →
      exec (.camPortEnable slot p data) s = .next (if wbit data 8 && w.camState p = 3 then w.discover p else w))
    ∧ (u.lockedAt a = false → wbits data 4 3 = 0 ∨ wbits data 2 2 = 3 →
      exec (.camPortEnable slot p data) s = .next (u.put (Reg.CAM_P_STS.CFG_ERR p) 1))
    ∧ (u.lockedAt a = false → wbits data 4 3 ≠ 0 → wbits data 2 2 ≠ 3 →
      (was = false → wbit data 0 = true →
        let v := w.discover p
        exec (.camPortEnable slot p data) s = .next (
          if v.flag (Reg.CAM_P_CTRL.EN p) && v.overBudget p then u.post (ev Code.ST_CAM_BUDGET (srcCP p)) else v.showDemand))
      ∧ (was = true → wbit data 0 = false →
        exec (.camPortEnable slot p data) s = .next (((u.camOff p).writeFields slot a data).showDemand))
      ∧ (was = wbit data 0 →
        exec (.camPortEnable slot p data) s = .next (if wbit data 0 && w.camState p = 3 then w.discover p else w))))
  ∧ (∀ (s : State) (p found reached : Nat), p < 8 → s.camState p = 1 →
    let want := s.camConns p
    let rate := s.get (Reg.CAM_P_CTRL.RATE p)
    let u := (s.put (Reg.CAM_P_STS.CONN_FOUND p) (min found 7)).put (Reg.CAM_P_STS.RATE_FOUND p) (min reached rate)
    exec (.camDiscoveryDone p found reached) s = .next (
      if found < want || reached < rate then (u.put (Reg.CAM_P_STS.STATE p) 3).post (ev Code.ST_CAM_DISCOVERY_FAIL (srcCP p))
      else ((u.put (Reg.CAM_P_STS.STATE p) 2).showCamLanes p want rate).post (ev Code.ST_CAM_LINK_UP (srcCP p))))
  ∧ (∀ (s : State) (p : Nat), p < 8 → s.camState p = 2 →
    exec (.stCamLinkDown p) s = .next ((s.post (ev Code.ST_CAM_LINK_DOWN (srcCP p))).discover p))
  ∧ (∀ (s : State) (slot p : Nat) (data : Word), p < 8 → s.mayWrite slot (Reg.CAM_P_CC_CTRL.AT p) →
    let u := s.inbound slot
    let w := u.hostSet (Reg.CAM_P_CC_CTRL.AT p) false data
    let due := (w.cam p).sets.find? (fun e => w.get Reg.ERR_STS.SHED ≠ 3 && w.writesWait p e.1 e.2)
    (wbit data 14 = false → exec (.send slot p data) s = .next w)
    ∧ (wbit data 14 = true → u.flag (Reg.CAM_P_CC_CTRL.BUSY p) = true → exec (.send slot p data) s = .next (w.put (Reg.CAM_P_STS.CFG_ERR p) 1))
    ∧ (wbit data 14 = true → u.flag (Reg.CAM_P_CC_CTRL.BUSY p) = false →
      (∀ e, due = some e → exec (.send slot p data) s = .next ((w.sendWrite p e.1).put (Reg.CAM_P_STS.CFG_ERR p) 1))
      ∧ (due = none → exec (.send slot p data) s = .next (w.ccSend p))))
  ∧ (∀ (s : State) (p : Nat) (bytes : List Byte), p < 8 → s.flag (Reg.CAM_P_CC_CTRL.BUSY p) = true →
    let late := (s.cam p).ccAt + 800000000 ≤ s.now
    ((s.cam p).ccSlot = none →
      (∀ ok : Bool, let b := bytes.take 1024
        let u := s.setWords (Reg.CAM_P_RXBUF.VAL p 0).addr (wordsOf b (ceilDiv b.length 4))
        exec (.stCamCcDone p bytes ok) s = .next ((((u.put (Reg.CAM_P_CC_CTRL.RXLEN p) b.length).put (Reg.CAM_P_CC_CTRL.DONE p) 1).post
          (ev Code.ST_CAM_CC_DONE (srcCP p))).ccNext p none))
      ∧ (late → exec (.stCamCcTimeout p) s
        = .next (((s.put (Reg.CAM_P_CC_CTRL.TIMEOUT p) 1).post (ev Code.ST_CAM_CC_TIMEOUT (srcCP p))).ccNext p none)))
    ∧ (∀ slot : Nat, (s.cam p).ccSlot = some slot →
      (∀ ok : Bool, exec (.stCamCcDone p bytes ok) s
        = .next ((if ok then s.setAcked p slot else s.setFails p slot).ccNext p (some slot)))
      ∧ (late → exec (.stCamCcTimeout p) s = .next ((s.setFails p slot).ccNext p (some slot)))))
  ∧ (∀ (s : State) (p : Nat) (bytes : List Byte), p < 8 → s.camState p = 2 → bytes.length ≤ 256 →
    (4 ≤ s.get (Reg.CAM_P_EVT.COUNT p) → exec (.stCamEvent p bytes) s = .next (s.put (Reg.CAM_P_EVT.OVF p) 1))
    ∧ (s.get (Reg.CAM_P_EVT.COUNT p) < 4 →
      let i := s.get (Reg.CAM_P_EVT.HEAD p)
      let u := s.setWords (Reg.CAM_P_EVBUF.VAL p (64 * i)).addr (wordsOf bytes (ceilDiv bytes.length 4))
      exec (.stCamEvent p bytes) s = .next (((u.put (Reg.CAM_P_EVT.HEAD p) (i + 1)).count (Reg.CAM_P_EVT.COUNT p)).post
        (ev Code.ST_CAM_EVENT (srcCP p)))))

/-- Triggers, camera lines and a set's camera writes. At its time the first unsent trigger is sent and counted, or skipped: a skipped one
counts, is told once in its frame and leaves its camera line absent. A stream line's CRC errors and heartbeats count; one that the
port does not take is told at most once a second; one that falls in a sent trigger's window counts and is that trigger's line; one in
no window is stray, told once in the open frame, or each time where none is open. A trigger whose window has passed loses its line. A
set whose writes are due has its first write sent, waits its turn while the channel is BUSY, and is held back while firmware sheds
load. (R258, R266, R267, R268, R271, R272, R524; derived.) -/
def Obligations.CameraLineCommands : Prop :=
  (∀ (s : State) (p : Nat) (t : Trigger), p < 8 → (s.cam p).trigs.find? (fun t => !t.sent) = some t → t.t ≤ s.now + 8 →
    let l : CamAt := ⟨t.chain, t.q⟩
    let u := s.setsTake p l
    (u.skipsTrigger p t = false → exec (.cameraTrigger p) s
      = .next (((u.send (.trigger p t.t)).count (Reg.CAM_P_CNT.CNT p 3)).setCam p (fun x => { x with
          lastTrig := some t.t, trigs := x.trigs.map (fun y => if y = t then { y with sent := true } else y) })))
    ∧ (u.skipsTrigger p t = true → exec (.cameraTrigger p) s
      = .next ((((((u.count (Reg.CAM_P_CNT.CNT p 4)).pmcAdd (472 + p)).setCam p (fun x => { x with trigs := x.trigs.filter (· ≠ t) })).openFrame
          p l).tellOnce p l 0 Code.ST_CAM_TRIG_SKIP).lineAbsent p l)))
  ∧ (∀ (s : State) (p arrival : Nat) (x : StreamLine), p < 8 → s.camState p = 2 →
    let u := (s.count (Reg.CAM_P_CNT.CNT p 5) x.crcErrors).setCam p (fun c => { c with beats := c.beats + x.head.beats })
    let v := (u.count (Reg.CAM_P_CNT.CNT p 2)).pmcAdd (480 + p)
    (u.takesStream p x = false → exec (.cameraLineReceive p arrival x.head x.pixels x.crcErrors x.full) s
      = .next (u.postLimited (ev Code.ST_CAM_FORMAT (srcCP p)) p 4000000000))
    ∧ (u.takesStream p x = true → (u.cam p).trigs.find? (u.inWindow p arrival) = none →
      ((v.cam p).frames.head? = none → exec (.cameraLineReceive p arrival x.head x.pixels x.crcErrors x.full) s = .next (v.post (ev Code.ST_CAM_LINE_STRAY (srcCP p))))
      ∧ (∀ f, (v.cam p).frames.head? = some f →
        exec (.cameraLineReceive p arrival x.head x.pixels x.crcErrors x.full) s = .next (v.tellOnce p ⟨f.chain, 4096 * f.no⟩ 2 Code.ST_CAM_LINE_STRAY)))
    ∧ (∀ t : Trigger, u.takesStream p x = true → (u.cam p).trigs.find? (u.inWindow p arrival) = some t →
      let w := ((u.count (Reg.CAM_P_CNT.CNT p 0)).pmcAdd (352 + p)).put64 (Reg.CAM_P_LINE.PAIR p) t.q
      exec (.cameraLineReceive p arrival x.head x.pixels x.crcErrors x.full) s = .next ((w.setCam p (fun c => { c with
        trigs := c.trigs.filter (· ≠ t), lastGot := some ⟨t.chain, t.q⟩ })).lineFate p ⟨⟨t.chain, t.q⟩, some x.pixels, x.full⟩)))
  ∧ (∀ (s : State) (p : Nat) (t : Trigger), p < 8 → (s.cam p).trigs.find? (fun t => t.sent) = some t →
    t.t + s.get (Reg.CAM_P_LAT.MAX p) * 1000 < s.now →
    let l : CamAt := ⟨t.chain, t.q⟩
    exec (.lineWindowClose p) s = .next ((((s.setCam p (fun x => { x with trigs := x.trigs.filter (· ≠ t) })).openFrame p
      l).tellOnce p l 1 Code.ST_CAM_LINE_MISSING).lineAbsent p l))
  ∧ (∀ (s : State) (p slot : Nat) (x : CamSet), p < 8 → (s.cam p).sets.lookup slot = some x → s.writesWait p slot x = true →
    exec (.setCameraWrites p slot) s = .next (
      if s.get Reg.ERR_STS.SHED = 3 then s.pmcAdd 435
      else if s.flag (Reg.CAM_P_CC_CTRL.BUSY p) then s.setCam p (fun y => { y with waiting := y.waiting ++ [slot] })
      else s.sendWrite p slot))

/-- Descriptors of the camera capture ring. The head descriptor of a running capture ring is done as its OP says. A CAPTURE, or a body
whose OP names nothing, completes with the cause that refuses it: a body out of range, a port off, a buffer too short, lines that have
gone by; one of no lines is done at once, and any other with its job known starts at its first camera line. A SETLOAD loads its slot,
a REPLAY runs the stored lines through the stages, and a STATS names a buffer for records, the oldest of which is written into it, or
shed under load. (R286, R287, R288, R289, R290, R271, R524; derived.) -/
def Obligations.CaptureDescriptors : Prop :=
  (∀ (s : State) (r : Nat) (d : Desc), s.ringType r = 2 → s.headDesc r = some d → d.capOp < 2 ∨ 5 ≤ d.capOp →
    let p := d.capPort
    let u := s.markStarted r d.index
    let short := d.capLen < d.capLines * d.capStride (u.camComps p)
    (s.capFits d = false → exec (.capture r) s = .next (u.complete r d.index Code.ST_DESC_FORMAT))
    ∧ (s.capFits d = true → s.flag (Reg.CAM_P_CTRL.EN p) = false → exec (.capture r) s = .next (u.complete r d.index Code.ST_CAM_DOWN))
    ∧ (∀ c m : Nat, s.capFits d = true → s.flag (Reg.CAM_P_CTRL.EN p) = true → s.capChainLine d = some (c, m) →
      let first : CamAt := ⟨c, m / s.lineGroup⟩
      (short → exec (.capture r) s = .next (u.complete r d.index Code.ST_CAP_SHORT))
      ∧ (¬ short → (∃ g, (u.cam p).lastGot = some g ∧ first.le g = true) →
        exec (.capture r) s = .next (u.complete r d.index Code.ST_CAP_LATE))
      ∧ (¬ short → (∀ g, (u.cam p).lastGot = some g → first.le g = false) →
        exec (.capture r) s = .next (if d.capLines = 0 then u.complete r d.index Code.ST_OK
          else u.setIns (fun i => { i with caps := i.caps ++ [⟨r, d.index, p, first, 0, false⟩] })))))
  ∧ (∀ (s : State) (r : Nat) (d : Desc) (bytes : List Byte), s.ringType r = 2 → s.headDesc r = some d →
    (d.capOp = 3 → exec (.setload r bytes) s = .next (s.setload r d bytes))
    ∧ (d.capOp = 4 → exec (.replay r bytes) s = .next (s.replayDesc r d bytes))
    ∧ (d.capOp = 2 →
      let u := s.markStarted r d.index
      exec (.stats r) s = .next (
        if d.capLen < 64 * d.capLines then u.complete r d.index Code.ST_CAP_SHORT
        else if d.capLines = 0 then u.complete r d.index Code.ST_OK
        else u.setIns (fun i => { i with stats := i.stats ++ [(r, d.index, 0)] }))))
  ∧ (∀ (s : State) (x : StatRec) (r i n : Nat), s.ins.recs.head? = some x →
    (1 ≤ s.get Reg.ERR_STS.SHED → exec .statsRecordWrite s = .next ((s.setIns (fun i => { i with recs := i.recs.drop 1 })).pmcAdd 433))
    ∧ (s.get Reg.ERR_STS.SHED = 0 → s.ins.stats.head? = some (r, i, n) →
      (∀ d, (s.ring r).flight.find? (·.index = i) = some d → exec .statsRecordWrite s = .next (s.writeStat x r i n d))
      ∧ ((s.ring r).flight.find? (·.index = i) = none →
        exec .statsRecordWrite s = .next (s.setIns (fun i => { i with stats := i.stats.drop 1 })))))

/-- How calibration finds, forms, measures and ends its work. A port whose calibration is older than CAL_TRIG.AGE is due with cause 2,
unless it is due or runs. Where runs may take place and firmware does not shed load, a waiting stitch and the first due port that may
start do, and a run takes its next batch; under load the work is counted as shed. A cell that has passed the camera is measured by the
batch whose it is. A pass with no cell left ends, and a stitch set's does too, set B once set A's result is known. A sweep is due
every CAL_LANE.PERIOD seconds: it is told at once where no lane is UP, else the lanes re-adapt; between sweeps the lanes that moved in
temperature do. A batch's nozzles that have been out for MAX_TIME are abandoned; a stitch whose last ones were ends with
ST_CAL_TIMEOUT, and with none under way a waiting one may start. (R295, R296, R297, R298, R302, R303, R304, R307, R308, R310, R311,
R524; derived.) -/
def Obligations.CalibrationWork : Prop :=
  (∀ (s : State) (p : Nat), p < 96 → s.get Reg.CAL_TRIG.AGE ≠ 0 →
    s.get (Reg.CAL_PORT_TS.VAL p) * 2 ^ 32 + s.get Reg.CAL_TRIG.AGE * 240000000000 < s.now →
    let u := (s.put (Reg.CAL_PORT_STS.DUE p) 1).put (Reg.CAL_PORT_STS.CAUSE p) 2
    exec (.calAgeDue p) s = .next (
      if s.flag (Reg.CAL_PORT_STS.DUE p) || s.flag (Reg.CAL_PORT_STS.RUNNING p) then s
      else { u with cal := { u.cal with due := u.cal.due ++ [p] } }))
  ∧ (∀ s : State, s.calRuns = true →
    (s.get Reg.ERR_STS.SHED < 2 → exec .calRunStart s = .next (State.startFirst s.cal.due s.tryStitch))
    ∧ (2 ≤ s.get Reg.ERR_STS.SHED → s.cal.due ≠ [] → exec .calRunStart s = .next (s.pmcAdd 434))
    ∧ (∀ (p : Nat) (r : CalRun), s.cal.runs.find? (·.port = p) = some r →
      exec (.calBatchForm p) s = .next (if 2 ≤ s.get Reg.ERR_STS.SHED then s.pmcAdd 434 else (s.formBatch r).tryStitch)))
  ∧ (∀ (s : State) (batch cell gn slot : Nat) (b : CalBatch) (x : CalCell) (n : CalNoz), s.get Reg.DUE_STS.ROLE ≠ 2 →
    s.cal.batches.find? (·.id = batch) = some b → b.noz.find? (·.gn = gn) = some n →
    b.cells.find? (fun x => x.no = cell && x.slot = some slot && x.left.contains gn) = some x →
    s.cellPassed b slot = true → exec (.calCellMeasure batch cell gn slot) s = .next (s.measureCell b x n))
  ∧ (∀ (s : State) (i : Nat) (b : CalBatch), s.get Reg.DUE_STS.ROLE ≠ 2 → s.cal.batches.find? (·.id = i) = some b → b.cells = [] →
    (b.set = 0 → exec (.calPassEnd i) s = .next (s.endPass b).tryStitch)
    ∧ (∀ t : Stitch, b.set ≠ 0 → s.cal.stitch = some t → b.set ≠ 2 ∨ t.ea.isSome = true →
      exec (.calPassEnd i) s = .next (s.endSet b t).tryStitch))
  ∧ (∀ s : State, s.flag Reg.CAL_CTRL.LANE_EN = true →
    let due := s.get Reg.CAL_LANE.PERIOD ≠ 0 ∧ s.cal.sweep = [] ∧ s.cal.sweeping = []
      ∧ s.cal.sweepAt + s.get Reg.CAL_LANE.PERIOD * 4000000000 ≤ s.now
    let u := s.setCal ({ · with sweepAt := s.now, sweep := s.upLanes, periodic := s.upLanes ≠ [] })
    let moved := s.movedLanes.filter (fun n => !s.cal.sweep.contains n && !s.cal.sweeping.contains n)
    (due → exec .calLaneSweep s = .next (if s.upLanes = [] then u.post (ev Code.ST_CAL_LANE_DONE srcCAL) else u.sweepOn))
    ∧ (¬ due → exec .calLaneSweep s = .next (s.setCal (fun c => { c with sweep := c.sweep ++ moved })).sweepOn))
  ∧ (∀ s : State, s.get Reg.DUE_STS.ROLE ≠ 2 →
    let limit := s.get Reg.CAL_CFG.MAX_TIME * 4000000000
    let old := s.cal.batches.flatMap (fun b => (b.noz.filter (fun n => n.since + limit ≤ s.now)).map (fun n => (b, n)))
    let u := s.each old (fun e t => t.timeOut e.1 e.2)
    (u.cal.stitch = none → exec .stCalTimeout s = .next u.tryStitch)
    ∧ (∀ t, u.cal.stitch = some t → exec .stCalTimeout s = .next (
      if u.cal.batches.any (fun b => b.set ≠ 0) || !old.any (fun e => e.1.set ≠ 0) then u
      else u.stitchEnds t.bar Code.ST_CAL_TIMEOUT)))

/-- Runs, stitches, gutters and stops that the host orders. A RUN descriptor in range makes its ports due with cause 4, or queues its
bar's stitch, and stays open until they end; one out of range completes with ST_DESC_FORMAT. A GUTTER descriptor out of range does
too; one of a job that is unknown or whose chain has ended, or whose lines have gone by, completes with ST_CAL_GUTTER_LATE; else it
completes with ST_OK and adds the part of its band that is still usable, once its job has its place. A write of CAL_STITCH_CTRL with K
under 4 while it is unlocked is CFG_ERR; otherwise its fields are taken and GO queues the bar's stitch; one of CAL_CTRL takes its
fields and STOP ends all runs. (R299, R307, R308, R312, R295, R287; derived.) -/
def Obligations.CalibrationOrders : Prop :=
  (∀ (s : State) (r : Nat) (d : Desc), s.ringType r = 5 → s.headDesc r = some d →
    let u := s.markStarted r d.index
    (d.kind = 2 → d.runBad = true → exec (.run r) s = .next (u.complete r d.index Code.ST_DESC_FORMAT))
    ∧ (d.kind = 2 → d.runBad = false → bit (d.at_ 16 2) 0 = false →
      let ports := (List.range (d.at_ 19 1)).map (d.at_ 18 1 + ·)
      exec (.run r) s = .next ((u.setCal (fun c => { c with descs := c.descs ++ [⟨r, d.index, ports, none, Code.ST_OK⟩] })).each ports
        (fun p t => t.calDue p 4)))
    ∧ (d.kind = 2 → d.runBad = false → bit (d.at_ 16 2) 0 = true →
      let b := d.at_ 20 1
      exec (.run r) s = .next (u.setCal (fun c => { c with
        descs := c.descs ++ [⟨r, d.index, [], some b, Code.ST_OK⟩],
        stitchQ := if c.stitchQ.contains b then c.stitchQ else c.stitchQ ++ [b] })).tryStitch)
    ∧ (d.kind = 1 → d.gutterBad = true → exec (.gutter r) s = .next (u.complete r d.index Code.ST_DESC_FORMAT))
    ∧ (d.kind = 1 → d.gutterBad = false → s.job.jobs.find? (·.id = d.at_ 16 2) = none →
      exec (.gutter r) s = .next (u.complete r d.index Code.ST_CAL_GUTTER_LATE))
    ∧ (∀ j : Job, d.kind = 1 → d.gutterBad = false → s.job.jobs.find? (·.id = d.at_ 16 2) = some j → j.z < farLine →
      (s.chain? j.chain = none → exec (.gutter r) s = .next (u.complete r d.index Code.ST_CAL_GUTTER_LATE))
      ∧ (∀ c : Chain, s.chain? j.chain = some c →
        let first := j.z + d.at_ 24 8
        let last := first + d.at_ 32 4 - 1
        let lo := s.gutterFrom c (d.at_ 18 2) first
        let g : Gutter := ⟨c.id, d.at_ 18 2, lo, last, bit (d.at_ 20 1) 0⟩
        let v := ((s.setCal (fun x => { x with bands := x.bands ++ [g] })).markStarted r d.index).complete r d.index Code.ST_OK
        exec (.gutter r) s = .next (if last < lo then u.complete r d.index Code.ST_CAL_GUTTER_LATE
          else v.each (bitList 16 g.bars) (fun b t => t.assignShare b)))))
  ∧ (∀ (s : State) (slot : Nat) (data : Word), s.mayWrite slot Reg.CAL_STITCH_CTRL.AT →
    let u := s.inbound slot
    let w := u.writeFields slot Reg.CAL_STITCH_CTRL.AT data
    exec (.go slot data) s = .next (
      if !u.lockedAt Reg.CAL_STITCH_CTRL.AT && wbits data 0 8 < 4 then u.put Reg.CAL_STS.CFG_ERR 1
      else if bit data.toNat 10 then w.stitchGo data else w))
  ∧ (∀ (s : State) (slot : Nat) (data : Word), s.mayWrite slot Reg.CAL_CTRL.AT →
    let w := (s.inbound slot).writeFields slot Reg.CAL_CTRL.AT data
    exec (.stop slot data) s = .next (if bit data.toNat 4 then w.calStop Code.ST_CAL_STOPPED else w))

/-- Claims, releases, handovers and leases. A slot that reaches the device and claims it renews its lease, LEASE ms from now, and becomes
the owner where there is none, with ST_OWN_CLAIMED posted; one that outranks the owner of this very clock takes its place and makes it
a claimant, and any other is recorded as a claimant. The owner's RELEASE leaves no owner and its HANDOVER to a live claimant makes
that one the owner and the old one a claimant, while one to any other slot is refused; what a slot that is not the owner writes is
reported. A heartbeat of the owner or a claimant renews its lease. Checking leases drops claimants whose lease is over and then an
owner whose lease is, after whom the best live claimant is elected; with none there is no owner, and a device that is to stop at the
loss and has a chain in flight enters M8. (R344, R345, R346, R347, R348, R349, R350, R374; derived.) -/
def Obligations.Ownership : Prop :=
  (∀ (s : State) (slot : Nat), slot < 4 → s.reach slot = true →
    let u := (s.inbound slot).renew slot
    (u.owner = none → exec (.claim slot) s
      = .next (((u.makeOwner slot).setHost ({ · with claimAt := some u.now })).post (ev Code.ST_OWN_CLAIMED srcDEV)))
    ∧ (∀ o : Nat, u.owner = some o → exec (.claim slot) s = .next (
      if o = slot then u else if u.outclaims slot o then (u.makeOwner slot).setClaimant o true else u.setClaimant slot true))
    ∧ exec (.devOwnHb slot) s = .next (
      let v := s.inbound slot
      if s.isOwner slot || s.claimants.contains slot then v.renew slot else v))
  ∧ (∀ (s : State) (slot target : Nat), s.mayWrite slot Reg.DEV_OWN_CTRL.AT → target < 4 →
    let u := s.inbound slot
    let h := (u.makeOwner target).setHost ({ · with handed := some (slot, u.now) })
    exec (.release slot) s = .next (u.noOwner.setHost (fun h => { h with lease := Sparse.erase slot h.lease }))
    ∧ exec (.ownHandover slot target) s = .next (
      if u.claimants.contains target && u.leaseLive target then
        ((h.setClaimant slot true).put Reg.DEV_OWN_STS.HANDOVER 1).post (ev Code.ST_OWN_HANDOVER srcDEV)
      else u.put Reg.DEV_OWN_STS.REFUSED 1))
  ∧ (∀ s : State, s.awake = true →
    let past := fun (slot : Nat) => decide ((s.host.lease.lookup slot).getD 0 < s.now)
    let u := s.each (s.claimants.filter past) (fun c t => t.setClaimant c false)
    (∀ o : Nat, u.owner = some o → exec .leaseCheck s = .next (if past o then u.ownerLost else u))
    ∧ (u.owner = none → exec .leaseCheck s = .next u))
  ∧ (∀ s : State,
    let u := (s.put Reg.DEV_OWN_STS.EXPIRED 1).post (ev Code.ST_OWN_LEASE_EXPIRED srcDEV)
    (∀ w : Nat, u.elected = some w → s.ownerLost = ((u.makeOwner w).put Reg.DEV_OWN_STS.ELECTED 1).post (ev Code.ST_OWN_ELECTED srcDEV w))
    ∧ (u.elected = none → s.ownerLost =
      if u.noOwner.flag Reg.DEV_OWN_CFG.LOSS_ACT && decide (u.noOwner.flying ≠ []) then u.noOwner.safeStop Code.ST_OWN_LEASE_EXPIRED
      else u.noOwner))

/-- Accesses to the peer's registers and the mailbox. GO of DEV_PEER_CTRL, unless BUSY, sends the access with a new tag and makes it BUSY;
its answer fills DATA for a read and sets DONE, and 200 µs without one sets FAIL and posts. An access that arrives from the peer is
done as slot 2's and answered. GO of the mailbox makes it BUSY and counts, or is a CFG_ERR while BUSY. A reply is the answer of the
firmware to the command, LATE where it is TELEMETRY's and a value is old, or ST_MBX_UNKNOWN to a command the table does not list; 10
ms without a reply is one of its own. (R321, R339, R351, R372, R373, R520, R521, R341; derived.) -/
def Obligations.PeerAccessAndMailbox : Prop :=
  (∀ (s : State) (slot : Nat) (data : Word), s.mayWrite slot Reg.DEV_PEER_CTRL.AT →
    let u := s.inbound slot
    let w := u.writeFields slot Reg.DEV_PEER_CTRL.AT data
    let tag := (w.host.peerTag + 1) % 256
    let v := (w.setHost ({ · with peerTag := tag, peerAt := some w.now })).put Reg.DEV_PEER_CTRL.BUSY 1
    exec (.devPeerGo slot data) s = .next (
      if u.flag Reg.DEV_PEER_CTRL.BUSY || !wbit data 0 then w
      else v.duetSend 5 [v.get Reg.DEV_PEER_ADDR.ADDR + tag * 2 ^ 32 + v.get Reg.DEV_PEER_CTRL.WRITE * 2 ^ 40, v.get Reg.DEV_PEER_DATA.DATA]))
  ∧ (∀ (s : State) (data : Word) (status t : Nat), s.host.peerAt = some t →
    exec (.peerRegAnswer s.host.peerTag data status) s = .next
      ((if s.flag Reg.DEV_PEER_CTRL.WRITE then s else s.put Reg.DEV_PEER_DATA.DATA data.toNat).peerAccessEnds Reg.DEV_PEER_CTRL.DONE)
    ∧ (t + 800000 ≤ s.now → exec (.stPeerRegFail s.host.peerTag) s
      = .next ((s.peerAccessEnds Reg.DEV_PEER_CTRL.FAIL).post (ev Code.ST_PEER_REG_FAIL srcDEV))))
  ∧ (∀ (s : State) (off tag : Nat) (data : Word), s.awake = true → s.duetUp = true → off < 2 ^ 26 →
    (off % 4 ≠ 0 → ∀ w : Bool, exec (.reg off tag w data) s = .next ((s.badSize 2 0 off).regAnswer off tag w 0))
    ∧ (off % 4 = 0 → exec (.reg off tag true data) s = .next ((s.wordWrite 2 off data).regAnswer off tag true data)
      ∧ exec (.reg off tag false data) s = .next ((s.wordRead 2 off none).2.regAnswer off tag false (s.wordRead 2 off none).1)))
  ∧ (∀ (s : State) (slot : Nat), s.mayWrite slot Reg.MBX_CTRL.AT →
    let u := s.inbound slot
    exec (.mbxGo slot) s = .next (if u.flag Reg.MBX_STS.BUSY then u.put Reg.MBX_STS.CFG_ERR 1
      else ((u.put Reg.MBX_STS.BUSY 1).pmcAdd 436).setHost ({ · with mbxAt := some u.now })))
  ∧ (∀ (s : State) (version log : List Byte) (sensors : Bool), s.flag Reg.MBX_STS.BUSY = true → s.pwr.svcHalted = false →
    let cmd := bits (s.word (Reg.MBX_REQ.AT 0)).toNat 0 16
    let late := cmd = 2 && s.telemetryLate sensors
    let page := log.take 1012
    let reply := fun (b : List Byte) => let u := s.mailboxReply Code.ST_OK b late
      if late then u.pmcAdd 438 else u
    (cmd = 1 → exec (.stMbxReply version log sensors) s = .next (reply ((version ++ List.replicate 16 0).take 16)))
    ∧ (cmd = 2 → exec (.stMbxReply version log sensors) s = .next (reply s.telemetry))
    ∧ (cmd = 3 → exec (.stMbxReply version log sensors) s = .next (reply (leBytes 4 ((s.word (Reg.MBX_REQ.AT 1)).toNat + page.length) ++ page)))
    ∧ (cmd = 0 ∨ 3 < cmd → exec (.stMbxReply version log sensors) s = .next (s.mailboxReply Code.ST_MBX_UNKNOWN [] false)))
  ∧ (∀ (s : State) (t : Nat), s.host.mbxAt = some t → t + 40000000 ≤ s.now →
    exec .stMbxTimeout s = .next ((s.pmcAdd 437).mailboxReply Code.ST_MBX_TIMEOUT [] false))

/-- Port resets and the counter page. PERST of a port, outside a reset of the device, resets the port, and after its release the port
answers 100 ms later. Any other loss of a link resets the port that answers. A port's reset disables its rings without a record and
stops what they started, takes its claim away and its ownership with it. A read of the counter page answers the counter word, 0 while
PERF_USER_EN is 0, the read of a live counter's low word keeping its high word for that port, and a read of another size or alignment
is answered as unsupported and reported. What link width and order a port trains to is open; the model draws it afresh. (R344, R349,
R370, R371, R491, R544, R554; derived.) -/
def Obligations.PortsAndCounterPage : Prop :=
  (∀ (s : State) (port : Nat), port < 2 → s.host.perst.getD port false = false →
    let u := s.setHost (fun h => { h with perst := h.perst.set port true })
    exec (.perstAssert port) s = .next (if s.awake then u.portReset port else u))
  ∧ (∀ (s : State) (port : Nat), port < 2 → s.host.perst.getD port false = true → exec (.perstRelease port) s
    = .next (s.drawn.setHost (fun h => { h with
      perst := h.perst.set port false, readyAt := h.readyAt.set port (s.now + 400000000), trained := h.trained.set port s.free })))
  ∧ (∀ (s : State) (port : Nat), port < 2 → s.reach port = true → exec (.stPortReset port) s = .next (s.portReset port))
  ∧ (∀ (s : State) (port : Nat),
    let rs := s.liveRings.filter (fun r => s.ringPort r = port)
    let u := (s.each rs (fun r t => t.ringOff r)).each (rs.filter (fun r => submissionType (s.ringType r))) (fun r t => t.stopFunction r)
    let v := ((u.setClaimant port false).post (ev Code.ST_PORT_RESET (srcPort port))).devAbortDone
    s.portReset port = if v.owner = some port then v.ownerLost else v)
  ∧ (∀ (s : State) (port off : Nat), port < 2 → off < 65536 → s.reach port = true →
    let u := s.inbound port
    let answer := fun (t : State) (w : Nat) => t.send (.readData port 2 off (BitVec.ofNat 32 w))
    (∀ size : Nat, size ≠ 4 ∨ off % 4 ≠ 0 →
      exec (.bar4Read port off size) s = .next ((u.badSize port 2 off).send (.unsupported port 2 off)))
    ∧ (off % 4 = 0 → exec (.bar4Read port off 4) s = .next (
      if u.flag Reg.DEV_CTRL.PERF_USER_EN = false then answer u 0
      else if 8192 ≤ off then answer u 0
      else if 4096 ≤ off then answer u (u.get64 (Reg.PMC_SNAP.PAIR (off % 4096 / 8)) / 2 ^ (off % 8 * 8) % 2 ^ 32)
      else if off % 8 = 0 then answer (u.setHost (fun h => { h with
          bar4Hi := Sparse.insert port (u.pmc (off / 8) / 2 ^ 32) h.bar4Hi })) (u.pmc (off / 8) % 2 ^ 32)
      else answer u ((u.host.bar4Hi.lookup port).getD 0))))

/-- Rings: enabling, doorbells, fetches, aborts and interrupts. A write of an unlocked RNG_R_CFG with LOG2 out of range, or that would
change a fixed field of a ring in use, is a CFG_ERR. Otherwise its fields are taken and setting EN runs the checks of R353 in order
and shows the first that fails, or enables the ring, while clearing it disables the ring. A producer or consumer doorbell in its range
from the ring's owner moves its index, and an abort doorbell, on either of its commands' rows, aborts the ring or, with bit 1, the
device; an abort of a ring that does not run is counted, and any other doorbell is dropped, counted and told. A descriptor's fetch
takes it into flight, and a failed one puts the ring in ERROR. Held completions go out as long as there is space. The moderation timer
sends the ring's vector. A device abort aborts every ring that runs, and a ring whose abort completes, with room for its records, is
STOPPED. (R353, R356, R357, R358, R359, R360, R361, R362, R366, R368, R369, R374; derived.) -/
def Obligations.RingCommands : Prop :=
  (∀ (s : State) (slot r : Nat) (data : Word), r < 256 → s.mayWrite slot (Reg.RNG_R_CFG.AT r) →
    let a := Reg.RNG_R_CFG.AT r
    let u := s.inbound slot
    let was := u.flag (Reg.RNG_R_CFG.EN r)
    let bad : Bool := wbits data 6 4 < 4 || 10 < wbits data 6 4 || (u.ringState r ≠ 0 && (u.word a ^^^ data) &&& 0x3FFD7#32 ≠ 0)
    let w := (u.writeFields slot a data).put (Reg.RNG_R_CFG.EN r) was.toNat
    let v := w.put Reg.RNG_STS.CFG_RESULT (w.enableFault r)
    (u.lockedAt a = true → exec (.ringEnable slot r data) s = .next (u.writeFields slot a data))
    ∧ (u.lockedAt a = false → bad = true → exec (.ringEnable slot r data) s = .next (u.put Reg.RNG_STS.CFG_ERR 1))
    ∧ (u.lockedAt a = false → bad = false → exec (.ringEnable slot r data) s = .next (
      if wbit data 26 && !was then (if w.enableFault r = 0 then v.ringOn r else v)
      else if !wbit data 26 && was then w.ringDisable r
      else w)))
  ∧ (∀ (s : State) (port r v : Nat), port < 2 → r < 256 → v < 2 ^ 32 → s.reach port = true →
    let u := s.inbound port
    let own := u.doorbellOk port r submissionType
    let prod : Bool := own && (u.ringState r = 1 || u.ringState r = 3) && (v + 2 ^ 32 - u.ringProd r) % 2 ^ 32 < 2 ^ 31
      && (v + 2 ^ 32 - u.ringCons r) % 2 ^ 32 ≤ u.ringSize r
    let same := (u.ring r).prodAt.any (fun p => p.1 = u.now)
    let x := if !same && u.ringState r = 1 then u.setRing r { u.ring r with prodAt := some (u.now, u.ringProd r) } else u
    let cons : Bool := u.doorbellOk port r (fun t => t = 6 || t = 7)
      && (v + 2 ^ 32 - u.ringHcons r) % 2 ^ 32 ≤ (u.ringCons r + 2 ^ 32 - u.ringHcons r) % 2 ^ 32
    let abort : Bool := own && v / 2 ^ 16 = 0xA5A5 && v % 2 ^ 16 < 4 && v % 4 ≠ 0
    let aborted := if bit v 1 then (u.rngCount 0).deviceAbort
      else if u.ringState r ≠ 1 then u.rngCount 1 else ((u.rngCount 0).rngCount 6).ringAbort r
    exec (.dbProd port r v) s = .next (
      if prod then ((x.rngCount 0).put (Reg.RNG_R_PROD.VAL r) v).put (Reg.RNG_R_STS.STATE r) 1 else u.doorbellBad r)
    ∧ exec (.dbHcons port r v) s = .next (if cons then (u.rngCount 0).put (Reg.RNG_R_HCONS.VAL r) v else u.doorbellBad r)
    ∧ exec (.dbAbortRing port r v) s = .next (if abort then aborted else u.doorbellBad r)
    ∧ exec (.dbAbortDevice port r v) s = .next (if abort then aborted else u.doorbellBad r))
  ∧ (∀ (s : State) (r : Nat), s.fetches r = true →
    (∀ bytes : List Byte, bytes.length = 64 → exec (.descriptorFetch r bytes) s = .next (s.fetched r bytes))
    ∧ exec (.stRingFetchErr r) s = .next (((s.put (Reg.RNG_R_STS.STATE r) 4).put (Reg.RNG_R_STS.FETCH_ERR r) 1).post
      (ev Code.ST_RING_FETCH_ERR srcRNG r)))
  ∧ (∀ (s : State) (r : Nat), s.ringType r = 6 → s.ringState r ≠ 0 →
    exec (.cqResume r) s = .next (State.drainHeld r (s.ring r).held.length s))
  ∧ (∀ (s : State) (r n : Nat) (h : HeldRec) (hs : List HeldRec), (s.ring r).held = h :: hs → State.drainHeld r (n + 1) s =
    if s.ringSpace r then State.drainHeld r n ((s.setRing r { s.ring r with held := hs }).writeCompletion r h.bytes h.irq) else s)
  ∧ (∀ (s : State) (r t : Nat), (s.ring r).firstRec = some t → t + 4000 * s.get (Reg.RNG_R_MOD.TIME r) ≤ s.now →
    s.flag (Reg.RNG_R_CFG.IRQ_EN r) = true → s.ringState r ≠ 0 → exec (.msixModerationTimer r) s
      = .next ((s.setRing r { s.ring r with since := 0, firstRec := none }).msixSend (s.ringPort r) (s.get (Reg.RNG_R_CFG.VEC r))))
  ∧ (∀ (s : State) (slot : Nat) (data : Word), s.mayWrite slot Reg.DEV_ABORT.AT →
    exec (.devAbort slot data) s = .next (if data.toNat = 0xA5A50002 then (s.inbound slot).deviceAbort else s.inbound slot))
  ∧ (∀ (s : State) (r : Nat), s.ringState r = 2 → (s.ring (s.get (Reg.RNG_R_CFG.CQ r))).held = [] →
    let cq := s.get (Reg.RNG_R_CFG.CQ r)
    let n := (s.openDescs r).length
    n ≤ s.ringSize cq - (s.ringCons cq + 2 ^ 32 - s.ringHcons cq) % 2 ^ 32 →
    let u := s.each (s.openDescs r) (fun i t => t.completeAborted r i)
    let v := (u.put (Reg.RNG_R_CONS.VAL r) (u.ringProd r)).put (Reg.RNG_R_STS.STATE r) 3
    exec (.stRingAborted r) s = .next (((v.put (Reg.RNG_R_STS.ABORT_DONE r) 1).setRing r { v.ring r with aborted := 0 }).post
      (ev Code.ST_RING_ABORTED srcRNG r ((s.ring r).aborted + n))).devAbortDone)

/-- Compression descriptors and rings. The head descriptor of a compression ring, of a stream ring only while none of it runs, completes
with ST_ZDESC_FORMAT where it is malformed; a well-formed one of its row's OP runs on the lowest idle channel that the page path has
not reserved, and a stream ring's only as its context allows, else it completes with ST_ZCTX_BAD. When its input and output have gone
over the link, a descriptor frees its channel, saves its context, counts its bytes and completes with the operation's end; a failed
read or write of the host completes it with ST_ZDMA_ERR, a lost context with ST_ZCTX_LOST, and a stream's in frozen memory with
ST_MEM_FROZEN. A ring's entry is written while the ring is DISABLED and its context is not another stream's, else it is a CFG_ERR.
(R376, R377, R378, R386, R387, R388, R389, R393, R394, R521; derived.) -/
def Obligations.CompressionCommands : Prop :=
  (∀ (s : State) (r : Nat) (d : Desc) (src : Option (List Byte)) (lost : Bool), s.ringType r = 3 → s.domOn 11 = true → s.headDesc r = some d →
    (s.isStream r = true → s.zip.runs.any (·.ring = r) = false) →
    let slot := s.get (Reg.ZIP_RING.CTX r)
    let u := (s.ctxTakes slot d).2
    let start := fun (ch : Nat) => if s.isStream r = false then s.zipRun ch r d none src false
      else if (s.ctxTakes slot d).1 then u.zipRun ch r d (some slot) src lost else u.zipEnds r d Code.ST_ZCTX_BAD
    (zipFormatBad (s.isStream r) d = true → exec (.deflate r src lost) s = .next (s.zipEnds r d Code.ST_ZDESC_FORMAT)
      ∧ exec (.inflate r src lost) s = .next (s.zipEnds r d Code.ST_ZDESC_FORMAT))
    ∧ (∀ ch : Nat, zipFormatBad (s.isStream r) d = false → s.idleRingChannel = some ch →
      (d.at_ 16 1 = 1 → exec (.deflate r src lost) s = .next (start ch))
      ∧ (d.at_ 16 1 = 2 → exec (.inflate r src lost) s = .next (start ch))))
  ∧ (∀ (s : State) (ch : Nat) (j : ZJob), s.zip.runs.find? (·.channel = ch) = some j →
    let frozen := s.frozen && j.slot.isSome
    (frozen = true → ∀ w : Bool, exec (.zipDescriptorDone ch w) s = .next (s.zipFails j Code.ST_MEM_FROZEN))
    ∧ (frozen = false → j.lost = true → ∀ w : Bool, exec (.zipDescriptorDone ch w) s = .next (s.zipFails j Code.ST_ZCTX_LOST))
    ∧ (∀ w : Bool, frozen = false → j.lost = false → j.src = none ∨ w = false →
      exec (.zipDescriptorDone ch w) s = .next (s.zipFails j Code.ST_ZDMA_ERR))
    ∧ (∀ src : List Byte, frozen = false → j.lost = false → j.src = some src →
      let e := s.zipEnd j src
      let u := s.drawn.zipIdle j
      let v := match j.slot with
        | some slot => u.ctxAfter slot e
        | none => u
      exec (.zipDescriptorDone ch true) s
        = .next ((v.zipWork ch e.used e.out.length (e.status ≠ Code.ST_OK && e.status ≠ Code.ST_ZSUSPEND)).zipDone j e)))
  ∧ (∀ (s : State) (slot r : Nat) (data : Word), r < 256 → s.mayWrite slot (Reg.ZIP_RING.AT r) →
    let u := s.inbound slot
    let w := u.writeFields slot (Reg.ZIP_RING.AT r) data
    let taken := wbit data 7 && (List.range 256).any (fun q => q ≠ r && u.isStream q && u.get (Reg.ZIP_RING.CTX q) = wbits data 0 6)
    exec (.zipRingWrite slot r data) s = .next (
      if u.lockedAt (Reg.ZIP_RING.AT r) then w
      else if u.ringState r ≠ 0 || taken then u.put Reg.ZIP_STS.CFG_ERR 1
      else if w.isStream r then w.put (Reg.ZIP_CTX_STS.RING (w.get (Reg.ZIP_RING.CTX r))) r else w))

/-- The population, training and helpers of the DRAM. In M2 a write of MEM_POP that names a supported population is taken, and one that
does not is a CFG_ERR and ends the boot with RESULT 7. Training starts every populated sub-channel; those that end show their outcome,
and when the last has ended, with none left, ST_MEM_NONE is posted and the boot ends with RESULT 8, and with one lost ST_MEM_REDUCED
is. A full retrain is accepted of a trained sub-channel in M3, M4 and M9 with no chain in flight and memory not frozen, from the owner
or from firmware, else it is a CFG_ERR, and its end is shown. While a sub-channel trains, its pattern generator adds what a comparison
finds and its mode-register access shows what the device answers; at other times both are a CFG_ERR. (R398, R410, R411, R412, R418,
R420, R490; derived.) -/
def Obligations.DramBringupCommands : Prop :=
  (∀ (s : State) (data : Word), s.mode = 2 →
    exec (.memPopWrite data) s = .next (if popFits data then s.hostSet Reg.MEM_POP.AT false data
      else (s.put Reg.MEM_STS.CFG_ERR 1).put Reg.PWR_BOOT_STS.RESULT 7))
  ∧ (∀ s : State, s.mode = 2 → s.get Reg.MEM_POP.POP ≠ 0 → s.get Reg.PWR_BOOT_STS.RESULT ≠ 7 → exec (.dramTraining .start) s
    = .next (s.each (bitList 16 (s.get Reg.MEM_POP.POP)) (fun mc t => (t.put (Reg.MC_STS.STATE mc) 1).put Reg.PWR_BOOT_STS.STEP 5)))
  ∧ (∀ (s : State) (outcomes : List TrainOutcome),
    let mine := outcomes.filter (fun o => o.mc < 16 && s.get (Reg.MC_STS.STATE o.mc) = 1)
    let u := s.each mine (fun o t => t.trainEnds o)
    let failed := (List.range 16).filter (fun mc => u.get (Reg.MC_STS.STATE mc) = 3)
    let v := u.showMemory
    let src := srcMC (failed.headD 0)
    mine ≠ [] → exec (.dramTraining (.done outcomes)) s = .next (
      if (List.range 16).any (fun mc => u.get (Reg.MC_STS.STATE mc) = 1) then u
      else if v.subChannels = [] then (v.post (ev Code.ST_MEM_NONE src)).put Reg.PWR_BOOT_STS.RESULT 8
      else if failed ≠ [] then v.post (ev Code.ST_MEM_REDUCED src (some (v.get64 Reg.MEM_CAP.PAIR / 2 ^ 30)))
      else v))
  ∧ (∀ (s : State) (mc : Nat), mc < 16 →
    let retrain := fun (t : State) =>
      if (t.mode = 3 || t.mode = 4 || t.mode = 9) && t.get Reg.JOB_STS.CHAINS = 0 && t.get (Reg.MC_STS.STATE mc) = 2 && !t.frozen then
        t.retrainStarts mc
      else t.put Reg.MEM_STS.CFG_ERR 1
    exec (.mcRetrain mc .firmware) s = .next (retrain s)
    ∧ (∀ (slot : Nat) (data : Word), s.mayWrite slot (Reg.MC_CTRL.AT mc) →
      exec (.mcRetrain mc (.write slot data)) s = .next (if wbit data 0 then retrain (s.inbound slot) else s.inbound slot))
    ∧ (∀ o : TrainOutcome, o.mc = mc → exec (.mcRetrain mc (.done o)) s = .next (s.retrainEnds o)))
  ∧ (∀ (s : State) (mc mask errors answer : Nat) (data : Word), mc < 16 →
    let training := fun (t : State) => t.get (Reg.MC_STS.STATE mc) = 1 ∨ t.get (Reg.MC_STS.STATE mc) = 4
    let u := s.hostSet (Reg.MC_PG_CTRL.AT mc) (s.lockedAt (Reg.MC_PG_CTRL.AT mc)) data
    let v := s.hostSet (Reg.MC_MRA.AT mc) false data
    (wbit data 0 = false → exec (.mcPgGo mc data mask errors) s = .next u)
    ∧ (wbit data 0 = true → ¬ training u → exec (.mcPgGo mc data mask errors) s = .next (u.put Reg.MEM_STS.CFG_ERR 1))
    ∧ (wbit data 0 = true → training u → exec (.mcPgGo mc data mask errors) s = .next (
      if u.get (Reg.MC_PG_CTRL.OP mc) = 0 then u
      else (u.put64 (Reg.MC_CMP_MASK.PAIR mc) (u.get64 (Reg.MC_CMP_MASK.PAIR mc) ||| mask % 2 ^ 40)).count (Reg.MC_CMP_CNT.CNT mc) errors))
    ∧ (wbit data 12 = false → exec (.mcMraGo mc data answer) s = .next v)
    ∧ (wbit data 12 = true → ¬ training v → exec (.mcMraGo mc data answer) s = .next (v.put Reg.MEM_STS.CFG_ERR 1))
    ∧ (wbit data 12 = true → training v →
      exec (.mcMraGo mc data answer) s = .next (if v.flag (Reg.MC_MRA.READ mc) then v.put (Reg.MC_MRA.DATA mc) answer else v)))

/-- Refresh, tracking, scrubbing, errors and the freeze of the DRAM. A refresh is done once at each multiple of its interval, and a wish
for doubled refresh takes effect at a multiple of 15,600 mt after it. A poll shows which ranks ask for it, and 100 ms with none ends
it; a rank hotter still sets HOT, is told, and where the device is to act on it enters M8. Scrubbing and a correctable error count it,
record it and tell it. 64 refreshes after the last, tracking moves the write delays of the trained sub-channels. A rank idle for
MEM_PD.TIMER, with no request waiting, powers down. An uncorrectable error or command error freezes the memory: the log is filled, the
lines that are published are late with ST_MEM_FROZEN, the requests end and the die freezes. (R405, R406, R407, R408, R412, R413, R414,
R415, R416, R417, R418, R522; derived.) -/
def Obligations.DramServiceCommands : Prop :=
  (∀ s : State, s.subChannels ≠ [] →
    let trefi := if s.flag Reg.MEM_STS.REF2X then 7800 else 15600
    let due := s.now / trefi * trefi
    s.dram.lastRef ≠ some due →
    let u := s.setDram (fun d => { d with lastRef := some due, refs := d.refs + 1 })
    (s.dram.wantDbl = none → exec .refresh s = .next u)
    ∧ (∀ t : Nat, s.dram.wantDbl = some t → exec .refresh s = .next (
      if due % 15600 ≠ 0 || due ≤ t then u
      else ((u.setDram ({ · with wantDbl := none })).put Reg.MEM_STS.REF2X 1).post (ev Code.ST_MEM_REF2X
          (srcMC (((List.range 16).find? (fun mc => u.flag (Reg.MC_STS.REF2X_REQ mc))).getD 0))))))
  ∧ (∀ (s : State) (all : List RankStatus), s.frozen = false →
    let ranks := all.filter (fun r => s.subChannels.contains r.mc)
    let u := s.each s.subChannels (fun mc t => t.putB (Reg.MC_STS.REF2X_REQ mc) (ranks.any (fun r => r.mc = mc && r.doubled)))
    let want := ranks.any (·.doubled)
    let hot := ranks.filter (·.hotter)
    let since := u.dram.calmAt.getD u.now
    let v := u.setDram ({ · with calmAt := some since, wantDbl := none })
    let w := if want || hot ≠ [] then
        u.setDram (fun d => { d with
          calmAt := none, wantDbl := if want && !u.flag Reg.MEM_STS.REF2X then d.wantDbl.or (some u.now) else d.wantDbl })
      else if since + 400000000 ≤ v.now then v.put Reg.MEM_STS.REF2X 0 else v
    ranks ≠ [] →
    (hot = [] → exec (.refreshRatePoll all) s = .next w)
    ∧ (∀ r rs, hot = r :: rs →
      let tell := w.mayPost Code.ST_MEM_HOT 0 4000000000
      let x := (w.put Reg.MEM_STS.HOT 1).postLimited (ev Code.ST_MEM_HOT (srcMC r.mc)) 0 4000000000
      exec (.refreshRatePoll all) s = .next (if tell && x.flag Reg.MEM_CTRL.HOT_ACT then x.safeStop Code.ST_MEM_HOT else x)))
  ∧ (∀ (s : State) (e : DramCe), exec (.stMemCe e) s = .next (s.dramCe e))
  ∧ (∀ (s : State) (hits : List DramCe), s.flag Reg.MEM_CTRL.SCRUB_EN = true → s.frozen = false →
    exec (.patrolScrub hits) s = .next (s.each hits (fun e t => t.dramCe e)))
  ∧ (∀ (s : State) (found : List (Nat × Int)), s.flag Reg.MEM_CTRL.TRACK_EN = true → s.frozen = false → 64 ≤ s.dram.refs →
    let u := s.setDram (fun d => { d with refs := d.refs % 64 })
    exec (.writeTracking found) s
      = .next (u.each (found.filter (fun c => u.get (Reg.MC_STS.STATE c.1) = 2)) (fun c t => t.trackWrites c.1 c.2)))
  ∧ (∀ (s : State) (mc rank : Nat), s.get Reg.MEM_PD.TIMER ≠ 0 → s.frozen = false → s.subChannels.contains mc = true →
    rank ≤ s.get Reg.MEM_POP.RANKS → s.dram.down.contains (mc, rank) = false → s.get (Reg.MC_STS.STATE mc) = 2 →
    (s.dram.lastCmd.lookup (2 * mc + rank)).getD 0 + 4 * s.get Reg.MEM_PD.TIMER ≤ s.now →
    (s.subQ mc).reads = [] → (s.subQ mc).writes.any (·.at_.rank = rank) = false →
    exec (.powerDownTimer mc rank) s = .next (s.setDram (fun d => { d with down := (mc, rank) :: d.down })))
  ∧ (∀ (s : State) (x : DramStop) (mc rest : Nat), s.frozen = false → s.subChannel x.dpa = some (mc, rest) →
    let code := if x.cause = 3 then Code.ST_MEM_CMD_ERR else Code.ST_MEM_UE
    let u := (s.put Reg.MEM_STS.FROZEN 1).freezeLog mc x
    let v := u.each u.job.lines (fun l t => t.lineLate l Code.ST_MEM_FROZEN (srcHP (l.row / 16)))
    exec (.memFreeze x) s = .next ((((v.errRecord (er code (srcMC mc) 3 3 0 x.dpa)).post (ev code (srcMC mc) none x.dpa)).freezeRequests).freeze
      code))

/-- Beacons, settings and commands between the dies. BCN_M goes out once each 16,384 mt, and one that the field die accepts disciplines
its time, carries what it says and is answered; one it does not counts as missing. BCN_F shows the field die's state and time, and
each new state is told. 480 µs without BCN_F is told as the field die's loss, and 480 µs without BCN_M takes an ACTIVE field die to
ORPHAN and one that is HELD to START. A commit's CFG_ACK takes it off the list and applies it where its CRC and result are good, else
sets CFG_ERR or sends it again; 20 µs without one sends it again, and after the third resend it is given up and told. ARM of a HELD
field die that the main die sees HELD makes it ACTIVE with its settings, and of any other is a CFG_ERR. STATUS_REQ, REPLAY and SPD_SET
send their frames. (R425, R426, R427, R428, R429, R432, R433, R434, R435, R436, R440, R452; derived.) -/
def Obligations.FieldLinkCommands : Prop :=
  (∀ (s : State) (err : Int) (accepted : Bool), s.fld.beat ≠ some (s.now / 16384) → s.awake = true →
    let u := s.beaconOut
    exec (.bcnM err accepted) s = .next (
      if accepted && u.fieldOn then ((u.beaconIn err).beaconCarries s.hbNext).fieldBeacon (u.now / 16384 * 16384 + 2000)
      else u.setFld (fun f => { f with missing := f.missing + 1, good := 0 })))
  ∧ (∀ (s : State) (rtt : Int), s.awake = true → s.fieldOn = true →
    let old := s.get Reg.FLD_STS.STATE
    let st := s.fld.state
    let u := s.setFld (fun f => { f with lastF := some s.now, lost := false, rtts := (rtt :: f.rtts).take 64 })
    let v := (u.put Reg.FLD_STS.STATE st.code).putB Reg.FLD_STS.SAFE24_OK (st ≠ .off && st ≠ .pwrFail)
    let w := v.timeLock (st = .held || st = .active || st = .orphan)
    exec (.bcnF rtt) s = .next (
      if st = .held ∧ old ≠ 2 then w.post (ev Code.ST_FLD_LINK srcFLD)
      else if st = .active ∧ old ≠ 3 then w.post (ev Code.ST_FLD_ACTIVE srcFLD)
      else if st = .pwrFail ∧ old ≠ 5 then (w.put Reg.FLD_EVT.PWR_FAIL 1).post (ev Code.ST_FLD_PWR_FAIL srcFLD)
      else w))
  ∧ (∀ (s : State) (t : Nat), s.fld.lastF = some t → t + 1920000 ≤ s.now → s.fld.lost = false → s.awake = true →
    exec .stFldLost s = .next ((((((s.setFld ({ · with lost := true })).put Reg.FLD_EVT.LOST 1).put Reg.FLD_STS.STATE 0).timeLock
      false).post (ev Code.ST_FLD_LOST srcFLD)).handOver))
  ∧ (∀ s : State, s.fld.lock = true → (16 ≤ s.fld.missing ∨ ∀ t, s.fld.lastM = some t → t + 16 * 16384 ≤ s.now ∨ s.now < t) →
    exec .timeLockClear s = .next (s.setFld ({ · with lock := false, good := 0 })))
  ∧ (∀ (s : State) (t : Nat), s.fld.lastM = some t → t + 1920000 ≤ s.now ∨ s.now < t →
    (s.fld.state = .held → exec .mainDieLost s
      = .next ((s.setFld ({ · with state := .start, lock := false, good := 0, line := [] })).fieldPins.encoutDrive))
    ∧ (s.fld.state = .active →
      exec .mainDieLost s = .next (s.setFld ({ · with state := .orphan, lock := false, good := 0, line := [] })).resetActions))
  ∧ (∀ (s : State) (c : Commit) (cs : List Commit), s.fld.commits = c :: cs →
    let u := s.setFld ({ · with commits := cs })
    (∀ crc : Nat, s.awake = true → s.fieldOn = true → exec (.cfgAck c.index crc) s = .next (
      if crc ≠ c.crc then s.commitRetry
      else if s.fieldResult c = 0 then (u.acknowledged c).sendCommit
      else (u.put Reg.FLD_EVT.CFG_ERR 1).sendCommit))
    ∧ (s.awake = true → c.sent + 80000 ≤ s.now → exec .cfgAckTimeout s = .next s.commitRetry)
    ∧ s.commitRetry = (if c.tries < 4 then ((s.sendCommit).count (Reg.FLD_CNT.CNT 5)).pmcAdd 452
      else (((s.put Reg.FLD_EVT.CMD_FAIL 1).post (ev Code.ST_FLD_CMD_FAIL srcFLD)).setFld ({ · with commits := cs })).sendCommit))
  ∧ (∀ (s : State) (slot : Nat), s.mayWrite slot Reg.FLD_CTRL.AT →
    let u := s.inbound slot
    let v := u.armFrames
    exec (.statusReq slot) s = .next (u.cmdFrame 0x14 0)
    ∧ exec (.arm slot) s = .next (
      if u.get Reg.FLD_STS.STATE ≠ 2 ∨ u.fld.state ≠ .held then u.put Reg.FLD_EVT.CFG_ERR 1
      else (v.setFld (fun f => { f with
        state := .active, applied := v.armValues, outRec := v.get Reg.FLD_OUT_VAL.VALUE, outUndo := none,
        ceil := none, spdSent := none, hbLow := false })).bandSafe.outputs.actInputs))
  ∧ (∀ (s : State) (slot off : Nat) (data : Word), fieldHeld off = true → exec (.cfgCommit slot off data) s = .next (s.busWrite slot 0 off 4 data))
  ∧ (∀ (s : State) (ch : Nat), ch < 3 →
    let u := s.cmdFrame 0x15 ch
    exec (.replayCmd ch) s = .next (
      if u.fld.lock && u.fld.replay.all (fun e => e.1 ≠ ch) then
        u.setFld (fun f => { f with replay := f.replay ++ [(ch, 4000000 / 2 ^ u.fget Reg.TRK_CFG.RPT_LOG)] })
      else u))
  ∧ (∀ s : State, s.fld.spdSent ≠ some (s.get Reg.PWR_CEIL.CEIL) → s.awake = true → exec .spdSet s = .next ((s.setFld (fun f => { f with
    spdSent := some (s.get Reg.PWR_CEIL.CEIL), ceil := if f.state = .active then some (s.get Reg.PWR_CEIL.CEIL) else f.ceil })).cmdFrame 0x17
      (s.get Reg.PWR_CEIL.CEIL)).fieldPins)

/-- Inputs, outputs, supply and reports of the field die. The owner's output value is recorded, sent whole and driven, and its latch clear
clears and sends. An output that may be found faulty is latched off and told with its kind. An output report is mirrored, and one
whose record differs has the value sent again, three times at most, then told. The 24 V supply's loss puts the field die in PWR_FAIL
with its outputs and axes off, and its return starts it. A new input state goes to the main die, which shows it, marks what changed
and acts on interlocks and web breaks. Faults, health and encoder faults are shown and told; the console's bytes with good stop bits
are taken up to 64 at a time, the others counted. A barrier frame that no receiver accepts is told by the field die or counted by the
main die; 16 in 1 ms are a burst, recorded, and tested where no test has failed within 1 s. (R425, R436, R438, R440, R441, R443, R446,
R447, R450, R453, R516, R552; derived.) -/
def Obligations.FieldPanelCommands : Prop :=
  (∀ (s : State) (slot : Nat) (data : Word),
    (s.mayWrite slot Reg.FLD_OUT_VAL.AT → exec (.outSet slot data) s
      = .next ((((s.inbound slot).put Reg.FLD_OUT_VAL.VALUE (wbits data 0 8)).setFld ({ · with outTries := 0 })).sendOutSet (wbits data 0 8)))
    ∧ (s.mayWrite slot Reg.FLD_OUT_CLR.AT →
      let m := wbits data 0 8
      exec (.latchClr slot data) s = .next (((s.inbound slot).cmdFrame 0x13 m).setFld (fun f => { f with
        latched := f.latched - (f.latched &&& m) })).outputs))
  ∧ (∀ (s : State) (n : Nat) (strong : Bool), n < 8 → s.outChecked n = true →
    let u := ((s.setFld (fun f => { f with latched := putBit f.latched n true })).outPut n none).faultFrame (if strong then 0x02 else 0x01) n
    let v := if strong then u.put Reg.FLD_OUT_EVT.OC (putBit (u.get Reg.FLD_OUT_EVT.OC) n true)
      else u.put Reg.FLD_OUT_EVT.RB (putBit (u.get Reg.FLD_OUT_EVT.RB) n true)
    exec (.outputLatch n strong) s = .next (
      if u.awake then (v.pmcAdd 461).post (ev Code.ST_FLD_OUT_LATCH (srcField 50 15 n)) else u))
  ∧ (∀ (s : State) (readback : Nat), s.awake = true → s.fieldOn = true →
    let f := s.fld
    let u := ((s.put Reg.FLD_OUT_STS.VALUE f.outVal).put Reg.FLD_OUT_STS.READBACK readback).put Reg.FLD_OUT_STS.LATCHED f.latched
    let v := ((u.putB Reg.FLD_OUT_STS.OWN f.ownPin).putB Reg.FLD_STS.OWN f.ownPin).putB Reg.DUE_STS.OWN f.ownPin
    let want := v.get Reg.FLD_OUT_VAL.VALUE
    let differs := f.state = .active && (List.range 8).any (fun i => !bit f.latched i && !v.outBrake i && bit f.outRec i ≠ bit want i)
    let w := v.setFld ({ · with outUndo := none })
    exec (.outState readback) s = .next (
      if !differs then w.setFld ({ · with outTries := 0 })
      else if f.outTries < 3 then
        (((w.setFld ({ · with outTries := f.outTries + 1 })).sendOutSet want).count (Reg.FLD_CNT.CNT 5)).pmcAdd 452
      else (w.put Reg.FLD_EVT.CMD_FAIL 1).post (ev Code.ST_FLD_CMD_FAIL srcFLD)))
  ∧ (∀ (s : State) (high band : Nat), s.fld.state = .off ∨ s.fld.state = .pwrFail ∧ s.fld.uvAt.getD 0 + 40000000 ≤ s.now →
    exec (.safe24Restore high band) s = .next (s.setFld (fun f => { f with
      state := .start, level := (high &&& (0xFFF - (band &&& 0xFFF))) &&& 0xFFF, band := band &&& 0xFFF })).safe24Mode)
  ∧ (∀ s : State, s.fld.state ≠ .off → s.fld.state ≠ .pwrFail →
    let u := s.setFld (fun f => { f with
      state := .pwrFail, lock := false, good := 0, missing := 0, bad := 0, applied := [], outOn := 0, outVal := 0, outRec := 0,
      latched := 0, outUndo := none, ceil := none, hbLow := false, replay := [], actI := 0, actB := 0, uvAt := some s.now, line := [] })
    let v := ((u.drawn.faultFrame (u.open_ 8)).fieldBeacon u.now).fieldPins
    exec .safe24Undervoltage s = .next (((v.encoutTake 1 1).encoutDrive).safe24Mode.each [0, 1, 2, 3] (fun n t =>
      let t := t.moveDone n Code.ST_MOT_STOPPED (unsigned 32 ((t.axis n).final - t.restPos n))
      t.setAxis n (fun x => { enc := x.enc, desc := x.desc }))))
  ∧ (∀ s : State, s.awake = true → s.fieldOn = true →
    let chg := (s.fld.level ^^^ s.get Reg.FLD_DI_STS.LEVEL) % 2 ^ 12
    let u := (s.put Reg.FLD_DI_STS.LEVEL s.fld.level).put Reg.FLD_DI_STS.BAND s.fld.band
    let acts : Bool := s.fld.state = .active || s.fld.state = .orphan
    exec .inState s = .next ((((u.put Reg.FLD_DI_EVT.CHG (u.get Reg.FLD_DI_EVT.CHG ||| chg)).pmcAdd 460 (bitList 12 chg).length).interlocks
      acts).webBreaks acts))
  ∧ (∀ (s : State) (input zone : Nat),
    let u := (s.inputReads input zone).actInputs
    exec (.diChange input zone) s = .next (if (u.fld.level, u.fld.band) ≠ (s.fld.level, s.fld.band) then u.sendInState else u))
  ∧ (∀ (s : State) (i : Nat), i < 6 → s.fieldOn = true →
    let u := s.faultFrame 0x03 i
    exec (.encLineFault i) s = .next (
      if u.awake then (u.put Reg.FLD_EVT.ENC_LINE 1).postLimited (ev Code.ST_FLD_ENC_LINE
        (if i < 2 then srcField 48 11 i else srcField 48 12 (i - 2))) i 4000000000 else u))
  ∧ (∀ (s : State) (i detail : Nat), s.awake = true →
    exec (.fieldFault 4 i detail) s = .next ((s.put Reg.FLD_EVT.HOT 1).post (ev Code.ST_FLD_HOT srcFLD))
    ∧ exec (.fieldFault 5 i detail) s = .next (s.count (Reg.FLD_CNT.CNT 7))
    ∧ exec (.fieldFault 6 i detail) s = .next (((s.put Reg.FLD_EVT.UART_OVF 1).count (Reg.FLD_CNT.CNT 6) (max detail 1)).postLimited
      (ev Code.ST_FLD_UART_OVF srcFLD) 0 4000000000)
    ∧ exec (.fieldFault 7 i detail) s = .next ((s.put Reg.FLD_EVT.ORPHANED 1).post (ev Code.ST_FLD_ORPHANED srcFLD)))
  ∧ (∀ (s : State) (temp : Int) (v24 i24 : Nat), s.awake = true → s.fieldOn = true →
    let u := ((s.putI Reg.FLD_HEALTH.TEMP temp).put Reg.FLD_HEALTH.V24 v24).put Reg.FLD_HEALTH.I24 i24
    (u.fld.test = none → exec (.fieldHealth temp v24 i24) s = .next u)
    ∧ (∀ ch n seq : Nat, u.fld.test = some (ch, n, seq) → exec (.fieldHealth temp v24 i24) s = .next (
      if n + 1 < 3 then (u.setFld ({ · with test := some (ch, n + 1, seq) })).statusReq
      else (u.setFld ({ · with test := none })).errOutcome seq Code.ST_FLD_BARRIER_BURST 1 srcFLD)))
  ∧ (∀ (s : State) (bytes : List (Nat × Bool)), s.awake = true → s.fld.state = .held ∨ s.fld.state = .active →
    let good := (bytes.filter (·.2)).map (·.1)
    let past := good.length - 64
    let u := ((s.uartFrames 4 0x25 good).count (Reg.FLD_CNT.CNT 6) (bytes.length - good.length + past)).each (good.take 64) State.consoleByte
    exec (.uartRx bytes) s = .next (
      if 0 < past then (u.put Reg.FLD_EVT.UART_OVF 1).postLimited (ev Code.ST_FLD_UART_OVF srcFLD) 0 4000000000 else u))
  ∧ (∀ (s : State) (ch frame : Nat), ch < 7 → s.takesFrame ch frame = false →
    (ch = 3 ∨ ch = 5 →
      let u := if s.fieldOn then s.faultFrame 0x05 0 ch else s
      exec (.barrierFrameDiscard ⟨ch, frame⟩) s = .next (if ch = 3 && frame / 2 ^ 42 % 64 = 0x12 then u.outSetLost else u))
    ∧ (ch ≠ 3 → ch ≠ 5 → s.awake = true →
      let a := (s.count (Reg.FLD_CNT.CNT (if ch < 3 then ch else if ch = 4 then 3 else 4))).pmcAdd 439
      let times := (a.fld.discards.filter (fun e => e.1 = ch && a.now < e.2 + 4000000)) ++ [(ch, a.now)]
      let b := a.setFld (fun f => { f with discards := f.discards.filter (fun e => e.1 ≠ ch) ++ times })
      let c : State := match b.fld.test with
        | some (_, _, seq) => (b.setFld ({ · with test := none, untested := some b.now })).errOutcome seq Code.ST_FLD_BARRIER_BURST 2 srcFLD
        | none => b
      let due : Bool := match c.posted.lookup (limitKey Code.ST_FLD_BARRIER_BURST ch) with
        | some t => t + 4000000 ≤ c.now
        | none => true
      let tested : Bool := match c.fld.untested with
        | some t => t + 4000000000 ≤ c.now
        | none => true
      let d := (c.put Reg.FLD_EVT.BURST 1).postLimited (ev Code.ST_FLD_BARRIER_BURST srcFLD ch) ch 4000000
      let e := d.errRecord (er Code.ST_FLD_BARRIER_BURST srcFLD (if tested then 0 else 3) 1 6 ch)
      exec (.barrierFrameDiscard ⟨ch, frame⟩) s = .next (
        if times.length < 16 then c
        else if !due then c
        else if tested then (e.testStarted.setFld ({ · with test := some (ch, 0, d.get Reg.ERR_LOG_HEAD.HEAD) })).statusReq else e)))

/-- The commands of an axis. The owner's command to an axis, while motion is not held, is sent as a MOVE frame and done by the field die:
START, GOTO, STOP, RESUME, ENABLE, DISABLE and SET_POS each as its rule says where the mode, the field die's state and the role allow;
where they do not, it is refused with the reason. While motion is held the write waits, up to eight of them, and one more is dropped
and refused. A target is sent and taken, or held or dropped in the same way, and REMAIN_SET is taken in OFF and STANDING and counted
as dropped elsewhere. (R459, R461, R462, R463, R464, R466, R467, R468, R475, R477; derived.) -/
def Obligations.AxisCommands : Prop :=
  (∀ (s : State) (slot n : Nat), n < 4 → s.mayWrite slot (Reg.AX_CMD.AT n) →
    let u := s.inbound slot
    let sent := fun (act first last : Nat) => u.cmdFrame 0x19 (n + 4 * act + 32 * first + 2048 * last)
    let refuse := fun (v : State) (act reason : Nat) => v.axisRefuse n (some act) reason none
    u.flag Reg.DUE_STS.MOT_HELD = false →
    (∀ first last : Nat, first < 64 → last < 64 →
      let v := sent 1 first last
      exec (.axStart slot n first last) s = .next
        ((v.axisBar n).elim (v.axisStart n first last none) (fun r => refuse v 1 r)).outputs)
    ∧ exec (.axGoto slot n) s = .next
      (((sent 2 0 0).axisBar n).elim ((sent 2 0 0).axisGoto n none) (fun r => refuse (sent 2 0 0) 2 r)).outputs
    ∧ exec (.axMoveStop slot n) s = .next
      (((sent 3 0 0).axisBar n).elim ((sent 3 0 0).axisStopCmd n none) (fun r => refuse (sent 3 0 0) 3 r)).outputs
    ∧ exec (.axResume slot n) s = .next
      (((sent 4 0 0).axisBar n).elim ((sent 4 0 0).axisResume n none) (fun r => refuse (sent 4 0 0) 4 r)).outputs
    ∧ exec (.axEnable slot n) s = .next
      (((sent 5 0 0).axisBar n).elim ((sent 5 0 0).axisEnable n none) (fun r => refuse (sent 5 0 0) 5 r)).outputs
    ∧ exec (.axDisable slot n) s = .next
      (((sent 6 0 0).axisBar n).elim ((sent 6 0 0).axisDisable n none) (fun r => refuse (sent 6 0 0) 6 r)).outputs
    ∧ exec (.axSetPos slot n) s = .next
      (((sent 7 0 0).axisBar n).elim ((sent 7 0 0).axisSetPos n none) (fun r => refuse (sent 7 0 0) 7 r)).outputs)
  ∧ (∀ (s : State) (slot n : Nat), n < 4 → s.mayWrite slot (Reg.AX_CMD.AT n) →
    let u := s.inbound slot
    let held := fun (act first last : Nat) =>
      if u.mot.held.length < 8 then
        (u.setMot (fun m => { m with held := m.held ++ [(Reg.AX_CMD.AT n, BitVec.ofNat 32 (act + 256 * first + 65536 * last))] })).outputs
      else ((u.put Reg.MOT_EVT.HELD_DROP 1).axisRefuse n (some act) 7 none).outputs
    u.flag Reg.DUE_STS.MOT_HELD = true →
    (∀ first last : Nat, first < 64 → last < 64 → exec (.axStart slot n first last) s = .next (held 1 first last))
    ∧ exec (.axGoto slot n) s = .next (held 2 0 0) ∧ exec (.axMoveStop slot n) s = .next (held 3 0 0)
    ∧ exec (.axResume slot n) s = .next (held 4 0 0) ∧ exec (.axEnable slot n) s = .next (held 5 0 0)
    ∧ exec (.axDisable slot n) s = .next (held 6 0 0) ∧ exec (.axSetPos slot n) s = .next (held 7 0 0))
  ∧ (∀ (s : State) (slot n : Nat) (data : Word), n < 4 → s.mayWrite slot (Reg.AX_TARGET.AT n) →
    let u := s.inbound slot
    exec (.axTarget slot n data) s = .next (
      if u.flag Reg.DUE_STS.MOT_HELD = false then
        ((u.setWord (Reg.AX_TARGET.AT n) data).cmdFrame 0x1A (n + 4 * data.toNat)).axisTarget n (signed 32 data.toNat)
      else if u.mot.held.length < 8 then u.setMot (fun m => { m with held := m.held ++ [(Reg.AX_TARGET.AT n, data)] })
      else (u.put Reg.MOT_EVT.HELD_DROP 1).axisRefuse n (some 0) 7 none))
  ∧ (∀ (s : State) (n : Nat) (v : Int), n < 4 →
    let u := s.cmdFrame 0x1B (n + 4 * unsigned 32 v)
    exec (.axRemainSet n v) s = .next (
      if (u.axis n).st = .off ∨ (u.axis n).st = .standing then u.setAxis n ({ · with remain := v })
      else (u.put Reg.MOT_EVT.FRAME_DROP 1).count (Reg.FLD_CNT.CNT 7)))

/-- What axes do in time, and motion descriptors. A control tick of a field die that is up reads the encoders and coil senses, moves the
axes and drives the outputs. When the brake delay ends, an enabled axis stands and a disabled one's bridges turn off; when the hold
delay ends, a standing axis holds with IHOLD. A coil that has been weak or railed for 20 ticks turns the axis off, ending a move short
and failing a lift; a stall that has lasted STALL_T and a following error that has lasted 1 ms act as their rules say. The motion
descriptor at its ring's head is done while motion is not held: OP 0, and an OP or a field out of range, completes it with its status;
a GOTO or SET_POS sends its target first where the axis may be commanded; each sends its MOVE. (R457, R464, R469, R470, R472, R473,
R474, R475, R476, R478, R479; derived.) -/
def Obligations.AxisEvents : Prop :=
  (∀ (s : State) (enc : List Int) (sense : MotionSense), s.fld.state ≠ .off → s.fld.state ≠ .pwrFail →
    exec (.motionControlTick enc sense) s = .next (s.controlTick enc sense.est sense.cs).outputs)
  ∧ (∀ (s : State) (n : Nat),
    ((s.axis n).brkAt + s.brkDelay n ≤ s.now →
      ((s.axis n).brkPend = some true → exec (.brakeDelay n) s
        = .next (s.setAxis n ({ · with st := .standing, restAt := s.now, brkPend := none })).outputs)
      ∧ ((s.axis n).brkPend = some false → exec (.brakeDelay n) s
        = .next (s.setAxis n ({ · with bridges := false, cur := 0, brkPend := none }))))
    ∧ (n < 4 → (s.axis n).st = .standing → (s.axis n).restAt + 4000000 * s.fget (Reg.AX_CUR2.HOLD_DELAY n) ≤ s.now →
      exec (.holdDelay n) s = .next (s.setAxis n ({ · with atHold := true, cur := 1000000 * s.fget (Reg.AX_CUR2.IHOLD n) }))))
  ∧ (∀ (s : State) (n : Nat), n < 4 →
    (∀ coil : Nat, coil < 2 → (s.axis n).st ≠ .off → (20 ≤ (s.coil n coil).weak ∨ 20 ≤ (s.coil n coil).rail) →
      let st := (s.axis n).st
      let u := if st = .emergency then s.parkFail n else if st = .table ∨ st = .plan ∨ st = .stopping then s.moveShort n .standing else s
      exec (.stMotCoil n coil) s = .next ((u.axisOff n).axisTold n 0x14 coil
        (fun t => (t.put (Reg.AX_EVT.COIL n) 1).post (ev Code.ST_MOT_COIL (srcAX n) coil))).outputs)
    ∧ ((s.axis n).st.moving = true → s.fget (Reg.AX_ADAPT.STALL_T n) ≤ (s.axis n).stallT →
      exec (.stMotStall n) s = .next (s.axisFault n true).outputs)
    ∧ ((s.axis n).st.moving = true → 100 ≤ (s.axis n).followT → exec (.stMotFollow n) s = .next (s.axisFault n false).outputs))
  ∧ (∀ (s : State) (r : Nat) (d : Desc), s.ringType r = 4 → s.headDesc r = some d → s.flag Reg.DUE_STS.MOT_HELD = false →
    let u := s.markStarted r d.index
    let op := d.at_ 16 1
    let n := d.at_ 17 1
    let bad := d.at_ 24 32 ≠ 0 || 7 < op || 3 < n || (op = 1 && (63 < d.at_ 18 1 || 63 < d.at_ 19 1))
    let v := if (op = 2 || op = 7) && (u.axisBar n).isNone then
        (u.cmdFrame 0x1A (n + 4 * d.at_ 20 4)).axisTarget n (signed 32 (d.at_ 20 4)) else u
    let first := if op = 1 then d.at_ 18 1 else 0
    let last := if op = 1 then d.at_ 19 1 else 0
    op < 0x40 → exec (.motionDescriptor r) s = .next (
      if op = 0 then u.complete r d.index Code.ST_DESC_FORMAT
      else if bad then u.complete r d.index Code.ST_MOT_REFUSED 0
      else ((v.cmdFrame 0x19 (n + 4 * op + 32 * first + 2048 * last)).axisMove n op first last (some (r, d.index))).outputs))

/-- Modes, domains and SPIT. A request for a mode, by a write of DEV_MODE or by a MODE descriptor in range, is refused with RESULT 1 and
told where the mode in force does not accept it or READY's images are not there; M10 asks for a Safe-stop; one whose condition holds
is entered at once with its descriptor's status, and any other waits with RESULT 2 until it holds. A write of REQ 0 does nothing more.
The device passes between M6 and M7 as its derating begins and ends. A request for domains is refused whole and told, or is under way
until its switch completes, which no full retrain of a sub-channel it turns off may hold. A SPIT descriptor in range starts in M8
alone, and each of its turns sends what is due; the status of one in another mode is open. (R418, R482, R483, R484, R485, R492, R494,
R508, R509; derived.) -/
def Obligations.ModeCommands : Prop :=
  (∀ (s : State) (slot req : Nat), s.mayWrite slot Reg.DEV_MODE.AT → req < 16 →
    let u := s.inbound slot
    exec (.modeRequest slot req) s = .next (if req = 0 then u else u.modeRequest req none))
  ∧ (∀ (u : State) (req : Nat) (desc : Option (Nat × Nat)),
    let refuse := fun (c : Nat) => ((u.put Reg.DEV_MODE.RESULT 1).post (ev Code.ST_MODE_REFUSED srcPWR c)).modeDesc desc Code.ST_MODE_REFUSED c
    let v := u.cancelMode Code.ST_MODE_CANCELLED
    let go := if v.modeReady req then (v.enterMode req).modeDesc desc Code.ST_OK 0
      else { v.put Reg.DEV_MODE.RESULT 2 with pwr := { v.pwr with modeReq := some ⟨req, desc⟩ } }
    (req = 10 → u.modeRequest req desc = u.requestStop desc)
    ∧ (req ≠ 10 → (modeAccepts u.mode).contains req = false → u.modeRequest req desc = refuse Code.ST_MODE_ILLEGAL)
    ∧ (req ≠ 10 → (modeAccepts u.mode).contains req = true →
      (u.mode ≠ 4 ∨ req ≠ 5 → u.modeRequest req desc = go)
      ∧ (u.mode = 4 → req = 5 → u.readyRefusal = none → u.modeRequest req desc = go)
      ∧ (∀ c, u.mode = 4 → req = 5 → u.readyRefusal = some c → u.modeRequest req desc = (refuse c).post (ev c srcPWR))))
  ∧ (∀ (s : State) (q : ModeReq), s.pwr.modeReq = some q → s.modeReady q.target = true → exec .modePendingComplete s
    = .next ((({ s with pwr := { s.pwr with modeReq := none } }).enterMode q.target).modeDesc q.desc Code.ST_OK 0))
  ∧ (∀ (s : State) (r : Nat) (d : Desc), s.ringType r = 4 → s.headDesc r = some d → d.at_ 16 1 = 0x40 ∨ 0x42 ≤ d.at_ 16 1 →
    let u := s.markStarted r d.index
    exec (.mode r) s = .next (
      if d.at_ 16 1 ≠ 0x40 ∨ 11 < d.at_ 17 1 ∨ d.zeroAt 18 38 = false then u.complete r d.index Code.ST_DESC_FORMAT
      else if d.at_ 17 1 = 0 then u.modeRefuse Code.ST_MODE_ILLEGAL (some (r, d.index))
      else u.modeRequest (d.at_ 17 1) (some (r, d.index))))
  ∧ (∀ s : State,
    (∀ c : Nat, s.mode = 6 → s.derated = some c → exec .derateChange s
      = .next (({ s with pwr := { s.pwr with derateCode := c } }).autoMode 7 c))
    ∧ (∀ c : Nat, s.mode = 7 → s.derated = some c → exec .derateChange s = .next { s with pwr := { s.pwr with derateCode := c } })
    ∧ (s.mode = 7 → s.derated = none → exec .derateChange s = .next (s.autoMode 6 s.pwr.derateCode)))
  ∧ (∀ (s : State) (slot : Nat) (data : Word), s.mayWrite slot Reg.PWR_DOM_CTRL.AT →
    let u := s.inbound slot
    let want := wbits data 0 21
    let v := u.put Reg.PWR_DOM_STS.RESULT (u.domRefusal want)
    exec (.pwrDomReq slot data) s = .next (
      if u.domRefusal want ≠ 0 then v.post (ev Code.ST_PWR_DOM_REFUSED srcPWR)
      else { v with pwr := { v.pwr with domPend := some (v.memMask want) } }))
  ∧ (∀ (s : State) (want : Nat), s.pwr.domPend = some want → s.retrainHolds want = false →
    exec .domainSwitchDone s = .next (({ s with pwr := { s.pwr with domPend := none } }).setDomains want))
  ∧ (∀ (s : State) (r : Nat) (d : Desc) (go : List Nat), s.ringType r = 4 → s.headDesc r = some d → d.at_ 16 1 = 0x41 →
    let u := s.spitBegin r d
    exec (.spit r go) s = .next (u.each (u.pwr.spits.filter (fun x => x.ring = r)) (fun x t => t.spitTurn x go)))
  ∧ (∀ (s : State) (r : Nat) (d : Desc),
    let u := s.markStarted r d.index
    let ports := (bitList 96 (d.at_ 24 12)).filter u.portUp
    (u.spitBad d ports = true → s.spitBegin r d = u.complete r d.index Code.ST_DESC_FORMAT)
    ∧ (u.spitBad d ports = false → u.mode ≠ 8 → s.spitBegin r d = u.drawn.complete r d.index Code.ST_MODE_REFUSED (u.open_ 32))
    ∧ (u.spitBad d ports = false → u.mode = 8 →
      let x : Spit := ⟨r, d.index, d.at_ 36 4, d.at_ 40 4, d.at_ 17 1, d.at_ 18 1,
        (u.spitRows d ports).map (fun k => (k, u.spitStart k (d.at_ 18 1), 0)), ports.map (fun p => (p, (u.port p).spits)), 0⟩
      s.spitBegin r d = (u.each ports (fun p t => t.setPort p (fun y => { y with spits := (y.spits + x.lines) % 2 ^ 28 }))).setPwr
        (fun y => { y with spits := y.spits ++ [x] })))
  ∧ (∀ (s : State) (r : Nat) (go : List Nat), (∀ d, s.headDesc r = some d → s.ringType r ≠ 4 ∨ d.at_ 16 1 ≠ 0x41) →
    exec (.spit r go) s = .next (s.each (s.pwr.spits.filter (fun x => x.ring = r)) (fun x t => t.spitTurn x go)))

/-- Power levels, Surge and the regulator. The owner's requested level up to 4 is recorded after Surge has been judged, a Surge that
cannot be in force is told, and the level in force follows; a larger value is dropped. An evaluation shows the estimate; with the mean
of the last 100 estimates above the limit in force the power component rises, once each 10 ms, and otherwise, with the mean of the
last 10000 at least 10 W below the limit of the level before it, it falls by one. 120 s of Surge in 600 s end Surge, and 60 s or less
allow it again. A regulator reading is shown, and one within 10 mV of a raise in flight lets the clock follow; 200 µs without one is a
failure that holds the old level for 100 ms. An alert has the regulator's status read and is told once in 1 s. (R504, R505, R507,
R541, R542; derived.) -/
def Obligations.PowerCommands : Prop :=
  (∀ (s : State) (slot : Nat) (data : Word), s.mayWrite slot Reg.PWR_LEVEL.AT →
    let r := wbits data 0 3
    let v := (s.inbound slot).surgeEnds.put Reg.PWR_LEVEL.REQ r
    exec (.pwrLevelReq slot data) s = .next (
      if 4 < r then s.inbound slot
      else if r ≤ 1 ∧ (v.pwr.surgeBar = true ∨ 2 ≤ v.get Reg.PWR_LEVEL.THERM) then (v.post (ev Code.ST_PWR_SURGE_REFUSED srcPWR)).relevel
      else v.relevel))
  ∧ (∀ (s : State) (dynamic leakage rest : Nat), s.awake = true → s.mode ≠ 11 →
    let e := min (dynamic + leakage + rest) (2 ^ 18 - 1)
    let u := ((s.put Reg.PWR_EST.EST e).setPwr (fun x => { x with ests := (e :: x.ests).take 10000 })).showSurge
    let p := u.get Reg.PWR_LEVEL.POWER
    let f := u.get Reg.PWR_LEVEL.IN_FORCE
    let (sum10, n10) := u.estSum 100
    let (sum1, n1) := u.estSum 10000
    let due : Bool := match u.pwr.powerAt with | some t => decide (t + 40000000 ≤ u.now) | none => true
    exec (.powerLevelEval dynamic leakage rest) s = .next (State.relevel (
      if levelLimit f * n10 < sum10 then
        if due then (u.put Reg.PWR_LEVEL.POWER (min (f + 1) 4)).setPwr ({ · with powerAt := some u.now }) else u
      else if p ≠ 0 && sum1 + 10000 * n1 ≤ levelLimit (p - 1) * n1 then u.put Reg.PWR_LEVEL.POWER (p - 1)
      else u)))
  ∧ (∀ s : State,
    exec .stPwrSurgeEnd s = .next (if s.pwr.surgeBar = true ∨ s.surgeTime < 480000000000 then s
      else (((((s.showSurge).put Reg.PWR_LEVEL.SURGE_OK 0).setPwr ({ · with surgeBar := true })).post (ev Code.ST_PWR_SURGE_END srcPWR)).relevel))
    ∧ exec .surgeUnbar s = .next (if s.pwr.surgeBar = false ∨ 240000000000 < s.surgeTime then s
      else (((s.showSurge).put Reg.PWR_LEVEL.SURGE_OK 1).setPwr ({ · with surgeBar := false })).relevel))
  ∧ (∀ (s : State) (v : Nat), s.awake = true →
    let u := s.put Reg.PWR_VSENSE.VSENSE (min v 1023)
    (s.pwr.vrPend = none → exec (.vrAck v) s = .next u)
    ∧ (∀ c l t : Nat, s.pwr.vrPend = some (c, l, t) → exec (.vrAck v) s = .next (
        if v + 10 < levelVolt l ∨ u.mode = 11 then u
        else ((u.setPwr ({ · with vrPend := none })).put Reg.PWR_VR_STS.BUSY 0).setClock l)))
  ∧ (∀ (s : State) (c l t : Nat), s.pwr.vrPend = some (c, l, t) → exec .stPwrVrFail s = .next (
      if s.now < t + 800000 ∨ s.mode = 11 then s
      else ((((((s.put Reg.PWR_VR_STS.FAIL 1).count Reg.PWR_VR_STS.FAILS).put Reg.PWR_VR_STS.BUSY 0).setPwr ({ · with
        vrPend := none, vrHold := some (c, s.now + 400000000) })).post (ev Code.ST_PWR_VR_FAIL srcPWR)).relevel)))
  ∧ (∀ (s : State) (status : Nat), s.awake = true → exec (.vrAlert status) s
    = .next (((s.pmbus 0x79 none).put Reg.PWR_VR_STS.STATUS (status % 2 ^ 16)).postLimited (ev Code.ST_PWR_VR_FAIL srcPWR) 1 4000000000))

/-- Thermal samples, broken sensors and the thermal level. A sample of a die that runs shows each reading, breaks the sensors that read
open, short or out of range, and carries the domains' levels along; two or more sensors at the shutdown threshold, or broken, shut the
device down. While reset holds the die only the count of hot sensors is taken, and after a shutdown only the readings. A sensor whose
self-test does not move it by 16 to 24 °C breaks; one that it does move, or that is broken already, or that is not there, stays. 100
ms after it was asked to fall the thermal level falls by one, and again while the domains call for less. (R497, R498, R499, R500,
R501, R504; derived.) -/
def Obligations.ThermalCommands : Prop :=
  (∀ (s : State) (rs : List SensorReading), s.pwr.resetLow = false → s.pwr.rails = [] → s.pwr.shut = false →
    let u := s.readSensors rs
    let v := (u.each ((rs.zipIdx.take 24).filter (fun r => brokenBy r.1 ≠ 0)) (fun r t => t.sensorBreaks r.2 (brokenBy r.1))).thermal
    let trip := v.tripped s.pwr.firstThm
    exec (.thermalSample rs) s = .next (if 2 ≤ trip.length then v.shutdown trip else v))
  ∧ (∀ (s : State) (rs : List SensorReading), s.pwr.resetLow = true ∨ s.pwr.rails ≠ [] → exec (.thermalSample rs) s
    = .next (s.setPwr ({ · with hot := (rs.filter (fun r => r.defect = 0 && 1808 ≤ r.temp16)).length })))
  ∧ (∀ (s : State) (rs : List SensorReading), s.pwr.resetLow = false → s.pwr.rails = [] → s.pwr.shut = true →
    exec (.thermalSample rs) s = .next (s.readSensors rs))
  ∧ (∀ (s : State) (i : Nat) (moved : Int), s.awake = true →
    let u := (s.sensorBreaks i 4).thermal
    let trip := u.tripped false
    exec (.sensorTestStep i moved) s = .next (
      if i < 24 ∧ s.sensorBroken i = false ∧ (moved < 256 ∨ 384 < moved) then (if 2 ≤ trip.length then u.shutdown trip else u) else s))
  ∧ (∀ (s : State) (t : Nat), s.pwr.fallAt = some t →
    let l := s.get Reg.PWR_LEVEL.THERM - 1
    let u := s.put Reg.PWR_LEVEL.THERM l
    exec .thermalLevelFall s = .next (
      if s.now < t + 400000000 then s
      else (u.setPwr ({ · with fallAt := if u.thermTarget < l then some (t + 400000000) else none })).relevel))
  ∧ (∀ s : State, s.pwr.fallAt = none → exec .thermalLevelFall s = .next s)

/-- Reset, boot and supply faults. RESET_N low holds the die, with the supply fault, the shutdown or the pin as the cause, and its release
with the straps sampled starts the boot. A loss of the regulator's power-good or of a monitored rail is a supply fault, and the end of
the last one samples the straps and releases the die. An image from the source that the boot reads is taken and shown, or shows why it
is refused, and the next source is read. With memory trained and an image taken the boot is done: the device enters M3, with the slot,
the refusals and the reset's cause told. The owner's DEV_RESET and the boot source's GO act as their rules say. (R487, R488, R489,
R490, R491, R501, R540, R541, R543, R554; derived.) -/
def Obligations.ResetAndBoot : Prop :=
  (∀ (s : State),
    exec .resetNAssert s = .next (if s.pwr.resetLow = true then s else (s.setPwr ({ · with resetLow := true })).holdDie
      (if s.pwr.rails ≠ [] then s.get Reg.PWR_RST_CAUSE.CAUSE else if s.pwr.shut = true then 3 else 1))
    ∧ exec .vrPgoodLoss s = .next (if s.pwr.resetLow = true then s else s.supplyFault 4))
  ∧ (∀ (s : State) (straps : Straps),
    exec (.resetNRelease straps) s = .next (
      if s.pwr.resetLow = true then (s.setPwr ({ · with resetLow := false, straps := straps })).release else s)
    ∧ (∀ rail t : Nat, (rail, t) ∈ s.pwr.rails →
      let left := s.pwr.rails.filter (·.1 ≠ rail)
      let u := s.setPwr ({ · with rails := left })
      exec (.supplyFaultRelease ⟨rail, straps⟩) s = .next (if left ≠ [] then u else (u.setPwr ({ · with straps := straps })).release)))
  ∧ (∀ (s : State) (rail : Nat), rail = 0 ∨ 4 ≤ rail ∧ rail ≤ 9 → exec (.supplyFault rail) s = .next (s.supplyFault rail))
  ∧ (∀ (s : State) (img : Option (List Nat)), s.seeking = true → (s.bootSource = 2 → s.pwr.bootPort.isSome = true) →
    (imageFault img = none → exec (.bootImageVerify ⟨s.bootSource, img⟩) s
      = .next ((((s.put Reg.PWR_BOOT_STS.RESULT 0).put Reg.PWR_BOOT_STS.STEP 4).putB Reg.PWR_BOOT_STS.SLOT (s.bootSource = 1)).put
          Reg.PWR_BOOT_STS.SVN (imageField (img.getD []) 12 4)))
    ∧ (∀ r : Nat, imageFault img = some r → exec (.bootImageVerify ⟨s.bootSource, img⟩) s
      = .next (((s.put Reg.PWR_BOOT_STS.RESULT (if s.bootSource = 1 then 9 else r)).setPwr (fun x => { x with
          bootPort := none, bootFails := if s.bootSource = 2 then x.bootFails else x.bootFails ++ [(s.bootSource, r)] })).bootStep)))
  ∧ (∀ s : State, s.mode = 2 → s.awake = true → 4 ≤ s.get Reg.PWR_BOOT_STS.STEP → s.get Reg.PWR_BOOT_STS.RESULT ≠ 7 →
    s.get Reg.PWR_BOOT_STS.RESULT ≠ 8 → s.subChannels ≠ [] →
    let u := (((s.put Reg.PWR_BOOT_STS.RESULT 1).put Reg.PWR_BOOT_STS.STEP 6))
    let v := (u.setDomains (u.m3Domains true)).autoMode 3 Code.ST_BOOT_DONE
    let w := v.post (ev Code.ST_BOOT_DONE srcPWR (some (v.get Reg.PWR_BOOT_STS.SLOT)) (some (v.get Reg.PWR_BOOT_STS.SVN)))
    let x := w.each w.pwr.bootFails (fun f t => t.post (ev Code.ST_BOOT_SLOT_FAIL srcPWR f.2))
    exec .stBootDone s = .next (x.post (ev Code.ST_PWR_RESET_CAUSE srcPWR (x.get Reg.PWR_RST_CAUSE.CAUSE))))
  ∧ (∀ (s : State) (slot : Nat), (∀ data : Word, s.mayWrite slot Reg.DEV_RESET.AT →
      exec (.devReset slot data) s = .next ((s.inbound slot).resetWrite data))
    ∧ (s.mayWrite slot Reg.PWR_BOOT_CTRL.AT → exec (.pwrBootGo slot) s = .next ((s.inbound slot).bootGo slot)))

/-- Fault reports, counters and load shedding. SNAP and CLEAR of PMC_CTRL and CLEAR_LOG of ERR_CTRL do as their rules say. A lockstep
mismatch of a checked unit whose domain is on counts, is recorded and told, and freezes the die. An ECC hit, and each hit that a scrub
finds, is handled as R517 says, and a region test that ends settles its record. A load window shows the firmware's load and its peak,
and sheds one level more where it is over SHED_HI or class A work waits, or one less after ten windows in a row below SHED_LO. (R513,
R515, R517, R520, R521, R523, R524, R526; derived.) -/
def Obligations.FaultCommands : Prop :=
  (∀ (s : State) (slot : Nat),
    (s.mayWrite slot Reg.PMC_CTRL.AT →
      exec (.snap slot) s = .next ((s.inbound slot).pmcCtrlWrite slot ((s.inbound slot).word Reg.PMC_CTRL.AT ||| 2))
      ∧ exec (.clear slot) s = .next ((s.inbound slot).pmcCtrlWrite slot ((s.inbound slot).word Reg.PMC_CTRL.AT ||| 4)))
    ∧ (s.mayWrite slot Reg.ERR_CTRL.AT →
      exec (.clearLog slot) s = .next ((s.inbound slot).errCtrlWrite slot ((s.inbound slot).word Reg.ERR_CTRL.AT ||| 4))))
  ∧ (∀ (s : State) (unit : Nat), unit < 8 → s.awake = true → s.domOn (if unit = 0 then 0 else if unit ≤ 3 then 20 else unit) = true →
    exec (.stErrLockstep unit) s = .next (((((s.count (Reg.ERR_CNT.CNT 6)).pmcAdd 430).errRecord (er Code.ST_ERR_LOCKSTEP (checkedSrc unit) 3 3 0)).post
      (ev Code.ST_ERR_LOCKSTEP (checkedSrc unit))).freeze Code.ST_ERR_LOCKSTEP))
  ∧ (∀ (s : State) (hit : SramHit) (hits : List SramHit), exec (.sramEccHit hit) s = .next (s.sramHit hit)
    ∧ exec (.sramScrub hits) s = .next (if s.flag Reg.ERR_CTRL.SCRUB_EN = true then s.each hits State.sramHit else s))
  ∧ (∀ (s : State) (m r : Nat) (t : RegionTest) (rows : List Nat), s.err.tests.find? (fun t => t.mem = m && t.region = r) = some t →
    exec (.sramRegionTestDone m r rows) s = .next (s.regionEnds t rows))
  ∧ (∀ (s : State) (load : Nat) (waited : Bool), s.awake = true →
    let w := min load (2 ^ 16 - 1)
    let u := (s.put Reg.ERR_SVC_LOAD.LOAD w).put Reg.ERR_SVC_LOAD.PEAK (max w (s.get Reg.ERR_SVC_LOAD.PEAK))
    let l := u.get Reg.ERR_STS.SHED
    let high := u.get Reg.ERR_SVC_CFG.SHED_HI * 32768 < w * 100 || waited
    let run := if w * 100 < u.get Reg.ERR_SVC_CFG.SHED_LO * 32768 then u.err.lowRun + 1 else 0
    let v := u.setErr ({ · with lowRun := if high then 0 else run })
    exec (.svcLoadWindow load waited) s = .next (
      if high then (if l < 3 then v.shed (l + 1) else v) else if 10 ≤ run && 0 < l then v.shed (l - 1) else v))

/-- Offsets that no chapter assigns read 0 and drop their writes. At a BAR0 offset below the debug window that no register holds, an
aligned 32-bit read by a slot that reaches the device answers 0, whether the unit's domain is on or off and whoever owns the device,
and with the domain on it changes nothing else; and a write that R31 and R350 let through changes nothing. (What becomes of a write
that they do not let through says DroppedRegisterWrite, at any offset.) (R11; the spec's rule.) -/
def Obligations.UnassignedOffsets : Prop :=
  ∀ (s : State) (slot off : Nat), slot < 4 → off % 4 = 0 → off < 0x2000000 → s.reach slot = true → Reg.find (canonAt slot off) = none →
    let u := s.inbound slot
    (u.addrOn off = true → exec (.rcReadClear slot 0 off 4) s = .next (u.send (.readData slot 0 off 0)))
    ∧ (∃ t, exec (.rcReadClear slot 0 off 4) s = .next t ∧ t.out.head? = some (.readData slot 0 off 0))
    ∧ (∀ data : Word, s.mayWrite slot off → exec (.registerWrite slot 0 off 4 data) s = .next u)

/-- A register write that is not carried out is recorded and changes nothing. A 32-bit aligned write in BAR0, below the debug window and
at an offset other than DEV_OWN_CTRL and DEV_OWN_HB, by a slot that reaches the device leaves the R31 record and count alone where the
unit's domain is off, and the R350 report with reason 0 alone where the domain is on and the slot is not the owner. That the domain is
judged before the owner is the model's reading (log entry 10). (R31, R350, notes/assumptions/10; derived.) -/
def Obligations.DroppedRegisterWrite : Prop :=
  ∀ (s : State) (slot off : Nat) (data : Word), slot < 4 → off % 4 = 0 → off < 0x2000000 → s.reach slot = true →
    off ≠ Reg.DEV_OWN_CTRL.AT → off ≠ Reg.DEV_OWN_HB.AT →
    let u := s.inbound slot
    (u.addrOn off = false → exec (.registerWrite slot 0 off 4 data) s = .next (u.offDomain off))
    ∧ (u.addrOn off = true → u.isOwner slot = false → exec (.registerWrite slot 0 off 4 data) s = .next (u.reportAccess slot 0 off 0))

/-- Only the owner's read clears. An aligned 32-bit read of a single register, in BAR0, by a slot that reaches the device and does not own
it answers the current value and leaves every register as it was once the request is counted. The owner's read leaves every bit of the
register's RC fields 0 where no event of this clock touched it, and answers the current value; where one did, it answers the RC fields
from before this clock's events and they keep those events alone. Every other register stays; the smallest slack shown in
ZIP_PAGE_SLACK starts again from its highest value. (R9; the spec's rule.) -/
def Obligations.ReadByAnother : Prop :=
  ∀ (s : State) (slot a : Nat) (r : RegRow), slot < 4 → a % 4 = 0 → a < 0x2000000 → canonAt slot a = a → s.reach slot = true →
    Reg.find a = some (r, 0) → r.pair = false →
    let u := s.inbound slot
    let rc := BitVec.ofNat 32 (Reg.mask a .rc)
    u.addrOn a = true →
    (u.isOwner slot = false → exec (.rcReadClear slot 0 a 4) s = .next (u.send (.readData slot 0 a (u.view slot a))))
    ∧ (u.isOwner slot = true → ∃ t, exec (.rcReadClear slot 0 a 4) s = .next t
      ∧ (u.fresh.lookup a = none → t.out = .readData slot 0 a (u.view slot a) :: u.out
        ∧ (a ≠ Reg.ZIP_PAGE_SLACK.AT → t.word a = u.word a &&& ~~~ rc))
      ∧ (∀ (before set : Word), u.fresh.lookup a = some (before, set) →
        t.out = .readData slot 0 a ((u.view slot a &&& ~~~ rc) ||| (before &&& rc)) :: u.out
        ∧ (rc ≠ 0 → t.word a = (u.word a &&& ~~~ rc)
          ||| BitVec.ofNat 32 (r.fields.foldl (fun acc f => acc + keptRc a before (u.word a) f) 0)))
      ∧ (∀ b, b ≠ a → t.word b = u.word b))

/-- No change from Configure to Ready without a valid image and loaded ports. With the device in M4, the owner's request for M5 while
SMP_STS.IMG_VALID is 0, or while some port of an enabled row has not been loaded since reset, is answered with DEV_MODE.RESULT 1 and
the device stays in M4. The ports that the bar assignment uses are taken as those of the enabled rows (log entry 61). (R171, R484;
derived.) -/
def Obligations.ReadyNeedsImages : Prop :=
  ∀ (s : State) (slot : Nat), s.mayWrite slot Reg.DEV_MODE.AT →
    let u := s.inbound slot
    u.mode = 4 →
    (u.flag Reg.SMP_STS.IMG_VALID = false ∨ ∃ j ∈ u.enabledRows, j / 16 ∉ u.smp.loaded) →
    ∃ t, exec (.modeRequest slot 5) s = .next t ∧ t.mode = 4 ∧ t.get Reg.DEV_MODE.RESULT = 1
end

