-- ==== Sys2Proof/Laws/Sparse.lean ====
section
/-! SUPPORT. The laws of the canonical map: a read after a write, and that a write keeps the canonical form. -/

namespace Sys2Proof.Machine

variable {α : Type}

theorem Sparse.get_insert_same (d : Nat → α) (k : Nat) (v : α) (l : List (Nat × α)) :
    Sparse.get d (Sparse.insert k v l) k = v := by
  induction l with
  | nil => simp [Sparse.insert, Sparse.get]
  | cons e l ih =>
    obtain ⟨a, x⟩ := e
    simp only [Sparse.insert]
    split
    · simp [Sparse.get]
    · split
      · simp [Sparse.get]
      · simp only [Sparse.get, ih, ite_eq_right_iff]
        omega

theorem Sparse.get_insert_other (d : Nat → α) {k j : Nat} (h : j ≠ k) (v : α) (l : List (Nat × α)) :
    Sparse.get d (Sparse.insert k v l) j = Sparse.get d l j := by
  induction l with
  | nil => simp [Sparse.insert, Sparse.get, Ne.symm h]
  | cons e l ih =>
    obtain ⟨a, x⟩ := e
    simp only [Sparse.insert]
    split
    · simp [Sparse.get, Ne.symm h]
    · split
      · rename_i hka
        subst hka
        simp [Sparse.get, Ne.symm h]
      · simp [Sparse.get, ih]

theorem Sparse.get_erase_same (d : Nat → α) (k : Nat) (l : List (Nat × α)) :
    Sparse.get d (Sparse.erase k l) k = d k := by
  induction l with
  | nil => simp [Sparse.erase, Sparse.get]
  | cons e l ih =>
    obtain ⟨a, x⟩ := e
    by_cases h : a = k
    · simpa [Sparse.erase, h] using ih
    · have hne : (decide (a ≠ k)) = true := by simpa using h
      simpa [Sparse.erase, List.filter, hne, Sparse.get, h] using ih

theorem Sparse.get_erase_other (d : Nat → α) {k j : Nat} (h : j ≠ k) (l : List (Nat × α)) :
    Sparse.get d (Sparse.erase k l) j = Sparse.get d l j := by
  induction l with
  | nil => simp [Sparse.erase, Sparse.get]
  | cons e l ih =>
    obtain ⟨a, x⟩ := e
    by_cases ha : a = k
    · subst ha
      simpa [Sparse.erase, Sparse.get, Ne.symm h] using ih
    · have hne : (decide (a ≠ k)) = true := by simpa using ha
      simp only [Sparse.erase, List.filter, hne, Sparse.get]
      split
      · rfl
      · simpa [Sparse.erase] using ih

variable [DecidableEq α]

@[simp] theorem Sparse.get_put_same (d : Nat → α) (l : List (Nat × α)) (k : Nat) (v : α) :
    Sparse.get d (Sparse.put d l k v) k = v := by
  unfold Sparse.put
  split
  · rename_i h
    rw [Sparse.get_erase_same, h]
  · exact Sparse.get_insert_same d k v l

theorem Sparse.get_put_other (d : Nat → α) (l : List (Nat × α)) {k j : Nat} (h : j ≠ k) (v : α) :
    Sparse.get d (Sparse.put d l k v) j = Sparse.get d l j := by
  unfold Sparse.put
  split
  · exact Sparse.get_erase_other d h l
  · exact Sparse.get_insert_other d h v l

theorem Sparse.get_put (d : Nat → α) (l : List (Nat × α)) (k j : Nat) (v : α) :
    Sparse.get d (Sparse.put d l k v) j = if j = k then v else Sparse.get d l j := by
  split
  · rename_i h
    subst h
    exact Sparse.get_put_same d l j v
  · rename_i h
    exact Sparse.get_put_other d l h v

omit [DecidableEq α] in
theorem Sparse.mem_insert {k : Nat} {v : α} {l : List (Nat × α)} {e : Nat × α}
    (h : e ∈ Sparse.insert k v l) : e = (k, v) ∨ e ∈ l := by
  induction l with
  | nil => simpa [Sparse.insert] using h
  | cons b l ih =>
    obtain ⟨a, x⟩ := b
    simp only [Sparse.insert] at h
    split at h
    · simpa using h
    · split at h
      · rcases List.mem_cons.1 h with h | h
        · exact .inl h
        · exact .inr (List.mem_cons_of_mem _ h)
      · rcases List.mem_cons.1 h with h | h
        · exact .inr (h ▸ List.mem_cons_self)
        · rcases ih h with h | h
          · exact .inl h
          · exact .inr (List.mem_cons_of_mem _ h)

omit [DecidableEq α] in
theorem Sparse.insert_sorted {k : Nat} {v : α} {l : List (Nat × α)}
    (h : (l.map Prod.fst).Pairwise (· < ·)) : ((Sparse.insert k v l).map Prod.fst).Pairwise (· < ·) := by
  induction l with
  | nil => simp [Sparse.insert]
  | cons b l ih =>
    obtain ⟨a, x⟩ := b
    simp only [List.map_cons, List.pairwise_cons] at h
    simp only [Sparse.insert]
    split
    · rename_i hka
      simp only [List.map_cons, List.pairwise_cons]
      refine ⟨?_, h⟩
      intro j hj
      rcases List.mem_cons.1 hj with hj | hj
      · omega
      · have := h.1 j hj
        omega
    · split
      · rename_i hka
        subst hka
        simpa using h
      · rename_i h1 h2
        simp only [List.map_cons, List.pairwise_cons]
        refine ⟨?_, ih h.2⟩
        intro j hj
        obtain ⟨e, he, rfl⟩ := List.mem_map.1 hj
        rcases Sparse.mem_insert he with he | he
        · subst he
          show a < k
          omega
        · exact h.1 _ (List.mem_map_of_mem he)

/-- Every write keeps the canonical form. -/
theorem Sparse.put_wf (d : Nat → α) {l : List (Nat × α)} (h : Sparse.Wf d l) (k : Nat) (v : α) :
    Sparse.Wf d (Sparse.put d l k v) := by
  unfold Sparse.put
  split
  · refine ⟨?_, ?_⟩
    · exact h.1.sublist (List.Sublist.map _ List.filter_sublist)
    · intro e he
      exact h.2 e (List.mem_filter.1 he).1
  · rename_i hv
    refine ⟨Sparse.insert_sorted h.1, ?_⟩
    intro e he
    rcases Sparse.mem_insert he with he | he
    · subst he
      exact hv
    · exact h.2 e he

/-- Entries taken out. -/
theorem Sparse.filter_wf (d : Nat → α) (p : Nat × α → Bool) {l : List (Nat × α)} (h : Sparse.Wf d l) : Sparse.Wf d (l.filter p) :=
  ⟨h.1.sublist (List.Sublist.map _ List.filter_sublist), fun e he => h.2 e (List.mem_filter.1 he).1⟩

theorem Sparse.nil_wf (d : Nat → α) : Sparse.Wf d ([] : List (Nat × α)) := by
  simp [Sparse.Wf]

omit [DecidableEq α] in
/-- A listed value, looked up, is the one that was inserted. -/
theorem Sparse.lookup_insert_same (k : Nat) (v : α) (l : List (Nat × α)) : (Sparse.insert k v l).lookup k = some v := by
  induction l with
  | nil => simp [Sparse.insert]
  | cons e l ih =>
    unfold Sparse.insert
    split
    · simp
    · split
      · simp
      · rename_i h
        rw [List.lookup_cons, beq_false_of_ne h]
        exact ih

omit [DecidableEq α] in
/-- Inserting one key changes what no other key looks up. -/
theorem Sparse.lookup_insert_other {k j : Nat} (h : j ≠ k) (v : α) (l : List (Nat × α)) :
    (Sparse.insert k v l).lookup j = l.lookup j := by
  induction l with
  | nil => simp [Sparse.insert, h]
  | cons e l ih =>
    unfold Sparse.insert
    split
    · rw [List.lookup_cons, beq_false_of_ne h]
    · split
      · rename_i g
        subst g
        rw [List.lookup_cons, List.lookup_cons, beq_false_of_ne h]
      · rw [List.lookup_cons, List.lookup_cons, ih]

end Sys2Proof.Machine
end

