-- ==== Sys2Proof/Laws/State.lean ====
section
/-! SUPPORT. What each basic update of the state leaves and sets, field by field; a register or a byte read after a write; and what a
register write by a slot comes to. -/

namespace Sys2Proof.Machine

/-! ### `State.setWord` -/

@[simp] theorem State.setWord_regs (s : State) (a : Nat) (v : Word) : (s.setWord a v).regs = Sparse.put Reg.resetWord s.regs a v := rfl
@[simp] theorem State.setWord_mem (s : State) (a : Nat) (v : Word) : (s.setWord a v).mem = s.mem := rfl
@[simp] theorem State.setWord_now (s : State) (a : Nat) (v : Word) : (s.setWord a v).now = s.now := rfl
@[simp] theorem State.setWord_fresh (s : State) (a : Nat) (v : Word) : (s.setWord a v).fresh = s.fresh := rfl
@[simp] theorem State.setWord_tally (s : State) (a : Nat) (v : Word) : (s.setWord a v).tally = s.tally := rfl
@[simp] theorem State.setWord_host (s : State) (a : Nat) (v : Word) : (s.setWord a v).host = s.host := rfl
@[simp] theorem State.setWord_err (s : State) (a : Nat) (v : Word) : (s.setWord a v).err = s.err := rfl
@[simp] theorem State.setWord_pwr (s : State) (a : Nat) (v : Word) : (s.setWord a v).pwr = s.pwr := rfl
@[simp] theorem State.setWord_tb (s : State) (a : Nat) (v : Word) : (s.setWord a v).tb = s.tb := rfl
@[simp] theorem State.setWord_job (s : State) (a : Nat) (v : Word) : (s.setWord a v).job = s.job := rfl
@[simp] theorem State.setWord_eng (s : State) (a : Nat) (v : Word) : (s.setWord a v).eng = s.eng := rfl
@[simp] theorem State.setWord_smp (s : State) (a : Nat) (v : Word) : (s.setWord a v).smp = s.smp := rfl
@[simp] theorem State.setWord_rows (s : State) (a : Nat) (v : Word) : (s.setWord a v).rows = s.rows := rfl
@[simp] theorem State.setWord_ports (s : State) (a : Nat) (v : Word) : (s.setWord a v).ports = s.ports := rfl
@[simp] theorem State.setWord_fld (s : State) (a : Nat) (v : Word) : (s.setWord a v).fld = s.fld := rfl
@[simp] theorem State.setWord_mot (s : State) (a : Nat) (v : Word) : (s.setWord a v).mot = s.mot := rfl
@[simp] theorem State.setWord_due (s : State) (a : Nat) (v : Word) : (s.setWord a v).due = s.due := rfl
@[simp] theorem State.setWord_cal (s : State) (a : Nat) (v : Word) : (s.setWord a v).cal = s.cal := rfl
@[simp] theorem State.setWord_lanes (s : State) (a : Nat) (v : Word) : (s.setWord a v).lanes = s.lanes := rfl
@[simp] theorem State.setWord_peers (s : State) (a : Nat) (v : Word) : (s.setWord a v).peers = s.peers := rfl
@[simp] theorem State.setWord_cams (s : State) (a : Nat) (v : Word) : (s.setWord a v).cams = s.cams := rfl
@[simp] theorem State.setWord_ins (s : State) (a : Nat) (v : Word) : (s.setWord a v).ins = s.ins := rfl
@[simp] theorem State.setWord_zip (s : State) (a : Nat) (v : Word) : (s.setWord a v).zip = s.zip := rfl
@[simp] theorem State.setWord_dram (s : State) (a : Nat) (v : Word) : (s.setWord a v).dram = s.dram := rfl
@[simp] theorem State.setWord_tap (s : State) (a : Nat) (v : Word) : (s.setWord a v).tap = s.tap := rfl
@[simp] theorem State.setWord_posted (s : State) (a : Nat) (v : Word) : (s.setWord a v).posted = s.posted := rfl
@[simp] theorem State.setWord_free (s : State) (a : Nat) (v : Word) : (s.setWord a v).free = s.free := rfl
@[simp] theorem State.setWord_out (s : State) (a : Nat) (v : Word) : (s.setWord a v).out = s.out := rfl
@[simp] theorem State.setWord_pending (s : State) (a : Nat) (v : Word) : (s.setWord a v).pending = s.pending := rfl

/-! ### `State.put` -/

@[simp] theorem State.put_mem (s : State) (f : Fld) (v : Nat) : (s.put f v).mem = s.mem := rfl
@[simp] theorem State.put_now (s : State) (f : Fld) (v : Nat) : (s.put f v).now = s.now := rfl
@[simp] theorem State.put_tally (s : State) (f : Fld) (v : Nat) : (s.put f v).tally = s.tally := rfl
@[simp] theorem State.put_host (s : State) (f : Fld) (v : Nat) : (s.put f v).host = s.host := rfl
@[simp] theorem State.put_err (s : State) (f : Fld) (v : Nat) : (s.put f v).err = s.err := rfl
@[simp] theorem State.put_pwr (s : State) (f : Fld) (v : Nat) : (s.put f v).pwr = s.pwr := rfl
@[simp] theorem State.put_tb (s : State) (f : Fld) (v : Nat) : (s.put f v).tb = s.tb := rfl
@[simp] theorem State.put_job (s : State) (f : Fld) (v : Nat) : (s.put f v).job = s.job := rfl
@[simp] theorem State.put_eng (s : State) (f : Fld) (v : Nat) : (s.put f v).eng = s.eng := rfl
@[simp] theorem State.put_smp (s : State) (f : Fld) (v : Nat) : (s.put f v).smp = s.smp := rfl
@[simp] theorem State.put_rows (s : State) (f : Fld) (v : Nat) : (s.put f v).rows = s.rows := rfl
@[simp] theorem State.put_ports (s : State) (f : Fld) (v : Nat) : (s.put f v).ports = s.ports := rfl
@[simp] theorem State.put_fld (s : State) (f : Fld) (v : Nat) : (s.put f v).fld = s.fld := rfl
@[simp] theorem State.put_mot (s : State) (f : Fld) (v : Nat) : (s.put f v).mot = s.mot := rfl
@[simp] theorem State.put_due (s : State) (f : Fld) (v : Nat) : (s.put f v).due = s.due := rfl
@[simp] theorem State.put_cal (s : State) (f : Fld) (v : Nat) : (s.put f v).cal = s.cal := rfl
@[simp] theorem State.put_lanes (s : State) (f : Fld) (v : Nat) : (s.put f v).lanes = s.lanes := rfl
@[simp] theorem State.put_peers (s : State) (f : Fld) (v : Nat) : (s.put f v).peers = s.peers := rfl
@[simp] theorem State.put_cams (s : State) (f : Fld) (v : Nat) : (s.put f v).cams = s.cams := rfl
@[simp] theorem State.put_ins (s : State) (f : Fld) (v : Nat) : (s.put f v).ins = s.ins := rfl
@[simp] theorem State.put_zip (s : State) (f : Fld) (v : Nat) : (s.put f v).zip = s.zip := rfl
@[simp] theorem State.put_dram (s : State) (f : Fld) (v : Nat) : (s.put f v).dram = s.dram := rfl
@[simp] theorem State.put_tap (s : State) (f : Fld) (v : Nat) : (s.put f v).tap = s.tap := rfl
@[simp] theorem State.put_posted (s : State) (f : Fld) (v : Nat) : (s.put f v).posted = s.posted := rfl
@[simp] theorem State.put_free (s : State) (f : Fld) (v : Nat) : (s.put f v).free = s.free := rfl
@[simp] theorem State.put_out (s : State) (f : Fld) (v : Nat) : (s.put f v).out = s.out := rfl
@[simp] theorem State.put_pending (s : State) (f : Fld) (v : Nat) : (s.put f v).pending = s.pending := rfl

/-! ### `State.putB` -/

@[simp] theorem State.putB_mem (s : State) (f : Fld) (b : Bool) : (s.putB f b).mem = s.mem := rfl
@[simp] theorem State.putB_now (s : State) (f : Fld) (b : Bool) : (s.putB f b).now = s.now := rfl
@[simp] theorem State.putB_tally (s : State) (f : Fld) (b : Bool) : (s.putB f b).tally = s.tally := rfl
@[simp] theorem State.putB_host (s : State) (f : Fld) (b : Bool) : (s.putB f b).host = s.host := rfl
@[simp] theorem State.putB_err (s : State) (f : Fld) (b : Bool) : (s.putB f b).err = s.err := rfl
@[simp] theorem State.putB_pwr (s : State) (f : Fld) (b : Bool) : (s.putB f b).pwr = s.pwr := rfl
@[simp] theorem State.putB_tb (s : State) (f : Fld) (b : Bool) : (s.putB f b).tb = s.tb := rfl
@[simp] theorem State.putB_job (s : State) (f : Fld) (b : Bool) : (s.putB f b).job = s.job := rfl
@[simp] theorem State.putB_eng (s : State) (f : Fld) (b : Bool) : (s.putB f b).eng = s.eng := rfl
@[simp] theorem State.putB_smp (s : State) (f : Fld) (b : Bool) : (s.putB f b).smp = s.smp := rfl
@[simp] theorem State.putB_rows (s : State) (f : Fld) (b : Bool) : (s.putB f b).rows = s.rows := rfl
@[simp] theorem State.putB_ports (s : State) (f : Fld) (b : Bool) : (s.putB f b).ports = s.ports := rfl
@[simp] theorem State.putB_fld (s : State) (f : Fld) (b : Bool) : (s.putB f b).fld = s.fld := rfl
@[simp] theorem State.putB_mot (s : State) (f : Fld) (b : Bool) : (s.putB f b).mot = s.mot := rfl
@[simp] theorem State.putB_due (s : State) (f : Fld) (b : Bool) : (s.putB f b).due = s.due := rfl
@[simp] theorem State.putB_cal (s : State) (f : Fld) (b : Bool) : (s.putB f b).cal = s.cal := rfl
@[simp] theorem State.putB_lanes (s : State) (f : Fld) (b : Bool) : (s.putB f b).lanes = s.lanes := rfl
@[simp] theorem State.putB_peers (s : State) (f : Fld) (b : Bool) : (s.putB f b).peers = s.peers := rfl
@[simp] theorem State.putB_cams (s : State) (f : Fld) (b : Bool) : (s.putB f b).cams = s.cams := rfl
@[simp] theorem State.putB_ins (s : State) (f : Fld) (b : Bool) : (s.putB f b).ins = s.ins := rfl
@[simp] theorem State.putB_zip (s : State) (f : Fld) (b : Bool) : (s.putB f b).zip = s.zip := rfl
@[simp] theorem State.putB_dram (s : State) (f : Fld) (b : Bool) : (s.putB f b).dram = s.dram := rfl
@[simp] theorem State.putB_tap (s : State) (f : Fld) (b : Bool) : (s.putB f b).tap = s.tap := rfl
@[simp] theorem State.putB_posted (s : State) (f : Fld) (b : Bool) : (s.putB f b).posted = s.posted := rfl
@[simp] theorem State.putB_free (s : State) (f : Fld) (b : Bool) : (s.putB f b).free = s.free := rfl
@[simp] theorem State.putB_out (s : State) (f : Fld) (b : Bool) : (s.putB f b).out = s.out := rfl
@[simp] theorem State.putB_pending (s : State) (f : Fld) (b : Bool) : (s.putB f b).pending = s.pending := rfl

/-! ### `State.putI` -/

@[simp] theorem State.putI_mem (s : State) (f : Fld) (v : Int) : (s.putI f v).mem = s.mem := rfl
@[simp] theorem State.putI_now (s : State) (f : Fld) (v : Int) : (s.putI f v).now = s.now := rfl
@[simp] theorem State.putI_tally (s : State) (f : Fld) (v : Int) : (s.putI f v).tally = s.tally := rfl
@[simp] theorem State.putI_host (s : State) (f : Fld) (v : Int) : (s.putI f v).host = s.host := rfl
@[simp] theorem State.putI_err (s : State) (f : Fld) (v : Int) : (s.putI f v).err = s.err := rfl
@[simp] theorem State.putI_pwr (s : State) (f : Fld) (v : Int) : (s.putI f v).pwr = s.pwr := rfl
@[simp] theorem State.putI_tb (s : State) (f : Fld) (v : Int) : (s.putI f v).tb = s.tb := rfl
@[simp] theorem State.putI_job (s : State) (f : Fld) (v : Int) : (s.putI f v).job = s.job := rfl
@[simp] theorem State.putI_eng (s : State) (f : Fld) (v : Int) : (s.putI f v).eng = s.eng := rfl
@[simp] theorem State.putI_smp (s : State) (f : Fld) (v : Int) : (s.putI f v).smp = s.smp := rfl
@[simp] theorem State.putI_rows (s : State) (f : Fld) (v : Int) : (s.putI f v).rows = s.rows := rfl
@[simp] theorem State.putI_ports (s : State) (f : Fld) (v : Int) : (s.putI f v).ports = s.ports := rfl
@[simp] theorem State.putI_fld (s : State) (f : Fld) (v : Int) : (s.putI f v).fld = s.fld := rfl
@[simp] theorem State.putI_mot (s : State) (f : Fld) (v : Int) : (s.putI f v).mot = s.mot := rfl
@[simp] theorem State.putI_due (s : State) (f : Fld) (v : Int) : (s.putI f v).due = s.due := rfl
@[simp] theorem State.putI_cal (s : State) (f : Fld) (v : Int) : (s.putI f v).cal = s.cal := rfl
@[simp] theorem State.putI_lanes (s : State) (f : Fld) (v : Int) : (s.putI f v).lanes = s.lanes := rfl
@[simp] theorem State.putI_peers (s : State) (f : Fld) (v : Int) : (s.putI f v).peers = s.peers := rfl
@[simp] theorem State.putI_cams (s : State) (f : Fld) (v : Int) : (s.putI f v).cams = s.cams := rfl
@[simp] theorem State.putI_ins (s : State) (f : Fld) (v : Int) : (s.putI f v).ins = s.ins := rfl
@[simp] theorem State.putI_zip (s : State) (f : Fld) (v : Int) : (s.putI f v).zip = s.zip := rfl
@[simp] theorem State.putI_dram (s : State) (f : Fld) (v : Int) : (s.putI f v).dram = s.dram := rfl
@[simp] theorem State.putI_tap (s : State) (f : Fld) (v : Int) : (s.putI f v).tap = s.tap := rfl
@[simp] theorem State.putI_posted (s : State) (f : Fld) (v : Int) : (s.putI f v).posted = s.posted := rfl
@[simp] theorem State.putI_free (s : State) (f : Fld) (v : Int) : (s.putI f v).free = s.free := rfl
@[simp] theorem State.putI_out (s : State) (f : Fld) (v : Int) : (s.putI f v).out = s.out := rfl
@[simp] theorem State.putI_pending (s : State) (f : Fld) (v : Int) : (s.putI f v).pending = s.pending := rfl

/-! ### `State.putSat` -/

@[simp] theorem State.putSat_mem (s : State) (f : Fld) (v : Int) : (s.putSat f v).mem = s.mem := rfl
@[simp] theorem State.putSat_now (s : State) (f : Fld) (v : Int) : (s.putSat f v).now = s.now := rfl
@[simp] theorem State.putSat_tally (s : State) (f : Fld) (v : Int) : (s.putSat f v).tally = s.tally := rfl
@[simp] theorem State.putSat_host (s : State) (f : Fld) (v : Int) : (s.putSat f v).host = s.host := rfl
@[simp] theorem State.putSat_err (s : State) (f : Fld) (v : Int) : (s.putSat f v).err = s.err := rfl
@[simp] theorem State.putSat_pwr (s : State) (f : Fld) (v : Int) : (s.putSat f v).pwr = s.pwr := rfl
@[simp] theorem State.putSat_tb (s : State) (f : Fld) (v : Int) : (s.putSat f v).tb = s.tb := rfl
@[simp] theorem State.putSat_job (s : State) (f : Fld) (v : Int) : (s.putSat f v).job = s.job := rfl
@[simp] theorem State.putSat_eng (s : State) (f : Fld) (v : Int) : (s.putSat f v).eng = s.eng := rfl
@[simp] theorem State.putSat_smp (s : State) (f : Fld) (v : Int) : (s.putSat f v).smp = s.smp := rfl
@[simp] theorem State.putSat_rows (s : State) (f : Fld) (v : Int) : (s.putSat f v).rows = s.rows := rfl
@[simp] theorem State.putSat_ports (s : State) (f : Fld) (v : Int) : (s.putSat f v).ports = s.ports := rfl
@[simp] theorem State.putSat_fld (s : State) (f : Fld) (v : Int) : (s.putSat f v).fld = s.fld := rfl
@[simp] theorem State.putSat_mot (s : State) (f : Fld) (v : Int) : (s.putSat f v).mot = s.mot := rfl
@[simp] theorem State.putSat_due (s : State) (f : Fld) (v : Int) : (s.putSat f v).due = s.due := rfl
@[simp] theorem State.putSat_cal (s : State) (f : Fld) (v : Int) : (s.putSat f v).cal = s.cal := rfl
@[simp] theorem State.putSat_lanes (s : State) (f : Fld) (v : Int) : (s.putSat f v).lanes = s.lanes := rfl
@[simp] theorem State.putSat_peers (s : State) (f : Fld) (v : Int) : (s.putSat f v).peers = s.peers := rfl
@[simp] theorem State.putSat_cams (s : State) (f : Fld) (v : Int) : (s.putSat f v).cams = s.cams := rfl
@[simp] theorem State.putSat_ins (s : State) (f : Fld) (v : Int) : (s.putSat f v).ins = s.ins := rfl
@[simp] theorem State.putSat_zip (s : State) (f : Fld) (v : Int) : (s.putSat f v).zip = s.zip := rfl
@[simp] theorem State.putSat_dram (s : State) (f : Fld) (v : Int) : (s.putSat f v).dram = s.dram := rfl
@[simp] theorem State.putSat_tap (s : State) (f : Fld) (v : Int) : (s.putSat f v).tap = s.tap := rfl
@[simp] theorem State.putSat_posted (s : State) (f : Fld) (v : Int) : (s.putSat f v).posted = s.posted := rfl
@[simp] theorem State.putSat_free (s : State) (f : Fld) (v : Int) : (s.putSat f v).free = s.free := rfl
@[simp] theorem State.putSat_out (s : State) (f : Fld) (v : Int) : (s.putSat f v).out = s.out := rfl
@[simp] theorem State.putSat_pending (s : State) (f : Fld) (v : Int) : (s.putSat f v).pending = s.pending := rfl

/-! ### `State.count` -/

@[simp] theorem State.count_mem (s : State) (f : Fld) (n : Nat) : (s.count f n).mem = s.mem := rfl
@[simp] theorem State.count_now (s : State) (f : Fld) (n : Nat) : (s.count f n).now = s.now := rfl
@[simp] theorem State.count_tally (s : State) (f : Fld) (n : Nat) : (s.count f n).tally = s.tally := rfl
@[simp] theorem State.count_host (s : State) (f : Fld) (n : Nat) : (s.count f n).host = s.host := rfl
@[simp] theorem State.count_err (s : State) (f : Fld) (n : Nat) : (s.count f n).err = s.err := rfl
@[simp] theorem State.count_pwr (s : State) (f : Fld) (n : Nat) : (s.count f n).pwr = s.pwr := rfl
@[simp] theorem State.count_tb (s : State) (f : Fld) (n : Nat) : (s.count f n).tb = s.tb := rfl
@[simp] theorem State.count_job (s : State) (f : Fld) (n : Nat) : (s.count f n).job = s.job := rfl
@[simp] theorem State.count_eng (s : State) (f : Fld) (n : Nat) : (s.count f n).eng = s.eng := rfl
@[simp] theorem State.count_smp (s : State) (f : Fld) (n : Nat) : (s.count f n).smp = s.smp := rfl
@[simp] theorem State.count_rows (s : State) (f : Fld) (n : Nat) : (s.count f n).rows = s.rows := rfl
@[simp] theorem State.count_ports (s : State) (f : Fld) (n : Nat) : (s.count f n).ports = s.ports := rfl
@[simp] theorem State.count_fld (s : State) (f : Fld) (n : Nat) : (s.count f n).fld = s.fld := rfl
@[simp] theorem State.count_mot (s : State) (f : Fld) (n : Nat) : (s.count f n).mot = s.mot := rfl
@[simp] theorem State.count_due (s : State) (f : Fld) (n : Nat) : (s.count f n).due = s.due := rfl
@[simp] theorem State.count_cal (s : State) (f : Fld) (n : Nat) : (s.count f n).cal = s.cal := rfl
@[simp] theorem State.count_lanes (s : State) (f : Fld) (n : Nat) : (s.count f n).lanes = s.lanes := rfl
@[simp] theorem State.count_peers (s : State) (f : Fld) (n : Nat) : (s.count f n).peers = s.peers := rfl
@[simp] theorem State.count_cams (s : State) (f : Fld) (n : Nat) : (s.count f n).cams = s.cams := rfl
@[simp] theorem State.count_ins (s : State) (f : Fld) (n : Nat) : (s.count f n).ins = s.ins := rfl
@[simp] theorem State.count_zip (s : State) (f : Fld) (n : Nat) : (s.count f n).zip = s.zip := rfl
@[simp] theorem State.count_dram (s : State) (f : Fld) (n : Nat) : (s.count f n).dram = s.dram := rfl
@[simp] theorem State.count_tap (s : State) (f : Fld) (n : Nat) : (s.count f n).tap = s.tap := rfl
@[simp] theorem State.count_posted (s : State) (f : Fld) (n : Nat) : (s.count f n).posted = s.posted := rfl
@[simp] theorem State.count_free (s : State) (f : Fld) (n : Nat) : (s.count f n).free = s.free := rfl
@[simp] theorem State.count_out (s : State) (f : Fld) (n : Nat) : (s.count f n).out = s.out := rfl
@[simp] theorem State.count_pending (s : State) (f : Fld) (n : Nat) : (s.count f n).pending = s.pending := rfl

/-! ### `State.put64` -/

@[simp] theorem State.put64_mem (s : State) (p : Pair) (v : Nat) : (s.put64 p v).mem = s.mem := rfl
@[simp] theorem State.put64_now (s : State) (p : Pair) (v : Nat) : (s.put64 p v).now = s.now := rfl
@[simp] theorem State.put64_fresh (s : State) (p : Pair) (v : Nat) : (s.put64 p v).fresh = s.fresh := rfl
@[simp] theorem State.put64_tally (s : State) (p : Pair) (v : Nat) : (s.put64 p v).tally = s.tally := rfl
@[simp] theorem State.put64_host (s : State) (p : Pair) (v : Nat) : (s.put64 p v).host = s.host := rfl
@[simp] theorem State.put64_err (s : State) (p : Pair) (v : Nat) : (s.put64 p v).err = s.err := rfl
@[simp] theorem State.put64_pwr (s : State) (p : Pair) (v : Nat) : (s.put64 p v).pwr = s.pwr := rfl
@[simp] theorem State.put64_tb (s : State) (p : Pair) (v : Nat) : (s.put64 p v).tb = s.tb := rfl
@[simp] theorem State.put64_job (s : State) (p : Pair) (v : Nat) : (s.put64 p v).job = s.job := rfl
@[simp] theorem State.put64_eng (s : State) (p : Pair) (v : Nat) : (s.put64 p v).eng = s.eng := rfl
@[simp] theorem State.put64_smp (s : State) (p : Pair) (v : Nat) : (s.put64 p v).smp = s.smp := rfl
@[simp] theorem State.put64_rows (s : State) (p : Pair) (v : Nat) : (s.put64 p v).rows = s.rows := rfl
@[simp] theorem State.put64_ports (s : State) (p : Pair) (v : Nat) : (s.put64 p v).ports = s.ports := rfl
@[simp] theorem State.put64_fld (s : State) (p : Pair) (v : Nat) : (s.put64 p v).fld = s.fld := rfl
@[simp] theorem State.put64_mot (s : State) (p : Pair) (v : Nat) : (s.put64 p v).mot = s.mot := rfl
@[simp] theorem State.put64_due (s : State) (p : Pair) (v : Nat) : (s.put64 p v).due = s.due := rfl
@[simp] theorem State.put64_cal (s : State) (p : Pair) (v : Nat) : (s.put64 p v).cal = s.cal := rfl
@[simp] theorem State.put64_lanes (s : State) (p : Pair) (v : Nat) : (s.put64 p v).lanes = s.lanes := rfl
@[simp] theorem State.put64_peers (s : State) (p : Pair) (v : Nat) : (s.put64 p v).peers = s.peers := rfl
@[simp] theorem State.put64_cams (s : State) (p : Pair) (v : Nat) : (s.put64 p v).cams = s.cams := rfl
@[simp] theorem State.put64_ins (s : State) (p : Pair) (v : Nat) : (s.put64 p v).ins = s.ins := rfl
@[simp] theorem State.put64_zip (s : State) (p : Pair) (v : Nat) : (s.put64 p v).zip = s.zip := rfl
@[simp] theorem State.put64_dram (s : State) (p : Pair) (v : Nat) : (s.put64 p v).dram = s.dram := rfl
@[simp] theorem State.put64_tap (s : State) (p : Pair) (v : Nat) : (s.put64 p v).tap = s.tap := rfl
@[simp] theorem State.put64_posted (s : State) (p : Pair) (v : Nat) : (s.put64 p v).posted = s.posted := rfl
@[simp] theorem State.put64_free (s : State) (p : Pair) (v : Nat) : (s.put64 p v).free = s.free := rfl
@[simp] theorem State.put64_out (s : State) (p : Pair) (v : Nat) : (s.put64 p v).out = s.out := rfl
@[simp] theorem State.put64_pending (s : State) (p : Pair) (v : Nat) : (s.put64 p v).pending = s.pending := rfl

/-! ### `State.putI64` -/

@[simp] theorem State.putI64_mem (s : State) (p : Pair) (v : Int) : (s.putI64 p v).mem = s.mem := rfl
@[simp] theorem State.putI64_now (s : State) (p : Pair) (v : Int) : (s.putI64 p v).now = s.now := rfl
@[simp] theorem State.putI64_fresh (s : State) (p : Pair) (v : Int) : (s.putI64 p v).fresh = s.fresh := rfl
@[simp] theorem State.putI64_tally (s : State) (p : Pair) (v : Int) : (s.putI64 p v).tally = s.tally := rfl
@[simp] theorem State.putI64_host (s : State) (p : Pair) (v : Int) : (s.putI64 p v).host = s.host := rfl
@[simp] theorem State.putI64_err (s : State) (p : Pair) (v : Int) : (s.putI64 p v).err = s.err := rfl
@[simp] theorem State.putI64_pwr (s : State) (p : Pair) (v : Int) : (s.putI64 p v).pwr = s.pwr := rfl
@[simp] theorem State.putI64_tb (s : State) (p : Pair) (v : Int) : (s.putI64 p v).tb = s.tb := rfl
@[simp] theorem State.putI64_job (s : State) (p : Pair) (v : Int) : (s.putI64 p v).job = s.job := rfl
@[simp] theorem State.putI64_eng (s : State) (p : Pair) (v : Int) : (s.putI64 p v).eng = s.eng := rfl
@[simp] theorem State.putI64_smp (s : State) (p : Pair) (v : Int) : (s.putI64 p v).smp = s.smp := rfl
@[simp] theorem State.putI64_rows (s : State) (p : Pair) (v : Int) : (s.putI64 p v).rows = s.rows := rfl
@[simp] theorem State.putI64_ports (s : State) (p : Pair) (v : Int) : (s.putI64 p v).ports = s.ports := rfl
@[simp] theorem State.putI64_fld (s : State) (p : Pair) (v : Int) : (s.putI64 p v).fld = s.fld := rfl
@[simp] theorem State.putI64_mot (s : State) (p : Pair) (v : Int) : (s.putI64 p v).mot = s.mot := rfl
@[simp] theorem State.putI64_due (s : State) (p : Pair) (v : Int) : (s.putI64 p v).due = s.due := rfl
@[simp] theorem State.putI64_cal (s : State) (p : Pair) (v : Int) : (s.putI64 p v).cal = s.cal := rfl
@[simp] theorem State.putI64_lanes (s : State) (p : Pair) (v : Int) : (s.putI64 p v).lanes = s.lanes := rfl
@[simp] theorem State.putI64_peers (s : State) (p : Pair) (v : Int) : (s.putI64 p v).peers = s.peers := rfl
@[simp] theorem State.putI64_cams (s : State) (p : Pair) (v : Int) : (s.putI64 p v).cams = s.cams := rfl
@[simp] theorem State.putI64_ins (s : State) (p : Pair) (v : Int) : (s.putI64 p v).ins = s.ins := rfl
@[simp] theorem State.putI64_zip (s : State) (p : Pair) (v : Int) : (s.putI64 p v).zip = s.zip := rfl
@[simp] theorem State.putI64_dram (s : State) (p : Pair) (v : Int) : (s.putI64 p v).dram = s.dram := rfl
@[simp] theorem State.putI64_tap (s : State) (p : Pair) (v : Int) : (s.putI64 p v).tap = s.tap := rfl
@[simp] theorem State.putI64_posted (s : State) (p : Pair) (v : Int) : (s.putI64 p v).posted = s.posted := rfl
@[simp] theorem State.putI64_free (s : State) (p : Pair) (v : Int) : (s.putI64 p v).free = s.free := rfl
@[simp] theorem State.putI64_out (s : State) (p : Pair) (v : Int) : (s.putI64 p v).out = s.out := rfl
@[simp] theorem State.putI64_pending (s : State) (p : Pair) (v : Int) : (s.putI64 p v).pending = s.pending := rfl

/-! ### `State.setByte` -/

@[simp] theorem State.setByte_regs (s : State) (a : Nat) (b : Byte) : (s.setByte a b).regs = s.regs := rfl
@[simp] theorem State.setByte_mem (s : State) (a : Nat) (b : Byte) : (s.setByte a b).mem = Sparse.put Memory.unlisted s.mem a b := rfl
@[simp] theorem State.setByte_now (s : State) (a : Nat) (b : Byte) : (s.setByte a b).now = s.now := rfl
@[simp] theorem State.setByte_fresh (s : State) (a : Nat) (b : Byte) : (s.setByte a b).fresh = s.fresh := rfl
@[simp] theorem State.setByte_tally (s : State) (a : Nat) (b : Byte) : (s.setByte a b).tally = s.tally := rfl
@[simp] theorem State.setByte_host (s : State) (a : Nat) (b : Byte) : (s.setByte a b).host = s.host := rfl
@[simp] theorem State.setByte_err (s : State) (a : Nat) (b : Byte) : (s.setByte a b).err = s.err := rfl
@[simp] theorem State.setByte_pwr (s : State) (a : Nat) (b : Byte) : (s.setByte a b).pwr = s.pwr := rfl
@[simp] theorem State.setByte_tb (s : State) (a : Nat) (b : Byte) : (s.setByte a b).tb = s.tb := rfl
@[simp] theorem State.setByte_job (s : State) (a : Nat) (b : Byte) : (s.setByte a b).job = s.job := rfl
@[simp] theorem State.setByte_eng (s : State) (a : Nat) (b : Byte) : (s.setByte a b).eng = s.eng := rfl
@[simp] theorem State.setByte_smp (s : State) (a : Nat) (b : Byte) : (s.setByte a b).smp = s.smp := rfl
@[simp] theorem State.setByte_rows (s : State) (a : Nat) (b : Byte) : (s.setByte a b).rows = s.rows := rfl
@[simp] theorem State.setByte_ports (s : State) (a : Nat) (b : Byte) : (s.setByte a b).ports = s.ports := rfl
@[simp] theorem State.setByte_fld (s : State) (a : Nat) (b : Byte) : (s.setByte a b).fld = s.fld := rfl
@[simp] theorem State.setByte_mot (s : State) (a : Nat) (b : Byte) : (s.setByte a b).mot = s.mot := rfl
@[simp] theorem State.setByte_due (s : State) (a : Nat) (b : Byte) : (s.setByte a b).due = s.due := rfl
@[simp] theorem State.setByte_cal (s : State) (a : Nat) (b : Byte) : (s.setByte a b).cal = s.cal := rfl
@[simp] theorem State.setByte_lanes (s : State) (a : Nat) (b : Byte) : (s.setByte a b).lanes = s.lanes := rfl
@[simp] theorem State.setByte_peers (s : State) (a : Nat) (b : Byte) : (s.setByte a b).peers = s.peers := rfl
@[simp] theorem State.setByte_cams (s : State) (a : Nat) (b : Byte) : (s.setByte a b).cams = s.cams := rfl
@[simp] theorem State.setByte_ins (s : State) (a : Nat) (b : Byte) : (s.setByte a b).ins = s.ins := rfl
@[simp] theorem State.setByte_zip (s : State) (a : Nat) (b : Byte) : (s.setByte a b).zip = s.zip := rfl
@[simp] theorem State.setByte_dram (s : State) (a : Nat) (b : Byte) : (s.setByte a b).dram = s.dram := rfl
@[simp] theorem State.setByte_tap (s : State) (a : Nat) (b : Byte) : (s.setByte a b).tap = s.tap := rfl
@[simp] theorem State.setByte_posted (s : State) (a : Nat) (b : Byte) : (s.setByte a b).posted = s.posted := rfl
@[simp] theorem State.setByte_free (s : State) (a : Nat) (b : Byte) : (s.setByte a b).free = s.free := rfl
@[simp] theorem State.setByte_out (s : State) (a : Nat) (b : Byte) : (s.setByte a b).out = s.out := rfl
@[simp] theorem State.setByte_pending (s : State) (a : Nat) (b : Byte) : (s.setByte a b).pending = s.pending := rfl

/-! ### `State.send` -/

@[simp] theorem State.send_regs (s : State) (o : Out) : (s.send o).regs = s.regs := rfl
@[simp] theorem State.send_mem (s : State) (o : Out) : (s.send o).mem = s.mem := rfl
@[simp] theorem State.send_now (s : State) (o : Out) : (s.send o).now = s.now := rfl
@[simp] theorem State.send_fresh (s : State) (o : Out) : (s.send o).fresh = s.fresh := rfl
@[simp] theorem State.send_tally (s : State) (o : Out) : (s.send o).tally = s.tally := rfl
@[simp] theorem State.send_host (s : State) (o : Out) : (s.send o).host = s.host := rfl
@[simp] theorem State.send_err (s : State) (o : Out) : (s.send o).err = s.err := rfl
@[simp] theorem State.send_pwr (s : State) (o : Out) : (s.send o).pwr = s.pwr := rfl
@[simp] theorem State.send_tb (s : State) (o : Out) : (s.send o).tb = s.tb := rfl
@[simp] theorem State.send_job (s : State) (o : Out) : (s.send o).job = s.job := rfl
@[simp] theorem State.send_eng (s : State) (o : Out) : (s.send o).eng = s.eng := rfl
@[simp] theorem State.send_smp (s : State) (o : Out) : (s.send o).smp = s.smp := rfl
@[simp] theorem State.send_rows (s : State) (o : Out) : (s.send o).rows = s.rows := rfl
@[simp] theorem State.send_ports (s : State) (o : Out) : (s.send o).ports = s.ports := rfl
@[simp] theorem State.send_fld (s : State) (o : Out) : (s.send o).fld = s.fld := rfl
@[simp] theorem State.send_mot (s : State) (o : Out) : (s.send o).mot = s.mot := rfl
@[simp] theorem State.send_due (s : State) (o : Out) : (s.send o).due = s.due := rfl
@[simp] theorem State.send_cal (s : State) (o : Out) : (s.send o).cal = s.cal := rfl
@[simp] theorem State.send_lanes (s : State) (o : Out) : (s.send o).lanes = s.lanes := rfl
@[simp] theorem State.send_peers (s : State) (o : Out) : (s.send o).peers = s.peers := rfl
@[simp] theorem State.send_cams (s : State) (o : Out) : (s.send o).cams = s.cams := rfl
@[simp] theorem State.send_ins (s : State) (o : Out) : (s.send o).ins = s.ins := rfl
@[simp] theorem State.send_zip (s : State) (o : Out) : (s.send o).zip = s.zip := rfl
@[simp] theorem State.send_dram (s : State) (o : Out) : (s.send o).dram = s.dram := rfl
@[simp] theorem State.send_tap (s : State) (o : Out) : (s.send o).tap = s.tap := rfl
@[simp] theorem State.send_posted (s : State) (o : Out) : (s.send o).posted = s.posted := rfl
@[simp] theorem State.send_free (s : State) (o : Out) : (s.send o).free = s.free := rfl
@[simp] theorem State.send_out (s : State) (o : Out) : (s.send o).out = o :: s.out := rfl
@[simp] theorem State.send_pending (s : State) (o : Out) : (s.send o).pending = s.pending := rfl

/-! ### `State.drawn` -/

@[simp] theorem State.drawn_regs (s : State) : s.drawn.regs = s.regs := rfl
@[simp] theorem State.drawn_mem (s : State) : s.drawn.mem = s.mem := rfl
@[simp] theorem State.drawn_now (s : State) : s.drawn.now = s.now := rfl
@[simp] theorem State.drawn_fresh (s : State) : s.drawn.fresh = s.fresh := rfl
@[simp] theorem State.drawn_tally (s : State) : s.drawn.tally = s.tally := rfl
@[simp] theorem State.drawn_host (s : State) : s.drawn.host = s.host := rfl
@[simp] theorem State.drawn_err (s : State) : s.drawn.err = s.err := rfl
@[simp] theorem State.drawn_pwr (s : State) : s.drawn.pwr = s.pwr := rfl
@[simp] theorem State.drawn_tb (s : State) : s.drawn.tb = s.tb := rfl
@[simp] theorem State.drawn_job (s : State) : s.drawn.job = s.job := rfl
@[simp] theorem State.drawn_eng (s : State) : s.drawn.eng = s.eng := rfl
@[simp] theorem State.drawn_smp (s : State) : s.drawn.smp = s.smp := rfl
@[simp] theorem State.drawn_rows (s : State) : s.drawn.rows = s.rows := rfl
@[simp] theorem State.drawn_ports (s : State) : s.drawn.ports = s.ports := rfl
@[simp] theorem State.drawn_fld (s : State) : s.drawn.fld = s.fld := rfl
@[simp] theorem State.drawn_mot (s : State) : s.drawn.mot = s.mot := rfl
@[simp] theorem State.drawn_due (s : State) : s.drawn.due = s.due := rfl
@[simp] theorem State.drawn_cal (s : State) : s.drawn.cal = s.cal := rfl
@[simp] theorem State.drawn_lanes (s : State) : s.drawn.lanes = s.lanes := rfl
@[simp] theorem State.drawn_peers (s : State) : s.drawn.peers = s.peers := rfl
@[simp] theorem State.drawn_cams (s : State) : s.drawn.cams = s.cams := rfl
@[simp] theorem State.drawn_ins (s : State) : s.drawn.ins = s.ins := rfl
@[simp] theorem State.drawn_zip (s : State) : s.drawn.zip = s.zip := rfl
@[simp] theorem State.drawn_dram (s : State) : s.drawn.dram = s.dram := rfl
@[simp] theorem State.drawn_tap (s : State) : s.drawn.tap = s.tap := rfl
@[simp] theorem State.drawn_posted (s : State) : s.drawn.posted = s.posted := rfl
@[simp] theorem State.drawn_free (s : State) : s.drawn.free = s.free + 1 := rfl
@[simp] theorem State.drawn_out (s : State) : s.drawn.out = s.out := rfl
@[simp] theorem State.drawn_pending (s : State) : s.drawn.pending = s.pending := rfl

/-! ### `State.setHost` -/

@[simp] theorem State.setHost_regs (s : State) (f : HostSt → HostSt) : (s.setHost f).regs = s.regs := rfl
@[simp] theorem State.setHost_mem (s : State) (f : HostSt → HostSt) : (s.setHost f).mem = s.mem := rfl
@[simp] theorem State.setHost_now (s : State) (f : HostSt → HostSt) : (s.setHost f).now = s.now := rfl
@[simp] theorem State.setHost_fresh (s : State) (f : HostSt → HostSt) : (s.setHost f).fresh = s.fresh := rfl
@[simp] theorem State.setHost_tally (s : State) (f : HostSt → HostSt) : (s.setHost f).tally = s.tally := rfl
@[simp] theorem State.setHost_host (s : State) (f : HostSt → HostSt) : (s.setHost f).host = f s.host := rfl
@[simp] theorem State.setHost_err (s : State) (f : HostSt → HostSt) : (s.setHost f).err = s.err := rfl
@[simp] theorem State.setHost_pwr (s : State) (f : HostSt → HostSt) : (s.setHost f).pwr = s.pwr := rfl
@[simp] theorem State.setHost_tb (s : State) (f : HostSt → HostSt) : (s.setHost f).tb = s.tb := rfl
@[simp] theorem State.setHost_job (s : State) (f : HostSt → HostSt) : (s.setHost f).job = s.job := rfl
@[simp] theorem State.setHost_eng (s : State) (f : HostSt → HostSt) : (s.setHost f).eng = s.eng := rfl
@[simp] theorem State.setHost_smp (s : State) (f : HostSt → HostSt) : (s.setHost f).smp = s.smp := rfl
@[simp] theorem State.setHost_rows (s : State) (f : HostSt → HostSt) : (s.setHost f).rows = s.rows := rfl
@[simp] theorem State.setHost_ports (s : State) (f : HostSt → HostSt) : (s.setHost f).ports = s.ports := rfl
@[simp] theorem State.setHost_fld (s : State) (f : HostSt → HostSt) : (s.setHost f).fld = s.fld := rfl
@[simp] theorem State.setHost_mot (s : State) (f : HostSt → HostSt) : (s.setHost f).mot = s.mot := rfl
@[simp] theorem State.setHost_due (s : State) (f : HostSt → HostSt) : (s.setHost f).due = s.due := rfl
@[simp] theorem State.setHost_cal (s : State) (f : HostSt → HostSt) : (s.setHost f).cal = s.cal := rfl
@[simp] theorem State.setHost_lanes (s : State) (f : HostSt → HostSt) : (s.setHost f).lanes = s.lanes := rfl
@[simp] theorem State.setHost_peers (s : State) (f : HostSt → HostSt) : (s.setHost f).peers = s.peers := rfl
@[simp] theorem State.setHost_cams (s : State) (f : HostSt → HostSt) : (s.setHost f).cams = s.cams := rfl
@[simp] theorem State.setHost_ins (s : State) (f : HostSt → HostSt) : (s.setHost f).ins = s.ins := rfl
@[simp] theorem State.setHost_zip (s : State) (f : HostSt → HostSt) : (s.setHost f).zip = s.zip := rfl
@[simp] theorem State.setHost_dram (s : State) (f : HostSt → HostSt) : (s.setHost f).dram = s.dram := rfl
@[simp] theorem State.setHost_tap (s : State) (f : HostSt → HostSt) : (s.setHost f).tap = s.tap := rfl
@[simp] theorem State.setHost_posted (s : State) (f : HostSt → HostSt) : (s.setHost f).posted = s.posted := rfl
@[simp] theorem State.setHost_free (s : State) (f : HostSt → HostSt) : (s.setHost f).free = s.free := rfl
@[simp] theorem State.setHost_out (s : State) (f : HostSt → HostSt) : (s.setHost f).out = s.out := rfl
@[simp] theorem State.setHost_pending (s : State) (f : HostSt → HostSt) : (s.setHost f).pending = s.pending := rfl

/-! ### `State.setErr` -/

@[simp] theorem State.setErr_regs (s : State) (f : ErrSt → ErrSt) : (s.setErr f).regs = s.regs := rfl
@[simp] theorem State.setErr_mem (s : State) (f : ErrSt → ErrSt) : (s.setErr f).mem = s.mem := rfl
@[simp] theorem State.setErr_now (s : State) (f : ErrSt → ErrSt) : (s.setErr f).now = s.now := rfl
@[simp] theorem State.setErr_fresh (s : State) (f : ErrSt → ErrSt) : (s.setErr f).fresh = s.fresh := rfl
@[simp] theorem State.setErr_tally (s : State) (f : ErrSt → ErrSt) : (s.setErr f).tally = s.tally := rfl
@[simp] theorem State.setErr_host (s : State) (f : ErrSt → ErrSt) : (s.setErr f).host = s.host := rfl
@[simp] theorem State.setErr_err (s : State) (f : ErrSt → ErrSt) : (s.setErr f).err = f s.err := rfl
@[simp] theorem State.setErr_pwr (s : State) (f : ErrSt → ErrSt) : (s.setErr f).pwr = s.pwr := rfl
@[simp] theorem State.setErr_tb (s : State) (f : ErrSt → ErrSt) : (s.setErr f).tb = s.tb := rfl
@[simp] theorem State.setErr_job (s : State) (f : ErrSt → ErrSt) : (s.setErr f).job = s.job := rfl
@[simp] theorem State.setErr_eng (s : State) (f : ErrSt → ErrSt) : (s.setErr f).eng = s.eng := rfl
@[simp] theorem State.setErr_smp (s : State) (f : ErrSt → ErrSt) : (s.setErr f).smp = s.smp := rfl
@[simp] theorem State.setErr_rows (s : State) (f : ErrSt → ErrSt) : (s.setErr f).rows = s.rows := rfl
@[simp] theorem State.setErr_ports (s : State) (f : ErrSt → ErrSt) : (s.setErr f).ports = s.ports := rfl
@[simp] theorem State.setErr_fld (s : State) (f : ErrSt → ErrSt) : (s.setErr f).fld = s.fld := rfl
@[simp] theorem State.setErr_mot (s : State) (f : ErrSt → ErrSt) : (s.setErr f).mot = s.mot := rfl
@[simp] theorem State.setErr_due (s : State) (f : ErrSt → ErrSt) : (s.setErr f).due = s.due := rfl
@[simp] theorem State.setErr_cal (s : State) (f : ErrSt → ErrSt) : (s.setErr f).cal = s.cal := rfl
@[simp] theorem State.setErr_lanes (s : State) (f : ErrSt → ErrSt) : (s.setErr f).lanes = s.lanes := rfl
@[simp] theorem State.setErr_peers (s : State) (f : ErrSt → ErrSt) : (s.setErr f).peers = s.peers := rfl
@[simp] theorem State.setErr_cams (s : State) (f : ErrSt → ErrSt) : (s.setErr f).cams = s.cams := rfl
@[simp] theorem State.setErr_ins (s : State) (f : ErrSt → ErrSt) : (s.setErr f).ins = s.ins := rfl
@[simp] theorem State.setErr_zip (s : State) (f : ErrSt → ErrSt) : (s.setErr f).zip = s.zip := rfl
@[simp] theorem State.setErr_dram (s : State) (f : ErrSt → ErrSt) : (s.setErr f).dram = s.dram := rfl
@[simp] theorem State.setErr_tap (s : State) (f : ErrSt → ErrSt) : (s.setErr f).tap = s.tap := rfl
@[simp] theorem State.setErr_posted (s : State) (f : ErrSt → ErrSt) : (s.setErr f).posted = s.posted := rfl
@[simp] theorem State.setErr_free (s : State) (f : ErrSt → ErrSt) : (s.setErr f).free = s.free := rfl
@[simp] theorem State.setErr_out (s : State) (f : ErrSt → ErrSt) : (s.setErr f).out = s.out := rfl
@[simp] theorem State.setErr_pending (s : State) (f : ErrSt → ErrSt) : (s.setErr f).pending = s.pending := rfl

/-! ### `State.setPwr` -/

@[simp] theorem State.setPwr_regs (s : State) (f : PwrSt → PwrSt) : (s.setPwr f).regs = s.regs := rfl
@[simp] theorem State.setPwr_mem (s : State) (f : PwrSt → PwrSt) : (s.setPwr f).mem = s.mem := rfl
@[simp] theorem State.setPwr_now (s : State) (f : PwrSt → PwrSt) : (s.setPwr f).now = s.now := rfl
@[simp] theorem State.setPwr_fresh (s : State) (f : PwrSt → PwrSt) : (s.setPwr f).fresh = s.fresh := rfl
@[simp] theorem State.setPwr_tally (s : State) (f : PwrSt → PwrSt) : (s.setPwr f).tally = s.tally := rfl
@[simp] theorem State.setPwr_host (s : State) (f : PwrSt → PwrSt) : (s.setPwr f).host = s.host := rfl
@[simp] theorem State.setPwr_err (s : State) (f : PwrSt → PwrSt) : (s.setPwr f).err = s.err := rfl
@[simp] theorem State.setPwr_pwr (s : State) (f : PwrSt → PwrSt) : (s.setPwr f).pwr = f s.pwr := rfl
@[simp] theorem State.setPwr_tb (s : State) (f : PwrSt → PwrSt) : (s.setPwr f).tb = s.tb := rfl
@[simp] theorem State.setPwr_job (s : State) (f : PwrSt → PwrSt) : (s.setPwr f).job = s.job := rfl
@[simp] theorem State.setPwr_eng (s : State) (f : PwrSt → PwrSt) : (s.setPwr f).eng = s.eng := rfl
@[simp] theorem State.setPwr_smp (s : State) (f : PwrSt → PwrSt) : (s.setPwr f).smp = s.smp := rfl
@[simp] theorem State.setPwr_rows (s : State) (f : PwrSt → PwrSt) : (s.setPwr f).rows = s.rows := rfl
@[simp] theorem State.setPwr_ports (s : State) (f : PwrSt → PwrSt) : (s.setPwr f).ports = s.ports := rfl
@[simp] theorem State.setPwr_fld (s : State) (f : PwrSt → PwrSt) : (s.setPwr f).fld = s.fld := rfl
@[simp] theorem State.setPwr_mot (s : State) (f : PwrSt → PwrSt) : (s.setPwr f).mot = s.mot := rfl
@[simp] theorem State.setPwr_due (s : State) (f : PwrSt → PwrSt) : (s.setPwr f).due = s.due := rfl
@[simp] theorem State.setPwr_cal (s : State) (f : PwrSt → PwrSt) : (s.setPwr f).cal = s.cal := rfl
@[simp] theorem State.setPwr_lanes (s : State) (f : PwrSt → PwrSt) : (s.setPwr f).lanes = s.lanes := rfl
@[simp] theorem State.setPwr_peers (s : State) (f : PwrSt → PwrSt) : (s.setPwr f).peers = s.peers := rfl
@[simp] theorem State.setPwr_cams (s : State) (f : PwrSt → PwrSt) : (s.setPwr f).cams = s.cams := rfl
@[simp] theorem State.setPwr_ins (s : State) (f : PwrSt → PwrSt) : (s.setPwr f).ins = s.ins := rfl
@[simp] theorem State.setPwr_zip (s : State) (f : PwrSt → PwrSt) : (s.setPwr f).zip = s.zip := rfl
@[simp] theorem State.setPwr_dram (s : State) (f : PwrSt → PwrSt) : (s.setPwr f).dram = s.dram := rfl
@[simp] theorem State.setPwr_tap (s : State) (f : PwrSt → PwrSt) : (s.setPwr f).tap = s.tap := rfl
@[simp] theorem State.setPwr_posted (s : State) (f : PwrSt → PwrSt) : (s.setPwr f).posted = s.posted := rfl
@[simp] theorem State.setPwr_free (s : State) (f : PwrSt → PwrSt) : (s.setPwr f).free = s.free := rfl
@[simp] theorem State.setPwr_out (s : State) (f : PwrSt → PwrSt) : (s.setPwr f).out = s.out := rfl
@[simp] theorem State.setPwr_pending (s : State) (f : PwrSt → PwrSt) : (s.setPwr f).pending = s.pending := rfl

/-! ### `State.setTb` -/

@[simp] theorem State.setTb_regs (s : State) (f : TbSt → TbSt) : (s.setTb f).regs = s.regs := rfl
@[simp] theorem State.setTb_mem (s : State) (f : TbSt → TbSt) : (s.setTb f).mem = s.mem := rfl
@[simp] theorem State.setTb_now (s : State) (f : TbSt → TbSt) : (s.setTb f).now = s.now := rfl
@[simp] theorem State.setTb_fresh (s : State) (f : TbSt → TbSt) : (s.setTb f).fresh = s.fresh := rfl
@[simp] theorem State.setTb_tally (s : State) (f : TbSt → TbSt) : (s.setTb f).tally = s.tally := rfl
@[simp] theorem State.setTb_host (s : State) (f : TbSt → TbSt) : (s.setTb f).host = s.host := rfl
@[simp] theorem State.setTb_err (s : State) (f : TbSt → TbSt) : (s.setTb f).err = s.err := rfl
@[simp] theorem State.setTb_pwr (s : State) (f : TbSt → TbSt) : (s.setTb f).pwr = s.pwr := rfl
@[simp] theorem State.setTb_tb (s : State) (f : TbSt → TbSt) : (s.setTb f).tb = f s.tb := rfl
@[simp] theorem State.setTb_job (s : State) (f : TbSt → TbSt) : (s.setTb f).job = s.job := rfl
@[simp] theorem State.setTb_eng (s : State) (f : TbSt → TbSt) : (s.setTb f).eng = s.eng := rfl
@[simp] theorem State.setTb_smp (s : State) (f : TbSt → TbSt) : (s.setTb f).smp = s.smp := rfl
@[simp] theorem State.setTb_rows (s : State) (f : TbSt → TbSt) : (s.setTb f).rows = s.rows := rfl
@[simp] theorem State.setTb_ports (s : State) (f : TbSt → TbSt) : (s.setTb f).ports = s.ports := rfl
@[simp] theorem State.setTb_fld (s : State) (f : TbSt → TbSt) : (s.setTb f).fld = s.fld := rfl
@[simp] theorem State.setTb_mot (s : State) (f : TbSt → TbSt) : (s.setTb f).mot = s.mot := rfl
@[simp] theorem State.setTb_due (s : State) (f : TbSt → TbSt) : (s.setTb f).due = s.due := rfl
@[simp] theorem State.setTb_cal (s : State) (f : TbSt → TbSt) : (s.setTb f).cal = s.cal := rfl
@[simp] theorem State.setTb_lanes (s : State) (f : TbSt → TbSt) : (s.setTb f).lanes = s.lanes := rfl
@[simp] theorem State.setTb_peers (s : State) (f : TbSt → TbSt) : (s.setTb f).peers = s.peers := rfl
@[simp] theorem State.setTb_cams (s : State) (f : TbSt → TbSt) : (s.setTb f).cams = s.cams := rfl
@[simp] theorem State.setTb_ins (s : State) (f : TbSt → TbSt) : (s.setTb f).ins = s.ins := rfl
@[simp] theorem State.setTb_zip (s : State) (f : TbSt → TbSt) : (s.setTb f).zip = s.zip := rfl
@[simp] theorem State.setTb_dram (s : State) (f : TbSt → TbSt) : (s.setTb f).dram = s.dram := rfl
@[simp] theorem State.setTb_tap (s : State) (f : TbSt → TbSt) : (s.setTb f).tap = s.tap := rfl
@[simp] theorem State.setTb_posted (s : State) (f : TbSt → TbSt) : (s.setTb f).posted = s.posted := rfl
@[simp] theorem State.setTb_free (s : State) (f : TbSt → TbSt) : (s.setTb f).free = s.free := rfl
@[simp] theorem State.setTb_out (s : State) (f : TbSt → TbSt) : (s.setTb f).out = s.out := rfl
@[simp] theorem State.setTb_pending (s : State) (f : TbSt → TbSt) : (s.setTb f).pending = s.pending := rfl

/-! ### `State.setJobs` -/

@[simp] theorem State.setJobs_regs (s : State) (f : JobSt → JobSt) : (s.setJobs f).regs = s.regs := rfl
@[simp] theorem State.setJobs_mem (s : State) (f : JobSt → JobSt) : (s.setJobs f).mem = s.mem := rfl
@[simp] theorem State.setJobs_now (s : State) (f : JobSt → JobSt) : (s.setJobs f).now = s.now := rfl
@[simp] theorem State.setJobs_fresh (s : State) (f : JobSt → JobSt) : (s.setJobs f).fresh = s.fresh := rfl
@[simp] theorem State.setJobs_tally (s : State) (f : JobSt → JobSt) : (s.setJobs f).tally = s.tally := rfl
@[simp] theorem State.setJobs_host (s : State) (f : JobSt → JobSt) : (s.setJobs f).host = s.host := rfl
@[simp] theorem State.setJobs_err (s : State) (f : JobSt → JobSt) : (s.setJobs f).err = s.err := rfl
@[simp] theorem State.setJobs_pwr (s : State) (f : JobSt → JobSt) : (s.setJobs f).pwr = s.pwr := rfl
@[simp] theorem State.setJobs_tb (s : State) (f : JobSt → JobSt) : (s.setJobs f).tb = s.tb := rfl
@[simp] theorem State.setJobs_job (s : State) (f : JobSt → JobSt) : (s.setJobs f).job = f s.job := rfl
@[simp] theorem State.setJobs_eng (s : State) (f : JobSt → JobSt) : (s.setJobs f).eng = s.eng := rfl
@[simp] theorem State.setJobs_smp (s : State) (f : JobSt → JobSt) : (s.setJobs f).smp = s.smp := rfl
@[simp] theorem State.setJobs_rows (s : State) (f : JobSt → JobSt) : (s.setJobs f).rows = s.rows := rfl
@[simp] theorem State.setJobs_ports (s : State) (f : JobSt → JobSt) : (s.setJobs f).ports = s.ports := rfl
@[simp] theorem State.setJobs_fld (s : State) (f : JobSt → JobSt) : (s.setJobs f).fld = s.fld := rfl
@[simp] theorem State.setJobs_mot (s : State) (f : JobSt → JobSt) : (s.setJobs f).mot = s.mot := rfl
@[simp] theorem State.setJobs_due (s : State) (f : JobSt → JobSt) : (s.setJobs f).due = s.due := rfl
@[simp] theorem State.setJobs_cal (s : State) (f : JobSt → JobSt) : (s.setJobs f).cal = s.cal := rfl
@[simp] theorem State.setJobs_lanes (s : State) (f : JobSt → JobSt) : (s.setJobs f).lanes = s.lanes := rfl
@[simp] theorem State.setJobs_peers (s : State) (f : JobSt → JobSt) : (s.setJobs f).peers = s.peers := rfl
@[simp] theorem State.setJobs_cams (s : State) (f : JobSt → JobSt) : (s.setJobs f).cams = s.cams := rfl
@[simp] theorem State.setJobs_ins (s : State) (f : JobSt → JobSt) : (s.setJobs f).ins = s.ins := rfl
@[simp] theorem State.setJobs_zip (s : State) (f : JobSt → JobSt) : (s.setJobs f).zip = s.zip := rfl
@[simp] theorem State.setJobs_dram (s : State) (f : JobSt → JobSt) : (s.setJobs f).dram = s.dram := rfl
@[simp] theorem State.setJobs_tap (s : State) (f : JobSt → JobSt) : (s.setJobs f).tap = s.tap := rfl
@[simp] theorem State.setJobs_posted (s : State) (f : JobSt → JobSt) : (s.setJobs f).posted = s.posted := rfl
@[simp] theorem State.setJobs_free (s : State) (f : JobSt → JobSt) : (s.setJobs f).free = s.free := rfl
@[simp] theorem State.setJobs_out (s : State) (f : JobSt → JobSt) : (s.setJobs f).out = s.out := rfl
@[simp] theorem State.setJobs_pending (s : State) (f : JobSt → JobSt) : (s.setJobs f).pending = s.pending := rfl

/-! ### `State.setEng` -/

@[simp] theorem State.setEng_regs (s : State) (f : EngSt → EngSt) : (s.setEng f).regs = s.regs := rfl
@[simp] theorem State.setEng_mem (s : State) (f : EngSt → EngSt) : (s.setEng f).mem = s.mem := rfl
@[simp] theorem State.setEng_now (s : State) (f : EngSt → EngSt) : (s.setEng f).now = s.now := rfl
@[simp] theorem State.setEng_fresh (s : State) (f : EngSt → EngSt) : (s.setEng f).fresh = s.fresh := rfl
@[simp] theorem State.setEng_tally (s : State) (f : EngSt → EngSt) : (s.setEng f).tally = s.tally := rfl
@[simp] theorem State.setEng_host (s : State) (f : EngSt → EngSt) : (s.setEng f).host = s.host := rfl
@[simp] theorem State.setEng_err (s : State) (f : EngSt → EngSt) : (s.setEng f).err = s.err := rfl
@[simp] theorem State.setEng_pwr (s : State) (f : EngSt → EngSt) : (s.setEng f).pwr = s.pwr := rfl
@[simp] theorem State.setEng_tb (s : State) (f : EngSt → EngSt) : (s.setEng f).tb = s.tb := rfl
@[simp] theorem State.setEng_job (s : State) (f : EngSt → EngSt) : (s.setEng f).job = s.job := rfl
@[simp] theorem State.setEng_eng (s : State) (f : EngSt → EngSt) : (s.setEng f).eng = f s.eng := rfl
@[simp] theorem State.setEng_smp (s : State) (f : EngSt → EngSt) : (s.setEng f).smp = s.smp := rfl
@[simp] theorem State.setEng_rows (s : State) (f : EngSt → EngSt) : (s.setEng f).rows = s.rows := rfl
@[simp] theorem State.setEng_ports (s : State) (f : EngSt → EngSt) : (s.setEng f).ports = s.ports := rfl
@[simp] theorem State.setEng_fld (s : State) (f : EngSt → EngSt) : (s.setEng f).fld = s.fld := rfl
@[simp] theorem State.setEng_mot (s : State) (f : EngSt → EngSt) : (s.setEng f).mot = s.mot := rfl
@[simp] theorem State.setEng_due (s : State) (f : EngSt → EngSt) : (s.setEng f).due = s.due := rfl
@[simp] theorem State.setEng_cal (s : State) (f : EngSt → EngSt) : (s.setEng f).cal = s.cal := rfl
@[simp] theorem State.setEng_lanes (s : State) (f : EngSt → EngSt) : (s.setEng f).lanes = s.lanes := rfl
@[simp] theorem State.setEng_peers (s : State) (f : EngSt → EngSt) : (s.setEng f).peers = s.peers := rfl
@[simp] theorem State.setEng_cams (s : State) (f : EngSt → EngSt) : (s.setEng f).cams = s.cams := rfl
@[simp] theorem State.setEng_ins (s : State) (f : EngSt → EngSt) : (s.setEng f).ins = s.ins := rfl
@[simp] theorem State.setEng_zip (s : State) (f : EngSt → EngSt) : (s.setEng f).zip = s.zip := rfl
@[simp] theorem State.setEng_dram (s : State) (f : EngSt → EngSt) : (s.setEng f).dram = s.dram := rfl
@[simp] theorem State.setEng_tap (s : State) (f : EngSt → EngSt) : (s.setEng f).tap = s.tap := rfl
@[simp] theorem State.setEng_posted (s : State) (f : EngSt → EngSt) : (s.setEng f).posted = s.posted := rfl
@[simp] theorem State.setEng_free (s : State) (f : EngSt → EngSt) : (s.setEng f).free = s.free := rfl
@[simp] theorem State.setEng_out (s : State) (f : EngSt → EngSt) : (s.setEng f).out = s.out := rfl
@[simp] theorem State.setEng_pending (s : State) (f : EngSt → EngSt) : (s.setEng f).pending = s.pending := rfl

/-! ### `State.setSmp` -/

@[simp] theorem State.setSmp_regs (s : State) (f : SmpSt → SmpSt) : (s.setSmp f).regs = s.regs := rfl
@[simp] theorem State.setSmp_mem (s : State) (f : SmpSt → SmpSt) : (s.setSmp f).mem = s.mem := rfl
@[simp] theorem State.setSmp_now (s : State) (f : SmpSt → SmpSt) : (s.setSmp f).now = s.now := rfl
@[simp] theorem State.setSmp_fresh (s : State) (f : SmpSt → SmpSt) : (s.setSmp f).fresh = s.fresh := rfl
@[simp] theorem State.setSmp_tally (s : State) (f : SmpSt → SmpSt) : (s.setSmp f).tally = s.tally := rfl
@[simp] theorem State.setSmp_host (s : State) (f : SmpSt → SmpSt) : (s.setSmp f).host = s.host := rfl
@[simp] theorem State.setSmp_err (s : State) (f : SmpSt → SmpSt) : (s.setSmp f).err = s.err := rfl
@[simp] theorem State.setSmp_pwr (s : State) (f : SmpSt → SmpSt) : (s.setSmp f).pwr = s.pwr := rfl
@[simp] theorem State.setSmp_tb (s : State) (f : SmpSt → SmpSt) : (s.setSmp f).tb = s.tb := rfl
@[simp] theorem State.setSmp_job (s : State) (f : SmpSt → SmpSt) : (s.setSmp f).job = s.job := rfl
@[simp] theorem State.setSmp_eng (s : State) (f : SmpSt → SmpSt) : (s.setSmp f).eng = s.eng := rfl
@[simp] theorem State.setSmp_smp (s : State) (f : SmpSt → SmpSt) : (s.setSmp f).smp = f s.smp := rfl
@[simp] theorem State.setSmp_rows (s : State) (f : SmpSt → SmpSt) : (s.setSmp f).rows = s.rows := rfl
@[simp] theorem State.setSmp_ports (s : State) (f : SmpSt → SmpSt) : (s.setSmp f).ports = s.ports := rfl
@[simp] theorem State.setSmp_fld (s : State) (f : SmpSt → SmpSt) : (s.setSmp f).fld = s.fld := rfl
@[simp] theorem State.setSmp_mot (s : State) (f : SmpSt → SmpSt) : (s.setSmp f).mot = s.mot := rfl
@[simp] theorem State.setSmp_due (s : State) (f : SmpSt → SmpSt) : (s.setSmp f).due = s.due := rfl
@[simp] theorem State.setSmp_cal (s : State) (f : SmpSt → SmpSt) : (s.setSmp f).cal = s.cal := rfl
@[simp] theorem State.setSmp_lanes (s : State) (f : SmpSt → SmpSt) : (s.setSmp f).lanes = s.lanes := rfl
@[simp] theorem State.setSmp_peers (s : State) (f : SmpSt → SmpSt) : (s.setSmp f).peers = s.peers := rfl
@[simp] theorem State.setSmp_cams (s : State) (f : SmpSt → SmpSt) : (s.setSmp f).cams = s.cams := rfl
@[simp] theorem State.setSmp_ins (s : State) (f : SmpSt → SmpSt) : (s.setSmp f).ins = s.ins := rfl
@[simp] theorem State.setSmp_zip (s : State) (f : SmpSt → SmpSt) : (s.setSmp f).zip = s.zip := rfl
@[simp] theorem State.setSmp_dram (s : State) (f : SmpSt → SmpSt) : (s.setSmp f).dram = s.dram := rfl
@[simp] theorem State.setSmp_tap (s : State) (f : SmpSt → SmpSt) : (s.setSmp f).tap = s.tap := rfl
@[simp] theorem State.setSmp_posted (s : State) (f : SmpSt → SmpSt) : (s.setSmp f).posted = s.posted := rfl
@[simp] theorem State.setSmp_free (s : State) (f : SmpSt → SmpSt) : (s.setSmp f).free = s.free := rfl
@[simp] theorem State.setSmp_out (s : State) (f : SmpSt → SmpSt) : (s.setSmp f).out = s.out := rfl
@[simp] theorem State.setSmp_pending (s : State) (f : SmpSt → SmpSt) : (s.setSmp f).pending = s.pending := rfl

/-! ### `State.setRow` -/

@[simp] theorem State.setRow_regs (s : State) (k : Nat) (f : RowSt → RowSt) : (s.setRow k f).regs = s.regs := rfl
@[simp] theorem State.setRow_mem (s : State) (k : Nat) (f : RowSt → RowSt) : (s.setRow k f).mem = s.mem := rfl
@[simp] theorem State.setRow_now (s : State) (k : Nat) (f : RowSt → RowSt) : (s.setRow k f).now = s.now := rfl
@[simp] theorem State.setRow_fresh (s : State) (k : Nat) (f : RowSt → RowSt) : (s.setRow k f).fresh = s.fresh := rfl
@[simp] theorem State.setRow_tally (s : State) (k : Nat) (f : RowSt → RowSt) : (s.setRow k f).tally = s.tally := rfl
@[simp] theorem State.setRow_host (s : State) (k : Nat) (f : RowSt → RowSt) : (s.setRow k f).host = s.host := rfl
@[simp] theorem State.setRow_err (s : State) (k : Nat) (f : RowSt → RowSt) : (s.setRow k f).err = s.err := rfl
@[simp] theorem State.setRow_pwr (s : State) (k : Nat) (f : RowSt → RowSt) : (s.setRow k f).pwr = s.pwr := rfl
@[simp] theorem State.setRow_tb (s : State) (k : Nat) (f : RowSt → RowSt) : (s.setRow k f).tb = s.tb := rfl
@[simp] theorem State.setRow_job (s : State) (k : Nat) (f : RowSt → RowSt) : (s.setRow k f).job = s.job := rfl
@[simp] theorem State.setRow_eng (s : State) (k : Nat) (f : RowSt → RowSt) : (s.setRow k f).eng = s.eng := rfl
@[simp] theorem State.setRow_smp (s : State) (k : Nat) (f : RowSt → RowSt) : (s.setRow k f).smp = s.smp := rfl
@[simp] theorem State.setRow_ports (s : State) (k : Nat) (f : RowSt → RowSt) : (s.setRow k f).ports = s.ports := rfl
@[simp] theorem State.setRow_fld (s : State) (k : Nat) (f : RowSt → RowSt) : (s.setRow k f).fld = s.fld := rfl
@[simp] theorem State.setRow_mot (s : State) (k : Nat) (f : RowSt → RowSt) : (s.setRow k f).mot = s.mot := rfl
@[simp] theorem State.setRow_due (s : State) (k : Nat) (f : RowSt → RowSt) : (s.setRow k f).due = s.due := rfl
@[simp] theorem State.setRow_cal (s : State) (k : Nat) (f : RowSt → RowSt) : (s.setRow k f).cal = s.cal := rfl
@[simp] theorem State.setRow_lanes (s : State) (k : Nat) (f : RowSt → RowSt) : (s.setRow k f).lanes = s.lanes := rfl
@[simp] theorem State.setRow_peers (s : State) (k : Nat) (f : RowSt → RowSt) : (s.setRow k f).peers = s.peers := rfl
@[simp] theorem State.setRow_cams (s : State) (k : Nat) (f : RowSt → RowSt) : (s.setRow k f).cams = s.cams := rfl
@[simp] theorem State.setRow_ins (s : State) (k : Nat) (f : RowSt → RowSt) : (s.setRow k f).ins = s.ins := rfl
@[simp] theorem State.setRow_zip (s : State) (k : Nat) (f : RowSt → RowSt) : (s.setRow k f).zip = s.zip := rfl
@[simp] theorem State.setRow_dram (s : State) (k : Nat) (f : RowSt → RowSt) : (s.setRow k f).dram = s.dram := rfl
@[simp] theorem State.setRow_tap (s : State) (k : Nat) (f : RowSt → RowSt) : (s.setRow k f).tap = s.tap := rfl
@[simp] theorem State.setRow_posted (s : State) (k : Nat) (f : RowSt → RowSt) : (s.setRow k f).posted = s.posted := rfl
@[simp] theorem State.setRow_free (s : State) (k : Nat) (f : RowSt → RowSt) : (s.setRow k f).free = s.free := rfl
@[simp] theorem State.setRow_out (s : State) (k : Nat) (f : RowSt → RowSt) : (s.setRow k f).out = s.out := rfl
@[simp] theorem State.setRow_pending (s : State) (k : Nat) (f : RowSt → RowSt) : (s.setRow k f).pending = s.pending := rfl

/-! ### `State.setPort` -/

@[simp] theorem State.setPort_regs (s : State) (p : Nat) (f : PortSt → PortSt) : (s.setPort p f).regs = s.regs := rfl
@[simp] theorem State.setPort_mem (s : State) (p : Nat) (f : PortSt → PortSt) : (s.setPort p f).mem = s.mem := rfl
@[simp] theorem State.setPort_now (s : State) (p : Nat) (f : PortSt → PortSt) : (s.setPort p f).now = s.now := rfl
@[simp] theorem State.setPort_fresh (s : State) (p : Nat) (f : PortSt → PortSt) : (s.setPort p f).fresh = s.fresh := rfl
@[simp] theorem State.setPort_tally (s : State) (p : Nat) (f : PortSt → PortSt) : (s.setPort p f).tally = s.tally := rfl
@[simp] theorem State.setPort_host (s : State) (p : Nat) (f : PortSt → PortSt) : (s.setPort p f).host = s.host := rfl
@[simp] theorem State.setPort_err (s : State) (p : Nat) (f : PortSt → PortSt) : (s.setPort p f).err = s.err := rfl
@[simp] theorem State.setPort_pwr (s : State) (p : Nat) (f : PortSt → PortSt) : (s.setPort p f).pwr = s.pwr := rfl
@[simp] theorem State.setPort_tb (s : State) (p : Nat) (f : PortSt → PortSt) : (s.setPort p f).tb = s.tb := rfl
@[simp] theorem State.setPort_job (s : State) (p : Nat) (f : PortSt → PortSt) : (s.setPort p f).job = s.job := rfl
@[simp] theorem State.setPort_eng (s : State) (p : Nat) (f : PortSt → PortSt) : (s.setPort p f).eng = s.eng := rfl
@[simp] theorem State.setPort_smp (s : State) (p : Nat) (f : PortSt → PortSt) : (s.setPort p f).smp = s.smp := rfl
@[simp] theorem State.setPort_rows (s : State) (p : Nat) (f : PortSt → PortSt) : (s.setPort p f).rows = s.rows := rfl
@[simp] theorem State.setPort_fld (s : State) (p : Nat) (f : PortSt → PortSt) : (s.setPort p f).fld = s.fld := rfl
@[simp] theorem State.setPort_mot (s : State) (p : Nat) (f : PortSt → PortSt) : (s.setPort p f).mot = s.mot := rfl
@[simp] theorem State.setPort_due (s : State) (p : Nat) (f : PortSt → PortSt) : (s.setPort p f).due = s.due := rfl
@[simp] theorem State.setPort_cal (s : State) (p : Nat) (f : PortSt → PortSt) : (s.setPort p f).cal = s.cal := rfl
@[simp] theorem State.setPort_lanes (s : State) (p : Nat) (f : PortSt → PortSt) : (s.setPort p f).lanes = s.lanes := rfl
@[simp] theorem State.setPort_peers (s : State) (p : Nat) (f : PortSt → PortSt) : (s.setPort p f).peers = s.peers := rfl
@[simp] theorem State.setPort_cams (s : State) (p : Nat) (f : PortSt → PortSt) : (s.setPort p f).cams = s.cams := rfl
@[simp] theorem State.setPort_ins (s : State) (p : Nat) (f : PortSt → PortSt) : (s.setPort p f).ins = s.ins := rfl
@[simp] theorem State.setPort_zip (s : State) (p : Nat) (f : PortSt → PortSt) : (s.setPort p f).zip = s.zip := rfl
@[simp] theorem State.setPort_dram (s : State) (p : Nat) (f : PortSt → PortSt) : (s.setPort p f).dram = s.dram := rfl
@[simp] theorem State.setPort_tap (s : State) (p : Nat) (f : PortSt → PortSt) : (s.setPort p f).tap = s.tap := rfl
@[simp] theorem State.setPort_posted (s : State) (p : Nat) (f : PortSt → PortSt) : (s.setPort p f).posted = s.posted := rfl
@[simp] theorem State.setPort_free (s : State) (p : Nat) (f : PortSt → PortSt) : (s.setPort p f).free = s.free := rfl
@[simp] theorem State.setPort_out (s : State) (p : Nat) (f : PortSt → PortSt) : (s.setPort p f).out = s.out := rfl
@[simp] theorem State.setPort_pending (s : State) (p : Nat) (f : PortSt → PortSt) : (s.setPort p f).pending = s.pending := rfl

/-! ### `State.setFld` -/

@[simp] theorem State.setFld_regs (s : State) (f : FldSt → FldSt) : (s.setFld f).regs = s.regs := rfl
@[simp] theorem State.setFld_mem (s : State) (f : FldSt → FldSt) : (s.setFld f).mem = s.mem := rfl
@[simp] theorem State.setFld_now (s : State) (f : FldSt → FldSt) : (s.setFld f).now = s.now := rfl
@[simp] theorem State.setFld_fresh (s : State) (f : FldSt → FldSt) : (s.setFld f).fresh = s.fresh := rfl
@[simp] theorem State.setFld_tally (s : State) (f : FldSt → FldSt) : (s.setFld f).tally = s.tally := rfl
@[simp] theorem State.setFld_host (s : State) (f : FldSt → FldSt) : (s.setFld f).host = s.host := rfl
@[simp] theorem State.setFld_err (s : State) (f : FldSt → FldSt) : (s.setFld f).err = s.err := rfl
@[simp] theorem State.setFld_pwr (s : State) (f : FldSt → FldSt) : (s.setFld f).pwr = s.pwr := rfl
@[simp] theorem State.setFld_tb (s : State) (f : FldSt → FldSt) : (s.setFld f).tb = s.tb := rfl
@[simp] theorem State.setFld_job (s : State) (f : FldSt → FldSt) : (s.setFld f).job = s.job := rfl
@[simp] theorem State.setFld_eng (s : State) (f : FldSt → FldSt) : (s.setFld f).eng = s.eng := rfl
@[simp] theorem State.setFld_smp (s : State) (f : FldSt → FldSt) : (s.setFld f).smp = s.smp := rfl
@[simp] theorem State.setFld_rows (s : State) (f : FldSt → FldSt) : (s.setFld f).rows = s.rows := rfl
@[simp] theorem State.setFld_ports (s : State) (f : FldSt → FldSt) : (s.setFld f).ports = s.ports := rfl
@[simp] theorem State.setFld_fld (s : State) (f : FldSt → FldSt) : (s.setFld f).fld = f s.fld := rfl
@[simp] theorem State.setFld_mot (s : State) (f : FldSt → FldSt) : (s.setFld f).mot = s.mot := rfl
@[simp] theorem State.setFld_due (s : State) (f : FldSt → FldSt) : (s.setFld f).due = s.due := rfl
@[simp] theorem State.setFld_cal (s : State) (f : FldSt → FldSt) : (s.setFld f).cal = s.cal := rfl
@[simp] theorem State.setFld_lanes (s : State) (f : FldSt → FldSt) : (s.setFld f).lanes = s.lanes := rfl
@[simp] theorem State.setFld_peers (s : State) (f : FldSt → FldSt) : (s.setFld f).peers = s.peers := rfl
@[simp] theorem State.setFld_cams (s : State) (f : FldSt → FldSt) : (s.setFld f).cams = s.cams := rfl
@[simp] theorem State.setFld_ins (s : State) (f : FldSt → FldSt) : (s.setFld f).ins = s.ins := rfl
@[simp] theorem State.setFld_zip (s : State) (f : FldSt → FldSt) : (s.setFld f).zip = s.zip := rfl
@[simp] theorem State.setFld_dram (s : State) (f : FldSt → FldSt) : (s.setFld f).dram = s.dram := rfl
@[simp] theorem State.setFld_tap (s : State) (f : FldSt → FldSt) : (s.setFld f).tap = s.tap := rfl
@[simp] theorem State.setFld_posted (s : State) (f : FldSt → FldSt) : (s.setFld f).posted = s.posted := rfl
@[simp] theorem State.setFld_free (s : State) (f : FldSt → FldSt) : (s.setFld f).free = s.free := rfl
@[simp] theorem State.setFld_out (s : State) (f : FldSt → FldSt) : (s.setFld f).out = s.out := rfl
@[simp] theorem State.setFld_pending (s : State) (f : FldSt → FldSt) : (s.setFld f).pending = s.pending := rfl

/-! ### `State.setMot` -/

@[simp] theorem State.setMot_regs (s : State) (f : MotSt → MotSt) : (s.setMot f).regs = s.regs := rfl
@[simp] theorem State.setMot_mem (s : State) (f : MotSt → MotSt) : (s.setMot f).mem = s.mem := rfl
@[simp] theorem State.setMot_now (s : State) (f : MotSt → MotSt) : (s.setMot f).now = s.now := rfl
@[simp] theorem State.setMot_fresh (s : State) (f : MotSt → MotSt) : (s.setMot f).fresh = s.fresh := rfl
@[simp] theorem State.setMot_tally (s : State) (f : MotSt → MotSt) : (s.setMot f).tally = s.tally := rfl
@[simp] theorem State.setMot_host (s : State) (f : MotSt → MotSt) : (s.setMot f).host = s.host := rfl
@[simp] theorem State.setMot_err (s : State) (f : MotSt → MotSt) : (s.setMot f).err = s.err := rfl
@[simp] theorem State.setMot_pwr (s : State) (f : MotSt → MotSt) : (s.setMot f).pwr = s.pwr := rfl
@[simp] theorem State.setMot_tb (s : State) (f : MotSt → MotSt) : (s.setMot f).tb = s.tb := rfl
@[simp] theorem State.setMot_job (s : State) (f : MotSt → MotSt) : (s.setMot f).job = s.job := rfl
@[simp] theorem State.setMot_eng (s : State) (f : MotSt → MotSt) : (s.setMot f).eng = s.eng := rfl
@[simp] theorem State.setMot_smp (s : State) (f : MotSt → MotSt) : (s.setMot f).smp = s.smp := rfl
@[simp] theorem State.setMot_rows (s : State) (f : MotSt → MotSt) : (s.setMot f).rows = s.rows := rfl
@[simp] theorem State.setMot_ports (s : State) (f : MotSt → MotSt) : (s.setMot f).ports = s.ports := rfl
@[simp] theorem State.setMot_fld (s : State) (f : MotSt → MotSt) : (s.setMot f).fld = s.fld := rfl
@[simp] theorem State.setMot_mot (s : State) (f : MotSt → MotSt) : (s.setMot f).mot = f s.mot := rfl
@[simp] theorem State.setMot_due (s : State) (f : MotSt → MotSt) : (s.setMot f).due = s.due := rfl
@[simp] theorem State.setMot_cal (s : State) (f : MotSt → MotSt) : (s.setMot f).cal = s.cal := rfl
@[simp] theorem State.setMot_lanes (s : State) (f : MotSt → MotSt) : (s.setMot f).lanes = s.lanes := rfl
@[simp] theorem State.setMot_peers (s : State) (f : MotSt → MotSt) : (s.setMot f).peers = s.peers := rfl
@[simp] theorem State.setMot_cams (s : State) (f : MotSt → MotSt) : (s.setMot f).cams = s.cams := rfl
@[simp] theorem State.setMot_ins (s : State) (f : MotSt → MotSt) : (s.setMot f).ins = s.ins := rfl
@[simp] theorem State.setMot_zip (s : State) (f : MotSt → MotSt) : (s.setMot f).zip = s.zip := rfl
@[simp] theorem State.setMot_dram (s : State) (f : MotSt → MotSt) : (s.setMot f).dram = s.dram := rfl
@[simp] theorem State.setMot_tap (s : State) (f : MotSt → MotSt) : (s.setMot f).tap = s.tap := rfl
@[simp] theorem State.setMot_posted (s : State) (f : MotSt → MotSt) : (s.setMot f).posted = s.posted := rfl
@[simp] theorem State.setMot_free (s : State) (f : MotSt → MotSt) : (s.setMot f).free = s.free := rfl
@[simp] theorem State.setMot_out (s : State) (f : MotSt → MotSt) : (s.setMot f).out = s.out := rfl
@[simp] theorem State.setMot_pending (s : State) (f : MotSt → MotSt) : (s.setMot f).pending = s.pending := rfl

/-! ### `State.setDue` -/

@[simp] theorem State.setDue_regs (s : State) (f : DueSt → DueSt) : (s.setDue f).regs = s.regs := rfl
@[simp] theorem State.setDue_mem (s : State) (f : DueSt → DueSt) : (s.setDue f).mem = s.mem := rfl
@[simp] theorem State.setDue_now (s : State) (f : DueSt → DueSt) : (s.setDue f).now = s.now := rfl
@[simp] theorem State.setDue_fresh (s : State) (f : DueSt → DueSt) : (s.setDue f).fresh = s.fresh := rfl
@[simp] theorem State.setDue_tally (s : State) (f : DueSt → DueSt) : (s.setDue f).tally = s.tally := rfl
@[simp] theorem State.setDue_host (s : State) (f : DueSt → DueSt) : (s.setDue f).host = s.host := rfl
@[simp] theorem State.setDue_err (s : State) (f : DueSt → DueSt) : (s.setDue f).err = s.err := rfl
@[simp] theorem State.setDue_pwr (s : State) (f : DueSt → DueSt) : (s.setDue f).pwr = s.pwr := rfl
@[simp] theorem State.setDue_tb (s : State) (f : DueSt → DueSt) : (s.setDue f).tb = s.tb := rfl
@[simp] theorem State.setDue_job (s : State) (f : DueSt → DueSt) : (s.setDue f).job = s.job := rfl
@[simp] theorem State.setDue_eng (s : State) (f : DueSt → DueSt) : (s.setDue f).eng = s.eng := rfl
@[simp] theorem State.setDue_smp (s : State) (f : DueSt → DueSt) : (s.setDue f).smp = s.smp := rfl
@[simp] theorem State.setDue_rows (s : State) (f : DueSt → DueSt) : (s.setDue f).rows = s.rows := rfl
@[simp] theorem State.setDue_ports (s : State) (f : DueSt → DueSt) : (s.setDue f).ports = s.ports := rfl
@[simp] theorem State.setDue_fld (s : State) (f : DueSt → DueSt) : (s.setDue f).fld = s.fld := rfl
@[simp] theorem State.setDue_mot (s : State) (f : DueSt → DueSt) : (s.setDue f).mot = s.mot := rfl
@[simp] theorem State.setDue_due (s : State) (f : DueSt → DueSt) : (s.setDue f).due = f s.due := rfl
@[simp] theorem State.setDue_cal (s : State) (f : DueSt → DueSt) : (s.setDue f).cal = s.cal := rfl
@[simp] theorem State.setDue_lanes (s : State) (f : DueSt → DueSt) : (s.setDue f).lanes = s.lanes := rfl
@[simp] theorem State.setDue_peers (s : State) (f : DueSt → DueSt) : (s.setDue f).peers = s.peers := rfl
@[simp] theorem State.setDue_cams (s : State) (f : DueSt → DueSt) : (s.setDue f).cams = s.cams := rfl
@[simp] theorem State.setDue_ins (s : State) (f : DueSt → DueSt) : (s.setDue f).ins = s.ins := rfl
@[simp] theorem State.setDue_zip (s : State) (f : DueSt → DueSt) : (s.setDue f).zip = s.zip := rfl
@[simp] theorem State.setDue_dram (s : State) (f : DueSt → DueSt) : (s.setDue f).dram = s.dram := rfl
@[simp] theorem State.setDue_tap (s : State) (f : DueSt → DueSt) : (s.setDue f).tap = s.tap := rfl
@[simp] theorem State.setDue_posted (s : State) (f : DueSt → DueSt) : (s.setDue f).posted = s.posted := rfl
@[simp] theorem State.setDue_free (s : State) (f : DueSt → DueSt) : (s.setDue f).free = s.free := rfl
@[simp] theorem State.setDue_out (s : State) (f : DueSt → DueSt) : (s.setDue f).out = s.out := rfl
@[simp] theorem State.setDue_pending (s : State) (f : DueSt → DueSt) : (s.setDue f).pending = s.pending := rfl

/-! ### `State.setCal` -/

@[simp] theorem State.setCal_regs (s : State) (f : CalSt → CalSt) : (s.setCal f).regs = s.regs := rfl
@[simp] theorem State.setCal_mem (s : State) (f : CalSt → CalSt) : (s.setCal f).mem = s.mem := rfl
@[simp] theorem State.setCal_now (s : State) (f : CalSt → CalSt) : (s.setCal f).now = s.now := rfl
@[simp] theorem State.setCal_fresh (s : State) (f : CalSt → CalSt) : (s.setCal f).fresh = s.fresh := rfl
@[simp] theorem State.setCal_tally (s : State) (f : CalSt → CalSt) : (s.setCal f).tally = s.tally := rfl
@[simp] theorem State.setCal_host (s : State) (f : CalSt → CalSt) : (s.setCal f).host = s.host := rfl
@[simp] theorem State.setCal_err (s : State) (f : CalSt → CalSt) : (s.setCal f).err = s.err := rfl
@[simp] theorem State.setCal_pwr (s : State) (f : CalSt → CalSt) : (s.setCal f).pwr = s.pwr := rfl
@[simp] theorem State.setCal_tb (s : State) (f : CalSt → CalSt) : (s.setCal f).tb = s.tb := rfl
@[simp] theorem State.setCal_job (s : State) (f : CalSt → CalSt) : (s.setCal f).job = s.job := rfl
@[simp] theorem State.setCal_eng (s : State) (f : CalSt → CalSt) : (s.setCal f).eng = s.eng := rfl
@[simp] theorem State.setCal_smp (s : State) (f : CalSt → CalSt) : (s.setCal f).smp = s.smp := rfl
@[simp] theorem State.setCal_rows (s : State) (f : CalSt → CalSt) : (s.setCal f).rows = s.rows := rfl
@[simp] theorem State.setCal_ports (s : State) (f : CalSt → CalSt) : (s.setCal f).ports = s.ports := rfl
@[simp] theorem State.setCal_fld (s : State) (f : CalSt → CalSt) : (s.setCal f).fld = s.fld := rfl
@[simp] theorem State.setCal_mot (s : State) (f : CalSt → CalSt) : (s.setCal f).mot = s.mot := rfl
@[simp] theorem State.setCal_due (s : State) (f : CalSt → CalSt) : (s.setCal f).due = s.due := rfl
@[simp] theorem State.setCal_cal (s : State) (f : CalSt → CalSt) : (s.setCal f).cal = f s.cal := rfl
@[simp] theorem State.setCal_lanes (s : State) (f : CalSt → CalSt) : (s.setCal f).lanes = s.lanes := rfl
@[simp] theorem State.setCal_peers (s : State) (f : CalSt → CalSt) : (s.setCal f).peers = s.peers := rfl
@[simp] theorem State.setCal_cams (s : State) (f : CalSt → CalSt) : (s.setCal f).cams = s.cams := rfl
@[simp] theorem State.setCal_ins (s : State) (f : CalSt → CalSt) : (s.setCal f).ins = s.ins := rfl
@[simp] theorem State.setCal_zip (s : State) (f : CalSt → CalSt) : (s.setCal f).zip = s.zip := rfl
@[simp] theorem State.setCal_dram (s : State) (f : CalSt → CalSt) : (s.setCal f).dram = s.dram := rfl
@[simp] theorem State.setCal_tap (s : State) (f : CalSt → CalSt) : (s.setCal f).tap = s.tap := rfl
@[simp] theorem State.setCal_posted (s : State) (f : CalSt → CalSt) : (s.setCal f).posted = s.posted := rfl
@[simp] theorem State.setCal_free (s : State) (f : CalSt → CalSt) : (s.setCal f).free = s.free := rfl
@[simp] theorem State.setCal_out (s : State) (f : CalSt → CalSt) : (s.setCal f).out = s.out := rfl
@[simp] theorem State.setCal_pending (s : State) (f : CalSt → CalSt) : (s.setCal f).pending = s.pending := rfl

/-! ### `State.setLane` -/

@[simp] theorem State.setLane_regs (s : State) (n : Nat) (f : LaneSt → LaneSt) : (s.setLane n f).regs = s.regs := rfl
@[simp] theorem State.setLane_mem (s : State) (n : Nat) (f : LaneSt → LaneSt) : (s.setLane n f).mem = s.mem := rfl
@[simp] theorem State.setLane_now (s : State) (n : Nat) (f : LaneSt → LaneSt) : (s.setLane n f).now = s.now := rfl
@[simp] theorem State.setLane_fresh (s : State) (n : Nat) (f : LaneSt → LaneSt) : (s.setLane n f).fresh = s.fresh := rfl
@[simp] theorem State.setLane_tally (s : State) (n : Nat) (f : LaneSt → LaneSt) : (s.setLane n f).tally = s.tally := rfl
@[simp] theorem State.setLane_host (s : State) (n : Nat) (f : LaneSt → LaneSt) : (s.setLane n f).host = s.host := rfl
@[simp] theorem State.setLane_err (s : State) (n : Nat) (f : LaneSt → LaneSt) : (s.setLane n f).err = s.err := rfl
@[simp] theorem State.setLane_pwr (s : State) (n : Nat) (f : LaneSt → LaneSt) : (s.setLane n f).pwr = s.pwr := rfl
@[simp] theorem State.setLane_tb (s : State) (n : Nat) (f : LaneSt → LaneSt) : (s.setLane n f).tb = s.tb := rfl
@[simp] theorem State.setLane_job (s : State) (n : Nat) (f : LaneSt → LaneSt) : (s.setLane n f).job = s.job := rfl
@[simp] theorem State.setLane_eng (s : State) (n : Nat) (f : LaneSt → LaneSt) : (s.setLane n f).eng = s.eng := rfl
@[simp] theorem State.setLane_smp (s : State) (n : Nat) (f : LaneSt → LaneSt) : (s.setLane n f).smp = s.smp := rfl
@[simp] theorem State.setLane_rows (s : State) (n : Nat) (f : LaneSt → LaneSt) : (s.setLane n f).rows = s.rows := rfl
@[simp] theorem State.setLane_ports (s : State) (n : Nat) (f : LaneSt → LaneSt) : (s.setLane n f).ports = s.ports := rfl
@[simp] theorem State.setLane_fld (s : State) (n : Nat) (f : LaneSt → LaneSt) : (s.setLane n f).fld = s.fld := rfl
@[simp] theorem State.setLane_mot (s : State) (n : Nat) (f : LaneSt → LaneSt) : (s.setLane n f).mot = s.mot := rfl
@[simp] theorem State.setLane_due (s : State) (n : Nat) (f : LaneSt → LaneSt) : (s.setLane n f).due = s.due := rfl
@[simp] theorem State.setLane_cal (s : State) (n : Nat) (f : LaneSt → LaneSt) : (s.setLane n f).cal = s.cal := rfl
@[simp] theorem State.setLane_peers (s : State) (n : Nat) (f : LaneSt → LaneSt) : (s.setLane n f).peers = s.peers := rfl
@[simp] theorem State.setLane_cams (s : State) (n : Nat) (f : LaneSt → LaneSt) : (s.setLane n f).cams = s.cams := rfl
@[simp] theorem State.setLane_ins (s : State) (n : Nat) (f : LaneSt → LaneSt) : (s.setLane n f).ins = s.ins := rfl
@[simp] theorem State.setLane_zip (s : State) (n : Nat) (f : LaneSt → LaneSt) : (s.setLane n f).zip = s.zip := rfl
@[simp] theorem State.setLane_dram (s : State) (n : Nat) (f : LaneSt → LaneSt) : (s.setLane n f).dram = s.dram := rfl
@[simp] theorem State.setLane_tap (s : State) (n : Nat) (f : LaneSt → LaneSt) : (s.setLane n f).tap = s.tap := rfl
@[simp] theorem State.setLane_posted (s : State) (n : Nat) (f : LaneSt → LaneSt) : (s.setLane n f).posted = s.posted := rfl
@[simp] theorem State.setLane_free (s : State) (n : Nat) (f : LaneSt → LaneSt) : (s.setLane n f).free = s.free := rfl
@[simp] theorem State.setLane_out (s : State) (n : Nat) (f : LaneSt → LaneSt) : (s.setLane n f).out = s.out := rfl
@[simp] theorem State.setLane_pending (s : State) (n : Nat) (f : LaneSt → LaneSt) : (s.setLane n f).pending = s.pending := rfl

/-! ### `State.setPeer` -/

@[simp] theorem State.setPeer_regs (s : State) (l : Nat) (f : PeerSt → PeerSt) : (s.setPeer l f).regs = s.regs := rfl
@[simp] theorem State.setPeer_mem (s : State) (l : Nat) (f : PeerSt → PeerSt) : (s.setPeer l f).mem = s.mem := rfl
@[simp] theorem State.setPeer_now (s : State) (l : Nat) (f : PeerSt → PeerSt) : (s.setPeer l f).now = s.now := rfl
@[simp] theorem State.setPeer_fresh (s : State) (l : Nat) (f : PeerSt → PeerSt) : (s.setPeer l f).fresh = s.fresh := rfl
@[simp] theorem State.setPeer_tally (s : State) (l : Nat) (f : PeerSt → PeerSt) : (s.setPeer l f).tally = s.tally := rfl
@[simp] theorem State.setPeer_host (s : State) (l : Nat) (f : PeerSt → PeerSt) : (s.setPeer l f).host = s.host := rfl
@[simp] theorem State.setPeer_err (s : State) (l : Nat) (f : PeerSt → PeerSt) : (s.setPeer l f).err = s.err := rfl
@[simp] theorem State.setPeer_pwr (s : State) (l : Nat) (f : PeerSt → PeerSt) : (s.setPeer l f).pwr = s.pwr := rfl
@[simp] theorem State.setPeer_tb (s : State) (l : Nat) (f : PeerSt → PeerSt) : (s.setPeer l f).tb = s.tb := rfl
@[simp] theorem State.setPeer_job (s : State) (l : Nat) (f : PeerSt → PeerSt) : (s.setPeer l f).job = s.job := rfl
@[simp] theorem State.setPeer_eng (s : State) (l : Nat) (f : PeerSt → PeerSt) : (s.setPeer l f).eng = s.eng := rfl
@[simp] theorem State.setPeer_smp (s : State) (l : Nat) (f : PeerSt → PeerSt) : (s.setPeer l f).smp = s.smp := rfl
@[simp] theorem State.setPeer_rows (s : State) (l : Nat) (f : PeerSt → PeerSt) : (s.setPeer l f).rows = s.rows := rfl
@[simp] theorem State.setPeer_ports (s : State) (l : Nat) (f : PeerSt → PeerSt) : (s.setPeer l f).ports = s.ports := rfl
@[simp] theorem State.setPeer_fld (s : State) (l : Nat) (f : PeerSt → PeerSt) : (s.setPeer l f).fld = s.fld := rfl
@[simp] theorem State.setPeer_mot (s : State) (l : Nat) (f : PeerSt → PeerSt) : (s.setPeer l f).mot = s.mot := rfl
@[simp] theorem State.setPeer_due (s : State) (l : Nat) (f : PeerSt → PeerSt) : (s.setPeer l f).due = s.due := rfl
@[simp] theorem State.setPeer_cal (s : State) (l : Nat) (f : PeerSt → PeerSt) : (s.setPeer l f).cal = s.cal := rfl
@[simp] theorem State.setPeer_lanes (s : State) (l : Nat) (f : PeerSt → PeerSt) : (s.setPeer l f).lanes = s.lanes := rfl
@[simp] theorem State.setPeer_cams (s : State) (l : Nat) (f : PeerSt → PeerSt) : (s.setPeer l f).cams = s.cams := rfl
@[simp] theorem State.setPeer_ins (s : State) (l : Nat) (f : PeerSt → PeerSt) : (s.setPeer l f).ins = s.ins := rfl
@[simp] theorem State.setPeer_zip (s : State) (l : Nat) (f : PeerSt → PeerSt) : (s.setPeer l f).zip = s.zip := rfl
@[simp] theorem State.setPeer_dram (s : State) (l : Nat) (f : PeerSt → PeerSt) : (s.setPeer l f).dram = s.dram := rfl
@[simp] theorem State.setPeer_tap (s : State) (l : Nat) (f : PeerSt → PeerSt) : (s.setPeer l f).tap = s.tap := rfl
@[simp] theorem State.setPeer_posted (s : State) (l : Nat) (f : PeerSt → PeerSt) : (s.setPeer l f).posted = s.posted := rfl
@[simp] theorem State.setPeer_free (s : State) (l : Nat) (f : PeerSt → PeerSt) : (s.setPeer l f).free = s.free := rfl
@[simp] theorem State.setPeer_out (s : State) (l : Nat) (f : PeerSt → PeerSt) : (s.setPeer l f).out = s.out := rfl
@[simp] theorem State.setPeer_pending (s : State) (l : Nat) (f : PeerSt → PeerSt) : (s.setPeer l f).pending = s.pending := rfl

/-! ### `State.setCam` -/

@[simp] theorem State.setCam_regs (s : State) (p : Nat) (f : CamSt → CamSt) : (s.setCam p f).regs = s.regs := rfl
@[simp] theorem State.setCam_mem (s : State) (p : Nat) (f : CamSt → CamSt) : (s.setCam p f).mem = s.mem := rfl
@[simp] theorem State.setCam_now (s : State) (p : Nat) (f : CamSt → CamSt) : (s.setCam p f).now = s.now := rfl
@[simp] theorem State.setCam_fresh (s : State) (p : Nat) (f : CamSt → CamSt) : (s.setCam p f).fresh = s.fresh := rfl
@[simp] theorem State.setCam_tally (s : State) (p : Nat) (f : CamSt → CamSt) : (s.setCam p f).tally = s.tally := rfl
@[simp] theorem State.setCam_host (s : State) (p : Nat) (f : CamSt → CamSt) : (s.setCam p f).host = s.host := rfl
@[simp] theorem State.setCam_err (s : State) (p : Nat) (f : CamSt → CamSt) : (s.setCam p f).err = s.err := rfl
@[simp] theorem State.setCam_pwr (s : State) (p : Nat) (f : CamSt → CamSt) : (s.setCam p f).pwr = s.pwr := rfl
@[simp] theorem State.setCam_tb (s : State) (p : Nat) (f : CamSt → CamSt) : (s.setCam p f).tb = s.tb := rfl
@[simp] theorem State.setCam_job (s : State) (p : Nat) (f : CamSt → CamSt) : (s.setCam p f).job = s.job := rfl
@[simp] theorem State.setCam_eng (s : State) (p : Nat) (f : CamSt → CamSt) : (s.setCam p f).eng = s.eng := rfl
@[simp] theorem State.setCam_smp (s : State) (p : Nat) (f : CamSt → CamSt) : (s.setCam p f).smp = s.smp := rfl
@[simp] theorem State.setCam_rows (s : State) (p : Nat) (f : CamSt → CamSt) : (s.setCam p f).rows = s.rows := rfl
@[simp] theorem State.setCam_ports (s : State) (p : Nat) (f : CamSt → CamSt) : (s.setCam p f).ports = s.ports := rfl
@[simp] theorem State.setCam_fld (s : State) (p : Nat) (f : CamSt → CamSt) : (s.setCam p f).fld = s.fld := rfl
@[simp] theorem State.setCam_mot (s : State) (p : Nat) (f : CamSt → CamSt) : (s.setCam p f).mot = s.mot := rfl
@[simp] theorem State.setCam_due (s : State) (p : Nat) (f : CamSt → CamSt) : (s.setCam p f).due = s.due := rfl
@[simp] theorem State.setCam_cal (s : State) (p : Nat) (f : CamSt → CamSt) : (s.setCam p f).cal = s.cal := rfl
@[simp] theorem State.setCam_lanes (s : State) (p : Nat) (f : CamSt → CamSt) : (s.setCam p f).lanes = s.lanes := rfl
@[simp] theorem State.setCam_peers (s : State) (p : Nat) (f : CamSt → CamSt) : (s.setCam p f).peers = s.peers := rfl
@[simp] theorem State.setCam_ins (s : State) (p : Nat) (f : CamSt → CamSt) : (s.setCam p f).ins = s.ins := rfl
@[simp] theorem State.setCam_zip (s : State) (p : Nat) (f : CamSt → CamSt) : (s.setCam p f).zip = s.zip := rfl
@[simp] theorem State.setCam_dram (s : State) (p : Nat) (f : CamSt → CamSt) : (s.setCam p f).dram = s.dram := rfl
@[simp] theorem State.setCam_tap (s : State) (p : Nat) (f : CamSt → CamSt) : (s.setCam p f).tap = s.tap := rfl
@[simp] theorem State.setCam_posted (s : State) (p : Nat) (f : CamSt → CamSt) : (s.setCam p f).posted = s.posted := rfl
@[simp] theorem State.setCam_free (s : State) (p : Nat) (f : CamSt → CamSt) : (s.setCam p f).free = s.free := rfl
@[simp] theorem State.setCam_out (s : State) (p : Nat) (f : CamSt → CamSt) : (s.setCam p f).out = s.out := rfl
@[simp] theorem State.setCam_pending (s : State) (p : Nat) (f : CamSt → CamSt) : (s.setCam p f).pending = s.pending := rfl

/-! ### `State.setIns` -/

@[simp] theorem State.setIns_regs (s : State) (f : InsSt → InsSt) : (s.setIns f).regs = s.regs := rfl
@[simp] theorem State.setIns_mem (s : State) (f : InsSt → InsSt) : (s.setIns f).mem = s.mem := rfl
@[simp] theorem State.setIns_now (s : State) (f : InsSt → InsSt) : (s.setIns f).now = s.now := rfl
@[simp] theorem State.setIns_fresh (s : State) (f : InsSt → InsSt) : (s.setIns f).fresh = s.fresh := rfl
@[simp] theorem State.setIns_tally (s : State) (f : InsSt → InsSt) : (s.setIns f).tally = s.tally := rfl
@[simp] theorem State.setIns_host (s : State) (f : InsSt → InsSt) : (s.setIns f).host = s.host := rfl
@[simp] theorem State.setIns_err (s : State) (f : InsSt → InsSt) : (s.setIns f).err = s.err := rfl
@[simp] theorem State.setIns_pwr (s : State) (f : InsSt → InsSt) : (s.setIns f).pwr = s.pwr := rfl
@[simp] theorem State.setIns_tb (s : State) (f : InsSt → InsSt) : (s.setIns f).tb = s.tb := rfl
@[simp] theorem State.setIns_job (s : State) (f : InsSt → InsSt) : (s.setIns f).job = s.job := rfl
@[simp] theorem State.setIns_eng (s : State) (f : InsSt → InsSt) : (s.setIns f).eng = s.eng := rfl
@[simp] theorem State.setIns_smp (s : State) (f : InsSt → InsSt) : (s.setIns f).smp = s.smp := rfl
@[simp] theorem State.setIns_rows (s : State) (f : InsSt → InsSt) : (s.setIns f).rows = s.rows := rfl
@[simp] theorem State.setIns_ports (s : State) (f : InsSt → InsSt) : (s.setIns f).ports = s.ports := rfl
@[simp] theorem State.setIns_fld (s : State) (f : InsSt → InsSt) : (s.setIns f).fld = s.fld := rfl
@[simp] theorem State.setIns_mot (s : State) (f : InsSt → InsSt) : (s.setIns f).mot = s.mot := rfl
@[simp] theorem State.setIns_due (s : State) (f : InsSt → InsSt) : (s.setIns f).due = s.due := rfl
@[simp] theorem State.setIns_cal (s : State) (f : InsSt → InsSt) : (s.setIns f).cal = s.cal := rfl
@[simp] theorem State.setIns_lanes (s : State) (f : InsSt → InsSt) : (s.setIns f).lanes = s.lanes := rfl
@[simp] theorem State.setIns_peers (s : State) (f : InsSt → InsSt) : (s.setIns f).peers = s.peers := rfl
@[simp] theorem State.setIns_cams (s : State) (f : InsSt → InsSt) : (s.setIns f).cams = s.cams := rfl
@[simp] theorem State.setIns_ins (s : State) (f : InsSt → InsSt) : (s.setIns f).ins = f s.ins := rfl
@[simp] theorem State.setIns_zip (s : State) (f : InsSt → InsSt) : (s.setIns f).zip = s.zip := rfl
@[simp] theorem State.setIns_dram (s : State) (f : InsSt → InsSt) : (s.setIns f).dram = s.dram := rfl
@[simp] theorem State.setIns_tap (s : State) (f : InsSt → InsSt) : (s.setIns f).tap = s.tap := rfl
@[simp] theorem State.setIns_posted (s : State) (f : InsSt → InsSt) : (s.setIns f).posted = s.posted := rfl
@[simp] theorem State.setIns_free (s : State) (f : InsSt → InsSt) : (s.setIns f).free = s.free := rfl
@[simp] theorem State.setIns_out (s : State) (f : InsSt → InsSt) : (s.setIns f).out = s.out := rfl
@[simp] theorem State.setIns_pending (s : State) (f : InsSt → InsSt) : (s.setIns f).pending = s.pending := rfl

/-! ### `State.setZip` -/

@[simp] theorem State.setZip_regs (s : State) (f : ZipSt → ZipSt) : (s.setZip f).regs = s.regs := rfl
@[simp] theorem State.setZip_mem (s : State) (f : ZipSt → ZipSt) : (s.setZip f).mem = s.mem := rfl
@[simp] theorem State.setZip_now (s : State) (f : ZipSt → ZipSt) : (s.setZip f).now = s.now := rfl
@[simp] theorem State.setZip_fresh (s : State) (f : ZipSt → ZipSt) : (s.setZip f).fresh = s.fresh := rfl
@[simp] theorem State.setZip_tally (s : State) (f : ZipSt → ZipSt) : (s.setZip f).tally = s.tally := rfl
@[simp] theorem State.setZip_host (s : State) (f : ZipSt → ZipSt) : (s.setZip f).host = s.host := rfl
@[simp] theorem State.setZip_err (s : State) (f : ZipSt → ZipSt) : (s.setZip f).err = s.err := rfl
@[simp] theorem State.setZip_pwr (s : State) (f : ZipSt → ZipSt) : (s.setZip f).pwr = s.pwr := rfl
@[simp] theorem State.setZip_tb (s : State) (f : ZipSt → ZipSt) : (s.setZip f).tb = s.tb := rfl
@[simp] theorem State.setZip_job (s : State) (f : ZipSt → ZipSt) : (s.setZip f).job = s.job := rfl
@[simp] theorem State.setZip_eng (s : State) (f : ZipSt → ZipSt) : (s.setZip f).eng = s.eng := rfl
@[simp] theorem State.setZip_smp (s : State) (f : ZipSt → ZipSt) : (s.setZip f).smp = s.smp := rfl
@[simp] theorem State.setZip_rows (s : State) (f : ZipSt → ZipSt) : (s.setZip f).rows = s.rows := rfl
@[simp] theorem State.setZip_ports (s : State) (f : ZipSt → ZipSt) : (s.setZip f).ports = s.ports := rfl
@[simp] theorem State.setZip_fld (s : State) (f : ZipSt → ZipSt) : (s.setZip f).fld = s.fld := rfl
@[simp] theorem State.setZip_mot (s : State) (f : ZipSt → ZipSt) : (s.setZip f).mot = s.mot := rfl
@[simp] theorem State.setZip_due (s : State) (f : ZipSt → ZipSt) : (s.setZip f).due = s.due := rfl
@[simp] theorem State.setZip_cal (s : State) (f : ZipSt → ZipSt) : (s.setZip f).cal = s.cal := rfl
@[simp] theorem State.setZip_lanes (s : State) (f : ZipSt → ZipSt) : (s.setZip f).lanes = s.lanes := rfl
@[simp] theorem State.setZip_peers (s : State) (f : ZipSt → ZipSt) : (s.setZip f).peers = s.peers := rfl
@[simp] theorem State.setZip_cams (s : State) (f : ZipSt → ZipSt) : (s.setZip f).cams = s.cams := rfl
@[simp] theorem State.setZip_ins (s : State) (f : ZipSt → ZipSt) : (s.setZip f).ins = s.ins := rfl
@[simp] theorem State.setZip_zip (s : State) (f : ZipSt → ZipSt) : (s.setZip f).zip = f s.zip := rfl
@[simp] theorem State.setZip_dram (s : State) (f : ZipSt → ZipSt) : (s.setZip f).dram = s.dram := rfl
@[simp] theorem State.setZip_tap (s : State) (f : ZipSt → ZipSt) : (s.setZip f).tap = s.tap := rfl
@[simp] theorem State.setZip_posted (s : State) (f : ZipSt → ZipSt) : (s.setZip f).posted = s.posted := rfl
@[simp] theorem State.setZip_free (s : State) (f : ZipSt → ZipSt) : (s.setZip f).free = s.free := rfl
@[simp] theorem State.setZip_out (s : State) (f : ZipSt → ZipSt) : (s.setZip f).out = s.out := rfl
@[simp] theorem State.setZip_pending (s : State) (f : ZipSt → ZipSt) : (s.setZip f).pending = s.pending := rfl

/-! ### `State.setDram` -/

@[simp] theorem State.setDram_regs (s : State) (f : DramSt → DramSt) : (s.setDram f).regs = s.regs := rfl
@[simp] theorem State.setDram_mem (s : State) (f : DramSt → DramSt) : (s.setDram f).mem = s.mem := rfl
@[simp] theorem State.setDram_now (s : State) (f : DramSt → DramSt) : (s.setDram f).now = s.now := rfl
@[simp] theorem State.setDram_fresh (s : State) (f : DramSt → DramSt) : (s.setDram f).fresh = s.fresh := rfl
@[simp] theorem State.setDram_tally (s : State) (f : DramSt → DramSt) : (s.setDram f).tally = s.tally := rfl
@[simp] theorem State.setDram_host (s : State) (f : DramSt → DramSt) : (s.setDram f).host = s.host := rfl
@[simp] theorem State.setDram_err (s : State) (f : DramSt → DramSt) : (s.setDram f).err = s.err := rfl
@[simp] theorem State.setDram_pwr (s : State) (f : DramSt → DramSt) : (s.setDram f).pwr = s.pwr := rfl
@[simp] theorem State.setDram_tb (s : State) (f : DramSt → DramSt) : (s.setDram f).tb = s.tb := rfl
@[simp] theorem State.setDram_job (s : State) (f : DramSt → DramSt) : (s.setDram f).job = s.job := rfl
@[simp] theorem State.setDram_eng (s : State) (f : DramSt → DramSt) : (s.setDram f).eng = s.eng := rfl
@[simp] theorem State.setDram_smp (s : State) (f : DramSt → DramSt) : (s.setDram f).smp = s.smp := rfl
@[simp] theorem State.setDram_rows (s : State) (f : DramSt → DramSt) : (s.setDram f).rows = s.rows := rfl
@[simp] theorem State.setDram_ports (s : State) (f : DramSt → DramSt) : (s.setDram f).ports = s.ports := rfl
@[simp] theorem State.setDram_fld (s : State) (f : DramSt → DramSt) : (s.setDram f).fld = s.fld := rfl
@[simp] theorem State.setDram_mot (s : State) (f : DramSt → DramSt) : (s.setDram f).mot = s.mot := rfl
@[simp] theorem State.setDram_due (s : State) (f : DramSt → DramSt) : (s.setDram f).due = s.due := rfl
@[simp] theorem State.setDram_cal (s : State) (f : DramSt → DramSt) : (s.setDram f).cal = s.cal := rfl
@[simp] theorem State.setDram_lanes (s : State) (f : DramSt → DramSt) : (s.setDram f).lanes = s.lanes := rfl
@[simp] theorem State.setDram_peers (s : State) (f : DramSt → DramSt) : (s.setDram f).peers = s.peers := rfl
@[simp] theorem State.setDram_cams (s : State) (f : DramSt → DramSt) : (s.setDram f).cams = s.cams := rfl
@[simp] theorem State.setDram_ins (s : State) (f : DramSt → DramSt) : (s.setDram f).ins = s.ins := rfl
@[simp] theorem State.setDram_zip (s : State) (f : DramSt → DramSt) : (s.setDram f).zip = s.zip := rfl
@[simp] theorem State.setDram_dram (s : State) (f : DramSt → DramSt) : (s.setDram f).dram = f s.dram := rfl
@[simp] theorem State.setDram_tap (s : State) (f : DramSt → DramSt) : (s.setDram f).tap = s.tap := rfl
@[simp] theorem State.setDram_posted (s : State) (f : DramSt → DramSt) : (s.setDram f).posted = s.posted := rfl
@[simp] theorem State.setDram_free (s : State) (f : DramSt → DramSt) : (s.setDram f).free = s.free := rfl
@[simp] theorem State.setDram_out (s : State) (f : DramSt → DramSt) : (s.setDram f).out = s.out := rfl
@[simp] theorem State.setDram_pending (s : State) (f : DramSt → DramSt) : (s.setDram f).pending = s.pending := rfl

/-! ### `State.setRing` -/

@[simp] theorem State.setRing_regs (s : State) (r : Nat) (x : RingSt) : (s.setRing r x).regs = s.regs := rfl
@[simp] theorem State.setRing_mem (s : State) (r : Nat) (x : RingSt) : (s.setRing r x).mem = s.mem := rfl
@[simp] theorem State.setRing_now (s : State) (r : Nat) (x : RingSt) : (s.setRing r x).now = s.now := rfl
@[simp] theorem State.setRing_fresh (s : State) (r : Nat) (x : RingSt) : (s.setRing r x).fresh = s.fresh := rfl
@[simp] theorem State.setRing_tally (s : State) (r : Nat) (x : RingSt) : (s.setRing r x).tally = s.tally := rfl
@[simp] theorem State.setRing_err (s : State) (r : Nat) (x : RingSt) : (s.setRing r x).err = s.err := rfl
@[simp] theorem State.setRing_pwr (s : State) (r : Nat) (x : RingSt) : (s.setRing r x).pwr = s.pwr := rfl
@[simp] theorem State.setRing_tb (s : State) (r : Nat) (x : RingSt) : (s.setRing r x).tb = s.tb := rfl
@[simp] theorem State.setRing_job (s : State) (r : Nat) (x : RingSt) : (s.setRing r x).job = s.job := rfl
@[simp] theorem State.setRing_eng (s : State) (r : Nat) (x : RingSt) : (s.setRing r x).eng = s.eng := rfl
@[simp] theorem State.setRing_smp (s : State) (r : Nat) (x : RingSt) : (s.setRing r x).smp = s.smp := rfl
@[simp] theorem State.setRing_rows (s : State) (r : Nat) (x : RingSt) : (s.setRing r x).rows = s.rows := rfl
@[simp] theorem State.setRing_ports (s : State) (r : Nat) (x : RingSt) : (s.setRing r x).ports = s.ports := rfl
@[simp] theorem State.setRing_fld (s : State) (r : Nat) (x : RingSt) : (s.setRing r x).fld = s.fld := rfl
@[simp] theorem State.setRing_mot (s : State) (r : Nat) (x : RingSt) : (s.setRing r x).mot = s.mot := rfl
@[simp] theorem State.setRing_due (s : State) (r : Nat) (x : RingSt) : (s.setRing r x).due = s.due := rfl
@[simp] theorem State.setRing_cal (s : State) (r : Nat) (x : RingSt) : (s.setRing r x).cal = s.cal := rfl
@[simp] theorem State.setRing_lanes (s : State) (r : Nat) (x : RingSt) : (s.setRing r x).lanes = s.lanes := rfl
@[simp] theorem State.setRing_peers (s : State) (r : Nat) (x : RingSt) : (s.setRing r x).peers = s.peers := rfl
@[simp] theorem State.setRing_cams (s : State) (r : Nat) (x : RingSt) : (s.setRing r x).cams = s.cams := rfl
@[simp] theorem State.setRing_ins (s : State) (r : Nat) (x : RingSt) : (s.setRing r x).ins = s.ins := rfl
@[simp] theorem State.setRing_zip (s : State) (r : Nat) (x : RingSt) : (s.setRing r x).zip = s.zip := rfl
@[simp] theorem State.setRing_dram (s : State) (r : Nat) (x : RingSt) : (s.setRing r x).dram = s.dram := rfl
@[simp] theorem State.setRing_tap (s : State) (r : Nat) (x : RingSt) : (s.setRing r x).tap = s.tap := rfl
@[simp] theorem State.setRing_posted (s : State) (r : Nat) (x : RingSt) : (s.setRing r x).posted = s.posted := rfl
@[simp] theorem State.setRing_free (s : State) (r : Nat) (x : RingSt) : (s.setRing r x).free = s.free := rfl
@[simp] theorem State.setRing_out (s : State) (r : Nat) (x : RingSt) : (s.setRing r x).out = s.out := rfl
@[simp] theorem State.setRing_pending (s : State) (r : Nat) (x : RingSt) : (s.setRing r x).pending = s.pending := rfl

/-! ### `State.setSeq` -/

@[simp] theorem State.setSeq_regs (s : State) (ch : Nat) (f : Seq → Seq) : (s.setSeq ch f).regs = s.regs := rfl
@[simp] theorem State.setSeq_mem (s : State) (ch : Nat) (f : Seq → Seq) : (s.setSeq ch f).mem = s.mem := rfl
@[simp] theorem State.setSeq_now (s : State) (ch : Nat) (f : Seq → Seq) : (s.setSeq ch f).now = s.now := rfl
@[simp] theorem State.setSeq_fresh (s : State) (ch : Nat) (f : Seq → Seq) : (s.setSeq ch f).fresh = s.fresh := rfl
@[simp] theorem State.setSeq_tally (s : State) (ch : Nat) (f : Seq → Seq) : (s.setSeq ch f).tally = s.tally := rfl
@[simp] theorem State.setSeq_host (s : State) (ch : Nat) (f : Seq → Seq) : (s.setSeq ch f).host = s.host := rfl
@[simp] theorem State.setSeq_err (s : State) (ch : Nat) (f : Seq → Seq) : (s.setSeq ch f).err = s.err := rfl
@[simp] theorem State.setSeq_pwr (s : State) (ch : Nat) (f : Seq → Seq) : (s.setSeq ch f).pwr = s.pwr := rfl
@[simp] theorem State.setSeq_job (s : State) (ch : Nat) (f : Seq → Seq) : (s.setSeq ch f).job = s.job := rfl
@[simp] theorem State.setSeq_eng (s : State) (ch : Nat) (f : Seq → Seq) : (s.setSeq ch f).eng = s.eng := rfl
@[simp] theorem State.setSeq_smp (s : State) (ch : Nat) (f : Seq → Seq) : (s.setSeq ch f).smp = s.smp := rfl
@[simp] theorem State.setSeq_rows (s : State) (ch : Nat) (f : Seq → Seq) : (s.setSeq ch f).rows = s.rows := rfl
@[simp] theorem State.setSeq_ports (s : State) (ch : Nat) (f : Seq → Seq) : (s.setSeq ch f).ports = s.ports := rfl
@[simp] theorem State.setSeq_fld (s : State) (ch : Nat) (f : Seq → Seq) : (s.setSeq ch f).fld = s.fld := rfl
@[simp] theorem State.setSeq_mot (s : State) (ch : Nat) (f : Seq → Seq) : (s.setSeq ch f).mot = s.mot := rfl
@[simp] theorem State.setSeq_due (s : State) (ch : Nat) (f : Seq → Seq) : (s.setSeq ch f).due = s.due := rfl
@[simp] theorem State.setSeq_cal (s : State) (ch : Nat) (f : Seq → Seq) : (s.setSeq ch f).cal = s.cal := rfl
@[simp] theorem State.setSeq_lanes (s : State) (ch : Nat) (f : Seq → Seq) : (s.setSeq ch f).lanes = s.lanes := rfl
@[simp] theorem State.setSeq_peers (s : State) (ch : Nat) (f : Seq → Seq) : (s.setSeq ch f).peers = s.peers := rfl
@[simp] theorem State.setSeq_cams (s : State) (ch : Nat) (f : Seq → Seq) : (s.setSeq ch f).cams = s.cams := rfl
@[simp] theorem State.setSeq_ins (s : State) (ch : Nat) (f : Seq → Seq) : (s.setSeq ch f).ins = s.ins := rfl
@[simp] theorem State.setSeq_zip (s : State) (ch : Nat) (f : Seq → Seq) : (s.setSeq ch f).zip = s.zip := rfl
@[simp] theorem State.setSeq_dram (s : State) (ch : Nat) (f : Seq → Seq) : (s.setSeq ch f).dram = s.dram := rfl
@[simp] theorem State.setSeq_tap (s : State) (ch : Nat) (f : Seq → Seq) : (s.setSeq ch f).tap = s.tap := rfl
@[simp] theorem State.setSeq_posted (s : State) (ch : Nat) (f : Seq → Seq) : (s.setSeq ch f).posted = s.posted := rfl
@[simp] theorem State.setSeq_free (s : State) (ch : Nat) (f : Seq → Seq) : (s.setSeq ch f).free = s.free := rfl
@[simp] theorem State.setSeq_out (s : State) (ch : Nat) (f : Seq → Seq) : (s.setSeq ch f).out = s.out := rfl
@[simp] theorem State.setSeq_pending (s : State) (ch : Nat) (f : Seq → Seq) : (s.setSeq ch f).pending = s.pending := rfl

/-- A field in which the hardware sets no event leaves the clock's events. -/
theorem State.put_fresh (s : State) {f : Fld} (h : f.ev = false) (v : Nat) : (s.put f v).fresh = s.fresh := by
  simp [State.put, h]

/-- The words of the register file take the same write, whether the field sets events or not. -/
theorem State.put_word (s : State) (f : Fld) (v b : Nat) :
    (s.put f v).word b = (s.setWord f.addr (BitVec.ofNat 32 (setBits (s.word f.addr).toNat f.lo f.width v))).word b := rfl

/-! ### A register read after a write -/

@[simp] theorem State.word_setWord_same (s : State) (a : Nat) (v : Word) : (s.setWord a v).word a = v :=
  Sparse.get_put_same _ _ _ _

theorem State.word_setWord_ne (s : State) {a b : Nat} (h : b ≠ a) (v : Word) : (s.setWord a v).word b = s.word b :=
  Sparse.get_put_other _ _ h _

theorem State.word_put_ne (s : State) {f : Fld} {b : Nat} (h : b ≠ f.addr) (v : Nat) : (s.put f v).word b = s.word b :=
  s.word_setWord_ne h _

/-- A field of another register is not touched. -/
theorem State.get_put_ne (s : State) {f g : Fld} (h : g.addr ≠ f.addr) (v : Nat) : (s.put f v).get g = s.get g := by
  simp only [State.get, s.word_put_ne h]

/-- A number with a field set, read back in that field. -/
theorem bits_setBits_same (x lo w v : Nat) : bits (setBits x lo w v) lo w = v % 2 ^ w := by
  have h1 : 0 < 2 ^ lo := Nat.two_pow_pos lo
  have h : setBits x lo w v = x % 2 ^ lo + 2 ^ lo * (v % 2 ^ w + 2 ^ w * (x / 2 ^ (lo + w))) := by
    unfold setBits
    rw [Nat.pow_add]
    ring
  rw [bits, h, Nat.add_mul_div_left _ _ h1, Nat.div_eq_of_lt (Nat.mod_lt _ h1), Nat.zero_add, Nat.add_mul_mod_self_left, Nat.mod_mod]

theorem setBits_lt {x lo w v n : Nat} (hx : x < 2 ^ n) (h : lo + w ≤ n) : setBits x lo w v < 2 ^ n := by
  have hn : 2 ^ n = 2 ^ (lo + w) * 2 ^ (n - (lo + w)) := by rw [← Nat.pow_add]; congr 1; omega
  have hl : x % 2 ^ lo + v % 2 ^ w * 2 ^ lo < 2 ^ (lo + w) := by
    have h1 : x % 2 ^ lo < 2 ^ lo := Nat.mod_lt _ (Nat.two_pow_pos lo)
    have h2 : v % 2 ^ w + 1 ≤ 2 ^ w := Nat.mod_lt _ (Nat.two_pow_pos w)
    calc x % 2 ^ lo + v % 2 ^ w * 2 ^ lo < (v % 2 ^ w + 1) * 2 ^ lo := by linarith [Nat.add_mul (v % 2 ^ w) 1 (2 ^ lo)]
      _ ≤ 2 ^ w * 2 ^ lo := Nat.mul_le_mul_right _ h2
      _ = 2 ^ (lo + w) := by rw [← Nat.pow_add]; congr 1; omega
  have hq : x / 2 ^ (lo + w) + 1 ≤ 2 ^ (n - (lo + w)) := by
    rw [hn] at hx
    exact Nat.div_lt_of_lt_mul hx
  unfold setBits
  calc x % 2 ^ lo + v % 2 ^ w * 2 ^ lo + x / 2 ^ (lo + w) * 2 ^ (lo + w)
      < 2 ^ (lo + w) + x / 2 ^ (lo + w) * 2 ^ (lo + w) := by linarith
    _ = (x / 2 ^ (lo + w) + 1) * 2 ^ (lo + w) := by ring
    _ ≤ 2 ^ (n - (lo + w)) * 2 ^ (lo + w) := Nat.mul_le_mul_right _ hq
    _ = 2 ^ n := by rw [hn]; ring

/-- A field of 32 bits or fewer that was set reads what was set, cut to its width. -/
theorem State.get_put_same (s : State) {f : Fld} (h : f.lo + f.width ≤ 32) (v : Nat) : (s.put f v).get f = v % 2 ^ f.width := by
  have hlt : setBits (s.word f.addr).toNat f.lo f.width v < 2 ^ 32 := setBits_lt (s.word f.addr).isLt h
  simp only [State.get, State.put_word, State.word_setWord_same, BitVec.toNat_ofNat, Nat.mod_eq_of_lt hlt]
  exact bits_setBits_same _ _ _ _

theorem bits_setBits_below (x lo w v : Nat) {lo' w' : Nat} (h : lo' + w' ≤ lo) : bits (setBits x lo w v) lo' w' = bits x lo' w' := by
  have e : ∀ a b, a % 2 ^ lo = b % 2 ^ lo → bits a lo' w' = bits b lo' w' := by
    intro a b hab
    have h2 : ∀ y, bits y lo' w' = y % 2 ^ (lo' + w') / 2 ^ lo' := by
      intro y
      rw [bits, Nat.pow_add, Nat.mod_mul_right_div_self]
    have h3 : ∀ y, y % 2 ^ lo % 2 ^ (lo' + w') = y % 2 ^ (lo' + w') := fun y => Nat.mod_mod_of_dvd _ (Nat.pow_dvd_pow 2 h)
    rw [h2, h2, ← h3 a, ← h3 b, hab]
  apply e
  unfold setBits
  rw [Nat.pow_add, Nat.mul_comm (2 ^ lo) (2 ^ w), ← Nat.mul_assoc, Nat.add_mul_mod_self_right, Nat.add_mul_mod_self_right, Nat.mod_mod]

theorem bits_setBits_above (x lo w v : Nat) {lo' w' : Nat} (h : lo + w ≤ lo') : bits (setBits x lo w v) lo' w' = bits x lo' w' := by
  have hl : x % 2 ^ lo + v % 2 ^ w * 2 ^ lo < 2 ^ (lo + w) := by
    have := setBits_lt (x := x % 2 ^ lo) (lo := lo) (w := w) (v := v) (n := lo + w)
      (Nat.lt_of_lt_of_le (Nat.mod_lt _ (Nat.two_pow_pos lo)) (Nat.pow_le_pow_right (by decide) (by omega))) (Nat.le_refl _)
    unfold setBits at this
    rw [Nat.mod_mod] at this
    omega
  obtain ⟨m, rfl⟩ := Nat.exists_eq_add_of_le h
  rw [bits, bits, Nat.pow_add 2 (lo + w) m, ← Nat.div_div_eq_div_mul, ← Nat.div_div_eq_div_mul]
  congr 2
  unfold setBits
  rw [Nat.add_mul_div_right _ _ (Nat.two_pow_pos _), Nat.div_eq_of_lt hl, Nat.zero_add]

/-- A field of another register, or one that shares no bit with the field that was set, reads as before. -/
theorem State.get_put_other (s : State) {f g : Fld}
    (h : g.addr ≠ f.addr ∨ g.lo + g.width ≤ f.lo ∨ f.lo + f.width ≤ g.lo) (hf : f.lo + f.width ≤ 32) (v : Nat) :
    (s.put f v).get g = s.get g := by
  by_cases ha : g.addr = f.addr
  · have h := h.resolve_left (fun n => n ha)
    have hlt : setBits (s.word f.addr).toNat f.lo f.width v < 2 ^ 32 := setBits_lt (s.word f.addr).isLt hf
    simp only [State.get, State.put_word, ha, State.word_setWord_same, BitVec.toNat_ofNat, Nat.mod_eq_of_lt hlt]
    rcases h with h | h
    · exact bits_setBits_below _ _ _ _ h
    · exact bits_setBits_above _ _ _ _ h
  · exact s.get_put_ne ha v

/-- A pair that was set reads what was set, cut to 64 bits. -/
theorem State.get64_put64_same (s : State) (p : Pair) (v : Nat) : (s.put64 p v).get64 p = v % 2 ^ 64 := by
  have h : p.addr ≠ p.addr + 4 := by omega
  simp only [State.get64, State.put64, State.word_setWord_same, State.word_setWord_ne _ h, BitVec.toNat_ofNat]
  omega

/-! ### A byte of memory read after a write -/

@[simp] theorem State.byte_setByte_same (s : State) (a : Nat) (b : Byte) : (s.setByte a b).byte a = b := Sparse.get_put_same _ _ _ _

theorem State.byte_setByte_ne (s : State) {a c : Nat} (h : c ≠ a) (b : Byte) : (s.setByte a b).byte c = s.byte c :=
  Sparse.get_put_other _ _ h _

/-- Bytes outside those written are as before. -/
theorem State.byte_setBytes_out (bs : List Byte) : ∀ (s : State) (a : Nat) {c : Nat}, c < a ∨ a + bs.length ≤ c →
    (s.setBytes a bs).byte c = s.byte c := by
  induction bs with
  | nil => intros; rfl
  | cons b bs ih =>
    intro s a c h
    simp only [List.length_cons] at h
    unfold State.setBytes
    rw [ih _ _ (by omega), State.byte_setByte_ne _ (by omega)]

/-! ### What a register write comes to -/

/-- R31, R350: a slot that the device hears, that owns it, and whose unit has its domain on, writes. -/
theorem State.ownerWrite_may {s : State} {slot a : Nat} (h : s.mayWrite slot a) (f : State → State) :
    s.ownerWrite slot a f = f (s.inbound slot) := by
  obtain ⟨h1, h2, h3⟩ := h
  simp [State.ownerWrite, h1, h2, h3]

/-- R350: a write by another slot is dropped and reported. -/
theorem State.ownerWrite_other {s : State} {slot a : Nat} (h1 : s.reach slot = true) (h2 : (s.inbound slot).addrOn a = true)
    (h3 : (s.inbound slot).isOwner slot = false) (f : State → State) :
    s.ownerWrite slot a f = (s.inbound slot).reportAccess slot 0 a 0 := by
  simp [State.ownerWrite, h1, h2, h3]

/-- R31: a write to a unit whose domain is off. -/
theorem State.ownerWrite_off {s : State} {slot a : Nat} (h1 : s.reach slot = true) (h2 : (s.inbound slot).addrOn a = false)
    (f : State → State) : s.ownerWrite slot a f = (s.inbound slot).offDomain a := by
  simp [State.ownerWrite, h1, h2]

theorem State.ownerWrite_unheard {s : State} {slot : Nat} (h : s.reach slot = false) (a : Nat) (f : State → State) :
    s.ownerWrite slot a f = s := by
  simp [State.ownerWrite, h]

@[simp] theorem State.when_true (s : State) (f : State → State) : s.when true f = f s := rfl

@[simp] theorem State.when_false (s : State) (f : State → State) : s.when false f = s := rfl

@[simp] theorem State.each_nil {α : Type} (s : State) (f : α → State → State) : s.each [] f = s := rfl

@[simp] theorem State.each_cons {α : Type} (s : State) (x : α) (l : List α) (f : α → State → State) :
    s.each (x :: l) f = (f x s).each l f := rfl

end Sys2Proof.Machine
end

