-- ==== Sys2Proof/Laws/Dram.lean ====
section
/-! SUPPORT. What loads and stores of DRAM change: the queues of its sub-channels, and the bytes stored; nothing else. -/

namespace Sys2Proof.Machine

/-- A change of the sub-channels' queues alone. -/
abbrev State.dramOnly (s t : State) : Prop := ∃ d, t = { s with dram := d }

theorem State.dramOnly_refl (s : State) : s.dramOnly s := ⟨s.dram, rfl⟩

theorem State.dramOnly_set {s t : State} (h : s.dramOnly t) (f : DramSt → DramSt) : s.dramOnly (t.setDram f) := by
  obtain ⟨d, rfl⟩ := h
  exact ⟨_, rfl⟩

theorem State.dramOnly_each {α : Type} {s : State} {f : α → State → State} (hf : ∀ x t, s.dramOnly t → s.dramOnly (f x t)) (l : List α) :
    ∀ {t : State}, s.dramOnly t → s.dramOnly (t.each l f) := by
  induction l with
  | nil => exact fun h => h
  | cons x l ih => exact fun h => ih (hf x _ h)

theorem State.dramOnly_issue {s t : State} (h : s.dramOnly t) (mc : Nat) (ws : List QWrite) : s.dramOnly (t.issue mc ws) := by
  have k : s.dramOnly (t.each ws (fun w s => s.rankUsed mc w.at_.rank)) :=
    State.dramOnly_each (fun w u g => by unfold State.rankUsed; exact State.dramOnly_set g _) ws h
  unfold State.issue
  exact State.dramOnly_set k _

theorem State.dramOnly_acceptRead {s t : State} (h : s.dramOnly t) (dpa : Nat) : s.dramOnly (State.acceptRead dpa t) := by
  unfold State.acceptRead
  split
  · exact h
  · extract_lets q u
    refine State.dramOnly_set (State.dramOnly_set ?_ _) _
    unfold u
    split
    · exact h
    · exact State.dramOnly_issue h _ _

theorem State.dramOnly_acceptWrite {s t : State} (h : s.dramOnly t) (cls dpa : Nat) : s.dramOnly (State.acceptWrite cls dpa t) := by
  unfold State.acceptWrite
  split
  · exact h
  · extract_lets q w since
    split
    · exact State.dramOnly_set h _
    · exact State.dramOnly_set (State.dramOnly_set h _) _

/-- A load changes the queues alone. -/
theorem State.dramLoad_only (s : State) (a n : Nat) : s.dramOnly (s.dramLoad a n) :=
  State.dramOnly_each (fun x _ h => State.dramOnly_acceptRead h x) _ s.dramOnly_refl

/-- A store changes its bytes and the queues. -/
theorem State.dramStore_only (s : State) (cls a : Nat) (b : List Byte) : (s.setBytes a b).dramOnly (s.dramStore cls a b) :=
  State.dramOnly_each (fun x _ h => State.dramOnly_acceptWrite h cls x) _ (State.dramOnly_refl _)

end Sys2Proof.Machine
end

