-- ==== Sys2Proof/Laws/Frames.lean ====
section
/-! SUPPORT. Which registers reporting leaves alone: posting an event and writing an error record change no register below the rings'
window (R33: 0xD0000 and up hold the rings, the error log and the counters). -/

namespace Sys2Proof.Machine

/-- The registers below the rings' window are the same. -/
def State.low (s t : State) : Prop := ∀ a, a < 0xD0000 → t.word a = s.word a

theorem State.low_refl (s : State) : s.low s := fun _ _ => rfl

theorem State.low_get {s t : State} (h : s.low t) {f : Fld} (hf : f.addr < 0xD0000) : t.get f = s.get f := by
  simp only [State.get, h f.addr hf]

theorem State.low_regs {s t u : State} (h : s.low t) (e : u.regs = t.regs) : s.low u := by
  intro a ha
  rw [← h a ha]
  simp only [State.word, e]

theorem State.low_setWord {s t : State} (h : s.low t) {a : Nat} (ha : 0xD0000 ≤ a) (v : Word) : s.low (t.setWord a v) :=
  fun b hb => (t.word_setWord_ne (by omega) v).trans (h b hb)

theorem State.low_put {s t : State} (h : s.low t) {f : Fld} (hf : 0xD0000 ≤ f.addr) (v : Nat) : s.low (t.put f v) :=
  State.low_regs (State.low_setWord h hf _) rfl

theorem State.low_count {s t : State} (h : s.low t) {f : Fld} (hf : 0xD0000 ≤ f.addr) (n : Nat) : s.low (t.count f n) :=
  State.low_put h hf _

theorem State.low_pmcAdd {s t : State} (h : s.low t) (i n : Nat) : s.low (t.pmcAdd i n) := by
  unfold State.pmcAdd
  extract_lets was m
  split
  · exact h
  · exact State.low_regs (State.low_setWord (State.low_setWord h (by simp only [Reg.PMC_CNT.PAIR]; omega) _)
      (by simp only [Reg.PMC_CNT.PAIR]; omega) _) rfl

theorem State.low_when {s t : State} (h : s.low t) (c : Bool) {f : State → State} (hf : ∀ u : State, s.low u → s.low (f u)) :
    s.low (t.when c f) := by
  unfold State.when
  split
  · exact hf t h
  · exact h

theorem State.low_each {α : Type} {s : State} {f : α → State → State} (hf : ∀ x (u : State), s.low u → s.low (f x u)) (l : List α) :
    ∀ {t : State}, s.low t → s.low (t.each l f) := by
  induction l with
  | nil => exact fun h => h
  | cons x l ih => exact fun h => ih (hf x _ h)

theorem State.low_msixSend {s t : State} (h : s.low t) (port v : Nat) : s.low (t.msixSend port v) := by
  unfold State.msixSend
  extract_lets ctl
  split
  · exact State.low_put h (Nat.le_trans (by decide) (Nat.le_trans (Nat.le_add_right 0xd9000 _) (Nat.le_add_right _ _))) _
  · exact State.low_pmcAdd (State.low_pmcAdd (State.low_regs h (by rfl)) _ _) _ _

theorem State.low_moderate {s t : State} (h : s.low t) (r : Nat) (b : Bool) : s.low (t.moderate r b) := by
  unfold State.moderate
  extract_lets x y
  split
  · exact State.low_msixSend (State.low_regs h (by rfl)) _ _
  · exact State.low_regs h (by rfl)

theorem State.low_writeRecord {s t : State} (h : s.low t) (r : Nat) (bytes : List Byte) (b : Bool) :
    s.low (t.writeRecord r bytes b) := by
  unfold State.writeRecord
  extract_lets i s1 s2 s3
  have h1 : s.low s1 := State.low_regs h (by rfl)
  have h2 : s.low s2 := State.low_put h1 (Nat.le_trans (by decide) (Nat.le_add_right 0xd1014 _)) _
  have h3 : s.low s3 := State.low_when h2 _ (fun u g => State.low_put g (Nat.le_trans (by decide) (Nat.le_add_right 0xd100c _)) _)
  exact State.low_moderate (State.low_pmcAdd h3 _ _) _ _

theorem State.low_eventTo {s t : State} (h : s.low t) (e : Event) (x r : Nat) : s.low (t.eventTo e x r) := by
  unfold State.eventTo
  split
  · extract_lets b
    exact State.low_pmcAdd (State.low_count (State.low_writeRecord (State.low_regs h (by rfl)) _ _ _)
      (by decide) _) _ _
  · exact State.low_regs h (by rfl)

/-- Posting an event leaves the registers below the rings' window alone. -/
theorem State.low_post {s t : State} (h : s.low t) (e : Event) : s.low (t.post e) := by
  unfold State.post
  extract_lets rs taken x
  refine State.low_when (State.low_each (fun r u g => State.low_eventTo g e x r) _ (State.low_regs h (by rfl))) _ (fun u g => ?_)
  exact State.low_pmcAdd (State.low_count g (by decide) _) _ _

theorem State.low_postLimited {s t : State} (h : s.low t) (e : Event) (scope interval : Nat) :
    s.low (t.postLimited e scope interval) := by
  unfold State.postLimited
  extract_lets k
  split
  · split
    · exact State.low_post (State.low_regs h (by rfl)) _
    · exact h
  · exact State.low_post (State.low_regs h (by rfl)) _

theorem State.low_setWords {s : State} (l : List Nat) :
    ∀ {t : State} {a : Nat}, s.low t → 0xD0000 ≤ a → s.low (t.setWords a l) := by
  induction l with
  | nil => exact fun h _ => h
  | cons w ws ih => exact fun h ha => ih (State.low_setWord h ha _) (by omega)

theorem State.low_logAt {s t : State} (h : s.low t) (seq : Nat) (ws : List Nat) : s.low (t.logAt seq ws) :=
  State.low_setWords _ h (by show 0xD0000 ≤ 0x118000 + 0x20 * (seq % 256) + 0x4 * 0; omega)

theorem State.low_errFirst {s t : State} (h : s.low t) (base n : Nat) : s.low (t.errFirst base n) := by
  unfold State.errFirst
  extract_lets first held
  split
  · exact h
  · exact State.low_setWords _ h (by decide)

/-- Writing an error record leaves the registers below the rings' window alone. -/
theorem State.low_errRecord {s t : State} (h : s.low t) (e : ErrRec) : s.low (t.errRecord e) := by
  unfold State.errRecord
  extract_lets -underBinder seq recs base before after tail past ws s1 recs' s2 moved rest src s3 s4
  have h1 : s.low s1 := State.low_each (fun w u g => State.low_logAt g w.2 w.1) _ (State.low_regs h (by rfl))
  have h2 : s.low s2 := State.low_errFirst h1 _ _
  have h3 : s.low s3 := State.low_regs h2 (by rfl)
  have h4 : s.low s4 := State.low_when h3 _ (fun u g => State.low_count (State.low_put g (by decide) _) (by decide) _)
  exact State.low_pmcAdd (State.low_put h4 (by decide) _) _ _

theorem State.low_inbound {s t : State} (h : s.low t) (slot : Nat) : s.low (t.inbound slot) :=
  State.low_when h _ (fun _ g => State.low_pmcAdd g _ _)

end Sys2Proof.Machine
end

