-- ==== Sys2Proof/Laws/Keeps.lean ====
section
/-! SUPPORT. What every operation of the machine keeps: the queue, the canonical form of the register file and the memory, and the parts of
the state that it does not name. `Keeps k s t` says it of a change from `s` to `t`, where `k` marks the parts that are the same; here stand
the laws of the basic operations, from which the files Keeps… have one for each operation. -/

namespace Sys2Proof.Machine

/-- Which parts of the state are kept: the internal memory, Meridian time, power, the sequencers, printing (jobs, engines, the Starmap, the
rows), the head ports, the field die with its axes, Duet, calibration, the links, the cameras, compression, DRAM, the test port, and the error log. -/
structure Kept where
  mem : Bool
  now : Bool
  pwr : Bool
  tb : Bool
  print : Bool
  ports : Bool
  field : Bool
  due : Bool
  cal : Bool
  links : Bool
  cams : Bool
  zip : Bool
  dram : Bool
  tap : Bool
  err : Bool

/-- From `s` to `t` the queue is unchanged, maps that were canonical still are, and the parts that `k` marks are the same. -/
structure Keeps (k : Kept) (s t : State) : Prop where
  pending : t.pending = s.pending
  wf : s.Wf → t.Wf
  mem : k.mem = true → t.mem = s.mem
  now : k.now = true → t.now = s.now
  err : k.err = true → t.err = s.err
  pwr : k.pwr = true → t.pwr = s.pwr
  tb : k.tb = true → t.tb = s.tb
  job : k.print = true → t.job = s.job
  eng : k.print = true → t.eng = s.eng
  smp : k.print = true → t.smp = s.smp
  rows : k.print = true → t.rows = s.rows
  ports : k.ports = true → t.ports = s.ports
  fld : k.field = true → t.fld = s.fld
  mot : k.field = true → t.mot = s.mot
  due : k.due = true → t.due = s.due
  cal : k.cal = true → t.cal = s.cal
  lanes : k.links = true → t.lanes = s.lanes
  peers : k.links = true → t.peers = s.peers
  cams : k.cams = true → t.cams = s.cams
  ins : k.cams = true → t.ins = s.ins
  zip : k.zip = true → t.zip = s.zip
  dram : k.dram = true → t.dram = s.dram
  tap : k.tap = true → t.tap = s.tap

/-- The parts that are kept, by a proof of it. -/
abbrev Keeps.kept {k : Kept} {s t : State} (_ : Keeps k s t) : Kept := k

variable {km kn kp kt kj ko kf kd kc kl ki kz kg kx ke : Bool}
variable {k : Kept}

theorem Keeps.refl (s : State) : Keeps k s s := by
  constructor <;> first | rfl | exact id | exact fun _ => rfl

/-! ### A record update of one part -/

theorem Keeps.chNow {s0 s v} (h : Keeps ⟨km, false, kp, kt, kj, ko, kf, kd, kc, kl, ki, kz, kg, kx, ke⟩ s0 s) :
    Keeps ⟨km, false, kp, kt, kj, ko, kf, kd, kc, kl, ki, kz, kg, kx, ke⟩ s0 ⟨s.regs, s.mem, v, s.fresh, s.tally, s.host, s.err, s.pwr, s.tb, s.job, s.eng, s.smp, s.rows, s.ports, s.fld, s.mot, s.due, s.cal, s.lanes, s.peers, s.cams, s.ins, s.zip, s.dram, s.tap, s.posted, s.free, s.out, s.pending⟩ :=
  { h with now := nofun }

theorem Keeps.chFresh {s0 s v} (h : Keeps k s0 s) :
    Keeps k s0 ⟨s.regs, s.mem, s.now, v, s.tally, s.host, s.err, s.pwr, s.tb, s.job, s.eng, s.smp, s.rows, s.ports, s.fld, s.mot, s.due, s.cal, s.lanes, s.peers, s.cams, s.ins, s.zip, s.dram, s.tap, s.posted, s.free, s.out, s.pending⟩ :=
  { h with }

theorem Keeps.chTally {s0 s v} (h : Keeps k s0 s) :
    Keeps k s0 ⟨s.regs, s.mem, s.now, s.fresh, v, s.host, s.err, s.pwr, s.tb, s.job, s.eng, s.smp, s.rows, s.ports, s.fld, s.mot, s.due, s.cal, s.lanes, s.peers, s.cams, s.ins, s.zip, s.dram, s.tap, s.posted, s.free, s.out, s.pending⟩ :=
  { h with }

theorem Keeps.chHost {s0 s v} (h : Keeps k s0 s) :
    Keeps k s0 ⟨s.regs, s.mem, s.now, s.fresh, s.tally, v, s.err, s.pwr, s.tb, s.job, s.eng, s.smp, s.rows, s.ports, s.fld, s.mot, s.due, s.cal, s.lanes, s.peers, s.cams, s.ins, s.zip, s.dram, s.tap, s.posted, s.free, s.out, s.pending⟩ :=
  { h with }

theorem Keeps.chErr {s0 s v} (h : Keeps ⟨km, kn, kp, kt, kj, ko, kf, kd, kc, kl, ki, kz, kg, kx, false⟩ s0 s) :
    Keeps ⟨km, kn, kp, kt, kj, ko, kf, kd, kc, kl, ki, kz, kg, kx, false⟩ s0 ⟨s.regs, s.mem, s.now, s.fresh, s.tally, s.host, v, s.pwr, s.tb, s.job, s.eng, s.smp, s.rows, s.ports, s.fld, s.mot, s.due, s.cal, s.lanes, s.peers, s.cams, s.ins, s.zip, s.dram, s.tap, s.posted, s.free, s.out, s.pending⟩ :=
  { h with err := nofun }

theorem Keeps.chPwr {s0 s v} (h : Keeps ⟨km, kn, false, kt, kj, ko, kf, kd, kc, kl, ki, kz, kg, kx, ke⟩ s0 s) :
    Keeps ⟨km, kn, false, kt, kj, ko, kf, kd, kc, kl, ki, kz, kg, kx, ke⟩ s0 ⟨s.regs, s.mem, s.now, s.fresh, s.tally, s.host, s.err, v, s.tb, s.job, s.eng, s.smp, s.rows, s.ports, s.fld, s.mot, s.due, s.cal, s.lanes, s.peers, s.cams, s.ins, s.zip, s.dram, s.tap, s.posted, s.free, s.out, s.pending⟩ :=
  { h with pwr := nofun }

theorem Keeps.chTb {s0 s v} (h : Keeps ⟨km, kn, kp, false, kj, ko, kf, kd, kc, kl, ki, kz, kg, kx, ke⟩ s0 s) :
    Keeps ⟨km, kn, kp, false, kj, ko, kf, kd, kc, kl, ki, kz, kg, kx, ke⟩ s0 ⟨s.regs, s.mem, s.now, s.fresh, s.tally, s.host, s.err, s.pwr, v, s.job, s.eng, s.smp, s.rows, s.ports, s.fld, s.mot, s.due, s.cal, s.lanes, s.peers, s.cams, s.ins, s.zip, s.dram, s.tap, s.posted, s.free, s.out, s.pending⟩ :=
  { h with tb := nofun }

theorem Keeps.chJob {s0 s v} (h : Keeps ⟨km, kn, kp, kt, false, ko, kf, kd, kc, kl, ki, kz, kg, kx, ke⟩ s0 s) :
    Keeps ⟨km, kn, kp, kt, false, ko, kf, kd, kc, kl, ki, kz, kg, kx, ke⟩ s0 ⟨s.regs, s.mem, s.now, s.fresh, s.tally, s.host, s.err, s.pwr, s.tb, v, s.eng, s.smp, s.rows, s.ports, s.fld, s.mot, s.due, s.cal, s.lanes, s.peers, s.cams, s.ins, s.zip, s.dram, s.tap, s.posted, s.free, s.out, s.pending⟩ :=
  { h with job := nofun }

theorem Keeps.chEng {s0 s v} (h : Keeps ⟨km, kn, kp, kt, false, ko, kf, kd, kc, kl, ki, kz, kg, kx, ke⟩ s0 s) :
    Keeps ⟨km, kn, kp, kt, false, ko, kf, kd, kc, kl, ki, kz, kg, kx, ke⟩ s0 ⟨s.regs, s.mem, s.now, s.fresh, s.tally, s.host, s.err, s.pwr, s.tb, s.job, v, s.smp, s.rows, s.ports, s.fld, s.mot, s.due, s.cal, s.lanes, s.peers, s.cams, s.ins, s.zip, s.dram, s.tap, s.posted, s.free, s.out, s.pending⟩ :=
  { h with eng := nofun }

theorem Keeps.chSmp {s0 s v} (h : Keeps ⟨km, kn, kp, kt, false, ko, kf, kd, kc, kl, ki, kz, kg, kx, ke⟩ s0 s) :
    Keeps ⟨km, kn, kp, kt, false, ko, kf, kd, kc, kl, ki, kz, kg, kx, ke⟩ s0 ⟨s.regs, s.mem, s.now, s.fresh, s.tally, s.host, s.err, s.pwr, s.tb, s.job, s.eng, v, s.rows, s.ports, s.fld, s.mot, s.due, s.cal, s.lanes, s.peers, s.cams, s.ins, s.zip, s.dram, s.tap, s.posted, s.free, s.out, s.pending⟩ :=
  { h with smp := nofun }

theorem Keeps.chRows {s0 s v} (h : Keeps ⟨km, kn, kp, kt, false, ko, kf, kd, kc, kl, ki, kz, kg, kx, ke⟩ s0 s) :
    Keeps ⟨km, kn, kp, kt, false, ko, kf, kd, kc, kl, ki, kz, kg, kx, ke⟩ s0 ⟨s.regs, s.mem, s.now, s.fresh, s.tally, s.host, s.err, s.pwr, s.tb, s.job, s.eng, s.smp, v, s.ports, s.fld, s.mot, s.due, s.cal, s.lanes, s.peers, s.cams, s.ins, s.zip, s.dram, s.tap, s.posted, s.free, s.out, s.pending⟩ :=
  { h with rows := nofun }

theorem Keeps.chPorts {s0 s v} (h : Keeps ⟨km, kn, kp, kt, kj, false, kf, kd, kc, kl, ki, kz, kg, kx, ke⟩ s0 s) :
    Keeps ⟨km, kn, kp, kt, kj, false, kf, kd, kc, kl, ki, kz, kg, kx, ke⟩ s0 ⟨s.regs, s.mem, s.now, s.fresh, s.tally, s.host, s.err, s.pwr, s.tb, s.job, s.eng, s.smp, s.rows, v, s.fld, s.mot, s.due, s.cal, s.lanes, s.peers, s.cams, s.ins, s.zip, s.dram, s.tap, s.posted, s.free, s.out, s.pending⟩ :=
  { h with ports := nofun }

theorem Keeps.chFld {s0 s v} (h : Keeps ⟨km, kn, kp, kt, kj, ko, false, kd, kc, kl, ki, kz, kg, kx, ke⟩ s0 s) :
    Keeps ⟨km, kn, kp, kt, kj, ko, false, kd, kc, kl, ki, kz, kg, kx, ke⟩ s0 ⟨s.regs, s.mem, s.now, s.fresh, s.tally, s.host, s.err, s.pwr, s.tb, s.job, s.eng, s.smp, s.rows, s.ports, v, s.mot, s.due, s.cal, s.lanes, s.peers, s.cams, s.ins, s.zip, s.dram, s.tap, s.posted, s.free, s.out, s.pending⟩ :=
  { h with fld := nofun }

theorem Keeps.chMot {s0 s v} (h : Keeps ⟨km, kn, kp, kt, kj, ko, false, kd, kc, kl, ki, kz, kg, kx, ke⟩ s0 s) :
    Keeps ⟨km, kn, kp, kt, kj, ko, false, kd, kc, kl, ki, kz, kg, kx, ke⟩ s0 ⟨s.regs, s.mem, s.now, s.fresh, s.tally, s.host, s.err, s.pwr, s.tb, s.job, s.eng, s.smp, s.rows, s.ports, s.fld, v, s.due, s.cal, s.lanes, s.peers, s.cams, s.ins, s.zip, s.dram, s.tap, s.posted, s.free, s.out, s.pending⟩ :=
  { h with mot := nofun }

theorem Keeps.chDue {s0 s v} (h : Keeps ⟨km, kn, kp, kt, kj, ko, kf, false, kc, kl, ki, kz, kg, kx, ke⟩ s0 s) :
    Keeps ⟨km, kn, kp, kt, kj, ko, kf, false, kc, kl, ki, kz, kg, kx, ke⟩ s0 ⟨s.regs, s.mem, s.now, s.fresh, s.tally, s.host, s.err, s.pwr, s.tb, s.job, s.eng, s.smp, s.rows, s.ports, s.fld, s.mot, v, s.cal, s.lanes, s.peers, s.cams, s.ins, s.zip, s.dram, s.tap, s.posted, s.free, s.out, s.pending⟩ :=
  { h with due := nofun }

theorem Keeps.chCal {s0 s v} (h : Keeps ⟨km, kn, kp, kt, kj, ko, kf, kd, false, kl, ki, kz, kg, kx, ke⟩ s0 s) :
    Keeps ⟨km, kn, kp, kt, kj, ko, kf, kd, false, kl, ki, kz, kg, kx, ke⟩ s0 ⟨s.regs, s.mem, s.now, s.fresh, s.tally, s.host, s.err, s.pwr, s.tb, s.job, s.eng, s.smp, s.rows, s.ports, s.fld, s.mot, s.due, v, s.lanes, s.peers, s.cams, s.ins, s.zip, s.dram, s.tap, s.posted, s.free, s.out, s.pending⟩ :=
  { h with cal := nofun }

theorem Keeps.chLanes {s0 s v} (h : Keeps ⟨km, kn, kp, kt, kj, ko, kf, kd, kc, false, ki, kz, kg, kx, ke⟩ s0 s) :
    Keeps ⟨km, kn, kp, kt, kj, ko, kf, kd, kc, false, ki, kz, kg, kx, ke⟩ s0 ⟨s.regs, s.mem, s.now, s.fresh, s.tally, s.host, s.err, s.pwr, s.tb, s.job, s.eng, s.smp, s.rows, s.ports, s.fld, s.mot, s.due, s.cal, v, s.peers, s.cams, s.ins, s.zip, s.dram, s.tap, s.posted, s.free, s.out, s.pending⟩ :=
  { h with lanes := nofun }

theorem Keeps.chPeers {s0 s v} (h : Keeps ⟨km, kn, kp, kt, kj, ko, kf, kd, kc, false, ki, kz, kg, kx, ke⟩ s0 s) :
    Keeps ⟨km, kn, kp, kt, kj, ko, kf, kd, kc, false, ki, kz, kg, kx, ke⟩ s0 ⟨s.regs, s.mem, s.now, s.fresh, s.tally, s.host, s.err, s.pwr, s.tb, s.job, s.eng, s.smp, s.rows, s.ports, s.fld, s.mot, s.due, s.cal, s.lanes, v, s.cams, s.ins, s.zip, s.dram, s.tap, s.posted, s.free, s.out, s.pending⟩ :=
  { h with peers := nofun }

theorem Keeps.chCams {s0 s v} (h : Keeps ⟨km, kn, kp, kt, kj, ko, kf, kd, kc, kl, false, kz, kg, kx, ke⟩ s0 s) :
    Keeps ⟨km, kn, kp, kt, kj, ko, kf, kd, kc, kl, false, kz, kg, kx, ke⟩ s0 ⟨s.regs, s.mem, s.now, s.fresh, s.tally, s.host, s.err, s.pwr, s.tb, s.job, s.eng, s.smp, s.rows, s.ports, s.fld, s.mot, s.due, s.cal, s.lanes, s.peers, v, s.ins, s.zip, s.dram, s.tap, s.posted, s.free, s.out, s.pending⟩ :=
  { h with cams := nofun }

theorem Keeps.chIns {s0 s v} (h : Keeps ⟨km, kn, kp, kt, kj, ko, kf, kd, kc, kl, false, kz, kg, kx, ke⟩ s0 s) :
    Keeps ⟨km, kn, kp, kt, kj, ko, kf, kd, kc, kl, false, kz, kg, kx, ke⟩ s0 ⟨s.regs, s.mem, s.now, s.fresh, s.tally, s.host, s.err, s.pwr, s.tb, s.job, s.eng, s.smp, s.rows, s.ports, s.fld, s.mot, s.due, s.cal, s.lanes, s.peers, s.cams, v, s.zip, s.dram, s.tap, s.posted, s.free, s.out, s.pending⟩ :=
  { h with ins := nofun }

theorem Keeps.chZip {s0 s v} (h : Keeps ⟨km, kn, kp, kt, kj, ko, kf, kd, kc, kl, ki, false, kg, kx, ke⟩ s0 s) :
    Keeps ⟨km, kn, kp, kt, kj, ko, kf, kd, kc, kl, ki, false, kg, kx, ke⟩ s0 ⟨s.regs, s.mem, s.now, s.fresh, s.tally, s.host, s.err, s.pwr, s.tb, s.job, s.eng, s.smp, s.rows, s.ports, s.fld, s.mot, s.due, s.cal, s.lanes, s.peers, s.cams, s.ins, v, s.dram, s.tap, s.posted, s.free, s.out, s.pending⟩ :=
  { h with zip := nofun }

theorem Keeps.chDram {s0 s v} (h : Keeps ⟨km, kn, kp, kt, kj, ko, kf, kd, kc, kl, ki, kz, false, kx, ke⟩ s0 s) :
    Keeps ⟨km, kn, kp, kt, kj, ko, kf, kd, kc, kl, ki, kz, false, kx, ke⟩ s0 ⟨s.regs, s.mem, s.now, s.fresh, s.tally, s.host, s.err, s.pwr, s.tb, s.job, s.eng, s.smp, s.rows, s.ports, s.fld, s.mot, s.due, s.cal, s.lanes, s.peers, s.cams, s.ins, s.zip, v, s.tap, s.posted, s.free, s.out, s.pending⟩ :=
  { h with dram := nofun }

theorem Keeps.chTap {s0 s v} (h : Keeps ⟨km, kn, kp, kt, kj, ko, kf, kd, kc, kl, ki, kz, kg, false, ke⟩ s0 s) :
    Keeps ⟨km, kn, kp, kt, kj, ko, kf, kd, kc, kl, ki, kz, kg, false, ke⟩ s0 ⟨s.regs, s.mem, s.now, s.fresh, s.tally, s.host, s.err, s.pwr, s.tb, s.job, s.eng, s.smp, s.rows, s.ports, s.fld, s.mot, s.due, s.cal, s.lanes, s.peers, s.cams, s.ins, s.zip, s.dram, v, s.posted, s.free, s.out, s.pending⟩ :=
  { h with tap := nofun }

theorem Keeps.chPosted {s0 s v} (h : Keeps k s0 s) :
    Keeps k s0 ⟨s.regs, s.mem, s.now, s.fresh, s.tally, s.host, s.err, s.pwr, s.tb, s.job, s.eng, s.smp, s.rows, s.ports, s.fld, s.mot, s.due, s.cal, s.lanes, s.peers, s.cams, s.ins, s.zip, s.dram, s.tap, v, s.free, s.out, s.pending⟩ :=
  { h with }

theorem Keeps.chFree {s0 s v} (h : Keeps k s0 s) :
    Keeps k s0 ⟨s.regs, s.mem, s.now, s.fresh, s.tally, s.host, s.err, s.pwr, s.tb, s.job, s.eng, s.smp, s.rows, s.ports, s.fld, s.mot, s.due, s.cal, s.lanes, s.peers, s.cams, s.ins, s.zip, s.dram, s.tap, s.posted, v, s.out, s.pending⟩ :=
  { h with }

theorem Keeps.chOut {s0 s v} (h : Keeps k s0 s) :
    Keeps k s0 ⟨s.regs, s.mem, s.now, s.fresh, s.tally, s.host, s.err, s.pwr, s.tb, s.job, s.eng, s.smp, s.rows, s.ports, s.fld, s.mot, s.due, s.cal, s.lanes, s.peers, s.cams, s.ins, s.zip, s.dram, s.tap, s.posted, s.free, v, s.pending⟩ :=
  { h with }

/-- A record update that takes entries out of the register file and leaves the rest. -/
theorem Keeps.filtered {s0 s} {p : Nat × Word → Bool} (h : Keeps k s0 s) :
    Keeps k s0 ⟨s.regs.filter p, s.mem, s.now, s.fresh, s.tally, s.host, s.err, s.pwr, s.tb, s.job, s.eng, s.smp, s.rows, s.ports, s.fld, s.mot, s.due, s.cal, s.lanes, s.peers, s.cams, s.ins, s.zip, s.dram, s.tap, s.posted, s.free, s.out, s.pending⟩ :=
  { h with wf := fun w => ⟨Sparse.filter_wf _ _ (h.wf w).1, (h.wf w).2⟩ }

/-! ### Branches, pairs and folds -/

theorem Keeps.ite {s0 a b : State} {c : Prop} {_ : Decidable c} (ha : Keeps k s0 a) (hb : Keeps k s0 b) :
    Keeps k s0 (if c then a else b) := by
  split
  · exact ha
  · exact hb

theorem Keeps.ite1 {α : Type} {s0 : State} {a b : State × α} {c : Prop} {_ : Decidable c} (ha : Keeps k s0 a.1)
    (hb : Keeps k s0 b.1) : Keeps k s0 (if c then a else b).1 := by
  split
  · exact ha
  · exact hb

theorem Keeps.ite2 {α : Type} {s0 : State} {a b : α × State} {c : Prop} {_ : Decidable c} (ha : Keeps k s0 a.2)
    (hb : Keeps k s0 b.2) : Keeps k s0 (if c then a else b).2 := by
  split
  · exact ha
  · exact hb

theorem Keeps.fst {α : Type} {s0 t : State} {p : State × α} {a : α} (e : p = (t, a)) (h : Keeps k s0 p.1) : Keeps k s0 t := by
  subst e
  exact h

theorem Keeps.snd {α : Type} {s0 t : State} {p : α × State} {a : α} (e : p = (a, t)) (h : Keeps k s0 p.2) : Keeps k s0 t := by
  subst e
  exact h

theorem Keeps.thd {α β : Type} {s0 t : State} {p : α × β × State} {a : α} {b : β} (e : p = (a, b, t)) (h : Keeps k s0 p.2.2) :
    Keeps k s0 t := by
  subst e
  exact h

theorem Keeps.fth {α β γ : Type} {s0 t : State} {p : α × β × γ × State} {a : α} {b : β} {c : γ} (e : p = (a, b, c, t))
    (h : Keeps k s0 p.2.2.2) : Keeps k s0 t := by
  subst e
  exact h

/-- Where each element's change keeps, so do all in turn. -/
theorem Keeps.each {α : Type} {s0 s : State} {l : List α} {f : α → State → State} (h : Keeps k s0 s)
    (hf : ∀ x t, Keeps k s0 t → Keeps k s0 (f x t)) : Keeps k s0 (s.each l f) := by
  unfold State.each
  induction l generalizing s with
  | nil => exact h
  | cons x l ih => exact ih (hf x s h)

theorem Keeps.when {s0 s : State} {c : Bool} {f : State → State} (h : Keeps k s0 s) (hf : ∀ t, Keeps k s0 t → Keeps k s0 (f t)) :
    Keeps k s0 (s.when c f) := by
  unfold State.when
  split
  · exact hf s h
  · exact h

theorem Keeps.foldl {α : Type} {s0 s : State} {l : List α} {f : State → α → State} (h : Keeps k s0 s)
    (hf : ∀ t x, Keeps k s0 t → Keeps k s0 (f t x)) : Keeps k s0 (l.foldl f s) := by
  induction l generalizing s with
  | nil => exact h
  | cons x l ih => exact ih (hf s x h)

/-- A fold whose value holds a state. -/
theorem Keeps.foldlVia {α β : Type} {s0 : State} {π : β → State} {f : β → α → β}
    (hf : ∀ b x, Keeps k s0 (π b) → Keeps k s0 (π (f b x))) {l : List α} : ∀ {b : β}, Keeps k s0 (π b) → Keeps k s0 (π (l.foldl f b)) := by
  induction l with
  | nil => intro b h; exact h
  | cons x l ih => intro b h; exact ih (hf b x h)

/-! ### Writes of one register, and of memory -/

theorem Keeps.setWord {s0 s : State} {a : Nat} {v : Word} (h : Keeps k s0 s) : Keeps k s0 (s.setWord a v) :=
  { h with wf := fun w => ⟨Sparse.put_wf _ (h.wf w).1 _ _, (h.wf w).2⟩ }

theorem Keeps.put {s0 s : State} {f : Fld} {v : Nat} (h : Keeps k s0 s) : Keeps k s0 (s.put f v) :=
  { h with wf := fun w => ⟨Sparse.put_wf _ (h.wf w).1 _ _, (h.wf w).2⟩ }

theorem Keeps.put64 {s0 s : State} {p : Pair} {v : Nat} (h : Keeps k s0 s) : Keeps k s0 (s.put64 p v) := h.setWord.setWord

theorem Keeps.setByte {s0 s : State} {a : Nat} {v : Byte} (h : Keeps ⟨false, kn, kp, kt, kj, ko, kf, kd, kc, kl, ki, kz, kg, kx, ke⟩ s0 s) :
    Keeps ⟨false, kn, kp, kt, kj, ko, kf, kd, kc, kl, ki, kz, kg, kx, ke⟩ s0 (s.setByte a v) :=
  { h with wf := fun w => ⟨(h.wf w).1, Sparse.put_wf _ (h.wf w).2 _ _⟩, mem := nofun }

theorem Keeps.setBytes {s0 : State} {bs : List Byte} : ∀ {s : State} {a : Nat}, Keeps ⟨false, kn, kp, kt, kj, ko, kf, kd, kc, kl, ki, kz, kg, kx, ke⟩ s0 s →
    Keeps ⟨false, kn, kp, kt, kj, ko, kf, kd, kc, kl, ki, kz, kg, kx, ke⟩ s0 (s.setBytes a bs) := by
  induction bs with
  | nil => intro s a h; exact h
  | cons b bs ih => intro s a h; exact ih h.setByte

/-! ### A command's outcome -/

/-- What a command's meaning keeps, where it answers a next state. -/
def OutKeeps (k : Kept) (s0 : State) (o : Host.Outcome State Fault Refusal) : Prop := ∀ t, o = .next t → Keeps k s0 t

theorem OutKeeps.next {s0 t : State} (h : Keeps k s0 t) : OutKeeps k s0 (.next t) := by
  intro u e
  cases e
  exact h

end Sys2Proof.Machine
end

