-- ==== Sys2Proof/Laws/KeepsOps.lean ====
section
/-! SUPPORT. What the operations on the registers, the ports, the Starmap, the rings and the lines keep: the queue, the canonical maps and every part of the state that the operation does not change (the parts that its lemma leaves free). One lemma for each operation. -/

namespace Sys2Proof.Machine

variable {km kn kp kt kj ko kf kd kc kl ki kz kg kx ke : Bool}
variable {k : Kept}

theorem Keeps.putI {s0 s a2 a3} (h : Keeps ⟨km, kn, kp, kt, kj, ko, kf, kd, kc, kl, ki, kz, kg, kx, ke⟩ s0 s) : Keeps ⟨km, kn, kp, kt, kj, ko, kf, kd, kc, kl, ki, kz, kg, kx, ke⟩ s0 (State.putI s a2 a3) := by
  unfold State.putI
  exact h.put

theorem Keeps.putB {s0 s a2 a3} (h : Keeps ⟨km, kn, kp, kt, kj, ko, kf, kd, kc, kl, ki, kz, kg, kx, ke⟩ s0 s) : Keeps ⟨km, kn, kp, kt, kj, ko, kf, kd, kc, kl, ki, kz, kg, kx, ke⟩ s0 (State.putB s a2 a3) := by
  unfold State.putB
  exact h.put

theorem Keeps.putSat {s0 s a2 a3} (h : Keeps ⟨km, kn, kp, kt, kj, ko, kf, kd, kc, kl, ki, kz, kg, kx, ke⟩ s0 s) : Keeps ⟨km, kn, kp, kt, kj, ko, kf, kd, kc, kl, ki, kz, kg, kx, ke⟩ s0 (State.putSat s a2 a3) := by
  unfold State.putSat
  exact h.putI

theorem Keeps.count {s0 s a2 a3} (h : Keeps ⟨km, kn, kp, kt, kj, ko, kf, kd, kc, kl, ki, kz, kg, kx, ke⟩ s0 s) : Keeps ⟨km, kn, kp, kt, kj, ko, kf, kd, kc, kl, ki, kz, kg, kx, ke⟩ s0 (State.count s a2 a3) := by
  unfold State.count
  exact h.put

theorem Keeps.putI64 {s0 s a2 a3} (h : Keeps ⟨km, kn, kp, kt, kj, ko, kf, kd, kc, kl, ki, kz, kg, kx, ke⟩ s0 s) : Keeps ⟨km, kn, kp, kt, kj, ko, kf, kd, kc, kl, ki, kz, kg, kx, ke⟩ s0 (State.putI64 s a2 a3) := by
  unfold State.putI64
  exact h.put64

theorem Keeps.send {s0 s a2} (h : Keeps ⟨km, kn, kp, kt, kj, ko, kf, kd, kc, kl, ki, kz, kg, kx, ke⟩ s0 s) : Keeps ⟨km, kn, kp, kt, kj, ko, kf, kd, kc, kl, ki, kz, kg, kx, ke⟩ s0 (State.send s a2) := by
  unfold State.send
  exact h.chOut

theorem Keeps.drawn {s0 s} (h : Keeps ⟨km, kn, kp, kt, kj, ko, kf, kd, kc, kl, ki, kz, kg, kx, ke⟩ s0 s) : Keeps ⟨km, kn, kp, kt, kj, ko, kf, kd, kc, kl, ki, kz, kg, kx, ke⟩ s0 (State.drawn s) := by
  unfold State.drawn
  exact h.chFree

theorem Keeps.pmcAdd {s0 s a2 a3} (h : Keeps ⟨km, kn, kp, kt, kj, ko, kf, kd, kc, kl, ki, kz, kg, kx, ke⟩ s0 s) : Keeps ⟨km, kn, kp, kt, kj, ko, kf, kd, kc, kl, ki, kz, kg, kx, ke⟩ s0 (State.pmcAdd s a2 a3) := by
  unfold State.pmcAdd
  extract_lets -underBinder x1 x2 x3 x4
  have h5 : Keeps h.kept s0 x3 := h.put64
  exact Keeps.ite h h5.chTally

theorem Keeps.setRing {s0 s a2 a3} (h : Keeps ⟨km, kn, kp, kt, kj, ko, kf, kd, kc, kl, ki, kz, kg, kx, ke⟩ s0 s) : Keeps ⟨km, kn, kp, kt, kj, ko, kf, kd, kc, kl, ki, kz, kg, kx, ke⟩ s0 (State.setRing s a2 a3) := by
  unfold State.setRing
  extract_lets -underBinder x1
  exact h.chHost

theorem Keeps.msixSend {s0 s a2 a3} (h : Keeps ⟨km, kn, kp, kt, kj, ko, kf, kd, kc, kl, ki, kz, kg, kx, ke⟩ s0 s) : Keeps ⟨km, kn, kp, kt, kj, ko, kf, kd, kc, kl, ki, kz, kg, kx, ke⟩ s0 (State.msixSend s a2 a3) := by
  unfold State.msixSend
  extract_lets -underBinder x1
  exact Keeps.ite h.put h.send.pmcAdd.pmcAdd

theorem Keeps.moderate {s0 s a2 a3} (h : Keeps ⟨km, kn, kp, kt, kj, ko, kf, kd, kc, kl, ki, kz, kg, kx, ke⟩ s0 s) : Keeps ⟨km, kn, kp, kt, kj, ko, kf, kd, kc, kl, ki, kz, kg, kx, ke⟩ s0 (State.moderate s a2 a3) := by
  unfold State.moderate
  extract_lets -underBinder x1 x2
  exact Keeps.ite h.setRing.msixSend h.setRing

theorem Keeps.writeRecord {s0 s a2 a3 a4} (h : Keeps ⟨km, kn, kp, kt, kj, ko, kf, kd, kc, kl, ki, kz, kg, kx, ke⟩ s0 s) : Keeps ⟨km, kn, kp, kt, kj, ko, kf, kd, kc, kl, ki, kz, kg, kx, ke⟩ s0 (State.writeRecord s a2 a3 a4) := by
  unfold State.writeRecord
  extract_lets -underBinder x1 x2 x3 x4
  have h6 : Keeps h.kept s0 x2 := h.send
  have h7 : Keeps h.kept s0 x3 := h6.put
  have h9 : Keeps h.kept s0 x4 := h7.when (fun _ h10 => h10.put)
  exact h9.pmcAdd.moderate

theorem Keeps.eventTo {s0 a1 a2 a3 s} (h : Keeps ⟨km, kn, kp, kt, kj, ko, kf, kd, kc, kl, ki, kz, kg, kx, ke⟩ s0 s) : Keeps ⟨km, kn, kp, kt, kj, ko, kf, kd, kc, kl, ki, kz, kg, kx, ke⟩ s0 (State.eventTo a1 a2 a3 s) := by
  unfold State.eventTo
  extract_lets -underBinder x1 x2
  exact Keeps.ite h.setRing.writeRecord.count.pmcAdd h.setRing

theorem Keeps.post {s0 s a2} (h : Keeps ⟨km, kn, kp, kt, kj, ko, kf, kd, kc, kl, ki, kz, kg, kx, ke⟩ s0 s) : Keeps ⟨km, kn, kp, kt, kj, ko, kf, kd, kc, kl, ki, kz, kg, kx, ke⟩ s0 (State.post s a2) := by
  unfold State.post
  extract_lets -underBinder x1 x2 x3
  exact (h.drawn.each (fun _ _ h6 => h6.eventTo)).when (fun _ h7 => h7.count.pmcAdd)

theorem Keeps.postLimited {s0 s a2 a3 a4} (h : Keeps ⟨km, kn, kp, kt, kj, ko, kf, kd, kc, kl, ki, kz, kg, kx, ke⟩ s0 s) : Keeps ⟨km, kn, kp, kt, kj, ko, kf, kd, kc, kl, ki, kz, kg, kx, ke⟩ s0 (State.postLimited s a2 a3 a4) := by
  unfold State.postLimited
  extract_lets -underBinder x1
  split
  · exact Keeps.ite h.chPosted.post h
  · exact h.chPosted.post

theorem Keeps.setWords {s0 : State} {l : List Nat} : ∀ {s : State} {a : Nat}, Keeps ⟨km, kn, kp, kt, kj, ko, kf, kd, kc, kl, ki, kz, kg, kx, ke⟩ s0 s → Keeps ⟨km, kn, kp, kt, kj, ko, kf, kd, kc, kl, ki, kz, kg, kx, ke⟩ s0 (s.setWords a l) := by
  induction l with
  | nil => intro s a h; exact h
  | cons x l ih => intro s a h; exact ih h.setWord

theorem Keeps.logAt {s0 s a2 a3} (h : Keeps ⟨km, kn, kp, kt, kj, ko, kf, kd, kc, kl, ki, kz, kg, kx, ke⟩ s0 s) : Keeps ⟨km, kn, kp, kt, kj, ko, kf, kd, kc, kl, ki, kz, kg, kx, ke⟩ s0 (State.logAt s a2 a3) := by
  unfold State.logAt
  exact h.setWords

theorem Keeps.errFirst {s0 s a2 a3} (h : Keeps ⟨km, kn, kp, kt, kj, ko, kf, kd, kc, kl, ki, kz, kg, kx, ke⟩ s0 s) : Keeps ⟨km, kn, kp, kt, kj, ko, kf, kd, kc, kl, ki, kz, kg, kx, ke⟩ s0 (State.errFirst s a2 a3) := by
  unfold State.errFirst
  extract_lets -underBinder x1 x2
  split
  · exact h
  · exact h.setWords

theorem Keeps.errRecord {s0 s a2} (h : Keeps ⟨km, kn, kp, kt, kj, ko, kf, kd, kc, kl, ki, kz, kg, kx, false⟩ s0 s) : Keeps ⟨km, kn, kp, kt, kj, ko, kf, kd, kc, kl, ki, kz, kg, kx, false⟩ s0 (State.errRecord s a2) := by
  unfold State.errRecord
  extract_lets -underBinder x1 x2 x3 x4 x5 x6 x7 x8 x9 x10 x11 x12 x13 x14 x15 x16
  have h19 : Keeps h.kept s0 x9 := h.drawn.each (fun _ _ h20 => h20.logAt)
  have h21 : Keeps h.kept s0 x11 := h19.errFirst
  have h22 : Keeps h.kept s0 x15 := h21.chErr
  have h24 : Keeps h.kept s0 x16 := h22.when (fun _ h25 => h25.put.count)
  exact h24.put.pmcAdd

theorem Keeps.errOutcome {s0 s a2 a3 a4 a5} (h : Keeps ⟨km, kn, kp, kt, kj, ko, kf, kd, kc, kl, ki, kz, kg, kx, ke⟩ s0 s) : Keeps ⟨km, kn, kp, kt, kj, ko, kf, kd, kc, kl, ki, kz, kg, kx, ke⟩ s0 (State.errOutcome s a2 a3 a4 a5) := by
  unfold State.errOutcome
  extract_lets -underBinder x1 x2 x3
  have h5 : Keeps h.kept s0 x3 := h.when (fun _ h6 => h6.put)
  exact Keeps.ite h5.post.count.pmcAdd (Keeps.ite h5.post.count.pmcAdd h5)

theorem Keeps.testStarted {s0 s} (h : Keeps ⟨km, kn, kp, kt, kj, ko, kf, kd, kc, kl, ki, kz, kg, kx, ke⟩ s0 s) : Keeps ⟨km, kn, kp, kt, kj, ko, kf, kd, kc, kl, ki, kz, kg, kx, ke⟩ s0 (State.testStarted s) := by
  unfold State.testStarted
  exact h.count.pmcAdd

theorem Keeps.setPort {s0 s a2 a3} (h : Keeps ⟨km, kn, kp, kt, kj, false, kf, kd, kc, kl, ki, kz, kg, kx, ke⟩ s0 s) : Keeps ⟨km, kn, kp, kt, kj, false, kf, kd, kc, kl, ki, kz, kg, kx, ke⟩ s0 (State.setPort s a2 a3) := by
  unfold State.setPort
  exact h.chPorts

theorem Keeps.setRow {s0 s a2 a3} (h : Keeps ⟨km, kn, kp, kt, false, ko, kf, kd, kc, kl, ki, kz, kg, kx, ke⟩ s0 s) : Keeps ⟨km, kn, kp, kt, false, ko, kf, kd, kc, kl, ki, kz, kg, kx, ke⟩ s0 (State.setRow s a2 a3) := by
  unfold State.setRow
  exact h.chRows

theorem Keeps.setPeer {s0 s a2 a3} (h : Keeps ⟨km, kn, kp, kt, kj, ko, kf, kd, kc, false, ki, kz, kg, kx, ke⟩ s0 s) : Keeps ⟨km, kn, kp, kt, kj, ko, kf, kd, kc, false, ki, kz, kg, kx, ke⟩ s0 (State.setPeer s a2 a3) := by
  unfold State.setPeer
  exact h.chPeers

theorem Keeps.setTx {s0 s a2 a3} (h : Keeps ⟨km, kn, kp, kt, kj, false, kf, kd, kc, false, ki, kz, kg, kx, ke⟩ s0 s) : Keeps ⟨km, kn, kp, kt, kj, false, kf, kd, kc, false, ki, kz, kg, kx, ke⟩ s0 (State.setTx s a2 a3) := by
  unfold State.setTx
  exact Keeps.ite h.setPort h.setPeer

theorem Keeps.txSend {s0 a1 a2 a3 a4 a5 s} (h : Keeps ⟨km, kn, kp, kt, kj, false, kf, kd, kc, false, ki, kz, kg, kx, ke⟩ s0 s) : Keeps ⟨km, kn, kp, kt, kj, false, kf, kd, kc, false, ki, kz, kg, kx, ke⟩ s0 (State.txSend a1 a2 a3 a4 a5 s) := by
  unfold State.txSend
  extract_lets -underBinder x1 x2 x3 x4
  exact h.setTx.send

theorem Keeps.sendBlocks {s0 a1 a2 s} (h : Keeps ⟨km, kn, kp, kt, kj, false, kf, kd, kc, false, ki, kz, kg, kx, ke⟩ s0 s) : Keeps ⟨km, kn, kp, kt, kj, false, kf, kd, kc, false, ki, kz, kg, kx, ke⟩ s0 (State.sendBlocks a1 a2 s) := by
  unfold State.sendBlocks
  exact h.txSend

theorem Keeps.sendAll {s0 a1 a2 s} (h : Keeps ⟨km, kn, kp, kt, kj, false, kf, kd, kc, false, ki, kz, kg, kx, ke⟩ s0 s) : Keeps ⟨km, kn, kp, kt, kj, false, kf, kd, kc, false, ki, kz, kg, kx, ke⟩ s0 (State.sendAll a1 a2 s) := by
  unfold State.sendAll
  exact h.txSend

theorem Keeps.sendNow {s0 a1 a2 s} (h : Keeps ⟨km, kn, kp, kt, kj, false, kf, kd, kc, false, ki, kz, kg, kx, ke⟩ s0 s) : Keeps ⟨km, kn, kp, kt, kj, false, kf, kd, kc, false, ki, kz, kg, kx, ke⟩ s0 (State.sendNow a1 a2 s) := by
  unfold State.sendNow
  exact h.txSend

theorem Keeps.txCut {s0 a1 s} (h : Keeps ⟨km, kn, kp, kt, kj, false, kf, kd, kc, false, ki, kz, kg, kx, ke⟩ s0 s) : Keeps ⟨km, kn, kp, kt, kj, false, kf, kd, kc, false, ki, kz, kg, kx, ke⟩ s0 (State.txCut a1 s) := by
  unfold State.txCut
  exact Keeps.ite h h.setTx.send

theorem Keeps.sendTrain {s0 a1 a2 a3 a4 s} (h : Keeps ⟨km, kn, kp, kt, kj, false, kf, kd, kc, false, ki, kz, kg, kx, ke⟩ s0 s) : Keeps ⟨km, kn, kp, kt, kj, false, kf, kd, kc, false, ki, kz, kg, kx, ke⟩ s0 (State.sendTrain a1 a2 a3 a4 s) := by
  unfold State.sendTrain
  exact h.txSend.setTx

theorem Keeps.scramblerOn {s0 a1 s} (h : Keeps ⟨km, kn, kp, kt, kj, false, kf, kd, kc, false, ki, kz, kg, kx, ke⟩ s0 s) : Keeps ⟨km, kn, kp, kt, kj, false, kf, kd, kc, false, ki, kz, kg, kx, ke⟩ s0 (State.scramblerOn a1 s) := by
  unfold State.scramblerOn
  exact h.drawn.setTx

theorem Keeps.enterData {s0 a1 s} (h : Keeps ⟨km, kn, kp, kt, kj, false, kf, kd, kc, false, ki, kz, kg, kx, ke⟩ s0 s) : Keeps ⟨km, kn, kp, kt, kj, false, kf, kd, kc, false, ki, kz, kg, kx, ke⟩ s0 (State.enterData a1 s) := by
  unfold State.enterData
  exact h.sendTrain.scramblerOn.sendBlocks

theorem Keeps.fillTo {s0 a1 a2 a3 a4 a5 s} (h : Keeps ⟨km, kn, kp, kt, kj, false, kf, kd, kc, false, ki, kz, kg, kx, ke⟩ s0 s) : Keeps ⟨km, kn, kp, kt, kj, false, kf, kd, kc, false, ki, kz, kg, kx, ke⟩ s0 (State.fillTo a1 a2 a3 a4 a5 s) := by
  unfold State.fillTo
  extract_lets -underBinder x1 x2
  exact Keeps.ite h.txSend h.txSend.setTx

theorem Keeps.txReset {s0 a1 s} (h : Keeps ⟨km, kn, kp, kt, kj, false, kf, kd, kc, false, ki, kz, kg, kx, ke⟩ s0 s) : Keeps ⟨km, kn, kp, kt, kj, false, kf, kd, kc, false, ki, kz, kg, kx, ke⟩ s0 (State.txReset a1 s) := by
  unfold State.txReset
  exact h.setTx

theorem Keeps.peerPut {s0 a1 a2 s} (h : Keeps ⟨km, kn, kp, kt, kj, ko, kf, kd, kc, false, ki, kz, kg, kx, ke⟩ s0 s) : Keeps ⟨km, kn, kp, kt, kj, ko, kf, kd, kc, false, ki, kz, kg, kx, ke⟩ s0 (State.peerPut a1 a2 s) := by
  unfold State.peerPut
  exact Keeps.ite h h.setPeer

theorem Keeps.peerDrain {s0 a1 s} (h : Keeps ⟨km, kn, kp, kt, kj, false, kf, kd, kc, false, ki, kz, kg, kx, ke⟩ s0 s) : Keeps ⟨km, kn, kp, kt, kj, false, kf, kd, kc, false, ki, kz, kg, kx, ke⟩ s0 (State.peerDrain a1 s) := by
  unfold State.peerDrain
  split
  · exact h
  · extract_lets -underBinder x7
    refine (Keeps.ite h ?_)
    have h8 : Keeps h.kept s0 x7 := h.setPeer
    split
    · exact h8.send
    · exact h8.sendBlocks

theorem Keeps.retime {s0 s} (h : Keeps ⟨km, kn, kp, kt, kj, false, kf, kd, kc, false, ki, kz, kg, kx, ke⟩ s0 s) : Keeps ⟨km, kn, kp, kt, kj, false, kf, kd, kc, false, ki, kz, kg, kx, ke⟩ s0 (State.retime s) := by
  unfold State.retime
  exact { h with ports := nofun, peers := nofun }

theorem Keeps.setDram {s0 s a2} (h : Keeps ⟨km, kn, kp, kt, kj, ko, kf, kd, kc, kl, ki, kz, false, kx, ke⟩ s0 s) : Keeps ⟨km, kn, kp, kt, kj, ko, kf, kd, kc, kl, ki, kz, false, kx, ke⟩ s0 (State.setDram s a2) := by
  unfold State.setDram
  exact h.chDram

theorem Keeps.rankUsed {s0 s a2 a3} (h : Keeps ⟨km, kn, kp, kt, kj, ko, kf, kd, kc, kl, ki, kz, false, kx, ke⟩ s0 s) : Keeps ⟨km, kn, kp, kt, kj, ko, kf, kd, kc, kl, ki, kz, false, kx, ke⟩ s0 (State.rankUsed s a2 a3) := by
  unfold State.rankUsed
  exact h.setDram

theorem Keeps.setSubQ {s0 s a2 a3} (h : Keeps ⟨km, kn, kp, kt, kj, ko, kf, kd, kc, kl, ki, kz, false, kx, ke⟩ s0 s) : Keeps ⟨km, kn, kp, kt, kj, ko, kf, kd, kc, kl, ki, kz, false, kx, ke⟩ s0 (State.setSubQ s a2 a3) := by
  unfold State.setSubQ
  exact h.setDram

theorem Keeps.accepted {s0 s} (h : Keeps ⟨km, kn, kp, kt, kj, ko, kf, kd, kc, kl, ki, kz, false, kx, ke⟩ s0 s) : Keeps ⟨km, kn, kp, kt, kj, ko, kf, kd, kc, kl, ki, kz, false, kx, ke⟩ s0 (State.accepted s) := by
  unfold State.accepted
  exact h.setDram

theorem Keeps.acceptWrite {s0 a1 a2 s} (h : Keeps ⟨km, kn, kp, kt, kj, ko, kf, kd, kc, kl, ki, kz, false, kx, ke⟩ s0 s) : Keeps ⟨km, kn, kp, kt, kj, ko, kf, kd, kc, kl, ki, kz, false, kx, ke⟩ s0 (State.acceptWrite a1 a2 s) := by
  unfold State.acceptWrite
  split
  · exact h
  · extract_lets -underBinder x7 x8 x9
    exact Keeps.ite h.setSubQ h.accepted.setSubQ

theorem Keeps.acceptTick {s0 a1 a2 s} (h : Keeps ⟨km, kn, kp, kt, kj, ko, kf, kd, kc, kl, ki, kz, false, kx, ke⟩ s0 s) : Keeps ⟨km, kn, kp, kt, kj, ko, kf, kd, kc, kl, ki, kz, false, kx, ke⟩ s0 (State.acceptTick a1 a2 s) := by
  unfold State.acceptTick
  split
  · exact h
  · extract_lets -underBinder x7 x8
    exact h.accepted.rankUsed.setSubQ

theorem Keeps.issue {s0 s a2 a3} (h : Keeps ⟨km, kn, kp, kt, kj, ko, kf, kd, kc, kl, ki, kz, false, kx, ke⟩ s0 s) : Keeps ⟨km, kn, kp, kt, kj, ko, kf, kd, kc, kl, ki, kz, false, kx, ke⟩ s0 (State.issue s a2 a3) := by
  unfold State.issue
  extract_lets -underBinder x1 x2
  have h4 : Keeps h.kept s0 x1 := h.each (fun _ _ h5 => h5.rankUsed)
  exact h4.setSubQ

theorem Keeps.tickServed {s0 a1 a2 s} (h : Keeps ⟨km, kn, kp, kt, kj, ko, kf, kd, kc, kl, ki, kz, false, kx, ke⟩ s0 s) : Keeps ⟨km, kn, kp, kt, kj, ko, kf, kd, kc, kl, ki, kz, false, kx, ke⟩ s0 (State.tickServed a1 a2 s) := by
  unfold State.tickServed
  extract_lets -underBinder x1
  split
  · exact h
  · extract_lets -underBinder x7 x8 x9 x10
    have h12 : Keeps h.kept s0 x7 := h.issue
    have h13 : Keeps h.kept s0 x10 := h12.setSubQ
    exact Keeps.ite h13 (h13.each (fun _ _ h15 => h15.accepted.setSubQ))

theorem Keeps.acceptRead {s0 a1 s} (h : Keeps ⟨km, kn, kp, kt, kj, ko, kf, kd, kc, kl, ki, kz, false, kx, ke⟩ s0 s) : Keeps ⟨km, kn, kp, kt, kj, ko, kf, kd, kc, kl, ki, kz, false, kx, ke⟩ s0 (State.acceptRead a1 s) := by
  unfold State.acceptRead
  split
  · exact h
  · extract_lets -underBinder x7 x8
    have h9 : Keeps h.kept s0 x8 := by
      unfold x8
      split
      · exact h
      · exact h.issue
    exact h9.accepted.rankUsed

theorem Keeps.dramStore {s0 s a2 a3 a4} (h : Keeps ⟨false, kn, kp, kt, kj, ko, kf, kd, kc, kl, ki, kz, false, kx, ke⟩ s0 s) : Keeps ⟨false, kn, kp, kt, kj, ko, kf, kd, kc, kl, ki, kz, false, kx, ke⟩ s0 (State.dramStore s a2 a3 a4) := by
  unfold State.dramStore
  exact h.setBytes.each (fun _ _ h2 => h2.acceptWrite)

theorem Keeps.dramLoad {s0 s a2 a3} (h : Keeps ⟨km, kn, kp, kt, kj, ko, kf, kd, kc, kl, ki, kz, false, kx, ke⟩ s0 s) : Keeps ⟨km, kn, kp, kt, kj, ko, kf, kd, kc, kl, ki, kz, false, kx, ke⟩ s0 (State.dramLoad s a2 a3) := by
  unfold State.dramLoad
  exact h.each (fun _ _ h2 => h2.acceptRead)

theorem Keeps.subTick {s0 a1 s} (h : Keeps ⟨km, kn, kp, kt, kj, ko, kf, kd, kc, kl, ki, kz, false, kx, ke⟩ s0 s) : Keeps ⟨km, kn, kp, kt, kj, ko, kf, kd, kc, kl, ki, kz, false, kx, ke⟩ s0 (State.subTick a1 s) := by
  unfold State.subTick
  refine (Keeps.ite h ?_)
  split
  · exact h
  · extract_lets -underBinder x8
    exact h.setSubQ.issue

theorem Keeps.dramTick {s0 s} (h : Keeps ⟨km, kn, kp, kt, kj, ko, kf, kd, kc, kl, ki, kz, false, kx, ke⟩ s0 s) : Keeps ⟨km, kn, kp, kt, kj, ko, kf, kd, kc, kl, ki, kz, false, kx, ke⟩ s0 (State.dramTick s) := by
  unfold State.dramTick
  exact h.each (fun _ _ h2 => h2.subTick)

theorem Keeps.putEntry {s0 s a2 a3} (h : Keeps ⟨false, kn, kp, kt, kj, ko, kf, kd, kc, kl, ki, kz, false, kx, ke⟩ s0 s) : Keeps ⟨false, kn, kp, kt, kj, ko, kf, kd, kc, kl, ki, kz, false, kx, ke⟩ s0 (State.putEntry s a2 a3) := by
  unfold State.putEntry
  exact h.dramStore

theorem Keeps.foldRec {s0 s a2} (h : Keeps ⟨km, kn, kp, kt, false, ko, kf, kd, kc, kl, ki, kz, kg, kx, ke⟩ s0 s) : Keeps ⟨km, kn, kp, kt, false, ko, kf, kd, kc, kl, ki, kz, kg, kx, ke⟩ s0 (State.foldRec s a2) := by
  unfold State.foldRec
  extract_lets -underBinder x1
  exact h.chSmp

theorem Keeps.trimBase {s0 s a2} (h : Keeps ⟨km, kn, kp, kt, false, ko, kf, kd, kc, kl, ki, kz, kg, kx, ke⟩ s0 s) : Keeps ⟨km, kn, kp, kt, false, ko, kf, kd, kc, kl, ki, kz, kg, kx, ke⟩ s0 (State.trimBase s a2) := by
  unfold State.trimBase
  extract_lets -underBinder x1
  exact Keeps.ite h.chSmp h

theorem Keeps.foldRecs {s0 s a2} (h : Keeps ⟨km, kn, kp, kt, false, ko, kf, kd, kc, kl, ki, kz, kg, kx, ke⟩ s0 s) : Keeps ⟨km, kn, kp, kt, false, ko, kf, kd, kc, kl, ki, kz, kg, kx, ke⟩ s0 (State.foldRecs s a2) := by
  unfold State.foldRecs
  extract_lets -underBinder x1
  exact (h.each (fun _ _ h4 => h4.foldRec)).each (fun _ _ h5 => h5.trimBase)

theorem Keeps.showBarGain {s0 s a2} (h : Keeps ⟨km, kn, kp, kt, kj, ko, kf, kd, kc, kl, ki, kz, kg, kx, ke⟩ s0 s) : Keeps ⟨km, kn, kp, kt, kj, ko, kf, kd, kc, kl, ki, kz, kg, kx, ke⟩ s0 (State.showBarGain s a2) := by
  unfold State.showBarGain
  split
  · exact Keeps.ite h h.put

theorem Keeps.spareAlarm {s0 s a2} (h : Keeps ⟨km, kn, kp, kt, false, ko, kf, kd, kc, kl, ki, kz, kg, kx, ke⟩ s0 s) : Keeps ⟨km, kn, kp, kt, false, ko, kf, kd, kc, kl, ki, kz, kg, kx, ke⟩ s0 (State.spareAlarm s a2) := by
  unfold State.spareAlarm
  extract_lets -underBinder x1 x2
  exact Keeps.ite h.chSmp.post (Keeps.ite h h.chSmp)

theorem Keeps.recount {s0 s a2 s3} (h : Keeps ⟨km, kn, kp, kt, false, ko, kf, kd, kc, kl, ki, kz, kg, kx, ke⟩ s0 s) (ha : Keeps ⟨km, kn, kp, kt, false, ko, kf, kd, kc, kl, ki, kz, kg, kx, ke⟩ s0 s3) : Keeps ⟨km, kn, kp, kt, false, ko, kf, kd, kc, kl, ki, kz, kg, kx, ke⟩ s0 (State.recount s a2 s3) := by
  unfold State.recount
  extract_lets -underBinder x1 x2 x3 x4 x5 x6 x7 x8 x9
  refine (Keeps.ite ha ?_)
  have h11 : Keeps h.kept s0 x6 := ha.put
  have h12 : Keeps h.kept s0 x7 := h11.put
  have h14 : Keeps h.kept s0 x8 := h12.each (fun _ _ h15 => (Keeps.ite h15.put.put h15))
  have h16 : Keeps h.kept s0 x9 := h14.spareAlarm
  split
  · exact h16.showBarGain
  · exact h16

theorem Keeps.tellRec {s0 s a2} (h : Keeps ⟨km, kn, kp, kt, kj, ko, kf, kd, kc, kl, ki, kz, kg, kx, ke⟩ s0 s) : Keeps ⟨km, kn, kp, kt, kj, ko, kf, kd, kc, kl, ki, kz, kg, kx, ke⟩ s0 (State.tellRec s a2) := by
  unfold State.tellRec
  extract_lets -underBinder x1
  have h4 : Keeps h.kept s0 x1 := h.when (fun _ h5 => h5.post)
  exact h4.when (fun _ h7 => h7.pmcAdd.post)

theorem Keeps.tapChange {s0 s a2 a3 a4} (h : Keeps ⟨km, kn, kp, kt, kj, false, kf, kd, kc, kl, ki, kz, kg, kx, ke⟩ s0 s) : Keeps ⟨km, kn, kp, kt, kj, false, kf, kd, kc, kl, ki, kz, kg, kx, ke⟩ s0 (State.tapChange s a2 a3 a4) := by
  unfold State.tapChange
  exact h.setPort

theorem Keeps.settles {s0 s a2 a3 a4} (h : Keeps ⟨km, kn, kp, kt, false, ko, kf, kd, kc, kl, ki, kz, kg, kx, ke⟩ s0 s) : Keeps ⟨km, kn, kp, kt, false, ko, kf, kd, kc, kl, ki, kz, kg, kx, ke⟩ s0 (State.settles s a2 a3 a4) := by
  unfold State.settles
  extract_lets -underBinder x1 x2
  exact h.chSmp

theorem Keeps.calDue {s0 s a2 a3} (h : Keeps ⟨km, kn, kp, kt, kj, ko, kf, kd, false, kl, ki, kz, kg, kx, ke⟩ s0 s) : Keeps ⟨km, kn, kp, kt, kj, ko, kf, kd, false, kl, ki, kz, kg, kx, ke⟩ s0 (State.calDue s a2 a3) := by
  unfold State.calDue
  extract_lets -underBinder x1 x2
  have h3 : Keeps h.kept s0 x1 := h.put.put
  exact Keeps.ite h h3.chCal

theorem Keeps.healthDue {s0 s a2 a3 a4} (h : Keeps ⟨km, kn, kp, kt, kj, ko, kf, kd, false, kl, ki, kz, kg, kx, ke⟩ s0 s) : Keeps ⟨km, kn, kp, kt, kj, ko, kf, kd, false, kl, ki, kz, kg, kx, ke⟩ s0 (State.healthDue s a2 a3 a4) := by
  unfold State.healthDue
  extract_lets -underBinder x1
  exact h.when (fun _ h3 => h3.calDue)

theorem Keeps.smpTake {s0 s a2 a3 a4} (h : Keeps ⟨false, kn, kp, kt, false, false, kf, false, false, kl, ki, kz, false, kx, ke⟩ s0 s) : Keeps ⟨false, kn, kp, kt, false, false, kf, false, false, kl, ki, kz, false, kx, ke⟩ s0 (State.smpTake s a2 a3 a4) := by
  unfold State.smpTake
  extract_lets -underBinder x1 x2 x3 x4 x5 x6 x7 x8 x9 x10 x11
  have h12 : Keeps h.kept s0 x1 := h
  have h14 : Keeps h.kept s0 x9 := h.putEntry.when (fun _ h15 => h15.putEntry)
  split
  · extract_lets -underBinder x21 x22 x23 x24 x25 x26 x27
    have h30 : Keeps h.kept s0 x24 := by
      unfold x24
      have h33 : Keeps h.kept s0 x23 := h14.when (fun _ h34 => (h34.each (fun _ _ h35 => h35.tellRec)))
      clear_value x11
      split
      · extract_lets -underBinder x37 x38
        have h41 : Keeps h.kept s0 x37 := h33.when (fun _ h42 => h42.chSmp)
        have h44 : Keeps h.kept s0 x38 := h41.when (fun _ h45 => h45.chSmp)
        exact h44.trimBase.trimBase
      · extract_lets -underBinder x48 x49
        have h52 : Keeps h.kept s0 x49 := h33.chSmp
        exact h52.when (fun _ h55 => (h55.each (fun _ _ h56 => h56.settles)).count)
    have h58 : Keeps h.kept s0 x25 := h30.when (fun _ h59 => h59.tapChange)
    have h60 : Keeps h.kept s0 x26 := h58.count.pmcAdd.healthDue
    have h61 : Keeps h.kept s0 x27 := h12.recount h60
    exact h61.when (fun _ h63 => h63.chDue)

theorem Keeps.smpSubmit {s0 s a2} (h : Keeps ⟨false, kn, kp, kt, false, false, kf, false, false, kl, ki, kz, false, kx, ke⟩ s0 s) : Keeps ⟨false, kn, kp, kt, false, false, kf, false, false, kl, ki, kz, false, kx, ke⟩ s0 (State.smpSubmit s a2).2 := by
  unfold State.smpSubmit
  split
  · extract_lets -underBinder x5
    dsimp only
    have h7 : Keeps h.kept s0 x5 := h.count.pmcAdd
    exact h7.when (fun _ h9 => h9.put)
  · dsimp only
    exact h
  · extract_lets -underBinder x19 x20
    dsimp only
    exact h.chSmp.smpTake

theorem Keeps.smpCreate {s0 s a2 a3 a4 a5 a6} (h : Keeps ⟨false, kn, kp, kt, false, false, kf, false, false, kl, ki, kz, false, kx, ke⟩ s0 s) : Keeps ⟨false, kn, kp, kt, false, false, kf, false, false, kl, ki, kz, false, kx, ke⟩ s0 (State.smpCreate s a2 a3 a4 a5 a6).2 := by
  unfold State.smpCreate
  extract_lets -underBinder x1
  split
  · dsimp only
    exact h.count
  · split
    · dsimp only
      exact h
    · split
      · rename_i y8
        have h9 := Keeps.snd y8 h.smpSubmit
        dsimp only
        exact h9
      · rename_i y13
        have h14 := Keeps.snd y13 h.smpSubmit
        dsimp only
        exact h14.post

theorem Keeps.smpPassed {s0 s a2 a3 a4} (h : Keeps ⟨km, kn, kp, kt, false, ko, kf, kd, kc, kl, ki, kz, kg, kx, ke⟩ s0 s) : Keeps ⟨km, kn, kp, kt, false, ko, kf, kd, kc, kl, ki, kz, kg, kx, ke⟩ s0 (State.smpPassed s a2 a3 a4) := by
  unfold State.smpPassed
  extract_lets -underBinder x1 x2 x3 x4
  have h6 : Keeps h.kept s0 x2 := h.each (fun _ _ h7 => h7.tellRec)
  have h8 : Keeps h.kept s0 x4 := h6.chSmp
  exact Keeps.ite h h8.put

theorem Keeps.setHealth {s0 s a2 a3} (h : Keeps ⟨false, kn, kp, kt, kj, ko, kf, kd, kc, kl, ki, kz, false, kx, ke⟩ s0 s) : Keeps ⟨false, kn, kp, kt, kj, ko, kf, kd, kc, kl, ki, kz, false, kx, ke⟩ s0 (State.setHealth s a2 a3) := by
  unfold State.setHealth
  exact h.putEntry

theorem Keeps.classify {s0 s a2} (h : Keeps ⟨false, kn, kp, kt, false, false, kf, false, false, kl, ki, kz, false, kx, ke⟩ s0 s) : Keeps ⟨false, kn, kp, kt, false, false, kf, false, false, kl, ki, kz, false, kx, ke⟩ s0 (State.classify s a2) := by
  unfold State.classify
  extract_lets -underBinder x1 x2
  refine (Keeps.ite h ?_)
  split
  · exact h
  · extract_lets -underBinder x8 x9
    exact Keeps.ite h h.smpCreate

theorem Keeps.classifyRow {s0 s a2 a3} (h : Keeps ⟨false, kn, kp, kt, false, false, kf, false, false, kl, ki, kz, false, kx, ke⟩ s0 s) : Keeps ⟨false, kn, kp, kt, false, false, kf, false, false, kl, ki, kz, false, kx, ke⟩ s0 (State.classifyRow s a2 a3) := by
  unfold State.classifyRow
  exact Keeps.ite h (h.foldl (fun _ _ h2 => h2.classify))

theorem Keeps.sense {s0 s a2 a3 a4 a5} (h : Keeps ⟨false, kn, kp, kt, false, false, kf, false, false, kl, ki, kz, false, kx, ke⟩ s0 s) : Keeps ⟨false, kn, kp, kt, false, false, kf, false, false, kl, ki, kz, false, kx, ke⟩ s0 (State.sense s a2 a3 a4 a5) := by
  unfold State.sense
  extract_lets -underBinder x1
  have h3 : Keeps h.kept s0 x1 := h.setHealth.pmcAdd
  exact Keeps.ite h (h3.when (fun _ h5 => h5.classify))

theorem Keeps.deliver {s0 s a2 a3 a4 a5} (h : Keeps ⟨false, kn, kp, kt, kj, ko, kf, kd, kc, kl, ki, kz, false, kx, ke⟩ s0 s) : Keeps ⟨false, kn, kp, kt, kj, ko, kf, kd, kc, kl, ki, kz, false, kx, ke⟩ s0 (State.deliver s a2 a3 a4 a5) := by
  unfold State.deliver
  exact h.setHealth.pmcAdd

theorem Keeps.offDomain {s0 s a2} (h : Keeps ⟨km, kn, kp, kt, kj, ko, kf, kd, kc, kl, ki, kz, kg, kx, false⟩ s0 s) : Keeps ⟨km, kn, kp, kt, kj, ko, kf, kd, kc, kl, ki, kz, kg, kx, false⟩ s0 (State.offDomain s a2) := by
  unfold State.offDomain
  extract_lets -underBinder x1
  exact h.drawn.errRecord.pmcAdd

theorem Keeps.recordAccess {s0 s a2 a3 a4} (h : Keeps ⟨km, kn, kp, kt, kj, ko, kf, kd, kc, kl, ki, kz, kg, kx, ke⟩ s0 s) : Keeps ⟨km, kn, kp, kt, kj, ko, kf, kd, kc, kl, ki, kz, kg, kx, ke⟩ s0 (State.recordAccess s a2 a3 a4) := by
  unfold State.recordAccess
  exact h.setWord.put.put

theorem Keeps.reportAccess {s0 s a2 a3 a4 a5} (h : Keeps ⟨km, kn, kp, kt, kj, ko, kf, kd, kc, kl, ki, kz, kg, kx, ke⟩ s0 s) : Keeps ⟨km, kn, kp, kt, kj, ko, kf, kd, kc, kl, ki, kz, kg, kx, ke⟩ s0 (State.reportAccess s a2 a3 a4 a5) := by
  unfold State.reportAccess
  extract_lets -underBinder x1 x2
  have h4 : Keeps h.kept s0 x1 := h.recordAccess.count
  have h5 : Keeps h.kept s0 x2 := h4.put
  exact (h5.when (fun _ h7 => h7.pmcAdd)).postLimited

theorem Keeps.badSize {s0 s a2 a3 a4} (h : Keeps ⟨km, kn, kp, kt, kj, ko, kf, kd, kc, kl, ki, kz, kg, kx, ke⟩ s0 s) : Keeps ⟨km, kn, kp, kt, kj, ko, kf, kd, kc, kl, ki, kz, kg, kx, ke⟩ s0 (State.badSize s a2 a3 a4) := by
  unfold State.badSize
  exact h.recordAccess.put.pmcAdd.postLimited

theorem Keeps.inbound {s0 s a2} (h : Keeps ⟨km, kn, kp, kt, kj, ko, kf, kd, kc, kl, ki, kz, kg, kx, ke⟩ s0 s) : Keeps ⟨km, kn, kp, kt, kj, ko, kf, kd, kc, kl, ki, kz, kg, kx, ke⟩ s0 (State.inbound s a2) := by
  unfold State.inbound
  exact h.when (fun _ h2 => h2.pmcAdd)

theorem Keeps.ownerWrite {s0 s a2 a3 f4} (h : Keeps ⟨km, kn, kp, kt, kj, ko, kf, kd, kc, kl, ki, kz, kg, kx, false⟩ s0 s) (kf4 : ∀ t0, Keeps ⟨km, kn, kp, kt, kj, ko, kf, kd, kc, kl, ki, kz, kg, kx, false⟩ s0 t0 → Keeps ⟨km, kn, kp, kt, kj, ko, kf, kd, kc, kl, ki, kz, kg, kx, false⟩ s0 (f4 t0)) : Keeps ⟨km, kn, kp, kt, kj, ko, kf, kd, kc, kl, ki, kz, kg, kx, false⟩ s0 (State.ownerWrite s a2 a3 f4) := by
  unfold State.ownerWrite
  extract_lets -underBinder x1
  have h2 : Keeps h.kept s0 x1 := h.inbound
  exact Keeps.ite h (Keeps.ite h2.offDomain (Keeps.ite h2.reportAccess (kf4 _ h2)))

theorem Keeps.hostSet {s0 s a2 a3 a4} (h : Keeps ⟨km, kn, kp, kt, kj, ko, kf, kd, kc, kl, ki, kz, kg, kx, ke⟩ s0 s) : Keeps ⟨km, kn, kp, kt, kj, ko, kf, kd, kc, kl, ki, kz, kg, kx, ke⟩ s0 (State.hostSet s a2 a3 a4) := by
  unfold State.hostSet
  extract_lets -underBinder x1 x2
  exact h.setWord

theorem Keeps.writeFields {s0 s a2 a3 a4} (h : Keeps ⟨km, kn, kp, kt, kj, ko, kf, kd, kc, kl, ki, kz, kg, kx, ke⟩ s0 s) : Keeps ⟨km, kn, kp, kt, kj, ko, kf, kd, kc, kl, ki, kz, kg, kx, ke⟩ s0 (State.writeFields s a2 a3 a4) := by
  unfold State.writeFields
  extract_lets -underBinder x1 x2 x3
  have h6 : Keeps h.kept s0 x3 := h.hostSet
  exact h6.when (fun _ h9 => (h9.reportAccess.when (fun _ h10 => h10.put)))

theorem Keeps.trigger {s0 s a2 a3 a4 a5 f6} (h : Keeps ⟨km, kn, kp, kt, kj, ko, kf, kd, kc, kl, ki, kz, kg, kx, ke⟩ s0 s) (kf6 : ∀ t0, Keeps ⟨km, kn, kp, kt, kj, ko, kf, kd, kc, kl, ki, kz, kg, kx, ke⟩ s0 t0 → Keeps ⟨km, kn, kp, kt, kj, ko, kf, kd, kc, kl, ki, kz, kg, kx, ke⟩ s0 (f6 t0)) : Keeps ⟨km, kn, kp, kt, kj, ko, kf, kd, kc, kl, ki, kz, kg, kx, ke⟩ s0 (State.trigger s a2 a3 a4 a5 f6) := by
  unfold State.trigger
  exact h.writeFields.when kf6

theorem Keeps.rngCount {s0 s a2 a3} (h : Keeps ⟨km, kn, kp, kt, kj, ko, kf, kd, kc, kl, ki, kz, kg, kx, ke⟩ s0 s) : Keeps ⟨km, kn, kp, kt, kj, ko, kf, kd, kc, kl, ki, kz, kg, kx, ke⟩ s0 (State.rngCount s a2 a3) := by
  unfold State.rngCount
  exact h.count.pmcAdd

theorem Keeps.writeCompletion {s0 s a2 a3 a4} (h : Keeps ⟨km, kn, kp, kt, kj, ko, kf, kd, kc, kl, ki, kz, kg, kx, ke⟩ s0 s) : Keeps ⟨km, kn, kp, kt, kj, ko, kf, kd, kc, kl, ki, kz, kg, kx, ke⟩ s0 (State.writeCompletion s a2 a3 a4) := by
  unfold State.writeCompletion
  exact h.writeRecord.rngCount

theorem Keeps.putCompletion {s0 s a2 a3 a4} (h : Keeps ⟨km, kn, kp, kt, kj, ko, kf, kd, kc, kl, ki, kz, kg, kx, ke⟩ s0 s) : Keeps ⟨km, kn, kp, kt, kj, ko, kf, kd, kc, kl, ki, kz, kg, kx, ke⟩ s0 (State.putCompletion s a2 a3 a4) := by
  unfold State.putCompletion
  extract_lets -underBinder x1 x2
  have h4 : Keeps h.kept s0 x2 := h.setRing
  exact Keeps.ite h.writeCompletion (h4.when (fun _ h6 => h6.put.post))

theorem Keeps.drainHeld {s0 : State} {a n} : ∀ {s : State}, Keeps ⟨km, kn, kp, kt, kj, ko, kf, kd, kc, kl, ki, kz, kg, kx, ke⟩ s0 s → Keeps ⟨km, kn, kp, kt, kj, ko, kf, kd, kc, kl, ki, kz, kg, kx, ke⟩ s0 (State.drainHeld a n s) := by
  induction n with
  | zero => intro s h; exact h
  | succ n ih =>
    intro s h
    unfold State.drainHeld
    split
    · exact h
    · split
      · exact ih h.setRing.writeCompletion
      · exact h

theorem Keeps.complete {s0 s a2 a3 a4 a5} (h : Keeps ⟨km, kn, kp, kt, kj, ko, kf, kd, kc, kl, ki, kz, kg, kx, ke⟩ s0 s) : Keeps ⟨km, kn, kp, kt, kj, ko, kf, kd, kc, kl, ki, kz, kg, kx, ke⟩ s0 (State.complete s a2 a3 a4 a5) := by
  unfold State.complete
  extract_lets -underBinder x1
  split
  · exact h
  · extract_lets -underBinder x7
    have h8 : Keeps h.kept s0 x7 := h.setRing
    exact Keeps.ite h8 h8.putCompletion

theorem Keeps.completeAborted {s0 s a2 a3} (h : Keeps ⟨km, kn, kp, kt, kj, ko, kf, kd, kc, kl, ki, kz, kg, kx, ke⟩ s0 s) : Keeps ⟨km, kn, kp, kt, kj, ko, kf, kd, kc, kl, ki, kz, kg, kx, ke⟩ s0 (State.completeAborted s a2 a3) := by
  unfold State.completeAborted
  extract_lets -underBinder x1
  split
  · exact h.putCompletion
  · extract_lets -underBinder x7
    exact h.setRing.putCompletion

theorem Keeps.markStarted {s0 s a2 a3} (h : Keeps ⟨km, kn, kp, kt, kj, ko, kf, kd, kc, kl, ki, kz, kg, kx, ke⟩ s0 s) : Keeps ⟨km, kn, kp, kt, kj, ko, kf, kd, kc, kl, ki, kz, kg, kx, ke⟩ s0 (State.markStarted s a2 a3) := by
  unfold State.markStarted
  extract_lets -underBinder x1
  exact h.setRing

theorem Keeps.setJobs {s0 s a2} (h : Keeps ⟨km, kn, kp, kt, false, ko, kf, kd, kc, kl, ki, kz, kg, kx, ke⟩ s0 s) : Keeps ⟨km, kn, kp, kt, false, ko, kf, kd, kc, kl, ki, kz, kg, kx, ke⟩ s0 (State.setJobs s a2) := by
  unfold State.setJobs
  exact h.chJob

theorem Keeps.setTb {s0 s a2} (h : Keeps ⟨km, kn, kp, false, kj, ko, kf, kd, kc, kl, ki, kz, kg, kx, ke⟩ s0 s) : Keeps ⟨km, kn, kp, false, kj, ko, kf, kd, kc, kl, ki, kz, kg, kx, ke⟩ s0 (State.setTb s a2) := by
  unfold State.setTb
  exact h.chTb

theorem Keeps.setDue {s0 s a2} (h : Keeps ⟨km, kn, kp, kt, kj, ko, kf, false, kc, kl, ki, kz, kg, kx, ke⟩ s0 s) : Keeps ⟨km, kn, kp, kt, kj, ko, kf, false, kc, kl, ki, kz, kg, kx, ke⟩ s0 (State.setDue s a2) := by
  unfold State.setDue
  exact h.chDue

theorem Keeps.setSmp {s0 s a2} (h : Keeps ⟨km, kn, kp, kt, false, ko, kf, kd, kc, kl, ki, kz, kg, kx, ke⟩ s0 s) : Keeps ⟨km, kn, kp, kt, false, ko, kf, kd, kc, kl, ki, kz, kg, kx, ke⟩ s0 (State.setSmp s a2) := by
  unfold State.setSmp
  exact h.chSmp

theorem Keeps.setEng {s0 s a2} (h : Keeps ⟨km, kn, kp, kt, false, ko, kf, kd, kc, kl, ki, kz, kg, kx, ke⟩ s0 s) : Keeps ⟨km, kn, kp, kt, false, ko, kf, kd, kc, kl, ki, kz, kg, kx, ke⟩ s0 (State.setEng s a2) := by
  unfold State.setEng
  exact h.chEng

theorem Keeps.setChain {s0 s a2 a3} (h : Keeps ⟨km, kn, kp, kt, false, ko, kf, kd, kc, kl, ki, kz, kg, kx, ke⟩ s0 s) : Keeps ⟨km, kn, kp, kt, false, ko, kf, kd, kc, kl, ki, kz, kg, kx, ke⟩ s0 (State.setChain s a2 a3) := by
  unfold State.setChain
  exact h.setJobs

theorem Keeps.showChains {s0 s} (h : Keeps ⟨km, kn, kp, kt, kj, ko, kf, kd, kc, kl, ki, kz, kg, kx, ke⟩ s0 s) : Keeps ⟨km, kn, kp, kt, kj, ko, kf, kd, kc, kl, ki, kz, kg, kx, ke⟩ s0 (State.showChains s) := by
  unfold State.showChains
  exact h.put

theorem Keeps.showBar {s0 s a2} (h : Keeps ⟨km, kn, kp, kt, kj, ko, kf, kd, kc, kl, ki, kz, kg, kx, ke⟩ s0 s) : Keeps ⟨km, kn, kp, kt, kj, ko, kf, kd, kc, kl, ki, kz, kg, kx, ke⟩ s0 (State.showBar s a2) := by
  unfold State.showBar
  split
  · exact h
  · extract_lets -underBinder x6
    refine (Keeps.ite h ?_)
    split
    · split
      · extract_lets -underBinder x15
        have h16 : Keeps h.kept s0 x15 := h.put.putI.put64
        exact h16.put.putI

theorem Keeps.stretchTest {s0 s a2 a3} (h : Keeps ⟨km, kn, kp, kt, false, ko, kf, kd, kc, kl, ki, kz, kg, kx, ke⟩ s0 s) : Keeps ⟨km, kn, kp, kt, false, ko, kf, kd, kc, kl, ki, kz, kg, kx, ke⟩ s0 (State.stretchTest s a2 a3) := by
  unfold State.stretchTest
  extract_lets -underBinder x1
  split
  · exact Keeps.ite h h.setChain.put.post

theorem Keeps.showQueues {s0 s} (h : Keeps ⟨km, kn, kp, kt, kj, ko, kf, kd, kc, kl, ki, kz, kg, kx, ke⟩ s0 s) : Keeps ⟨km, kn, kp, kt, kj, ko, kf, kd, kc, kl, ki, kz, kg, kx, ke⟩ s0 (State.showQueues s) := by
  unfold State.showQueues
  split
  · extract_lets -underBinder x5 x6 x7 x8
    have h9 : Keeps h.kept s0 x7 := h.put.putB
    have h10 : Keeps h.kept s0 x8 := h9.put.putB
    exact h10.putB

theorem Keeps.foldBar {s0 s a2 a3} (h : Keeps ⟨km, kn, kp, kt, false, ko, kf, kd, kc, kl, ki, kz, kg, kx, ke⟩ s0 s) : Keeps ⟨km, kn, kp, kt, false, ko, kf, kd, kc, kl, ki, kz, kg, kx, ke⟩ s0 (State.foldBar s a2 a3) := by
  unfold State.foldBar
  extract_lets -underBinder x1 x2 x3 x4 x5 x6 x7
  refine (Keeps.ite h ?_)
  have h9 : Keeps h.kept s0 x6 := h.each (fun _ _ h10 => h10.setRow)
  split
  · exact h9.setChain

theorem Keeps.foldTrims {s0 s} (h : Keeps ⟨km, kn, kp, kt, false, ko, kf, kd, kc, kl, ki, kz, kg, kx, ke⟩ s0 s) : Keeps ⟨km, kn, kp, kt, false, ko, kf, kd, kc, kl, ki, kz, kg, kx, ke⟩ s0 (State.foldTrims s) := by
  unfold State.foldTrims
  refine (h.each (fun _ _ h2 => ?_))
  split
  · exact h2
  · extract_lets -underBinder x8
    exact Keeps.ite h2.putI.setJobs h2

theorem Keeps.foldUpdates {s0 s a2} (h : Keeps ⟨km, kn, kp, kt, false, ko, kf, kd, kc, kl, ki, kz, kg, kx, ke⟩ s0 s) : Keeps ⟨km, kn, kp, kt, false, ko, kf, kd, kc, kl, ki, kz, kg, kx, ke⟩ s0 (State.foldUpdates s a2) := by
  unfold State.foldUpdates
  split
  · exact h
  · extract_lets -underBinder x6 x7 x8
    have h11 : Keeps h.kept s0 x7 := h.each (fun _ _ h12 => h12.showBar)
    have h14 : Keeps h.kept s0 x8 := by
      unfold x8
      refine (h11.each (fun _ _ h17 => ?_))
      split
      · exact h17.stretchTest.foldBar
      · exact h17
    exact h14.foldTrims.showQueues

theorem Keeps.duetSend {s0 s a2 a3} (h : Keeps ⟨km, kn, kp, kt, kj, ko, kf, false, kc, false, ki, kz, kg, kx, ke⟩ s0 s) : Keeps ⟨km, kn, kp, kt, kj, ko, kf, false, kc, false, ki, kz, kg, kx, ke⟩ s0 (State.duetSend s a2 a3) := by
  unfold State.duetSend
  extract_lets -underBinder x1
  exact Keeps.ite h h.setDue.peerPut

theorem Keeps.digest {s0 s a2 a3 a4 a5} (h : Keeps ⟨km, kn, kp, kt, kj, ko, kf, false, kc, false, ki, kz, kg, kx, ke⟩ s0 s) : Keeps ⟨km, kn, kp, kt, kj, ko, kf, false, kc, false, ki, kz, kg, kx, ke⟩ s0 (State.digest s a2 a3 a4 a5) := by
  unfold State.digest
  exact Keeps.ite h h.duetSend

theorem Keeps.add64 {s0 s a2 a3} (h : Keeps ⟨km, kn, kp, kt, kj, ko, kf, kd, kc, kl, ki, kz, kg, kx, ke⟩ s0 s) : Keeps ⟨km, kn, kp, kt, kj, ko, kf, kd, kc, kl, ki, kz, kg, kx, ke⟩ s0 (State.add64 s a2 a3) := by
  unfold State.add64
  exact h.put64

theorem Keeps.rowLost {s0 s a2 a3 a4 a5 a6 a7} (h : Keeps ⟨km, kn, kp, kt, false, ko, kf, kd, kc, kl, ki, kz, kg, kx, ke⟩ s0 s) : Keeps ⟨km, kn, kp, kt, false, ko, kf, kd, kc, kl, ki, kz, kg, kx, ke⟩ s0 (State.rowLost s a2 a3 a4 a5 a6 a7) := by
  unfold State.rowLost
  split
  · exact h.setRow.post
  · exact h.setRow

theorem Keeps.rowClean {s0 s a2 a3 a4} (h : Keeps ⟨km, kn, kp, kt, false, ko, kf, kd, kc, kl, ki, kz, kg, kx, ke⟩ s0 s) : Keeps ⟨km, kn, kp, kt, false, ko, kf, kd, kc, kl, ki, kz, kg, kx, ke⟩ s0 (State.rowClean s a2 a3 a4) := by
  unfold State.rowClean
  split
  · exact h
  · exact Keeps.ite h h.setRow.post

theorem Keeps.unsent {s0 s a2} (h : Keeps ⟨km, kn, kp, kt, kj, ko, kf, kd, kc, kl, ki, kz, kg, kx, ke⟩ s0 s) : Keeps ⟨km, kn, kp, kt, kj, ko, kf, kd, kc, kl, ki, kz, kg, kx, ke⟩ s0 (State.unsent s a2) := by
  unfold State.unsent
  exact h.count.pmcAdd

theorem Keeps.dropLine {s0 s a2 a3 a4} (h : Keeps ⟨km, kn, kp, kt, false, ko, kf, false, kc, kl, ki, kz, kg, kx, ke⟩ s0 s) : Keeps ⟨km, kn, kp, kt, false, ko, kf, false, kc, kl, ki, kz, kg, kx, ke⟩ s0 (State.dropLine s a2 a3 a4) := by
  unfold State.dropLine
  exact h.setDue.setJobs

theorem Keeps.engineLate {s0 s a2} (h : Keeps ⟨km, kn, kp, kt, kj, ko, kf, kd, kc, kl, ki, kz, kg, kx, ke⟩ s0 s) : Keeps ⟨km, kn, kp, kt, kj, ko, kf, kd, kc, kl, ki, kz, kg, kx, ke⟩ s0 (State.engineLate s a2) := by
  unfold State.engineLate
  extract_lets -underBinder x1
  have h4 : Keeps h.kept s0 x1 := h.each (fun _ _ h5 => h5.count.pmcAdd)
  exact h4.each (fun _ _ h7 => h7.count)

theorem Keeps.calLost {s0 s a2 a3 a4} (h : Keeps ⟨km, kn, kp, kt, kj, ko, kf, kd, false, kl, ki, kz, kg, kx, ke⟩ s0 s) : Keeps ⟨km, kn, kp, kt, kj, ko, kf, kd, false, kl, ki, kz, kg, kx, ke⟩ s0 (State.calLost s a2 a3 a4) := by
  unfold State.calLost
  extract_lets -underBinder x1
  exact Keeps.ite h h.chCal

theorem Keeps.lineLate {s0 s a2 a3 a4} (h : Keeps ⟨km, kn, kp, kt, false, ko, kf, false, false, false, ki, kz, kg, kx, ke⟩ s0 s) : Keeps ⟨km, kn, kp, kt, false, ko, kf, false, false, false, ki, kz, kg, kx, ke⟩ s0 (State.lineLate s a2 a3 a4) := by
  unfold State.lineLate
  extract_lets -underBinder x1 x2
  have h3 : Keeps h.kept s0 x1 := h.dropLine.calLost.engineLate
  have h4 : Keeps h.kept s0 x2 := h3.add64.pmcAdd.unsent
  exact h4.rowLost.digest

theorem Keeps.lineSkipped {s0 s a2 a3 a4 a5} (h : Keeps ⟨km, kn, kp, kt, false, ko, kf, false, false, false, ki, kz, kg, kx, ke⟩ s0 s) : Keeps ⟨km, kn, kp, kt, false, ko, kf, false, false, false, ki, kz, kg, kx, ke⟩ s0 (State.lineSkipped s a2 a3 a4 a5) := by
  unfold State.lineSkipped
  extract_lets -underBinder x1 x2 x3 x4
  have h7 : Keeps h.kept s0 x2 := h.add64.pmcAdd.when (fun _ h8 => h8.unsent)
  have h10 : Keeps h.kept s0 x3 := h7.when (fun _ h11 => h11.count)
  have h12 : Keeps h.kept s0 x4 := h10.calLost
  exact h12.rowLost.digest

theorem Keeps.suppressed {s0 s a2} (h : Keeps ⟨km, kn, kp, kt, kj, ko, kf, kd, kc, kl, ki, kz, kg, kx, ke⟩ s0 s) : Keeps ⟨km, kn, kp, kt, kj, ko, kf, kd, kc, kl, ki, kz, kg, kx, ke⟩ s0 (State.suppressed s a2) := by
  unfold State.suppressed
  exact h.add64.pmcAdd

theorem Keeps.withdraw {s0 s a2} (h : Keeps ⟨km, kn, kp, kt, false, ko, kf, kd, false, kl, ki, kz, kg, kx, ke⟩ s0 s) : Keeps ⟨km, kn, kp, kt, false, ko, kf, kd, false, kl, ki, kz, kg, kx, ke⟩ s0 (State.withdraw s a2) := by
  unfold State.withdraw
  extract_lets -underBinder x1 x2
  have h4 : Keeps h.kept s0 x2 := h.each (fun _ _ h5 => h5.calLost)
  exact h4.setJobs.suppressed

theorem Keeps.flushPort {s0 a1 s} (h : Keeps ⟨km, kn, kp, kt, false, false, kf, kd, false, false, ki, kz, kg, kx, ke⟩ s0 s) : Keeps ⟨km, kn, kp, kt, false, false, kf, kd, false, false, ki, kz, kg, kx, ke⟩ s0 (State.flushPort a1 s) := by
  unfold State.flushPort
  extract_lets -underBinder x1
  have h3 : Keeps h.kept s0 x1 := by
    unfold x1
    split
    · exact h.calLost.txCut.setPort
    · exact h
  exact (h3.when (fun _ h10 => h10.sendBlocks)).withdraw

theorem Keeps.setJob {s0 s a2 a3} (h : Keeps ⟨km, kn, kp, kt, false, ko, kf, kd, kc, kl, ki, kz, kg, kx, ke⟩ s0 s) : Keeps ⟨km, kn, kp, kt, false, ko, kf, kd, kc, kl, ki, kz, kg, kx, ke⟩ s0 (State.setJob s a2 a3) := by
  unfold State.setJob
  exact h.setJobs

theorem Keeps.stopBands {s0 s a2} (h : Keeps ⟨km, kn, kp, kt, kj, ko, kf, kd, kc, kl, ki, kz, kg, kx, ke⟩ s0 s) : Keeps ⟨km, kn, kp, kt, kj, ko, kf, kd, kc, kl, ki, kz, kg, kx, ke⟩ s0 (State.stopBands s a2) := by
  unfold State.stopBands
  refine (h.each (fun _ _ h2 => ?_))
  split
  · exact h2.put
  · exact h2

theorem Keeps.pagesDone {s0 s} (h : Keeps ⟨km, kn, kp, kt, false, ko, kf, kd, kc, kl, ki, kz, kg, kx, ke⟩ s0 s) : Keeps ⟨km, kn, kp, kt, false, ko, kf, kd, kc, kl, ki, kz, kg, kx, ke⟩ s0 (State.pagesDone s) := by
  unfold State.pagesDone
  refine (h.each (fun _ _ h2 => ?_))
  split
  · exact h2
  · extract_lets -underBinder x8 x9
    have h11 : Keeps h.kept s0 x9 := h2.setJob
    exact Keeps.ite h2 (h11.each (fun _ _ h13 => h13.stopBands.complete))

theorem Keeps.freeShadow {s0 s} (h : Keeps ⟨km, kn, kp, kt, false, ko, kf, kd, kc, kl, ki, kz, kg, kx, ke⟩ s0 s) : Keeps ⟨km, kn, kp, kt, false, ko, kf, kd, kc, kl, ki, kz, kg, kx, ke⟩ s0 (State.freeShadow s) := by
  unfold State.freeShadow
  split
  · exact h
  · split
    · extract_lets -underBinder x8 x9
      have h12 : Keeps h.kept s0 x9 := h.setJobs.put
      exact h12.when (fun _ h15 => (h15.each (fun _ _ h16 => h16.put)))
    · extract_lets -underBinder x20
      have h22 : Keeps h.kept s0 x20 := h.setJobs.put
      exact Keeps.ite h (h22.each (fun _ _ h24 => h24.put.put))

theorem Keeps.loadRow {s0 s a2} (h : Keeps ⟨km, kn, kp, kt, kj, ko, kf, kd, kc, kl, ki, kz, kg, kx, ke⟩ s0 s) : Keeps ⟨km, kn, kp, kt, kj, ko, kf, kd, kc, kl, ki, kz, kg, kx, ke⟩ s0 (State.loadRow s a2) := by
  unfold State.loadRow
  extract_lets -underBinder x1
  have h2 : Keeps h.kept s0 x1 := h.put64.put64
  exact h2.put.put.put

theorem Keeps.loadGeo {s0 s a2} (h : Keeps ⟨km, kn, kp, kt, kj, ko, kf, kd, kc, kl, ki, kz, kg, kx, ke⟩ s0 s) : Keeps ⟨km, kn, kp, kt, kj, ko, kf, kd, kc, kl, ki, kz, kg, kx, ke⟩ s0 (State.loadGeo s a2) := by
  unfold State.loadGeo
  extract_lets -underBinder x1
  have h4 : Keeps h.kept s0 x1 := h.each (fun _ _ h5 => h5.put)
  exact h4.each (fun _ _ h7 => h7.loadRow)

theorem Keeps.showContext {s0 s a2} (h : Keeps ⟨km, kn, kp, kt, kj, ko, kf, kd, kc, kl, ki, kz, kg, kx, ke⟩ s0 s) : Keeps ⟨km, kn, kp, kt, kj, ko, kf, kd, kc, kl, ki, kz, kg, kx, ke⟩ s0 (State.showContext s a2) := by
  unfold State.showContext
  extract_lets -underBinder x1 x2 x3 x4
  have h7 : Keeps h.kept s0 x1 := h.put.put
  have h8 : Keeps h.kept s0 x2 := h7.put.put64
  have h9 : Keeps h.kept s0 x3 := h8.putI64
  have h11 : Keeps h.kept s0 x4 := by
    unfold x4
    refine (h9.each (fun _ _ h14 => ?_))
    extract_lets -underBinder x15
    have h16 : Keeps h.kept s0 x15 := h14.put.putI
    exact h16.put64.put.putI
  exact h11.each (fun _ _ h18 => h18.showBar)

theorem Keeps.dropUpdates {s0 s a2} (h : Keeps ⟨km, kn, kp, kt, false, ko, kf, kd, kc, kl, ki, kz, kg, kx, ke⟩ s0 s) : Keeps ⟨km, kn, kp, kt, false, ko, kf, kd, kc, kl, ki, kz, kg, kx, ke⟩ s0 (State.dropUpdates s a2) := by
  unfold State.dropUpdates
  extract_lets -underBinder x1 x2 x3 x4
  have h8 : Keeps h.kept s0 x1 := h.each (fun _ _ h9 => h9.post)
  have h11 : Keeps h.kept s0 x2 := h8.each (fun _ _ h12 => h12.post)
  have h14 : Keeps h.kept s0 x4 := h11.each (fun _ _ h15 => h15.post)
  exact h14.setJobs

theorem Keeps.refreshFab {s0 s} (h : Keeps ⟨km, kn, kp, kt, kj, ko, kf, kd, kc, kl, ki, kz, kg, kx, ke⟩ s0 s) : Keeps ⟨km, kn, kp, kt, kj, ko, kf, kd, kc, kl, ki, kz, kg, kx, ke⟩ s0 (State.refreshFab s) := by
  unfold State.refreshFab
  extract_lets -underBinder x1 x2 x3
  have h5 : Keeps h.kept s0 x3 := h.put.put
  refine (h5.each (fun _ _ h7 => ?_))
  extract_lets -underBinder x8 x9
  have h10 : Keeps h.kept s0 x9 := h7.put.put
  exact Keeps.ite h10 h10.putB

theorem Keeps.enterJob {s0 s a2 a3} (h : Keeps ⟨km, kn, kp, kt, false, ko, kf, kd, kc, kl, ki, kz, kg, kx, ke⟩ s0 s) : Keeps ⟨km, kn, kp, kt, false, ko, kf, kd, kc, kl, ki, kz, kg, kx, ke⟩ s0 (State.enterJob s a2 a3) := by
  unfold State.enterJob
  split
  · exact h
  · extract_lets -underBinder x6 x7
    have h9 : Keeps h.kept s0 x6 := h.setChain
    have h11 : Keeps h.kept s0 x7 := h9.when (fun _ h12 => h12.put.put)
    exact h11.put.put64

theorem Keeps.dropChain {s0 s a2} (h : Keeps ⟨km, kn, kp, kt, false, ko, kf, false, false, kl, false, kz, kg, kx, ke⟩ s0 s) : Keeps ⟨km, kn, kp, kt, false, ko, kf, false, false, kl, false, kz, kg, kx, ke⟩ s0 (State.dropChain s a2) := by
  unfold State.dropChain
  extract_lets -underBinder x1 x2 x3 x4 x5 x6 x7 x8 x9
  have h11 : Keeps h.kept s0 x1 := h.freeShadow.dropUpdates
  have h13 : Keeps h.kept s0 x2 := h11.each (fun _ _ h14 => h14.setRow)
  have h15 : Keeps h.kept s0 x3 := h13.setJobs
  have h16 : Keeps h.kept s0 x4 := h15.foldRecs
  have h17 : Keeps h.kept s0 x6 := h16.chIns
  have h18 : Keeps h.kept s0 x7 := h17.setSmp
  have h19 : Keeps h.kept s0 x8 := h18.setDue
  exact h19.chCal

theorem Keeps.showShown {s0 s} (h : Keeps ⟨km, kn, kp, kt, kj, ko, kf, kd, kc, kl, ki, kz, kg, kx, ke⟩ s0 s) : Keeps ⟨km, kn, kp, kt, kj, ko, kf, kd, kc, kl, ki, kz, kg, kx, ke⟩ s0 (State.showShown s) := by
  unfold State.showShown
  split
  · exact h.putB.showContext
  · exact h.put

theorem Keeps.loadWaiting {s0 s} (h : Keeps ⟨km, kn, kp, kt, kj, ko, kf, kd, kc, kl, ki, kz, kg, kx, ke⟩ s0 s) : Keeps ⟨km, kn, kp, kt, kj, ko, kf, kd, kc, kl, ki, kz, kg, kx, ke⟩ s0 (State.loadWaiting s) := by
  unfold State.loadWaiting
  split
  · exact Keeps.ite h h.loadGeo
  · exact h

theorem Keeps.finishChain {s0 s a2} (h : Keeps ⟨km, kn, kp, kt, false, ko, kf, false, false, kl, false, kz, kg, kx, ke⟩ s0 s) : Keeps ⟨km, kn, kp, kt, false, ko, kf, false, false, kl, false, kz, kg, kx, ke⟩ s0 (State.finishChain s a2) := by
  unfold State.finishChain
  extract_lets -underBinder x1
  have h3 : Keeps h.kept s0 x1 := h.dropChain.freeShadow.showChains.refreshFab
  exact (h3.when (fun _ h5 => h5.setDue)).showShown.loadWaiting.showQueues

theorem Keeps.stopAllBands {s0 s} (h : Keeps ⟨km, kn, kp, kt, kj, ko, kf, kd, kc, kl, ki, kz, kg, kx, ke⟩ s0 s) : Keeps ⟨km, kn, kp, kt, kj, ko, kf, kd, kc, kl, ki, kz, kg, kx, ke⟩ s0 (State.stopAllBands s) := by
  unfold State.stopAllBands
  exact h.each (fun _ _ h3 => (h3.each (fun _ _ h4 => h4.stopBands)))

theorem Keeps.abortChains {s0 s} (h : Keeps ⟨km, kn, kp, kt, false, ko, kf, false, false, kl, false, kz, kg, kx, ke⟩ s0 s) : Keeps ⟨km, kn, kp, kt, false, ko, kf, false, false, kl, false, kz, kg, kx, ke⟩ s0 (State.abortChains s) := by
  unfold State.abortChains
  extract_lets -underBinder x1 x2 x3 x4 x5
  have h9 : Keeps h.kept s0 x1 := h.withdraw.stopAllBands
  have h11 : Keeps h.kept s0 x2 := h9.each (fun _ _ h12 => h12.finishChain)
  have h13 : Keeps h.kept s0 x3 := h11.setJobs
  have h14 : Keeps h.kept s0 x4 := h13.freeShadow.showChains.refreshFab
  have h15 : Keeps h.kept s0 x5 := h14.put
  exact h15.each (fun _ _ h18 => (h18.each (fun _ _ h19 => h19.completeAborted)))

theorem Keeps.dropCalJobs {s0 s} (h : Keeps ⟨km, kn, kp, kt, false, ko, kf, kd, kc, kl, ki, kz, kg, kx, ke⟩ s0 s) : Keeps ⟨km, kn, kp, kt, false, ko, kf, kd, kc, kl, ki, kz, kg, kx, ke⟩ s0 (State.dropCalJobs s) := by
  unfold State.dropCalJobs
  extract_lets -underBinder x1 x2 x3
  have h6 : Keeps h.kept s0 x2 := h.each (fun _ _ h7 => (h7.each (fun _ _ h8 => h8.complete)))
  have h9 : Keeps h.kept s0 x3 := h6.setJobs
  exact Keeps.ite h h9.freeShadow.showChains.refreshFab

end Sys2Proof.Machine
end

