-- ==== Sys2Proof/Laws/KeepsBase.lean ====
section
/-! SUPPORT. What the operations on updates, comparison, calibration records, motion, Safe-stop, memories, links and domains keep: the queue, the canonical maps and every part of the state that the operation does not change (the parts that its lemma leaves free). One lemma for each operation. -/

namespace Sys2Proof.Machine

variable {km kn kp kt kj ko kf kd kc kl ki kz kg kx ke : Bool}
variable {k : Kept}

theorem Keeps.setCam {s0 s a2 a3} (h : Keeps ⟨km, kn, kp, kt, kj, ko, kf, kd, kc, kl, false, kz, kg, kx, ke⟩ s0 s) : Keeps ⟨km, kn, kp, kt, kj, ko, kf, kd, kc, kl, false, kz, kg, kx, ke⟩ s0 (State.setCam s a2 a3) := by
  unfold State.setCam
  exact h.chCams

theorem Keeps.setIns {s0 s a2} (h : Keeps ⟨km, kn, kp, kt, kj, ko, kf, kd, kc, kl, false, kz, kg, kx, ke⟩ s0 s) : Keeps ⟨km, kn, kp, kt, kj, ko, kf, kd, kc, kl, false, kz, kg, kx, ke⟩ s0 (State.setIns s a2) := by
  unfold State.setIns
  exact h.chIns

theorem Keeps.showActive {s0 s} (h : Keeps ⟨km, kn, kp, kt, kj, ko, kf, kd, kc, kl, ki, kz, kg, kx, ke⟩ s0 s) : Keeps ⟨km, kn, kp, kt, kj, ko, kf, kd, kc, kl, ki, kz, kg, kx, ke⟩ s0 (State.showActive s) := by
  unfold State.showActive
  exact h.putB

theorem Keeps.predStart {s0 s a2} (h : Keeps ⟨km, kn, kp, kt, kj, ko, kf, kd, kc, kl, false, kz, kg, kx, ke⟩ s0 s) : Keeps ⟨km, kn, kp, kt, kj, ko, kf, kd, kc, kl, false, kz, kg, kx, ke⟩ s0 (State.predStart s a2) := by
  unfold State.predStart
  extract_lets -underBinder x1 x2 x3 x4
  have h7 : Keeps h.kept s0 x2 := h.each (fun _ _ h8 => h8.put)
  have h9 : Keeps h.kept s0 x4 := h7.put64
  exact Keeps.ite (h9.when (fun _ h11 => h11.setIns)).showActive h9.put.post.showActive

theorem Keeps.showDemand {s0 s} (h : Keeps ⟨km, kn, kp, kt, kj, ko, kf, kd, kc, kl, ki, kz, kg, kx, ke⟩ s0 s) : Keeps ⟨km, kn, kp, kt, kj, ko, kf, kd, kc, kl, ki, kz, kg, kx, ke⟩ s0 (State.showDemand s) := by
  unfold State.showDemand
  extract_lets -underBinder x1
  exact h.put

theorem Keeps.queueBar {s0 s a2 a3 a4 a5} (h : Keeps ⟨km, kn, kp, kt, false, ko, kf, false, kc, kl, false, kz, kg, kx, ke⟩ s0 s) : Keeps ⟨km, kn, kp, kt, false, ko, kf, false, kc, kl, false, kz, kg, kx, ke⟩ s0 (State.queueBar s a2 a3 a4 a5) := by
  unfold State.queueBar
  extract_lets -underBinder x1 x2 x3 x4
  have h6 : Keeps h.kept s0 x4 := by
    unfold x4
    have h7 : Keeps h.kept s0 x2 := h.chIns
    split
    · exact h7.setChain
    · exact h7.setJobs
  exact (h6.when (fun _ h14 => h14.setDue)).showQueues

theorem Keeps.barUpdate {s0 s a2 a3 a4 a5} (h : Keeps ⟨km, kn, kp, kt, false, ko, kf, false, kc, kl, false, kz, kg, kx, ke⟩ s0 s) : Keeps ⟨km, kn, kp, kt, false, ko, kf, false, kc, kl, false, kz, kg, kx, ke⟩ s0 (State.barUpdate s a2 a3 a4 a5).2 := by
  unfold State.barUpdate
  split
  · dsimp only
    exact h.queueBar
  · dsimp only
    exact h.post
  · dsimp only
    exact h.post
  · dsimp only
    exact h

theorem Keeps.queueXweb {s0 s a2 a3 a4 a5} (h : Keeps ⟨km, kn, kp, kt, false, ko, kf, false, kc, kl, false, kz, kg, kx, ke⟩ s0 s) : Keeps ⟨km, kn, kp, kt, false, ko, kf, false, kc, kl, false, kz, kg, kx, ke⟩ s0 (State.queueXweb s a2 a3 a4 a5) := by
  unfold State.queueXweb
  extract_lets -underBinder x1 x2 x3 x4
  have h6 : Keeps h.kept s0 x4 := by
    unfold x4
    have h7 : Keeps h.kept s0 x2 := h.chIns
    split
    · exact h7.setChain
    · exact h7.setJobs
  exact (h6.when (fun _ h14 => h14.setDue)).showQueues

theorem Keeps.xwebUpdate {s0 s a2 a3 a4 a5} (h : Keeps ⟨km, kn, kp, kt, false, ko, kf, false, kc, kl, false, kz, kg, kx, ke⟩ s0 s) : Keeps ⟨km, kn, kp, kt, false, ko, kf, false, kc, kl, false, kz, kg, kx, ke⟩ s0 (State.xwebUpdate s a2 a3 a4 a5).2 := by
  unfold State.xwebUpdate
  split
  · dsimp only
    exact h.queueXweb
  · dsimp only
    exact h.post
  · dsimp only
    exact h.post
  · dsimp only
    exact h

theorem Keeps.trimUpdate {s0 s a2 a3 a4} (h : Keeps ⟨km, kn, kp, kt, false, ko, kf, false, kc, kl, ki, kz, kg, kx, ke⟩ s0 s) : Keeps ⟨km, kn, kp, kt, false, ko, kf, false, kc, kl, ki, kz, kg, kx, ke⟩ s0 (State.trimUpdate s a2 a3 a4).2 := by
  unfold State.trimUpdate
  extract_lets -underBinder x1 x2 x3
  have h4 : Keeps h.kept s0 x3 := h.setJobs
  split
  · dsimp only
    exact h
  · split
    · dsimp only
      exact h.post
    · split
      · dsimp only
        exact h
      · dsimp only
        exact (h4.when (fun _ h12 => h12.setDue)).showQueues

theorem Keeps.commitWrite {s0 s a2 a3 a4 f5} (h : Keeps ⟨km, kn, kp, kt, kj, ko, kf, kd, kc, kl, ki, kz, kg, kx, ke⟩ s0 s) (kf5 : ∀ t0, Keeps ⟨km, kn, kp, kt, kj, ko, kf, kd, kc, kl, ki, kz, kg, kx, ke⟩ s0 t0 → Keeps ⟨km, kn, kp, kt, kj, ko, kf, kd, kc, kl, ki, kz, kg, kx, ke⟩ s0 (f5 t0)) : Keeps ⟨km, kn, kp, kt, kj, ko, kf, kd, kc, kl, ki, kz, kg, kx, ke⟩ s0 (State.commitWrite s a2 a3 a4 f5) := by
  unfold State.commitWrite
  exact (h.trigger (fun _ h2 => (Keeps.ite h2.put (kf5 _ h2)))).showQueues

theorem Keeps.barCommit {s0 s} (h : Keeps ⟨km, kn, kp, kt, false, ko, kf, false, kc, kl, false, kz, kg, kx, ke⟩ s0 s) : Keeps ⟨km, kn, kp, kt, false, ko, kf, false, kc, kl, false, kz, kg, kx, ke⟩ s0 (State.barCommit s) := by
  unfold State.barCommit
  split
  · rename_i y4
    have h5 := Keeps.snd y4 h.barUpdate
    exact h5.put.showQueues

theorem Keeps.execBarUpdateCommit {s0 a1 a2 s} (h : Keeps ⟨km, kn, kp, kt, false, ko, kf, false, kc, kl, false, kz, kg, kx, false⟩ s0 s) : OutKeeps ⟨km, kn, kp, kt, false, ko, kf, false, kc, kl, false, kz, kg, kx, false⟩ s0 (Machine.execBarUpdateCommit a1 a2 s) := by
  unfold Machine.execBarUpdateCommit
  exact .next (h.ownerWrite (fun _ h3 => (h3.commitWrite (fun _ h4 => h4.barCommit))))

theorem Keeps.xwebCommit {s0 s} (h : Keeps ⟨km, kn, kp, kt, false, ko, kf, false, kc, kl, false, kz, kg, kx, ke⟩ s0 s) : Keeps ⟨km, kn, kp, kt, false, ko, kf, false, kc, kl, false, kz, kg, kx, ke⟩ s0 (State.xwebCommit s) := by
  unfold State.xwebCommit
  split
  · rename_i y4
    have h5 := Keeps.snd y4 h.xwebUpdate
    exact h5.put.showQueues

theorem Keeps.execXwebUpdateCommit {s0 a1 a2 s} (h : Keeps ⟨km, kn, kp, kt, false, ko, kf, false, kc, kl, false, kz, kg, kx, false⟩ s0 s) : OutKeeps ⟨km, kn, kp, kt, false, ko, kf, false, kc, kl, false, kz, kg, kx, false⟩ s0 (Machine.execXwebUpdateCommit a1 a2 s) := by
  unfold Machine.execXwebUpdateCommit
  exact .next (h.ownerWrite (fun _ h3 => (h3.commitWrite (fun _ h4 => h4.xwebCommit))))

theorem Keeps.trimCommit {s0 s} (h : Keeps ⟨km, kn, kp, kt, false, ko, kf, false, kc, kl, ki, kz, kg, kx, ke⟩ s0 s) : Keeps ⟨km, kn, kp, kt, false, ko, kf, false, kc, kl, ki, kz, kg, kx, ke⟩ s0 (State.trimCommit s) := by
  unfold State.trimCommit
  split
  · rename_i y4
    have h5 := Keeps.snd y4 h.trimUpdate
    exact h5.put.showQueues

theorem Keeps.execTrimTempUpdateCommit {s0 a1 a2 s} (h : Keeps ⟨km, kn, kp, kt, false, ko, kf, false, kc, kl, ki, kz, kg, kx, false⟩ s0 s) : OutKeeps ⟨km, kn, kp, kt, false, ko, kf, false, kc, kl, ki, kz, kg, kx, false⟩ s0 (Machine.execTrimTempUpdateCommit a1 a2 s) := by
  unfold Machine.execTrimTempUpdateCommit
  exact .next (h.ownerWrite (fun _ h3 => (h3.commitWrite (fun _ h4 => h4.trimCommit))))

theorem Keeps.delivery {s0 s a2 a3 a4 a5} (h : Keeps ⟨false, kn, kp, kt, kj, ko, kf, kd, kc, kl, ki, kz, false, kx, ke⟩ s0 s) : Keeps ⟨false, kn, kp, kt, kj, ko, kf, kd, kc, kl, ki, kz, false, kx, ke⟩ s0 (State.delivery s a2 a3 a4 a5) := by
  unfold State.delivery
  extract_lets -underBinder x1 x2
  exact Keeps.ite h h.deliver

theorem Keeps.streak {s0 s a2 a3 a4 a5 a6 a7 a8} (h : Keeps ⟨false, kn, kp, kt, kj, ko, kf, kd, kc, kl, false, kz, false, kx, ke⟩ s0 s) : Keeps ⟨false, kn, kp, kt, kj, ko, kf, kd, kc, kl, false, kz, false, kx, ke⟩ s0 (State.streak s a2 a3 a4 a5 a6 a7 a8).2 := by
  unfold State.streak
  extract_lets -underBinder x1 x2 x3 x4 x5 x6 x7 x8
  have h9 : Keeps h.kept s0 x4 := h.setCam
  have h10 : Keeps h.kept s0 x8 := h9.delivery.count
  split
  · dsimp only
    exact h
  · split
    · dsimp only
      exact h9
    · dsimp only
      exact h10.post

theorem Keeps.openFrame {s0 s a2 a3} (h : Keeps ⟨km, kn, kp, kt, kj, ko, kf, kd, kc, kl, false, kz, kg, kx, ke⟩ s0 s) : Keeps ⟨km, kn, kp, kt, kj, ko, kf, kd, kc, kl, false, kz, kg, kx, ke⟩ s0 (State.openFrame s a2 a3) := by
  unfold State.openFrame
  split
  · exact h
  · extract_lets -underBinder x6
    exact Keeps.ite h h.setCam

theorem Keeps.setFrame {s0 s a2 a3 a4} (h : Keeps ⟨km, kn, kp, kt, kj, ko, kf, kd, kc, kl, false, kz, kg, kx, ke⟩ s0 s) : Keeps ⟨km, kn, kp, kt, kj, ko, kf, kd, kc, kl, false, kz, kg, kx, ke⟩ s0 (State.setFrame s a2 a3 a4) := by
  unfold State.setFrame
  exact h.setCam

theorem Keeps.creditLine {s0 s a2 a3} (h : Keeps ⟨km, kn, kp, kt, kj, ko, kf, kd, kc, kl, false, kz, kg, kx, ke⟩ s0 s) : Keeps ⟨km, kn, kp, kt, kj, ko, kf, kd, kc, kl, false, kz, kg, kx, ke⟩ s0 (State.creditLine s a2 a3) := by
  unfold State.creditLine
  extract_lets -underBinder x1
  exact h.when (fun _ h3 => h3.setFrame)

theorem Keeps.tellOnce {s0 s a2 a3 a4 a5} (h : Keeps ⟨km, kn, kp, kt, kj, ko, kf, kd, kc, kl, false, kz, kg, kx, ke⟩ s0 s) : Keeps ⟨km, kn, kp, kt, kj, ko, kf, kd, kc, kl, false, kz, kg, kx, ke⟩ s0 (State.tellOnce s a2 a3 a4 a5) := by
  unfold State.tellOnce
  split
  · exact h
  · exact Keeps.ite h h.setFrame.post

theorem Keeps.compareBar {s0 s a2 a3} (h : Keeps ⟨false, kn, kp, kt, kj, ko, kf, kd, kc, kl, false, kz, false, kx, ke⟩ s0 s) : Keeps ⟨false, kn, kp, kt, kj, ko, kf, kd, kc, kl, false, kz, false, kx, ke⟩ s0 (State.compareBar s a2 a3) := by
  unfold State.compareBar
  extract_lets -underBinder x1 x2 x3 x4 x5 x6 x7
  have h10 : Keeps h.kept s0 x4 := by
    unfold x4
    refine (h.each (fun _ _ h13 => ?_))
    split
    · exact h13
    · extract_lets -underBinder x19 x20
      split
      · rename_i y24
        have h25 := Keeps.snd y24 h13.streak
        exact h25.setFrame
  exact h10.when (fun _ h27 => h27.setFrame)

theorem Keeps.ySums {s0 s a2} (h : Keeps ⟨km, kn, kp, kt, kj, ko, kf, kd, kc, kl, false, kz, kg, kx, ke⟩ s0 s) : Keeps ⟨km, kn, kp, kt, kj, ko, kf, kd, kc, kl, false, kz, kg, kx, ke⟩ s0 (State.ySums s a2) := by
  unfold State.ySums
  exact h.setFrame

theorem Keeps.compareLine {s0 s a2} (h : Keeps ⟨false, kn, kp, kt, kj, ko, kf, kd, kc, kl, false, kz, false, kx, ke⟩ s0 s) : Keeps ⟨false, kn, kp, kt, kj, ko, kf, kd, kc, kl, false, kz, false, kx, ke⟩ s0 (State.compareLine s a2) := by
  unfold State.compareLine
  extract_lets -underBinder x1 x2 x3
  have h4 : Keeps h.kept s0 x1 := h.ySums
  have h6 : Keeps h.kept s0 x2 := h4.each (fun _ _ h7 => h7.compareBar)
  exact Keeps.ite h4 h6.setFrame

theorem Keeps.deliverBar {s0 s a2} (h : Keeps ⟨false, kn, kp, kt, kj, ko, kf, kd, kc, kl, ki, kz, false, kx, ke⟩ s0 s) : Keeps ⟨false, kn, kp, kt, kj, ko, kf, kd, kc, kl, ki, kz, false, kx, ke⟩ s0 (State.deliverBar s a2) := by
  unfold State.deliverBar
  refine (h.each (fun _ _ h2 => ?_))
  extract_lets -underBinder x3 x4
  exact h2.delivery.when (fun _ h6 => h6.count)

theorem Keeps.xwebLoop {s0 s a2 a3 a4 a5} (h : Keeps ⟨km, kn, kp, kt, false, ko, kf, false, kc, kl, false, kz, kg, kx, ke⟩ s0 s) : Keeps ⟨km, kn, kp, kt, false, ko, kf, false, kc, kl, false, kz, kg, kx, ke⟩ s0 (State.xwebLoop s a2 a3 a4 a5).2 := by
  unfold State.xwebLoop
  extract_lets -underBinder x1
  split
  · dsimp only
    exact h
  · split
    · extract_lets -underBinder x8 x9 x10
      split
      · rename_i y14
        have h15 := Keeps.snd y14 h.xwebUpdate
        dsimp only
        exact h15.count

theorem Keeps.addStat {s0 s a2} (h : Keeps ⟨km, kn, kp, kt, kj, ko, kf, kd, kc, kl, false, kz, kg, kx, ke⟩ s0 s) : Keeps ⟨km, kn, kp, kt, kj, ko, kf, kd, kc, kl, false, kz, kg, kx, ke⟩ s0 (State.addStat s a2) := by
  unfold State.addStat
  exact Keeps.ite h.pmcAdd h.setIns

theorem Keeps.correctNozzle {s0 s g} (h : Keeps ⟨false, kn, kp, kt, false, false, kf, false, false, kl, ki, kz, false, kx, ke⟩ s0 s) : Keeps ⟨false, kn, kp, kt, false, false, kf, false, false, kl, ki, kz, false, kx, ke⟩ s0 (State.correctNozzle s g).2.2 := by
  unfold State.correctNozzle
  split
  split
  · exact h
  · dsimp only
    split
    · exact h.smpCreate.count
    · split
      · exact h.smpCreate
      · exact h.smpCreate.count

theorem Keeps.correctBar {s0 s l} (h : Keeps ⟨false, kn, kp, kt, false, false, kf, false, false, kl, ki, kz, false, kx, ke⟩ s0 s) : Keeps ⟨false, kn, kp, kt, false, false, kf, false, false, kl, ki, kz, false, kx, ke⟩ s0 (State.correctBar s l).2.2 := by
  unfold State.correctBar
  refine Keeps.foldlVia (π := fun (a : Nat × Nat × State) => a.2.2) (fun b x h => ?_) h
  dsimp only
  exact h.correctNozzle

theorem Keeps.registerLoop {s0 s f lo hi b bf} (h : Keeps ⟨km, kn, kp, kt, false, ko, kf, false, kc, kl, false, kz, kg, kx, ke⟩ s0 s) : Keeps ⟨km, kn, kp, kt, false, ko, kf, false, kc, kl, false, kz, kg, kx, ke⟩ s0 (State.registerLoop s f lo hi b bf).2.2.2 := by
  unfold State.registerLoop
  dsimp only
  split
  · exact h
  · split
    · exact h.drawn
    · split
      · dsimp only
        exact h.drawn.putI.setIns
      · dsimp only
        exact h.drawn.putI.setIns.barUpdate.count

theorem Keeps.closeBar {s0 s p f set hi b} (h : Keeps ⟨false, kn, kp, kt, false, false, kf, false, false, kl, false, kz, false, kx, ke⟩ s0 s) : Keeps ⟨false, kn, kp, kt, false, false, kf, false, false, kl, false, kz, false, kx, ke⟩ s0 (State.closeBar s p f set hi b) := by
  unfold State.closeBar
  extract_lets bf fit s1
  have h1 : Keeps h.kept s0 s1 := h.drawn.deliverBar
  split
  rename_i e
  have h2 := Keeps.thd e h1.correctBar
  extract_lets lowest s2
  split
  · exact h2
  · have h3 : Keeps h.kept s0 s2 := h2.putI.putI
    split
    rename_i e
    have h4 := Keeps.fth e h3.registerLoop
    split
    rename_i e
    exact (Keeps.snd e h4.xwebLoop).addStat

theorem Keeps.foreignMarks {s0 s a2 a3 a4} (h : Keeps ⟨km, kn, kp, kt, kj, ko, kf, kd, kc, kl, ki, kz, kg, kx, ke⟩ s0 s) : Keeps ⟨km, kn, kp, kt, kj, ko, kf, kd, kc, kl, ki, kz, kg, kx, ke⟩ s0 (State.foreignMarks s a2 a3 a4) := by
  unfold State.foreignMarks
  exact h.each (fun _ _ h2 => h2.post)

theorem Keeps.closeFrame {s0 s a2 a3} (h : Keeps ⟨false, kn, kp, kt, false, false, kf, false, false, kl, false, kz, false, kx, ke⟩ s0 s) : Keeps ⟨false, kn, kp, kt, false, false, kf, false, false, kl, false, kz, false, kx, ke⟩ s0 (State.closeFrame s a2 a3) := by
  unfold State.closeFrame
  extract_lets -underBinder x1 x2 x3 x4 x5 x6
  have h8 : Keeps h.kept s0 x3 := h.setCam
  have h10 : Keeps h.kept s0 x6 := Keeps.ite h8 (h8.each (fun _ _ h11 => h11.closeBar)).foreignMarks.count
  exact h10.drawn.addStat

theorem Keeps.setCal {s0 s a2} (h : Keeps ⟨km, kn, kp, kt, kj, ko, kf, kd, false, kl, ki, kz, kg, kx, ke⟩ s0 s) : Keeps ⟨km, kn, kp, kt, kj, ko, kf, kd, false, kl, ki, kz, kg, kx, ke⟩ s0 (State.setCal s a2) := by
  unfold State.setCal
  exact h.chCal

theorem Keeps.dropMark {s0 s a2} (h : Keeps ⟨km, kn, kp, kt, kj, ko, kf, kd, false, kl, ki, kz, kg, kx, ke⟩ s0 s) : Keeps ⟨km, kn, kp, kt, kj, ko, kf, kd, false, kl, ki, kz, kg, kx, ke⟩ s0 (State.dropMark s a2) := by
  unfold State.dropMark
  exact h.setCal

theorem Keeps.putMark {s0 s a2} (h : Keeps ⟨km, kn, kp, kt, kj, ko, kf, kd, false, kl, ki, kz, kg, kx, ke⟩ s0 s) : Keeps ⟨km, kn, kp, kt, kj, ko, kf, kd, false, kl, ki, kz, kg, kx, ke⟩ s0 (State.putMark s a2) := by
  unfold State.putMark
  exact h.dropMark.setCal

theorem Keeps.markGap {s0 s a2 a3} (h : Keeps ⟨km, kn, kp, kt, kj, ko, kf, kd, false, kl, ki, kz, kg, kx, ke⟩ s0 s) : Keeps ⟨km, kn, kp, kt, kj, ko, kf, kd, false, kl, ki, kz, kg, kx, ke⟩ s0 (State.markGap s a2 a3) := by
  unfold State.markGap
  refine (h.each (fun _ _ h2 => ?_))
  extract_lets -underBinder x3
  exact h2.putMark

theorem Keeps.markLine {s0 s a2} (h : Keeps ⟨km, kn, kp, kt, kj, ko, kf, kd, false, kl, ki, kz, kg, kx, ke⟩ s0 s) : Keeps ⟨km, kn, kp, kt, kj, ko, kf, kd, false, kl, ki, kz, kg, kx, ke⟩ s0 (State.markLine s a2) := by
  unfold State.markLine
  refine (h.each (fun _ _ h2 => ?_))
  extract_lets -underBinder x3 x4 x5 x6 x7 x8
  exact h2.putMark

theorem Keeps.captureOne {s0 s a2 a3 a4} (h : Keeps ⟨km, kn, kp, kt, kj, ko, kf, kd, kc, kl, false, kz, kg, kx, ke⟩ s0 s) : Keeps ⟨km, kn, kp, kt, kj, ko, kf, kd, kc, kl, false, kz, kg, kx, ke⟩ s0 (State.captureOne s a2 a3 a4) := by
  unfold State.captureOne
  split
  · exact h.setIns
  · extract_lets -underBinder x6 x7 x8 x9
    have h10 : Keeps h.kept s0 x7 := h.send.drawn
    exact Keeps.ite h (Keeps.ite h10.setIns.complete h10.setIns)

theorem Keeps.captureLine {s0 s a2 a3} (h : Keeps ⟨km, kn, kp, kt, kj, ko, kf, kd, kc, kl, false, kz, kg, kx, ke⟩ s0 s) : Keeps ⟨km, kn, kp, kt, kj, ko, kf, kd, kc, kl, false, kz, kg, kx, ke⟩ s0 (State.captureLine s a2 a3) := by
  unfold State.captureLine
  exact h.each (fun _ _ h2 => h2.captureOne)

theorem Keeps.processLine {s0 s a2 a3} (h : Keeps ⟨false, kn, kp, kt, kj, ko, kf, kd, false, kl, false, kz, false, kx, ke⟩ s0 s) : Keeps ⟨false, kn, kp, kt, kj, ko, kf, kd, false, kl, false, kz, false, kx, ke⟩ s0 (State.processLine s a2 a3) := by
  unfold State.processLine
  extract_lets -underBinder x1 x2 x3 x4
  have h5 : Keeps h.kept s0 x1 := h.captureLine.creditLine
  have h6 : Keeps h.kept s0 x3 := h5.setFrame.putB
  have h7 : Keeps h.kept s0 x4 := by
    unfold x4
    refine (Keeps.ite h5.setFrame.markGap (Keeps.ite h6.setFrame.pmcAdd.markGap ?_))
    split
    · exact h6.markGap
    · exact h6.compareLine.markLine
  exact h7.setCam

theorem Keeps.drainLines {s0 : State} {p all n} : ∀ {s : State}, Keeps ⟨false, kn, kp, kt, false, false, kf, false, false, kl, false, kz, false, kx, ke⟩ s0 s → Keeps ⟨false, kn, kp, kt, false, false, kf, false, false, kl, false, kz, false, kx, ke⟩ s0 (State.drainLines p all n s) := by
  induction n with
  | zero => intro s h; exact h
  | succ n ih =>
    intro s h
    unfold State.drainLines
    split
    · exact h
    · split
      · exact h
      · refine ih ?_
        split
        · exact .ite h.processLine.setCam.closeFrame h.processLine.setCam
        · exact h.processLine.setCam

theorem Keeps.lineFate {s0 s a2 a3} (h : Keeps ⟨false, kn, kp, kt, false, false, kf, false, false, kl, false, kz, false, kx, ke⟩ s0 s) : Keeps ⟨false, kn, kp, kt, false, false, kf, false, false, kl, false, kz, false, kx, ke⟩ s0 (State.lineFate s a2 a3) := by
  unfold State.lineFate
  extract_lets -underBinder x1
  have h2 : Keeps h.kept s0 x1 := h.openFrame.setCam
  exact h2.drainLines

theorem Keeps.lineAbsent {s0 s a2 a3} (h : Keeps ⟨false, kn, kp, kt, false, false, kf, false, false, kl, false, kz, false, kx, ke⟩ s0 s) : Keeps ⟨false, kn, kp, kt, false, false, kf, false, false, kl, false, kz, false, kx, ke⟩ s0 (State.lineAbsent s a2 a3) := by
  unfold State.lineAbsent
  exact h.count.pmcAdd.lineFate

theorem Keeps.closeFrames {s0 s a2 a3} (h : Keeps ⟨false, kn, kp, kt, false, false, kf, false, false, kl, false, kz, false, kx, ke⟩ s0 s) : Keeps ⟨false, kn, kp, kt, false, false, kf, false, false, kl, false, kz, false, kx, ke⟩ s0 (State.closeFrames s a2 a3) := by
  unfold State.closeFrames
  extract_lets -underBinder x1
  have h4 : Keeps h.kept s0 x1 := h.when (fun _ h5 => h5.drainLines)
  exact h4.each (fun _ _ h7 => h7.closeFrame)

theorem Keeps.closeChainFrames {s0 s a2} (h : Keeps ⟨false, kn, kp, kt, false, false, kf, false, false, kl, false, kz, false, kx, ke⟩ s0 s) : Keeps ⟨false, kn, kp, kt, false, false, kf, false, false, kl, false, kz, false, kx, ke⟩ s0 (State.closeChainFrames s a2) := by
  unfold State.closeChainFrames
  exact h.each (fun _ _ h2 => h2.closeFrames)

theorem Keeps.setSlot {s0 s a2 a3 a4} (h : Keeps ⟨km, kn, kp, kt, kj, ko, kf, kd, kc, kl, false, kz, kg, kx, ke⟩ s0 s) : Keeps ⟨km, kn, kp, kt, kj, ko, kf, kd, kc, kl, false, kz, kg, kx, ke⟩ s0 (State.setSlot s a2 a3 a4) := by
  unfold State.setSlot
  exact h.setCam

theorem Keeps.showSets {s0 s a2} (h : Keeps ⟨km, kn, kp, kt, kj, ko, kf, kd, kc, kl, ki, kz, kg, kx, ke⟩ s0 s) : Keeps ⟨km, kn, kp, kt, kj, ko, kf, kd, kc, kl, ki, kz, kg, kx, ke⟩ s0 (State.showSets s a2) := by
  unfold State.showSets
  extract_lets -underBinder x1 x2
  exact h.put.put

theorem Keeps.setOutcome {s0 s a2 a3 a4 a5} (h : Keeps ⟨km, kn, kp, kt, kj, ko, kf, kd, kc, kl, false, kz, kg, kx, ke⟩ s0 s) : Keeps ⟨km, kn, kp, kt, kj, ko, kf, kd, kc, kl, false, kz, kg, kx, ke⟩ s0 (State.setOutcome s a2 a3 a4 a5) := by
  unfold State.setOutcome
  extract_lets -underBinder x1 x2 x3 x4
  exact Keeps.ite h.setCam (Keeps.ite h.setCam.post h.setCam)

theorem Keeps.takeSet {s0 s a2 a3 a4 a5} (h : Keeps ⟨km, kn, kp, kt, kj, ko, kf, kd, kc, kl, false, kz, kg, kx, ke⟩ s0 s) : Keeps ⟨km, kn, kp, kt, kj, ko, kf, kd, kc, kl, false, kz, kg, kx, ke⟩ s0 (State.takeSet s a2 a3 a4 a5) := by
  unfold State.takeSet
  extract_lets -underBinder x1
  have h2 : Keeps h.kept s0 x1 := h.setSlot.setCam
  exact h2.setOutcome.showSets

theorem Keeps.setsTake {s0 s a2 a3} (h : Keeps ⟨km, kn, kp, kt, kj, ko, kf, kd, kc, kl, false, kz, kg, kx, ke⟩ s0 s) : Keeps ⟨km, kn, kp, kt, kj, ko, kf, kd, kc, kl, false, kz, kg, kx, ke⟩ s0 (State.setsTake s a2 a3) := by
  unfold State.setsTake
  exact h.each (fun _ _ h2 => h2.takeSet)

theorem Keeps.setFails {s0 s a2 a3} (h : Keeps ⟨km, kn, kp, kt, kj, ko, kf, kd, kc, kl, false, kz, kg, kx, ke⟩ s0 s) : Keeps ⟨km, kn, kp, kt, kj, ko, kf, kd, kc, kl, false, kz, kg, kx, ke⟩ s0 (State.setFails s a2 a3) := by
  unfold State.setFails
  extract_lets -underBinder x1 x2
  have h3 : Keeps h.kept s0 x2 := h.setCam
  exact h3.post.showSets

theorem Keeps.setAcked {s0 s a2 a3} (h : Keeps ⟨km, kn, kp, kt, kj, ko, kf, kd, kc, kl, false, kz, kg, kx, ke⟩ s0 s) : Keeps ⟨km, kn, kp, kt, kj, ko, kf, kd, kc, kl, false, kz, kg, kx, ke⟩ s0 (State.setAcked s a2 a3) := by
  unfold State.setAcked
  extract_lets -underBinder x1
  have h2 : Keeps h.kept s0 x1 := h.setSlot
  split
  · exact h2
  · split
    · exact h2
    · exact Keeps.ite h2 h2.setCam.setOutcome

theorem Keeps.sendWrite {s0 s a2 a3} (h : Keeps ⟨km, kn, kp, kt, kj, ko, kf, kd, kc, kl, false, kz, kg, kx, ke⟩ s0 s) : Keeps ⟨km, kn, kp, kt, kj, ko, kf, kd, kc, kl, false, kz, kg, kx, ke⟩ s0 (State.sendWrite s a2 a3) := by
  unfold State.sendWrite
  split
  · exact h
  · extract_lets -underBinder x6 x7
    have h8 : Keeps h.kept s0 x7 := h.send.setSlot
    exact Keeps.ite h h8.put.setCam

theorem Keeps.ccNext {s0 s a2 a3} (h : Keeps ⟨km, kn, kp, kt, kj, ko, kf, kd, kc, kl, false, kz, kg, kx, ke⟩ s0 s) : Keeps ⟨km, kn, kp, kt, kj, ko, kf, kd, kc, kl, false, kz, kg, kx, ke⟩ s0 (State.ccNext s a2 a3) := by
  unfold State.ccNext
  extract_lets -underBinder x1 x2
  have h3 : Keeps h.kept s0 x1 := h.put.setCam
  split
  · exact h3
  · exact h3.setCam.sendWrite

theorem Keeps.headCmd {s0 s a2 a3 a4 a5 a6} (h : Keeps ⟨km, kn, kp, kt, kj, false, kf, kd, kc, kl, ki, kz, kg, kx, ke⟩ s0 s) : Keeps ⟨km, kn, kp, kt, kj, false, kf, kd, kc, kl, ki, kz, kg, kx, ke⟩ s0 (State.headCmd s a2 a3 a4 a5 a6) := by
  unfold State.headCmd
  extract_lets -underBinder x1 x2
  exact Keeps.ite h h.setPort

theorem Keeps.sendHctl {s0 a1 s} (h : Keeps ⟨km, kn, kp, kt, kj, false, kf, kd, kc, false, ki, kz, kg, kx, ke⟩ s0 s) : Keeps ⟨km, kn, kp, kt, kj, false, kf, kd, kc, false, ki, kz, kg, kx, ke⟩ s0 (State.sendHctl a1 s) := by
  unfold State.sendHctl
  split
  · exact h
  · extract_lets -underBinder x7
    have h8 : Keeps h.kept s0 x7 := h.sendBlocks
    exact h8.setPort

theorem Keeps.timebase {s0 s a2 a3} (h : Keeps ⟨km, kn, kp, kt, kj, false, kf, kd, kc, kl, ki, kz, kg, kx, ke⟩ s0 s) : Keeps ⟨km, kn, kp, kt, kj, false, kf, kd, kc, kl, ki, kz, kg, kx, ke⟩ s0 (State.timebase s a2 a3) := by
  unfold State.timebase
  exact h.headCmd

theorem Keeps.headMode {s0 a1 a2 s} (h : Keeps ⟨km, kn, kp, kt, kj, false, kf, kd, kc, kl, ki, kz, kg, kx, ke⟩ s0 s) : Keeps ⟨km, kn, kp, kt, kj, false, kf, kd, kc, kl, ki, kz, kg, kx, ke⟩ s0 (State.headMode a1 a2 s) := by
  unfold State.headMode
  exact h.headCmd

theorem Keeps.headTwi {s0 s a2 a3} (h : Keeps ⟨km, kn, kp, kt, kj, false, kf, kd, kc, kl, ki, kz, kg, kx, ke⟩ s0 s) : Keeps ⟨km, kn, kp, kt, kj, false, kf, kd, kc, kl, ki, kz, kg, kx, ke⟩ s0 (State.headTwi s a2 a3) := by
  unfold State.headTwi
  exact h.headCmd

theorem Keeps.tapLoad {s0 s a2 a3 a4 a5 a6} (h : Keeps ⟨km, kn, kp, kt, kj, false, kf, kd, kc, kl, ki, kz, kg, kx, ke⟩ s0 s) : Keeps ⟨km, kn, kp, kt, kj, false, kf, kd, kc, kl, ki, kz, kg, kx, ke⟩ s0 (State.tapLoad s a2 a3 a4 a5 a6) := by
  unfold State.tapLoad
  extract_lets -underBinder x1
  exact h.headCmd

theorem Keeps.hpState {s0 s a2 a3} (h : Keeps ⟨km, kn, kp, kt, kj, false, kf, kd, kc, kl, ki, kz, kg, kx, ke⟩ s0 s) : Keeps ⟨km, kn, kp, kt, kj, false, kf, kd, kc, kl, ki, kz, kg, kx, ke⟩ s0 (State.hpState s a2 a3) := by
  unfold State.hpState
  extract_lets -underBinder x1
  have h2 : Keeps h.kept s0 x1 := h.put.setPort
  exact h2.put.put

theorem Keeps.linkLost {s0 a1 s} (h : Keeps ⟨km, kn, kp, kt, false, false, kf, false, false, false, ki, kz, kg, kx, ke⟩ s0 s) : Keeps ⟨km, kn, kp, kt, false, false, kf, false, false, false, ki, kz, kg, kx, ke⟩ s0 (State.linkLost a1 s) := by
  unfold State.linkLost
  extract_lets -underBinder x1
  have h2 : Keeps h.kept s0 x1 := by
    unfold x1
    split
    · exact h.txCut.lineLate
    · exact h
  exact h2.txReset.setPort

theorem Keeps.linkDown {s0 s a2} (h : Keeps ⟨km, kn, kp, kt, kj, false, kf, kd, kc, kl, ki, kz, kg, kx, ke⟩ s0 s) : Keeps ⟨km, kn, kp, kt, kj, false, kf, kd, kc, kl, ki, kz, kg, kx, ke⟩ s0 (State.linkDown s a2) := by
  unfold State.linkDown
  extract_lets -underBinder x1
  have h2 : Keeps h.kept s0 x1 := h.setPort
  exact Keeps.ite h2 h2.put.put.post

theorem Keeps.reloadTaps {s0 s a2} (h : Keeps ⟨km, kn, kp, kt, kj, false, kf, kd, kc, kl, ki, kz, kg, kx, ke⟩ s0 s) : Keeps ⟨km, kn, kp, kt, kj, false, kf, kd, kc, kl, ki, kz, kg, kx, ke⟩ s0 (State.reloadTaps s a2) := by
  unfold State.reloadTaps
  refine (h.each (fun _ _ h2 => ?_))
  extract_lets -underBinder x3 x4 x5
  have h6 : Keeps h.kept s0 x5 := h2.setPort
  exact h6.tapLoad

theorem Keeps.linkUp {s0 s a2} (h : Keeps ⟨km, kn, kp, kt, kj, false, kf, kd, kc, kl, ki, kz, kg, kx, ke⟩ s0 s) : Keeps ⟨km, kn, kp, kt, kj, false, kf, kd, kc, kl, ki, kz, kg, kx, ke⟩ s0 (State.linkUp s a2) := by
  unfold State.linkUp
  extract_lets -underBinder x1 x2 x3 x4 x5
  have h7 : Keeps h.kept s0 x1 := h.hpState.put
  have h8 : Keeps h.kept s0 x2 := h7.putB
  have h9 : Keeps h.kept s0 x3 := h8.setPort
  have h10 : Keeps h.kept s0 x4 := h9.post
  have h11 : Keeps h.kept s0 x5 := h10.reloadTaps.headMode
  exact h11.when (fun _ h13 => h13.headTwi)

theorem Keeps.announce {s0 a1 s} (h : Keeps ⟨km, kn, kp, kt, kj, ko, kf, kd, kc, false, ki, kz, kg, kx, ke⟩ s0 s) : Keeps ⟨km, kn, kp, kt, kj, ko, kf, kd, kc, false, ki, kz, kg, kx, ke⟩ s0 (State.announce a1 s) := by
  unfold State.announce
  extract_lets -underBinder x1
  exact Keeps.ite h h.setPeer.peerPut

theorem Keeps.announceAll {s0 s} (h : Keeps ⟨km, kn, kp, kt, kj, ko, kf, kd, kc, false, ki, kz, kg, kx, ke⟩ s0 s) : Keeps ⟨km, kn, kp, kt, kj, ko, kf, kd, kc, false, ki, kz, kg, kx, ke⟩ s0 (State.announceAll s) := by
  unfold State.announceAll
  exact h.each (fun _ _ h2 => h2.announce)

theorem Keeps.refreshCeil {s0 s} (h : Keeps ⟨km, kn, kp, kt, kj, ko, kf, false, kc, false, ki, kz, kg, kx, ke⟩ s0 s) : Keeps ⟨km, kn, kp, kt, kj, ko, kf, false, kc, false, ki, kz, kg, kx, ke⟩ s0 (State.refreshCeil s) := by
  unfold State.refreshCeil
  extract_lets -underBinder x1 x2 x3 x4 x5 x6
  have h8 : Keeps h.kept s0 x4 := h.when (fun _ h9 => h9.post)
  have h10 : Keeps h.kept s0 x5 := h8.setDue
  exact Keeps.ite h10 h10.put.post.pmcAdd.announceAll

theorem Keeps.finishMove {s0 s} (h : Keeps ⟨km, kn, kp, kt, false, ko, kf, false, kc, false, ki, kz, kg, kx, ke⟩ s0 s) : Keeps ⟨km, kn, kp, kt, false, ko, kf, false, kc, false, ki, kz, kg, kx, ke⟩ s0 (State.finishMove s) := by
  unfold State.finishMove
  split
  · exact h
  · extract_lets -underBinder x6 x7
    have h9 : Keeps h.kept s0 x6 := h.each (fun _ _ h10 => h10.put)
    have h11 : Keeps h.kept s0 x7 := h9.setEng.put
    exact h11.post.refreshFab.refreshCeil

theorem Keeps.moveRow {s0 s a2} (h : Keeps ⟨km, kn, kp, kt, false, ko, kf, false, kc, false, ki, kz, kg, kx, ke⟩ s0 s) : Keeps ⟨km, kn, kp, kt, false, ko, kf, false, kc, false, ki, kz, kg, kx, ke⟩ s0 (State.moveRow s a2) := by
  unfold State.moveRow
  split
  · exact h
  · extract_lets -underBinder x6 x7 x8 x9 x10
    have h13 : Keeps h.kept s0 x9 := h.setEng
    have h15 : Keeps h.kept s0 x10 := h13.when (fun _ h16 => h16.post)
    exact Keeps.ite h (h15.when (fun _ h18 => h18.finishMove))

theorem Keeps.settleMove {s0 s} (h : Keeps ⟨km, kn, kp, kt, false, ko, kf, false, kc, false, ki, kz, kg, kx, ke⟩ s0 s) : Keeps ⟨km, kn, kp, kt, false, ko, kf, false, kc, false, ki, kz, kg, kx, ke⟩ s0 (State.settleMove s) := by
  unfold State.settleMove
  split
  · exact h
  · exact h.each (fun _ _ h7 => h7.moveRow)

theorem Keeps.refire {s0 s a2 a3} (h : Keeps ⟨km, kn, kp, kt, kj, ko, kf, kd, false, kl, ki, kz, kg, kx, ke⟩ s0 s) : Keeps ⟨km, kn, kp, kt, kj, ko, kf, kd, false, kl, ki, kz, kg, kx, ke⟩ s0 (State.refire s a2 a3) := by
  unfold State.refire
  exact h.setCal

theorem Keeps.endChains {s0 s} (h : Keeps ⟨false, kn, kp, kt, false, false, kf, false, false, false, false, kz, false, kx, ke⟩ s0 s) : Keeps ⟨false, kn, kp, kt, false, false, kf, false, false, false, false, kz, false, kx, ke⟩ s0 (State.endChains s) := by
  unfold State.endChains
  extract_lets -underBinder x1 x2
  have h5 : Keeps h.kept s0 x2 := (h.each (fun _ _ h6 => h6.closeChainFrames)).abortChains.settleMove.refreshCeil
  exact h5.each (fun _ _ h8 => h8.refire)

theorem Keeps.setBatch {s0 s a2 a3} (h : Keeps ⟨km, kn, kp, kt, kj, ko, kf, kd, false, kl, ki, kz, kg, kx, ke⟩ s0 s) : Keeps ⟨km, kn, kp, kt, kj, ko, kf, kd, false, kl, ki, kz, kg, kx, ke⟩ s0 (State.setBatch s a2 a3) := by
  unfold State.setBatch
  exact h.setCal

theorem Keeps.calTick {s0 s a2 a3 a4} (h : Keeps ⟨km, kn, kp, kt, kj, ko, kf, kd, false, kl, ki, kz, kg, kx, ke⟩ s0 s) : Keeps ⟨km, kn, kp, kt, kj, ko, kf, kd, false, kl, ki, kz, kg, kx, ke⟩ s0 (State.calTick s a2 a3 a4) := by
  unfold State.calTick
  refine (Keeps.ite h ?_)
  split
  · exact Keeps.ite h (h.when (fun _ h9 => h9.pmcAdd)).setBatch
  · exact h

theorem Keeps.giveSlot {s0 s a2 a3 a4} (h : Keeps ⟨km, kn, kp, kt, kj, ko, kf, kd, false, kl, ki, kz, kg, kx, ke⟩ s0 s) : Keeps ⟨km, kn, kp, kt, kj, ko, kf, kd, false, kl, ki, kz, kg, kx, ke⟩ s0 (State.giveSlot s a2 a3 a4) := by
  unfold State.giveSlot
  exact h.setBatch

theorem Keeps.releaseSlots {s0 s a2} (h : Keeps ⟨km, kn, kp, kt, kj, ko, kf, kd, false, kl, ki, kz, kg, kx, ke⟩ s0 s) : Keeps ⟨km, kn, kp, kt, kj, ko, kf, kd, false, kl, ki, kz, kg, kx, ke⟩ s0 (State.releaseSlots s a2) := by
  unfold State.releaseSlots
  extract_lets -underBinder x1
  exact h.setCal

theorem Keeps.assignCells {s0 s a2} (h : Keeps ⟨km, kn, kp, kt, kj, ko, kf, kd, false, kl, ki, kz, kg, kx, ke⟩ s0 s) : Keeps ⟨km, kn, kp, kt, kj, ko, kf, kd, false, kl, ki, kz, kg, kx, ke⟩ s0 (State.assignCells s a2) := by
  unfold State.assignCells
  extract_lets -underBinder x1
  have h3 : Keeps h.kept s0 x1 := h.releaseSlots
  refine (Keeps.ite h (h3.each (fun _ _ h5 => ?_)))
  split
  · exact h5
  · split
    · exact h5
    · split
      · exact h5.giveSlot
      · exact h5

theorem Keeps.applyRow {s0 s a2 a3 a4 a5} (h : Keeps ⟨false, kn, kp, kt, false, false, kf, false, false, kl, ki, kz, false, kx, ke⟩ s0 s) : Keeps ⟨false, kn, kp, kt, false, false, kf, false, false, kl, ki, kz, false, kx, ke⟩ s0 (State.applyRow s a2 a3 a4 a5) := by
  unfold State.applyRow
  refine (h.each (fun _ _ h2 => ?_))
  extract_lets -underBinder x3 x4
  exact h2.smpCreate

theorem Keeps.applyNext {s0 : State} {n} : ∀ {s : State}, Keeps ⟨false, kn, kp, kt, false, false, kf, false, false, kl, ki, kz, false, kx, ke⟩ s0 s → Keeps ⟨false, kn, kp, kt, false, false, kf, false, false, kl, ki, kz, false, kx, ke⟩ s0 (State.applyNext n s) := by
  induction n with
  | zero => intro s h; exact h
  | succ n ih =>
    intro s h
    unfold State.applyNext
    split
    · exact h
    · split
      · exact h
      · exact ih h.setCal.applyRow

theorem Keeps.showTaken {s0 s} (h : Keeps ⟨km, kn, kp, kt, kj, ko, kf, kd, kc, kl, ki, kz, kg, kx, ke⟩ s0 s) : Keeps ⟨km, kn, kp, kt, kj, ko, kf, kd, kc, kl, ki, kz, kg, kx, ke⟩ s0 (State.showTaken s) := by
  unfold State.showTaken
  extract_lets -underBinder x1
  have h2 : Keeps h.kept s0 x1 := h.put
  exact h2.putB

theorem Keeps.calRestore {s0 s a2 a3} (h : Keeps ⟨false, kn, kp, kt, false, false, kf, false, false, kl, ki, kz, false, kx, ke⟩ s0 s) : Keeps ⟨false, kn, kp, kt, false, false, kf, false, false, kl, ki, kz, false, kx, ke⟩ s0 (State.calRestore s a2 a3) := by
  unfold State.calRestore
  extract_lets -underBinder x1
  have h2 : Keeps h.kept s0 x1 := h.count
  exact Keeps.ite h2 h2.smpCreate.post

theorem Keeps.sharePlan {s0 s a2} (h : Keeps ⟨km, kn, kp, kt, kj, ko, kf, false, kc, kl, ki, kz, kg, kx, ke⟩ s0 s) : Keeps ⟨km, kn, kp, kt, kj, ko, kf, false, kc, kl, ki, kz, kg, kx, ke⟩ s0 (State.sharePlan s a2) := by
  unfold State.sharePlan
  exact h.when (fun _ h2 => h2.setDue)

theorem Keeps.planGone {s0 s a2} (h : Keeps ⟨km, kn, kp, kt, kj, ko, kf, false, kc, kl, ki, kz, kg, kx, ke⟩ s0 s) : Keeps ⟨km, kn, kp, kt, kj, ko, kf, false, kc, kl, ki, kz, kg, kx, ke⟩ s0 (State.planGone s a2) := by
  unfold State.planGone
  exact h.sharePlan

theorem Keeps.assignShare {s0 s a2} (h : Keeps ⟨km, kn, kp, kt, kj, ko, kf, false, false, kl, ki, kz, kg, kx, ke⟩ s0 s) : Keeps ⟨km, kn, kp, kt, kj, ko, kf, false, false, kl, ki, kz, kg, kx, ke⟩ s0 (State.assignShare s a2) := by
  unfold State.assignShare
  extract_lets -underBinder x1 x2
  have h4 : Keeps h.kept s0 x2 := h.assignCells
  exact h4.each (fun _ _ h6 => h6.sharePlan)

theorem Keeps.dropBatch {s0 s a2 a3} (h : Keeps ⟨false, kn, kp, kt, false, false, kf, false, false, kl, ki, kz, false, kx, ke⟩ s0 s) : Keeps ⟨false, kn, kp, kt, false, false, kf, false, false, kl, ki, kz, false, kx, ke⟩ s0 (State.dropBatch s a2 a3) := by
  unfold State.dropBatch
  split
  · exact h
  · extract_lets -underBinder x6 x7 x8
    have h10 : Keeps h.kept s0 x6 := h.each (fun _ _ h11 => h11.calRestore)
    have h12 : Keeps h.kept s0 x7 := h10.planGone
    have h13 : Keeps h.kept s0 x8 := h12.setCal
    exact h13.showTaken

theorem Keeps.runEnded {s0 s a2 a3 a4} (h : Keeps ⟨km, kn, kp, kt, kj, ko, kf, kd, false, kl, ki, kz, kg, kx, ke⟩ s0 s) : Keeps ⟨km, kn, kp, kt, kj, ko, kf, kd, false, kl, ki, kz, kg, kx, ke⟩ s0 (State.runEnded s a2 a3 a4) := by
  unfold State.runEnded
  extract_lets -underBinder x1 x2 x3
  have h5 : Keeps h.kept s0 x1 := h.setCal
  have h6 : Keeps h.kept s0 x3 := h5.setCal
  exact h6.each (fun _ _ h8 => h8.complete)

theorem Keeps.calWatch {s0 s} (h : Keeps ⟨false, kn, kp, kt, false, false, kf, false, false, kl, ki, kz, false, kx, ke⟩ s0 s) : Keeps ⟨false, kn, kp, kt, false, false, kf, false, false, kl, ki, kz, false, kx, ke⟩ s0 (State.calWatch s) := by
  unfold State.calWatch
  refine (Keeps.ite h (h.each (fun _ _ h2 => ?_)))
  extract_lets -underBinder x3 x4 x5 x6 x7
  have h8 : Keeps h.kept s0 x7 := h2.calRestore
  exact Keeps.ite h8.setBatch.setCal.showTaken h2

theorem Keeps.calStop {s0 s a2} (h : Keeps ⟨false, kn, kp, kt, false, false, kf, false, false, kl, ki, kz, false, kx, ke⟩ s0 s) : Keeps ⟨false, kn, kp, kt, false, false, kf, false, false, kl, ki, kz, false, kx, ke⟩ s0 (State.calStop s a2) := by
  unfold State.calStop
  extract_lets -underBinder x1 x2 x3 x4 x5 x6
  refine (Keeps.showTaken ?_)
  have h10 : Keeps h.kept s0 x3 := h.each (fun _ _ h11 => h11.dropBatch)
  have h13 : Keeps h.kept s0 x4 := h10.each (fun _ _ h14 => h14.put.put)
  have h15 : Keeps h.kept s0 x5 := h13.setCal
  have h17 : Keeps h.kept s0 x6 := h15.when (fun _ h18 => h18.runEnded)
  clear_value x2
  split
  · exact h17.runEnded
  · exact h17

theorem Keeps.sendFrameAt {s0 s a2 a3 a4 a5} (h : Keeps ⟨km, kn, kp, kt, kj, ko, kf, kd, kc, kl, ki, kz, kg, kx, ke⟩ s0 s) : Keeps ⟨km, kn, kp, kt, kj, ko, kf, kd, kc, kl, ki, kz, kg, kx, ke⟩ s0 (State.sendFrameAt s a2 a3 a4 a5) := by
  unfold State.sendFrameAt
  exact h.send

theorem Keeps.sendFrame {s0 s a2 a3 a4} (h : Keeps ⟨km, kn, kp, kt, kj, ko, kf, kd, kc, kl, ki, kz, kg, kx, ke⟩ s0 s) : Keeps ⟨km, kn, kp, kt, kj, ko, kf, kd, kc, kl, ki, kz, kg, kx, ke⟩ s0 (State.sendFrame s a2 a3 a4) := by
  unfold State.sendFrame
  exact h.sendFrameAt

theorem Keeps.cmdFrame {s0 s a2 a3} (h : Keeps ⟨km, kn, kp, kt, kj, ko, kf, kd, kc, kl, ki, kz, kg, kx, ke⟩ s0 s) : Keeps ⟨km, kn, kp, kt, kj, ko, kf, kd, kc, kl, ki, kz, kg, kx, ke⟩ s0 (State.cmdFrame s a2 a3) := by
  unfold State.cmdFrame
  exact h.sendFrame

theorem Keeps.stsFrame {s0 s a2 a3} (h : Keeps ⟨km, kn, kp, kt, kj, ko, kf, kd, kc, kl, ki, kz, kg, kx, ke⟩ s0 s) : Keeps ⟨km, kn, kp, kt, kj, ko, kf, kd, kc, kl, ki, kz, kg, kx, ke⟩ s0 (State.stsFrame s a2 a3) := by
  unfold State.stsFrame
  exact h.sendFrame

theorem Keeps.faultFrame {s0 s a2 a3 a4} (h : Keeps ⟨km, kn, kp, kt, kj, ko, kf, kd, kc, kl, ki, kz, kg, kx, ke⟩ s0 s) : Keeps ⟨km, kn, kp, kt, kj, ko, kf, kd, kc, kl, ki, kz, kg, kx, ke⟩ s0 (State.faultFrame s a2 a3 a4) := by
  unfold State.faultFrame
  exact h.stsFrame

theorem Keeps.uartFrames {s0 s a2 a3 a4} (h : Keeps ⟨km, kn, kp, kt, kj, ko, kf, kd, kc, kl, ki, kz, kg, kx, ke⟩ s0 s) : Keeps ⟨km, kn, kp, kt, kj, ko, kf, kd, kc, kl, ki, kz, kg, kx, ke⟩ s0 (State.uartFrames s a2 a3 a4) := by
  unfold State.uartFrames
  refine (h.each (fun _ _ h2 => ?_))
  extract_lets -underBinder x3
  exact h2.sendFrame

theorem Keeps.setFld {s0 s a2} (h : Keeps ⟨km, kn, kp, kt, kj, ko, false, kd, kc, kl, ki, kz, kg, kx, ke⟩ s0 s) : Keeps ⟨km, kn, kp, kt, kj, ko, false, kd, kc, kl, ki, kz, kg, kx, ke⟩ s0 (State.setFld s a2) := by
  unfold State.setFld
  exact h.chFld

theorem Keeps.setMot {s0 s a2} (h : Keeps ⟨km, kn, kp, kt, kj, ko, false, kd, kc, kl, ki, kz, kg, kx, ke⟩ s0 s) : Keeps ⟨km, kn, kp, kt, kj, ko, false, kd, kc, kl, ki, kz, kg, kx, ke⟩ s0 (State.setMot s a2) := by
  unfold State.setMot
  exact h.chMot

theorem Keeps.axisFrame {s0 s a2 a3} (h : Keeps ⟨km, kn, kp, kt, kj, ko, false, kd, kc, kl, ki, kz, kg, kx, ke⟩ s0 s) : Keeps ⟨km, kn, kp, kt, kj, ko, false, kd, kc, kl, ki, kz, kg, kx, ke⟩ s0 (State.axisFrame s a2 a3) := by
  unfold State.axisFrame
  extract_lets -underBinder x1 x2
  have h4 : Keeps h.kept s0 x2 := h.setMot
  exact h4.stsFrame.when (fun _ h6 => h6.setWord)

theorem Keeps.mirrorAxis {s0 s a2} (h : Keeps ⟨km, kn, kp, kt, kj, ko, false, kd, kc, kl, ki, kz, kg, kx, ke⟩ s0 s) : Keeps ⟨km, kn, kp, kt, kj, ko, false, kd, kc, kl, ki, kz, kg, kx, ke⟩ s0 (State.mirrorAxis s a2) := by
  unfold State.mirrorAxis
  extract_lets -underBinder x1 x2
  exact h.each (fun _ _ h4 => h4.axisFrame)

theorem Keeps.setAxis {s0 s a2 a3} (h : Keeps ⟨km, kn, kp, kt, kj, ko, false, kd, kc, kl, ki, kz, kg, kx, ke⟩ s0 s) : Keeps ⟨km, kn, kp, kt, kj, ko, false, kd, kc, kl, ki, kz, kg, kx, ke⟩ s0 (State.setAxis s a2 a3) := by
  unfold State.setAxis
  exact h.setMot.mirrorAxis

theorem Keeps.axisTold {s0 s a2 a3 a4 f5} (h : Keeps ⟨km, kn, kp, kt, kj, ko, kf, kd, kc, kl, ki, kz, kg, kx, ke⟩ s0 s) (kf5 : ∀ t0, Keeps ⟨km, kn, kp, kt, kj, ko, kf, kd, kc, kl, ki, kz, kg, kx, ke⟩ s0 t0 → Keeps ⟨km, kn, kp, kt, kj, ko, kf, kd, kc, kl, ki, kz, kg, kx, ke⟩ s0 (f5 t0)) : Keeps ⟨km, kn, kp, kt, kj, ko, kf, kd, kc, kl, ki, kz, kg, kx, ke⟩ s0 (State.axisTold s a2 a3 a4 f5) := by
  unfold State.axisTold
  exact h.faultFrame.when kf5

theorem Keeps.moveDone {s0 s a2 a3 a4} (h : Keeps ⟨km, kn, kp, kt, kj, ko, false, kd, kc, kl, ki, kz, kg, kx, ke⟩ s0 s) : Keeps ⟨km, kn, kp, kt, kj, ko, false, kd, kc, kl, ki, kz, kg, kx, ke⟩ s0 (State.moveDone s a2 a3 a4) := by
  unfold State.moveDone
  split
  · exact h
  · exact h.setAxis.complete

theorem Keeps.applyHeldLimits {s0 s a2} (h : Keeps ⟨km, kn, kp, kt, kj, ko, false, kd, kc, kl, ki, kz, kg, kx, ke⟩ s0 s) : Keeps ⟨km, kn, kp, kt, kj, ko, false, kd, kc, kl, ki, kz, kg, kx, ke⟩ s0 (State.applyHeldLimits s a2) := by
  unfold State.applyHeldLimits
  extract_lets -underBinder x1 x2
  have h3 : Keeps h.kept s0 x2 := h.setFld
  exact h3.setAxis

theorem Keeps.moveReached {s0 s a2} (h : Keeps ⟨km, kn, kp, kt, kj, ko, false, kd, kc, kl, ki, kz, kg, kx, ke⟩ s0 s) : Keeps ⟨km, kn, kp, kt, kj, ko, false, kd, kc, kl, ki, kz, kg, kx, ke⟩ s0 (State.moveReached s a2) := by
  unfold State.moveReached
  extract_lets -underBinder x1 x2
  have h3 : Keeps h.kept s0 x1 := h.setAxis
  have h4 : Keeps h.kept s0 x2 := h3.put.count
  exact h4.pmcAdd.post.moveDone.applyHeldLimits

theorem Keeps.moveShort {s0 s a2 a3} (h : Keeps ⟨km, kn, kp, kt, kj, ko, false, kd, kc, kl, ki, kz, kg, kx, ke⟩ s0 s) : Keeps ⟨km, kn, kp, kt, kj, ko, false, kd, kc, kl, ki, kz, kg, kx, ke⟩ s0 (State.moveShort s a2 a3) := by
  unfold State.moveShort
  extract_lets -underBinder x1 x2 x3
  have h4 : Keeps h.kept s0 x2 := h.setAxis
  have h5 : Keeps h.kept s0 x3 := h4.count.post
  exact h5.moveDone.applyHeldLimits

theorem Keeps.axisOff {s0 s a2} (h : Keeps ⟨km, kn, kp, kt, kj, ko, false, kd, kc, kl, ki, kz, kg, kx, ke⟩ s0 s) : Keeps ⟨km, kn, kp, kt, kj, ko, false, kd, kc, kl, ki, kz, kg, kx, ke⟩ s0 (State.axisOff s a2) := by
  unfold State.axisOff
  exact h.setAxis

theorem Keeps.axisStop {s0 s a2} (h : Keeps ⟨km, kn, kp, kt, kj, ko, false, kd, kc, kl, ki, kz, kg, kx, ke⟩ s0 s) : Keeps ⟨km, kn, kp, kt, kj, ko, false, kd, kc, kl, ki, kz, kg, kx, ke⟩ s0 (State.axisStop s a2) := by
  unfold State.axisStop
  refine (h.each (fun _ _ h2 => ?_))
  split
  · extract_lets -underBinder x5
    exact h2.setAxis
  · extract_lets -underBinder x8
    exact h2.setAxis
  · exact h2

theorem Keeps.axisFail {s0 s a2} (h : Keeps ⟨km, kn, kp, kt, kj, ko, false, kd, kc, kl, ki, kz, kg, kx, ke⟩ s0 s) : Keeps ⟨km, kn, kp, kt, kj, ko, false, kd, kc, kl, ki, kz, kg, kx, ke⟩ s0 (State.axisFail s a2) := by
  unfold State.axisFail
  extract_lets -underBinder x1 x2
  have h3 : Keeps h.kept s0 x1 := h.setAxis
  have h4 : Keeps h.kept s0 x2 := Keeps.ite h3.setAxis h3.setAxis
  exact h4.moveShort

theorem Keeps.parkFail {s0 s a2} (h : Keeps ⟨km, kn, kp, kt, kj, ko, kf, kd, kc, kl, ki, kz, kg, kx, ke⟩ s0 s) : Keeps ⟨km, kn, kp, kt, kj, ko, kf, kd, kc, kl, ki, kz, kg, kx, ke⟩ s0 (State.parkFail s a2) := by
  unfold State.parkFail
  exact h.axisTold (fun _ h2 => h2.put.post)

theorem Keeps.liftEnds {s0 s a2} (h : Keeps ⟨km, kn, kp, kt, kj, ko, false, kd, kc, kl, ki, kz, kg, kx, ke⟩ s0 s) : Keeps ⟨km, kn, kp, kt, kj, ko, false, kd, kc, kl, ki, kz, kg, kx, ke⟩ s0 (State.liftEnds s a2) := by
  unfold State.liftEnds
  exact h.setAxis.applyHeldLimits

theorem Keeps.liftFrom {s0 s a2} (h : Keeps ⟨km, kn, kp, kt, kj, ko, false, kd, kc, kl, ki, kz, kg, kx, ke⟩ s0 s) : Keeps ⟨km, kn, kp, kt, kj, ko, false, kd, kc, kl, ki, kz, kg, kx, ke⟩ s0 (State.liftFrom s a2).2 := by
  unfold State.liftFrom
  extract_lets -underBinder x1 x2
  split
  · dsimp only
    exact h.count.post.moveDone
  · split
    · dsimp only
      exact h
    · dsimp only
      exact h.setAxis

theorem Keeps.lift {s0 a1 s} (h : Keeps ⟨km, kn, kp, kt, kj, ko, false, kd, kc, kl, ki, kz, kg, kx, ke⟩ s0 s) : Keeps ⟨km, kn, kp, kt, kj, ko, false, kd, kc, kl, ki, kz, kg, kx, ke⟩ s0 (State.lift a1 s) := by
  unfold State.lift
  extract_lets -underBinder x1
  refine (Keeps.ite h ?_)
  split
  · rename_i y5
    have h6 := Keeps.snd y5 h.liftFrom
    extract_lets -underBinder x7 x8 x9 x10 x11 x12 x13
    exact h6.setAxis

theorem Keeps.emergencyLift {s0 s} (h : Keeps ⟨km, kn, kp, kt, kj, ko, false, kd, kc, kl, ki, kz, kg, kx, ke⟩ s0 s) : Keeps ⟨km, kn, kp, kt, kj, ko, false, kd, kc, kl, ki, kz, kg, kx, ke⟩ s0 (State.emergencyLift s) := by
  unfold State.emergencyLift
  exact Keeps.ite (h.each (fun _ _ h3 => h3.lift)) (h.each (fun _ _ h4 => h4.setAxis.parkFail))

theorem Keeps.parked {s0 s a2 a3} (h : Keeps ⟨km, kn, kp, kt, kj, ko, false, kd, kc, kl, ki, kz, kg, kx, ke⟩ s0 s) : Keeps ⟨km, kn, kp, kt, kj, ko, false, kd, kc, kl, ki, kz, kg, kx, ke⟩ s0 (State.parked s a2 a3) := by
  unfold State.parked
  extract_lets -underBinder x1
  have h4 : Keeps h.kept s0 x1 := h.liftEnds.axisTold (fun _ h5 => h5.put.post)
  exact h4.when (fun _ h7 => h7.axisOff)

theorem Keeps.axisRefuse {s0 s a2 a3 a4 a5} (h : Keeps ⟨km, kn, kp, kt, kj, ko, false, kd, kc, kl, ki, kz, kg, kx, ke⟩ s0 s) : Keeps ⟨km, kn, kp, kt, kj, ko, false, kd, kc, kl, ki, kz, kg, kx, ke⟩ s0 (State.axisRefuse s a2 a3 a4 a5) := by
  unfold State.axisRefuse
  extract_lets -underBinder x1 x2
  have h3 : Keeps h.kept s0 x1 := h.setAxis
  have h4 : Keeps h.kept s0 x2 := h3.put.count.post
  split
  · exact h4
  · exact h4.complete

theorem Keeps.axisDone {s0 s a2} (h : Keeps ⟨km, kn, kp, kt, kj, ko, kf, kd, kc, kl, ki, kz, kg, kx, ke⟩ s0 s) : Keeps ⟨km, kn, kp, kt, kj, ko, kf, kd, kc, kl, ki, kz, kg, kx, ke⟩ s0 (State.axisDone s a2) := by
  unfold State.axisDone
  split
  · exact h
  · exact h.complete

theorem Keeps.axisStart {s0 s a2 a3 a4 a5} (h : Keeps ⟨km, kn, kp, kt, kj, ko, false, kd, kc, kl, ki, kz, kg, kx, ke⟩ s0 s) : Keeps ⟨km, kn, kp, kt, kj, ko, false, kd, kc, kl, ki, kz, kg, kx, ke⟩ s0 (State.axisStart s a2 a3 a4 a5) := by
  unfold State.axisStart
  extract_lets -underBinder x1 x2 x3
  refine (Keeps.ite h.axisRefuse (Keeps.ite h.axisRefuse ?_))
  clear_value x3
  split
  · exact (h.axisTold (fun _ h7 => h7.put.post)).axisRefuse
  · exact h.each (fun _ _ h10 => h10.setAxis)

theorem Keeps.planTo {s0 s a2 a3} (h : Keeps ⟨km, kn, kp, kt, kj, ko, false, kd, kc, kl, ki, kz, kg, kx, ke⟩ s0 s) : Keeps ⟨km, kn, kp, kt, kj, ko, false, kd, kc, kl, ki, kz, kg, kx, ke⟩ s0 (State.planTo s a2 a3) := by
  unfold State.planTo
  extract_lets -underBinder x1
  exact h.each (fun _ _ h3 => h3.setAxis)

theorem Keeps.axisGoto {s0 s a2 a3} (h : Keeps ⟨km, kn, kp, kt, kj, ko, false, kd, kc, kl, ki, kz, kg, kx, ke⟩ s0 s) : Keeps ⟨km, kn, kp, kt, kj, ko, false, kd, kc, kl, ki, kz, kg, kx, ke⟩ s0 (State.axisGoto s a2 a3) := by
  unfold State.axisGoto
  extract_lets -underBinder x1
  exact Keeps.ite (Keeps.ite h.axisRefuse h.moveDone.planTo.setAxis) (Keeps.ite h.axisRefuse (Keeps.ite h.axisRefuse h.planTo.setAxis))

theorem Keeps.axisStopCmd {s0 s a2 a3} (h : Keeps ⟨km, kn, kp, kt, kj, ko, false, kd, kc, kl, ki, kz, kg, kx, ke⟩ s0 s) : Keeps ⟨km, kn, kp, kt, kj, ko, false, kd, kc, kl, ki, kz, kg, kx, ke⟩ s0 (State.axisStopCmd s a2 a3) := by
  unfold State.axisStopCmd
  exact Keeps.ite h.axisRefuse h.axisStop.axisDone

theorem Keeps.axisResume {s0 s a2 a3} (h : Keeps ⟨km, kn, kp, kt, kj, ko, false, kd, kc, kl, ki, kz, kg, kx, ke⟩ s0 s) : Keeps ⟨km, kn, kp, kt, kj, ko, false, kd, kc, kl, ki, kz, kg, kx, ke⟩ s0 (State.axisResume s a2 a3) := by
  unfold State.axisResume
  extract_lets -underBinder x1
  exact Keeps.ite h.axisRefuse (Keeps.ite h.axisRefuse h.planTo.setAxis)

theorem Keeps.axisEnable {s0 s a2 a3} (h : Keeps ⟨km, kn, kp, kt, kj, ko, false, kd, kc, kl, ki, kz, kg, kx, ke⟩ s0 s) : Keeps ⟨km, kn, kp, kt, kj, ko, false, kd, kc, kl, ki, kz, kg, kx, ke⟩ s0 (State.axisEnable s a2 a3) := by
  unfold State.axisEnable
  exact Keeps.ite h.axisRefuse (h.each (fun _ _ h2 => h2.setAxis)).axisDone

theorem Keeps.axisDisable {s0 s a2 a3} (h : Keeps ⟨km, kn, kp, kt, kj, ko, false, kd, kc, kl, ki, kz, kg, kx, ke⟩ s0 s) : Keeps ⟨km, kn, kp, kt, kj, ko, false, kd, kc, kl, ki, kz, kg, kx, ke⟩ s0 (State.axisDisable s a2 a3) := by
  unfold State.axisDisable
  split
  · exact h.axisRefuse
  · exact h.axisDone
  · exact (h.each (fun _ _ h8 => h8.axisOff)).axisDone
  · exact (h.axisStop.each (fun _ _ h14 => h14.setAxis)).axisDone

theorem Keeps.axisSetPos {s0 s a2 a3} (h : Keeps ⟨km, kn, kp, kt, kj, ko, false, kd, kc, kl, ki, kz, kg, kx, ke⟩ s0 s) : Keeps ⟨km, kn, kp, kt, kj, ko, false, kd, kc, kl, ki, kz, kg, kx, ke⟩ s0 (State.axisSetPos s a2 a3) := by
  unfold State.axisSetPos
  extract_lets -underBinder x1 x2
  have h3 : Keeps h.kept s0 x2 := h.setAxis
  exact Keeps.ite h.axisRefuse h3.setMot.axisDone

theorem Keeps.axisMove {s0 s a2 a3 a4 a5 a6} (h : Keeps ⟨km, kn, kp, kt, kj, ko, false, kd, kc, kl, ki, kz, kg, kx, ke⟩ s0 s) : Keeps ⟨km, kn, kp, kt, kj, ko, false, kd, kc, kl, ki, kz, kg, kx, ke⟩ s0 (State.axisMove s a2 a3 a4 a5 a6) := by
  unfold State.axisMove
  split
  · exact h.axisRefuse
  · exact Keeps.ite h.axisStart (Keeps.ite h.axisGoto (Keeps.ite h.axisStopCmd (Keeps.ite h.axisResume (Keeps.ite h.axisEnable (Keeps.ite h.axisDisable h.axisSetPos)))))

theorem Keeps.axisTarget {s0 s a2 a3} (h : Keeps ⟨km, kn, kp, kt, kj, ko, false, kd, kc, kl, ki, kz, kg, kx, ke⟩ s0 s) : Keeps ⟨km, kn, kp, kt, kj, ko, false, kd, kc, kl, ki, kz, kg, kx, ke⟩ s0 (State.axisTarget s a2 a3) := by
  unfold State.axisTarget
  extract_lets -underBinder x1 x2
  have h3 : Keeps h.kept s0 x2 := h.setAxis
  exact Keeps.ite h3.setAxis (Keeps.ite (Keeps.ite h3 h3.axisRefuse) h3.planTo)

theorem Keeps.holdMotion {s0 s a b c d t} (h : Keeps ⟨km, kn, kp, kt, kj, ko, false, kd, kc, kl, ki, kz, kg, kx, ke⟩ s0 s) (e : State.holdMotion s a b c d = some t) : Keeps ⟨km, kn, kp, kt, kj, ko, false, kd, kc, kl, ki, kz, kg, kx, ke⟩ s0 t := by
  unfold State.holdMotion at e
  split at e
  · cases e
  · split at e
    · cases e
      exact h.setMot
    · cases e
      exact h.put.axisRefuse

theorem Keeps.motionCmd {s0 s a2 a3} (h : Keeps ⟨km, kn, kp, kt, kj, ko, false, kd, kc, kl, ki, kz, kg, kx, ke⟩ s0 s) : Keeps ⟨km, kn, kp, kt, kj, ko, false, kd, kc, kl, ki, kz, kg, kx, ke⟩ s0 (State.motionCmd s a2 a3) := by
  unfold State.motionCmd
  extract_lets -underBinder x1
  refine (Keeps.ite h ?_)
  split
  · rename_i y4
    have h5 := Keeps.holdMotion h y4
    exact h5
  · exact h.cmdFrame.axisMove

theorem Keeps.motionTarget {s0 s a2 a3} (h : Keeps ⟨km, kn, kp, kt, kj, ko, false, kd, kc, kl, ki, kz, kg, kx, ke⟩ s0 s) : Keeps ⟨km, kn, kp, kt, kj, ko, false, kd, kc, kl, ki, kz, kg, kx, ke⟩ s0 (State.motionTarget s a2 a3) := by
  unfold State.motionTarget
  split
  · rename_i y3
    have h4 := Keeps.holdMotion h y3
    exact h4
  · exact h.setWord.cmdFrame.axisTarget

theorem Keeps.releaseMotion {s0 s} (h : Keeps ⟨km, kn, kp, kt, kj, ko, false, kd, kc, kl, ki, kz, kg, kx, ke⟩ s0 s) : Keeps ⟨km, kn, kp, kt, kj, ko, false, kd, kc, kl, ki, kz, kg, kx, ke⟩ s0 (State.releaseMotion s) := by
  unfold State.releaseMotion
  extract_lets -underBinder x1
  refine (h.setMot.each (fun _ _ h3 => ?_))
  extract_lets -underBinder x4
  exact Keeps.ite h3.motionCmd h3.motionTarget

theorem Keeps.dropMotion {s0 s} (h : Keeps ⟨km, kn, kp, kt, kj, ko, false, kd, kc, kl, ki, kz, kg, kx, ke⟩ s0 s) : Keeps ⟨km, kn, kp, kt, kj, ko, false, kd, kc, kl, ki, kz, kg, kx, ke⟩ s0 (State.dropMotion s) := by
  unfold State.dropMotion
  extract_lets -underBinder x1 x2
  have h5 : Keeps h.kept s0 x2 := h.when (fun _ h6 => h6.put)
  exact h5.setMot.each (fun _ _ h8 => h8.axisRefuse)

theorem Keeps.stopAxes {s0 s} (h : Keeps ⟨km, kn, kp, kt, kj, ko, false, kd, kc, kl, ki, kz, kg, kx, ke⟩ s0 s) : Keeps ⟨km, kn, kp, kt, kj, ko, false, kd, kc, kl, ki, kz, kg, kx, ke⟩ s0 (State.stopAxes s) := by
  unfold State.stopAxes
  exact h.each (fun _ _ h2 => h2.axisStop)

theorem Keeps.applySetting {s0 s a2 a3} (h : Keeps ⟨km, kn, kp, kt, kj, ko, false, kd, kc, kl, ki, kz, kg, kx, ke⟩ s0 s) : Keeps ⟨km, kn, kp, kt, kj, ko, false, kd, kc, kl, ki, kz, kg, kx, ke⟩ s0 (State.applySetting s a2 a3) := by
  unfold State.applySetting
  extract_lets -underBinder x1
  split
  · extract_lets -underBinder x6 x7
    have h8 : Keeps h.kept s0 x7 := h.setFld
    exact Keeps.ite h.setFld (Keeps.ite h8.planTo h.setAxis.put)

theorem Keeps.tableTick {s0 s a2} (h : Keeps ⟨km, kn, kp, kt, kj, ko, false, kd, kc, kl, ki, kz, kg, kx, ke⟩ s0 s) : Keeps ⟨km, kn, kp, kt, kj, ko, false, kd, kc, kl, ki, kz, kg, kx, ke⟩ s0 (State.tableTick s a2) := by
  unfold State.tableTick
  extract_lets -underBinder x1 x2 x3 x4 x5 x6 x7 x8
  split
  · extract_lets -underBinder x13
    exact Keeps.ite h.setAxis (Keeps.ite h.setAxis h.setAxis.moveReached)

theorem Keeps.moveRest {s0 s a2} (h : Keeps ⟨km, kn, kp, kt, kj, ko, false, kd, kc, kl, ki, kz, kg, kx, ke⟩ s0 s) : Keeps ⟨km, kn, kp, kt, kj, ko, false, kd, kc, kl, ki, kz, kg, kx, ke⟩ s0 (State.moveRest s a2) := by
  unfold State.moveRest
  split
  · exact h.moveReached
  · extract_lets -underBinder x5 x6
    have h8 : Keeps h.kept s0 x6 := h.moveShort
    exact h8.when (fun _ h10 => h10.axisOff)
  · exact h.parked
  · exact h

theorem Keeps.axisTick {s0 s a2} (h : Keeps ⟨km, kn, kp, kt, kj, ko, false, kd, kc, kl, ki, kz, kg, kx, ke⟩ s0 s) : Keeps ⟨km, kn, kp, kt, kj, ko, false, kd, kc, kl, ki, kz, kg, kx, ke⟩ s0 (State.axisTick s a2) := by
  unfold State.axisTick
  extract_lets -underBinder x1
  split
  · exact h.tableTick
  · split
    · extract_lets -underBinder x10
      have h12 : Keeps h.kept s0 x10 := h.setAxis
      exact h12.when (fun _ h14 => h14.moveRest)
  · split
    · extract_lets -underBinder x21
      have h23 : Keeps h.kept s0 x21 := h.setAxis
      exact h23.when (fun _ h25 => h25.moveRest)
  · split
    · extract_lets -underBinder x32
      have h34 : Keeps h.kept s0 x32 := h.setAxis
      exact h34.when (fun _ h36 => h36.moveRest)
  · exact h

theorem Keeps.axisSense {s0 s a2 a3} (h : Keeps ⟨km, kn, kp, kt, kj, ko, false, kd, kc, kl, ki, kz, kg, kx, ke⟩ s0 s) : Keeps ⟨km, kn, kp, kt, kj, ko, false, kd, kc, kl, ki, kz, kg, kx, ke⟩ s0 (State.axisSense s a2 a3) := by
  unfold State.axisSense
  extract_lets -underBinder x1 x2 x3 x4 x5
  exact Keeps.ite h.setAxis h.setAxis

theorem Keeps.gantrySkew {s0 s} (h : Keeps ⟨km, kn, kp, kt, kj, ko, false, kd, kc, kl, ki, kz, kg, kx, ke⟩ s0 s) : Keeps ⟨km, kn, kp, kt, kj, ko, false, kd, kc, kl, ki, kz, kg, kx, ke⟩ s0 (State.gantrySkew s) := by
  unfold State.gantrySkew
  extract_lets -underBinder x1 x2 x3 x4
  have h8 : Keeps h.kept s0 x4 := h.each (fun _ _ h9 => h9.liftEnds.parkFail)
  exact Keeps.ite (h.when (fun _ h12 => h12.setMot)) (Keeps.ite h (h8.setMot.axisStop.axisTold (fun _ h13 => h13.put.post)))

theorem Keeps.coilsTick {s0 s a2 a3 a4} (h : Keeps ⟨km, kn, kp, kt, kj, ko, false, kd, kc, kl, ki, kz, kg, kx, ke⟩ s0 s) : Keeps ⟨km, kn, kp, kt, kj, ko, false, kd, kc, kl, ki, kz, kg, kx, ke⟩ s0 (State.coilsTick s a2 a3 a4) := by
  unfold State.coilsTick
  extract_lets -underBinder x1
  refine (Keeps.ite h.setAxis (Keeps.ite h.setAxis ?_))
  split
  · extract_lets -underBinder x6 x7
    have h9 : Keeps h.kept s0 x7 := h.setAxis
    exact h9.when (fun _ h11 => h11.drawn)

theorem Keeps.axisReports {s0 s a2} (h : Keeps ⟨km, kn, kp, kt, kj, ko, false, kd, kc, kl, ki, kz, kg, kx, ke⟩ s0 s) : Keeps ⟨km, kn, kp, kt, kj, ko, false, kd, kc, kl, ki, kz, kg, kx, ke⟩ s0 (State.axisReports s a2) := by
  unfold State.axisReports
  extract_lets -underBinder x1
  exact Keeps.ite (h.each (fun _ _ h4 => h4.axisFrame)).setMot (Keeps.ite (h.each (fun _ _ h5 => h5.axisFrame)).setMot h)

theorem Keeps.controlTick {s0 s a2 a3 a4} (h : Keeps ⟨km, kn, kp, kt, kj, ko, false, kd, kc, kl, ki, kz, kg, kx, ke⟩ s0 s) : Keeps ⟨km, kn, kp, kt, kj, ko, false, kd, kc, kl, ki, kz, kg, kx, ke⟩ s0 (State.controlTick s a2 a3 a4) := by
  unfold State.controlTick
  extract_lets -underBinder x1 x2 x3 x4
  have h10 : Keeps h.kept s0 x1 := h.each (fun _ _ h11 => h11.setAxis)
  have h13 : Keeps h.kept s0 x2 := h10.each (fun _ _ h14 => h14.axisTick)
  have h16 : Keeps h.kept s0 x3 := h13.each (fun _ _ h17 => h17.axisSense)
  have h19 : Keeps h.kept s0 x4 := h16.each (fun _ _ h20 => h20.coilsTick)
  exact h19.gantrySkew.each (fun _ _ h22 => h22.axisReports)

theorem Keeps.setMode {s0 s a2} (h : Keeps ⟨false, kn, kp, kt, false, false, kf, false, false, false, ki, kz, false, kx, ke⟩ s0 s) : Keeps ⟨false, kn, kp, kt, false, false, kf, false, false, false, ki, kz, false, kx, ke⟩ s0 (State.setMode s a2) := by
  unfold State.setMode
  extract_lets -underBinder x1 x2 x3 x4
  have h7 : Keeps h.kept s0 x2 := h.put
  have h9 : Keeps h.kept s0 x3 := h7.when (fun _ h10 => h10.calStop)
  have h12 : Keeps h.kept s0 x4 := h9.when (fun _ h13 => h13.dropCalJobs)
  exact h12.refreshCeil

theorem Keeps.autoMode {s0 s a2 a3} (h : Keeps ⟨false, kn, kp, kt, false, false, kf, false, false, false, ki, kz, false, kx, ke⟩ s0 s) : Keeps ⟨false, kn, kp, kt, false, false, kf, false, false, false, ki, kz, false, kx, ke⟩ s0 (State.autoMode s a2 a3) := by
  unfold State.autoMode
  exact h.setMode.pmcAdd.post

theorem Keeps.cancelMode {s0 s a2} (h : Keeps ⟨km, kn, false, kt, kj, ko, kf, kd, kc, kl, ki, kz, kg, kx, ke⟩ s0 s) : Keeps ⟨km, kn, false, kt, kj, ko, kf, kd, kc, kl, ki, kz, kg, kx, ke⟩ s0 (State.cancelMode s a2) := by
  unfold State.cancelMode
  split
  · exact h
  · extract_lets -underBinder x6 x7 x8
    have h9 : Keeps h.kept s0 x7 := h.chPwr
    have h10 : Keeps h.kept s0 x8 := h9.put.post
    split
    · exact h10.complete
    · exact h10

theorem Keeps.voteDie {s0 s a2} (h : Keeps ⟨km, kn, kp, kt, kj, ko, kf, false, kc, kl, ki, kz, kg, kx, ke⟩ s0 s) : Keeps ⟨km, kn, kp, kt, kj, ko, kf, false, kc, kl, ki, kz, kg, kx, ke⟩ s0 (State.voteDie s a2) := by
  unfold State.voteDie
  extract_lets -underBinder x1 x2
  exact h.setDue.putI64

theorem Keeps.setRole {s0 s a2} (h : Keeps ⟨km, kn, kp, kt, kj, ko, false, false, kc, false, ki, kz, kg, kx, ke⟩ s0 s) : Keeps ⟨km, kn, kp, kt, kj, ko, false, false, kc, false, ki, kz, kg, kx, ke⟩ s0 (State.setRole s a2) := by
  unfold State.setRole
  extract_lets -underBinder x1 x2 x3 x4 x5 x6
  have h8 : Keeps h.kept s0 x1 := h.when (fun _ h9 => h9.voteDie)
  have h10 : Keeps h.kept s0 x2 := h8.put.put
  have h11 : Keeps h.kept s0 x3 := h10.pmcAdd.setDue
  have h12 : Keeps h.kept s0 x4 := h11.put
  have h13 : Keeps h.kept s0 x5 := Keeps.ite h12.put h12
  have h14 : Keeps h.kept s0 x6 := Keeps.ite h13.put.dropMotion h13
  exact Keeps.ite h h14.refreshCeil

theorem Keeps.detach {s0 s} (h : Keeps ⟨km, kn, kp, kt, kj, ko, false, false, kc, false, ki, kz, kg, kx, ke⟩ s0 s) : Keeps ⟨km, kn, kp, kt, kj, ko, false, false, kc, false, ki, kz, kg, kx, ke⟩ s0 (State.detach s) := by
  unfold State.detach
  exact Keeps.ite h.setRole.post h

theorem Keeps.order {s0 s a2} (h : Keeps ⟨km, kn, kp, kt, kj, ko, kf, false, kc, false, ki, kz, kg, kx, ke⟩ s0 s) : Keeps ⟨km, kn, kp, kt, kj, ko, kf, false, kc, false, ki, kz, kg, kx, ke⟩ s0 (State.order s a2) := by
  unfold State.order
  exact Keeps.ite h.duetSend h

theorem Keeps.stopSteps {s0 s a2} (h : Keeps ⟨false, kn, kp, kt, false, false, kf, false, false, false, false, kz, false, kx, ke⟩ s0 s) : Keeps ⟨false, kn, kp, kt, false, false, kf, false, false, false, false, kz, false, kx, ke⟩ s0 (State.stopSteps s a2) := by
  unfold State.stopSteps
  extract_lets -underBinder x1
  have h3 : Keeps h.kept s0 x1 := h.endChains.each (fun _ _ h4 => h4.flushPort)
  exact h3.setMode

theorem Keeps.enterSafeStop {s0 s a2} (h : Keeps ⟨false, kn, false, kt, false, false, false, false, false, false, false, kz, false, kx, ke⟩ s0 s) : Keeps ⟨false, kn, false, kt, false, false, false, false, false, false, false, kz, false, kx, ke⟩ s0 (State.enterSafeStop s a2) := by
  unfold State.enterSafeStop
  extract_lets -underBinder x1 x2 x3 x4 x5
  have h7 : Keeps h.kept s0 x2 := h.cancelMode.stopSteps.count
  have h8 : Keeps h.kept s0 x3 := h7.pmcAdd.setDue
  have h10 : Keeps h.kept s0 x4 := (h8.each (fun _ _ h11 => h11.headMode)).stopAxes.pmcAdd
  exact h10.chPwr

theorem Keeps.tellStop {s0 s} (h : Keeps ⟨km, kn, false, kt, kj, ko, kf, false, kc, false, ki, kz, kg, kx, false⟩ s0 s) : Keeps ⟨km, kn, false, kt, kj, ko, kf, false, kc, false, ki, kz, kg, kx, false⟩ s0 (State.tellStop s) := by
  unfold State.tellStop
  split
  · exact h
  · extract_lets -underBinder x7 x8 x9 x10
    have h11 : Keeps h.kept s0 x8 := h.chPwr
    have h12 : Keeps h.kept s0 x9 := h11.put.errRecord
    have h13 : Keeps h.kept s0 x10 := h12.post.order
    exact h13.post

theorem Keeps.safeStop {s0 a1 s} (h : Keeps ⟨false, kn, false, kt, false, false, false, false, false, false, false, kz, false, kx, ke⟩ s0 s) : Keeps ⟨false, kn, false, kt, false, false, false, false, false, false, false, kz, false, kx, ke⟩ s0 (State.safeStop a1 s) := by
  unfold State.safeStop
  refine (Keeps.ite h.detach (Keeps.ite h.enterSafeStop (Keeps.ite ?_ h.count.put)))
  split
  · extract_lets -underBinder x5
    exact h.chPwr
  · exact h.put.post

theorem Keeps.freeze {s0 a1 s} (h : Keeps ⟨false, kn, false, kt, false, false, false, false, false, false, false, kz, false, kx, ke⟩ s0 s) : Keeps ⟨false, kn, false, kt, false, false, false, false, false, false, false, kz, false, kx, ke⟩ s0 (State.freeze a1 s) := by
  unfold State.freeze
  extract_lets -underBinder x1 x2
  have h3 : Keeps h.kept s0 x1 := h.cancelMode
  have h4 : Keeps h.kept s0 x2 := Keeps.ite h3.setMode h3.stopSteps
  exact Keeps.ite h h4.stopAxes.pmcAdd.pmcAdd.post

theorem Keeps.portDown {s0 s a2} (h : Keeps ⟨false, kn, false, kt, false, false, false, false, false, false, false, kz, false, kx, ke⟩ s0 s) : Keeps ⟨false, kn, false, kt, false, false, false, false, false, false, false, kz, false, kx, ke⟩ s0 (State.portDown s a2) := by
  unfold State.portDown
  extract_lets -underBinder x1
  exact h.linkDown.when (fun _ h3 => h3.safeStop)

theorem Keeps.redetect {s0 s a2} (h : Keeps ⟨false, kn, false, kt, false, false, false, false, false, false, false, kz, false, kx, ke⟩ s0 s) : Keeps ⟨false, kn, false, kt, false, false, false, false, false, false, false, kz, false, kx, ke⟩ s0 (State.redetect s a2) := by
  unfold State.redetect
  exact h.portDown.hpState

theorem Keeps.beginMove {s0 s a2 a3} (h : Keeps ⟨km, kn, kp, kt, false, ko, kf, kd, kc, kl, ki, kz, kg, kx, ke⟩ s0 s) : Keeps ⟨km, kn, kp, kt, false, ko, kf, kd, kc, kl, ki, kz, kg, kx, ke⟩ s0 (State.beginMove s a2 a3) := by
  unfold State.beginMove
  exact h.setEng.put

theorem Keeps.markOut {s0 s a2 a3} (h : Keeps ⟨km, kn, kp, kt, kj, ko, kf, kd, kc, kl, ki, kz, kg, kx, ke⟩ s0 s) : Keeps ⟨km, kn, kp, kt, kj, ko, kf, kd, kc, kl, ki, kz, kg, kx, ke⟩ s0 (State.markOut s a2 a3) := by
  unfold State.markOut
  extract_lets -underBinder x1
  have h2 : Keeps h.kept s0 x1 := h.put64
  exact h2.put.put

theorem Keeps.showCheckers {s0 s} (h : Keeps ⟨km, kn, kp, kt, kj, ko, kf, kd, kc, kl, ki, kz, kg, kx, ke⟩ s0 s) : Keeps ⟨km, kn, kp, kt, kj, ko, kf, kd, kc, kl, ki, kz, kg, kx, ke⟩ s0 (State.showCheckers s) := by
  unfold State.showCheckers
  refine (h.each (fun _ _ h2 => ?_))
  extract_lets -underBinder x3
  exact h2.put.when (fun _ h5 => h5.put)

theorem Keeps.withholdOut {s0 s a2} (h : Keeps ⟨km, kn, kp, kt, false, ko, kf, kd, kc, kl, ki, kz, kg, kx, ke⟩ s0 s) : Keeps ⟨km, kn, kp, kt, false, ko, kf, kd, kc, kl, ki, kz, kg, kx, ke⟩ s0 (State.withholdOut s a2) := by
  unfold State.withholdOut
  exact h.setJobs

theorem Keeps.engineGoesOut {s0 s a2} (h : Keeps ⟨km, kn, kp, kt, false, ko, kf, kd, kc, kl, ki, kz, kg, kx, ke⟩ s0 s) : Keeps ⟨km, kn, kp, kt, false, ko, kf, kd, kc, kl, ki, kz, kg, kx, ke⟩ s0 (State.engineGoesOut s a2) := by
  unfold State.engineGoesOut
  extract_lets -underBinder x1 x2 x3 x4 x5
  have h7 : Keeps h.kept s0 x4 := by
    unfold x4
    have h8 : Keeps h.kept s0 x1 := h.markOut.showCheckers.withholdOut.post
    have h9 : Keeps h.kept s0 x2 := h8.setEng
    have h10 : Keeps h.kept s0 x3 := h9.put
    split
    · extract_lets -underBinder x14
      have h15 : Keeps h.kept s0 x14 := h10.setEng.put
      exact Keeps.ite h15.markOut.showCheckers.withholdOut.post h10
    · exact h10
  exact Keeps.ite h (h7.when (fun _ h19 => h19.beginMove))

theorem Keeps.engineTest {s0 s a2 a3} (h : Keeps ⟨km, kn, kp, kt, false, ko, kf, kd, kc, kl, ki, kz, kg, kx, ke⟩ s0 s) : Keeps ⟨km, kn, kp, kt, false, ko, kf, kd, kc, kl, ki, kz, kg, kx, ke⟩ s0 (State.engineTest s a2 a3) := by
  unfold State.engineTest
  extract_lets -underBinder x1 x2
  have h4 : Keeps h.kept s0 x1 := h.testStarted.setEng
  have h5 : Keeps h.kept s0 x2 := h4.put.put
  exact Keeps.ite h (h5.when (fun _ h7 => h7.put))

theorem Keeps.tickReads {s0 s a2 a3} (h : Keeps ⟨km, kn, kp, kt, kj, ko, kf, kd, kc, kl, ki, kz, false, kx, ke⟩ s0 s) : Keeps ⟨km, kn, kp, kt, kj, ko, kf, kd, kc, kl, ki, kz, false, kx, ke⟩ s0 (State.tickReads s a2 a3) := by
  unfold State.tickReads
  extract_lets -underBinder x1 x2 x3 x4
  have h5 : Keeps h.kept s0 x4 := h.setDram.pmcAdd
  exact Keeps.ite h5 h5.put.count.postLimited

theorem Keeps.tickFetch {s0 s a2 a3} (h : Keeps ⟨km, kn, kp, kt, kj, ko, kf, kd, kc, kl, ki, kz, false, kx, ke⟩ s0 s) : Keeps ⟨km, kn, kp, kt, kj, ko, kf, kd, kc, kl, ki, kz, false, kx, ke⟩ s0 (State.tickFetch s a2 a3) := by
  unfold State.tickFetch
  extract_lets -underBinder x1 x2
  have h5 : Keeps h.kept s0 x2 := h.each (fun _ _ h6 => h6.tickReads)
  exact Keeps.ite h5 (h5.each (fun _ _ h8 => h8.acceptTick))

theorem Keeps.tickDone {s0 s a2} (h : Keeps ⟨km, kn, kp, kt, kj, ko, kf, kd, kc, kl, ki, kz, false, kx, ke⟩ s0 s) : Keeps ⟨km, kn, kp, kt, kj, ko, kf, kd, kc, kl, ki, kz, false, kx, ke⟩ s0 (State.tickDone s a2) := by
  unfold State.tickDone
  exact h.each (fun _ _ h2 => h2.tickServed)

theorem Keeps.trained {s0 s a2} (h : Keeps ⟨km, kn, kp, kt, kj, ko, kf, kd, kc, kl, ki, kz, false, kx, ke⟩ s0 s) : Keeps ⟨km, kn, kp, kt, kj, ko, kf, kd, kc, kl, ki, kz, false, kx, ke⟩ s0 (State.trained s a2) := by
  unfold State.trained
  extract_lets -underBinder x1 x2
  have h4 : Keeps h.kept s0 x1 := h.each (fun _ _ h5 => h5.setWord)
  have h6 : Keeps h.kept s0 x2 := h4.setWord
  exact h6.setDram

theorem Keeps.showMemory {s0 s} (h : Keeps ⟨km, kn, kp, kt, kj, ko, kf, kd, kc, kl, ki, kz, kg, kx, ke⟩ s0 s) : Keeps ⟨km, kn, kp, kt, kj, ko, kf, kd, kc, kl, ki, kz, kg, kx, ke⟩ s0 (State.showMemory s) := by
  unfold State.showMemory
  extract_lets -underBinder x1 x2 x3
  have h4 : Keeps h.kept s0 x2 := h.put.put
  have h5 : Keeps h.kept s0 x3 := h4.put64
  exact h5.put.put

theorem Keeps.trainEnds {s0 s a2} (h : Keeps ⟨km, kn, kp, kt, kj, ko, kf, kd, kc, kl, ki, kz, false, kx, ke⟩ s0 s) : Keeps ⟨km, kn, kp, kt, kj, ko, kf, kd, kc, kl, ki, kz, false, kx, ke⟩ s0 (State.trainEnds s a2) := by
  unfold State.trainEnds
  extract_lets -underBinder x1 x2 x3 x4
  have h7 : Keeps h.kept s0 x1 := h.trained.put
  have h8 : Keeps h.kept s0 x2 := h7.put
  have h9 : Keeps h.kept s0 x3 := h8.putB
  have h11 : Keeps h.kept s0 x4 := h9.when (fun _ h12 => h12.post)
  exact Keeps.ite h (h11.when (fun _ h14 => h14.post))

theorem Keeps.retrainEnds {s0 s a2} (h : Keeps ⟨km, kn, kp, kt, kj, ko, kf, kd, kc, kl, ki, kz, false, kx, ke⟩ s0 s) : Keeps ⟨km, kn, kp, kt, kj, ko, kf, kd, kc, kl, ki, kz, false, kx, ke⟩ s0 (State.retrainEnds s a2) := by
  unfold State.retrainEnds
  extract_lets -underBinder x1 x2 x3 x4 x5
  have h6 : Keeps h.kept s0 x1 := h.put.put
  have h7 : Keeps h.kept s0 x3 := h6.setDram
  have h9 : Keeps h.kept s0 x4 := h7.each (fun _ _ h10 => h10.setWord)
  have h11 : Keeps h.kept s0 x5 := h9.put.put
  exact Keeps.ite h (Keeps.ite h7.trained.put h11.post)

theorem Keeps.retrainStarts {s0 s a2} (h : Keeps ⟨km, kn, kp, kt, kj, ko, kf, kd, kc, kl, ki, kz, false, kx, ke⟩ s0 s) : Keeps ⟨km, kn, kp, kt, kj, ko, kf, kd, kc, kl, ki, kz, false, kx, ke⟩ s0 (State.retrainStarts s a2) := by
  unfold State.retrainStarts
  extract_lets -underBinder x1
  exact h.setDram.put

theorem Keeps.memSleeps {s0 s a2} (h : Keeps ⟨km, kn, kp, kt, kj, ko, kf, kd, kc, kl, ki, kz, false, kx, ke⟩ s0 s) : Keeps ⟨km, kn, kp, kt, kj, ko, kf, kd, kc, kl, ki, kz, false, kx, ke⟩ s0 (State.memSleeps s a2) := by
  unfold State.memSleeps
  extract_lets -underBinder x1 x2
  have h4 : Keeps h.kept s0 x2 := h.setDram
  exact h4.each (fun _ _ h6 => h6.put)

theorem Keeps.memWakes {s0 s a2} (h : Keeps ⟨km, kn, kp, kt, kj, ko, kf, kd, kc, kl, ki, kz, false, kx, ke⟩ s0 s) : Keeps ⟨km, kn, kp, kt, kj, ko, kf, kd, kc, kl, ki, kz, false, kx, ke⟩ s0 (State.memWakes s a2) := by
  unfold State.memWakes
  extract_lets -underBinder x1 x2
  refine (h.drawn.each (fun _ _ h4 => ?_))
  extract_lets -underBinder x5
  have h6 : Keeps h.kept s0 x5 := h4.put
  exact Keeps.ite h6 h6.retrainStarts

theorem Keeps.errTested {s0 s a2 a3} (h : Keeps ⟨km, kn, kp, kt, kj, ko, kf, kd, kc, kl, ki, kz, kg, kx, false⟩ s0 s) : Keeps ⟨km, kn, kp, kt, kj, ko, kf, kd, kc, kl, ki, kz, kg, kx, false⟩ s0 (State.errTested s a2 a3) := by
  unfold State.errTested
  extract_lets -underBinder x1
  exact h.errRecord.testStarted.errOutcome

theorem Keeps.dramCe {s0 s a2} (h : Keeps ⟨km, kn, kp, kt, kj, ko, kf, kd, kc, kl, ki, kz, false, kx, false⟩ s0 s) : Keeps ⟨km, kn, kp, kt, kj, ko, kf, kd, kc, kl, ki, kz, false, kx, false⟩ s0 (State.dramCe s a2) := by
  unfold State.dramCe
  split
  · exact h
  · extract_lets -underBinder x7 x8 x9 x10 x11 x12 x13 x14
    have h17 : Keeps h.kept s0 x8 := h.count.put64
    have h18 : Keeps h.kept s0 x9 := h17.postLimited
    have h19 : Keeps h.kept s0 x10 := h18.acceptWrite
    have h20 : Keeps h.kept s0 x11 := h19.errTested
    have h22 : Keeps h.kept s0 x12 := h20.when (fun _ h23 => h23.count.post)
    have h24 : Keeps h.kept s0 x14 := h22.setDram
    exact Keeps.ite h (h24.when (fun _ h26 => h26.postLimited))

theorem Keeps.setLane {s0 s a2 a3} (h : Keeps ⟨km, kn, kp, kt, kj, ko, kf, kd, kc, false, ki, kz, kg, kx, ke⟩ s0 s) : Keeps ⟨km, kn, kp, kt, kj, ko, kf, kd, kc, false, ki, kz, kg, kx, ke⟩ s0 (State.setLane s a2 a3) := by
  unfold State.setLane
  exact h.chLanes

theorem Keeps.lockGone {s0 a1 s} (h : Keeps ⟨km, kn, kp, kt, kj, ko, kf, kd, kc, kl, ki, kz, kg, kx, ke⟩ s0 s) : Keeps ⟨km, kn, kp, kt, kj, ko, kf, kd, kc, kl, ki, kz, kg, kx, ke⟩ s0 (State.lockGone a1 s) := by
  unfold State.lockGone
  exact h.put.put

theorem Keeps.reeqStart {s0 a1 a2 s} (h : Keeps ⟨km, kn, kp, kt, kj, ko, kf, kd, kc, false, ki, kz, kg, kx, ke⟩ s0 s) : Keeps ⟨km, kn, kp, kt, kj, ko, kf, kd, kc, false, ki, kz, kg, kx, ke⟩ s0 (State.reeqStart a1 a2 s) := by
  unfold State.reeqStart
  extract_lets -underBinder x1
  exact Keeps.ite h h.put.setLane

theorem Keeps.sweepOn {s0 s} (h : Keeps ⟨km, kn, kp, kt, kj, ko, kf, kd, false, false, ki, kz, kg, kx, ke⟩ s0 s) : Keeps ⟨km, kn, kp, kt, kj, ko, kf, kd, false, false, ki, kz, kg, kx, ke⟩ s0 (State.sweepOn s) := by
  unfold State.sweepOn
  extract_lets -underBinder x1 x2 x3 x4
  have h6 : Keeps h.kept s0 x4 := h.setCal
  exact h6.each (fun _ _ h8 => h8.count.reeqStart)

theorem Keeps.sweepDone {s0 s} (h : Keeps ⟨km, kn, kp, kt, kj, ko, kf, kd, false, kl, ki, kz, kg, kx, ke⟩ s0 s) : Keeps ⟨km, kn, kp, kt, kj, ko, kf, kd, false, kl, ki, kz, kg, kx, ke⟩ s0 (State.sweepDone s) := by
  unfold State.sweepDone
  exact Keeps.ite h.setCal.post h

theorem Keeps.sweepGone {s0 a1 s} (h : Keeps ⟨km, kn, kp, kt, kj, ko, kf, kd, false, false, ki, kz, kg, kx, ke⟩ s0 s) : Keeps ⟨km, kn, kp, kt, kj, ko, kf, kd, false, false, ki, kz, kg, kx, ke⟩ s0 (State.sweepGone a1 s) := by
  unfold State.sweepGone
  extract_lets -underBinder x1
  have h2 : Keeps h.kept s0 x1 := h.setCal
  exact Keeps.ite h h2.sweepOn.sweepDone

theorem Keeps.lanesStop {s0 a1 s} (h : Keeps ⟨km, kn, kp, kt, kj, ko, kf, kd, false, false, ki, kz, kg, kx, ke⟩ s0 s) : Keeps ⟨km, kn, kp, kt, kj, ko, kf, kd, false, false, ki, kz, kg, kx, ke⟩ s0 (State.lanesStop a1 s) := by
  unfold State.lanesStop
  exact (h.each (fun _ _ h2 => h2.put.setLane)).sweepGone

theorem Keeps.lanesDetect {s0 a1 s} (h : Keeps ⟨km, kn, kp, kt, kj, ko, kf, kd, false, false, ki, kz, kg, kx, ke⟩ s0 s) : Keeps ⟨km, kn, kp, kt, kj, ko, kf, kd, false, false, ki, kz, kg, kx, ke⟩ s0 (State.lanesDetect a1 s) := by
  unfold State.lanesDetect
  exact (h.each (fun _ _ h2 => h2.put.put.lockGone.setLane)).lanesStop

theorem Keeps.lanesShow {s0 a1 a2 a3 s} (h : Keeps ⟨km, kn, kp, kt, kj, ko, kf, kd, kc, kl, ki, kz, kg, kx, ke⟩ s0 s) : Keeps ⟨km, kn, kp, kt, kj, ko, kf, kd, kc, kl, ki, kz, kg, kx, ke⟩ s0 (State.lanesShow a1 a2 a3 s) := by
  unfold State.lanesShow
  exact h.each (fun _ _ h2 => h2.put)

theorem Keeps.lanePolarity {s0 a1 a2 a3 s} (h : Keeps ⟨km, kn, kp, kt, kj, ko, kf, kd, kc, false, ki, kz, kg, kx, ke⟩ s0 s) : Keeps ⟨km, kn, kp, kt, kj, ko, kf, kd, kc, false, ki, kz, kg, kx, ke⟩ s0 (State.lanePolarity a1 a2 a3 s) := by
  unfold State.lanePolarity
  refine (h.each (fun _ _ h2 => ?_))
  extract_lets -underBinder x3 x4 x5
  have h8 : Keeps h.kept s0 x5 := (h2.when (fun _ h9 => h9.putB)).put
  exact h8.when (fun _ h11 => h11.setLane)

theorem Keeps.laneSearch {s0 a1 a2 a3 s} (h : Keeps ⟨km, kn, kp, kt, kj, ko, kf, kd, kc, false, ki, kz, kg, kx, ke⟩ s0 s) : Keeps ⟨km, kn, kp, kt, kj, ko, kf, kd, kc, false, ki, kz, kg, kx, ke⟩ s0 (State.laneSearch a1 a2 a3 s) := by
  unfold State.laneSearch
  refine (h.each (fun _ _ h2 => ?_))
  split
  · exact h2
  · exact h2.put.put.setLane

theorem Keeps.laneDetect {s0 a1 a2 a3 s} (h : Keeps ⟨km, kn, kp, kt, kj, ko, kf, kd, kc, kl, ki, kz, kg, kx, ke⟩ s0 s) : Keeps ⟨km, kn, kp, kt, kj, ko, kf, kd, kc, kl, ki, kz, kg, kx, ke⟩ s0 (State.laneDetect a1 a2 a3 s) := by
  unfold State.laneDetect
  exact h.each (fun _ _ h2 => h2.putB)

theorem Keeps.laneIds {s0 a1 a2 s} (h : Keeps ⟨km, kn, kp, kt, kj, ko, kf, kd, kc, kl, ki, kz, kg, kx, ke⟩ s0 s) : Keeps ⟨km, kn, kp, kt, kj, ko, kf, kd, kc, kl, ki, kz, kg, kx, ke⟩ s0 (State.laneIds a1 a2 s) := by
  unfold State.laneIds
  exact h.each (fun _ _ h2 => h2.put)

theorem Keeps.adapt {s0 a1 s} (h : Keeps ⟨km, kn, kp, kt, kj, ko, kf, kd, kc, false, ki, kz, kg, kx, ke⟩ s0 s) : Keeps ⟨km, kn, kp, kt, kj, ko, kf, kd, kc, false, ki, kz, kg, kx, ke⟩ s0 (State.adapt a1 s) := by
  unfold State.adapt
  extract_lets -underBinder x1 x2
  exact Keeps.ite h h.drawn.put.put.setLane

theorem Keeps.packetErrors {s0 a1 a2 a3 a4 s} (h : Keeps ⟨km, kn, kp, kt, kj, ko, kf, kd, kc, kl, ki, kz, kg, kx, ke⟩ s0 s) : Keeps ⟨km, kn, kp, kt, kj, ko, kf, kd, kc, kl, ki, kz, kg, kx, ke⟩ s0 (State.packetErrors a1 a2 a3 a4 s) := by
  unfold State.packetErrors
  exact h.each (fun _ _ h2 => h2.count)

theorem Keeps.skipLeave {s0 a1 a2 s} (h : Keeps ⟨km, kn, kp, kt, kj, ko, kf, kd, kc, false, ki, kz, kg, kx, ke⟩ s0 s) : Keeps ⟨km, kn, kp, kt, kj, ko, kf, kd, kc, false, ki, kz, kg, kx, ke⟩ s0 (State.skipLeave a1 a2 s) := by
  unfold State.skipLeave
  exact ((h.when (fun _ h3 => h3.count)).when (fun _ h4 => h4.count)).setLane

theorem Keeps.eyeStart {s0 a1 s} (h : Keeps ⟨km, kn, kp, kt, kj, ko, kf, kd, kc, false, ki, kz, kg, kx, ke⟩ s0 s) : Keeps ⟨km, kn, kp, kt, kj, ko, kf, kd, kc, false, ki, kz, kg, kx, ke⟩ s0 (State.eyeStart a1 s) := by
  unfold State.eyeStart
  exact Keeps.ite h.setLane h.put.setLane

theorem Keeps.noEq {s0 a1 s} (h : Keeps ⟨km, kn, kp, kt, kj, ko, kf, kd, kc, false, ki, kz, kg, kx, ke⟩ s0 s) : Keeps ⟨km, kn, kp, kt, kj, ko, kf, kd, kc, false, ki, kz, kg, kx, ke⟩ s0 (State.noEq a1 s) := by
  unfold State.noEq
  exact h.each (fun _ _ h2 => h2.put.setLane.post)

theorem Keeps.laneTestDue {s0 a1 a2 a3 s} (h : Keeps ⟨km, kn, kp, kt, kj, ko, kf, kd, kc, false, ki, kz, kg, kx, ke⟩ s0 s) : Keeps ⟨km, kn, kp, kt, kj, ko, kf, kd, kc, false, ki, kz, kg, kx, ke⟩ s0 (State.laneTestDue a1 a2 a3 s) := by
  unfold State.laneTestDue
  exact h.each (fun _ _ h2 => h2.put.setLane)

theorem Keeps.hpRestart {s0 a1 s} (h : Keeps ⟨false, kn, false, kt, false, false, false, false, false, false, false, kz, false, kx, ke⟩ s0 s) : Keeps ⟨false, kn, false, kt, false, false, false, false, false, false, false, kz, false, kx, ke⟩ s0 (State.hpRestart a1 s) := by
  unfold State.hpRestart
  extract_lets -underBinder x1 x2 x3 x4 x5
  have h6 : Keeps h.kept s0 x1 := h.linkLost.portDown.lanesDetect
  have h7 : Keeps h.kept s0 x3 := h6.setPort
  have h8 : Keeps h.kept s0 x4 := h7.put.put.lanesShow
  have h9 : Keeps h.kept s0 x5 := h8.lanesShow
  exact Keeps.ite h h9.hpState

theorem Keeps.hpFail {s0 a1 s} (h : Keeps ⟨false, kn, false, kt, false, false, false, false, false, false, false, kz, false, kx, ke⟩ s0 s) : Keeps ⟨false, kn, false, kt, false, false, false, false, false, false, false, kz, false, kx, ke⟩ s0 (State.hpFail a1 s) := by
  unfold State.hpFail
  extract_lets -underBinder x1 x2
  have h3 : Keeps h.kept s0 x1 := h.linkLost.portDown
  have h4 : Keeps h.kept s0 x2 := h3.hpState.setPort
  exact Keeps.ite h3.count.hpState.setPort h4.post

theorem Keeps.crcBurst {s0 a1 s} (h : Keeps ⟨km, kn, kp, kt, kj, ko, kf, kd, kc, false, ki, kz, kg, kx, false⟩ s0 s) : Keeps ⟨km, kn, kp, kt, kj, ko, kf, kd, kc, false, ki, kz, kg, kx, false⟩ s0 (State.crcBurst a1 s) := by
  unfold State.crcBurst
  extract_lets -underBinder x1 x2 x3
  have h4 : Keeps h.kept s0 x1 := h.put
  have h5 : Keeps h.kept s0 x3 := h4.postLimited
  exact Keeps.ite h4 h5.errRecord.laneTestDue

theorem Keeps.peerState {s0 a1 a2 s} (h : Keeps ⟨km, kn, kp, kt, kj, ko, kf, kd, kc, false, ki, kz, kg, kx, ke⟩ s0 s) : Keeps ⟨km, kn, kp, kt, kj, ko, kf, kd, kc, false, ki, kz, kg, kx, ke⟩ s0 (State.peerState a1 a2 s) := by
  unfold State.peerState
  exact h.setPeer.lanesShow

theorem Keeps.peerDown {s0 a1 s} (h : Keeps ⟨km, kn, kp, kt, kj, ko, kf, false, kc, kl, ki, kz, kg, kx, ke⟩ s0 s) : Keeps ⟨km, kn, kp, kt, kj, ko, kf, false, kc, kl, ki, kz, kg, kx, ke⟩ s0 (State.peerDown a1 s) := by
  unfold State.peerDown
  extract_lets -underBinder x1
  have h3 : Keeps h.kept s0 x1 := h.post
  exact Keeps.ite h (h3.when (fun _ h5 => h5.setDue))

theorem Keeps.peerRestart {s0 a1 s} (h : Keeps ⟨km, kn, kp, kt, kj, ko, kf, false, false, false, ki, kz, kg, kx, ke⟩ s0 s) : Keeps ⟨km, kn, kp, kt, kj, ko, kf, false, false, false, ki, kz, kg, kx, ke⟩ s0 (State.peerRestart a1 s) := by
  unfold State.peerRestart
  extract_lets -underBinder x1
  have h2 : Keeps h.kept s0 x1 := h.peerDown.lanesDetect.setPeer
  exact h2.peerState

theorem Keeps.peerFail {s0 a1 s} (h : Keeps ⟨km, kn, kp, kt, kj, ko, kf, false, kc, false, ki, kz, kg, kx, ke⟩ s0 s) : Keeps ⟨km, kn, kp, kt, kj, ko, kf, false, kc, false, ki, kz, kg, kx, ke⟩ s0 (State.peerFail a1 s) := by
  unfold State.peerFail
  exact h.peerDown.peerState.setPeer

theorem Keeps.laneRestart {s0 a1 s} (h : Keeps ⟨false, kn, false, kt, false, false, false, false, false, false, false, kz, false, kx, ke⟩ s0 s) : Keeps ⟨false, kn, false, kt, false, false, false, false, false, false, false, kz, false, kx, ke⟩ s0 (State.laneRestart a1 s) := by
  unfold State.laneRestart
  exact Keeps.ite h.hpRestart (Keeps.ite h.peerRestart h)

theorem Keeps.endTestsOf {s0 s a2} (h : Keeps ⟨km, kn, kp, kt, kj, ko, kf, kd, kc, kl, ki, kz, kg, kx, false⟩ s0 s) : Keeps ⟨km, kn, kp, kt, kj, ko, kf, kd, kc, kl, ki, kz, kg, kx, false⟩ s0 (State.endTestsOf s a2) := by
  unfold State.endTestsOf
  extract_lets -underBinder x1 x2 x3
  have h6 : Keeps h.kept s0 x3 := h.chErr
  exact h6.each (fun _ _ h9 => (h9.each (fun _ _ h10 => h10.errOutcome)))

theorem Keeps.regsLost {s0 s a2} (h : Keeps ⟨km, kn, kp, kt, kj, ko, kf, kd, kc, kl, ki, kz, false, kx, ke⟩ s0 s) : Keeps ⟨km, kn, kp, kt, kj, ko, kf, kd, kc, kl, ki, kz, false, kx, ke⟩ s0 (State.regsLost s a2) := by
  unfold State.regsLost
  exact Keeps.ite h.memSleeps h.filtered.chFresh

theorem Keeps.lanesLost {s0 s a2} (h : Keeps ⟨km, kn, kp, kt, kj, ko, kf, kd, kc, false, ki, kz, kg, kx, ke⟩ s0 s) : Keeps ⟨km, kn, kp, kt, kj, ko, kf, kd, kc, false, ki, kz, kg, kx, ke⟩ s0 (State.lanesLost s a2) := by
  unfold State.lanesLost
  exact h.chLanes

theorem Keeps.duetLost {s0 s} (h : Keeps ⟨km, kn, kp, kt, kj, ko, kf, false, kc, false, ki, kz, kg, kx, ke⟩ s0 s) : Keeps ⟨km, kn, kp, kt, kj, ko, kf, false, kc, false, ki, kz, kg, kx, ke⟩ s0 (State.duetLost s) := by
  unfold State.duetLost
  extract_lets -underBinder x1 x2
  have h3 : Keeps h.kept s0 x1 := h.setDue
  have h4 : Keeps h.kept s0 x2 := h3.chPeers
  exact h4.lanesLost

theorem Keeps.portsLost {s0 s a2} (h : Keeps ⟨km, kn, kp, kt, kj, false, kf, kd, kc, false, ki, kz, kg, kx, ke⟩ s0 s) : Keeps ⟨km, kn, kp, kt, kj, false, kf, kd, kc, false, ki, kz, kg, kx, ke⟩ s0 (State.portsLost s a2) := by
  unfold State.portsLost
  extract_lets -underBinder x1
  have h2 : Keeps h.kept s0 x1 := h.chPorts
  exact h2.lanesLost

theorem Keeps.camerasLost {s0 s} (h : Keeps ⟨km, kn, kp, kt, kj, ko, kf, kd, kc, false, false, kz, kg, kx, ke⟩ s0 s) : Keeps ⟨km, kn, kp, kt, kj, ko, kf, kd, kc, false, false, kz, kg, kx, ke⟩ s0 (State.camerasLost s) := by
  unfold State.camerasLost
  extract_lets -underBinder x1 x2
  have h3 : Keeps h.kept s0 x1 := h.chCams
  have h4 : Keeps h.kept s0 x2 := h3.chIns
  exact h4.lanesLost

theorem Keeps.zipLost {s0 s} (h : Keeps ⟨km, kn, kp, kt, false, ko, kf, kd, kc, kl, ki, false, kg, kx, ke⟩ s0 s) : Keeps ⟨km, kn, kp, kt, false, ko, kf, kd, kc, kl, ki, false, kg, kx, ke⟩ s0 (State.zipLost s) := by
  unfold State.zipLost
  extract_lets -underBinder x1
  have h2 : Keeps h.kept s0 x1 := h.chZip
  exact h2.setJobs

theorem Keeps.clusterLost {s0 s a2} (h : Keeps ⟨km, kn, kp, kt, false, ko, kf, kd, kc, kl, ki, kz, kg, kx, ke⟩ s0 s) : Keeps ⟨km, kn, kp, kt, false, ko, kf, kd, kc, kl, ki, kz, kg, kx, ke⟩ s0 (State.clusterLost s a2) := by
  unfold State.clusterLost
  exact h.setEng

theorem Keeps.printLost {s0 s} (h : Keeps ⟨km, kn, kp, kt, false, ko, kf, kd, false, kl, ki, kz, kg, kx, ke⟩ s0 s) : Keeps ⟨km, kn, kp, kt, false, ko, kf, kd, false, kl, ki, kz, kg, kx, ke⟩ s0 (State.printLost s) := by
  unfold State.printLost
  extract_lets -underBinder x1 x2 x3
  have h4 : Keeps h.kept s0 x1 := h.setJobs.setSmp
  have h5 : Keeps h.kept s0 x2 := h4.setCal.setEng
  have h6 : Keeps h.kept s0 x3 := h5.chRows
  exact h6

theorem Keeps.unitsLost {s0 s a2} (h : Keeps ⟨km, kn, kp, kt, false, false, kf, false, false, false, false, false, kg, kx, ke⟩ s0 s) : Keeps ⟨km, kn, kp, kt, false, false, kf, false, false, false, false, false, kg, kx, ke⟩ s0 (State.unitsLost s a2) := by
  unfold State.unitsLost
  exact Keeps.ite h.duetLost (Keeps.ite h.portsLost (Keeps.ite h.camerasLost (Keeps.ite h.zipLost (Keeps.ite h.clusterLost (Keeps.ite h.printLost h)))))

theorem Keeps.domLost {s0 a1 s} (h : Keeps ⟨km, kn, kp, kt, false, false, kf, false, false, false, false, false, false, kx, false⟩ s0 s) : Keeps ⟨km, kn, kp, kt, false, false, kf, false, false, false, false, false, false, kx, false⟩ s0 (State.domLost a1 s) := by
  unfold State.domLost
  exact h.regsLost.unitsLost.endTestsOf.pmcAdd

theorem Keeps.setDomains {s0 a1 s} (h : Keeps ⟨km, kn, kp, kt, false, false, kf, false, false, false, false, false, false, kx, false⟩ s0 s) : Keeps ⟨km, kn, kp, kt, false, false, kf, false, false, false, false, false, false, kx, false⟩ s0 (State.setDomains a1 s) := by
  unfold State.setDomains
  extract_lets -underBinder x1 x2 x3 x4 x5
  have h8 : Keeps h.kept s0 x4 := h.each (fun _ _ h9 => h9.domLost)
  have h11 : Keeps h.kept s0 x5 := h8.pmcAdd.each (fun _ _ h12 => h12.memWakes)
  exact h11.put.refreshFab

theorem Keeps.domRequest {s0 s a2} (h : Keeps ⟨km, kn, false, kt, kj, ko, kf, kd, kc, kl, ki, kz, kg, kx, ke⟩ s0 s) : Keeps ⟨km, kn, false, kt, kj, ko, kf, kd, kc, kl, ki, kz, kg, kx, ke⟩ s0 (State.domRequest s a2) := by
  unfold State.domRequest
  extract_lets -underBinder x1 x2 x3
  have h4 : Keeps h.kept s0 x2 := h.put
  exact Keeps.ite h4.post h4.chPwr

theorem Keeps.domDone {s0 s} (h : Keeps ⟨km, kn, false, kt, false, false, kf, false, false, false, false, false, false, kx, false⟩ s0 s) : Keeps ⟨km, kn, false, kt, false, false, kf, false, false, false, false, false, false, kx, false⟩ s0 (State.domDone s) := by
  unfold State.domDone
  split
  · exact h
  · extract_lets -underBinder x6
    exact Keeps.ite h h.chPwr.setDomains

end Sys2Proof.Machine
end

