-- ==== Sys2Proof/Laws/KeepsField.lean ====
section
/-! SUPPORT. What the operations on the field die, Meridian, the sequencers, the vote, publication, packets and the Starmap keep: the queue, the canonical maps and every part of the state that the operation does not change (the parts that its lemma leaves free). One lemma for each operation. -/

namespace Sys2Proof.Machine

variable {km kn kp kt kj ko kf kd kc kl ki kz kg kx ke : Bool}
variable {k : Kept}

theorem Keeps.encoutDrive {s0 s} (h : Keeps ⟨km, kn, kp, false, kj, ko, kf, kd, kc, kl, ki, kz, kg, kx, ke⟩ s0 s) : Keeps ⟨km, kn, kp, false, kj, ko, kf, kd, kc, kl, ki, kz, kg, kx, ke⟩ s0 (State.encoutDrive s) := by
  unfold State.encoutDrive
  split
  · split
    · extract_lets -underBinder x9 x10 x11 x12
      have h16 : Keeps h.kept s0 x9 := h.when (fun _ h17 => h17.send)
      have h19 : Keeps h.kept s0 x10 := h16.when (fun _ h20 => h20.send)
      have h22 : Keeps h.kept s0 x11 := h19.when (fun _ h23 => h23.send)
      exact h22.chTb

theorem Keeps.encoutIndex {s0 s} (h : Keeps ⟨km, kn, kp, kt, kj, ko, kf, kd, kc, kl, ki, kz, kg, kx, ke⟩ s0 s) : Keeps ⟨km, kn, kp, kt, kj, ko, kf, kd, kc, kl, ki, kz, kg, kx, ke⟩ s0 (State.encoutIndex s) := by
  unfold State.encoutIndex
  exact h.when (fun _ h2 => h2.send.send)

theorem Keeps.outPut {s0 s a2 a3} (h : Keeps ⟨km, kn, kp, kt, kj, ko, false, kd, kc, kl, ki, kz, kg, kx, ke⟩ s0 s) : Keeps ⟨km, kn, kp, kt, kj, ko, false, kd, kc, kl, ki, kz, kg, kx, ke⟩ s0 (State.outPut s a2 a3) := by
  unfold State.outPut
  extract_lets -underBinder x1 x2
  exact h.setFld

theorem Keeps.fieldPins {s0 s} (h : Keeps ⟨km, kn, kp, kt, kj, ko, false, kd, kc, kl, ki, kz, kg, kx, ke⟩ s0 s) : Keeps ⟨km, kn, kp, kt, kj, ko, false, kd, kc, kl, ki, kz, kg, kx, ke⟩ s0 (State.fieldPins s) := by
  unfold State.fieldPins
  extract_lets -underBinder x1 x2
  exact h.setFld

theorem Keeps.outputs {s0 s} (h : Keeps ⟨km, kn, kp, kt, kj, ko, false, kd, kc, kl, ki, kz, kg, kx, ke⟩ s0 s) : Keeps ⟨km, kn, kp, kt, kj, ko, false, kd, kc, kl, ki, kz, kg, kx, ke⟩ s0 (State.outputs s) := by
  unfold State.outputs
  extract_lets -underBinder x1
  exact h.fieldPins.each (fun _ _ h3 => (Keeps.ite h3.outPut (Keeps.ite (Keeps.ite h3.outPut h3) (Keeps.ite h3.outPut h3))))

theorem Keeps.resetActions {s0 s} (h : Keeps ⟨km, kn, kp, kt, kj, ko, false, kd, kc, kl, ki, kz, kg, kx, ke⟩ s0 s) : Keeps ⟨km, kn, kp, kt, kj, ko, false, kd, kc, kl, ki, kz, kg, kx, ke⟩ s0 (State.resetActions s) := by
  unfold State.resetActions
  extract_lets -underBinder x1 x2 x3 x4
  have h8 : Keeps h.kept s0 x1 := h.setFld
  have h10 : Keeps h.kept s0 x2 := h8.each (fun _ _ h11 => (Keeps.ite h11 (Keeps.ite h11.outPut (Keeps.ite h11.outPut h11))))
  have h12 : Keeps h.kept s0 x3 := h10.stopAxes
  have h15 : Keeps h.kept s0 x4 := h12.each (fun _ _ h16 => (h16.when (fun _ h17 => h17.axisOff)))
  exact h15.outputs

theorem Keeps.actInputs {s0 s} (h : Keeps ⟨km, kn, kp, kt, kj, ko, false, kd, kc, kl, ki, kz, kg, kx, ke⟩ s0 s) : Keeps ⟨km, kn, kp, kt, kj, ko, false, kd, kc, kl, ki, kz, kg, kx, ke⟩ s0 (State.actInputs s) := by
  unfold State.actInputs
  extract_lets -underBinder x1 x2 x3 x4 x5 x6 x7
  have h11 : Keeps h.kept s0 x6 := h.setFld
  have h14 : Keeps h.kept s0 x7 := h11.each (fun _ _ h15 => (h15.each (fun _ _ h16 => h16.axisStop)))
  exact Keeps.ite h.setFld (h14.when (fun _ h18 => h18.emergencyLift)).outputs

theorem Keeps.inputReads {s0 s a2 a3} (h : Keeps ⟨km, kn, kp, kt, kj, ko, false, kd, kc, kl, ki, kz, kg, kx, ke⟩ s0 s) : Keeps ⟨km, kn, kp, kt, kj, ko, false, kd, kc, kl, ki, kz, kg, kx, ke⟩ s0 (State.inputReads s a2 a3) := by
  unfold State.inputReads
  exact Keeps.ite h (Keeps.ite (h.when (fun _ h2 => h2.setFld)) h.setFld)

theorem Keeps.sendInState {s0 s} (h : Keeps ⟨km, kn, kp, kt, kj, ko, kf, kd, kc, kl, ki, kz, kg, kx, ke⟩ s0 s) : Keeps ⟨km, kn, kp, kt, kj, ko, kf, kd, kc, kl, ki, kz, kg, kx, ke⟩ s0 (State.sendInState s) := by
  unfold State.sendInState
  extract_lets -underBinder x1 x2
  exact h.stsFrame

theorem Keeps.bandSafe {s0 s} (h : Keeps ⟨km, kn, kp, kt, kj, ko, false, kd, kc, kl, ki, kz, kg, kx, ke⟩ s0 s) : Keeps ⟨km, kn, kp, kt, kj, ko, false, kd, kc, kl, ki, kz, kg, kx, ke⟩ s0 (State.bandSafe s) := by
  unfold State.bandSafe
  extract_lets -underBinder x1
  exact h.when (fun _ h3 => h3.setFld.sendInState)

theorem Keeps.fieldBeacon {s0 s a2} (h : Keeps ⟨km, kn, kp, kt, kj, ko, kf, kd, kc, kl, ki, kz, kg, kx, ke⟩ s0 s) : Keeps ⟨km, kn, kp, kt, kj, ko, kf, kd, kc, kl, ki, kz, kg, kx, ke⟩ s0 (State.fieldBeacon s a2) := by
  unfold State.fieldBeacon
  extract_lets -underBinder x1 x2
  exact h.sendFrameAt

theorem Keeps.lockSets {s0 s} (h : Keeps ⟨km, kn, kp, false, kj, ko, false, kd, kc, kl, ki, kz, kg, kx, ke⟩ s0 s) : Keeps ⟨km, kn, kp, false, kj, ko, false, kd, kc, kl, ki, kz, kg, kx, ke⟩ s0 (State.lockSets s) := by
  unfold State.lockSets
  extract_lets -underBinder x1 x2
  have h4 : Keeps h.kept s0 x2 := h.setFld
  exact (h4.when (fun _ h6 => h6.faultFrame)).encoutDrive

theorem Keeps.beaconIn {s0 s a2} (h : Keeps ⟨km, kn, kp, false, kj, ko, false, kd, kc, kl, ki, kz, kg, kx, ke⟩ s0 s) : Keeps ⟨km, kn, kp, false, kj, ko, false, kd, kc, kl, ki, kz, kg, kx, ke⟩ s0 (State.beaconIn s a2) := by
  unfold State.beaconIn
  extract_lets -underBinder x1 x2 x3 x4
  have h6 : Keeps h.kept s0 x4 := h.setFld
  exact Keeps.ite h6 (Keeps.ite h6.setFld (h6.when (fun _ h8 => h8.lockSets)))

theorem Keeps.beaconOut {s0 s} (h : Keeps ⟨km, kn, kp, kt, kj, ko, false, kd, kc, kl, ki, kz, kg, kx, ke⟩ s0 s) : Keeps ⟨km, kn, kp, kt, kj, ko, false, kd, kc, kl, ki, kz, kg, kx, ke⟩ s0 (State.beaconOut s) := by
  unfold State.beaconOut
  extract_lets -underBinder x1 x2 x3 x4 x5
  have h6 : Keeps h.kept s0 x5 := h.setFld
  exact h6.putB.sendFrameAt

theorem Keeps.hbPulse {s0 s a2} (h : Keeps ⟨km, kn, kp, kt, kj, ko, kf, kd, kc, kl, ki, kz, kg, kx, ke⟩ s0 s) : Keeps ⟨km, kn, kp, kt, kj, ko, kf, kd, kc, kl, ki, kz, kg, kx, ke⟩ s0 (State.hbPulse s a2) := by
  unfold State.hbPulse
  exact h.when (fun _ h2 => h2.send)

theorem Keeps.beaconCarries {s0 s a2} (h : Keeps ⟨km, kn, kp, kt, kj, ko, false, kd, kc, kl, ki, kz, kg, kx, ke⟩ s0 s) : Keeps ⟨km, kn, kp, kt, kj, ko, false, kd, kc, kl, ki, kz, kg, kx, ke⟩ s0 (State.beaconCarries s a2) := by
  unfold State.beaconCarries
  extract_lets -underBinder x1 x2 x3
  have h6 : Keeps h.kept s0 x1 := h.setFld.hbPulse
  have h9 : Keeps h.kept s0 x3 := h6.when (fun _ h10 => (h10.each (fun _ _ h11 => h11.lift)))
  exact h9.outputs

theorem Keeps.execBcnM {s0 a1 a2 s} (h : Keeps ⟨km, kn, kp, false, kj, ko, false, kd, kc, kl, ki, kz, kg, kx, ke⟩ s0 s) : OutKeeps ⟨km, kn, kp, false, kj, ko, false, kd, kc, kl, ki, kz, kg, kx, ke⟩ s0 (Machine.execBcnM a1 a2 s) := by
  unfold Machine.execBcnM
  extract_lets -underBinder x1 x2
  refine .next ?_
  have h3 : Keeps h.kept s0 x2 := h.beaconOut
  exact Keeps.ite h (Keeps.ite h3.beaconIn.beaconCarries.fieldBeacon h3.setFld)

theorem Keeps.execTimeLockClear {s0 s} (h : Keeps ⟨km, kn, kp, kt, kj, ko, false, kd, kc, kl, ki, kz, kg, kx, ke⟩ s0 s) : OutKeeps ⟨km, kn, kp, kt, kj, ko, false, kd, kc, kl, ki, kz, kg, kx, ke⟩ s0 (Machine.execTimeLockClear s) := by
  unfold Machine.execTimeLockClear
  extract_lets -underBinder x1
  exact .next (h.when (fun _ h3 => h3.setFld))

theorem Keeps.timeLock {s0 s a2} (h : Keeps ⟨km, kn, kp, false, kj, ko, kf, kd, kc, kl, ki, kz, kg, kx, ke⟩ s0 s) : Keeps ⟨km, kn, kp, false, kj, ko, kf, kd, kc, kl, ki, kz, kg, kx, ke⟩ s0 (State.timeLock s a2) := by
  unfold State.timeLock
  extract_lets -underBinder x1 x2 x3 x4
  have h5 : Keeps h.kept s0 x3 := h.putB
  exact Keeps.ite h5.chTb (Keeps.ite h5.chTb h5)

theorem Keeps.beaconBack {s0 s a2} (h : Keeps ⟨km, kn, kp, false, kj, ko, false, kd, kc, kl, ki, kz, kg, kx, ke⟩ s0 s) : Keeps ⟨km, kn, kp, false, kj, ko, false, kd, kc, kl, ki, kz, kg, kx, ke⟩ s0 (State.beaconBack s a2) := by
  unfold State.beaconBack
  extract_lets -underBinder x1 x2 x3 x4 x5 x6 x7
  have h11 : Keeps h.kept s0 x3 := h.setFld
  have h12 : Keeps h.kept s0 x4 := h11.put.putB
  have h13 : Keeps h.kept s0 x5 := h12.timeLock
  have h15 : Keeps h.kept s0 x6 := h13.when (fun _ h16 => h16.post)
  have h18 : Keeps h.kept s0 x7 := h15.when (fun _ h19 => h19.post)
  exact h18.when (fun _ h21 => h21.put.post)

theorem Keeps.execBcnF {s0 a1 s} (h : Keeps ⟨km, kn, kp, false, kj, ko, false, kd, kc, kl, ki, kz, kg, kx, ke⟩ s0 s) : OutKeeps ⟨km, kn, kp, false, kj, ko, false, kd, kc, kl, ki, kz, kg, kx, ke⟩ s0 (Machine.execBcnF a1 s) := by
  unfold Machine.execBcnF
  exact .next (h.when (fun _ h2 => h2.beaconBack))

theorem Keeps.execMainDieLost {s0 s} (h : Keeps ⟨km, kn, kp, false, kj, ko, false, kd, kc, kl, ki, kz, kg, kx, ke⟩ s0 s) : OutKeeps ⟨km, kn, kp, false, kj, ko, false, kd, kc, kl, ki, kz, kg, kx, ke⟩ s0 (Machine.execMainDieLost s) := by
  unfold Machine.execMainDieLost
  extract_lets -underBinder x1
  refine .next ?_
  refine (Keeps.ite h ?_)
  split
  · exact h.setFld.fieldPins.encoutDrive
  · exact h.setFld.resetActions
  · exact h

theorem Keeps.sendCommit {s0 s} (h : Keeps ⟨km, kn, kp, kt, kj, ko, false, kd, kc, kl, ki, kz, kg, kx, ke⟩ s0 s) : Keeps ⟨km, kn, kp, kt, kj, ko, false, kd, kc, kl, ki, kz, kg, kx, ke⟩ s0 (State.sendCommit s) := by
  unfold State.sendCommit
  split
  · exact h.put
  · extract_lets -underBinder x7
    have h8 : Keeps h.kept s0 x7 := h.setFld
    exact h8.put.cmdFrame.cmdFrame

theorem Keeps.commitField {s0 s a2 a3} (h : Keeps ⟨km, kn, kp, kt, kj, ko, false, kd, kc, kl, ki, kz, kg, kx, ke⟩ s0 s) : Keeps ⟨km, kn, kp, kt, kj, ko, false, kd, kc, kl, ki, kz, kg, kx, ke⟩ s0 (State.commitField s a2 a3) := by
  unfold State.commitField
  split
  · exact h
  · extract_lets -underBinder x6 x7
    have h8 : Keeps h.kept s0 x7 := h.setFld
    exact Keeps.ite h8.sendCommit h8.put

theorem Keeps.commitRetry {s0 s} (h : Keeps ⟨km, kn, kp, kt, kj, ko, false, kd, kc, kl, ki, kz, kg, kx, ke⟩ s0 s) : Keeps ⟨km, kn, kp, kt, kj, ko, false, kd, kc, kl, ki, kz, kg, kx, ke⟩ s0 (State.commitRetry s) := by
  unfold State.commitRetry
  split
  · exact h
  · extract_lets -underBinder x7
    have h8 : Keeps h.kept s0 x7 := h.put.post
    exact Keeps.ite h.sendCommit.count.pmcAdd h8.setFld.sendCommit

theorem Keeps.encoutTake {s0 s a2 a3} (h : Keeps ⟨km, kn, kp, false, kj, ko, kf, kd, kc, kl, ki, kz, kg, kx, ke⟩ s0 s) : Keeps ⟨km, kn, kp, false, kj, ko, kf, kd, kc, kl, ki, kz, kg, kx, ke⟩ s0 (State.encoutTake s a2 a3) := by
  unfold State.encoutTake
  extract_lets -underBinder x1
  exact h.chTb.put

theorem Keeps.encoutPair {s0 s} (h : Keeps ⟨km, kn, kp, false, kj, ko, kf, kd, kc, kl, ki, kz, kg, kx, ke⟩ s0 s) : Keeps ⟨km, kn, kp, false, kj, ko, kf, kd, kc, kl, ki, kz, kg, kx, ke⟩ s0 (State.encoutPair s) := by
  unfold State.encoutPair
  extract_lets -underBinder x1 x2 x3
  exact Keeps.ite h.chTb.put h.encoutTake

theorem Keeps.acknowledged {s0 s a2} (h : Keeps ⟨km, kn, kp, false, kj, ko, false, kd, kc, kl, ki, kz, kg, kx, ke⟩ s0 s) : Keeps ⟨km, kn, kp, false, kj, ko, false, kd, kc, kl, ki, kz, kg, kx, ke⟩ s0 (State.acknowledged s a2) := by
  unfold State.acknowledged
  extract_lets -underBinder x1 x2
  have h4 : Keeps h.kept s0 x1 := h.setWord
  have h5 : Keeps h.kept s0 x2 := Keeps.ite h4.applySetting.bandSafe.actInputs.outputs h4
  exact (h5.when (fun _ h7 => h7.encoutPair)).encoutDrive

theorem Keeps.cfgAck {s0 s a2 a3} (h : Keeps ⟨km, kn, kp, false, kj, ko, false, kd, kc, kl, ki, kz, kg, kx, ke⟩ s0 s) : Keeps ⟨km, kn, kp, false, kj, ko, false, kd, kc, kl, ki, kz, kg, kx, ke⟩ s0 (State.cfgAck s a2 a3) := by
  unfold State.cfgAck
  split
  · exact h
  · extract_lets -underBinder x7 x8
    have h9 : Keeps h.kept s0 x8 := h.setFld
    exact Keeps.ite h (Keeps.ite h.commitRetry (Keeps.ite h9.acknowledged h9.put).sendCommit)

theorem Keeps.execCfgAck {s0 a1 a2 s} (h : Keeps ⟨km, kn, kp, false, kj, ko, false, kd, kc, kl, ki, kz, kg, kx, ke⟩ s0 s) : OutKeeps ⟨km, kn, kp, false, kj, ko, false, kd, kc, kl, ki, kz, kg, kx, ke⟩ s0 (Machine.execCfgAck a1 a2 s) := by
  unfold Machine.execCfgAck
  exact .next (h.when (fun _ h2 => h2.cfgAck))

theorem Keeps.writeFieldHeld {s0 s a2 a3 a4} (h : Keeps ⟨km, kn, kp, kt, kj, ko, false, kd, kc, kl, ki, kz, kg, kx, ke⟩ s0 s) : Keeps ⟨km, kn, kp, kt, kj, ko, false, kd, kc, kl, ki, kz, kg, kx, ke⟩ s0 (State.writeFieldHeld s a2 a3 a4) := by
  unfold State.writeFieldHeld
  extract_lets -underBinder x1
  split
  · exact h.put
  · extract_lets -underBinder x7 x8 x9 x10 x11
    have h14 : Keeps h.kept s0 x10 := h.setWord
    have h16 : Keeps h.kept s0 x11 := h14.when (fun _ h17 => h17.commitField)
    exact h16.when (fun _ h19 => h19.reportAccess)

theorem Keeps.execCfgAckTimeout {s0 s} (h : Keeps ⟨km, kn, kp, kt, kj, ko, false, kd, kc, kl, ki, kz, kg, kx, ke⟩ s0 s) : OutKeeps ⟨km, kn, kp, kt, kj, ko, false, kd, kc, kl, ki, kz, kg, kx, ke⟩ s0 (Machine.execCfgAckTimeout s) := by
  unfold Machine.execCfgAckTimeout
  refine .next ?_
  split
  · exact h
  · exact h.when (fun _ h8 => h8.commitRetry)

theorem Keeps.armFrames {s0 s} (h : Keeps ⟨km, kn, kp, kt, kj, ko, kf, kd, kc, kl, ki, kz, kg, kx, ke⟩ s0 s) : Keeps ⟨km, kn, kp, kt, kj, ko, kf, kd, kc, kl, ki, kz, kg, kx, ke⟩ s0 (State.armFrames s) := by
  unfold State.armFrames
  exact (h.each (fun _ _ h2 => h2.cmdFrame.cmdFrame)).cmdFrame

theorem Keeps.armField {s0 s} (h : Keeps ⟨km, kn, kp, kt, kj, ko, false, kd, kc, kl, ki, kz, kg, kx, ke⟩ s0 s) : Keeps ⟨km, kn, kp, kt, kj, ko, false, kd, kc, kl, ki, kz, kg, kx, ke⟩ s0 (State.armField s) := by
  unfold State.armField
  extract_lets -underBinder x1 x2
  have h3 : Keeps h.kept s0 x1 := h.armFrames
  have h4 : Keeps h.kept s0 x2 := h3.setFld
  exact Keeps.ite h.put h4.bandSafe.outputs.actInputs

theorem Keeps.statusReq {s0 s} (h : Keeps ⟨km, kn, kp, kt, kj, ko, kf, kd, kc, kl, ki, kz, kg, kx, ke⟩ s0 s) : Keeps ⟨km, kn, kp, kt, kj, ko, kf, kd, kc, kl, ki, kz, kg, kx, ke⟩ s0 (State.statusReq s) := by
  unfold State.statusReq
  exact h.cmdFrame

theorem Keeps.sendOutSet {s0 s a2} (h : Keeps ⟨km, kn, kp, kt, kj, ko, false, kd, kc, kl, ki, kz, kg, kx, ke⟩ s0 s) : Keeps ⟨km, kn, kp, kt, kj, ko, false, kd, kc, kl, ki, kz, kg, kx, ke⟩ s0 (State.sendOutSet s a2) := by
  unfold State.sendOutSet
  exact h.cmdFrame.setFld.outputs

theorem Keeps.outSetLost {s0 s} (h : Keeps ⟨km, kn, kp, kt, kj, ko, false, kd, kc, kl, ki, kz, kg, kx, ke⟩ s0 s) : Keeps ⟨km, kn, kp, kt, kj, ko, false, kd, kc, kl, ki, kz, kg, kx, ke⟩ s0 (State.outSetLost s) := by
  unfold State.outSetLost
  split
  · exact h.setFld.outputs
  · exact h

theorem Keeps.outSet {s0 s a2} (h : Keeps ⟨km, kn, kp, kt, kj, ko, false, kd, kc, kl, ki, kz, kg, kx, ke⟩ s0 s) : Keeps ⟨km, kn, kp, kt, kj, ko, false, kd, kc, kl, ki, kz, kg, kx, ke⟩ s0 (State.outSet s a2) := by
  unfold State.outSet
  extract_lets -underBinder x1
  exact h.put.setFld.sendOutSet

theorem Keeps.latchClr {s0 s a2} (h : Keeps ⟨km, kn, kp, kt, kj, ko, false, kd, kc, kl, ki, kz, kg, kx, ke⟩ s0 s) : Keeps ⟨km, kn, kp, kt, kj, ko, false, kd, kc, kl, ki, kz, kg, kx, ke⟩ s0 (State.latchClr s a2) := by
  unfold State.latchClr
  extract_lets -underBinder x1 x2
  have h3 : Keeps h.kept s0 x2 := h.cmdFrame
  exact h3.setFld.outputs

theorem Keeps.execArm {s0 a1 s} (h : Keeps ⟨km, kn, kp, kt, kj, ko, false, kd, kc, kl, ki, kz, kg, kx, false⟩ s0 s) : OutKeeps ⟨km, kn, kp, kt, kj, ko, false, kd, kc, kl, ki, kz, kg, kx, false⟩ s0 (Machine.execArm a1 s) := by
  unfold Machine.execArm
  exact .next (h.ownerWrite (fun _ h2 => h2.armField))

theorem Keeps.execStatusReq {s0 a1 s} (h : Keeps ⟨km, kn, kp, kt, kj, ko, kf, kd, kc, kl, ki, kz, kg, kx, false⟩ s0 s) : OutKeeps ⟨km, kn, kp, kt, kj, ko, kf, kd, kc, kl, ki, kz, kg, kx, false⟩ s0 (Machine.execStatusReq a1 s) := by
  unfold Machine.execStatusReq
  exact .next (h.ownerWrite (fun _ h2 => h2.statusReq))

theorem Keeps.execOutSet {s0 a1 a2 s} (h : Keeps ⟨km, kn, kp, kt, kj, ko, false, kd, kc, kl, ki, kz, kg, kx, false⟩ s0 s) : OutKeeps ⟨km, kn, kp, kt, kj, ko, false, kd, kc, kl, ki, kz, kg, kx, false⟩ s0 (Machine.execOutSet a1 a2 s) := by
  unfold Machine.execOutSet
  exact .next (h.ownerWrite (fun _ h2 => h2.outSet))

theorem Keeps.execLatchClr {s0 a1 a2 s} (h : Keeps ⟨km, kn, kp, kt, kj, ko, false, kd, kc, kl, ki, kz, kg, kx, false⟩ s0 s) : OutKeeps ⟨km, kn, kp, kt, kj, ko, false, kd, kc, kl, ki, kz, kg, kx, false⟩ s0 (Machine.execLatchClr a1 a2 s) := by
  unfold Machine.execLatchClr
  exact .next (h.ownerWrite (fun _ h2 => h2.latchClr))

theorem Keeps.outState {s0 s a2} (h : Keeps ⟨km, kn, kp, kt, kj, ko, false, kd, kc, kl, ki, kz, kg, kx, ke⟩ s0 s) : Keeps ⟨km, kn, kp, kt, kj, ko, false, kd, kc, kl, ki, kz, kg, kx, ke⟩ s0 (State.outState s a2) := by
  unfold State.outState
  extract_lets -underBinder x1 x2 x3 x4 x5 x6 x7
  have h8 : Keeps h.kept s0 x2 := h.put.put.put
  have h9 : Keeps h.kept s0 x3 := h8.putB.putB.putB
  have h10 : Keeps h.kept s0 x6 := h9.setFld
  have h11 : Keeps h.kept s0 x7 := h10.setFld.sendOutSet
  exact Keeps.ite h10.setFld (Keeps.ite h11.count.pmcAdd h10.put.post)

theorem Keeps.execOutState {s0 a1 s} (h : Keeps ⟨km, kn, kp, kt, kj, ko, false, kd, kc, kl, ki, kz, kg, kx, ke⟩ s0 s) : OutKeeps ⟨km, kn, kp, kt, kj, ko, false, kd, kc, kl, ki, kz, kg, kx, ke⟩ s0 (Machine.execOutState a1 s) := by
  unfold Machine.execOutState
  exact .next (h.when (fun _ h2 => h2.outState))

theorem Keeps.outLatched {s0 s a2 a3} (h : Keeps ⟨km, kn, kp, kt, kj, ko, kf, kd, kc, kl, ki, kz, kg, kx, ke⟩ s0 s) : Keeps ⟨km, kn, kp, kt, kj, ko, kf, kd, kc, kl, ki, kz, kg, kx, ke⟩ s0 (State.outLatched s a2 a3) := by
  unfold State.outLatched
  extract_lets -underBinder x1
  have h2 : Keeps h.kept s0 x1 := Keeps.ite h.put h.put
  exact h2.pmcAdd.post

theorem Keeps.execOutputLatch {s0 a1 a2 s} (h : Keeps ⟨km, kn, kp, kt, kj, ko, false, kd, kc, kl, ki, kz, kg, kx, ke⟩ s0 s) : OutKeeps ⟨km, kn, kp, kt, kj, ko, false, kd, kc, kl, ki, kz, kg, kx, ke⟩ s0 (Machine.execOutputLatch a1 a2 s) := by
  unfold Machine.execOutputLatch
  refine .next ?_
  refine (h.when (fun _ h2 => ?_))
  extract_lets -underBinder x3
  have h5 : Keeps h.kept s0 x3 := h2.setFld.outPut.faultFrame
  exact h5.when (fun _ h7 => h7.outLatched)

theorem Keeps.safe24Mode {s0 s} (h : Keeps ⟨km, kn, kp, kt, kj, ko, kf, kd, kc, kl, ki, kz, kg, kx, ke⟩ s0 s) : Keeps ⟨km, kn, kp, kt, kj, ko, kf, kd, kc, kl, ki, kz, kg, kx, ke⟩ s0 (State.safe24Mode s) := by
  unfold State.safe24Mode
  exact h.when (fun _ h2 => h2.put)

theorem Keeps.execSafe24Undervoltage {s0 s} (h : Keeps ⟨km, kn, kp, false, kj, ko, false, kd, kc, kl, ki, kz, kg, kx, ke⟩ s0 s) : OutKeeps ⟨km, kn, kp, false, kj, ko, false, kd, kc, kl, ki, kz, kg, kx, ke⟩ s0 (Machine.execSafe24Undervoltage s) := by
  unfold Machine.execSafe24Undervoltage
  extract_lets -underBinder x1 x2 x3
  refine .next ?_
  have h5 : Keeps h.kept s0 x1 := h.setFld
  have h6 : Keeps h.kept s0 x2 := h5.drawn.faultFrame.fieldBeacon.fieldPins
  have h7 : Keeps h.kept s0 x3 := h6.encoutTake.encoutDrive.safe24Mode
  refine (Keeps.ite h (h7.each (fun _ _ h9 => ?_)))
  extract_lets -underBinder x10
  have h11 : Keeps h.kept s0 x10 := h9.moveDone
  exact h11.setAxis

theorem Keeps.execSafe24Restore {s0 a1 a2 s} (h : Keeps ⟨km, kn, kp, kt, kj, ko, false, kd, kc, kl, ki, kz, kg, kx, ke⟩ s0 s) : OutKeeps ⟨km, kn, kp, kt, kj, ko, false, kd, kc, kl, ki, kz, kg, kx, ke⟩ s0 (Machine.execSafe24Restore a1 a2 s) := by
  unfold Machine.execSafe24Restore
  exact .next (h.when (fun _ h2 => h2.setFld.safe24Mode))

theorem Keeps.execEncLineFault {s0 a1 s} (h : Keeps ⟨km, kn, kp, kt, kj, ko, kf, kd, kc, kl, ki, kz, kg, kx, ke⟩ s0 s) : OutKeeps ⟨km, kn, kp, kt, kj, ko, kf, kd, kc, kl, ki, kz, kg, kx, ke⟩ s0 (Machine.execEncLineFault a1 s) := by
  unfold Machine.execEncLineFault
  exact .next (h.when (fun _ h3 => (h3.faultFrame.when (fun _ h4 => h4.put.postLimited))))

theorem Keeps.execSpdSet {s0 s} (h : Keeps ⟨km, kn, kp, kt, kj, ko, false, kd, kc, kl, ki, kz, kg, kx, ke⟩ s0 s) : OutKeeps ⟨km, kn, kp, kt, kj, ko, false, kd, kc, kl, ki, kz, kg, kx, ke⟩ s0 (Machine.execSpdSet s) := by
  unfold Machine.execSpdSet
  extract_lets -underBinder x1
  exact .next (Keeps.ite h h.setFld.cmdFrame.fieldPins)

theorem Keeps.fieldHealth {s0 s a2 a3 a4} (h : Keeps ⟨km, kn, kp, kt, kj, ko, false, kd, kc, kl, ki, kz, kg, kx, ke⟩ s0 s) : Keeps ⟨km, kn, kp, kt, kj, ko, false, kd, kc, kl, ki, kz, kg, kx, ke⟩ s0 (State.fieldHealth s a2 a3 a4) := by
  unfold State.fieldHealth
  extract_lets -underBinder x1
  have h2 : Keeps h.kept s0 x1 := h.putI.put.put
  split
  · exact Keeps.ite h2.setFld.statusReq h2.setFld.errOutcome
  · exact h2

theorem Keeps.execFieldHealth {s0 a1 a2 a3 s} (h : Keeps ⟨km, kn, kp, kt, kj, ko, false, kd, kc, kl, ki, kz, kg, kx, ke⟩ s0 s) : OutKeeps ⟨km, kn, kp, kt, kj, ko, false, kd, kc, kl, ki, kz, kg, kx, ke⟩ s0 (Machine.execFieldHealth a1 a2 a3 s) := by
  unfold Machine.execFieldHealth
  exact .next (h.when (fun _ h2 => h2.fieldHealth))

theorem Keeps.execFieldFault {s0 a1 a2 a3 s} (h : Keeps ⟨km, kn, kp, kt, kj, ko, kf, kd, kc, kl, ki, kz, kg, kx, ke⟩ s0 s) : OutKeeps ⟨km, kn, kp, kt, kj, ko, kf, kd, kc, kl, ki, kz, kg, kx, ke⟩ s0 (Machine.execFieldFault a1 a2 a3 s) := by
  unfold Machine.execFieldFault
  exact .next (Keeps.ite h (Keeps.ite h.put.post (Keeps.ite h.count (Keeps.ite h.put.count.postLimited (Keeps.ite h.put.post h)))))

theorem Keeps.execBarrierFrameDiscard {s0 a1 s} (h : Keeps ⟨km, kn, kp, kt, kj, ko, false, kd, kc, kl, ki, kz, kg, kx, false⟩ s0 s) : OutKeeps ⟨km, kn, kp, kt, kj, ko, false, kd, kc, kl, ki, kz, kg, kx, false⟩ s0 (Machine.execBarrierFrameDiscard a1 s) := by
  unfold Machine.execBarrierFrameDiscard
  extract_lets -underBinder x1 x2 x3 x4 x5 x6 x7 x8 x9 x10 x11 x12 x13
  refine .next ?_
  have h16 : Keeps h.kept s0 x2 := h.when (fun _ h17 => h17.faultFrame)
  have h18 : Keeps h.kept s0 x7 := by
    unfold x7
    have h19 : Keeps h.kept s0 x4 := h.count.pmcAdd
    have h20 : Keeps h.kept s0 x6 := h19.setFld
    split
    · exact h20.setFld.errOutcome
    · exact h20
  have h28 : Keeps h.kept s0 x11 := h18.put.postLimited
  have h29 : Keeps h.kept s0 x13 := h28.errRecord
  exact Keeps.ite h (Keeps.ite (h16.when (fun _ h31 => h31.outSetLost)) (Keeps.ite h (Keeps.ite h18 (Keeps.ite h18 (Keeps.ite h29.testStarted.setFld.statusReq h29)))))

theorem Keeps.replay {s0 s a2} (h : Keeps ⟨km, kn, kp, kt, kj, ko, false, kd, kc, kl, ki, kz, kg, kx, ke⟩ s0 s) : Keeps ⟨km, kn, kp, kt, kj, ko, false, kd, kc, kl, ki, kz, kg, kx, ke⟩ s0 (State.replay s a2) := by
  unfold State.replay
  extract_lets -underBinder x1
  have h3 : Keeps h.kept s0 x1 := h.cmdFrame
  exact h3.when (fun _ h5 => h5.setFld)

theorem Keeps.execReplayCmd {s0 a1 s} (h : Keeps ⟨km, kn, kp, kt, kj, ko, false, kd, kc, kl, ki, kz, kg, kx, ke⟩ s0 s) : OutKeeps ⟨km, kn, kp, kt, kj, ko, false, kd, kc, kl, ki, kz, kg, kx, ke⟩ s0 (Machine.execReplayCmd a1 s) := by
  unfold Machine.execReplayCmd
  exact .next (h.when (fun _ h2 => h2.replay))

theorem Keeps.merSet {s0 s a2 a3} (h : Keeps ⟨km, false, kp, kt, kj, false, kf, kd, kc, false, ki, kz, kg, kx, ke⟩ s0 s) : Keeps ⟨km, false, kp, kt, kj, false, kf, kd, kc, false, ki, kz, kg, kx, ke⟩ s0 (State.merSet s a2 a3) := by
  unfold State.merSet
  extract_lets -underBinder x1
  have h2 : Keeps h.kept s0 x1 := h.retime
  exact Keeps.ite h2.chNow h.reportAccess

theorem Keeps.execMerSet {s0 a1 a2 s} (h : Keeps ⟨km, false, kp, kt, kj, false, kf, kd, kc, false, ki, kz, kg, kx, false⟩ s0 s) : OutKeeps ⟨km, false, kp, kt, kj, false, kf, kd, kc, false, ki, kz, kg, kx, false⟩ s0 (Machine.execMerSet a1 a2 s) := by
  unfold Machine.execMerSet
  exact .next (h.ownerWrite (fun _ h2 => h2.merSet))

theorem Keeps.execPtmDialogue {s0 a1 s} (h : Keeps ⟨km, kn, kp, false, kj, ko, kf, kd, kc, kl, ki, kz, kg, kx, ke⟩ s0 s) : OutKeeps ⟨km, kn, kp, false, kj, ko, kf, kd, kc, kl, ki, kz, kg, kx, ke⟩ s0 (Machine.execPtmDialogue a1 s) := by
  unfold Machine.execPtmDialogue
  extract_lets -underBinder x1 x2 x3 x4 x5
  refine .next ?_
  refine (Keeps.ite h ?_)
  have h7 : Keeps h.kept s0 x5 := h.setTb.pmcAdd.when (fun _ h8 => h8.send)
  split
  · exact h7.put
  · extract_lets -underBinder x14
    have h15 : Keeps h.kept s0 x14 := h7.put64.put64
    exact h15.put.put

theorem Keeps.follow {s0 s a2 a3 a4 a5} (h : Keeps ⟨km, false, kp, false, kj, false, kf, kd, kc, false, ki, kz, kg, kx, ke⟩ s0 s) : Keeps ⟨km, false, kp, false, kj, false, kf, kd, kc, false, ki, kz, kg, kx, ke⟩ s0 (State.follow s a2 a3 a4 a5) := by
  unfold State.follow
  extract_lets -underBinder x1 x2 x3 x4 x5 x6 x7 x8 x9 x10 x11 x12
  have h15 : Keeps h.kept s0 x9 := h.drawn.setTb
  have h17 : Keeps h.kept s0 x10 := by
    unfold x10
    refine (h15.when (fun _ h20 => ?_))
    extract_lets -underBinder x21
    have h22 : Keeps h.kept s0 x21 := h20.retime
    exact h22.chNow
  have h23 : Keeps h.kept s0 x11 := h17.putSat.put
  have h24 : Keeps h.kept s0 x12 := h23.put
  exact Keeps.ite h.setTb (h24.when (fun _ h26 => h26.put.post))

theorem Keeps.restartFollow {s0 s} (h : Keeps ⟨km, kn, kp, false, kj, ko, kf, kd, kc, kl, ki, kz, kg, kx, ke⟩ s0 s) : Keeps ⟨km, kn, kp, false, kj, ko, kf, kd, kc, kl, ki, kz, kg, kx, ke⟩ s0 (State.restartFollow s) := by
  unfold State.restartFollow
  extract_lets -underBinder x1
  have h2 : Keeps h.kept s0 x1 := h.setTb
  exact h2.put.put

theorem Keeps.peerTtReq {s0 s a2} (h : Keeps ⟨km, kn, kp, kt, kj, false, kf, kd, kc, false, ki, kz, kg, kx, ke⟩ s0 s) : Keeps ⟨km, kn, kp, kt, kj, false, kf, kd, kc, false, ki, kz, kg, kx, ke⟩ s0 (State.peerTtReq s a2) := by
  unfold State.peerTtReq
  exact h.setPeer.sendNow

theorem Keeps.peerAnswer {s0 s a2 a3 a4 a5} (h : Keeps ⟨km, kn, kp, kt, kj, false, kf, kd, kc, false, ki, kz, kg, kx, ke⟩ s0 s) : Keeps ⟨km, kn, kp, kt, kj, false, kf, kd, kc, false, ki, kz, kg, kx, ke⟩ s0 (State.peerAnswer s a2 a3 a4 a5) := by
  unfold State.peerAnswer
  exact h.sendNow.peerPut

theorem Keeps.execStationTimeExchange {s0 a1 a2 a3 a4 a5 s} (h : Keeps ⟨km, false, kp, false, kj, false, kf, kd, kc, false, ki, kz, kg, kx, ke⟩ s0 s) : OutKeeps ⟨km, false, kp, false, kj, false, kf, kd, kc, false, ki, kz, kg, kx, ke⟩ s0 (Machine.execStationTimeExchange a1 a2 a3 a4 a5 s) := by
  unfold Machine.execStationTimeExchange
  refine .next ?_
  split
  · exact h
  · exact Keeps.ite h (Keeps.ite (Keeps.ite h (Keeps.ite h.peerTtReq.follow h.peerTtReq)) (h.when (fun _ h7 => h7.peerAnswer)))

theorem Keeps.execStMerHoldover {s0 s} (h : Keeps ⟨km, kn, kp, false, kj, ko, kf, kd, kc, kl, ki, kz, kg, kx, ke⟩ s0 s) : OutKeeps ⟨km, kn, kp, false, kj, ko, kf, kd, kc, kl, ki, kz, kg, kx, ke⟩ s0 (Machine.execStMerHoldover s) := by
  unfold Machine.execStMerHoldover
  refine .next ?_
  split
  · exact h
  · extract_lets -underBinder x6 x7
    have h8 : Keeps h.kept s0 x7 := h.setTb
    exact Keeps.ite h h8.put.put.put.post

theorem Keeps.execStMerHoldLimit {s0 s} (h : Keeps ⟨km, kn, kp, false, kj, ko, kf, kd, kc, kl, ki, kz, kg, kx, ke⟩ s0 s) : OutKeeps ⟨km, kn, kp, false, kj, ko, kf, kd, kc, kl, ki, kz, kg, kx, ke⟩ s0 (Machine.execStMerHoldLimit s) := by
  unfold Machine.execStMerHoldLimit
  extract_lets -underBinder x1
  exact .next (h.when (fun _ h3 => h3.put.setTb.post))

theorem Keeps.encoutStep {s0 s a2} (h : Keeps ⟨km, kn, kp, false, kj, ko, kf, kd, kc, kl, ki, kz, kg, kx, ke⟩ s0 s) : Keeps ⟨km, kn, kp, false, kj, ko, kf, kd, kc, kl, ki, kz, kg, kx, ke⟩ s0 (State.encoutStep s a2) := by
  unfold State.encoutStep
  exact h.setTb

theorem Keeps.turnReverse {s0 s} (h : Keeps ⟨km, kn, kp, false, false, ko, kf, kd, false, kl, false, kz, kg, kx, ke⟩ s0 s) : Keeps ⟨km, kn, kp, false, false, ko, kf, kd, false, kl, false, kz, kg, kx, ke⟩ s0 (State.turnReverse s) := by
  unfold State.turnReverse
  extract_lets -underBinder x1 x2
  have h4 : Keeps h.kept s0 x1 := h.withdraw
  have h6 : Keeps h.kept s0 x2 := (h4.each (fun _ _ h7 => h7.setRow)).setTb
  exact h6.chCams

theorem Keeps.turnWeb {s0 s a2} (h : Keeps ⟨km, kn, kp, false, false, ko, kf, kd, false, kl, false, kz, kg, kx, ke⟩ s0 s) : Keeps ⟨km, kn, kp, false, false, ko, kf, kd, false, kl, false, kz, kg, kx, ke⟩ s0 (State.turnWeb s a2) := by
  unfold State.turnWeb
  extract_lets -underBinder x1 x2
  have h4 : Keeps h.kept s0 x1 := h.put.putB.putB
  have h6 : Keeps h.kept s0 x2 := h4.when (fun _ h7 => h7.turnReverse)
  exact h6.post

theorem Keeps.webCount {s0 s a2} (h : Keeps ⟨km, kn, kp, false, false, ko, false, kd, false, kl, false, kz, kg, kx, ke⟩ s0 s) : Keeps ⟨km, kn, kp, false, false, ko, false, kd, false, kl, false, kz, kg, kx, ke⟩ s0 (State.webCount s a2) := by
  unfold State.webCount
  extract_lets -underBinder x1 x2 x3 x4
  have h6 : Keeps h.kept s0 x2 := h.put64.pmcAdd
  have h7 : Keeps h.kept s0 x3 := h6.setFld
  have h8 : Keeps h.kept s0 x4 := h7.encoutStep.encoutDrive.setTb
  exact h8.when (fun _ h10 => h10.turnWeb)

theorem Keeps.execEncoderCount {s0 a1 a2 s} (h : Keeps ⟨km, kn, kp, false, false, ko, false, kd, false, kl, false, kz, kg, kx, ke⟩ s0 s) : OutKeeps ⟨km, kn, kp, false, false, ko, false, kd, false, kl, false, kz, kg, kx, ke⟩ s0 (Machine.execEncoderCount a1 a2 s) := by
  unfold Machine.execEncoderCount
  extract_lets -underBinder x1
  exact .next (Keeps.ite h (Keeps.ite h.webCount h.setTb))

theorem Keeps.execQuadratureError {s0 a1 s} (h : Keeps ⟨false, kn, false, false, false, false, false, false, false, false, false, kz, false, kx, ke⟩ s0 s) : OutKeeps ⟨false, kn, false, false, false, false, false, false, false, false, false, kz, false, kx, ke⟩ s0 (Machine.execQuadratureError a1 s) := by
  unfold Machine.execQuadratureError
  extract_lets -underBinder x1 x2 x3 x4
  refine .next ?_
  have h6 : Keeps h.kept s0 x1 := h.put.count.pmcAdd
  have h7 : Keeps h.kept s0 x4 := h6.setTb
  exact Keeps.ite h (h7.when (fun _ h9 => h9.put.post.safeStop))

theorem Keeps.execEncCheckCompare {s0 s} (h : Keeps ⟨false, kn, false, false, false, false, false, false, false, false, false, kz, false, kx, ke⟩ s0 s) : OutKeeps ⟨false, kn, false, false, false, false, false, false, false, false, false, kz, false, kx, ke⟩ s0 (Machine.execEncCheckCompare s) := by
  unfold Machine.execEncCheckCompare
  extract_lets -underBinder x1 x2 x3
  refine .next ?_
  have h5 : Keeps h.kept s0 x3 := h.setTb
  refine (h5.when (fun _ h7 => ?_))
  extract_lets -underBinder x8
  have h10 : Keeps h.kept s0 x8 := h7.put.post
  exact h10.when (fun _ h12 => h12.safeStop)

theorem Keeps.execEncoderIndex {s0 a1 s} (h : Keeps ⟨km, kn, kp, false, kj, ko, false, kd, kc, kl, ki, kz, kg, kx, ke⟩ s0 s) : OutKeeps ⟨km, kn, kp, false, kj, ko, false, kd, kc, kl, ki, kz, kg, kx, ke⟩ s0 (Machine.execEncoderIndex a1 s) := by
  unfold Machine.execEncoderIndex
  extract_lets -underBinder x1 x2 x3 x4 x5 x6 x7 x8 x9
  refine .next ?_
  have h10 : Keeps h.kept s0 x1 := by
    unfold x1
    split
    · exact h.encoutTake
    · exact h
  have h17 : Keeps h.kept s0 x2 := h10.encoutIndex
  have h18 : Keeps h.kept s0 x7 := h17.put64.putSat
  have h19 : Keeps h.kept s0 x8 := h18.put.put
  have h20 : Keeps h.kept s0 x9 := h19.setFld
  exact Keeps.ite h (Keeps.ite h20.pmcAdd.post h17)

theorem Keeps.encoutCommit {s0 s a2 a3} (h : Keeps ⟨km, kn, kp, false, kj, ko, false, kd, kc, kl, ki, kz, kg, kx, ke⟩ s0 s) : Keeps ⟨km, kn, kp, false, kj, ko, false, kd, kc, kl, ki, kz, kg, kx, ke⟩ s0 (State.encoutCommit s a2 a3) := by
  unfold State.encoutCommit
  extract_lets -underBinder x1 x2 x3
  have h5 : Keeps h.kept s0 x3 := h.setTb
  exact Keeps.ite (h5.when (fun _ h7 => h7.reportAccess)) (Keeps.ite h5.put h5.commitField.commitField)

theorem Keeps.execEncoutMCommit {s0 a1 a2 s} (h : Keeps ⟨km, kn, kp, false, kj, ko, false, kd, kc, kl, ki, kz, kg, kx, false⟩ s0 s) : OutKeeps ⟨km, kn, kp, false, kj, ko, false, kd, kc, kl, ki, kz, kg, kx, false⟩ s0 (Machine.execEncoutMCommit a1 a2 s) := by
  unfold Machine.execEncoutMCommit
  exact .next (h.ownerWrite (fun _ h2 => h2.encoutCommit))

theorem Keeps.reportFrames {s0 s a2 a3} (h : Keeps ⟨km, kn, kp, kt, kj, ko, kf, kd, kc, kl, ki, kz, kg, kx, ke⟩ s0 s) : Keeps ⟨km, kn, kp, kt, kj, ko, kf, kd, kc, kl, ki, kz, kg, kx, ke⟩ s0 (State.reportFrames s a2 a3) := by
  unfold State.reportFrames
  extract_lets -underBinder x1 x2 x3 x4 x5 x6
  have h7 : Keeps h.kept s0 x5 := h.sendFrameAt
  have h8 : Keeps h.kept s0 x6 := h7.sendFrameAt
  split
  · exact h8
  · exact h8.sendFrameAt

theorem Keeps.execEdgeReport {s0 a1 s} (h : Keeps ⟨km, kn, kp, kt, kj, ko, false, kd, kc, kl, ki, kz, kg, kx, ke⟩ s0 s) : OutKeeps ⟨km, kn, kp, kt, kj, ko, false, kd, kc, kl, ki, kz, kg, kx, ke⟩ s0 (Machine.execEdgeReport a1 s) := by
  unfold Machine.execEdgeReport
  extract_lets -underBinder x1 x2
  refine .next ?_
  have h4 : Keeps h.kept s0 x2 := by
    unfold x2
    refine (h.each (fun _ _ h7 => (Keeps.ite ?_ h7.reportFrames)))
    extract_lets -underBinder x8
    exact h7.drawn.sendFrameAt.sendFrameAt
  exact Keeps.ite h h4.setFld

theorem Keeps.setSeq {s0 s a2 a3} (h : Keeps ⟨km, kn, kp, false, kj, ko, kf, kd, kc, kl, ki, kz, kg, kx, ke⟩ s0 s) : Keeps ⟨km, kn, kp, false, kj, ko, kf, kd, kc, kl, ki, kz, kg, kx, ke⟩ s0 (State.setSeq s a2 a3) := by
  unfold State.setSeq
  exact h.setTb

theorem Keeps.seqReport {s0 s a2 a3 a4 a5} (h : Keeps ⟨km, kn, kp, false, kj, ko, kf, kd, kc, kl, ki, kz, kg, kx, ke⟩ s0 s) : Keeps ⟨km, kn, kp, false, kj, ko, kf, kd, kc, kl, ki, kz, kg, kx, ke⟩ s0 (State.seqReport s a2 a3 a4 a5) := by
  unfold State.seqReport
  exact h.setSeq

theorem Keeps.loadChannels {s0 s a2} (h : Keeps ⟨km, kn, kp, false, kj, ko, kf, kd, kc, kl, ki, kz, kg, kx, ke⟩ s0 s) : Keeps ⟨km, kn, kp, false, kj, ko, kf, kd, kc, kl, ki, kz, kg, kx, ke⟩ s0 (State.loadChannels s a2) := by
  unfold State.loadChannels
  extract_lets -underBinder x1
  exact h.each (fun _ _ h3 => h3.setSeq)

theorem Keeps.sendTiming {s0 s} (h : Keeps ⟨km, kn, kp, kt, kj, ko, kf, false, kc, false, ki, kz, kg, kx, ke⟩ s0 s) : Keeps ⟨km, kn, kp, kt, kj, ko, kf, false, kc, false, ki, kz, kg, kx, ke⟩ s0 (State.sendTiming s) := by
  unfold State.sendTiming
  split
  · exact h
  · extract_lets -underBinder x6 x7
    exact Keeps.ite h h.duetSend

theorem Keeps.keepLocal {s0 s a2 a3 a4} (h : Keeps ⟨km, kn, kp, kt, kj, ko, kf, false, kc, false, ki, kz, kg, kx, ke⟩ s0 s) : Keeps ⟨km, kn, kp, kt, kj, ko, kf, false, kc, false, ki, kz, kg, kx, ke⟩ s0 (State.keepLocal s a2 a3 a4) := by
  unfold State.keepLocal
  extract_lets -underBinder x1 x2 x3 x4
  exact Keeps.ite h (Keeps.ite h h.setDue.sendTiming)

theorem Keeps.execEdgeReportReceive {s0 a1 a2 a3 s} (h : Keeps ⟨km, kn, kp, false, kj, ko, kf, false, kc, false, ki, kz, kg, kx, ke⟩ s0 s) : OutKeeps ⟨km, kn, kp, false, kj, ko, kf, false, kc, false, ki, kz, kg, kx, ke⟩ s0 (Machine.execEdgeReportReceive a1 a2 a3 s) := by
  unfold Machine.execEdgeReportReceive
  extract_lets -underBinder x1 x2 x3 x4 x5
  refine .next ?_
  have h7 : Keeps h.kept s0 x2 := h.loadChannels
  have h9 : Keeps h.kept s0 x4 := h7.when (fun _ h10 => h10.putSat)
  have h11 : Keeps h.kept s0 x5 := Keeps.ite h9.seqReport h9.setDue
  exact Keeps.ite h h11.keepLocal

theorem Keeps.execReportStale {s0 a1 a2 s} (h : Keeps ⟨km, kn, kp, kt, kj, ko, kf, false, kc, false, ki, kz, kg, kx, ke⟩ s0 s) : OutKeeps ⟨km, kn, kp, kt, kj, ko, kf, false, kc, false, ki, kz, kg, kx, ke⟩ s0 (Machine.execReportStale a1 a2 s) := by
  unfold Machine.execReportStale
  extract_lets -underBinder x1
  exact .next (Keeps.ite h h.put.keepLocal)

theorem Keeps.channelTest {s0 s a2} (h : Keeps ⟨km, kn, kp, false, kj, ko, false, kd, kc, kl, ki, kz, kg, kx, ke⟩ s0 s) : Keeps ⟨km, kn, kp, false, kj, ko, false, kd, kc, kl, ki, kz, kg, kx, ke⟩ s0 (State.channelTest s a2) := by
  unfold State.channelTest
  extract_lets -underBinder x1 x2
  have h3 : Keeps h.kept s0 x1 := h.put
  exact h3.setSeq.testStarted.replay

theorem Keeps.leaveVote {s0 s a2} (h : Keeps ⟨km, kn, kp, kt, kj, ko, kf, kd, kc, kl, ki, kz, kg, kx, ke⟩ s0 s) : Keeps ⟨km, kn, kp, kt, kj, ko, kf, kd, kc, kl, ki, kz, kg, kx, ke⟩ s0 (State.leaveVote s a2) := by
  unfold State.leaveVote
  exact h.put.put

theorem Keeps.outvoted {s0 a1 a2 a3 s} (h : Keeps ⟨km, kn, kp, false, kj, ko, false, kd, kc, kl, ki, kz, kg, kx, false⟩ s0 s) : Keeps ⟨km, kn, kp, false, kj, ko, false, kd, kc, kl, ki, kz, kg, kx, false⟩ s0 (State.outvoted a1 a2 a3 s) := by
  unfold State.outvoted
  extract_lets -underBinder x1 x2 x3 x4 x5
  have h6 : Keeps h.kept s0 x1 := h.count.pmcAdd.post
  have h7 : Keeps h.kept s0 x3 := h6.setSeq
  have h8 : Keeps h.kept s0 x5 := h7.errRecord
  exact Keeps.ite h7 h8.leaveVote.setSeq.channelTest

theorem Keeps.channelOutcome {s0 s a2 a3} (h : Keeps ⟨km, kn, kp, false, kj, ko, kf, kd, kc, kl, ki, kz, kg, kx, ke⟩ s0 s) : Keeps ⟨km, kn, kp, false, kj, ko, kf, kd, kc, kl, ki, kz, kg, kx, ke⟩ s0 (State.channelOutcome s a2 a3) := by
  unfold State.channelOutcome
  split
  · exact h
  · exact h.setSeq.errOutcome

theorem Keeps.channelFails {s0 s a2} (h : Keeps ⟨km, kn, kp, false, kj, ko, kf, kd, kc, kl, ki, kz, kg, kx, ke⟩ s0 s) : Keeps ⟨km, kn, kp, false, kj, ko, kf, kd, kc, kl, ki, kz, kg, kx, ke⟩ s0 (State.channelFails s a2) := by
  unfold State.channelFails
  extract_lets -underBinder x1 x2 x3
  have h4 : Keeps h.kept s0 x1 := h.put
  have h5 : Keeps h.kept s0 x2 := h4.put
  have h6 : Keeps h.kept s0 x3 := h5.setSeq
  exact h6.post.channelOutcome

theorem Keeps.requestTest {s0 a1 s} (h : Keeps ⟨km, kn, kp, false, kj, ko, false, kd, kc, kl, ki, kz, kg, kx, ke⟩ s0 s) : Keeps ⟨km, kn, kp, false, kj, ko, false, kd, kc, kl, ki, kz, kg, kx, ke⟩ s0 (State.requestTest a1 s) := by
  unfold State.requestTest
  exact Keeps.ite h (Keeps.ite h.channelTest (Keeps.ite h.leaveVote.channelTest h))

theorem Keeps.execTrkSelftest {s0 a1 a2 s} (h : Keeps ⟨km, kn, kp, false, kj, ko, false, kd, kc, kl, ki, kz, kg, kx, false⟩ s0 s) : OutKeeps ⟨km, kn, kp, false, kj, ko, false, kd, kc, kl, ki, kz, kg, kx, false⟩ s0 (Machine.execTrkSelftest a1 a2 s) := by
  unfold Machine.execTrkSelftest
  exact .next (h.ownerWrite (fun _ h3 => (h3.each (fun _ _ h4 => h4.requestTest))))

theorem Keeps.execTrkSelftestDone {s0 a1 a2 s} (h : Keeps ⟨km, kn, kp, false, kj, ko, kf, kd, kc, kl, ki, kz, kg, kx, ke⟩ s0 s) : OutKeeps ⟨km, kn, kp, false, kj, ko, kf, kd, kc, kl, ki, kz, kg, kx, ke⟩ s0 (Machine.execTrkSelftestDone a1 a2 s) := by
  unfold Machine.execTrkSelftestDone
  extract_lets -underBinder x1
  exact .next (Keeps.ite h (Keeps.ite h.channelFails h.setSeq))

theorem Keeps.execTrkShadowEnd {s0 a1 s} (h : Keeps ⟨km, kn, kp, false, kj, ko, kf, kd, kc, kl, ki, kz, kg, kx, ke⟩ s0 s) : OutKeeps ⟨km, kn, kp, false, kj, ko, kf, kd, kc, kl, ki, kz, kg, kx, ke⟩ s0 (Machine.execTrkShadowEnd a1 s) := by
  unfold Machine.execTrkShadowEnd
  extract_lets -underBinder x1 x2 x3 x4 x5
  refine .next ?_
  have h6 : Keeps h.kept s0 x1 := h.put
  have h7 : Keeps h.kept s0 x2 := h6.put
  have h8 : Keeps h.kept s0 x3 := h7.put
  have h9 : Keeps h.kept s0 x4 := h8.putB
  have h10 : Keeps h.kept s0 x5 := h9.setSeq
  exact Keeps.ite h (Keeps.ite h.channelFails h10.post.channelOutcome)

theorem Keeps.rowStarts {s0 s a2 a3} (h : Keeps ⟨km, kn, kp, kt, false, ko, kf, kd, kc, kl, ki, kz, kg, kx, ke⟩ s0 s) : Keeps ⟨km, kn, kp, kt, false, ko, kf, kd, kc, kl, ki, kz, kg, kx, ke⟩ s0 (State.rowStarts s a2 a3) := by
  unfold State.rowStarts
  extract_lets -underBinder x1
  have h2 : Keeps h.kept s0 x1 := h.setRow
  split
  · exact h2.put
  · extract_lets -underBinder x8 x9
    have h10 : Keeps h.kept s0 x9 := h2.loadRow.setRow.put64
    exact h10.put

theorem Keeps.rowMoves {s0 s a2 a3} (h : Keeps ⟨km, kn, kp, kt, kj, ko, kf, kd, kc, kl, ki, kz, kg, kx, ke⟩ s0 s) : Keeps ⟨km, kn, kp, kt, kj, ko, kf, kd, kc, kl, ki, kz, kg, kx, ke⟩ s0 (State.rowMoves s a2 a3) := by
  unfold State.rowMoves
  exact h.put64

theorem Keeps.touchBand {s0 s a2 a3} (h : Keeps ⟨km, kn, kp, kt, false, ko, kf, kd, kc, kl, ki, kz, kg, kx, ke⟩ s0 s) : Keeps ⟨km, kn, kp, kt, false, ko, kf, kd, kc, kl, ki, kz, kg, kx, ke⟩ s0 (State.touchBand s a2 a3) := by
  unfold State.touchBand
  split
  · exact h
  · exact Keeps.ite h h.setJob

theorem Keeps.pageSlack {s0 s a2 a3} (h : Keeps ⟨km, kn, kp, kt, kj, ko, kf, kd, kc, kl, ki, kz, kg, kx, ke⟩ s0 s) : Keeps ⟨km, kn, kp, kt, kj, ko, kf, kd, kc, kl, ki, kz, kg, kx, ke⟩ s0 (State.pageSlack s a2 a3) := by
  unfold State.pageSlack
  split
  · exact h
  · split
    · exact h
    · extract_lets -underBinder x11 x12 x13 x14
      have h15 : Keeps h.kept s0 x14 := h.chFresh
      exact Keeps.ite h h15.put

theorem Keeps.firstPass {s0 s a2 a3} (h : Keeps ⟨km, kn, kp, kt, false, ko, kf, kd, kc, kl, ki, kz, kg, kx, ke⟩ s0 s) : Keeps ⟨km, kn, kp, kt, false, ko, kf, kd, kc, kl, ki, kz, kg, kx, ke⟩ s0 (State.firstPass s a2 a3) := by
  unfold State.firstPass
  split
  · exact h
  · exact h.when (fun _ h7 => h7.enterJob)

theorem Keeps.publishLine {s0 s a2 a3 a4 a5 a6 a7} (h : Keeps ⟨false, kn, kp, kt, false, false, kf, false, false, false, ki, kz, false, kx, ke⟩ s0 s) : Keeps ⟨false, kn, kp, kt, false, false, kf, false, false, false, ki, kz, false, kx, ke⟩ s0 (State.publishLine s a2 a3 a4 a5 a6 a7) := by
  unfold State.publishLine
  extract_lets -underBinder x1 x2 x3 x4
  have h5 : Keeps h.kept s0 x2 := by
    unfold x2
    have h6 : Keeps h.kept s0 x1 := h.touchBand.pageSlack
    split
    · exact h6
    · exact h6.firstPass.setRow
  have h12 : Keeps h.kept s0 x3 := h5.moveRow
  split
  · extract_lets -underBinder x17 x18 x19 x20 x21 x22
    have h25 : Keeps h.kept s0 x19 := by
      unfold x19
      clear_value x4
      split
      · exact h12.lineSkipped
      · exact Keeps.ite h12.rowClean (h12.setJobs.when (fun _ h30 => h30.put.pmcAdd))
    have h31 : Keeps h.kept s0 x20 := h25.setRow
    have h32 : Keeps h.kept s0 x21 := h31.pmcAdd.rowMoves.calTick
    have h35 : Keeps h.kept s0 x22 := h32.when (fun _ h36 => (h36.setChain.when (fun _ h37 => h37.put64)))
    exact h35.smpPassed.classifyRow

theorem Keeps.suppressLine {s0 s a2 a3 a4} (h : Keeps ⟨km, kn, kp, kt, false, ko, kf, kd, false, kl, ki, kz, kg, kx, ke⟩ s0 s) : Keeps ⟨km, kn, kp, kt, false, ko, kf, kd, false, kl, ki, kz, kg, kx, ke⟩ s0 (State.suppressLine s a2 a3 a4) := by
  unfold State.suppressLine
  exact h.firstPass.suppressed.calLost.rowMoves

theorem Keeps.publishTrigger {s0 s a2 a3 a4 a5 a6 a7} (h : Keeps ⟨km, kn, kp, kt, kj, ko, kf, kd, kc, kl, false, kz, kg, kx, ke⟩ s0 s) : Keeps ⟨km, kn, kp, kt, kj, ko, kf, kd, kc, kl, false, kz, kg, kx, ke⟩ s0 (State.publishTrigger s a2 a3 a4 a5 a6 a7) := by
  unfold State.publishTrigger
  exact h.setCam

theorem Keeps.noMajority {s0 s} (h : Keeps ⟨false, kn, false, false, false, false, false, false, false, false, false, kz, false, kx, ke⟩ s0 s) : Keeps ⟨false, kn, false, false, false, false, false, false, false, false, false, kz, false, kx, ke⟩ s0 (State.noMajority s) := by
  unfold State.noMajority
  extract_lets -underBinder x1 x2 x3 x4 x5
  have h9 : Keeps h.kept s0 x1 := h.put
  have h11 : Keeps h.kept s0 x4 := h9.when (fun _ h12 => h12.setTb.post)
  have h14 : Keeps h.kept s0 x5 := h11.when (fun _ h15 => h15.post)
  exact h14.when (fun _ h17 => h17.safeStop)

theorem Keeps.crawlTest {s0 s} (h : Keeps ⟨km, kn, kp, kt, kj, ko, kf, kd, kc, kl, ki, kz, kg, kx, ke⟩ s0 s) : Keeps ⟨km, kn, kp, kt, kj, ko, kf, kd, kc, kl, ki, kz, kg, kx, ke⟩ s0 (State.crawlTest s) := by
  unfold State.crawlTest
  extract_lets -underBinder x1 x2
  exact Keeps.ite (h.when (fun _ h5 => h5.put.post)) (h.when (fun _ h6 => h6.put.post))

theorem Keeps.leadRule {s0 s} (h : Keeps ⟨km, kn, kp, kt, false, ko, kf, kd, kc, kl, ki, kz, kg, kx, ke⟩ s0 s) : Keeps ⟨km, kn, kp, kt, false, ko, kf, kd, kc, kl, ki, kz, kg, kx, ke⟩ s0 (State.leadRule s) := by
  unfold State.leadRule
  extract_lets -underBinder x1
  refine (h.each (fun _ _ h3 => ?_))
  extract_lets -underBinder x4
  exact Keeps.ite h3 h3.setChain.put.post

theorem Keeps.showSeq {s0 s} (h : Keeps ⟨km, kn, kp, kt, kj, ko, kf, kd, kc, kl, ki, kz, kg, kx, ke⟩ s0 s) : Keeps ⟨km, kn, kp, kt, kj, ko, kf, kd, kc, kl, ki, kz, kg, kx, ke⟩ s0 (State.showSeq s) := by
  unfold State.showSeq
  extract_lets -underBinder x1
  exact h.putI64.putI64.putI64

theorem Keeps.outvotes {s0 s a2 a3} (h : Keeps ⟨km, kn, kp, false, kj, ko, false, kd, kc, kl, ki, kz, kg, kx, false⟩ s0 s) : Keeps ⟨km, kn, kp, false, kj, ko, false, kd, kc, kl, ki, kz, kg, kx, false⟩ s0 (State.outvotes s a2 a3) := by
  unfold State.outvotes
  extract_lets -underBinder x1 x2
  exact h.each (fun _ _ h4 => h4.outvoted)

theorem Keeps.afterReport {s0 s} (h : Keeps ⟨km, kn, kp, false, false, ko, kf, kd, kc, kl, ki, kz, kg, kx, ke⟩ s0 s) : Keeps ⟨km, kn, kp, false, false, ko, kf, kd, kc, kl, ki, kz, kg, kx, ke⟩ s0 (State.afterReport s) := by
  unfold State.afterReport
  extract_lets -underBinder x1 x2
  have h5 : Keeps h.kept s0 x1 := h.when (fun _ h6 => h6.setTb)
  have h8 : Keeps h.kept s0 x2 := h5.each (fun _ _ h9 => h9.foldUpdates)
  exact h8.freeShadow.pagesDone.leadRule.showSeq

theorem Keeps.publishRow {s0 : State} {tk crawl k n} : ∀ {a : VoteAcc}, Keeps ⟨false, kn, kp, kt, false, false, kf, false, false, false, ki, kz, false, kx, ke⟩ s0 a.s → Keeps ⟨false, kn, kp, kt, false, false, kf, false, false, false, ki, kz, false, kx, ke⟩ s0 (Machine.publishRow tk crawl k n a).s := by
  induction n with
  | zero => intro a h; exact h
  | succ n ih =>
    intro a h
    unfold Machine.publishRow
    dsimp only
    repeat' split
    all_goals first
      | exact h
      | (refine ih ?_; first | exact h.rowStarts | exact h.suppressLine | exact Keeps.publishLine (s := a.s) h)

theorem Keeps.rowAtReport {s0 : State} {tk crawl k} {a : VoteAcc} (h : Keeps ⟨false, kn, kp, kt, false, false, kf, false, false, false, ki, kz, false, kx, ke⟩ s0 a.s) : Keeps ⟨false, kn, kp, kt, false, false, kf, false, false, false, ki, kz, false, kx, ke⟩ s0 (Machine.rowAtReport tk crawl a k).s :=
  h.publishRow.publishRow

theorem Keeps.publishTrigs {s0 : State} {tk crawl p n} : ∀ {a : VoteAcc}, Keeps ⟨km, kn, kp, kt, kj, ko, kf, kd, kc, kl, false, kz, kg, kx, ke⟩ s0 a.s → Keeps ⟨km, kn, kp, kt, kj, ko, kf, kd, kc, kl, false, kz, kg, kx, ke⟩ s0 (Machine.publishTrigs tk crawl p n a).s := by
  induction n with
  | zero => intro a h; exact h
  | succ n ih =>
    intro a h
    unfold Machine.publishTrigs
    dsimp only
    repeat' split
    all_goals first
      | exact h
      | (refine ih ?_; exact Keeps.publishTrigger (s := a.s) h)

theorem Keeps.trigsAtReport {s0 : State} {tk crawl p} {a : VoteAcc} (h : Keeps ⟨km, kn, kp, kt, kj, ko, kf, kd, kc, kl, false, kz, kg, kx, ke⟩ s0 a.s) : Keeps ⟨km, kn, kp, kt, kj, ko, kf, kd, kc, kl, false, kz, kg, kx, ke⟩ s0 (Machine.trigsAtReport tk crawl a p).s := by
  unfold Machine.trigsAtReport
  split
  · exact h
  · exact h.publishTrigs

theorem Keeps.voteTicks {s0 s tk} (h : Keeps ⟨km, kn, kp, kt, false, ko, kf, kd, kc, kl, ki, kz, kg, kx, ke⟩ s0 s) : Keeps ⟨km, kn, kp, kt, false, ko, kf, kd, kc, kl, ki, kz, kg, kx, ke⟩ s0 (State.voteTicks s tk).s := by
  unfold State.voteTicks
  extract_lets f
  split
  · simp only [VoteAcc.add]
    split
    · exact h.put
    · exact h
  · refine Keeps.foldlVia (π := VoteAcc.s) (fun a c h => ?_) h
    dsimp only [VoteAcc.add]
    split
    · exact h
    · exact h.setChain.when fun _ h => h.put

theorem Keeps.reportRows {s0 s tk} {a : VoteAcc} (h : Keeps ⟨false, kn, kp, false, false, false, kf, false, false, false, false, kz, false, kx, ke⟩ s0 a.s) : Keeps ⟨false, kn, kp, false, false, false, kf, false, false, false, false, kz, false, kx, ke⟩ s0 (State.reportRows s tk a).s := by
  unfold State.reportRows
  extract_lets rev s1 s2 crawl a1
  have h1 : Keeps h.kept s0 a1.s := (h.when fun _ h => h.turnReverse).setTb.crawlTest
  split
  · exact h1
  · exact Keeps.foldlVia (π := VoteAcc.s) (fun _ _ h => h.trigsAtReport) (Keeps.foldlVia (π := VoteAcc.s) (fun _ _ h => h.rowAtReport) h1)

theorem Keeps.close {s0 : State} {tk} {a : VoteAcc} (h : Keeps ⟨km, kn, kp, false, kj, ko, false, kd, kc, kl, ki, kz, kg, kx, false⟩ s0 a.s) : Keeps ⟨km, kn, kp, false, kj, ko, false, kd, kc, kl, ki, kz, kg, kx, false⟩ s0 (a.close tk) :=
  h.outvotes.each fun _ _ h => h.setSeq

theorem Keeps.report {s0 s tk} (h : Keeps ⟨false, kn, false, false, false, false, false, false, false, false, false, kz, false, kx, false⟩ s0 s) : Keeps ⟨false, kn, false, false, false, false, false, false, false, false, false, kz, false, kx, false⟩ s0 (State.report s tk) := by
  unfold State.report
  extract_lets s1 a a1
  have ha : Keeps h.kept s0 a.s := h.pmcAdd.setTb.voteTicks
  have h1 : Keeps h.kept s0 a1.s := by
    unfold a1
    split
    · exact ha
    · exact ha.reportRows
  clear_value a1
  split
  · exact h.pmcAdd.setTb.outvotes.showSeq.noMajority
  · exact h1.close.setTb.afterReport

theorem Keeps.feed {s0 s a2 a3} (h : Keeps ⟨km, kn, kp, false, kj, ko, kf, kd, kc, kl, ki, kz, kg, kx, ke⟩ s0 s) : Keeps ⟨km, kn, kp, false, kj, ko, kf, kd, kc, kl, ki, kz, kg, kx, ke⟩ s0 (State.feed s a2 a3) := by
  unfold State.feed
  refine (h.each (fun _ _ h2 => ?_))
  split
  · exact Keeps.ite h2 h2.seqReport
  · exact h2

theorem Keeps.feedPeer {s0 s a2} (h : Keeps ⟨km, kn, kp, false, kj, ko, kf, kd, kc, kl, ki, kz, kg, kx, ke⟩ s0 s) : Keeps ⟨km, kn, kp, false, kj, ko, kf, kd, kc, kl, ki, kz, kg, kx, ke⟩ s0 (State.feedPeer s a2) := by
  unfold State.feedPeer
  refine (Keeps.ite h ?_)
  split
  · exact Keeps.ite h.feed h
  · exact h

theorem Keeps.countDiff {s0 s a2} (h : Keeps ⟨km, kn, kp, kt, kj, ko, kf, false, kc, kl, ki, kz, kg, kx, ke⟩ s0 s) : Keeps ⟨km, kn, kp, kt, kj, ko, kf, false, kc, kl, ki, kz, kg, kx, ke⟩ s0 (State.countDiff s a2) := by
  unfold State.countDiff
  split
  · exact h
  · extract_lets -underBinder x6 x7 x8 x9
    have h11 : Keeps h.kept s0 x9 := h.when (fun _ h12 => h12.postLimited)
    exact Keeps.ite h h11.setDue.putI64

theorem Keeps.execTroikaVote {s0 a1 s} (h : Keeps ⟨false, kn, false, false, false, false, false, false, false, false, false, kz, false, kx, false⟩ s0 s) : OutKeeps ⟨false, kn, false, false, false, false, false, false, false, false, false, kz, false, kx, false⟩ s0 (Machine.execTroikaVote a1 s) := by
  unfold Machine.execTroikaVote
  extract_lets -underBinder x1
  refine .next ?_
  have h2 : Keeps h.kept s0 x1 := h.loadChannels.feedPeer
  exact Keeps.ite h h2.countDiff.report.calWatch

theorem Keeps.deadline {s0 s a2} (h : Keeps ⟨km, kn, kp, kt, false, ko, kf, false, false, false, ki, kz, kg, kx, ke⟩ s0 s) : Keeps ⟨km, kn, kp, kt, false, ko, kf, false, false, false, ki, kz, kg, kx, ke⟩ s0 (State.deadline s a2) := by
  unfold State.deadline
  extract_lets -underBinder x1
  have h2 : Keeps h.kept s0 x1 := by
    unfold x1
    split
    · exact h.lineLate
    · split
      · exact h.lineLate
  exact h2.freeShadow.pagesDone

theorem Keeps.execStLateWork {s0 a1 a2 a3 s} (h : Keeps ⟨km, kn, kp, kt, false, ko, kf, false, false, false, ki, kz, kg, kx, ke⟩ s0 s) : OutKeeps ⟨km, kn, kp, kt, false, ko, kf, false, false, false, ki, kz, kg, kx, ke⟩ s0 (Machine.execStLateWork a1 a2 a3 s) := by
  unfold Machine.execStLateWork
  refine .next ?_
  split
  · exact h
  · exact Keeps.ite h h.deadline

theorem Keeps.tellDigest {s0 s a2 a3} (h : Keeps ⟨km, kn, kp, kt, kj, ko, kf, false, kc, false, ki, kz, kg, kx, ke⟩ s0 s) : Keeps ⟨km, kn, kp, kt, kj, ko, kf, false, kc, false, ki, kz, kg, kx, ke⟩ s0 (State.tellDigest s a2 a3) := by
  unfold State.tellDigest
  split
  · exact h
  · exact Keeps.ite h h.digest

theorem Keeps.gateMismatch {s0 s a2} (h : Keeps ⟨km, kn, kp, kt, false, ko, false, false, false, false, ki, kz, kg, kx, ke⟩ s0 s) : Keeps ⟨km, kn, kp, kt, false, ko, false, false, false, false, ki, kz, kg, kx, ke⟩ s0 (State.gateMismatch s a2) := by
  unfold State.gateMismatch
  extract_lets -underBinder x1 x2 x3 x4 x5
  have h7 : Keeps h.kept s0 x1 := h.put.count.pmcAdd
  have h8 : Keeps h.kept s0 x2 := h7.postLimited
  have h9 : Keeps h.kept s0 x4 := h8.setDue
  have h10 : Keeps h.kept s0 x5 := h9.lineLate
  exact h10.when (fun _ h12 => h12.detach)

theorem Keeps.refuseLine {s0 s a2} (h : Keeps ⟨km, kn, kp, kt, false, ko, kf, false, false, false, ki, kz, kg, kx, ke⟩ s0 s) : Keeps ⟨km, kn, kp, kt, false, ko, kf, false, false, false, ki, kz, kg, kx, ke⟩ s0 (State.refuseLine s a2) := by
  unfold State.refuseLine
  extract_lets -underBinder x1 x2
  exact Keeps.ite h.lineLate (Keeps.ite h.lineLate (Keeps.ite h.lineLate (Keeps.ite h.lineLate (Keeps.ite h.put.lineLate (Keeps.ite h.drawn.count.pmcAdd.lineLate h.put.count.lineLate)))))

theorem Keeps.tapVolumes {s0 s a2 a3} (h : Keeps ⟨km, kn, kp, kt, kj, ko, kf, kd, kc, kl, false, kz, kg, kx, ke⟩ s0 s) : Keeps ⟨km, kn, kp, kt, kj, ko, kf, kd, kc, kl, false, kz, kg, kx, ke⟩ s0 (State.tapVolumes s a2 a3) := by
  unfold State.tapVolumes
  extract_lets -underBinder x1 x2 x3 x4
  exact Keeps.ite h h.chIns

theorem Keeps.noteSent {s0 s a2} (h : Keeps ⟨km, kn, kp, kt, kj, false, kf, kd, kc, kl, ki, kz, kg, kx, ke⟩ s0 s) : Keeps ⟨km, kn, kp, kt, kj, false, kf, kd, kc, kl, ki, kz, kg, kx, ke⟩ s0 (State.noteSent s a2) := by
  unfold State.noteSent
  extract_lets -underBinder x1 x2 x3 x4
  exact h.setPort

theorem Keeps.sendLine {s0 s a2} (h : Keeps ⟨km, kn, kp, kt, false, false, kf, false, kc, false, false, kz, kg, kx, ke⟩ s0 s) : Keeps ⟨km, kn, kp, kt, false, false, kf, false, kc, false, false, kz, kg, kx, ke⟩ s0 (State.sendLine s a2) := by
  unfold State.sendLine
  extract_lets -underBinder x1 x2 x3 x4 x5 x6 x7
  have h9 : Keeps h.kept s0 x4 := h.sendBlocks
  have h11 : Keeps h.kept s0 x5 := h9.when (fun _ h12 => h12.count.pmcAdd)
  have h13 : Keeps h.kept s0 x6 := h11.noteSent.tapVolumes.dropLine
  have h14 : Keeps h.kept s0 x7 := h13.rowClean
  exact h14.count.pmcAdd

theorem Keeps.hctlDrain {s0 : State} {p n} : ∀ {s : State}, Keeps ⟨km, kn, kp, kt, kj, false, kf, kd, kc, false, ki, kz, kg, kx, ke⟩ s0 s → Keeps ⟨km, kn, kp, kt, kj, false, kf, kd, kc, false, ki, kz, kg, kx, ke⟩ s0 (State.hctlDrain p n s) := by
  induction n with
  | zero => intro s h; exact h
  | succ n ih =>
    intro s h
    unfold State.hctlDrain
    exact .ite h (ih h.sendHctl)

theorem Keeps.headDrain {s0 a1 s} (h : Keeps ⟨km, kn, kp, kt, kj, false, kf, kd, kc, false, ki, kz, kg, kx, ke⟩ s0 s) : Keeps ⟨km, kn, kp, kt, kj, false, kf, kd, kc, false, ki, kz, kg, kx, ke⟩ s0 (State.headDrain a1 s) := by
  unfold State.headDrain
  exact h.hctlDrain

theorem Keeps.sendTurn {s0 s a2} (h : Keeps ⟨km, kn, kp, kt, false, false, false, false, false, false, false, kz, kg, kx, ke⟩ s0 s) : Keeps ⟨km, kn, kp, kt, false, false, false, false, false, false, false, kz, kg, kx, ke⟩ s0 (State.sendTurn s a2) := by
  unfold State.sendTurn
  extract_lets -underBinder x1 x2 x3 x4 x5 x6 x7 x8 x9
  have h13 : Keeps h.kept s0 x7 := h.each (fun _ _ h14 => h14.refuseLine)
  have h16 : Keeps h.kept s0 x8 := h13.each (fun _ _ h17 => h17.gateMismatch)
  have h19 : Keeps h.kept s0 x9 := h16.each (fun _ _ h20 => h20.lineLate)
  split
  · exact Keeps.ite h19 h19.sendLine
  · exact h19.headDrain

theorem Keeps.execLinePacketSend {s0 a1 s} (h : Keeps ⟨km, kn, kp, kt, false, false, false, false, false, false, false, kz, kg, kx, ke⟩ s0 s) : OutKeeps ⟨km, kn, kp, kt, false, false, false, false, false, false, false, kz, kg, kx, ke⟩ s0 (Machine.execLinePacketSend a1 s) := by
  unfold Machine.execLinePacketSend
  exact .next h.sendTurn.freeShadow.pagesDone

theorem Keeps.execSmpUpdate {s0 a1 s} (h : Keeps ⟨false, kn, kp, kt, false, false, kf, false, false, kl, ki, kz, false, kx, ke⟩ s0 s) : OutKeeps ⟨false, kn, kp, kt, false, false, kf, false, false, kl, ki, kz, false, kx, ke⟩ s0 (Machine.execSmpUpdate a1 s) := by
  unfold Machine.execSmpUpdate
  refine .next ?_
  split
  · exact h
  · extract_lets -underBinder x6
    have h7 : Keeps h.kept s0 x6 := h.markStarted
    refine (Keeps.ite h (Keeps.ite h7.count.pmcAdd.complete ?_))
    split
    · rename_i y11
      have h12 := Keeps.snd y11 h7.smpSubmit
      exact h12.calWatch.complete

theorem Keeps.execRecordDelivery {s0 a1 s} (h : Keeps ⟨false, kn, kp, kt, false, false, kf, false, false, kl, ki, kz, false, kx, ke⟩ s0 s) : OutKeeps ⟨false, kn, kp, kt, false, false, kf, false, false, kl, ki, kz, false, kx, ke⟩ s0 (Machine.execRecordDelivery a1 s) := by
  unfold Machine.execRecordDelivery
  extract_lets -underBinder x1
  refine .next ?_
  have h2 : Keeps h.kept s0 x1 := h.setSmp
  exact h2.applyNext

theorem Keeps.xferGo {s0 s a2} (h : Keeps ⟨km, kn, kp, kt, false, ko, kf, kd, kc, kl, ki, kz, kg, kx, ke⟩ s0 s) : Keeps ⟨km, kn, kp, kt, false, ko, kf, kd, kc, kl, ki, kz, kg, kx, ke⟩ s0 (State.xferGo s a2) := by
  unfold State.xferGo
  extract_lets -underBinder x1 x2 x3 x4 x5 x6
  have h9 : Keeps h.kept s0 x5 := h.setSmp
  have h10 : Keeps h.kept s0 x6 := h9.put.put
  exact Keeps.ite h (Keeps.ite h.put (Keeps.ite (h.put.when (fun _ h13 => h13.post)) (h10.when (fun _ h14 => h14.send))))

theorem Keeps.xferWrite {s0 s a2 a3} (h : Keeps ⟨km, kn, kp, kt, false, ko, kf, kd, kc, kl, ki, kz, kg, kx, ke⟩ s0 s) : Keeps ⟨km, kn, kp, kt, false, ko, kf, kd, kc, kl, ki, kz, kg, kx, ke⟩ s0 (State.xferWrite s a2 a3) := by
  unfold State.xferWrite
  exact h.trigger (fun _ h2 => h2.xferGo)

theorem Keeps.execSmpLoad {s0 a1 a2 a3 s} (h : Keeps ⟨km, kn, kp, kt, false, ko, kf, kd, kc, kl, ki, kz, kg, kx, false⟩ s0 s) : OutKeeps ⟨km, kn, kp, kt, false, ko, kf, kd, kc, kl, ki, kz, kg, kx, false⟩ s0 (Machine.execSmpLoad a1 a2 a3 s) := by
  unfold Machine.execSmpLoad
  exact .next (h.ownerWrite (fun _ h2 => h2.xferWrite))

theorem Keeps.execSmpSave {s0 a1 a2 a3 s} (h : Keeps ⟨km, kn, kp, kt, false, ko, kf, kd, kc, kl, ki, kz, kg, kx, false⟩ s0 s) : OutKeeps ⟨km, kn, kp, kt, false, ko, kf, kd, kc, kl, ki, kz, kg, kx, false⟩ s0 (Machine.execSmpSave a1 a2 a3 s) := by
  unfold Machine.execSmpSave
  exact .next (h.ownerWrite (fun _ h2 => h2.xferWrite))

theorem Keeps.recountPort {s0 s a2 s3} (h : Keeps ⟨km, kn, kp, kt, kj, ko, kf, kd, kc, kl, ki, kz, kg, kx, ke⟩ s0 s) (ha : Keeps ⟨km, kn, kp, kt, kj, ko, kf, kd, kc, kl, ki, kz, kg, kx, ke⟩ s0 s3) : Keeps ⟨km, kn, kp, kt, kj, ko, kf, kd, kc, kl, ki, kz, kg, kx, ke⟩ s0 (State.recountPort s a2 s3) := by
  unfold State.recountPort
  extract_lets -underBinder x1 x2 x3
  have h6 : Keeps h.kept s0 x2 := ha.put.put
  have h8 : Keeps h.kept s0 x3 := h6.each (fun _ _ h9 => h9.put)
  exact Keeps.ite ha (h8.each (fun _ _ h11 => h11.showBarGain))

theorem Keeps.portLoaded {s0 s a2 s3} (h : Keeps ⟨km, kn, kp, kt, false, false, kf, kd, kc, kl, ki, kz, kg, kx, ke⟩ s0 s) (ha : Keeps ⟨km, kn, kp, kt, false, false, kf, kd, kc, kl, ki, kz, kg, kx, ke⟩ s0 s3) : Keeps ⟨km, kn, kp, kt, false, false, kf, kd, kc, kl, ki, kz, kg, kx, ke⟩ s0 (State.portLoaded s a2 s3) := by
  unfold State.portLoaded
  extract_lets -underBinder x1
  have h3 : Keeps h.kept s0 x1 := (h.recountPort ha).spareAlarm
  exact h3.each (fun _ _ h5 => h5.tapChange)

theorem Keeps.loadImage {s0 s a2 a3 a4} (h : Keeps ⟨false, kn, kp, kt, false, false, kf, kd, kc, kl, ki, kz, false, kx, ke⟩ s0 s) : Keeps ⟨false, kn, kp, kt, false, false, kf, kd, kc, kl, ki, kz, false, kx, ke⟩ s0 (State.loadImage s a2 a3 a4) := by
  unfold State.loadImage
  extract_lets -underBinder x1 x2 x3 x4 x5 x6 x7
  have h9 : Keeps h.kept s0 x4 := h.dramStore
  have h10 : Keeps h.kept s0 x6 := h9.put
  have h11 : Keeps h.kept s0 x7 := h10.setSmp
  have h12 : Keeps h.kept s0 x1 := h
  exact h11.put.each (fun _ _ h14 => (h12.portLoaded h14))

theorem Keeps.execSmpXferDone {s0 a1 s} (h : Keeps ⟨false, kn, kp, kt, false, false, kf, kd, kc, kl, ki, kz, false, kx, ke⟩ s0 s) : OutKeeps ⟨false, kn, kp, kt, false, false, kf, kd, kc, kl, ki, kz, false, kx, ke⟩ s0 (Machine.execSmpXferDone a1 s) := by
  unfold Machine.execSmpXferDone
  refine .next ?_
  split
  · exact h
  · extract_lets -underBinder x9 x10 x11 x12
    have h13 : Keeps h.kept s0 x9 := h.setSmp
    have h14 : Keeps h.kept s0 x10 := h13.put.put
    have h15 : Keeps h.kept s0 x12 := h14.send
    refine (Keeps.ite h15.put.put (Keeps.ite h14.put.post ?_))
    split
    · exact h14.put.put.post
    · exact h14.loadImage.put

theorem Keeps.peek {s0 s a2 a3} (h : Keeps ⟨km, kn, kp, kt, kj, ko, kf, kd, kc, kl, ki, kz, kg, kx, ke⟩ s0 s) : Keeps ⟨km, kn, kp, kt, kj, ko, kf, kd, kc, kl, ki, kz, kg, kx, ke⟩ s0 (State.peek s a2 a3) := by
  unfold State.peek
  extract_lets -underBinder x1 x2
  have h4 : Keeps h.kept s0 x1 := h.writeFields
  exact h4.each (fun _ _ h6 => h6.put)

theorem Keeps.execSmpPeek {s0 a1 a2 s} (h : Keeps ⟨km, kn, kp, kt, kj, ko, kf, kd, kc, kl, ki, kz, kg, kx, false⟩ s0 s) : OutKeeps ⟨km, kn, kp, kt, kj, ko, kf, kd, kc, kl, ki, kz, kg, kx, false⟩ s0 (Machine.execSmpPeek a1 a2 s) := by
  unfold Machine.execSmpPeek
  exact .next (h.ownerWrite (fun _ h2 => h2.peek))

end Sys2Proof.Machine
end

