-- ==== Sys2Proof/Laws/KeepsHeads.lean ====
section
/-! SUPPORT. What the operations on the head ports, modes, levels, power and reset keep: the queue, the canonical maps and every part of the state that the operation does not change (the parts that its lemma leaves free). One lemma for each operation. -/

namespace Sys2Proof.Machine

variable {km kn kp kt kj ko kf kd kc kl ki kz kg kx ke : Bool}
variable {k : Kept}

theorem Keeps.twiRefused {s0 s a2} (h : Keeps ⟨km, kn, kp, kt, kj, ko, kf, kd, kc, kl, ki, kz, kg, kx, ke⟩ s0 s) : Keeps ⟨km, kn, kp, kt, kj, ko, kf, kd, kc, kl, ki, kz, kg, kx, ke⟩ s0 (State.twiRefused s a2) := by
  unfold State.twiRefused
  exact h.put.post

theorem Keeps.hpEnable {s0 a1 a2 s} (h : Keeps ⟨false, kn, false, kt, false, false, false, false, false, false, false, kz, false, kx, ke⟩ s0 s) : Keeps ⟨false, kn, false, kt, false, false, false, false, false, false, false, kz, false, kx, ke⟩ s0 (State.hpEnable a1 a2 s) := by
  unfold State.hpEnable
  extract_lets -underBinder x1 x2 x3
  have h4 : Keeps h.kept s0 x2 := h.linkLost.portDown.lanesDetect.lanesShow
  have h5 : Keeps h.kept s0 x3 := h4.setPort
  exact Keeps.ite h.put.put.lanesShow.hpRestart h5.put.put.put.hpState

theorem Keeps.hpContinue {s0 a1 s} (h : Keeps ⟨false, kn, false, kt, false, false, false, false, false, false, false, kz, false, kx, ke⟩ s0 s) : Keeps ⟨false, kn, false, kt, false, false, false, false, false, false, false, kz, false, kx, ke⟩ s0 (State.hpContinue a1 s) := by
  unfold State.hpContinue
  exact Keeps.ite h (Keeps.ite h.hpState h.hpFail)

theorem Keeps.hpFlushCmd {s0 a1 s} (h : Keeps ⟨km, kn, kp, kt, false, false, kf, kd, false, false, ki, kz, kg, kx, ke⟩ s0 s) : Keeps ⟨km, kn, kp, kt, false, false, kf, kd, false, false, ki, kz, kg, kx, ke⟩ s0 (State.hpFlushCmd a1 s) := by
  unfold State.hpFlushCmd
  exact Keeps.ite h h.flushPort

theorem Keeps.txSleep {s0 a1 s} (h : Keeps ⟨km, kn, kp, kt, kj, false, kf, kd, kc, false, ki, kz, kg, kx, ke⟩ s0 s) : Keeps ⟨km, kn, kp, kt, kj, false, kf, kd, kc, false, ki, kz, kg, kx, ke⟩ s0 (State.txSleep a1 s) := by
  unfold State.txSleep
  extract_lets -underBinder x1 x2
  have h5 : Keeps h.kept s0 x1 := h.when (fun _ h6 => (h6.each (fun _ _ h7 => h7.sendHctl)).sendAll)
  have h8 : Keeps h.kept s0 x2 := h5.linkDown.put.lanesShow
  exact Keeps.ite h h8.setPort

theorem Keeps.portSleeps {s0 a1 s} (h : Keeps ⟨km, kn, kp, kt, kj, false, kf, kd, kc, false, ki, kz, kg, kx, ke⟩ s0 s) : Keeps ⟨km, kn, kp, kt, kj, false, kf, kd, kc, false, ki, kz, kg, kx, ke⟩ s0 (State.portSleeps a1 s) := by
  unfold State.portSleeps
  exact h.headTwi.txSleep

theorem Keeps.txWake {s0 a1 s} (h : Keeps ⟨km, kn, kp, kt, kj, false, kf, kd, kc, false, ki, kz, kg, kx, ke⟩ s0 s) : Keeps ⟨km, kn, kp, kt, kj, false, kf, kd, kc, false, ki, kz, kg, kx, ke⟩ s0 (State.txWake a1 s) := by
  unfold State.txWake
  extract_lets -underBinder x1 x2
  have h4 : Keeps h.kept s0 x1 := h.put.lanesShow
  have h6 : Keeps h.kept s0 x2 := h4.when (fun _ h7 => h7.sendTrain.enterData)
  exact Keeps.ite h (Keeps.ite h6.setPort.hpState h6)

theorem Keeps.hpCtrlWrite {s0 s a2 a3 a4} (h : Keeps ⟨false, kn, false, kt, false, false, false, false, false, false, false, kz, false, kx, ke⟩ s0 s) : Keeps ⟨false, kn, false, kt, false, false, false, false, false, false, false, kz, false, kx, ke⟩ s0 (State.hpCtrlWrite s a2 a3 a4) := by
  unfold State.hpCtrlWrite
  extract_lets -underBinder x1 x2 x3 x4
  split
  · extract_lets -underBinder x11 x12 x13 x14 x15 x16 x17 x18 x19 x20
    have h29 : Keeps h.kept s0 x12 := h.writeFields
    have h31 : Keeps h.kept s0 x14 := h29.when (fun _ h32 => h32.hpEnable)
    have h34 : Keeps h.kept s0 x15 := h31.when (fun _ h35 => h35.hpFlushCmd)
    have h37 : Keeps h.kept s0 x16 := h34.when (fun _ h38 => h38.put.hpRestart)
    have h40 : Keeps h.kept s0 x17 := h37.when (fun _ h41 => h41.hpContinue)
    have h43 : Keeps h.kept s0 x18 := h40.when (fun _ h44 => h44.headTwi)
    have h47 : Keeps h.kept s0 x19 := (h43.when (fun _ h48 => h48.txSleep)).when (fun _ h49 => h49.txWake)
    exact Keeps.ite h.twiRefused (h47.when (fun _ h51 => h51.headTwi))

theorem Keeps.hpCtrlBits {s0 s a2 a3 a4} (h : Keeps ⟨false, kn, false, kt, false, false, false, false, false, false, false, kz, false, kx, false⟩ s0 s) : Keeps ⟨false, kn, false, kt, false, false, false, false, false, false, false, kz, false, kx, false⟩ s0 (State.hpCtrlBits s a2 a3 a4) := by
  unfold State.hpCtrlBits
  exact h.ownerWrite (fun _ h2 => h2.hpCtrlWrite)

theorem Keeps.execHpPortEnable {s0 a1 a2 a3 s} (h : Keeps ⟨false, kn, false, kt, false, false, false, false, false, false, false, kz, false, kx, false⟩ s0 s) : OutKeeps ⟨false, kn, false, kt, false, false, false, false, false, false, false, kz, false, kx, false⟩ s0 (Machine.execHpPortEnable a1 a2 a3 s) := by
  unfold Machine.execHpPortEnable
  exact .next h.hpCtrlBits

theorem Keeps.execHpContinue {s0 a1 a2 s} (h : Keeps ⟨false, kn, false, kt, false, false, false, false, false, false, false, kz, false, kx, false⟩ s0 s) : OutKeeps ⟨false, kn, false, kt, false, false, false, false, false, false, false, kz, false, kx, false⟩ s0 (Machine.execHpContinue a1 a2 s) := by
  unfold Machine.execHpContinue
  exact .next h.hpCtrlBits

theorem Keeps.execHpRetrain {s0 a1 a2 s} (h : Keeps ⟨false, kn, false, kt, false, false, false, false, false, false, false, kz, false, kx, false⟩ s0 s) : OutKeeps ⟨false, kn, false, kt, false, false, false, false, false, false, false, kz, false, kx, false⟩ s0 (Machine.execHpRetrain a1 a2 s) := by
  unfold Machine.execHpRetrain
  exact .next h.hpCtrlBits

theorem Keeps.execHpFlush {s0 a1 a2 s} (h : Keeps ⟨false, kn, false, kt, false, false, false, false, false, false, false, kz, false, kx, false⟩ s0 s) : OutKeeps ⟨false, kn, false, kt, false, false, false, false, false, false, false, kz, false, kx, false⟩ s0 (Machine.execHpFlush a1 a2 s) := by
  unfold Machine.execHpFlush
  exact .next h.hpCtrlBits

theorem Keeps.execHpTxTwi {s0 a1 a2 a3 s} (h : Keeps ⟨false, kn, false, kt, false, false, false, false, false, false, false, kz, false, kx, false⟩ s0 s) : OutKeeps ⟨false, kn, false, kt, false, false, false, false, false, false, false, kz, false, kx, false⟩ s0 (Machine.execHpTxTwi a1 a2 a3 s) := by
  unfold Machine.execHpTxTwi
  exact .next h.hpCtrlBits

theorem Keeps.execHpHeadTxTwi {s0 a1 a2 a3 s} (h : Keeps ⟨false, kn, false, kt, false, false, false, false, false, false, false, kz, false, kx, false⟩ s0 s) : OutKeeps ⟨false, kn, false, kt, false, false, false, false, false, false, false, kz, false, kx, false⟩ s0 (Machine.execHpHeadTxTwi a1 a2 a3 s) := by
  unfold Machine.execHpHeadTxTwi
  exact .next h.hpCtrlBits

theorem Keeps.hpTryUp {s0 a1 s} (h : Keeps ⟨false, kn, false, kt, false, false, false, false, false, false, false, kz, false, kx, ke⟩ s0 s) : Keeps ⟨false, kn, false, kt, false, false, false, false, false, false, false, kz, false, kx, ke⟩ s0 (State.hpTryUp a1 s) := by
  unfold State.hpTryUp
  extract_lets -underBinder x1
  exact Keeps.ite h.noEq.hpFail (Keeps.ite (h.linkUp.when (fun _ h3 => h3.portSleeps)) h)

theorem Keeps.hpDeskewed {s0 a1 s} (h : Keeps ⟨km, kn, kp, kt, kj, false, kf, kd, kc, kl, ki, kz, kg, kx, ke⟩ s0 s) : Keeps ⟨km, kn, kp, kt, kj, false, kf, kd, kc, kl, ki, kz, kg, kx, ke⟩ s0 (State.hpDeskewed a1 s) := by
  unfold State.hpDeskewed
  exact Keeps.ite h.linkUp (Keeps.ite h.setPort.hpState h.setPort.hpState)

theorem Keeps.hpDataMode {s0 a1 s} (h : Keeps ⟨km, kn, kp, kt, kj, false, kf, kd, kc, false, ki, kz, kg, kx, ke⟩ s0 s) : Keeps ⟨km, kn, kp, kt, kj, false, kf, kd, kc, false, ki, kz, kg, kx, ke⟩ s0 (State.hpDataMode a1 s) := by
  unfold State.hpDataMode
  extract_lets -underBinder x1
  have h4 : Keeps h.kept s0 x1 := (h.when (fun _ h5 => h5.enterData)).setPort
  exact h4.each (fun _ _ h7 => h7.eyeStart)

theorem Keeps.hpRelock {s0 a1 s} (h : Keeps ⟨km, kn, kp, kt, kj, false, kf, kd, kc, kl, ki, kz, kg, kx, ke⟩ s0 s) : Keeps ⟨km, kn, kp, kt, kj, false, kf, kd, kc, kl, ki, kz, kg, kx, ke⟩ s0 (State.hpRelock a1 s) := by
  unfold State.hpRelock
  extract_lets -underBinder x1 x2
  have h3 : Keeps h.kept s0 x1 := h.put.put
  have h4 : Keeps h.kept s0 x2 := h3.setPort.lanesShow
  exact h4.lanesShow.hpState

theorem Keeps.hpSearch {s0 a1 a2 s} (h : Keeps ⟨false, kn, false, kt, false, false, false, false, false, false, false, kz, false, kx, ke⟩ s0 s) : Keeps ⟨false, kn, false, kt, false, false, false, false, false, false, false, kz, false, kx, ke⟩ s0 (State.hpSearch a1 a2 s) := by
  unfold State.hpSearch
  extract_lets -underBinder x1 x2
  have h3 : Keeps h.kept s0 x2 := h.laneSearch
  exact Keeps.ite h.laneDetect (Keeps.ite h3.hpState h3.hpFail)

theorem Keeps.hpStep {s0 a1 a2 s} (h : Keeps ⟨false, kn, false, kt, false, false, false, false, false, false, false, kz, false, kx, ke⟩ s0 s) : Keeps ⟨false, kn, false, kt, false, false, false, false, false, false, false, kz, false, kx, ke⟩ s0 (State.hpStep a1 a2 s) := by
  unfold State.hpStep
  extract_lets -underBinder x1 x2
  refine (Keeps.ite (h.when (fun _ h4 => h4.hpRelock)) ?_)
  split
  · exact h.when (fun _ h8 => h8.lanesShow.hpState)
  · exact h.when (fun _ h13 => (h13.lanesShow.each (fun _ _ h14 => h14.adapt)).hpState)
  · exact h.when (fun _ h19 => (h19.when (fun _ h20 => h20.put)).lanePolarity.hpState)
  · exact h.hpSearch
  · split
    · exact h
    · exact (h.when (fun _ h31 => h31.putB.laneIds)).hpState
  · exact Keeps.ite h.hpDeskewed h.hpFail
  · exact Keeps.ite (h.when (fun _ h38 => h38.hpDataMode)) (h.when (fun _ h39 => h39.hpTryUp))
  · exact h

theorem Keeps.execHpBringupStep {s0 a1 a2 s} (h : Keeps ⟨false, kn, false, kt, false, false, false, false, false, false, false, kz, false, kx, ke⟩ s0 s) : OutKeeps ⟨false, kn, false, kt, false, false, false, false, false, false, false, kz, false, kx, ke⟩ s0 (Machine.execHpBringupStep a1 a2 s) := by
  unfold Machine.execHpBringupStep
  exact .next (h.when (fun _ h2 => h2.hpStep))

theorem Keeps.execHpBringupTimeout {s0 a1 s} (h : Keeps ⟨false, kn, false, kt, false, false, false, false, false, false, false, kz, false, kx, ke⟩ s0 s) : OutKeeps ⟨false, kn, false, kt, false, false, false, false, false, false, false, kz, false, kx, ke⟩ s0 (Machine.execHpBringupTimeout a1 s) := by
  unfold Machine.execHpBringupTimeout
  extract_lets -underBinder x1
  refine .next ?_
  split
  · exact h
  · exact Keeps.ite h (h.when (fun _ h8 => h8.noEq)).hpFail

theorem Keeps.execHpRetryTimer {s0 a1 s} (h : Keeps ⟨false, kn, false, kt, false, false, false, false, false, false, false, kz, false, kx, ke⟩ s0 s) : OutKeeps ⟨false, kn, false, kt, false, false, false, false, false, false, false, kz, false, kx, ke⟩ s0 (Machine.execHpRetryTimer a1 s) := by
  unfold Machine.execHpRetryTimer
  refine .next ?_
  split
  · exact h
  · exact h.when (fun _ h7 => h7.hpRestart)

theorem Keeps.signalLoss {s0 a1 s} (h : Keeps ⟨false, kn, false, kt, false, false, false, false, false, false, false, kz, false, kx, ke⟩ s0 s) : Keeps ⟨false, kn, false, kt, false, false, false, false, false, false, false, kz, false, kx, ke⟩ s0 (State.signalLoss a1 s) := by
  unfold State.signalLoss
  extract_lets -underBinder x1 x2 x3 x4
  have h7 : Keeps h.kept s0 x1 := h.put.put
  exact Keeps.ite (Keeps.ite h (h7.when (fun _ h10 => h10.hpRestart))) (h7.when (fun _ h11 => h11.peerRestart))

theorem Keeps.execHpSignalLoss {s0 a1 s} (h : Keeps ⟨false, kn, false, kt, false, false, false, false, false, false, false, kz, false, kx, ke⟩ s0 s) : OutKeeps ⟨false, kn, false, kt, false, false, false, false, false, false, false, kz, false, kx, ke⟩ s0 (Machine.execHpSignalLoss a1 s) := by
  unfold Machine.execHpSignalLoss
  exact .next (h.when (fun _ h2 => h2.signalLoss))

theorem Keeps.lockLoss {s0 a1 a2 a3 s} (h : Keeps ⟨false, kn, false, kt, false, false, false, false, false, false, false, kz, false, kx, ke⟩ s0 s) : Keeps ⟨false, kn, false, kt, false, false, false, false, false, false, false, kz, false, kx, ke⟩ s0 (State.lockLoss a1 a2 a3 s) := by
  unfold State.lockLoss
  extract_lets -underBinder x1 x2 x3 x4 x5 x6 x7
  have h11 : Keeps h.kept s0 x1 := h.count.count
  have h12 : Keeps h.kept s0 x2 := h11.put
  have h14 : Keeps h.kept s0 x3 := h12.when (fun _ h15 => h15.put.count)
  have h16 : Keeps h.kept s0 x4 := h14.lockGone
  exact Keeps.ite (h16.count.when (fun _ h19 => h19.hpRestart)) (h16.when (fun _ h20 => h20.peerRestart))

theorem Keeps.execHpBlockLockLoss {s0 a1 a2 a3 s} (h : Keeps ⟨false, kn, false, kt, false, false, false, false, false, false, false, kz, false, kx, ke⟩ s0 s) : OutKeeps ⟨false, kn, false, kt, false, false, false, false, false, false, false, kz, false, kx, ke⟩ s0 (Machine.execHpBlockLockLoss a1 a2 a3 s) := by
  unfold Machine.execHpBlockLockLoss
  extract_lets -underBinder x1 x2 x3
  exact .next (Keeps.ite h (Keeps.ite h.lockLoss (h.count.when (fun _ h5 => h5.count))))

theorem Keeps.execHpSkip {s0 a1 s} (h : Keeps ⟨km, kn, kp, kt, kj, false, kf, kd, kc, false, ki, kz, kg, kx, ke⟩ s0 s) : OutKeeps ⟨km, kn, kp, kt, kj, false, kf, kd, kc, false, ki, kz, kg, kx, ke⟩ s0 (Machine.execHpSkip a1 s) := by
  unfold Machine.execHpSkip
  extract_lets -underBinder x1 x2
  exact .next (h.when (fun _ h4 => h4.fillTo))

theorem Keeps.execHpSkipReceive {s0 a1 a2 a3 s} (h : Keeps ⟨km, kn, kp, kt, kj, ko, kf, kd, kc, false, ki, kz, kg, kx, ke⟩ s0 s) : OutKeeps ⟨km, kn, kp, kt, kj, ko, kf, kd, kc, false, ki, kz, kg, kx, ke⟩ s0 (Machine.execHpSkipReceive a1 a2 a3 s) := by
  unfold Machine.execHpSkipReceive
  extract_lets -underBinder x1 x2 x3
  refine .next ?_
  have h6 : Keeps h.kept s0 x3 := h.setLane
  exact Keeps.ite h (Keeps.ite h6.skipLeave (h6.when (fun _ h9 => (h9.each (fun _ _ h10 => h10.skipLeave)))))

theorem Keeps.execHpBeacon {s0 a1 s} (h : Keeps ⟨km, kn, kp, kt, kj, false, kf, kd, kc, false, ki, kz, kg, kx, ke⟩ s0 s) : OutKeeps ⟨km, kn, kp, kt, kj, false, kf, kd, kc, false, ki, kz, kg, kx, ke⟩ s0 (Machine.execHpBeacon a1 s) := by
  unfold Machine.execHpBeacon
  extract_lets -underBinder x1
  exact .next (h.when (fun _ h3 => h3.fillTo))

theorem Keeps.ttReq {s0 a1 s} (h : Keeps ⟨km, kn, kp, kt, kj, false, kf, kd, kc, false, ki, kz, kg, kx, ke⟩ s0 s) : Keeps ⟨km, kn, kp, kt, kj, false, kf, kd, kc, false, ki, kz, kg, kx, ke⟩ s0 (State.ttReq a1 s) := by
  unfold State.ttReq
  extract_lets -underBinder x1
  exact h.setPort.sendNow

theorem Keeps.execHpTtReq {s0 a1 s} (h : Keeps ⟨km, kn, kp, kt, kj, false, kf, kd, kc, false, ki, kz, kg, kx, ke⟩ s0 s) : OutKeeps ⟨km, kn, kp, kt, kj, false, kf, kd, kc, false, ki, kz, kg, kx, ke⟩ s0 (Machine.execHpTtReq a1 s) := by
  unfold Machine.execHpTtReq
  extract_lets -underBinder x1
  exact .next (h.when (fun _ h3 => h3.ttReq))

theorem Keeps.execHpTtRsp {s0 a1 a2 s} (h : Keeps ⟨km, kn, kp, kt, kj, false, kf, kd, kc, kl, ki, kz, kg, kx, ke⟩ s0 s) : OutKeeps ⟨km, kn, kp, kt, kj, false, kf, kd, kc, kl, ki, kz, kg, kx, ke⟩ s0 (Machine.execHpTtRsp a1 a2 s) := by
  unfold Machine.execHpTtRsp
  exact .next h.setPort

theorem Keeps.timeUnlock {s0 a1 s} (h : Keeps ⟨false, kn, false, kt, false, false, false, false, false, false, false, kz, false, kx, ke⟩ s0 s) : Keeps ⟨false, kn, false, kt, false, false, false, false, false, false, false, kz, false, kx, ke⟩ s0 (State.timeUnlock a1 s) := by
  unfold State.timeUnlock
  extract_lets -underBinder x1 x2
  have h4 : Keeps h.kept s0 x1 := h.when (fun _ h5 => h5.portDown.hpState)
  have h6 : Keeps h.kept s0 x2 := h4.setPort
  exact h6.put.post

theorem Keeps.headLocked {s0 a1 a2 s} (h : Keeps ⟨false, kn, false, kt, false, false, false, false, false, false, false, kz, false, kx, ke⟩ s0 s) : Keeps ⟨false, kn, false, kt, false, false, false, false, false, false, false, kz, false, kx, ke⟩ s0 (State.headLocked a1 a2 s) := by
  unfold State.headLocked
  extract_lets -underBinder x1
  have h3 : Keeps h.kept s0 x1 := h.putB.setPort
  exact h3.when (fun _ h5 => h5.timeUnlock)

theorem Keeps.voidExchange {s0 a1 a2 s} (h : Keeps ⟨false, kn, false, kt, false, false, false, false, false, false, false, kz, false, kx, ke⟩ s0 s) : Keeps ⟨false, kn, false, kt, false, false, false, false, false, false, false, kz, false, kx, ke⟩ s0 (State.voidExchange a1 a2 s) := by
  unfold State.voidExchange
  extract_lets -underBinder x1
  have h3 : Keeps h.kept s0 x1 := h.setPort
  exact h3.when (fun _ h5 => h5.timeUnlock)

theorem Keeps.takeTime {s0 a1 a2 a3 a4 s} (h : Keeps ⟨false, kn, false, kt, false, false, false, false, false, false, false, kz, false, kx, ke⟩ s0 s) : Keeps ⟨false, kn, false, kt, false, false, false, false, false, false, false, kz, false, kx, ke⟩ s0 (State.takeTime a1 a2 a3 a4 s) := by
  unfold State.takeTime
  extract_lets -underBinder x1 x2 x3 x4 x5 x6 x7 x8
  have h9 : Keeps h.kept s0 x7 := h.setPort
  have h10 : Keeps h.kept s0 x8 := h9.putI.putI
  exact Keeps.ite h.voidExchange h10.timebase

theorem Keeps.execHpTime {s0 a1 a2 s} (h : Keeps ⟨false, kn, false, kt, false, false, false, false, false, false, false, kz, false, kx, ke⟩ s0 s) : OutKeeps ⟨false, kn, false, kt, false, false, false, false, false, false, false, kz, false, kx, ke⟩ s0 (Machine.execHpTime a1 a2 s) := by
  unfold Machine.execHpTime
  extract_lets -underBinder x1 x2
  refine .next ?_
  have h3 : Keeps h.kept s0 x2 := by
    unfold x2
    have h4 : Keeps h.kept s0 x1 := h.putSat
    split
    · split
      · exact h4.takeTime
      · exact h4
    · exact h4
  exact Keeps.ite h h3.headLocked

theorem Keeps.execHpTimeStatusTimeout {s0 a1 a2 s} (h : Keeps ⟨false, kn, false, kt, false, false, false, false, false, false, false, kz, false, kx, ke⟩ s0 s) : OutKeeps ⟨false, kn, false, kt, false, false, false, false, false, false, false, kz, false, kx, ke⟩ s0 (Machine.execHpTimeStatusTimeout a1 a2 s) := by
  unfold Machine.execHpTimeStatusTimeout
  refine .next ?_
  split
  · exact h
  · exact h.when (fun _ h7 => h7.voidExchange)

theorem Keeps.showIdent {s0 a1 a2 s} (h : Keeps ⟨km, kn, kp, kt, kj, ko, kf, kd, kc, kl, ki, kz, kg, kx, ke⟩ s0 s) : Keeps ⟨km, kn, kp, kt, kj, ko, kf, kd, kc, kl, ki, kz, kg, kx, ke⟩ s0 (State.showIdent a1 a2 s) := by
  unfold State.showIdent
  extract_lets -underBinder x1 x2 x3
  have h5 : Keeps h.kept s0 x1 := h.put.put.put64
  have h6 : Keeps h.kept s0 x2 := h5.put.put.put
  have h7 : Keeps h.kept s0 x3 := h6.put.put.put
  exact h7.each (fun _ _ h9 => h9.put)

theorem Keeps.takeIdent {s0 a1 a2 s} (h : Keeps ⟨km, kn, kp, kt, kj, false, kf, false, kc, false, ki, kz, kg, kx, ke⟩ s0 s) : Keeps ⟨km, kn, kp, kt, kj, false, kf, false, kc, false, ki, kz, kg, kx, ke⟩ s0 (State.takeIdent a1 a2 s) := by
  unfold State.takeIdent
  extract_lets -underBinder x1 x2 x3 x4 x5 x6
  have h9 : Keeps h.kept s0 x3 := h.showIdent.setPort
  have h10 : Keeps h.kept s0 x1 := h
  have h12 : Keeps h.kept s0 x4 := h9.when (fun _ h13 => (h10.recountPort h13))
  have h15 : Keeps h.kept s0 x6 := h12.when (fun _ h16 => h16.put.setPort.post)
  exact h15.refreshFab.refreshCeil

theorem Keeps.execHpIdent {s0 a1 a2 s} (h : Keeps ⟨false, kn, false, kt, false, false, false, false, false, false, false, kz, false, kx, ke⟩ s0 s) : OutKeeps ⟨false, kn, false, kt, false, false, false, false, false, false, false, kz, false, kx, ke⟩ s0 (Machine.execHpIdent a1 a2 s) := by
  unfold Machine.execHpIdent
  extract_lets -underBinder x1
  refine .next ?_
  have h2 : Keeps h.kept s0 x1 := h.put.post
  exact Keeps.ite h (Keeps.ite h.takeIdent h2.hpFail)

theorem Keeps.tapAcked {s0 a1 a2 a3 s} (h : Keeps ⟨km, kn, kp, kt, kj, false, kf, kd, kc, kl, ki, kz, kg, kx, ke⟩ s0 s) : Keeps ⟨km, kn, kp, kt, kj, false, kf, kd, kc, kl, ki, kz, kg, kx, ke⟩ s0 (State.tapAcked a1 a2 a3 s) := by
  unfold State.tapAcked
  exact h.setPort

theorem Keeps.execHpAck {s0 a1 a2 a3 a4 s} (h : Keeps ⟨km, kn, kp, kt, kj, false, kf, kd, kc, kl, ki, kz, kg, kx, ke⟩ s0 s) : OutKeeps ⟨km, kn, kp, kt, kj, false, kf, kd, kc, kl, ki, kz, kg, kx, ke⟩ s0 (Machine.execHpAck a1 a2 a3 a4 s) := by
  unfold Machine.execHpAck
  refine .next ?_
  split
  · exact h
  · extract_lets -underBinder x6
    have h8 : Keeps h.kept s0 x6 := h.setPort
    exact Keeps.ite h8.put.post (h8.when (fun _ h10 => h10.tapAcked))

theorem Keeps.execHpFault {s0 a1 a2 a3 a4 s} (h : Keeps ⟨km, kn, kp, kt, kj, false, kf, kd, kc, kl, ki, kz, kg, kx, ke⟩ s0 s) : OutKeeps ⟨km, kn, kp, kt, kj, false, kf, kd, kc, kl, ki, kz, kg, kx, ke⟩ s0 (Machine.execHpFault a1 a2 a3 a4 s) := by
  unfold Machine.execHpFault
  extract_lets -underBinder x1
  refine .next ?_
  have h3 : Keeps h.kept s0 x1 := h.put
  exact h3.when (fun _ h5 => h5.put.setPort.post)

theorem Keeps.execHpUplinkDiscard {s0 a1 a2 s} (h : Keeps ⟨km, kn, kp, kt, kj, false, kf, kd, kc, false, ki, kz, kg, kx, false⟩ s0 s) : OutKeeps ⟨km, kn, kp, kt, kj, false, kf, kd, kc, false, ki, kz, kg, kx, false⟩ s0 (Machine.execHpUplinkDiscard a1 a2 s) := by
  unfold Machine.execHpUplinkDiscard
  refine .next ?_
  refine (Keeps.ite h ?_)
  split
  · exact h.packetErrors.count
  · extract_lets -underBinder x5 x6
    have h8 : Keeps h.kept s0 x6 := h.count.setPort
    exact h8.when (fun _ h10 => h10.crcBurst)
  · exact h

theorem Keeps.execHpHealthTimeout {s0 a1 s} (h : Keeps ⟨false, kn, false, kt, false, false, false, false, false, false, false, kz, false, kx, ke⟩ s0 s) : OutKeeps ⟨false, kn, false, kt, false, false, false, false, false, false, false, kz, false, kx, ke⟩ s0 (Machine.execHpHealthTimeout a1 s) := by
  unfold Machine.execHpHealthTimeout
  extract_lets -underBinder x1
  exact .next (h.when (fun _ h3 => h3.hpRestart))

theorem Keeps.execHpAckTimeout {s0 a1 a2 s} (h : Keeps ⟨false, kn, false, kt, false, false, false, false, false, false, false, kz, false, kx, ke⟩ s0 s) : OutKeeps ⟨false, kn, false, kt, false, false, false, false, false, false, false, kz, false, kx, ke⟩ s0 (Machine.execHpAckTimeout a1 a2 s) := by
  unfold Machine.execHpAckTimeout
  refine .next ?_
  split
  · exact h
  · extract_lets -underBinder x6
    have h7 : Keeps h.kept s0 x6 := h.put.post
    exact Keeps.ite h (Keeps.ite h.setPort h7.hpRestart)

theorem Keeps.execHpSensePacket {s0 a1 a2 s} (h : Keeps ⟨false, kn, kp, kt, false, false, kf, false, false, kl, ki, kz, false, kx, ke⟩ s0 s) : OutKeeps ⟨false, kn, kp, kt, false, false, kf, false, false, kl, ki, kz, false, kx, ke⟩ s0 (Machine.execHpSensePacket a1 a2 s) := by
  unfold Machine.execHpSensePacket
  extract_lets -underBinder x1
  refine .next ?_
  refine (Keeps.ite h ?_)
  split
  · exact h
  · extract_lets -underBinder x7
    have h9 : Keeps h.kept s0 x7 := h.count.setPort
    exact (h9.each (fun _ _ h11 => h11.sense)).calWatch

theorem Keeps.foldTaps {s0 a1 a2 s} (h : Keeps ⟨km, kn, kp, kt, kj, false, kf, kd, kc, kl, ki, kz, kg, kx, ke⟩ s0 s) : Keeps ⟨km, kn, kp, kt, kj, false, kf, kd, kc, kl, ki, kz, kg, kx, ke⟩ s0 (State.foldTaps a1 a2 s) := by
  unfold State.foldTaps
  extract_lets -underBinder x1 x2
  exact h.setPort

theorem Keeps.execHpTapLoad {s0 a1 a2 s} (h : Keeps ⟨km, kn, kp, kt, kj, false, kf, kd, kc, kl, ki, kz, kg, kx, ke⟩ s0 s) : OutKeeps ⟨km, kn, kp, kt, kj, false, kf, kd, kc, kl, ki, kz, kg, kx, ke⟩ s0 (Machine.execHpTapLoad a1 a2 s) := by
  unfold Machine.execHpTapLoad
  extract_lets -underBinder x1
  refine .next ?_
  have h2 : Keeps h.kept s0 x1 := h.foldTaps
  split
  · exact h2
  · extract_lets -underBinder x8 x9
    have h10 : Keeps h.kept s0 x9 := h2.setPort
    exact Keeps.ite h2 h10.tapLoad

theorem Keeps.execHpHeadMode {s0 a1 a2 a3 s} (h : Keeps ⟨km, kn, kp, kt, kj, false, kf, kd, kc, kl, ki, kz, kg, kx, false⟩ s0 s) : OutKeeps ⟨km, kn, kp, kt, kj, false, kf, kd, kc, kl, ki, kz, kg, kx, false⟩ s0 (Machine.execHpHeadMode a1 a2 a3 s) := by
  unfold Machine.execHpHeadMode
  exact .next (h.ownerWrite (fun _ h2 => (Keeps.ite h2.put h2.writeFields.headMode)))

theorem Keeps.execHpTwiEnter {s0 a1 s} (h : Keeps ⟨km, kn, kp, kt, kj, false, kf, kd, kc, kl, ki, kz, kg, kx, ke⟩ s0 s) : OutKeeps ⟨km, kn, kp, kt, kj, false, kf, kd, kc, kl, ki, kz, kg, kx, ke⟩ s0 (Machine.execHpTwiEnter a1 s) := by
  unfold Machine.execHpTwiEnter
  extract_lets -underBinder x1 x2
  refine .next ?_
  have h4 : Keeps h.kept s0 x2 := h.put.setPort
  exact Keeps.ite h (h4.when (fun _ h6 => h6.put.lanesShow.hpState))

theorem Keeps.portWakes {s0 a1 s} (h : Keeps ⟨km, kn, kp, kt, kj, false, kf, kd, kc, false, ki, kz, kg, kx, ke⟩ s0 s) : Keeps ⟨km, kn, kp, kt, kj, false, kf, kd, kc, false, ki, kz, kg, kx, ke⟩ s0 (State.portWakes a1 s) := by
  unfold State.portWakes
  extract_lets -underBinder x1
  have h4 : Keeps h.kept s0 x1 := h.when (fun _ h5 => h5.txWake)
  exact h4.when (fun _ h7 => h7.headTwi)

theorem Keeps.recordIdents {s0 s} (h : Keeps ⟨km, kn, kp, kt, kj, false, kf, kd, kc, kl, ki, kz, kg, kx, ke⟩ s0 s) : Keeps ⟨km, kn, kp, kt, kj, false, kf, kd, kc, kl, ki, kz, kg, kx, ke⟩ s0 (State.recordIdents s) := by
  unfold State.recordIdents
  exact h.each (fun _ _ h2 => h2.setPort)

theorem Keeps.enterDomains {s0 a1 s} (h : Keeps ⟨km, kn, false, kt, false, false, kf, false, false, false, false, false, false, kx, false⟩ s0 s) : Keeps ⟨km, kn, false, kt, false, false, kf, false, false, false, false, false, false, kx, false⟩ s0 (State.enterDomains a1 s) := by
  unfold State.enterDomains
  extract_lets -underBinder x1 x2
  have h3 : Keeps h.kept s0 x1 := h.setDomains
  exact Keeps.ite h3.chPwr h.setDomains

theorem Keeps.enterMode {s0 a1 s} (h : Keeps ⟨false, kn, false, kt, false, false, kf, false, false, false, false, false, false, kx, false⟩ s0 s) : Keeps ⟨false, kn, false, kt, false, false, kf, false, false, false, false, false, false, kx, false⟩ s0 (State.enterMode a1 s) := by
  unfold State.enterMode
  extract_lets -underBinder x1 x2 x3 x4 x5 x6 x7 x8 x9 x10
  have h17 : Keeps h.kept s0 x2 := h.domDone.put
  have h18 : Keeps h.kept s0 x3 := h17.setMode.pmcAdd
  have h21 : Keeps h.kept s0 x4 := h18.when (fun _ h22 => (h22.each (fun _ _ h23 => h23.headMode)))
  have h25 : Keeps h.kept s0 x5 := h21.when (fun _ h26 => h26.recordIdents)
  have h27 : Keeps h.kept s0 x6 := h25.enterDomains
  have h28 : Keeps h.kept s0 x7 := h27.setJobs
  have h29 : Keeps h.kept s0 x8 := h28.chPorts
  exact Keeps.ite (h25.each (fun _ _ h33 => h33.portSleeps)).enterDomains (Keeps.ite (h29.each (fun _ _ h34 => h34.portWakes)) (Keeps.ite h25.chPwr (Keeps.ite (h25.each (fun _ _ h35 => h35.headMode)) h25)))

theorem Keeps.modeDesc {s0 s a2 a3 a4} (h : Keeps ⟨km, kn, kp, kt, kj, ko, kf, kd, kc, kl, ki, kz, kg, kx, ke⟩ s0 s) : Keeps ⟨km, kn, kp, kt, kj, ko, kf, kd, kc, kl, ki, kz, kg, kx, ke⟩ s0 (State.modeDesc s a2 a3 a4) := by
  unfold State.modeDesc
  split
  · exact h.complete
  · exact h

theorem Keeps.modeRefuse {s0 s a2 a3} (h : Keeps ⟨km, kn, kp, kt, kj, ko, kf, kd, kc, kl, ki, kz, kg, kx, ke⟩ s0 s) : Keeps ⟨km, kn, kp, kt, kj, ko, kf, kd, kc, kl, ki, kz, kg, kx, ke⟩ s0 (State.modeRefuse s a2 a3) := by
  unfold State.modeRefuse
  exact h.put.post.modeDesc

theorem Keeps.requestStop {s0 s a2} (h : Keeps ⟨false, kn, false, kt, false, false, false, false, false, false, false, kz, false, kx, ke⟩ s0 s) : Keeps ⟨false, kn, false, kt, false, false, false, false, false, false, false, kz, false, kx, ke⟩ s0 (State.requestStop s a2) := by
  unfold State.requestStop
  extract_lets -underBinder x1
  have h2 : Keeps h.kept s0 x1 := h.safeStop
  exact Keeps.ite h2.put.modeDesc h2.modeDesc

theorem Keeps.modeRequest {s0 s a2 a3} (h : Keeps ⟨false, kn, false, kt, false, false, false, false, false, false, false, false, false, kx, false⟩ s0 s) : Keeps ⟨false, kn, false, kt, false, false, false, false, false, false, false, false, false, kx, false⟩ s0 (State.modeRequest s a2 a3) := by
  unfold State.modeRequest
  refine (Keeps.ite h.requestStop (Keeps.ite h.modeRefuse ?_))
  split
  · exact h.modeRefuse.post
  · extract_lets -underBinder x6 x7 x8
    have h9 : Keeps h.kept s0 x6 := h.cancelMode
    have h10 : Keeps h.kept s0 x7 := h9.put
    exact Keeps.ite h9.enterMode.modeDesc h10.chPwr

theorem Keeps.modePending {s0 s} (h : Keeps ⟨false, kn, false, kt, false, false, kf, false, false, false, false, false, false, kx, false⟩ s0 s) : Keeps ⟨false, kn, false, kt, false, false, kf, false, false, false, false, false, false, kx, false⟩ s0 (State.modePending s) := by
  unfold State.modePending
  split
  · exact h
  · extract_lets -underBinder x6
    exact Keeps.ite h.chPwr.enterMode.modeDesc h

theorem Keeps.derate {s0 s} (h : Keeps ⟨false, kn, false, kt, false, false, kf, false, false, false, ki, kz, false, kx, ke⟩ s0 s) : Keeps ⟨false, kn, false, kt, false, false, kf, false, false, false, ki, kz, false, kx, ke⟩ s0 (State.derate s) := by
  unfold State.derate
  split
  · extract_lets -underBinder x4 x5
    have h6 : Keeps h.kept s0 x5 := h.chPwr
    exact Keeps.ite h6.autoMode h6
  · exact Keeps.ite h.autoMode h

theorem Keeps.setPwr {s0 s a2} (h : Keeps ⟨km, kn, false, kt, kj, ko, kf, kd, kc, kl, ki, kz, kg, kx, ke⟩ s0 s) : Keeps ⟨km, kn, false, kt, kj, ko, kf, kd, kc, kl, ki, kz, kg, kx, ke⟩ s0 (State.setPwr s a2) := by
  unfold State.setPwr
  exact h.chPwr

theorem Keeps.pmbus {s0 s a2 a3} (h : Keeps ⟨km, kn, kp, kt, kj, ko, kf, kd, kc, kl, ki, kz, kg, kx, ke⟩ s0 s) : Keeps ⟨km, kn, kp, kt, kj, ko, kf, kd, kc, kl, ki, kz, kg, kx, ke⟩ s0 (State.pmbus s a2 a3) := by
  unfold State.pmbus
  exact h.send

theorem Keeps.voutRead {s0 s} (h : Keeps ⟨km, kn, false, kt, kj, ko, kf, kd, kc, kl, ki, kz, kg, kx, ke⟩ s0 s) : Keeps ⟨km, kn, false, kt, kj, ko, kf, kd, kc, kl, ki, kz, kg, kx, ke⟩ s0 (State.voutRead s) := by
  unfold State.voutRead
  exact h.when (fun _ h2 => h2.drawn.setPwr.pmbus)

theorem Keeps.voutCommand {s0 s a2} (h : Keeps ⟨km, kn, kp, kt, kj, ko, kf, kd, kc, kl, ki, kz, kg, kx, ke⟩ s0 s) : Keeps ⟨km, kn, kp, kt, kj, ko, kf, kd, kc, kl, ki, kz, kg, kx, ke⟩ s0 (State.voutCommand s a2) := by
  unfold State.voutCommand
  exact h.pmbus.put

theorem Keeps.setClock {s0 s a2} (h : Keeps ⟨km, kn, kp, kt, kj, ko, kf, false, kc, false, ki, kz, kg, kx, ke⟩ s0 s) : Keeps ⟨km, kn, kp, kt, kj, ko, kf, false, kc, false, ki, kz, kg, kx, ke⟩ s0 (State.setClock s a2) := by
  unfold State.setClock
  exact h.put.refreshFab.refreshCeil

theorem Keeps.clockFollows {s0 s a2} (h : Keeps ⟨km, kn, false, kt, kj, ko, kf, false, kc, false, ki, kz, kg, kx, ke⟩ s0 s) : Keeps ⟨km, kn, false, kt, kj, ko, kf, false, kc, false, ki, kz, kg, kx, ke⟩ s0 (State.clockFollows s a2) := by
  unfold State.clockFollows
  extract_lets -underBinder x1
  exact Keeps.ite h.setClock.voutCommand.put.setPwr h.voutCommand.put.setPwr

theorem Keeps.showSurge {s0 s} (h : Keeps ⟨km, kn, kp, kt, kj, ko, kf, kd, kc, kl, ki, kz, kg, kx, ke⟩ s0 s) : Keeps ⟨km, kn, kp, kt, kj, ko, kf, kd, kc, kl, ki, kz, kg, kx, ke⟩ s0 (State.showSurge s) := by
  unfold State.showSurge
  exact h.put

theorem Keeps.surgeFollows {s0 s a2} (h : Keeps ⟨km, kn, false, kt, kj, ko, kf, kd, kc, kl, ki, kz, kg, kx, ke⟩ s0 s) : Keeps ⟨km, kn, false, kt, kj, ko, kf, kd, kc, kl, ki, kz, kg, kx, ke⟩ s0 (State.surgeFollows s a2) := by
  unfold State.surgeFollows
  split
  · exact Keeps.ite h h.setPwr.showSurge
  · exact Keeps.ite h.setPwr h

theorem Keeps.relevel {s0 s} (h : Keeps ⟨km, kn, false, kt, kj, ko, kf, false, kc, false, ki, kz, kg, kx, ke⟩ s0 s) : Keeps ⟨km, kn, false, kt, kj, ko, kf, false, kc, false, ki, kz, kg, kx, ke⟩ s0 (State.relevel s) := by
  unfold State.relevel
  extract_lets -underBinder x1 x2 x3 x4
  have h5 : Keeps h.kept s0 x3 := h.put
  have h6 : Keeps h.kept s0 x4 := h5.put.surgeFollows.clockFollows
  exact Keeps.ite h (Keeps.ite h5 h6.post)

theorem Keeps.setThermLevel {s0 s a2 a3} (h : Keeps ⟨km, kn, kp, kt, kj, ko, kf, kd, kc, kl, ki, kz, kg, kx, ke⟩ s0 s) : Keeps ⟨km, kn, kp, kt, kj, ko, kf, kd, kc, kl, ki, kz, kg, kx, ke⟩ s0 (State.setThermLevel s a2 a3) := by
  unfold State.setThermLevel
  extract_lets -underBinder x1 x2 x3 x4 x5 x6 x7
  have h12 : Keeps h.kept s0 x4 := h.put64
  have h14 : Keeps h.kept s0 x5 := h12.when (fun _ h15 => h15.put.pmcAdd.post)
  have h17 : Keeps h.kept s0 x6 := h14.when (fun _ h18 => h18.put.pmcAdd.post)
  have h20 : Keeps h.kept s0 x7 := h17.when (fun _ h21 => h21.post)
  exact h20.when (fun _ h23 => h23.post)

theorem Keeps.thermFollows {s0 s} (h : Keeps ⟨km, kn, false, kt, kj, ko, kf, kd, kc, kl, ki, kz, kg, kx, ke⟩ s0 s) : Keeps ⟨km, kn, false, kt, kj, ko, kf, kd, kc, kl, ki, kz, kg, kx, ke⟩ s0 (State.thermFollows s) := by
  unfold State.thermFollows
  extract_lets -underBinder x1
  exact Keeps.ite h.put.setPwr h.setPwr

theorem Keeps.sensorBreaks {s0 a1 a2 s} (h : Keeps ⟨km, kn, kp, kt, kj, ko, kf, kd, kc, kl, ki, kz, kg, kx, false⟩ s0 s) : Keeps ⟨km, kn, kp, kt, kj, ko, kf, kd, kc, kl, ki, kz, kg, kx, false⟩ s0 (State.sensorBreaks a1 a2 s) := by
  unfold State.sensorBreaks
  extract_lets -underBinder x1 x2
  have h3 : Keeps h.kept s0 x1 := h.put.put
  have h4 : Keeps h.kept s0 x2 := h3.put
  exact Keeps.ite h h4.errRecord.post

theorem Keeps.thermal {s0 s} (h : Keeps ⟨km, kn, false, kt, kj, ko, kf, false, kc, false, ki, kz, kg, kx, ke⟩ s0 s) : Keeps ⟨km, kn, false, kt, kj, ko, kf, false, kc, false, ki, kz, kg, kx, ke⟩ s0 (State.thermal s) := by
  unfold State.thermal
  extract_lets -underBinder x1 x2 x3 x4 x5
  have h7 : Keeps h.kept s0 x2 := h.setPwr
  have h9 : Keeps h.kept s0 x3 := h7.each (fun _ _ h10 => h10.setThermLevel)
  have h11 : Keeps h.kept s0 x5 := h9.putB.putB.put
  exact h11.thermFollows.relevel

theorem Keeps.shutdown {s0 s a2} (h : Keeps ⟨false, kn, false, kt, false, false, kf, false, false, false, false, false, false, kx, false⟩ s0 s) : Keeps ⟨false, kn, false, kt, false, false, kf, false, false, false, false, false, false, kx, false⟩ s0 (State.shutdown s a2) := by
  unfold State.shutdown
  extract_lets -underBinder x1 x2 x3 x4 x5 x6
  have h8 : Keeps h.kept s0 x1 := h.cancelMode
  have h10 : Keeps h.kept s0 x2 := h8.endChains.each (fun _ _ h11 => h11.flushPort)
  have h12 : Keeps h.kept s0 x3 := h10.send
  have h13 : Keeps h.kept s0 x4 := h12.put.put
  have h14 : Keeps h.kept s0 x5 := h13.post
  have h15 : Keeps h.kept s0 x6 := h14.autoMode
  exact h15.setPwr.setDomains

theorem Keeps.execModeRequest {s0 a1 a2 s} (h : Keeps ⟨false, kn, false, kt, false, false, false, false, false, false, false, false, false, kx, false⟩ s0 s) : OutKeeps ⟨false, kn, false, kt, false, false, false, false, false, false, false, false, false, kx, false⟩ s0 (Machine.execModeRequest a1 a2 s) := by
  unfold Machine.execModeRequest
  exact .next (h.ownerWrite (fun _ h3 => (h3.when (fun _ h4 => h4.modeRequest))))

theorem Keeps.execModePendingComplete {s0 s} (h : Keeps ⟨false, kn, false, kt, false, false, kf, false, false, false, false, false, false, kx, false⟩ s0 s) : OutKeeps ⟨false, kn, false, kt, false, false, kf, false, false, false, false, false, false, kx, false⟩ s0 (Machine.execModePendingComplete s) := by
  unfold Machine.execModePendingComplete
  exact .next h.modePending

theorem Keeps.execDerateChange {s0 s} (h : Keeps ⟨false, kn, false, kt, false, false, kf, false, false, false, ki, kz, false, kx, ke⟩ s0 s) : OutKeeps ⟨false, kn, false, kt, false, false, kf, false, false, false, ki, kz, false, kx, ke⟩ s0 (Machine.execDerateChange s) := by
  unfold Machine.execDerateChange
  exact .next (h.when (fun _ h2 => h2.derate))

theorem Keeps.execMode {s0 a1 s} (h : Keeps ⟨false, kn, false, kt, false, false, false, false, false, false, false, false, false, kx, false⟩ s0 s) : OutKeeps ⟨false, kn, false, kt, false, false, false, false, false, false, false, false, false, kx, false⟩ s0 (Machine.execMode a1 s) := by
  unfold Machine.execMode
  refine .next ?_
  split
  · exact h
  · extract_lets -underBinder x6
    have h7 : Keeps h.kept s0 x6 := h.markStarted
    exact Keeps.ite h (Keeps.ite h7.complete (Keeps.ite h7.modeRefuse h7.modeRequest))

theorem Keeps.spitBegin {s0 s a2 a3} (h : Keeps ⟨km, kn, false, kt, kj, false, kf, kd, kc, kl, ki, kz, kg, kx, ke⟩ s0 s) : Keeps ⟨km, kn, false, kt, kj, false, kf, kd, kc, kl, ki, kz, kg, kx, ke⟩ s0 (State.spitBegin s a2 a3) := by
  unfold State.spitBegin
  extract_lets -underBinder x1 x2 x3 x4 x5
  have h6 : Keeps h.kept s0 x1 := h.markStarted
  have h8 : Keeps h.kept s0 x5 := h6.each (fun _ _ h9 => h9.setPort)
  exact Keeps.ite h6.complete (Keeps.ite h6.drawn.complete h8.setPwr)

theorem Keeps.spitRow {s0 s a2 a3 a4} (h : Keeps ⟨km, kn, kp, kt, kj, false, kf, kd, kc, false, ki, kz, kg, kx, ke⟩ s0 s) : Keeps ⟨km, kn, kp, kt, kj, false, kf, kd, kc, false, ki, kz, kg, kx, ke⟩ s0 (State.spitRow s a2 a3 a4).1 := by
  unfold State.spitRow
  extract_lets -underBinder x1 x2 x3 x4 x5 x6
  have h7 : Keeps h.kept s0 x6 := h.sendBlocks.setPort
  split
  · dsimp only
    exact h7.count.pmcAdd
  · dsimp only
    exact h

theorem Keeps.spitTurn {s0 x go s} (h : Keeps ⟨km, kn, false, kt, kj, false, kf, kd, kc, false, ki, kz, kg, kx, ke⟩ s0 s) : Keeps ⟨km, kn, false, kt, kj, false, kf, kd, kc, false, ki, kz, kg, kx, ke⟩ s0 (State.spitTurn x go s) := by
  unfold State.spitTurn
  extract_lets a x' past rest s1
  have ha : Keeps h.kept s0 a.1 := by
    unfold a
    exact Keeps.foldlVia (π := fun (a : State × List (Nat × Nat × Nat) × Nat) => a.1) (fun _ _ h => h.spitRow) (b := (s, [], 0)) h
  exact ha.setPwr.when fun _ h => h.complete

theorem Keeps.execSpit {s0 a1 a2 s} (h : Keeps ⟨km, kn, false, kt, kj, false, kf, kd, kc, false, ki, kz, kg, kx, ke⟩ s0 s) : OutKeeps ⟨km, kn, false, kt, kj, false, kf, kd, kc, false, ki, kz, kg, kx, ke⟩ s0 (Machine.execSpit a1 a2 s) := by
  unfold Machine.execSpit
  extract_lets -underBinder x1
  refine .next ?_
  have h3 : Keeps h.kept s0 x1 := by
    unfold x1
    split
    · exact h
    · exact Keeps.ite h h.spitBegin
  exact h3.each (fun _ _ h10 => h10.spitTurn)

theorem Keeps.execPwrDomReq {s0 a1 a2 s} (h : Keeps ⟨km, kn, false, kt, kj, ko, kf, kd, kc, kl, ki, kz, kg, kx, false⟩ s0 s) : OutKeeps ⟨km, kn, false, kt, kj, ko, kf, kd, kc, kl, ki, kz, kg, kx, false⟩ s0 (Machine.execPwrDomReq a1 a2 s) := by
  unfold Machine.execPwrDomReq
  exact .next (h.ownerWrite (fun _ h2 => h2.domRequest))

theorem Keeps.execDomainSwitchDone {s0 s} (h : Keeps ⟨km, kn, false, kt, false, false, kf, false, false, false, false, false, false, kx, false⟩ s0 s) : OutKeeps ⟨km, kn, false, kt, false, false, kf, false, false, false, false, false, false, kx, false⟩ s0 (Machine.execDomainSwitchDone s) := by
  unfold Machine.execDomainSwitchDone
  exact .next h.domDone

theorem Keeps.readSensors {s0 s a2} (h : Keeps ⟨km, kn, false, kt, kj, ko, kf, kd, kc, kl, ki, kz, kg, kx, ke⟩ s0 s) : Keeps ⟨km, kn, false, kt, kj, ko, kf, kd, kc, kl, ki, kz, kg, kx, ke⟩ s0 (State.readSensors s a2) := by
  unfold State.readSensors
  extract_lets -underBinder x1 x2
  have h4 : Keeps h.kept s0 x2 := h.setPwr
  exact h4.each (fun _ _ h6 => h6.putSat)

theorem Keeps.execThermalSample {s0 a1 s} (h : Keeps ⟨false, kn, false, kt, false, false, kf, false, false, false, false, false, false, kx, false⟩ s0 s) : OutKeeps ⟨false, kn, false, kt, false, false, kf, false, false, false, false, false, false, kx, false⟩ s0 (Machine.execThermalSample a1 s) := by
  unfold Machine.execThermalSample
  extract_lets -underBinder x1 x2 x3 x4 x5
  refine .next ?_
  have h8 : Keeps h.kept s0 x2 := h.readSensors
  have h10 : Keeps h.kept s0 x3 := h8.each (fun _ _ h11 => h11.sensorBreaks)
  have h12 : Keeps h.kept s0 x4 := h10.thermal
  exact Keeps.ite h.setPwr (Keeps.ite h.readSensors (h12.when (fun _ h14 => h14.shutdown)))

theorem Keeps.execSensorTestStep {s0 a1 a2 s} (h : Keeps ⟨false, kn, false, kt, false, false, kf, false, false, false, false, false, false, kx, false⟩ s0 s) : OutKeeps ⟨false, kn, false, kt, false, false, kf, false, false, false, false, false, false, kx, false⟩ s0 (Machine.execSensorTestStep a1 a2 s) := by
  unfold Machine.execSensorTestStep
  extract_lets -underBinder x1 x2
  refine .next ?_
  have h4 : Keeps h.kept s0 x1 := h.sensorBreaks.thermal
  exact Keeps.ite h (h4.when (fun _ h6 => h6.shutdown))

theorem Keeps.execThermalLevelFall {s0 s} (h : Keeps ⟨km, kn, false, kt, kj, ko, kf, false, kc, false, ki, kz, kg, kx, ke⟩ s0 s) : OutKeeps ⟨km, kn, false, kt, kj, ko, kf, false, kc, false, ki, kz, kg, kx, ke⟩ s0 (Machine.execThermalLevelFall s) := by
  unfold Machine.execThermalLevelFall
  refine .next ?_
  split
  · exact h
  · extract_lets -underBinder x6 x7
    have h8 : Keeps h.kept s0 x7 := h.put
    exact Keeps.ite h h8.setPwr.relevel

theorem Keeps.execPowerLevelEval {s0 a1 a2 a3 s} (h : Keeps ⟨km, kn, false, kt, kj, ko, kf, false, kc, false, ki, kz, kg, kx, ke⟩ s0 s) : OutKeeps ⟨km, kn, false, kt, kj, ko, kf, false, kc, false, ki, kz, kg, kx, ke⟩ s0 (Machine.execPowerLevelEval a1 a2 a3 s) := by
  unfold Machine.execPowerLevelEval
  extract_lets -underBinder x1 x2 x3 x4
  refine .next ?_
  refine (Keeps.ite h ?_)
  have h5 : Keeps h.kept s0 x2 := h.put.setPwr.showSurge
  split
  · split
    · extract_lets -underBinder x14 x15
      have h16 : Keeps h.kept s0 x15 := Keeps.ite (Keeps.ite h5.put.setPwr h5) (Keeps.ite h5.put h5)
      exact h16.relevel

theorem Keeps.surgeEnds {s0 s} (h : Keeps ⟨km, kn, false, kt, kj, ko, kf, false, kc, false, ki, kz, kg, kx, ke⟩ s0 s) : Keeps ⟨km, kn, false, kt, kj, ko, kf, false, kc, false, ki, kz, kg, kx, ke⟩ s0 (State.surgeEnds s) := by
  unfold State.surgeEnds
  extract_lets -underBinder x1
  have h2 : Keeps h.kept s0 x1 := h.showSurge.put.setPwr
  exact Keeps.ite h h2.post.relevel

theorem Keeps.levelWrite {s0 s a2} (h : Keeps ⟨km, kn, false, kt, kj, ko, kf, false, kc, false, ki, kz, kg, kx, ke⟩ s0 s) : Keeps ⟨km, kn, false, kt, kj, ko, kf, false, kc, false, ki, kz, kg, kx, ke⟩ s0 (State.levelWrite s a2) := by
  unfold State.levelWrite
  extract_lets -underBinder x1 x2 x3
  have h5 : Keeps h.kept s0 x2 := h.surgeEnds.put
  have h7 : Keeps h.kept s0 x3 := h5.when (fun _ h8 => h8.post)
  exact Keeps.ite h h7.relevel

theorem Keeps.execPwrLevelReq {s0 a1 a2 s} (h : Keeps ⟨km, kn, false, kt, kj, ko, kf, false, kc, false, ki, kz, kg, kx, false⟩ s0 s) : OutKeeps ⟨km, kn, false, kt, kj, ko, kf, false, kc, false, ki, kz, kg, kx, false⟩ s0 (Machine.execPwrLevelReq a1 a2 s) := by
  unfold Machine.execPwrLevelReq
  exact .next (h.ownerWrite (fun _ h2 => h2.levelWrite))

theorem Keeps.execStPwrSurgeEnd {s0 s} (h : Keeps ⟨km, kn, false, kt, kj, ko, kf, false, kc, false, ki, kz, kg, kx, ke⟩ s0 s) : OutKeeps ⟨km, kn, false, kt, kj, ko, kf, false, kc, false, ki, kz, kg, kx, ke⟩ s0 (Machine.execStPwrSurgeEnd s) := by
  unfold Machine.execStPwrSurgeEnd
  exact .next h.surgeEnds

theorem Keeps.execSurgeUnbar {s0 s} (h : Keeps ⟨km, kn, false, kt, kj, ko, kf, false, kc, false, ki, kz, kg, kx, ke⟩ s0 s) : OutKeeps ⟨km, kn, false, kt, kj, ko, kf, false, kc, false, ki, kz, kg, kx, ke⟩ s0 (Machine.execSurgeUnbar s) := by
  unfold Machine.execSurgeUnbar
  exact .next (Keeps.ite h h.showSurge.put.setPwr.relevel)

theorem Keeps.execVrAck {s0 a1 s} (h : Keeps ⟨km, kn, false, kt, kj, ko, kf, false, kc, false, ki, kz, kg, kx, ke⟩ s0 s) : OutKeeps ⟨km, kn, false, kt, kj, ko, kf, false, kc, false, ki, kz, kg, kx, ke⟩ s0 (Machine.execVrAck a1 s) := by
  unfold Machine.execVrAck
  extract_lets -underBinder x1
  refine .next ?_
  refine (Keeps.ite h ?_)
  have h2 : Keeps h.kept s0 x1 := h.put
  split
  · exact h2
  · exact Keeps.ite h2 h2.setPwr.put.setClock

theorem Keeps.execStPwrVrFail {s0 s} (h : Keeps ⟨km, kn, false, kt, kj, ko, kf, false, kc, false, ki, kz, kg, kx, ke⟩ s0 s) : OutKeeps ⟨km, kn, false, kt, kj, ko, kf, false, kc, false, ki, kz, kg, kx, ke⟩ s0 (Machine.execStPwrVrFail s) := by
  unfold Machine.execStPwrVrFail
  refine .next ?_
  split
  · exact h
  · extract_lets -underBinder x8 x9
    have h10 : Keeps h.kept s0 x8 := h.put.count.put
    have h11 : Keeps h.kept s0 x9 := h10.setPwr
    exact Keeps.ite h h11.post.relevel

theorem Keeps.execVrAlert {s0 a1 s} (h : Keeps ⟨km, kn, kp, kt, kj, ko, kf, kd, kc, kl, ki, kz, kg, kx, ke⟩ s0 s) : OutKeeps ⟨km, kn, kp, kt, kj, ko, kf, kd, kc, kl, ki, kz, kg, kx, ke⟩ s0 (Machine.execVrAlert a1 s) := by
  unfold Machine.execVrAlert
  exact .next (h.when (fun _ h2 => h2.pmbus.put.postLimited))

theorem Keeps.resetDie {s0 s c} (h : Keeps ⟨false, kn, false, false, false, false, false, false, false, false, false, false, false, false, false⟩ s0 s) : Keeps ⟨false, kn, false, false, false, false, false, false, false, false, false, false, false, false, false⟩ s0 (State.resetDie s c) := by
  unfold State.resetDie
  extract_lets aon s1
  refine Keeps.put { h with
    wf := fun w => ⟨?_, ?_⟩, mem := nofun, pwr := nofun, tb := nofun, job := nofun, eng := nofun, smp := nofun, rows := nofun,
    ports := nofun, fld := nofun, mot := nofun, due := nofun, cal := nofun, lanes := nofun, peers := nofun, cams := nofun, ins := nofun,
    zip := nofun, dram := nofun, tap := nofun, err := nofun }
  · show Sparse.Wf _ (if aon then [] else s.regs.filter (fun e => keptReg e.1))
    split
    · exact Sparse.nil_wf _
    · exact Sparse.filter_wf _ _ (h.wf w).1
  · show Sparse.Wf _ (if (decide aon || decide (c = 8)) = true then [] else s.mem.filter (fun e => decide (0x4000000000 ≤ e.1)))
    split
    · exact Sparse.nil_wf _
    · exact Sparse.filter_wf _ _ (h.wf w).2

theorem Keeps.heldMode {s0 s} (h : Keeps ⟨km, kn, kp, kt, kj, ko, kf, kd, kc, kl, ki, kz, kg, kx, ke⟩ s0 s) : Keeps ⟨km, kn, kp, kt, kj, ko, kf, kd, kc, kl, ki, kz, kg, kx, ke⟩ s0 (State.heldMode s) := by
  unfold State.heldMode
  exact h.put.put

theorem Keeps.holdDie {s0 s a2} (h : Keeps ⟨false, kn, false, false, false, false, false, false, false, false, false, false, false, false, false⟩ s0 s) : Keeps ⟨false, kn, false, false, false, false, false, false, false, false, false, false, false, false, false⟩ s0 (State.holdDie s a2) := by
  unfold State.holdDie
  exact h.resetDie.setPwr.heldMode

theorem Keeps.startBoot {s0 s} (h : Keeps ⟨false, false, false, false, false, false, false, false, false, false, false, false, false, false, false⟩ s0 s) : Keeps ⟨false, false, false, false, false, false, false, false, false, false, false, false, false, false, false⟩ s0 (State.startBoot s) := by
  unfold State.startBoot
  extract_lets -underBinder x1 x2 x3 x4 x5 x6 x7
  have h10 : Keeps h.kept s0 x1 := h.resetDie
  have h11 : Keeps h.kept s0 x3 := h10.setPwr.setFld
  have h12 : Keeps h.kept s0 x4 := h11.chNow
  have h14 : Keeps h.kept s0 x5 := h12.when (fun _ h15 => h15.send)
  have h16 : Keeps h.kept s0 x6 := h14.put
  have h17 : Keeps h.kept s0 x7 := h16.put
  exact h17.when (fun _ h19 => h19.put)

theorem Keeps.release {s0 s} (h : Keeps ⟨false, false, false, false, false, false, false, false, false, false, false, false, false, false, false⟩ s0 s) : Keeps ⟨false, false, false, false, false, false, false, false, false, false, false, false, false, false, false⟩ s0 (State.release s) := by
  unfold State.release
  exact Keeps.ite h (Keeps.ite h h.startBoot)

theorem Keeps.resetWrite {s0 s a2} (h : Keeps ⟨false, false, false, false, false, false, false, false, false, false, false, false, false, false, false⟩ s0 s) : Keeps ⟨false, false, false, false, false, false, false, false, false, false, false, false, false, false, false⟩ s0 (State.resetWrite s a2) := by
  unfold State.resetWrite
  exact h.when (fun _ h3 => (h3.each (fun _ _ h4 => h4.sendBlocks)).resetDie.startBoot)

theorem Keeps.execDevReset {s0 a1 a2 s} (h : Keeps ⟨false, false, false, false, false, false, false, false, false, false, false, false, false, false, false⟩ s0 s) : OutKeeps ⟨false, false, false, false, false, false, false, false, false, false, false, false, false, false, false⟩ s0 (Machine.execDevReset a1 a2 s) := by
  unfold Machine.execDevReset
  exact .next (h.ownerWrite (fun _ h2 => h2.resetWrite))

theorem Keeps.execResetNAssert {s0 s} (h : Keeps ⟨false, kn, false, false, false, false, false, false, false, false, false, false, false, false, false⟩ s0 s) : OutKeeps ⟨false, kn, false, false, false, false, false, false, false, false, false, false, false, false, false⟩ s0 (Machine.execResetNAssert s) := by
  unfold Machine.execResetNAssert
  extract_lets -underBinder x1
  exact .next (Keeps.ite h h.setPwr.holdDie)

theorem Keeps.execResetNRelease {s0 a1 s} (h : Keeps ⟨false, false, false, false, false, false, false, false, false, false, false, false, false, false, false⟩ s0 s) : OutKeeps ⟨false, false, false, false, false, false, false, false, false, false, false, false, false, false, false⟩ s0 (Machine.execResetNRelease a1 s) := by
  unfold Machine.execResetNRelease
  exact .next (Keeps.ite h h.setPwr.release)

theorem Keeps.supplyFault {s0 s a2} (h : Keeps ⟨false, kn, false, false, false, false, false, false, false, false, false, false, false, false, false⟩ s0 s) : Keeps ⟨false, kn, false, false, false, false, false, false, false, false, false, false, false, false, false⟩ s0 (State.supplyFault s a2) := by
  unfold State.supplyFault
  extract_lets -underBinder x1
  exact h.setPwr.holdDie

theorem Keeps.execSupplyFault {s0 a1 s} (h : Keeps ⟨false, kn, false, false, false, false, false, false, false, false, false, false, false, false, false⟩ s0 s) : OutKeeps ⟨false, kn, false, false, false, false, false, false, false, false, false, false, false, false, false⟩ s0 (Machine.execSupplyFault a1 s) := by
  unfold Machine.execSupplyFault
  exact .next (Keeps.ite h.supplyFault h)

theorem Keeps.execVrPgoodLoss {s0 s} (h : Keeps ⟨false, kn, false, false, false, false, false, false, false, false, false, false, false, false, false⟩ s0 s) : OutKeeps ⟨false, kn, false, false, false, false, false, false, false, false, false, false, false, false, false⟩ s0 (Machine.execVrPgoodLoss s) := by
  unfold Machine.execVrPgoodLoss
  exact .next (Keeps.ite h h.supplyFault)

theorem Keeps.execSupplyFaultRelease {s0 a1 s} (h : Keeps ⟨false, false, false, false, false, false, false, false, false, false, false, false, false, false, false⟩ s0 s) : OutKeeps ⟨false, false, false, false, false, false, false, false, false, false, false, false, false, false, false⟩ s0 (Machine.execSupplyFaultRelease a1 s) := by
  unfold Machine.execSupplyFaultRelease
  extract_lets -underBinder x1
  refine .next ?_
  have h2 : Keeps h.kept s0 x1 := h.setPwr
  exact Keeps.ite h (Keeps.ite h2 h2.setPwr.release)

theorem Keeps.bootGo {s0 a1 s} (h : Keeps ⟨km, kn, false, kt, kj, ko, kf, kd, kc, kl, ki, kz, kg, kx, ke⟩ s0 s) : Keeps ⟨km, kn, false, kt, kj, ko, kf, kd, kc, kl, ki, kz, kg, kx, ke⟩ s0 (State.bootGo a1 s) := by
  unfold State.bootGo
  extract_lets -underBinder x1
  have h2 : Keeps h.kept s0 x1 := h.put.setPwr
  exact Keeps.ite h h2.send

theorem Keeps.execPwrBootGo {s0 a1 s} (h : Keeps ⟨km, kn, false, kt, kj, ko, kf, kd, kc, kl, ki, kz, kg, kx, false⟩ s0 s) : OutKeeps ⟨km, kn, false, kt, kj, ko, kf, kd, kc, kl, ki, kz, kg, kx, false⟩ s0 (Machine.execPwrBootGo a1 s) := by
  unfold Machine.execPwrBootGo
  exact .next (h.ownerWrite (fun _ h2 => h2.bootGo))

theorem Keeps.bootStep {s0 s} (h : Keeps ⟨km, kn, kp, kt, kj, ko, kf, kd, kc, kl, ki, kz, kg, kx, ke⟩ s0 s) : Keeps ⟨km, kn, kp, kt, kj, ko, kf, kd, kc, kl, ki, kz, kg, kx, ke⟩ s0 (State.bootStep s) := by
  unfold State.bootStep
  exact h.when (fun _ h2 => h2.put)

theorem Keeps.execBootImageVerify {s0 a1 s} (h : Keeps ⟨km, kn, false, kt, kj, ko, kf, kd, kc, kl, ki, kz, kg, kx, ke⟩ s0 s) : OutKeeps ⟨km, kn, false, kt, kj, ko, kf, kd, kc, kl, ki, kz, kg, kx, ke⟩ s0 (Machine.execBootImageVerify a1 s) := by
  unfold Machine.execBootImageVerify
  extract_lets -underBinder x1 x2
  refine .next ?_
  refine (Keeps.ite h ?_)
  split
  · extract_lets -underBinder x5
    have h6 : Keeps h.kept s0 x5 := h.put.put
    exact h6.putB.put
  · extract_lets -underBinder x10
    have h11 : Keeps h.kept s0 x10 := h.put
    exact h11.setPwr.bootStep

theorem Keeps.execStBootDone {s0 s} (h : Keeps ⟨false, kn, kp, kt, false, false, kf, false, false, false, false, false, false, kx, false⟩ s0 s) : OutKeeps ⟨false, kn, kp, kt, false, false, kf, false, false, false, false, false, false, kx, false⟩ s0 (Machine.execStBootDone s) := by
  unfold Machine.execStBootDone
  extract_lets -underBinder x1 x2 x3 x4 x5
  refine .next ?_
  have h7 : Keeps h.kept s0 x2 := h.put.put
  have h8 : Keeps h.kept s0 x3 := h7.setDomains.autoMode
  have h9 : Keeps h.kept s0 x4 := h8.post
  have h11 : Keeps h.kept s0 x5 := h9.each (fun _ _ h12 => h12.post)
  exact Keeps.ite h h11.post

end Sys2Proof.Machine
end

