-- ==== Sys2Proof/Laws/KeepsJobs.lean ====
section
/-! SUPPORT. What the operations on jobs, zip and cameras keep: the queue, the canonical maps and every part of the state that the operation does not change (the parts that its lemma leaves free). One lemma for each operation. -/

namespace Sys2Proof.Machine

variable {km kn kp kt kj ko kf kd kc kl ki kz kg kx ke : Bool}
variable {k : Kept}

theorem Keeps.jobRefusal {s0 s a2 a3 a4} (h : Keeps ⟨km, kn, kp, kt, kj, ko, kf, kd, kc, kl, ki, kz, kg, kx, ke⟩ s0 s) : Keeps ⟨km, kn, kp, kt, kj, ko, kf, kd, kc, kl, ki, kz, kg, kx, ke⟩ s0 (State.jobRefusal s a2 a3 a4).2 := by
  unfold State.jobRefusal
  extract_lets -underBinder x1 x2 x3 x4 x5
  split
  · dsimp only
    exact h
  · split
    · dsimp only
      exact h
    · split
      · extract_lets -underBinder x14 x15 x16 x17
        have h18 : Keeps h.kept s0 x15 := h.put64.put
        split
        · dsimp only
          exact h
        · split
          · dsimp only
            exact h
          · split
            · dsimp only
              exact h.put64.put
            · dsimp only
              exact h18

theorem Keeps.screenBad {s0 s a2} (h : Keeps ⟨km, kn, kp, kt, kj, ko, kf, kd, kc, kl, ki, kz, kg, kx, ke⟩ s0 s) : Keeps ⟨km, kn, kp, kt, kj, ko, kf, kd, kc, kl, ki, kz, kg, kx, ke⟩ s0 (State.screenBad s a2) := by
  unfold State.screenBad
  exact h.post

theorem Keeps.addChain {s0 s a2 a3} (h : Keeps ⟨km, kn, kp, kt, false, ko, kf, kd, kc, kl, ki, kz, kg, kx, ke⟩ s0 s) : Keeps ⟨km, kn, kp, kt, false, ko, kf, kd, kc, kl, ki, kz, kg, kx, ke⟩ s0 (State.addChain s a2 a3) := by
  unfold State.addChain
  extract_lets -underBinder x1 x2 x3 x4 x5 x6 x7 x8
  exact h.setJobs

theorem Keeps.chainTotal {s0 s a2} (h : Keeps ⟨km, kn, kp, kt, false, ko, kf, kd, kc, kl, ki, kz, kg, kx, ke⟩ s0 s) : Keeps ⟨km, kn, kp, kt, false, ko, kf, kd, kc, kl, ki, kz, kg, kx, ke⟩ s0 (State.chainTotal s a2) := by
  unfold State.chainTotal
  split
  · exact h
  · exact h.setChain

theorem Keeps.loadTickMin {s0 s} (h : Keeps ⟨km, kn, kp, kt, kj, ko, kf, kd, kc, kl, ki, kz, kg, kx, ke⟩ s0 s) : Keeps ⟨km, kn, kp, kt, kj, ko, kf, kd, kc, kl, ki, kz, kg, kx, ke⟩ s0 (State.loadTickMin s) := by
  unfold State.loadTickMin
  exact h.put

theorem Keeps.gapOrigin {s0 s} (h : Keeps ⟨km, kn, kp, kt, false, ko, kf, kd, kc, kl, false, kz, kg, kx, ke⟩ s0 s) : Keeps ⟨km, kn, kp, kt, false, ko, kf, kd, kc, kl, false, kz, kg, kx, ke⟩ s0 (State.gapOrigin s) := by
  unfold State.gapOrigin
  refine (h.each (fun _ _ h2 => ?_))
  split
  · exact h2
  · split
    · extract_lets -underBinder x17 x18 x19
      exact Keeps.ite h2 h2.setChain.loadTickMin.predStart
    · exact h2

theorem Keeps.placeJobs {s0 s} (h : Keeps ⟨km, kn, kp, kt, false, ko, kf, kd, kc, kl, ki, kz, kg, kx, ke⟩ s0 s) : Keeps ⟨km, kn, kp, kt, false, ko, kf, kd, kc, kl, ki, kz, kg, kx, ke⟩ s0 (State.placeJobs s) := by
  unfold State.placeJobs
  refine (h.each (fun _ _ h2 => ?_))
  split
  · split
    · exact h2
    · split
      · exact Keeps.ite h2 (h2.setJob.when (fun _ h15 => h15.enterJob))
      · exact h2

theorem Keeps.linesKnown {s0 s} (h : Keeps ⟨km, kn, kp, kt, false, ko, kf, kd, kc, kl, false, kz, kg, kx, ke⟩ s0 s) : Keeps ⟨km, kn, kp, kt, false, ko, kf, kd, kc, kl, false, kz, kg, kx, ke⟩ s0 (State.linesKnown s) := by
  unfold State.linesKnown
  extract_lets -underBinder x1
  have h3 : Keeps h.kept s0 x1 := h.placeJobs
  exact (h3.each (fun _ _ h5 => h5.chainTotal)).gapOrigin

theorem Keeps.screenFailed {s0 s a2 a3 a4 a5} (h : Keeps ⟨km, kn, kp, kt, false, ko, kf, kd, kc, kl, ki, kz, kg, kx, ke⟩ s0 s) : Keeps ⟨km, kn, kp, kt, false, ko, kf, kd, kc, kl, ki, kz, kg, kx, ke⟩ s0 (State.screenFailed s a2 a3 a4 a5) := by
  unfold State.screenFailed
  extract_lets -underBinder x1
  have h3 : Keeps h.kept s0 x1 := h.setJobs
  exact (h3.each (fun _ _ h5 => h5.put)).screenBad

theorem Keeps.preload {s0 s a2} (h : Keeps ⟨km, kn, kp, kt, false, ko, kf, kd, kc, kl, ki, kz, kg, kx, ke⟩ s0 s) : Keeps ⟨km, kn, kp, kt, false, ko, kf, kd, kc, kl, ki, kz, kg, kx, ke⟩ s0 (State.preload s a2) := by
  unfold State.preload
  extract_lets -underBinder x1 x2 x3 x4
  have h6 : Keeps h.kept s0 x2 := h.setJobs
  have h7 : Keeps h.kept s0 x3 := h6.setEng.put
  have h9 : Keeps h.kept s0 x4 := h7.each (fun _ _ h10 => h10.put)
  exact Keeps.ite h9.send h9.screenFailed

theorem Keeps.reuseShadow {s0 s a2 a3} (h : Keeps ⟨km, kn, kp, kt, false, ko, kf, kd, kc, kl, ki, kz, kg, kx, ke⟩ s0 s) : Keeps ⟨km, kn, kp, kt, false, ko, kf, kd, kc, kl, ki, kz, kg, kx, ke⟩ s0 (State.reuseShadow s a2 a3) := by
  unfold State.reuseShadow
  exact Keeps.ite h h.setJobs.put

theorem Keeps.notHeld {s0 s} (h : Keeps ⟨km, kn, kp, kt, false, ko, kf, kd, kc, kl, ki, kz, kg, kx, ke⟩ s0 s) : Keeps ⟨km, kn, kp, kt, false, ko, kf, kd, kc, kl, ki, kz, kg, kx, ke⟩ s0 (State.notHeld s) := by
  unfold State.notHeld
  exact h.setJobs.put

theorem Keeps.acceptJob {s0 s a2 a3 a4 a5} (h : Keeps ⟨km, kn, kp, kt, false, ko, kf, false, kc, false, false, kz, kg, kx, ke⟩ s0 s) : Keeps ⟨km, kn, kp, kt, false, ko, kf, false, kc, false, false, kz, kg, kx, ke⟩ s0 (State.acceptJob s a2 a3 a4 a5) := by
  unfold State.acceptJob
  extract_lets -underBinder x1 x2 x3 x4 x5 x6 x7
  have h8 : Keeps h.kept s0 x3 := Keeps.ite h h.addChain
  split
  · extract_lets -underBinder x13 x14 x15 x16 x17 x18 x19 x20 x21 x22 x23 x24 x25 x26 x27
    have h34 : Keeps h.kept s0 x14 := by
      unfold x14
      clear_value x13
      split
      · exact h8.screenBad
      · exact h8
    have h38 : Keeps h.kept s0 x18 := h34.setJobs.notHeld
    have h39 : Keeps h.kept s0 x19 := h38.setChain
    have h41 : Keeps h.kept s0 x20 := h39.when (fun _ h42 => h42.preload)
    have h44 : Keeps h.kept s0 x21 := h41.when (fun _ h45 => h45.reuseShadow)
    have h47 : Keeps h.kept s0 x22 := h44.when (fun _ h48 => h48.loadTickMin)
    have h49 : Keeps h.kept s0 x23 := h47.linesKnown
    have h51 : Keeps h.kept s0 x24 := h49.when (fun _ h52 => h52.enterJob)
    have h54 : Keeps h.kept s0 x25 := h51.when (fun _ h55 => h55.loadGeo)
    have h56 : Keeps h.kept s0 x26 := h54.showChains.refreshFab.refreshCeil
    have h57 : Keeps h.kept s0 x27 := h56.markStarted
    exact h57.when (fun _ h59 => h59.complete)

theorem Keeps.execJob {s0 a1 a2 s} (h : Keeps ⟨km, kn, kp, kt, false, ko, kf, false, kc, false, false, kz, kg, kx, ke⟩ s0 s) : OutKeeps ⟨km, kn, kp, kt, false, ko, kf, false, kc, false, false, kz, kg, kx, ke⟩ s0 (Machine.execJob a1 a2 s) := by
  unfold Machine.execJob
  refine .next ?_
  split
  · exact h
  · extract_lets -underBinder x6 x7
    refine (Keeps.ite h ?_)
    have h8 : Keeps h.kept s0 x7 := h.send
    split
    · rename_i y12
      have h13 := Keeps.snd y12 h8.jobRefusal
      extract_lets -underBinder x14 x15
      have h17 : Keeps h.kept s0 x14 := h13.setJobs
      have h19 : Keeps h.kept s0 x15 := h17.when (fun _ h20 => h20.notHeld)
      exact h19.markStarted.complete
    · rename_i y23
      have h24 := Keeps.snd y23 h8.jobRefusal
      exact Keeps.ite h24.setJobs.put h24.acceptJob

theorem Keeps.execScreenPreloadDone {s0 a1 a2 s} (h : Keeps ⟨km, kn, kp, kt, false, ko, kf, kd, kc, kl, ki, kz, kg, kx, ke⟩ s0 s) : OutKeeps ⟨km, kn, kp, kt, false, ko, kf, kd, kc, kl, ki, kz, kg, kx, ke⟩ s0 (Machine.execScreenPreloadDone a1 a2 s) := by
  unfold Machine.execScreenPreloadDone
  refine .next ?_
  split
  · extract_lets -underBinder x6
    refine (Keeps.ite h ?_)
    split
    · exact h.screenFailed
    · extract_lets -underBinder x12 x13 x14 x15
      have h19 : Keeps h.kept s0 x12 := h.setEng
      have h21 : Keeps h.kept s0 x13 := h19.each (fun _ _ h22 => h22.put)
      have h24 : Keeps h.kept s0 x14 := h21.each (fun _ _ h25 => h25.post)
      have h26 : Keeps h.kept s0 x15 := h24.setJobs
      refine (h26.each (fun _ _ h28 => ?_))
      split
      · exact h28.setJob.screenBad
      · extract_lets -underBinder x34
        exact h28.setJob
  · exact h

theorem Keeps.addPage {s0 s a2 a3 a4 a5} (h : Keeps ⟨km, kn, kp, kt, false, ko, kf, kd, kc, kl, false, kz, kg, kx, ke⟩ s0 s) : Keeps ⟨km, kn, kp, kt, false, ko, kf, kd, kc, kl, false, kz, kg, kx, ke⟩ s0 (State.addPage s a2 a3 a4 a5) := by
  unfold State.addPage
  extract_lets -underBinder x1 x2 x3 x4 x5
  have h7 : Keeps h.kept s0 x5 := h.setJob
  exact h7.markStarted.when (fun _ h9 => h9.linesKnown)

theorem Keeps.pageEnds {s0 s a2 a3 a4} (h : Keeps ⟨km, kn, kp, kt, kj, ko, kf, kd, kc, kl, ki, kz, kg, kx, ke⟩ s0 s) : Keeps ⟨km, kn, kp, kt, kj, ko, kf, kd, kc, kl, ki, kz, kg, kx, ke⟩ s0 (State.pageEnds s a2 a3 a4) := by
  unfold State.pageEnds
  exact h.markStarted.complete

theorem Keeps.execPage {s0 a1 a2 s} (h : Keeps ⟨km, kn, kp, kt, false, ko, kf, kd, kc, kl, false, kz, kg, kx, ke⟩ s0 s) : OutKeeps ⟨km, kn, kp, kt, false, ko, kf, kd, kc, kl, false, kz, kg, kx, ke⟩ s0 (Machine.execPage a1 a2 s) := by
  unfold Machine.execPage
  refine .next ?_
  split
  · exact h
  · refine (Keeps.ite h (Keeps.ite h.pageEnds (Keeps.ite h.pageEnds ?_)))
    split
    · exact Keeps.ite h h.pageEnds
    · extract_lets -underBinder x11
      refine (Keeps.ite h (Keeps.ite h.pageEnds ?_))
      have h12 : Keeps h.kept s0 x11 := h.send
      split
      · exact h12.pageEnds
      · exact h12.addPage

theorem Keeps.replacePage {s0 s a2 a3 a4 a5 a6} (h : Keeps ⟨km, kn, kp, kt, false, ko, kf, kd, kc, kl, ki, kz, kg, kx, ke⟩ s0 s) : Keeps ⟨km, kn, kp, kt, false, ko, kf, kd, kc, kl, ki, kz, kg, kx, ke⟩ s0 (State.replacePage s a2 a3 a4 a5 a6) := by
  unfold State.replacePage
  extract_lets -underBinder x1 x2
  have h3 : Keeps h.kept s0 x1 := h.stopBands.complete
  exact h3.setJob.markStarted

theorem Keeps.decideReplace {s0 s a2 a3 a4 a5 a6 a7} (h : Keeps ⟨km, kn, kp, kt, false, ko, kf, false, kc, false, ki, kz, kg, kx, ke⟩ s0 s) : Keeps ⟨km, kn, kp, kt, false, ko, kf, false, kc, false, ki, kz, kg, kx, ke⟩ s0 (State.decideReplace s a2 a3 a4 a5 a6 a7) := by
  unfold State.decideReplace
  split
  · exact h.pageEnds
  · extract_lets -underBinder x6
    have h7 : Keeps h.kept s0 x6 := h.order
    exact Keeps.ite h7.replacePage h7.pageEnds

theorem Keeps.execPageReplaceDecision {s0 a1 a2 a3 s} (h : Keeps ⟨km, kn, kp, kt, false, ko, kf, false, kc, false, ki, kz, kg, kx, ke⟩ s0 s) : OutKeeps ⟨km, kn, kp, kt, false, ko, kf, false, kc, false, ki, kz, kg, kx, ke⟩ s0 (Machine.execPageReplaceDecision a1 a2 a3 s) := by
  unfold Machine.execPageReplaceDecision
  refine .next ?_
  split
  · exact h
  · split
    · exact h.pageEnds
    · exact Keeps.ite h.pageEnds (h.when (fun _ h15 => h15.pageEnds))
  · refine (Keeps.ite h.pageEnds (Keeps.ite ?_ (Keeps.ite h h.decideReplace)))
    split
    · exact h
    · exact h.setDue.decideReplace

theorem Keeps.setBand {s0 s a2 a3 a4 a5 a6} (h : Keeps ⟨km, kn, kp, kt, false, ko, kf, kd, kc, kl, ki, kz, kg, kx, ke⟩ s0 s) : Keeps ⟨km, kn, kp, kt, false, ko, kf, kd, kc, kl, ki, kz, kg, kx, ke⟩ s0 (State.setBand s a2 a3 a4 a5 a6) := by
  unfold State.setBand
  exact h.setJob

theorem Keeps.execBandDispatch {s0 s} (h : Keeps ⟨km, kn, kp, kt, false, ko, kf, kd, kc, kl, ki, kz, kg, kx, ke⟩ s0 s) : OutKeeps ⟨km, kn, kp, kt, false, ko, kf, kd, kc, kl, ki, kz, kg, kx, ke⟩ s0 (Machine.execBandDispatch s) := by
  unfold Machine.execBandDispatch
  refine .next ?_
  split
  · split
    · exact h
    · extract_lets -underBinder x15 x16
      have h17 : Keeps h.kept s0 x16 := h.setBand
      exact Keeps.ite h h17.put.send
  · exact h

theorem Keeps.zipWork {s0 s a2 a3 a4 a5} (h : Keeps ⟨km, kn, kp, kt, kj, ko, kf, kd, kc, kl, ki, false, kg, kx, ke⟩ s0 s) : Keeps ⟨km, kn, kp, kt, kj, ko, kf, kd, kc, kl, ki, false, kg, kx, ke⟩ s0 (State.zipWork s a2 a3 a4 a5) := by
  unfold State.zipWork
  extract_lets -underBinder x1 x2 x3 x4 x5 x6
  have h8 : Keeps h.kept s0 x4 := h.chZip
  have h9 : Keeps h.kept s0 x5 := h8.count.count.count
  have h10 : Keeps h.kept s0 x6 := h9.pmcAdd
  exact h10.when (fun _ h12 => h12.count.pmcAdd)

theorem Keeps.writeBand {s0 s a2 a3 a4 a5 a6} (h : Keeps ⟨false, kn, kp, kt, kj, ko, kf, kd, kc, kl, ki, kz, false, kx, ke⟩ s0 s) : Keeps ⟨false, kn, kp, kt, kj, ko, kf, kd, kc, kl, ki, kz, false, kx, ke⟩ s0 (State.writeBand s a2 a3 a4 a5 a6) := by
  unfold State.writeBand
  extract_lets -underBinder x1 x2
  refine (h.each (fun _ _ h4 => ?_))
  extract_lets -underBinder x5 x6
  have h9 : Keeps h.kept s0 x6 := h4.each (fun _ _ h10 => h10.setByte)
  exact h9.each (fun _ _ h12 => h12.acceptWrite)

theorem Keeps.execBandComplete {s0 a1 a2 s} (h : Keeps ⟨false, kn, kp, kt, false, ko, kf, kd, kc, kl, ki, false, false, kx, ke⟩ s0 s) : OutKeeps ⟨false, kn, kp, kt, false, ko, kf, kd, kc, kl, ki, false, false, kx, ke⟩ s0 (Machine.execBandComplete a1 a2 s) := by
  unfold Machine.execBandComplete
  refine .next ?_
  split
  · exact h
  · split
    · exact h
    · extract_lets -underBinder x13
      split
      · extract_lets -underBinder x19 x20
        have h21 : Keeps h.kept s0 x19 := h.writeBand.put
        have h22 : Keeps h.kept s0 x20 := h21.zipWork
        split
        · exact h22.setBand
        · extract_lets -underBinder x27
          have h28 : Keeps h.kept s0 x27 := h22.setBand
          exact h28.post

theorem Keeps.startChain {s0 s a2 a3} (h : Keeps ⟨km, kn, kp, kt, false, ko, kf, false, kc, false, false, kz, kg, kx, ke⟩ s0 s) : Keeps ⟨km, kn, kp, kt, false, ko, kf, false, kc, false, false, kz, kg, kx, ke⟩ s0 (State.startChain s a2 a3) := by
  unfold State.startChain
  extract_lets -underBinder x1 x2 x3 x4 x5
  have h8 : Keeps h.kept s0 x2 := h.setChain
  have h9 : Keeps h.kept s0 x3 := h8.setJobs
  have h10 : Keeps h.kept s0 x4 := h9.loadGeo.loadTickMin
  have h13 : Keeps h.kept s0 x5 := h10.each (fun _ _ h14 => (h14.each (fun _ _ h15 => h15.setJob.complete)))
  split
  · exact h13
  · extract_lets -underBinder x21 x22 x23
    have h26 : Keeps h.kept s0 x21 := h13.each (fun _ _ h27 => h27.setRow.rowStarts)
    have h29 : Keeps h.kept s0 x22 := h26.each (fun _ _ h30 => h30.setRow)
    have h31 : Keeps h.kept s0 x23 := h29.showChains.showContext.predStart.linesKnown
    exact h31.refreshFab.refreshCeil.showQueues

theorem Keeps.execChainStart {s0 a1 a2 s} (h : Keeps ⟨km, kn, kp, kt, false, ko, kf, false, false, false, false, kz, kg, kx, ke⟩ s0 s) : OutKeeps ⟨km, kn, kp, kt, false, ko, kf, false, false, false, false, kz, kg, kx, ke⟩ s0 (Machine.execChainStart a1 a2 s) := by
  unfold Machine.execChainStart
  refine .next ?_
  split
  · exact h
  · extract_lets -underBinder x6 x7 x8
    clear_value x8
    split
    · exact h
    · extract_lets -underBinder x12 x13
      have h15 : Keeps h.kept s0 x13 := h.startChain.order
      exact Keeps.ite h (h15.each (fun _ _ h17 => h17.assignShare))

theorem Keeps.zipRing {s0 s a2 a3 a4} (h : Keeps ⟨km, kn, kp, kt, kj, ko, kf, kd, kc, kl, ki, kz, kg, kx, ke⟩ s0 s) : Keeps ⟨km, kn, kp, kt, kj, ko, kf, kd, kc, kl, ki, kz, kg, kx, ke⟩ s0 (State.zipRing s a2 a3 a4) := by
  unfold State.zipRing
  extract_lets -underBinder x1 x2 x3
  have h5 : Keeps h.kept s0 x3 := h.writeFields
  exact Keeps.ite h.writeFields (Keeps.ite h.put (h5.when (fun _ h7 => h7.put)))

theorem Keeps.execZipRingWrite {s0 a1 a2 a3 s} (h : Keeps ⟨km, kn, kp, kt, kj, ko, kf, kd, kc, kl, ki, kz, kg, kx, false⟩ s0 s) : OutKeeps ⟨km, kn, kp, kt, kj, ko, kf, kd, kc, kl, ki, kz, kg, kx, false⟩ s0 (Machine.execZipRingWrite a1 a2 a3 s) := by
  unfold Machine.execZipRingWrite
  exact .next (Keeps.ite h (h.ownerWrite (fun _ h2 => h2.zipRing)))

theorem Keeps.setZip {s0 s a2} (h : Keeps ⟨km, kn, kp, kt, kj, ko, kf, kd, kc, kl, ki, false, kg, kx, ke⟩ s0 s) : Keeps ⟨km, kn, kp, kt, kj, ko, kf, kd, kc, kl, ki, false, kg, kx, ke⟩ s0 (State.setZip s a2) := by
  unfold State.setZip
  exact h.chZip

theorem Keeps.ctxState {s0 s a2 a3 a4} (h : Keeps ⟨km, kn, kp, kt, kj, ko, kf, kd, kc, kl, ki, false, kg, kx, ke⟩ s0 s) : Keeps ⟨km, kn, kp, kt, kj, ko, kf, kd, kc, kl, ki, false, kg, kx, ke⟩ s0 (State.ctxState s a2 a3 a4) := by
  unfold State.ctxState
  extract_lets -underBinder x1
  have h3 : Keeps h.kept s0 x1 := h.put.putB
  exact h3.when (fun _ h5 => h5.setZip)

theorem Keeps.showRingBusy {s0 s a2 a3} (h : Keeps ⟨km, kn, kp, kt, kj, ko, kf, kd, kc, kl, ki, kz, kg, kx, ke⟩ s0 s) : Keeps ⟨km, kn, kp, kt, kj, ko, kf, kd, kc, kl, ki, kz, kg, kx, ke⟩ s0 (State.showRingBusy s a2 a3) := by
  unfold State.showRingBusy
  exact h.put

theorem Keeps.zipEnds {s0 s a2 a3 a4} (h : Keeps ⟨km, kn, kp, kt, kj, ko, kf, kd, kc, kl, ki, kz, kg, kx, ke⟩ s0 s) : Keeps ⟨km, kn, kp, kt, kj, ko, kf, kd, kc, kl, ki, kz, kg, kx, ke⟩ s0 (State.zipEnds s a2 a3 a4) := by
  unfold State.zipEnds
  exact h.markStarted.complete

theorem Keeps.zipRun {s0 s a2 a3 a4 a5 a6 a7} (h : Keeps ⟨km, kn, kp, kt, kj, ko, kf, kd, kc, kl, ki, false, kg, kx, ke⟩ s0 s) : Keeps ⟨km, kn, kp, kt, kj, ko, kf, kd, kc, kl, ki, false, kg, kx, ke⟩ s0 (State.zipRun s a2 a3 a4 a5 a6 a7) := by
  unfold State.zipRun
  extract_lets -underBinder x1 x2 x3 x4 x5 x6
  have h8 : Keeps h.kept s0 x5 := h.setZip
  have h9 : Keeps h.kept s0 x6 := h8.markStarted.showRingBusy.setZip
  exact h9.when (fun _ h11 => h11.send)

theorem Keeps.ctxTakes {s0 s a2 a3} (h : Keeps ⟨km, kn, kp, kt, kj, ko, kf, kd, kc, kl, ki, false, kg, kx, ke⟩ s0 s) : Keeps ⟨km, kn, kp, kt, kj, ko, kf, kd, kc, kl, ki, false, kg, kx, ke⟩ s0 (State.ctxTakes s a2 a3).2 := by
  unfold State.ctxTakes
  extract_lets -underBinder x1 x2
  have h4 : Keeps h.kept s0 x2 := h.when (fun _ h5 => h5.ctxState)
  split
  · extract_lets -underBinder x8
    split
    · dsimp only
      exact h4
    · dsimp only
      exact h4.ctxState.setZip
  · extract_lets -underBinder x13
    dsimp only
    exact h4
  · dsimp only
    exact h4

theorem Keeps.zipStart {s0 s a2 a3 a4 a5} (h : Keeps ⟨km, kn, kp, kt, kj, ko, kf, kd, kc, kl, ki, false, kg, kx, ke⟩ s0 s) : Keeps ⟨km, kn, kp, kt, kj, ko, kf, kd, kc, kl, ki, false, kg, kx, ke⟩ s0 (State.zipStart s a2 a3 a4 a5) := by
  unfold State.zipStart
  refine (Keeps.ite h ?_)
  split
  · exact h
  · extract_lets -underBinder x6
    refine (Keeps.ite h (Keeps.ite h.zipEnds (Keeps.ite h ?_)))
    split
    · exact h
    · extract_lets -underBinder x12
      refine (Keeps.ite h.zipRun ?_)
      split
      · rename_i y16
        have h17 := Keeps.snd y16 h.ctxTakes
        exact Keeps.ite h17.zipRun h17.zipEnds

theorem Keeps.execDeflate {s0 a1 a2 a3 s} (h : Keeps ⟨km, kn, kp, kt, kj, ko, kf, kd, kc, kl, ki, false, kg, kx, ke⟩ s0 s) : OutKeeps ⟨km, kn, kp, kt, kj, ko, kf, kd, kc, kl, ki, false, kg, kx, ke⟩ s0 (Machine.execDeflate a1 a2 a3 s) := by
  unfold Machine.execDeflate
  exact .next h.zipStart

theorem Keeps.execInflate {s0 a1 a2 a3 s} (h : Keeps ⟨km, kn, kp, kt, kj, ko, kf, kd, kc, kl, ki, false, kg, kx, ke⟩ s0 s) : OutKeeps ⟨km, kn, kp, kt, kj, ko, kf, kd, kc, kl, ki, false, kg, kx, ke⟩ s0 (Machine.execInflate a1 a2 a3 s) := by
  unfold Machine.execInflate
  exact .next h.zipStart

theorem Keeps.ctxAfter {s0 s a2 a3} (h : Keeps ⟨km, kn, kp, kt, kj, ko, kf, kd, kc, kl, ki, false, kg, kx, ke⟩ s0 s) : Keeps ⟨km, kn, kp, kt, kj, ko, kf, kd, kc, kl, ki, false, kg, kx, ke⟩ s0 (State.ctxAfter s a2 a3) := by
  unfold State.ctxAfter
  refine (Keeps.ite ?_ h.ctxState)
  split
  · exact h.ctxState.setZip
  · exact h.ctxState

theorem Keeps.zipIdle {s0 s a2} (h : Keeps ⟨km, kn, kp, kt, kj, ko, kf, kd, kc, kl, ki, false, kg, kx, ke⟩ s0 s) : Keeps ⟨km, kn, kp, kt, kj, ko, kf, kd, kc, kl, ki, false, kg, kx, ke⟩ s0 (State.zipIdle s a2) := by
  unfold State.zipIdle
  exact h.showRingBusy.setZip

theorem Keeps.zipDone {s0 s a2 a3} (h : Keeps ⟨km, kn, kp, kt, kj, ko, kf, kd, kc, kl, ki, kz, kg, kx, ke⟩ s0 s) : Keeps ⟨km, kn, kp, kt, kj, ko, kf, kd, kc, kl, ki, kz, kg, kx, ke⟩ s0 (State.zipDone s a2 a3) := by
  unfold State.zipDone
  extract_lets -underBinder x1 x2 x3
  have h6 : Keeps h.kept s0 x2 := h.when (fun _ h7 => h7.send)
  have h9 : Keeps h.kept s0 x3 := h6.when (fun _ h10 => h10.send)
  exact h9.complete

theorem Keeps.zipFails {s0 s a2 a3} (h : Keeps ⟨km, kn, kp, kt, kj, ko, kf, kd, kc, kl, ki, false, kg, kx, ke⟩ s0 s) : Keeps ⟨km, kn, kp, kt, kj, ko, kf, kd, kc, kl, ki, false, kg, kx, ke⟩ s0 (State.zipFails s a2 a3) := by
  unfold State.zipFails
  extract_lets -underBinder x1
  have h2 : Keeps h.kept s0 x1 := by
    unfold x1
    split
    · exact h.ctxState
    · exact h
  exact h2.zipIdle.zipWork.complete

theorem Keeps.execZipDescriptorDone {s0 a1 a2 s} (h : Keeps ⟨km, kn, kp, kt, kj, ko, kf, kd, kc, kl, ki, false, kg, kx, ke⟩ s0 s) : OutKeeps ⟨km, kn, kp, kt, kj, ko, kf, kd, kc, kl, ki, false, kg, kx, ke⟩ s0 (Machine.execZipDescriptorDone a1 a2 s) := by
  unfold Machine.execZipDescriptorDone
  refine .next ?_
  split
  · exact h
  · refine (Keeps.ite h.zipFails (Keeps.ite h.zipFails ?_))
    split
    · exact h.zipFails
    · extract_lets -underBinder x11 x12 x13
      have h14 : Keeps h.kept s0 x13 := by
        unfold x13
        have h15 : Keeps h.kept s0 x12 := h.drawn.zipIdle
        split
        · exact h15.ctxAfter
        · exact h15
      exact Keeps.ite h.zipFails h14.zipWork.zipDone

theorem Keeps.zipAbort {s0 s a2} (h : Keeps ⟨km, kn, kp, kt, kj, ko, kf, kd, kc, kl, ki, false, kg, kx, ke⟩ s0 s) : Keeps ⟨km, kn, kp, kt, kj, ko, kf, kd, kc, kl, ki, false, kg, kx, ke⟩ s0 (State.zipAbort s a2) := by
  unfold State.zipAbort
  extract_lets -underBinder x1
  have h4 : Keeps h.kept s0 x1 := h.each (fun _ _ h5 => h5.zipIdle)
  exact h4.when (fun _ h7 => h7.ctxState)

theorem Keeps.showCamLanes {s0 s a2 a3 a4} (h : Keeps ⟨km, kn, kp, kt, kj, ko, kf, kd, kc, kl, ki, kz, kg, kx, ke⟩ s0 s) : Keeps ⟨km, kn, kp, kt, kj, ko, kf, kd, kc, kl, ki, kz, kg, kx, ke⟩ s0 (State.showCamLanes s a2 a3 a4) := by
  unfold State.showCamLanes
  refine (h.each (fun _ _ h2 => ?_))
  extract_lets -underBinder x3
  exact h2.putB.putB.put

theorem Keeps.camPower {s0 s a2 a3} (h : Keeps ⟨km, kn, kp, kt, kj, ko, kf, kd, kc, kl, ki, kz, kg, kx, ke⟩ s0 s) : Keeps ⟨km, kn, kp, kt, kj, ko, kf, kd, kc, kl, ki, kz, kg, kx, ke⟩ s0 (State.camPower s a2 a3) := by
  unfold State.camPower
  exact h.each (fun _ _ h2 => h2.putB)

theorem Keeps.discover {s0 s a2} (h : Keeps ⟨km, kn, kp, kt, kj, ko, kf, kd, kc, kl, ki, kz, kg, kx, ke⟩ s0 s) : Keeps ⟨km, kn, kp, kt, kj, ko, kf, kd, kc, kl, ki, kz, kg, kx, ke⟩ s0 (State.discover s a2) := by
  unfold State.discover
  exact h.put.put.put.showCamLanes.camPower

theorem Keeps.closeDown {s0 s a2} (h : Keeps ⟨false, kn, kp, kt, false, false, kf, false, false, kl, false, kz, false, kx, ke⟩ s0 s) : Keeps ⟨false, kn, kp, kt, false, false, kf, false, false, kl, false, kz, false, kx, ke⟩ s0 (State.closeDown s a2) := by
  unfold State.closeDown
  extract_lets -underBinder x1
  have h3 : Keeps h.kept s0 x1 := h.drainLines
  refine (h3.each (fun _ _ h5 => ?_))
  extract_lets -underBinder x6 x7 x8
  have h9 : Keeps h.kept s0 x8 := h5.count.pmcAdd
  exact h9.closeFrame

theorem Keeps.camOff {s0 s a2} (h : Keeps ⟨false, kn, kp, kt, false, false, kf, false, false, false, false, kz, false, kx, ke⟩ s0 s) : Keeps ⟨false, kn, kp, kt, false, false, kf, false, false, false, false, kz, false, kx, ke⟩ s0 (State.camOff s a2) := by
  unfold State.camOff
  extract_lets -underBinder x1 x2 x3 x4
  have h6 : Keeps h.kept s0 x1 := h.closeDown
  have h7 : Keeps h.kept s0 x2 := h6.setCam
  have h9 : Keeps h.kept s0 x3 := h7.each (fun _ _ h10 => h10.setIns.complete)
  have h11 : Keeps h.kept s0 x4 := h9.put.put.put.showCamLanes
  exact h11.camPower.lanesStop

theorem Keeps.budgeted {s0 s a2 f3} (h : Keeps ⟨km, kn, kp, kt, kj, ko, kf, kd, kc, kl, ki, kz, kg, kx, ke⟩ s0 s) (kf3 : ∀ t0, Keeps ⟨km, kn, kp, kt, kj, ko, kf, kd, kc, kl, ki, kz, kg, kx, ke⟩ s0 t0 → Keeps ⟨km, kn, kp, kt, kj, ko, kf, kd, kc, kl, ki, kz, kg, kx, ke⟩ s0 (f3 t0)) : Keeps ⟨km, kn, kp, kt, kj, ko, kf, kd, kc, kl, ki, kz, kg, kx, ke⟩ s0 (State.budgeted s a2 f3) := by
  unfold State.budgeted
  extract_lets -underBinder x1
  have h2 : Keeps h.kept s0 x1 := kf3 _ h
  exact Keeps.ite h.post h2.showDemand

theorem Keeps.camCtrlWrite {s0 s a2 a3 a4} (h : Keeps ⟨false, kn, kp, kt, false, false, kf, false, false, false, false, kz, false, kx, ke⟩ s0 s) : Keeps ⟨false, kn, kp, kt, false, false, kf, false, false, false, false, kz, false, kx, ke⟩ s0 (State.camCtrlWrite s a2 a3 a4) := by
  unfold State.camCtrlWrite
  extract_lets -underBinder x1 x2 x3 x4 x5
  have h7 : Keeps h.kept s0 x5 := h.writeFields
  exact Keeps.ite (Keeps.ite h.writeFields.discover h.writeFields) (Keeps.ite h.put (Keeps.ite (h.budgeted (fun _ h9 => h9.writeFields.discover)) (Keeps.ite h.camOff.writeFields.showDemand (Keeps.ite h7.discover h7))))

theorem Keeps.execCamPortEnable {s0 a1 a2 a3 s} (h : Keeps ⟨false, kn, kp, kt, false, false, kf, false, false, false, false, kz, false, kx, false⟩ s0 s) : OutKeeps ⟨false, kn, kp, kt, false, false, kf, false, false, false, false, kz, false, kx, false⟩ s0 (Machine.execCamPortEnable a1 a2 a3 s) := by
  unfold Machine.execCamPortEnable
  exact .next (Keeps.ite h (h.ownerWrite (fun _ h2 => h2.camCtrlWrite)))

theorem Keeps.execCamDiscoveryDone {s0 a1 a2 a3 s} (h : Keeps ⟨km, kn, kp, kt, kj, ko, kf, kd, kc, kl, ki, kz, kg, kx, ke⟩ s0 s) : OutKeeps ⟨km, kn, kp, kt, kj, ko, kf, kd, kc, kl, ki, kz, kg, kx, ke⟩ s0 (Machine.execCamDiscoveryDone a1 a2 a3 s) := by
  unfold Machine.execCamDiscoveryDone
  extract_lets -underBinder x1 x2 x3
  refine .next ?_
  have h4 : Keeps h.kept s0 x3 := h.put.put
  exact Keeps.ite h (Keeps.ite h4.put.post h4.put.showCamLanes.post)

theorem Keeps.execRetry {s0 a1 a2 s} (h : Keeps ⟨km, kn, kp, kt, kj, ko, kf, kd, kc, kl, ki, kz, kg, kx, false⟩ s0 s) : OutKeeps ⟨km, kn, kp, kt, kj, ko, kf, kd, kc, kl, ki, kz, kg, kx, false⟩ s0 (Machine.execRetry a1 a2 s) := by
  unfold Machine.execRetry
  exact .next (Keeps.ite h (h.ownerWrite (fun _ h2 => (Keeps.ite h2.discover h2))))

theorem Keeps.execStCamLinkDown {s0 a1 s} (h : Keeps ⟨km, kn, kp, kt, kj, ko, kf, kd, kc, kl, ki, kz, kg, kx, ke⟩ s0 s) : OutKeeps ⟨km, kn, kp, kt, kj, ko, kf, kd, kc, kl, ki, kz, kg, kx, ke⟩ s0 (Machine.execStCamLinkDown a1 s) := by
  unfold Machine.execStCamLinkDown
  exact .next (Keeps.ite h h.post.discover)

theorem Keeps.ccSend {s0 s a2} (h : Keeps ⟨km, kn, kp, kt, kj, ko, kf, kd, kc, kl, false, kz, kg, kx, ke⟩ s0 s) : Keeps ⟨km, kn, kp, kt, kj, ko, kf, kd, kc, kl, false, kz, kg, kx, ke⟩ s0 (State.ccSend s a2) := by
  unfold State.ccSend
  extract_lets -underBinder x1 x2 x3
  have h4 : Keeps h.kept s0 x3 := h.send.put
  exact h4.setCam

theorem Keeps.ccWrite {s0 s a2 a3} (h : Keeps ⟨km, kn, kp, kt, kj, ko, kf, kd, kc, kl, false, kz, kg, kx, ke⟩ s0 s) : Keeps ⟨km, kn, kp, kt, kj, ko, kf, kd, kc, kl, false, kz, kg, kx, ke⟩ s0 (State.ccWrite s a2 a3) := by
  unfold State.ccWrite
  extract_lets -underBinder x1 x2 x3
  have h4 : Keeps h.kept s0 x3 := h.hostSet
  refine (Keeps.ite h4 (Keeps.ite h4.put ?_))
  split
  · exact h4.sendWrite.put
  · exact h4.ccSend

theorem Keeps.execSend {s0 a1 a2 a3 s} (h : Keeps ⟨km, kn, kp, kt, kj, ko, kf, kd, kc, kl, false, kz, kg, kx, false⟩ s0 s) : OutKeeps ⟨km, kn, kp, kt, kj, ko, kf, kd, kc, kl, false, kz, kg, kx, false⟩ s0 (Machine.execSend a1 a2 a3 s) := by
  unfold Machine.execSend
  exact .next (Keeps.ite h (h.ownerWrite (fun _ h2 => h2.ccWrite)))

theorem Keeps.execStCamCcDone {s0 a1 a2 a3 s} (h : Keeps ⟨km, kn, kp, kt, kj, ko, kf, kd, kc, kl, false, kz, kg, kx, ke⟩ s0 s) : OutKeeps ⟨km, kn, kp, kt, kj, ko, kf, kd, kc, kl, false, kz, kg, kx, ke⟩ s0 (Machine.execStCamCcDone a1 a2 a3 s) := by
  unfold Machine.execStCamCcDone
  refine .next ?_
  refine (Keeps.ite h ?_)
  split
  · exact (Keeps.ite h.setAcked h.setFails).ccNext
  · extract_lets -underBinder x6 x7 x8
    have h9 : Keeps h.kept s0 x7 := h.setWords
    have h10 : Keeps h.kept s0 x8 := h9.put.put
    exact h10.post.ccNext

theorem Keeps.execStCamCcTimeout {s0 a1 s} (h : Keeps ⟨km, kn, kp, kt, kj, ko, kf, kd, kc, kl, false, kz, kg, kx, ke⟩ s0 s) : OutKeeps ⟨km, kn, kp, kt, kj, ko, kf, kd, kc, kl, false, kz, kg, kx, ke⟩ s0 (Machine.execStCamCcTimeout a1 s) := by
  unfold Machine.execStCamCcTimeout
  refine .next ?_
  refine (Keeps.ite h ?_)
  split
  · exact h.setFails.ccNext
  · exact h.put.post.ccNext

theorem Keeps.execStCamEvent {s0 a1 a2 s} (h : Keeps ⟨km, kn, kp, kt, kj, ko, kf, kd, kc, kl, ki, kz, kg, kx, ke⟩ s0 s) : OutKeeps ⟨km, kn, kp, kt, kj, ko, kf, kd, kc, kl, ki, kz, kg, kx, ke⟩ s0 (Machine.execStCamEvent a1 a2 s) := by
  unfold Machine.execStCamEvent
  extract_lets -underBinder x1 x2 x3
  refine .next ?_
  have h4 : Keeps h.kept s0 x2 := h.setWords
  have h5 : Keeps h.kept s0 x3 := h4.put.count
  exact Keeps.ite h (Keeps.ite h.put h5.post)

theorem Keeps.cameraTrigger {s0 s a2 a3} (h : Keeps ⟨false, kn, kp, kt, false, false, kf, false, false, kl, false, kz, false, kx, ke⟩ s0 s) : Keeps ⟨false, kn, kp, kt, false, false, kf, false, false, kl, false, kz, false, kx, ke⟩ s0 (State.cameraTrigger s a2 a3) := by
  unfold State.cameraTrigger
  extract_lets -underBinder x1 x2 x3 x4
  have h5 : Keeps h.kept s0 x2 := h.setsTake
  have h6 : Keeps h.kept s0 x3 := h5.count.pmcAdd
  have h7 : Keeps h.kept s0 x4 := h6.setCam
  exact Keeps.ite h7.openFrame.tellOnce.lineAbsent h5.send.count.setCam

theorem Keeps.execCameraTrigger {s0 a1 s} (h : Keeps ⟨false, kn, kp, kt, false, false, kf, false, false, kl, false, kz, false, kx, ke⟩ s0 s) : OutKeeps ⟨false, kn, kp, kt, false, false, kf, false, false, kl, false, kz, false, kx, ke⟩ s0 (Machine.execCameraTrigger a1 s) := by
  unfold Machine.execCameraTrigger
  refine .next ?_
  split
  · exact h
  · exact Keeps.ite h h.cameraTrigger

theorem Keeps.receiveLine {s0 s a2 a3 a4} (h : Keeps ⟨false, kn, kp, kt, false, false, kf, false, false, kl, false, kz, false, kx, ke⟩ s0 s) : Keeps ⟨false, kn, kp, kt, false, false, kf, false, false, kl, false, kz, false, kx, ke⟩ s0 (State.receiveLine s a2 a3 a4) := by
  unfold State.receiveLine
  extract_lets -underBinder x1
  have h2 : Keeps h.kept s0 x1 := h.count.setCam
  refine (Keeps.ite h2.postLimited ?_)
  split
  · extract_lets -underBinder x5
    have h6 : Keeps h.kept s0 x5 := h2.count.pmcAdd
    split
    · exact h6.tellOnce
    · exact h6.post
  · extract_lets -underBinder x15 x16 x17
    have h18 : Keeps h.kept s0 x16 := h2.count.pmcAdd.put64
    have h19 : Keeps h.kept s0 x17 := h18.setCam
    exact h19.lineFate

theorem Keeps.execCameraLineReceive {s0 a1 a2 a3 a4 a5 a6 s} (h : Keeps ⟨false, kn, kp, kt, false, false, kf, false, false, kl, false, kz, false, kx, ke⟩ s0 s) : OutKeeps ⟨false, kn, kp, kt, false, false, kf, false, false, kl, false, kz, false, kx, ke⟩ s0 (Machine.execCameraLineReceive a1 a2 a3 a4 a5 a6 s) := by
  unfold Machine.execCameraLineReceive
  exact .next (Keeps.ite h h.receiveLine)

theorem Keeps.execLineWindowClose {s0 a1 s} (h : Keeps ⟨false, kn, kp, kt, false, false, kf, false, false, kl, false, kz, false, kx, ke⟩ s0 s) : OutKeeps ⟨false, kn, kp, kt, false, false, kf, false, false, kl, false, kz, false, kx, ke⟩ s0 (Machine.execLineWindowClose a1 s) := by
  unfold Machine.execLineWindowClose
  refine .next ?_
  split
  · exact h
  · extract_lets -underBinder x6 x7
    have h8 : Keeps h.kept s0 x7 := h.setCam
    exact Keeps.ite h h8.openFrame.tellOnce.lineAbsent

theorem Keeps.startCapture {s0 s a2 a3} (h : Keeps ⟨km, kn, kp, kt, kj, ko, kf, kd, kc, kl, false, kz, kg, kx, ke⟩ s0 s) : Keeps ⟨km, kn, kp, kt, kj, ko, kf, kd, kc, kl, false, kz, kg, kx, ke⟩ s0 (State.startCapture s a2 a3) := by
  unfold State.startCapture
  extract_lets -underBinder x1
  refine (Keeps.ite h.markStarted.complete (Keeps.ite h.markStarted.complete ?_))
  split
  · exact h
  · extract_lets -underBinder x8 x9 x10
    have h11 : Keeps h.kept s0 x9 := h.markStarted
    exact Keeps.ite h11.complete (Keeps.ite h11.complete (Keeps.ite h11.complete h11.setIns))

theorem Keeps.execCapture {s0 a1 s} (h : Keeps ⟨km, kn, kp, kt, kj, ko, kf, kd, kc, kl, false, kz, kg, kx, ke⟩ s0 s) : OutKeeps ⟨km, kn, kp, kt, kj, ko, kf, kd, kc, kl, false, kz, kg, kx, ke⟩ s0 (Machine.execCapture a1 s) := by
  unfold Machine.execCapture
  refine .next ?_
  split
  · exact h
  · exact h.startCapture

theorem Keeps.execStats {s0 a1 s} (h : Keeps ⟨km, kn, kp, kt, kj, ko, kf, kd, kc, kl, false, kz, kg, kx, ke⟩ s0 s) : OutKeeps ⟨km, kn, kp, kt, kj, ko, kf, kd, kc, kl, false, kz, kg, kx, ke⟩ s0 (Machine.execStats a1 s) := by
  unfold Machine.execStats
  refine .next ?_
  split
  · exact h
  · extract_lets -underBinder x6
    have h7 : Keeps h.kept s0 x6 := h.markStarted
    exact Keeps.ite h7.complete (Keeps.ite h7.complete h7.setIns)

theorem Keeps.writeStat {s0 s a2 a3 a4 a5 a6} (h : Keeps ⟨km, kn, kp, kt, kj, ko, kf, kd, kc, kl, false, kz, kg, kx, ke⟩ s0 s) : Keeps ⟨km, kn, kp, kt, kj, ko, kf, kd, kc, kl, false, kz, kg, kx, ke⟩ s0 (State.writeStat s a2 a3 a4 a5 a6) := by
  unfold State.writeStat
  extract_lets -underBinder x1 x2 x3 x4 x5
  have h6 : Keeps h.kept s0 x4 := h.send
  have h7 : Keeps h.kept s0 x5 := h6.setIns
  exact Keeps.ite h7.setIns.complete h7.setIns

theorem Keeps.execStatsRecordWrite {s0 s} (h : Keeps ⟨km, kn, kp, kt, kj, ko, kf, kd, kc, kl, false, kz, kg, kx, ke⟩ s0 s) : OutKeeps ⟨km, kn, kp, kt, kj, ko, kf, kd, kc, kl, false, kz, kg, kx, ke⟩ s0 (Machine.execStatsRecordWrite s) := by
  unfold Machine.execStatsRecordWrite
  refine .next ?_
  split
  · exact h
  · refine (Keeps.ite h.setIns.pmcAdd ?_)
    split
    · exact h
    · split
      · exact h.setIns
      · exact h.writeStat

theorem Keeps.setload {s0 s a2 a3 a4} (h : Keeps ⟨km, kn, kp, kt, kj, ko, kf, kd, kc, kl, false, kz, kg, kx, ke⟩ s0 s) : Keeps ⟨km, kn, kp, kt, kj, ko, kf, kd, kc, kl, false, kz, kg, kx, ke⟩ s0 (State.setload s a2 a3 a4) := by
  unfold State.setload
  extract_lets -underBinder x1 x2
  refine (Keeps.ite h.markStarted.complete ?_)
  split
  · exact h
  · extract_lets -underBinder x9 x10 x11 x12 x13
    have h14 : Keeps h.kept s0 x9 := h.markStarted
    have h15 : Keeps h.kept s0 x12 := h14.setCam
    have h16 : Keeps h.kept s0 x13 := h15.put
    exact Keeps.ite h14.complete h16.showSets.complete

theorem Keeps.execSetload {s0 a1 a2 s} (h : Keeps ⟨km, kn, kp, kt, kj, ko, kf, kd, kc, kl, false, kz, kg, kx, ke⟩ s0 s) : OutKeeps ⟨km, kn, kp, kt, kj, ko, kf, kd, kc, kl, false, kz, kg, kx, ke⟩ s0 (Machine.execSetload a1 a2 s) := by
  unfold Machine.execSetload
  refine .next ?_
  split
  · exact h
  · exact h.setload

theorem Keeps.replayDesc {s0 s a2 a3 a4} (h : Keeps ⟨km, kn, kp, kt, kj, ko, kf, kd, kc, kl, false, kz, kg, kx, ke⟩ s0 s) : Keeps ⟨km, kn, kp, kt, kj, ko, kf, kd, kc, kl, false, kz, kg, kx, ke⟩ s0 (State.replayDesc s a2 a3 a4) := by
  unfold State.replayDesc
  extract_lets -underBinder x1 x2
  have h3 : Keeps h.kept s0 x2 := h.markStarted
  refine (Keeps.ite h3.complete (Keeps.ite h3.complete (Keeps.ite h3.complete ?_)))
  split
  · exact h3.complete
  · exact h3.setIns

theorem Keeps.replayOut {s0 s a2 a3} (h : Keeps ⟨km, kn, kp, kt, kj, ko, kf, kd, kc, kl, ki, kz, kg, kx, ke⟩ s0 s) : Keeps ⟨km, kn, kp, kt, kj, ko, kf, kd, kc, kl, ki, kz, kg, kx, ke⟩ s0 (State.replayOut s a2 a3) := by
  unfold State.replayOut
  extract_lets -underBinder x1 x2 x3
  split
  · exact h
  · extract_lets -underBinder x9 x10
    exact Keeps.ite h h.send

theorem Keeps.memPath {s0 s} (h : Keeps ⟨km, kn, kp, kt, kj, ko, kf, kd, kc, kl, false, kz, kg, kx, ke⟩ s0 s) : Keeps ⟨km, kn, kp, kt, kj, ko, kf, kd, kc, kl, false, kz, kg, kx, ke⟩ s0 (State.memPath s) := by
  unfold State.memPath
  split
  · exact h
  · split
    · exact h.setIns
    · split
      · exact Keeps.ite h h.setIns
      · extract_lets -underBinder x17
        have h18 : Keeps h.kept s0 x17 := h.replayOut
        exact Keeps.ite h (Keeps.ite h18.setIns.complete h18.setIns)

theorem Keeps.execReplay {s0 a1 a2 s} (h : Keeps ⟨km, kn, kp, kt, kj, ko, kf, kd, kc, kl, false, kz, kg, kx, ke⟩ s0 s) : OutKeeps ⟨km, kn, kp, kt, kj, ko, kf, kd, kc, kl, false, kz, kg, kx, ke⟩ s0 (Machine.execReplay a1 a2 s) := by
  unfold Machine.execReplay
  refine .next ?_
  split
  · exact h
  · exact h.replayDesc

theorem Keeps.execSetCameraWrites {s0 a1 a2 s} (h : Keeps ⟨km, kn, kp, kt, kj, ko, kf, kd, kc, kl, false, kz, kg, kx, ke⟩ s0 s) : OutKeeps ⟨km, kn, kp, kt, kj, ko, kf, kd, kc, kl, false, kz, kg, kx, ke⟩ s0 (Machine.execSetCameraWrites a1 a2 s) := by
  unfold Machine.execSetCameraWrites
  refine .next ?_
  split
  · exact h
  · exact Keeps.ite h (Keeps.ite h.pmcAdd (Keeps.ite h.setCam h.sendWrite))

end Sys2Proof.Machine
end

