-- ==== Sys2Proof/Laws/KeepsEngines.lean ====
section
/-! SUPPORT. What the operations on the engines, the memories, faults and lanes keep: the queue, the canonical maps and every part of the state that the operation does not change (the parts that its lemma leaves free). One lemma for each operation. -/

namespace Sys2Proof.Machine

variable {km kn kp kt kj ko kf kd kc kl ki kz kg kx ke : Bool}
variable {k : Kept}

theorem Keeps.setLine {s0 s a2 a3} (h : Keeps ⟨km, kn, kp, kt, false, ko, kf, kd, kc, kl, ki, kz, kg, kx, ke⟩ s0 s) : Keeps ⟨km, kn, kp, kt, false, ko, kf, kd, kc, kl, ki, kz, kg, kx, ke⟩ s0 (State.setLine s a2 a3) := by
  unfold State.setLine
  exact h.setJobs

theorem Keeps.execSegmentFetch {s0 a1 a2 a3 s} (h : Keeps ⟨km, kn, kp, kt, false, ko, kf, kd, kc, kl, ki, kz, false, kx, ke⟩ s0 s) : OutKeeps ⟨km, kn, kp, kt, false, ko, kf, kd, kc, kl, ki, kz, false, kx, ke⟩ s0 (Machine.execSegmentFetch a1 a2 a3 s) := by
  unfold Machine.execSegmentFetch
  refine .next ?_
  split
  · exact h
  · refine (Keeps.ite h ?_)
    split
    · exact h
    · extract_lets -underBinder x11 x12 x13
      have h14 : Keeps h.kept s0 x13 := h.setLine
      exact h14.tickFetch

theorem Keeps.execTickReadComplete {s0 a1 a2 a3 a4 s} (h : Keeps ⟨km, kn, kp, kt, false, ko, kf, kd, kc, kl, ki, kz, false, kx, ke⟩ s0 s) : OutKeeps ⟨km, kn, kp, kt, false, ko, kf, kd, kc, kl, ki, kz, false, kx, ke⟩ s0 (Machine.execTickReadComplete a1 a2 a3 a4 s) := by
  unfold Machine.execTickReadComplete
  refine .next ?_
  split
  · exact h
  · exact h.tickDone.setLine

theorem Keeps.pipeWorks {s0 s a2 a3} (h : Keeps ⟨km, kn, kp, kt, false, ko, kf, kd, kc, kl, ki, kz, kg, kx, ke⟩ s0 s) : Keeps ⟨km, kn, kp, kt, false, ko, kf, kd, kc, kl, ki, kz, kg, kx, ke⟩ s0 (State.pipeWorks s a2 a3) := by
  unfold State.pipeWorks
  exact h.setEng

theorem Keeps.compose {s0 s a2 a3} (h : Keeps ⟨km, kn, kp, kt, false, ko, kf, kd, kc, kl, ki, kz, kg, kx, ke⟩ s0 s) : Keeps ⟨km, kn, kp, kt, false, ko, kf, kd, kc, kl, ki, kz, kg, kx, ke⟩ s0 (State.compose s a2 a3) := by
  unfold State.compose
  split
  · extract_lets -underBinder x5
    have h6 : Keeps h.kept s0 x5 := h.setLine
    exact h6.setEng

theorem Keeps.execEngineLineCompute {s0 a1 a2 a3 s} (h : Keeps ⟨km, kn, kp, kt, false, ko, kf, false, kc, false, ki, kz, kg, kx, ke⟩ s0 s) : OutKeeps ⟨km, kn, kp, kt, false, ko, kf, false, kc, false, ki, kz, kg, kx, ke⟩ s0 (Machine.execEngineLineCompute a1 a2 a3 s) := by
  unfold Machine.execEngineLineCompute
  refine .next ?_
  split
  · exact h
  · extract_lets -underBinder x6
    refine (Keeps.ite h (Keeps.ite h.setLine ?_))
    split
    · exact h
    · extract_lets -underBinder x12
      have h14 : Keeps h.kept s0 x12 := (h.each (fun _ _ h15 => h15.compose)).tellDigest
      exact h14.pipeWorks

theorem Keeps.takeMap {s0 s} (h : Keeps ⟨km, kn, kp, kt, kj, ko, kf, false, kc, false, ki, kz, kg, kx, ke⟩ s0 s) : Keeps ⟨km, kn, kp, kt, kj, ko, kf, false, kc, false, ki, kz, kg, kx, ke⟩ s0 (State.takeMap s) := by
  unfold State.takeMap
  extract_lets -underBinder x1
  have h3 : Keeps h.kept s0 x1 := h.each (fun _ _ h4 => h4.setWord)
  exact h3.put.refreshFab.refreshCeil

theorem Keeps.commitMap {s0 s a2} (h : Keeps ⟨km, kn, kp, kt, kj, ko, kf, false, kc, false, ki, kz, kg, kx, ke⟩ s0 s) : Keeps ⟨km, kn, kp, kt, kj, ko, kf, false, kc, false, ki, kz, kg, kx, ke⟩ s0 (State.commitMap s a2) := by
  unfold State.commitMap
  extract_lets -underBinder x1
  exact h.put.when (fun _ h3 => h3.takeMap)

theorem Keeps.execFabMapCommit {s0 a1 a2 s} (h : Keeps ⟨km, kn, kp, kt, kj, ko, kf, false, kc, false, ki, kz, kg, kx, false⟩ s0 s) : OutKeeps ⟨km, kn, kp, kt, kj, ko, kf, false, kc, false, ki, kz, kg, kx, false⟩ s0 (Machine.execFabMapCommit a1 a2 s) := by
  unfold Machine.execFabMapCommit
  extract_lets -underBinder x1
  exact .next (h.ownerWrite (fun _ h4 => (h4.trigger (fun _ h5 => h5.commitMap))))

theorem Keeps.commitMove {s0 s} (h : Keeps ⟨km, kn, kp, kt, false, ko, kf, kd, kc, kl, ki, kz, kg, kx, ke⟩ s0 s) : Keeps ⟨km, kn, kp, kt, false, ko, kf, kd, kc, kl, ki, kz, kg, kx, ke⟩ s0 (State.commitMove s) := by
  unfold State.commitMove
  extract_lets -underBinder x1 x2 x3
  exact h.put.when (fun _ h5 => h5.beginMove)

theorem Keeps.execFabMoveCommit {s0 a1 a2 s} (h : Keeps ⟨km, kn, kp, kt, false, ko, kf, kd, kc, kl, ki, kz, kg, kx, false⟩ s0 s) : OutKeeps ⟨km, kn, kp, kt, false, ko, kf, kd, kc, kl, ki, kz, kg, kx, false⟩ s0 (Machine.execFabMoveCommit a1 a2 s) := by
  unfold Machine.execFabMoveCommit
  exact .next (h.ownerWrite (fun _ h3 => (h3.trigger (fun _ h4 => h4.commitMove))))

theorem Keeps.execFabMoveLoadDone {s0 a1 s} (h : Keeps ⟨km, kn, kp, kt, false, ko, kf, false, kc, false, ki, kz, kg, kx, ke⟩ s0 s) : OutKeeps ⟨km, kn, kp, kt, false, ko, kf, false, kc, false, ki, kz, kg, kx, ke⟩ s0 (Machine.execFabMoveLoadDone a1 s) := by
  unfold Machine.execFabMoveLoadDone
  refine .next ?_
  split
  · exact h
  · extract_lets -underBinder x6 x7
    have h8 : Keeps h.kept s0 x7 := h.setEng
    exact Keeps.ite h (Keeps.ite h8.finishMove h8.settleMove)

theorem Keeps.spotMismatch {s0 s a2 a3 a4} (h : Keeps ⟨km, kn, kp, kt, false, ko, kf, kd, kc, kl, ki, kz, kg, kx, false⟩ s0 s) : Keeps ⟨km, kn, kp, kt, false, ko, kf, kd, kc, kl, ki, kz, kg, kx, false⟩ s0 (State.spotMismatch s a2 a3 a4) := by
  unfold State.spotMismatch
  extract_lets -underBinder x1 x2 x3 x4 x5
  have h6 : Keeps h.kept s0 x3 := h.count.put.post
  have h7 : Keeps h.kept s0 x4 := h6.errRecord
  have h8 : Keeps h.kept s0 x5 := h7.setEng.engineTest
  split
  · exact h8
  · exact Keeps.ite h8 h8.setLine

theorem Keeps.execSpotCheck {s0 a1 a2 a3 a4 s} (h : Keeps ⟨km, kn, kp, kt, false, ko, kf, kd, kc, kl, ki, kz, kg, kx, false⟩ s0 s) : OutKeeps ⟨km, kn, kp, kt, false, ko, kf, kd, kc, kl, ki, kz, kg, kx, false⟩ s0 (Machine.execSpotCheck a1 a2 a3 a4 s) := by
  unfold Machine.execSpotCheck
  extract_lets -underBinder x1 x2
  refine .next ?_
  clear_value x2
  split
  · exact h
  · exact Keeps.ite h (Keeps.ite h.count (h.count.when (fun _ h7 => h7.spotMismatch)))

theorem Keeps.execSeSelftest {s0 a1 a2 s} (h : Keeps ⟨km, kn, kp, kt, false, ko, kf, kd, kc, kl, ki, kz, kg, kx, false⟩ s0 s) : OutKeeps ⟨km, kn, kp, kt, false, ko, kf, kd, kc, kl, ki, kz, kg, kx, false⟩ s0 (Machine.execSeSelftest a1 a2 s) := by
  unfold Machine.execSeSelftest
  exact .next (h.ownerWrite (fun _ h3 => (h3.when (fun _ h4 => h4.engineTest))))

theorem Keeps.engineOutcome {s0 s a2 a3} (h : Keeps ⟨km, kn, kp, kt, false, ko, kf, kd, kc, kl, ki, kz, kg, kx, ke⟩ s0 s) : Keeps ⟨km, kn, kp, kt, false, ko, kf, kd, kc, kl, ki, kz, kg, kx, ke⟩ s0 (State.engineOutcome s a2 a3) := by
  unfold State.engineOutcome
  extract_lets -underBinder x1 x2
  have h4 : Keeps h.kept s0 x2 := h.setEng
  exact h4.each (fun _ _ h6 => h6.errOutcome)

theorem Keeps.engineTestEnds {s0 s a2 a3 a4} (h : Keeps ⟨km, kn, kp, kt, false, ko, kf, kd, kc, kl, ki, kz, kg, kx, ke⟩ s0 s) : Keeps ⟨km, kn, kp, kt, false, ko, kf, kd, kc, kl, ki, kz, kg, kx, ke⟩ s0 (State.engineTestEnds s a2 a3 a4) := by
  unfold State.engineTestEnds
  extract_lets -underBinder x1 x2 x3 x4
  have h6 : Keeps h.kept s0 x1 := h.setEng
  have h7 : Keeps h.kept s0 x2 := h6.put.put
  have h8 : Keeps h.kept s0 x3 := h7.engineOutcome
  have h9 : Keeps h.kept s0 x4 := h8.put.post
  exact Keeps.ite h8.post.engineGoesOut (Keeps.ite h9.put.refreshFab (Keeps.ite h9 (h9.each (fun _ _ h11 => h11.put)).markOut.showCheckers.refreshFab))

theorem Keeps.execSeSelftestDone {s0 a1 a2 s} (h : Keeps ⟨km, kn, kp, kt, false, ko, kf, kd, kc, kl, ki, kz, kg, kx, ke⟩ s0 s) : OutKeeps ⟨km, kn, kp, kt, false, ko, kf, kd, kc, kl, ki, kz, kg, kx, ke⟩ s0 (Machine.execSeSelftestDone a1 a2 s) := by
  unfold Machine.execSeSelftestDone
  refine .next ?_
  split
  · exact h
  · exact h.engineTestEnds

theorem Keeps.execSeSelftestTimeout {s0 a1 s} (h : Keeps ⟨km, kn, kp, kt, false, ko, kf, kd, kc, kl, ki, kz, kg, kx, ke⟩ s0 s) : OutKeeps ⟨km, kn, kp, kt, false, ko, kf, kd, kc, kl, ki, kz, kg, kx, ke⟩ s0 (Machine.execSeSelftestTimeout a1 s) := by
  unfold Machine.execSeSelftestTimeout
  refine .next ?_
  split
  · exact h
  · exact Keeps.ite h h.engineTestEnds

theorem Keeps.setErr {s0 s a2} (h : Keeps ⟨km, kn, kp, kt, kj, ko, kf, kd, kc, kl, ki, kz, kg, kx, false⟩ s0 s) : Keeps ⟨km, kn, kp, kt, kj, ko, kf, kd, kc, kl, ki, kz, kg, kx, false⟩ s0 (State.setErr s a2) := by
  unfold State.setErr
  exact h.chErr

theorem Keeps.ringError {s0 s a2} (h : Keeps ⟨km, kn, kp, kt, kj, ko, kf, kd, kc, kl, ki, kz, kg, kx, ke⟩ s0 s) : Keeps ⟨km, kn, kp, kt, kj, ko, kf, kd, kc, kl, ki, kz, kg, kx, ke⟩ s0 (State.ringError s a2) := by
  unfold State.ringError
  exact Keeps.ite h h.put.put.post

theorem Keeps.cameraLineLost {s0 s a2 a3} (h : Keeps ⟨false, kn, kp, kt, false, false, kf, false, false, kl, false, kz, false, kx, ke⟩ s0 s) : Keeps ⟨false, kn, kp, kt, false, false, kf, false, false, kl, false, kz, false, kx, ke⟩ s0 (State.cameraLineLost s a2 a3) := by
  unfold State.cameraLineLost
  refine (Keeps.ite h.setCam.count.pmcAdd ?_)
  split
  · exact h
  · extract_lets -underBinder x6
    exact h.setCam.openFrame.lineAbsent

theorem Keeps.contextLost {s0 s a2} (h : Keeps ⟨km, kn, kp, kt, kj, ko, kf, kd, kc, kl, ki, false, kg, kx, ke⟩ s0 s) : Keeps ⟨km, kn, kp, kt, kj, ko, kf, kd, kc, kl, ki, false, kg, kx, ke⟩ s0 (State.contextLost s a2) := by
  unfold State.contextLost
  exact (h.each (fun _ _ h2 => h2.zipFails)).ctxState

theorem Keeps.sramLost {s0 s a2} (h : Keeps ⟨false, kn, false, kt, false, false, false, false, false, false, false, false, false, kx, ke⟩ s0 s) : Keeps ⟨false, kn, false, kt, false, false, false, false, false, false, false, false, false, kx, ke⟩ s0 (State.sramLost s a2) := by
  unfold State.sramLost
  exact Keeps.ite (Keeps.ite (h.each (fun _ _ h2 => h2.lineLate)) h.engineGoesOut.engineTest) (Keeps.ite h.freeze (Keeps.ite h.cameraLineLost (Keeps.ite h.ringError (Keeps.ite h.contextLost h.setPwr.safeStop))))

theorem Keeps.hitTest {s0 s a2 a3 a4 a5} (h : Keeps ⟨km, kn, kp, kt, kj, ko, kf, kd, kc, kl, ki, kz, kg, kx, false⟩ s0 s) : Keeps ⟨km, kn, kp, kt, kj, ko, kf, kd, kc, kl, ki, kz, kg, kx, false⟩ s0 (State.hitTest s a2 a3 a4 a5) := by
  unfold State.hitTest
  extract_lets -underBinder x1
  exact Keeps.ite h.setErr h.testStarted.setErr

theorem Keeps.sramHit {s0 a1 s} (h : Keeps ⟨false, kn, false, kt, false, false, false, false, false, false, false, false, false, kx, false⟩ s0 s) : Keeps ⟨false, kn, false, kt, false, false, false, false, false, false, false, false, false, kx, false⟩ s0 (State.sramHit a1 s) := by
  unfold State.sramHit
  extract_lets -underBinder x1 x2 x3 x4 x5 x6 x7 x8
  have h10 : Keeps h.kept s0 x6 := h.count.pmcAdd
  have h11 : Keeps h.kept s0 x7 := h10.errRecord
  have h12 : Keeps h.kept s0 x8 := h11.post.hitTest
  exact Keeps.ite h (h12.when (fun _ h14 => h14.sramLost))

theorem Keeps.showSpares {s0 s} (h : Keeps ⟨km, kn, kp, kt, kj, ko, kf, kd, kc, kl, ki, kz, kg, kx, ke⟩ s0 s) : Keeps ⟨km, kn, kp, kt, kj, ko, kf, kd, kc, kl, ki, kz, kg, kx, ke⟩ s0 (State.showSpares s) := by
  unfold State.showSpares
  extract_lets -underBinder x1
  exact h.drawn.put.put

theorem Keeps.rowFails {s0 s a2 a3} (h : Keeps ⟨km, kn, kp, kt, kj, ko, kf, kd, kc, kl, ki, kz, kg, kx, false⟩ s0 s) : Keeps ⟨km, kn, kp, kt, kj, ko, kf, kd, kc, kl, ki, kz, kg, kx, false⟩ s0 (State.rowFails s a2 a3) := by
  unfold State.rowFails
  extract_lets -underBinder x1 x2 x3 x4 x5 x6 x7
  have h8 : Keeps h.kept s0 x4 := h.setErr
  have h9 : Keeps h.kept s0 x5 := h.setErr
  have h10 : Keeps h.kept s0 x6 := h9.showSpares.count.pmcAdd
  have h11 : Keeps h.kept s0 x7 := h10.post
  exact Keeps.ite h8.put.post (Keeps.ite h11.setErr.post h11)

theorem Keeps.regionEnds {s0 s a2 a3} (h : Keeps ⟨km, kn, kp, kt, kj, ko, kf, kd, kc, kl, ki, kz, kg, kx, false⟩ s0 s) : Keeps ⟨km, kn, kp, kt, kj, ko, kf, kd, kc, kl, ki, kz, kg, kx, false⟩ s0 (State.regionEnds s a2 a3) := by
  unfold State.regionEnds
  extract_lets -underBinder x1 x2 x3 x4
  have h7 : Keeps h.kept s0 x2 := h.setErr
  have h9 : Keeps h.kept s0 x3 := h7.each (fun _ _ h10 => h10.rowFails)
  exact h9.each (fun _ _ h12 => h12.errOutcome)

theorem Keeps.execSramEccHit {s0 a1 s} (h : Keeps ⟨false, kn, false, kt, false, false, false, false, false, false, false, false, false, kx, false⟩ s0 s) : OutKeeps ⟨false, kn, false, kt, false, false, false, false, false, false, false, false, false, kx, false⟩ s0 (Machine.execSramEccHit a1 s) := by
  unfold Machine.execSramEccHit
  exact .next h.sramHit

theorem Keeps.execSramRegionTestDone {s0 a1 a2 a3 s} (h : Keeps ⟨km, kn, kp, kt, kj, ko, kf, kd, kc, kl, ki, kz, kg, kx, false⟩ s0 s) : OutKeeps ⟨km, kn, kp, kt, kj, ko, kf, kd, kc, kl, ki, kz, kg, kx, false⟩ s0 (Machine.execSramRegionTestDone a1 a2 a3 s) := by
  unfold Machine.execSramRegionTestDone
  refine .next ?_
  split
  · exact h
  · exact h.regionEnds

theorem Keeps.execSramScrub {s0 a1 s} (h : Keeps ⟨false, kn, false, kt, false, false, false, false, false, false, false, false, false, kx, false⟩ s0 s) : OutKeeps ⟨false, kn, false, kt, false, false, false, false, false, false, false, false, false, kx, false⟩ s0 (Machine.execSramScrub a1 s) := by
  unfold Machine.execSramScrub
  exact .next (h.when (fun _ h3 => (h3.each (fun _ _ h4 => h4.sramHit))))

theorem Keeps.execStErrLockstep {s0 a1 s} (h : Keeps ⟨false, kn, false, kt, false, false, false, false, false, false, false, kz, false, kx, false⟩ s0 s) : OutKeeps ⟨false, kn, false, kt, false, false, false, false, false, false, false, kz, false, kx, false⟩ s0 (Machine.execStErrLockstep a1 s) := by
  unfold Machine.execStErrLockstep
  extract_lets -underBinder x1 x2 x3 x4
  refine .next ?_
  have h5 : Keeps h.kept s0 x3 := h.count.pmcAdd
  have h6 : Keeps h.kept s0 x4 := h5.errRecord.post
  exact Keeps.ite h h6.freeze

theorem Keeps.shed {s0 s a2} (h : Keeps ⟨km, kn, kp, kt, kj, ko, kf, kd, kc, kl, ki, kz, kg, kx, false⟩ s0 s) : Keeps ⟨km, kn, kp, kt, kj, ko, kf, kd, kc, kl, ki, kz, kg, kx, false⟩ s0 (State.shed s a2) := by
  unfold State.shed
  exact h.put.setErr.post

theorem Keeps.execSvcLoadWindow {s0 a1 a2 s} (h : Keeps ⟨km, kn, kp, kt, kj, ko, kf, kd, kc, kl, ki, kz, kg, kx, false⟩ s0 s) : OutKeeps ⟨km, kn, kp, kt, kj, ko, kf, kd, kc, kl, ki, kz, kg, kx, false⟩ s0 (Machine.execSvcLoadWindow a1 a2 s) := by
  unfold Machine.execSvcLoadWindow
  extract_lets -underBinder x1 x2 x3 x4 x5 x6
  refine .next ?_
  have h7 : Keeps h.kept s0 x2 := h.put.put
  have h8 : Keeps h.kept s0 x6 := h7.setErr
  exact Keeps.ite h (Keeps.ite (Keeps.ite h8.shed h8) (Keeps.ite h8.shed h8))

theorem Keeps.pmcSnap {s0 s} (h : Keeps ⟨km, kn, kp, kt, kj, ko, kf, kd, kc, kl, ki, kz, kg, kx, ke⟩ s0 s) : Keeps ⟨km, kn, kp, kt, kj, ko, kf, kd, kc, kl, ki, kz, kg, kx, ke⟩ s0 (State.pmcSnap s) := by
  unfold State.pmcSnap
  extract_lets -underBinder x1 x2
  have h4 : Keeps h.kept s0 x2 := h.each (fun _ _ h5 => h5.put64)
  exact h4.put64.put

theorem Keeps.pmcClear {s0 s} (h : Keeps ⟨km, kn, kp, kt, kj, ko, kf, kd, kc, kl, ki, kz, kg, kx, ke⟩ s0 s) : Keeps ⟨km, kn, kp, kt, kj, ko, kf, kd, kc, kl, ki, kz, kg, kx, ke⟩ s0 (State.pmcClear s) := by
  unfold State.pmcClear
  extract_lets -underBinder x1 x2 x3 x4
  have h6 : Keeps h.kept s0 x4 := h.filtered.chTally
  exact h6.each (fun _ _ h8 => h8.put64)

theorem Keeps.pmcModeWrite {s0 s a2 a3 a4} (h : Keeps ⟨km, kn, kp, kt, kj, ko, kf, kd, kc, kl, ki, kz, kg, kx, ke⟩ s0 s) : Keeps ⟨km, kn, kp, kt, kj, ko, kf, kd, kc, kl, ki, kz, kg, kx, ke⟩ s0 (State.pmcModeWrite s a2 a3 a4) := by
  unfold State.pmcModeWrite
  extract_lets -underBinder x1 x2 x3
  have h4 : Keeps h.kept s0 x2 := h.writeFields
  exact h4.chTally

theorem Keeps.pmcCtrlWrite {s0 s a2 a3} (h : Keeps ⟨km, kn, kp, kt, kj, ko, kf, kd, kc, kl, ki, kz, kg, kx, ke⟩ s0 s) : Keeps ⟨km, kn, kp, kt, kj, ko, kf, kd, kc, kl, ki, kz, kg, kx, ke⟩ s0 (State.pmcCtrlWrite s a2 a3) := by
  unfold State.pmcCtrlWrite
  extract_lets -underBinder x1
  have h4 : Keeps h.kept s0 x1 := h.writeFields
  exact (h4.when (fun _ h7 => h7.pmcSnap)).when (fun _ h8 => h8.pmcClear)

theorem Keeps.execSnap {s0 a1 s} (h : Keeps ⟨km, kn, kp, kt, kj, ko, kf, kd, kc, kl, ki, kz, kg, kx, false⟩ s0 s) : OutKeeps ⟨km, kn, kp, kt, kj, ko, kf, kd, kc, kl, ki, kz, kg, kx, false⟩ s0 (Machine.execSnap a1 s) := by
  unfold Machine.execSnap
  exact .next (h.ownerWrite (fun _ h2 => h2.pmcCtrlWrite))

theorem Keeps.execClear {s0 a1 s} (h : Keeps ⟨km, kn, kp, kt, kj, ko, kf, kd, kc, kl, ki, kz, kg, kx, false⟩ s0 s) : OutKeeps ⟨km, kn, kp, kt, kj, ko, kf, kd, kc, kl, ki, kz, kg, kx, false⟩ s0 (Machine.execClear a1 s) := by
  unfold Machine.execClear
  exact .next (h.ownerWrite (fun _ h2 => h2.pmcCtrlWrite))

theorem Keeps.logClear {s0 s} (h : Keeps ⟨km, kn, kp, kt, kj, ko, kf, kd, kc, kl, ki, kz, kg, kx, false⟩ s0 s) : Keeps ⟨km, kn, kp, kt, kj, ko, kf, kd, kc, kl, ki, kz, kg, kx, false⟩ s0 (State.logClear s) := by
  unfold State.logClear
  extract_lets -underBinder x1 x2
  exact h.filtered.chErr

theorem Keeps.errCtrlWrite {s0 s a2 a3} (h : Keeps ⟨km, kn, kp, kt, kj, ko, kf, kd, kc, kl, ki, kz, kg, kx, false⟩ s0 s) : Keeps ⟨km, kn, kp, kt, kj, ko, kf, kd, kc, kl, ki, kz, kg, kx, false⟩ s0 (State.errCtrlWrite s a2 a3) := by
  unfold State.errCtrlWrite
  exact h.trigger (fun _ h2 => h2.logClear)

theorem Keeps.execClearLog {s0 a1 s} (h : Keeps ⟨km, kn, kp, kt, kj, ko, kf, kd, kc, kl, ki, kz, kg, kx, false⟩ s0 s) : OutKeeps ⟨km, kn, kp, kt, kj, ko, kf, kd, kc, kl, ki, kz, kg, kx, false⟩ s0 (Machine.execClearLog a1 s) := by
  unfold Machine.execClearLog
  exact .next (h.ownerWrite (fun _ h2 => h2.errCtrlWrite))

theorem Keeps.laneDrop {s0 a1 s} (h : Keeps ⟨km, kn, kp, kt, kj, ko, kf, kd, kc, kl, ki, kz, kg, kx, ke⟩ s0 s) : Keeps ⟨km, kn, kp, kt, kj, ko, kf, kd, kc, kl, ki, kz, kg, kx, ke⟩ s0 (State.laneDrop a1 s) := by
  unfold State.laneDrop
  exact h.put

theorem Keeps.txeqWrite {s0 s a2 a3 a4} (h : Keeps ⟨km, kn, kp, kt, kj, ko, kf, kd, kc, kl, ki, kz, kg, kx, ke⟩ s0 s) : Keeps ⟨km, kn, kp, kt, kj, ko, kf, kd, kc, kl, ki, kz, kg, kx, ke⟩ s0 (State.txeqWrite s a2 a3 a4) := by
  unfold State.txeqWrite
  extract_lets -underBinder x1
  exact Keeps.ite h.laneDrop h.writeFields

theorem Keeps.execLTxeqWrite {s0 a1 a2 a3 s} (h : Keeps ⟨km, kn, kp, kt, kj, ko, kf, kd, kc, kl, ki, kz, kg, kx, false⟩ s0 s) : OutKeeps ⟨km, kn, kp, kt, kj, ko, kf, kd, kc, kl, ki, kz, kg, kx, false⟩ s0 (Machine.execLTxeqWrite a1 a2 a3 s) := by
  unfold Machine.execLTxeqWrite
  exact .next (h.ownerWrite (fun _ h2 => h2.txeqWrite))

theorem Keeps.setRx {s0 a1 a2 s} (h : Keeps ⟨km, kn, kp, kt, kj, ko, kf, kd, kc, false, ki, kz, kg, kx, ke⟩ s0 s) : Keeps ⟨km, kn, kp, kt, kj, ko, kf, kd, kc, false, ki, kz, kg, kx, ke⟩ s0 (State.setRx a1 a2 s) := by
  unfold State.setRx
  exact h.put.put.setLane

theorem Keeps.rxeqWrite {s0 s a2 a3 a4} (h : Keeps ⟨km, kn, kp, kt, kj, ko, kf, kd, kc, false, ki, kz, kg, kx, ke⟩ s0 s) : Keeps ⟨km, kn, kp, kt, kj, ko, kf, kd, kc, false, ki, kz, kg, kx, ke⟩ s0 (State.rxeqWrite s a2 a3 a4) := by
  unfold State.rxeqWrite
  extract_lets -underBinder x1 x2 x3
  have h5 : Keeps h.kept s0 x3 := h.writeFields
  exact Keeps.ite h.laneDrop (Keeps.ite h.writeFields (h5.when (fun _ h7 => h7.adapt)))

theorem Keeps.setMarginal {s0 a1 s} (h : Keeps ⟨km, kn, kp, kt, kj, ko, kf, kd, kc, kl, ki, kz, kg, kx, ke⟩ s0 s) : Keeps ⟨km, kn, kp, kt, kj, ko, kf, kd, kc, kl, ki, kz, kg, kx, ke⟩ s0 (State.setMarginal a1 s) := by
  unfold State.setMarginal
  exact Keeps.ite h h.put.put.post

theorem Keeps.showEye {s0 a1 a2 a3 a4 s} (h : Keeps ⟨km, kn, kp, kt, kj, ko, kf, kd, kc, false, ki, kz, kg, kx, ke⟩ s0 s) : Keeps ⟨km, kn, kp, kt, kj, ko, kf, kd, kc, false, ki, kz, kg, kx, ke⟩ s0 (State.showEye a1 a2 a3 a4 s) := by
  unfold State.showEye
  extract_lets -underBinder x1 x2 x3
  have h4 : Keeps h.kept s0 x2 := h.put.put.put
  have h5 : Keeps h.kept s0 x3 := h4.put.put.setLane
  exact Keeps.ite h5 (Keeps.ite h5.put.setLane h5.setMarginal)

theorem Keeps.execEyeMeasureDone {s0 a1 a2 a3 s} (h : Keeps ⟨km, kn, kp, kt, kj, ko, kf, kd, kc, false, ki, kz, kg, kx, ke⟩ s0 s) : OutKeeps ⟨km, kn, kp, kt, kj, ko, kf, kd, kc, false, ki, kz, kg, kx, ke⟩ s0 (Machine.execEyeMeasureDone a1 a2 a3 s) := by
  unfold Machine.execEyeMeasureDone
  exact .next (h.when (fun _ h2 => h2.showEye))

theorem Keeps.execEyePeriodic {s0 a1 s} (h : Keeps ⟨km, kn, kp, kt, kj, ko, kf, kd, kc, false, ki, kz, kg, kx, ke⟩ s0 s) : OutKeeps ⟨km, kn, kp, kt, kj, ko, kf, kd, kc, false, ki, kz, kg, kx, ke⟩ s0 (Machine.execEyePeriodic a1 s) := by
  unfold Machine.execEyePeriodic
  extract_lets -underBinder x1
  exact .next (h.when (fun _ h4 => (h4.when (fun _ h5 => h5.adapt)).eyeStart))

theorem Keeps.sweepEnds {s0 a1 s} (h : Keeps ⟨km, kn, kp, kt, kj, ko, kf, kd, false, false, ki, kz, kg, kx, ke⟩ s0 s) : Keeps ⟨km, kn, kp, kt, kj, ko, kf, kd, false, false, ki, kz, kg, kx, ke⟩ s0 (State.sweepEnds a1 s) := by
  unfold State.sweepEnds
  extract_lets -underBinder x1 x2 x3
  have h6 : Keeps h.kept s0 x1 := h.setLane.setCal
  have h8 : Keeps h.kept s0 x2 := h6.when (fun _ h9 => h9.count)
  have h11 : Keeps h.kept s0 x3 := h8.when (fun _ h12 => h12.put)
  exact h11.sweepOn.sweepDone

theorem Keeps.reeqEnds {s0 a1 a2 a3 a4 s} (h : Keeps ⟨km, kn, kp, kt, kj, ko, kf, kd, false, false, ki, kz, kg, kx, ke⟩ s0 s) : Keeps ⟨km, kn, kp, kt, kj, ko, kf, kd, false, false, ki, kz, kg, kx, ke⟩ s0 (State.reeqEnds a1 a2 a3 a4 s) := by
  unfold State.reeqEnds
  extract_lets -underBinder x1 x2 x3 x4
  have h6 : Keeps h.kept s0 x2 := h.setLane
  have h7 : Keeps h.kept s0 x3 := by
    unfold x3
    refine (Keeps.setMarginal ?_)
    split
    · exact h6.setRx
    · exact h6
  have h13 : Keeps h.kept s0 x4 := Keeps.ite h6.setRx (Keeps.ite (Keeps.ite h7.showEye h7.eyeStart) (Keeps.ite h6.setRx.showEye (Keeps.ite h6.showEye h6.eyeStart)))
  exact h13.when (fun _ h15 => h15.sweepEnds)

theorem Keeps.execReeqDone {s0 a1 a2 a3 a4 s} (h : Keeps ⟨km, kn, kp, kt, kj, ko, kf, kd, false, false, ki, kz, kg, kx, ke⟩ s0 s) : OutKeeps ⟨km, kn, kp, kt, kj, ko, kf, kd, false, false, ki, kz, kg, kx, ke⟩ s0 (Machine.execReeqDone a1 a2 a3 a4 s) := by
  unfold Machine.execReeqDone
  exact .next (h.when (fun _ h2 => h2.reeqEnds))

theorem Keeps.lCtrlWrite {s0 s a2 a3 a4} (h : Keeps ⟨false, kn, false, kt, false, false, false, false, false, false, false, kz, false, kx, ke⟩ s0 s) : Keeps ⟨false, kn, false, kt, false, false, false, false, false, false, false, kz, false, kx, ke⟩ s0 (State.lCtrlWrite s a2 a3 a4) := by
  unfold State.lCtrlWrite
  extract_lets -underBinder x1 x2 x3 x4 x5 x6 x7 x8 x9 x10 x11
  have h17 : Keeps h.kept s0 x6 := h.writeFields
  have h19 : Keeps h.kept s0 x8 := h17.when (fun _ h20 => h20.putB)
  have h22 : Keeps h.kept s0 x9 := h19.when (fun _ h23 => h23.laneRestart)
  have h25 : Keeps h.kept s0 x10 := h22.when (fun _ h26 => h26.reeqStart)
  have h28 : Keeps h.kept s0 x11 := h25.when (fun _ h29 => h29.eyeStart)
  exact Keeps.ite h.laneDrop (h28.when (fun _ h31 => h31.laneTestDue))

theorem Keeps.lCtrlBits {s0 s a2 a3 a4} (h : Keeps ⟨false, kn, false, kt, false, false, false, false, false, false, false, kz, false, kx, false⟩ s0 s) : Keeps ⟨false, kn, false, kt, false, false, false, false, false, false, false, kz, false, kx, false⟩ s0 (State.lCtrlBits s a2 a3 a4) := by
  unfold State.lCtrlBits
  exact h.ownerWrite (fun _ h2 => h2.lCtrlWrite)

theorem Keeps.execEyeGo {s0 a1 a2 s} (h : Keeps ⟨false, kn, false, kt, false, false, false, false, false, false, false, kz, false, kx, false⟩ s0 s) : OutKeeps ⟨false, kn, false, kt, false, false, false, false, false, false, false, kz, false, kx, false⟩ s0 (Machine.execEyeGo a1 a2 s) := by
  unfold Machine.execEyeGo
  exact .next h.lCtrlBits

theorem Keeps.execReeq {s0 a1 a2 s} (h : Keeps ⟨false, kn, false, kt, false, false, false, false, false, false, false, kz, false, kx, false⟩ s0 s) : OutKeeps ⟨false, kn, false, kt, false, false, false, false, false, false, false, kz, false, kx, false⟩ s0 (Machine.execReeq a1 a2 s) := by
  unfold Machine.execReeq
  exact .next h.lCtrlBits

theorem Keeps.execLoop {s0 a1 a2 a3 s} (h : Keeps ⟨false, kn, false, kt, false, false, false, false, false, false, false, kz, false, kx, false⟩ s0 s) : OutKeeps ⟨false, kn, false, kt, false, false, false, false, false, false, false, kz, false, kx, false⟩ s0 (Machine.execLoop a1 a2 a3 s) := by
  unfold Machine.execLoop
  exact .next h.lCtrlBits

theorem Keeps.execLaneSelftest {s0 a1 a2 s} (h : Keeps ⟨false, kn, false, kt, false, false, false, false, false, false, false, kz, false, kx, false⟩ s0 s) : OutKeeps ⟨false, kn, false, kt, false, false, false, false, false, false, false, kz, false, kx, false⟩ s0 (Machine.execLaneSelftest a1 a2 s) := by
  unfold Machine.execLaneSelftest
  exact .next h.lCtrlBits

theorem Keeps.settleSlips {s0 s} (h : Keeps ⟨km, kn, kp, kt, kj, ko, kf, kd, kc, false, ki, kz, kg, kx, ke⟩ s0 s) : Keeps ⟨km, kn, kp, kt, kj, ko, kf, kd, kc, false, ki, kz, kg, kx, ke⟩ s0 (State.settleSlips s) := by
  unfold State.settleSlips
  exact h.each (fun _ _ h2 => h2.put.setLane)

theorem Keeps.slip {s0 a1 s} (h : Keeps ⟨false, kn, false, kt, false, false, false, false, false, false, false, kz, false, kx, ke⟩ s0 s) : Keeps ⟨false, kn, false, kt, false, false, false, false, false, false, false, kz, false, kx, ke⟩ s0 (State.slip a1 s) := by
  unfold State.slip
  extract_lets -underBinder x1 x2 x3 x4
  have h7 : Keeps h.kept s0 x2 := h.when (fun _ h8 => h8.put.count.lockGone)
  have h9 : Keeps h.kept s0 x3 := h7.put
  have h10 : Keeps h.kept s0 x4 := h9.put.setLane
  exact h10.when (fun _ h12 => h12.laneRestart)

theorem Keeps.lBsWrite {s0 s a2 a3 a4} (h : Keeps ⟨false, kn, false, kt, false, false, false, false, false, false, false, kz, false, kx, ke⟩ s0 s) : Keeps ⟨false, kn, false, kt, false, false, false, false, false, false, false, kz, false, kx, ke⟩ s0 (State.lBsWrite s a2 a3 a4) := by
  unfold State.lBsWrite
  extract_lets -underBinder x1 x2
  have h3 : Keeps h.kept s0 x1 := h.settleSlips
  have h4 : Keeps h.kept s0 x2 := h3.writeFields
  exact Keeps.ite h3.laneDrop (Keeps.ite h4 (Keeps.ite h4.laneDrop h4.slip))

theorem Keeps.execBitslip {s0 a1 a2 s} (h : Keeps ⟨false, kn, false, kt, false, false, false, false, false, false, false, kz, false, kx, false⟩ s0 s) : OutKeeps ⟨false, kn, false, kt, false, false, false, false, false, false, false, kz, false, kx, false⟩ s0 (Machine.execBitslip a1 a2 s) := by
  unfold Machine.execBitslip
  exact .next (h.ownerWrite (fun _ h2 => h2.lBsWrite))

theorem Keeps.lPrbsWrite {s0 s a2 a3 a4} (h : Keeps ⟨false, kn, false, kt, false, false, false, false, false, false, false, kz, false, kx, ke⟩ s0 s) : Keeps ⟨false, kn, false, kt, false, false, false, false, false, false, false, kz, false, kx, ke⟩ s0 (State.lPrbsWrite s a2 a3 a4) := by
  unfold State.lPrbsWrite
  extract_lets -underBinder x1 x2 x3 x4 x5 x6 x7
  have h11 : Keeps h.kept s0 x5 := h.writeFields
  have h13 : Keeps h.kept s0 x6 := h11.when (fun _ h14 => h14.laneRestart)
  have h16 : Keeps h.kept s0 x7 := h13.when (fun _ h17 => h17.put64.setLane)
  exact Keeps.ite h.laneDrop (h16.when (fun _ h19 => h19.put))

theorem Keeps.execPrbsGenEn {s0 a1 a2 a3 s} (h : Keeps ⟨false, kn, false, kt, false, false, false, false, false, false, false, kz, false, kx, false⟩ s0 s) : OutKeeps ⟨false, kn, false, kt, false, false, false, false, false, false, false, kz, false, kx, false⟩ s0 (Machine.execPrbsGenEn a1 a2 a3 s) := by
  unfold Machine.execPrbsGenEn
  exact .next (h.ownerWrite (fun _ h2 => h2.lPrbsWrite))

theorem Keeps.prbsCycle {s0 a1 s} (h : Keeps ⟨km, kn, kp, kt, kj, ko, kf, kd, kc, false, ki, kz, kg, kx, ke⟩ s0 s) : Keeps ⟨km, kn, kp, kt, kj, ko, kf, kd, kc, false, ki, kz, kg, kx, ke⟩ s0 (State.prbsCycle a1 s) := by
  unfold State.prbsCycle
  extract_lets -underBinder x1 x2 x3 x4 x5 x6 x7 x8
  have h11 : Keeps h.kept s0 x7 := h.when (fun _ h12 => h12.drawn)
  have h13 : Keeps h.kept s0 x8 := h11.setLane
  exact Keeps.ite h13.count.put64 (h13.when (fun _ h15 => h15.put))

theorem Keeps.prbsTick {s0 s} (h : Keeps ⟨km, kn, kp, kt, kj, ko, kf, kd, kc, false, ki, kz, kg, kx, ke⟩ s0 s) : Keeps ⟨km, kn, kp, kt, kj, ko, kf, kd, kc, false, ki, kz, kg, kx, ke⟩ s0 (State.prbsTick s) := by
  unfold State.prbsTick
  exact h.each (fun _ _ h2 => h2.prbsCycle)

theorem Keeps.testDown {s0 a1 s} (h : Keeps ⟨false, kn, false, kt, false, false, false, false, false, false, false, kz, false, kx, ke⟩ s0 s) : Keeps ⟨false, kn, false, kt, false, false, false, false, false, false, false, kz, false, kx, ke⟩ s0 (State.testDown a1 s) := by
  unfold State.testDown
  exact Keeps.ite h.portDown.lanesDetect.hpState h.peerDown.lanesDetect.peerState

theorem Keeps.execLaneSelftestRun {s0 a1 s} (h : Keeps ⟨false, kn, false, kt, false, false, false, false, false, false, false, kz, false, kx, ke⟩ s0 s) : OutKeeps ⟨false, kn, false, kt, false, false, false, false, false, false, false, kz, false, kx, ke⟩ s0 (Machine.execLaneSelftestRun a1 s) := by
  unfold Machine.execLaneSelftestRun
  extract_lets -underBinder x1
  refine .next ?_
  have h3 : Keeps h.kept s0 x1 := h.testStarted.testDown
  exact Keeps.ite h (h3.each (fun _ _ h5 => h5.put.put.put.setLane))

theorem Keeps.laneTestEnds {s0 a1 a2 s} (h : Keeps ⟨km, kn, kp, kt, kj, ko, kf, kd, kc, false, ki, kz, kg, kx, ke⟩ s0 s) : Keeps ⟨km, kn, kp, kt, kj, ko, kf, kd, kc, false, ki, kz, kg, kx, ke⟩ s0 (State.laneTestEnds a1 a2 s) := by
  unfold State.laneTestEnds
  extract_lets -underBinder x1 x2 x3 x4 x5
  have h8 : Keeps h.kept s0 x5 := by
    unfold x5
    refine (h.each (fun _ _ h11 => ?_))
    extract_lets -underBinder x12
    have h13 : Keeps h.kept s0 x12 := h11.put.put
    exact h13.put.setLane
  exact h8.each (fun _ _ h15 => h15.errOutcome)

theorem Keeps.loopbackCounts {s0 a1 a2 s} (h : Keeps ⟨km, kn, kp, kt, kj, ko, kf, kd, kc, kl, ki, kz, kg, kx, ke⟩ s0 s) : Keeps ⟨km, kn, kp, kt, kj, ko, kf, kd, kc, kl, ki, kz, kg, kx, ke⟩ s0 (State.loopbackCounts a1 a2 s) := by
  unfold State.loopbackCounts
  exact h.each (fun _ _ h2 => h2.count.put64.put)

theorem Keeps.loopbackEnds {s0 a1 a2 s} (h : Keeps ⟨false, kn, false, kt, false, false, false, false, false, false, false, kz, false, kx, ke⟩ s0 s) : Keeps ⟨false, kn, false, kt, false, false, false, false, false, false, false, kz, false, kx, ke⟩ s0 (State.loopbackEnds a1 a2 s) := by
  unfold State.loopbackEnds
  extract_lets -underBinder x1 x2 x3
  have h5 : Keeps h.kept s0 x1 := h.loopbackCounts
  have h7 : Keeps h.kept s0 x3 := h5.each (fun _ _ h8 => h8.put.post)
  exact Keeps.ite (h5.each (fun _ _ h10 => h10.setLane)).laneRestart h7.laneTestEnds.laneRestart

theorem Keeps.testBringup {s0 a1 s} (h : Keeps ⟨km, kn, kp, kt, kj, ko, kf, kd, kc, false, ki, kz, kg, kx, ke⟩ s0 s) : Keeps ⟨km, kn, kp, kt, kj, ko, kf, kd, kc, false, ki, kz, kg, kx, ke⟩ s0 (State.testBringup a1 s) := by
  unfold State.testBringup
  extract_lets -underBinder x1 x2
  have h5 : Keeps h.kept s0 x2 := by
    unfold x2
    refine (h.each (fun _ _ h8 => ?_))
    extract_lets -underBinder x9
    have h12 : Keeps h.kept s0 x9 := (h8.when (fun _ h13 => h13.put)).when (fun _ h14 => h14.setMarginal)
    exact h12.post
  exact Keeps.ite (h.each (fun _ _ h16 => h16.post)).laneTestEnds h5.laneTestEnds

theorem Keeps.execLaneSelftestDone {s0 a1 a2 s} (h : Keeps ⟨false, kn, false, kt, false, false, false, false, false, false, false, kz, false, kx, ke⟩ s0 s) : OutKeeps ⟨false, kn, false, kt, false, false, false, false, false, false, false, kz, false, kx, ke⟩ s0 (Machine.execLaneSelftestDone a1 a2 s) := by
  unfold Machine.execLaneSelftestDone
  extract_lets -underBinder x1 x2
  refine .next ?_
  split
  · exact h.when (fun _ h6 => h6.loopbackEnds)
  · extract_lets -underBinder x8
    exact h.when (fun _ h10 => h10.testBringup)

theorem Keeps.peerUp {s0 a1 s} (h : Keeps ⟨km, kn, kp, kt, kj, ko, kf, false, kc, false, ki, kz, kg, kx, ke⟩ s0 s) : Keeps ⟨km, kn, kp, kt, kj, ko, kf, false, kc, false, ki, kz, kg, kx, ke⟩ s0 (State.peerUp a1 s) := by
  unfold State.peerUp
  extract_lets -underBinder x1
  have h3 : Keeps h.kept s0 x1 := h.peerState.post
  exact h3.when (fun _ h5 => h5.setDue)

theorem Keeps.peerSearch {s0 a1 a2 s} (h : Keeps ⟨km, kn, kp, kt, kj, ko, kf, false, kc, false, ki, kz, kg, kx, ke⟩ s0 s) : Keeps ⟨km, kn, kp, kt, kj, ko, kf, false, kc, false, ki, kz, kg, kx, ke⟩ s0 (State.peerSearch a1 a2 s) := by
  unfold State.peerSearch
  extract_lets -underBinder x1
  have h2 : Keeps h.kept s0 x1 := h.laneSearch
  exact Keeps.ite h2.peerState h2.peerFail

theorem Keeps.peerDataMode {s0 a1 s} (h : Keeps ⟨km, kn, kp, kt, kj, false, kf, kd, kc, false, ki, kz, kg, kx, ke⟩ s0 s) : Keeps ⟨km, kn, kp, kt, kj, false, kf, kd, kc, false, ki, kz, kg, kx, ke⟩ s0 (State.peerDataMode a1 s) := by
  unfold State.peerDataMode
  extract_lets -underBinder x1
  have h3 : Keeps h.kept s0 x1 := h.enterData.setPeer
  exact h3.each (fun _ _ h5 => h5.eyeStart)

theorem Keeps.peerTryUp {s0 a1 s} (h : Keeps ⟨km, kn, kp, kt, kj, ko, kf, false, kc, false, ki, kz, kg, kx, ke⟩ s0 s) : Keeps ⟨km, kn, kp, kt, kj, ko, kf, false, kc, false, ki, kz, kg, kx, ke⟩ s0 (State.peerTryUp a1 s) := by
  unfold State.peerTryUp
  extract_lets -underBinder x1
  exact Keeps.ite h.noEq.peerFail (h.when (fun _ h3 => h3.peerUp))

theorem Keeps.peerStep {s0 a1 a2 s} (h : Keeps ⟨km, kn, kp, kt, kj, false, kf, false, kc, false, ki, kz, kg, kx, ke⟩ s0 s) : Keeps ⟨km, kn, kp, kt, kj, false, kf, false, kc, false, ki, kz, kg, kx, ke⟩ s0 (State.peerStep a1 a2 s) := by
  unfold State.peerStep
  extract_lets -underBinder x1
  split
  · exact h.when (fun _ h5 => h5.lanesShow.peerState)
  · exact h.when (fun _ h10 => (h10.lanesShow.each (fun _ _ h11 => h11.adapt)).peerState)
  · exact h.when (fun _ h15 => h15.lanePolarity.peerState)
  · exact h.peerSearch
  · split
    · exact h
    · exact h.laneIds.peerState
  · exact Keeps.ite h.setPeer.peerState h.peerFail
  · exact Keeps.ite (h.when (fun _ h30 => h30.peerDataMode)) h.peerTryUp
  · exact h

theorem Keeps.execPeerBringupStep {s0 a1 a2 s} (h : Keeps ⟨km, kn, kp, kt, kj, false, kf, false, kc, false, ki, kz, kg, kx, ke⟩ s0 s) : OutKeeps ⟨km, kn, kp, kt, kj, false, kf, false, kc, false, ki, kz, kg, kx, ke⟩ s0 (Machine.execPeerBringupStep a1 a2 s) := by
  unfold Machine.execPeerBringupStep
  exact .next (h.when (fun _ h2 => h2.peerStep))

theorem Keeps.execPeerBringupTimeout {s0 a1 s} (h : Keeps ⟨km, kn, kp, kt, kj, ko, kf, false, kc, false, ki, kz, kg, kx, ke⟩ s0 s) : OutKeeps ⟨km, kn, kp, kt, kj, ko, kf, false, kc, false, ki, kz, kg, kx, ke⟩ s0 (Machine.execPeerBringupTimeout a1 s) := by
  unfold Machine.execPeerBringupTimeout
  extract_lets -underBinder x1
  refine .next ?_
  split
  · exact h
  · exact Keeps.ite h (h.when (fun _ h8 => h8.noEq)).peerFail

theorem Keeps.execPeerRetryTimer {s0 a1 s} (h : Keeps ⟨km, kn, kp, kt, kj, ko, kf, false, false, false, ki, kz, kg, kx, ke⟩ s0 s) : OutKeeps ⟨km, kn, kp, kt, kj, ko, kf, false, false, false, ki, kz, kg, kx, ke⟩ s0 (Machine.execPeerRetryTimer a1 s) := by
  unfold Machine.execPeerRetryTimer
  refine .next ?_
  split
  · exact h
  · exact h.when (fun _ h7 => h7.peerRestart)

theorem Keeps.execAnnounce {s0 a1 s} (h : Keeps ⟨km, kn, kp, kt, kj, ko, kf, kd, kc, false, ki, kz, kg, kx, ke⟩ s0 s) : OutKeeps ⟨km, kn, kp, kt, kj, ko, kf, kd, kc, false, ki, kz, kg, kx, ke⟩ s0 (Machine.execAnnounce a1 s) := by
  unfold Machine.execAnnounce
  extract_lets -underBinder x1
  exact .next (h.when (fun _ h3 => h3.announce))

theorem Keeps.execAnnounceReceive {s0 a1 a2 a3 a4 s} (h : Keeps ⟨km, kn, kp, kt, kj, ko, kf, false, kc, false, ki, kz, kg, kx, ke⟩ s0 s) : OutKeeps ⟨km, kn, kp, kt, kj, ko, kf, false, kc, false, ki, kz, kg, kx, ke⟩ s0 (Machine.execAnnounceReceive a1 a2 a3 a4 s) := by
  unfold Machine.execAnnounceReceive
  extract_lets -underBinder x1
  refine .next ?_
  have h3 : Keeps h.kept s0 x1 := h.setPeer
  exact Keeps.ite h (Keeps.ite h3.setDue.refreshCeil (h3.when (fun _ h5 => h5.postLimited)))

theorem Keeps.execAnnounceTimeout {s0 a1 s} (h : Keeps ⟨km, kn, kp, kt, kj, ko, kf, false, kc, false, ki, kz, kg, kx, ke⟩ s0 s) : OutKeeps ⟨km, kn, kp, kt, kj, ko, kf, false, kc, false, ki, kz, kg, kx, ke⟩ s0 (Machine.execAnnounceTimeout a1 s) := by
  unfold Machine.execAnnounceTimeout
  extract_lets -underBinder x1
  exact .next (h.when (fun _ h3 => h3.peerFail))

theorem Keeps.peerBurst {s0 a1 s} (h : Keeps ⟨km, kn, kp, kt, kj, ko, kf, kd, kc, false, ki, kz, kg, kx, false⟩ s0 s) : Keeps ⟨km, kn, kp, kt, kj, ko, kf, kd, kc, false, ki, kz, kg, kx, false⟩ s0 (State.peerBurst a1 s) := by
  unfold State.peerBurst
  extract_lets -underBinder x1 x2
  have h3 : Keeps h.kept s0 x2 := h.postLimited
  exact Keeps.ite h h3.errRecord.laneTestDue

theorem Keeps.peerDiscard {s0 a1 a2 s} (h : Keeps ⟨km, kn, kp, kt, kj, ko, kf, kd, kc, false, ki, kz, kg, kx, false⟩ s0 s) : Keeps ⟨km, kn, kp, kt, kj, ko, kf, kd, kc, false, ki, kz, kg, kx, false⟩ s0 (State.peerDiscard a1 a2 s) := by
  unfold State.peerDiscard
  extract_lets -underBinder x1 x2 x3
  have h6 : Keeps h.kept s0 x1 := h.count.when (fun _ h7 => h7.pmcAdd)
  have h8 : Keeps h.kept s0 x3 := h6.setPeer
  exact h8.when (fun _ h10 => h10.peerBurst)

theorem Keeps.execStPeerCrcBurst {s0 a1 a2 s} (h : Keeps ⟨km, kn, kp, kt, kj, ko, kf, kd, kc, false, ki, kz, kg, kx, false⟩ s0 s) : OutKeeps ⟨km, kn, kp, kt, kj, ko, kf, kd, kc, false, ki, kz, kg, kx, false⟩ s0 (Machine.execStPeerCrcBurst a1 a2 s) := by
  unfold Machine.execStPeerCrcBurst
  extract_lets -underBinder x1
  exact .next (Keeps.ite h (h.each (fun _ _ h3 => h3.packetErrors)).peerDiscard)

end Sys2Proof.Machine
end

