-- ==== Sys2Proof/Laws/KeepsCal.lean ====
section
/-! SUPPORT. What the operations on calibration, motion commands and Duet keep: the queue, the canonical maps and every part of the state that the operation does not change (the parts that its lemma leaves free). One lemma for each operation. -/

namespace Sys2Proof.Machine

variable {km kn kp kt kj ko kf kd kc kl ki kz kg kx ke : Bool}
variable {k : Kept}

theorem Keeps.noCamera {s0 s a2} (h : Keeps ⟨km, kn, kp, kt, kj, ko, kf, kd, false, kl, ki, kz, kg, kx, ke⟩ s0 s) : Keeps ⟨km, kn, kp, kt, kj, ko, kf, kd, false, kl, ki, kz, kg, kx, ke⟩ s0 (State.noCamera s a2) := by
  unfold State.noCamera
  extract_lets -underBinder x1
  have h2 : Keeps h.kept s0 x1 := h.put
  exact Keeps.ite h2 h2.setCal.post

theorem Keeps.execCalAgeDue {s0 a1 s} (h : Keeps ⟨km, kn, kp, kt, kj, ko, kf, kd, false, kl, ki, kz, kg, kx, ke⟩ s0 s) : OutKeeps ⟨km, kn, kp, kt, kj, ko, kf, kd, false, kl, ki, kz, kg, kx, ke⟩ s0 (Machine.execCalAgeDue a1 s) := by
  unfold Machine.execCalAgeDue
  extract_lets -underBinder x1
  exact .next (Keeps.ite h h.calDue)

theorem Keeps.takeNozzle {s0 s a2} (h : Keeps ⟨false, kn, kp, kt, false, false, kf, false, false, kl, ki, kz, false, kx, ke⟩ s0 s) : Keeps ⟨false, kn, kp, kt, false, false, kf, false, false, kl, ki, kz, false, kx, ke⟩ s0 (State.takeNozzle s a2).2 := by
  unfold State.takeNozzle
  extract_lets -underBinder x1
  split
  · rename_i y5
    have h6 := Keeps.snd y5 h.smpCreate
    split
    · dsimp only
      exact h6.count
    · dsimp only
      exact h6

theorem Keeps.takeAll {s0 s l} (h : Keeps ⟨false, kn, kp, kt, false, false, kf, false, false, kl, ki, kz, false, kx, ke⟩ s0 s) : Keeps ⟨false, kn, kp, kt, false, false, kf, false, false, kl, ki, kz, false, kx, ke⟩ s0 (State.takeAll s l).2 := by
  unfold State.takeAll
  refine Keeps.foldlVia (π := Prod.snd) (fun b x h => ?_) h
  dsimp only
  exact h.takeNozzle

theorem Keeps.addBatch {s0 s a2 a3 a4 a5 a6} (h : Keeps ⟨km, kn, kp, kt, kj, ko, kf, kd, false, kl, ki, kz, kg, kx, ke⟩ s0 s) : Keeps ⟨km, kn, kp, kt, kj, ko, kf, kd, false, kl, ki, kz, kg, kx, ke⟩ s0 (State.addBatch s a2 a3 a4 a5 a6) := by
  unfold State.addBatch
  extract_lets -underBinder x1 x2 x3 x4
  exact h.setCal.showTaken

theorem Keeps.stitchEnds {s0 s a2 a3} (h : Keeps ⟨km, kn, kp, kt, kj, ko, kf, kd, false, kl, ki, kz, kg, kx, ke⟩ s0 s) : Keeps ⟨km, kn, kp, kt, kj, ko, kf, kd, false, kl, ki, kz, kg, kx, ke⟩ s0 (State.stitchEnds s a2 a3) := by
  unfold State.stitchEnds
  exact h.setCal.runEnded.showTaken

theorem Keeps.runQuality {s0 s a2} (h : Keeps ⟨km, kn, kp, kt, kj, ko, kf, kd, kc, kl, ki, kz, kg, kx, ke⟩ s0 s) : Keeps ⟨km, kn, kp, kt, kj, ko, kf, kd, kc, kl, ki, kz, kg, kx, ke⟩ s0 (State.runQuality s a2) := by
  unfold State.runQuality
  split
  · exact h.drawn.put.put

theorem Keeps.endRun {s0 s a2} (h : Keeps ⟨km, kn, kp, kt, kj, ko, kf, kd, false, kl, ki, kz, kg, kx, ke⟩ s0 s) : Keeps ⟨km, kn, kp, kt, kj, ko, kf, kd, false, kl, ki, kz, kg, kx, ke⟩ s0 (State.endRun s a2) := by
  unfold State.endRun
  extract_lets -underBinder x1 x2 x3 x4 x5
  have h6 : Keeps h.kept s0 x2 := h.runQuality.put
  have h7 : Keeps h.kept s0 x3 := h6.put.put
  have h8 : Keeps h.kept s0 x4 := h7.put.setCal
  have h9 : Keeps h.kept s0 x5 := h8.post
  exact h9.runEnded.showTaken

theorem Keeps.runOver {s0 s a2} (h : Keeps ⟨km, kn, kp, kt, kj, ko, kf, kd, false, kl, ki, kz, kg, kx, ke⟩ s0 s) : Keeps ⟨km, kn, kp, kt, kj, ko, kf, kd, false, kl, ki, kz, kg, kx, ke⟩ s0 (State.runOver s a2) := by
  unfold State.runOver
  split
  · exact h
  · extract_lets -underBinder x6
    exact Keeps.ite h h.endRun

theorem Keeps.startRun {s0 s a2 a3} (h : Keeps ⟨km, kn, kp, kt, kj, ko, kf, kd, false, false, ki, kz, kg, kx, ke⟩ s0 s) : Keeps ⟨km, kn, kp, kt, kj, ko, kf, kd, false, false, ki, kz, kg, kx, ke⟩ s0 (State.startRun s a2 a3) := by
  unfold State.startRun
  extract_lets -underBinder x1 x2 x3 x4
  have h6 : Keeps h.kept s0 x1 := h.setCal.put
  have h7 : Keeps h.kept s0 x2 := h6.showTaken.post
  have h9 : Keeps h.kept s0 x4 := h7.when (fun _ h10 => h10.setCal.sweepOn)
  exact h9.runOver

theorem Keeps.startFirst {s0 : State} {l} : ∀ {s : State}, Keeps ⟨km, kn, kp, kt, kj, ko, kf, kd, false, false, ki, kz, kg, kx, ke⟩ s0 s → Keeps ⟨km, kn, kp, kt, kj, ko, kf, kd, false, false, ki, kz, kg, kx, ke⟩ s0 (State.startFirst l s) := by
  induction l with
  | nil => intro s h; exact h
  | cons p ps ih =>
    intro s h
    unfold State.startFirst
    split
    · exact ih h
    · split
      · exact ih h
      · split
        · exact ih h.noCamera
        · exact h.startRun

theorem Keeps.skipUncovered {s0 s a2 a3} (h : Keeps ⟨km, kn, kp, kt, kj, ko, kf, kd, false, kl, ki, kz, kg, kx, ke⟩ s0 s) : Keeps ⟨km, kn, kp, kt, kj, ko, kf, kd, false, kl, ki, kz, kg, kx, ke⟩ s0 (State.skipUncovered s a2 a3) := by
  unfold State.skipUncovered
  extract_lets -underBinder x1
  have h3 : Keeps h.kept s0 x1 := h.setCal
  exact h3.each (fun _ _ h5 => h5.count.post)

theorem Keeps.formBatch {s0 s a2} (h : Keeps ⟨false, kn, kp, kt, false, false, kf, false, false, kl, ki, kz, false, kx, ke⟩ s0 s) : Keeps ⟨false, kn, kp, kt, false, false, kf, false, false, kl, ki, kz, false, kx, ke⟩ s0 (State.formBatch s a2) := by
  unfold State.formBatch
  split
  · rename_i y1 _ _ _
    extract_lets -underBinder x5
    have h6 : Keeps h.kept s0 x5 := h.skipUncovered
    split
    · rename_i y10
      have h11 := Keeps.snd y10 h6.takeAll
      extract_lets -underBinder x12 x13 x14
      have h15 : Keeps h.kept s0 x14 := by
        unfold x14
        refine (Keeps.ite h11 ?_)
        have h16 : Keeps h.kept s0 x12 := h11.addBatch
        have h17 : Keeps h.kept s0 x13 := h16.assignCells
        split
        · exact h17.sharePlan
        · exact h17
      exact h15.runOver

theorem Keeps.voidBatch {s0 s a2} (h : Keeps ⟨false, kn, kp, kt, false, false, kf, false, false, kl, ki, kz, false, kx, ke⟩ s0 s) : Keeps ⟨false, kn, kp, kt, false, false, kf, false, false, kl, ki, kz, false, kx, ke⟩ s0 (State.voidBatch s a2) := by
  unfold State.voidBatch
  extract_lets -underBinder x1 x2
  have h3 : Keeps h.kept s0 x1 := h.dropBatch
  have h5 : Keeps h.kept s0 x2 := h3.each (fun _ _ h6 => h6.dropBatch)
  exact Keeps.ite h3 h5.stitchEnds

theorem Keeps.measureCell {s0 s a2 a3 a4} (h : Keeps ⟨false, kn, kp, kt, false, false, kf, false, false, kl, ki, kz, false, kx, ke⟩ s0 s) : Keeps ⟨false, kn, kp, kt, false, false, kf, false, false, kl, ki, kz, false, kx, ke⟩ s0 (State.measureCell s a2 a3 a4) := by
  unfold State.measureCell
  extract_lets -underBinder x1 x2 x3 x4 x5 x6 x7 x8 x9 x10
  have h12 : Keeps h.kept s0 x9 := h.dropMark.when (fun _ h13 => h13.count.pmcAdd)
  have h14 : Keeps h.kept s0 x10 := h12.setBatch
  split
  · exact h14
  · exact Keeps.ite h14.voidBatch h14.assignShare

theorem Keeps.execCalCellMeasure {s0 a1 a2 a3 a4 s} (h : Keeps ⟨false, kn, kp, kt, false, false, kf, false, false, kl, ki, kz, false, kx, ke⟩ s0 s) : OutKeeps ⟨false, kn, kp, kt, false, false, kf, false, false, kl, ki, kz, false, kx, ke⟩ s0 (Machine.execCalCellMeasure a1 a2 a3 a4 s) := by
  unfold Machine.execCalCellMeasure
  extract_lets -underBinder x1
  refine .next ?_
  clear_value x1
  split
  · exact Keeps.ite h h.measureCell
  · exact h

theorem Keeps.returnNozzle {s0 s a2 a3} (h : Keeps ⟨false, kn, kp, kt, false, false, kf, false, false, kl, ki, kz, false, kx, ke⟩ s0 s) : Keeps ⟨false, kn, kp, kt, false, false, kf, false, false, kl, ki, kz, false, kx, ke⟩ s0 (State.returnNozzle s a2 a3) := by
  unfold State.returnNozzle
  split
  · rename_i y1 _ _ _ _
    extract_lets -underBinder x6
    split
    · rename_i y10
      have h11 := Keeps.snd y10 h.smpCreate
      extract_lets -underBinder x12 x13 x14
      have h16 : Keeps h.kept s0 x12 := h11.count.when (fun _ h17 => h17.post)
      have h18 : Keeps h.kept s0 x14 := h16.setCal
      exact Keeps.ite h11 h18.setBatch

theorem Keeps.passRecord {s0 s a2 a3} (h : Keeps ⟨false, kn, kp, kt, false, false, kf, false, false, kl, ki, kz, false, kx, ke⟩ s0 s) : Keeps ⟨false, kn, kp, kt, false, false, kf, false, false, kl, ki, kz, false, kx, ke⟩ s0 (State.passRecord s a2 a3) := by
  unfold State.passRecord
  split
  · rename_i y4
    have h5 := Keeps.snd y4 h.smpCreate
    exact h5.setBatch

theorem Keeps.nextPass {s0 s a2 a3} (h : Keeps ⟨km, kn, kp, kt, kj, ko, kf, kd, false, kl, ki, kz, kg, kx, ke⟩ s0 s) : Keeps ⟨km, kn, kp, kt, kj, ko, kf, kd, false, kl, ki, kz, kg, kx, ke⟩ s0 (State.nextPass s a2 a3) := by
  unfold State.nextPass
  extract_lets -underBinder x1 x2 x3 x4 x5
  exact Keeps.ite h h.count.setBatch

theorem Keeps.closeBatch {s0 s a2} (h : Keeps ⟨km, kn, kp, kt, kj, ko, kf, false, false, kl, ki, kz, kg, kx, ke⟩ s0 s) : Keeps ⟨km, kn, kp, kt, kj, ko, kf, false, false, kl, ki, kz, kg, kx, ke⟩ s0 (State.closeBatch s a2) := by
  unfold State.closeBatch
  split
  · exact h
  · extract_lets -underBinder x6 x7
    have h10 : Keeps h.kept s0 x6 := h.planGone.setCal
    have h12 : Keeps h.kept s0 x7 := h10.when (fun _ h13 => h13.setCal)
    exact Keeps.ite h.showTaken (h12.showTaken.when (fun _ h15 => h15.runOver))

theorem Keeps.endPass {s0 s a2} (h : Keeps ⟨false, kn, kp, kt, false, false, kf, false, false, kl, ki, kz, false, kx, ke⟩ s0 s) : Keeps ⟨false, kn, kp, kt, false, false, kf, false, false, kl, ki, kz, false, kx, ke⟩ s0 (State.endPass s a2) := by
  unfold State.endPass
  extract_lets -underBinder x1 x2 x3 x4 x5 x6 x7 x8 x9 x10
  have h11 : Keeps h.kept s0 x10 := by
    unfold x10
    have h12 : Keeps h.kept s0 x9 := by
      unfold x9
      have h14 : Keeps h.kept s0 x7 := h.setBatch
      have h16 : Keeps h.kept s0 x8 := h14.each (fun _ _ h17 => h17.passRecord)
      split
      · exact h16.nextPass
      · exact h16
    split
    · exact h12.each (fun _ _ h27 => h27.returnNozzle)
    · exact h12
  exact h11.closeBatch.assignShare

theorem Keeps.applyPorts {s0 : State} {x y l} : ∀ {o} {s : State}, Keeps ⟨km, kn, kp, kt, kj, ko, kf, kd, false, kl, ki, kz, kg, kx, ke⟩ s0 s → Keeps ⟨km, kn, kp, kt, kj, ko, kf, kd, false, kl, ki, kz, kg, kx, ke⟩ s0 (State.applyPorts x y l o s) := by
  induction l with
  | nil => intro o s h; exact h
  | cons p ps ih =>
    intro o s h
    unfold State.applyPorts
    exact ih (Keeps.when (.ite h.put.post h.put) fun _ h => h.setCal)

theorem Keeps.stitchDone {s0 s a2} (h : Keeps ⟨false, kn, kp, kt, false, false, kf, false, false, kl, ki, kz, false, kx, ke⟩ s0 s) : Keeps ⟨false, kn, kp, kt, false, false, kf, false, false, kl, ki, kz, false, kx, ke⟩ s0 (State.stitchDone s a2) := by
  unfold State.stitchDone
  extract_lets -underBinder x1 x2 x3
  have h4 : Keeps h.kept s0 x1 := h.post
  have h5 : Keeps h.kept s0 x2 := h4.applyPorts
  have h6 : Keeps h.kept s0 x3 := h5.applyNext
  exact h6.stitchEnds

theorem Keeps.showStitch {s0 s a2 a3 a4} (h : Keeps ⟨km, kn, kp, kt, kj, ko, kf, kd, kc, kl, ki, kz, kg, kx, ke⟩ s0 s) : Keeps ⟨km, kn, kp, kt, kj, ko, kf, kd, kc, kl, ki, kz, kg, kx, ke⟩ s0 (State.showStitch s a2 a3 a4) := by
  unfold State.showStitch
  exact h.putSat.putSat.put

theorem Keeps.stitchPair {s0 s a2} (h : Keeps ⟨false, kn, kp, kt, false, false, kf, false, false, kl, ki, kz, false, kx, ke⟩ s0 s) : Keeps ⟨false, kn, kp, kt, false, false, kf, false, false, kl, ki, kz, false, kx, ke⟩ s0 (State.stitchPair s a2) := by
  unfold State.stitchPair
  split
  · rename_i y1 _ _ _ _
    extract_lets -underBinder x6 x7 x8 x9
    split
    · rename_i y13
      have h14 := Keeps.snd y13 h.takeAll
      split
      · rename_i y18
        have h19 := Keeps.snd y18 h14.takeAll
        extract_lets -underBinder x20 x21 x22 x23 x24 x25
        have h29 : Keeps h.kept s0 x22 := h19.setCal
        have h31 : Keeps h.kept s0 x23 := h29.when (fun _ h32 => h32.addBatch)
        have h34 : Keeps h.kept s0 x24 := h31.when (fun _ h35 => h35.addBatch)
        have h37 : Keeps h.kept s0 x25 := h34.each (fun _ _ h38 => h38.dropBatch)
        exact Keeps.ite h37.stitchEnds h34.assignShare
  · exact h.stitchDone

theorem Keeps.tryStitch {s0 s} (h : Keeps ⟨false, kn, kp, kt, false, false, kf, false, false, kl, ki, kz, false, kx, ke⟩ s0 s) : Keeps ⟨false, kn, kp, kt, false, false, kf, false, false, kl, ki, kz, false, kx, ke⟩ s0 (State.tryStitch s) := by
  unfold State.tryStitch
  refine (Keeps.ite h ?_)
  split
  · exact h
  · extract_lets -underBinder x6 x7 x8 x9
    have h11 : Keeps h.kept s0 x6 := h.setCal
    have h13 : Keeps h.kept s0 x9 := h11.each (fun _ _ h14 => h14.showStitch)
    exact h13.setCal.showTaken.stitchPair

theorem Keeps.endSet {s0 s a2 a3} (h : Keeps ⟨false, kn, kp, kt, false, false, kf, false, false, kl, ki, kz, false, kx, ke⟩ s0 s) : Keeps ⟨false, kn, kp, kt, false, false, kf, false, false, kl, ki, kz, false, kx, ke⟩ s0 (State.endSet s a2 a3) := by
  unfold State.endSet
  extract_lets -underBinder x1 x2 x3 x4 x5
  have h7 : Keeps h.kept s0 x3 := h.each (fun _ _ h8 => h8.smpCreate)
  have h9 : Keeps h.kept s0 x4 := h7.planGone.setCal
  have h10 : Keeps h.kept s0 x5 := h9.showTaken
  split
  · extract_lets -underBinder x21 x22
    exact Keeps.ite h10 h10.showStitch.setCal.stitchPair
  · exact h10.setCal

theorem Keeps.execCalPassEnd {s0 a1 s} (h : Keeps ⟨false, kn, kp, kt, false, false, kf, false, false, kl, ki, kz, false, kx, ke⟩ s0 s) : OutKeeps ⟨false, kn, kp, kt, false, false, kf, false, false, kl, ki, kz, false, kx, ke⟩ s0 (Machine.execCalPassEnd a1 s) := by
  unfold Machine.execCalPassEnd
  refine .next ?_
  split
  · exact h
  · refine (Keeps.ite h (Keeps.ite h.endPass.tryStitch ?_))
    split
    · exact Keeps.ite h h.endSet.tryStitch
    · exact h

theorem Keeps.execCalRunStart {s0 s} (h : Keeps ⟨false, kn, kp, kt, false, false, kf, false, false, false, ki, kz, false, kx, ke⟩ s0 s) : OutKeeps ⟨false, kn, kp, kt, false, false, kf, false, false, false, ki, kz, false, kx, ke⟩ s0 (Machine.execCalRunStart s) := by
  unfold Machine.execCalRunStart
  exact .next (Keeps.ite h (Keeps.ite (h.when (fun _ h2 => h2.pmcAdd)) h.tryStitch.startFirst))

theorem Keeps.execCalBatchForm {s0 a1 s} (h : Keeps ⟨false, kn, kp, kt, false, false, kf, false, false, kl, ki, kz, false, kx, ke⟩ s0 s) : OutKeeps ⟨false, kn, kp, kt, false, false, kf, false, false, kl, ki, kz, false, kx, ke⟩ s0 (Machine.execCalBatchForm a1 s) := by
  unfold Machine.execCalBatchForm
  refine .next ?_
  split
  · exact h
  · exact Keeps.ite h (Keeps.ite h.pmcAdd h.formBatch.tryStitch)

theorem Keeps.stitchGo {s0 s a2} (h : Keeps ⟨false, kn, kp, kt, false, false, kf, false, false, kl, ki, kz, false, kx, ke⟩ s0 s) : Keeps ⟨false, kn, kp, kt, false, false, kf, false, false, kl, ki, kz, false, kx, ke⟩ s0 (State.stitchGo s a2) := by
  unfold State.stitchGo
  extract_lets -underBinder x1 x2
  have h3 : Keeps h.kept s0 x2 := h.setCal
  exact h3.tryStitch

theorem Keeps.stitchWrite {s0 s a2 a3} (h : Keeps ⟨false, kn, kp, kt, false, false, kf, false, false, kl, ki, kz, false, kx, ke⟩ s0 s) : Keeps ⟨false, kn, kp, kt, false, false, kf, false, false, kl, ki, kz, false, kx, ke⟩ s0 (State.stitchWrite s a2 a3) := by
  unfold State.stitchWrite
  extract_lets -underBinder x1
  exact Keeps.ite h.put (h.trigger (fun _ h3 => h3.stitchGo))

theorem Keeps.execGo {s0 a1 a2 s} (h : Keeps ⟨false, kn, kp, kt, false, false, kf, false, false, kl, ki, kz, false, kx, false⟩ s0 s) : OutKeeps ⟨false, kn, kp, kt, false, false, kf, false, false, kl, ki, kz, false, kx, false⟩ s0 (Machine.execGo a1 a2 s) := by
  unfold Machine.execGo
  exact .next (h.ownerWrite (fun _ h2 => h2.stitchWrite))

theorem Keeps.execRun {s0 a1 s} (h : Keeps ⟨false, kn, kp, kt, false, false, kf, false, false, kl, ki, kz, false, kx, ke⟩ s0 s) : OutKeeps ⟨false, kn, kp, kt, false, false, kf, false, false, kl, ki, kz, false, kx, ke⟩ s0 (Machine.execRun a1 s) := by
  unfold Machine.execRun
  refine .next ?_
  split
  · exact h
  · extract_lets -underBinder x6 x7 x8 x9 x10
    have h12 : Keeps h.kept s0 x6 := h.markStarted
    have h13 : Keeps h.kept s0 x8 := h12.setCal
    have h14 : Keeps h.kept s0 x10 := h12.setCal
    exact Keeps.ite h12.complete (Keeps.ite h13.tryStitch (h14.each (fun _ _ h16 => h16.calDue)))

theorem Keeps.execGutter {s0 a1 s} (h : Keeps ⟨km, kn, kp, kt, kj, ko, kf, false, false, kl, ki, kz, kg, kx, ke⟩ s0 s) : OutKeeps ⟨km, kn, kp, kt, kj, ko, kf, false, false, kl, ki, kz, kg, kx, ke⟩ s0 (Machine.execGutter a1 s) := by
  unfold Machine.execGutter
  refine .next ?_
  split
  · exact h
  · extract_lets -underBinder x6
    refine (Keeps.ite h.markStarted.complete ?_)
    split
    · exact h.markStarted.complete
    · refine (Keeps.ite h ?_)
      split
      · exact h.markStarted.complete
      · extract_lets -underBinder x17 x18 x19 x20 x21 x22
        have h24 : Keeps h.kept s0 x21 := h.setCal
        have h25 : Keeps h.kept s0 x22 := h24.markStarted.complete
        exact Keeps.ite h.markStarted.complete (h25.each (fun _ _ h27 => h27.assignShare))

theorem Keeps.calCtrlWrite {s0 s a2 a3} (h : Keeps ⟨false, kn, kp, kt, false, false, kf, false, false, kl, ki, kz, false, kx, ke⟩ s0 s) : Keeps ⟨false, kn, kp, kt, false, false, kf, false, false, kl, ki, kz, false, kx, ke⟩ s0 (State.calCtrlWrite s a2 a3) := by
  unfold State.calCtrlWrite
  exact h.trigger (fun _ h2 => h2.calStop)

theorem Keeps.execStop {s0 a1 a2 s} (h : Keeps ⟨false, kn, kp, kt, false, false, kf, false, false, kl, ki, kz, false, kx, false⟩ s0 s) : OutKeeps ⟨false, kn, kp, kt, false, false, kf, false, false, kl, ki, kz, false, kx, false⟩ s0 (Machine.execStop a1 a2 s) := by
  unfold Machine.execStop
  exact .next (h.ownerWrite (fun _ h2 => h2.calCtrlWrite))

theorem Keeps.timeOut {s0 s a2 a3} (h : Keeps ⟨false, kn, kp, kt, false, false, kf, false, false, kl, ki, kz, false, kx, ke⟩ s0 s) : Keeps ⟨false, kn, kp, kt, false, false, kf, false, false, kl, ki, kz, false, kx, ke⟩ s0 (State.timeOut s a2 a3) := by
  unfold State.timeOut
  extract_lets -underBinder x1 x2
  have h3 : Keeps h.kept s0 x1 := h.calRestore.setBatch
  have h4 : Keeps h.kept s0 x2 := h3.setCal
  exact h4.closeBatch

theorem Keeps.execStCalTimeout {s0 s} (h : Keeps ⟨false, kn, kp, kt, false, false, kf, false, false, kl, ki, kz, false, kx, ke⟩ s0 s) : OutKeeps ⟨false, kn, kp, kt, false, false, kf, false, false, kl, ki, kz, false, kx, ke⟩ s0 (Machine.execStCalTimeout s) := by
  unfold Machine.execStCalTimeout
  extract_lets -underBinder x1 x2 x3
  refine .next ?_
  refine (Keeps.ite h ?_)
  have h5 : Keeps h.kept s0 x3 := h.each (fun _ _ h6 => h6.timeOut)
  split
  · exact Keeps.ite h5 h5.stitchEnds
  · exact h5.tryStitch

theorem Keeps.execCalLaneSweep {s0 s} (h : Keeps ⟨km, kn, kp, kt, kj, ko, kf, kd, false, false, ki, kz, kg, kx, ke⟩ s0 s) : OutKeeps ⟨km, kn, kp, kt, kj, ko, kf, kd, false, false, ki, kz, kg, kx, ke⟩ s0 (Machine.execCalLaneSweep s) := by
  unfold Machine.execCalLaneSweep
  extract_lets -underBinder x1 x2 x3 x4 x5
  refine .next ?_
  have h6 : Keeps h.kept s0 x4 := h.setCal
  exact Keeps.ite h (Keeps.ite (Keeps.ite h6.post h6.sweepOn) h.setCal.sweepOn)

theorem Keeps.execChainEnd {s0 s} (h : Keeps ⟨false, kn, kp, kt, false, false, kf, false, false, false, false, kz, false, kx, ke⟩ s0 s) : OutKeeps ⟨false, kn, kp, kt, false, false, kf, false, false, false, false, kz, false, kx, ke⟩ s0 (Machine.execChainEnd s) := by
  unfold Machine.execChainEnd
  refine .next ?_
  split
  · exact h
  · extract_lets -underBinder x6 x7 x8
    have h10 : Keeps h.kept s0 x6 := h.closeChainFrames
    have h11 : Keeps h.kept s0 x8 := h10.pagesDone.finishChain.refire.pagesDone.settleMove.refreshCeil
    exact h11.each (fun _ _ h13 => h13.assignShare)

theorem Keeps.axisWrite {s0 s a2 a3 a4 a5 a6} (h : Keeps ⟨km, kn, kp, kt, kj, ko, false, kd, kc, kl, ki, kz, kg, kx, false⟩ s0 s) : Keeps ⟨km, kn, kp, kt, kj, ko, false, kd, kc, kl, ki, kz, kg, kx, false⟩ s0 (State.axisWrite s a2 a3 a4 a5 a6) := by
  unfold State.axisWrite
  exact Keeps.ite h (h.ownerWrite (fun _ h2 => h2.motionCmd.outputs))

theorem Keeps.execAxStart {s0 a1 a2 a3 a4 s} (h : Keeps ⟨km, kn, kp, kt, kj, ko, false, kd, kc, kl, ki, kz, kg, kx, false⟩ s0 s) : OutKeeps ⟨km, kn, kp, kt, kj, ko, false, kd, kc, kl, ki, kz, kg, kx, false⟩ s0 (Machine.execAxStart a1 a2 a3 a4 s) := by
  unfold Machine.execAxStart
  exact .next h.axisWrite

theorem Keeps.execAxGoto {s0 a1 a2 s} (h : Keeps ⟨km, kn, kp, kt, kj, ko, false, kd, kc, kl, ki, kz, kg, kx, false⟩ s0 s) : OutKeeps ⟨km, kn, kp, kt, kj, ko, false, kd, kc, kl, ki, kz, kg, kx, false⟩ s0 (Machine.execAxGoto a1 a2 s) := by
  unfold Machine.execAxGoto
  exact .next h.axisWrite

theorem Keeps.execAxMoveStop {s0 a1 a2 s} (h : Keeps ⟨km, kn, kp, kt, kj, ko, false, kd, kc, kl, ki, kz, kg, kx, false⟩ s0 s) : OutKeeps ⟨km, kn, kp, kt, kj, ko, false, kd, kc, kl, ki, kz, kg, kx, false⟩ s0 (Machine.execAxMoveStop a1 a2 s) := by
  unfold Machine.execAxMoveStop
  exact .next h.axisWrite

theorem Keeps.execAxResume {s0 a1 a2 s} (h : Keeps ⟨km, kn, kp, kt, kj, ko, false, kd, kc, kl, ki, kz, kg, kx, false⟩ s0 s) : OutKeeps ⟨km, kn, kp, kt, kj, ko, false, kd, kc, kl, ki, kz, kg, kx, false⟩ s0 (Machine.execAxResume a1 a2 s) := by
  unfold Machine.execAxResume
  exact .next h.axisWrite

theorem Keeps.execAxEnable {s0 a1 a2 s} (h : Keeps ⟨km, kn, kp, kt, kj, ko, false, kd, kc, kl, ki, kz, kg, kx, false⟩ s0 s) : OutKeeps ⟨km, kn, kp, kt, kj, ko, false, kd, kc, kl, ki, kz, kg, kx, false⟩ s0 (Machine.execAxEnable a1 a2 s) := by
  unfold Machine.execAxEnable
  exact .next h.axisWrite

theorem Keeps.execAxDisable {s0 a1 a2 s} (h : Keeps ⟨km, kn, kp, kt, kj, ko, false, kd, kc, kl, ki, kz, kg, kx, false⟩ s0 s) : OutKeeps ⟨km, kn, kp, kt, kj, ko, false, kd, kc, kl, ki, kz, kg, kx, false⟩ s0 (Machine.execAxDisable a1 a2 s) := by
  unfold Machine.execAxDisable
  exact .next h.axisWrite

theorem Keeps.execAxSetPos {s0 a1 a2 s} (h : Keeps ⟨km, kn, kp, kt, kj, ko, false, kd, kc, kl, ki, kz, kg, kx, false⟩ s0 s) : OutKeeps ⟨km, kn, kp, kt, kj, ko, false, kd, kc, kl, ki, kz, kg, kx, false⟩ s0 (Machine.execAxSetPos a1 a2 s) := by
  unfold Machine.execAxSetPos
  exact .next h.axisWrite

theorem Keeps.execAxTarget {s0 a1 a2 a3 s} (h : Keeps ⟨km, kn, kp, kt, kj, ko, false, kd, kc, kl, ki, kz, kg, kx, false⟩ s0 s) : OutKeeps ⟨km, kn, kp, kt, kj, ko, false, kd, kc, kl, ki, kz, kg, kx, false⟩ s0 (Machine.execAxTarget a1 a2 a3 s) := by
  unfold Machine.execAxTarget
  exact .next (Keeps.ite h (h.ownerWrite (fun _ h2 => h2.motionTarget)))

theorem Keeps.remainSet {s0 s a2 a3} (h : Keeps ⟨km, kn, kp, kt, kj, ko, false, kd, kc, kl, ki, kz, kg, kx, ke⟩ s0 s) : Keeps ⟨km, kn, kp, kt, kj, ko, false, kd, kc, kl, ki, kz, kg, kx, ke⟩ s0 (State.remainSet s a2 a3) := by
  unfold State.remainSet
  extract_lets -underBinder x1
  have h2 : Keeps h.kept s0 x1 := h.cmdFrame
  exact Keeps.ite h2.setAxis h2.put.count

theorem Keeps.execAxRemainSet {s0 a1 a2 s} (h : Keeps ⟨km, kn, kp, kt, kj, ko, false, kd, kc, kl, ki, kz, kg, kx, ke⟩ s0 s) : OutKeeps ⟨km, kn, kp, kt, kj, ko, false, kd, kc, kl, ki, kz, kg, kx, ke⟩ s0 (Machine.execAxRemainSet a1 a2 s) := by
  unfold Machine.execAxRemainSet
  exact .next (h.when (fun _ h2 => h2.remainSet))

theorem Keeps.execMotionControlTick {s0 a1 a2 s} (h : Keeps ⟨km, kn, kp, kt, kj, ko, false, kd, kc, kl, ki, kz, kg, kx, ke⟩ s0 s) : OutKeeps ⟨km, kn, kp, kt, kj, ko, false, kd, kc, kl, ki, kz, kg, kx, ke⟩ s0 (Machine.execMotionControlTick a1 a2 s) := by
  unfold Machine.execMotionControlTick
  exact .next (h.when (fun _ h2 => h2.controlTick.outputs))

theorem Keeps.axisFault {s0 s a2 a3} (h : Keeps ⟨km, kn, kp, kt, kj, ko, false, kd, kc, kl, ki, kz, kg, kx, ke⟩ s0 s) : Keeps ⟨km, kn, kp, kt, kj, ko, false, kd, kc, kl, ki, kz, kg, kx, ke⟩ s0 (State.axisFault s a2 a3) := by
  unfold State.axisFault
  extract_lets -underBinder x1 x2 x3 x4
  have h6 : Keeps h.kept s0 x1 := h.pmcAdd.count
  have h9 : Keeps h.kept s0 x3 := Keeps.ite h6.liftEnds.parkFail h6.axisFail
  have h12 : Keeps h.kept s0 x4 := Keeps.ite (h9.axisTold (fun _ h13 => h13.put.post)) (h9.axisTold (fun _ h14 => h14.put.post))
  refine (Keeps.ite h6.parked (h12.when (fun _ h16 => ?_)))
  split
  · exact h16.setAxis
  · exact h16.setAxis
  · exact h16

theorem Keeps.execStMotStall {s0 a1 s} (h : Keeps ⟨km, kn, kp, kt, kj, ko, false, kd, kc, kl, ki, kz, kg, kx, ke⟩ s0 s) : OutKeeps ⟨km, kn, kp, kt, kj, ko, false, kd, kc, kl, ki, kz, kg, kx, ke⟩ s0 (Machine.execStMotStall a1 s) := by
  unfold Machine.execStMotStall
  exact .next (h.when (fun _ h2 => h2.axisFault.outputs))

theorem Keeps.execStMotFollow {s0 a1 s} (h : Keeps ⟨km, kn, kp, kt, kj, ko, false, kd, kc, kl, ki, kz, kg, kx, ke⟩ s0 s) : OutKeeps ⟨km, kn, kp, kt, kj, ko, false, kd, kc, kl, ki, kz, kg, kx, ke⟩ s0 (Machine.execStMotFollow a1 s) := by
  unfold Machine.execStMotFollow
  exact .next (h.when (fun _ h2 => h2.axisFault.outputs))

theorem Keeps.coilFault {s0 s a2 a3} (h : Keeps ⟨km, kn, kp, kt, kj, ko, false, kd, kc, kl, ki, kz, kg, kx, ke⟩ s0 s) : Keeps ⟨km, kn, kp, kt, kj, ko, false, kd, kc, kl, ki, kz, kg, kx, ke⟩ s0 (State.coilFault s a2 a3) := by
  unfold State.coilFault
  extract_lets -underBinder x1 x2 x3
  have h7 : Keeps h.kept s0 x2 := h.when (fun _ h8 => h8.parkFail)
  have h10 : Keeps h.kept s0 x3 := h7.when (fun _ h11 => h11.moveShort)
  exact h10.axisOff.axisTold (fun _ h13 => h13.put.post)

theorem Keeps.execStMotCoil {s0 a1 a2 s} (h : Keeps ⟨km, kn, kp, kt, kj, ko, false, kd, kc, kl, ki, kz, kg, kx, ke⟩ s0 s) : OutKeeps ⟨km, kn, kp, kt, kj, ko, false, kd, kc, kl, ki, kz, kg, kx, ke⟩ s0 (Machine.execStMotCoil a1 a2 s) := by
  unfold Machine.execStMotCoil
  exact .next (h.when (fun _ h2 => h2.coilFault.outputs))

theorem Keeps.execBrakeDelay {s0 a1 s} (h : Keeps ⟨km, kn, kp, kt, kj, ko, false, kd, kc, kl, ki, kz, kg, kx, ke⟩ s0 s) : OutKeeps ⟨km, kn, kp, kt, kj, ko, false, kd, kc, kl, ki, kz, kg, kx, ke⟩ s0 (Machine.execBrakeDelay a1 s) := by
  unfold Machine.execBrakeDelay
  refine .next ?_
  refine (Keeps.ite h ?_)
  split
  · exact h.setAxis.outputs
  · exact h.setAxis
  · exact h

theorem Keeps.execHoldDelay {s0 a1 s} (h : Keeps ⟨km, kn, kp, kt, kj, ko, false, kd, kc, kl, ki, kz, kg, kx, ke⟩ s0 s) : OutKeeps ⟨km, kn, kp, kt, kj, ko, false, kd, kc, kl, ki, kz, kg, kx, ke⟩ s0 (Machine.execHoldDelay a1 s) := by
  unfold Machine.execHoldDelay
  exact .next (h.when (fun _ h2 => h2.setAxis))

theorem Keeps.motionDesc {s0 s a2 a3} (h : Keeps ⟨km, kn, kp, kt, kj, ko, false, kd, kc, kl, ki, kz, kg, kx, ke⟩ s0 s) : Keeps ⟨km, kn, kp, kt, kj, ko, false, kd, kc, kl, ki, kz, kg, kx, ke⟩ s0 (State.motionDesc s a2 a3) := by
  unfold State.motionDesc
  extract_lets -underBinder x1 x2 x3 x4
  have h5 : Keeps h.kept s0 x3 := h.markStarted
  refine (Keeps.ite h5.complete (Keeps.ite h5.complete ?_))
  have h6 : Keeps h.kept s0 x4 := Keeps.ite h5.cmdFrame.axisTarget h5
  split
  · exact h6.cmdFrame.axisMove.outputs

theorem Keeps.execMotionDescriptor {s0 a1 s} (h : Keeps ⟨km, kn, kp, kt, kj, ko, false, kd, kc, kl, ki, kz, kg, kx, ke⟩ s0 s) : OutKeeps ⟨km, kn, kp, kt, kj, ko, false, kd, kc, kl, ki, kz, kg, kx, ke⟩ s0 (Machine.execMotionDescriptor a1 s) := by
  unfold Machine.execMotionDescriptor
  refine .next ?_
  split
  · exact h
  · exact Keeps.ite h h.motionDesc

theorem Keeps.showDigest {s0 s} (h : Keeps ⟨km, kn, kp, kt, kj, ko, kf, kd, kc, kl, ki, kz, kg, kx, ke⟩ s0 s) : Keeps ⟨km, kn, kp, kt, kj, ko, kf, kd, kc, kl, ki, kz, kg, kx, ke⟩ s0 (State.showDigest s) := by
  unfold State.showDigest
  exact h.put

theorem Keeps.driveCopied {s0 s} (h : Keeps ⟨km, kn, kp, kt, kj, ko, false, kd, kc, kl, ki, kz, kg, kx, ke⟩ s0 s) : Keeps ⟨km, kn, kp, kt, kj, ko, false, kd, kc, kl, ki, kz, kg, kx, ke⟩ s0 (State.driveCopied s) := by
  unfold State.driveCopied
  exact h.outSet

theorem Keeps.remainCopied {s0 s} (h : Keeps ⟨km, kn, kp, kt, kj, ko, false, kd, kc, kl, ki, kz, kg, kx, ke⟩ s0 s) : Keeps ⟨km, kn, kp, kt, kj, ko, false, kd, kc, kl, ki, kz, kg, kx, ke⟩ s0 (State.remainCopied s) := by
  unfold State.remainCopied
  refine (h.each (fun _ _ h2 => ?_))
  extract_lets -underBinder x3
  exact h2.when (fun _ h5 => h5.remainSet)

theorem Keeps.motionFree {s0 s} (h : Keeps ⟨km, kn, kp, kt, kj, ko, false, kd, kc, kl, ki, kz, kg, kx, ke⟩ s0 s) : Keeps ⟨km, kn, kp, kt, kj, ko, false, kd, kc, kl, ki, kz, kg, kx, ke⟩ s0 (State.motionFree s) := by
  unfold State.motionFree
  exact h.when (fun _ h2 => h2.put.releaseMotion)

theorem Keeps.becomeSolo {s0 s} (h : Keeps ⟨km, kn, kp, kt, kj, ko, false, false, kc, false, ki, kz, kg, kx, ke⟩ s0 s) : Keeps ⟨km, kn, kp, kt, kj, ko, false, false, kc, false, ki, kz, kg, kx, ke⟩ s0 (State.becomeSolo s) := by
  unfold State.becomeSolo
  extract_lets -underBinder x1
  have h2 : Keeps h.kept s0 x1 := h.setRole.setDue
  exact h2.motionFree

theorem Keeps.dropCopied {s0 s} (h : Keeps ⟨false, kn, kp, kt, false, false, kf, false, false, kl, ki, kz, false, kx, ke⟩ s0 s) : Keeps ⟨false, kn, kp, kt, false, false, kf, false, false, kl, ki, kz, false, kx, ke⟩ s0 (State.dropCopied s) := by
  unfold State.dropCopied
  exact h.each (fun _ _ h2 => h2.dropBatch)

theorem Keeps.pairFails {s0 s a2} (h : Keeps ⟨km, kn, kp, kt, kj, ko, kf, false, kc, kl, ki, kz, kg, kx, ke⟩ s0 s) : Keeps ⟨km, kn, kp, kt, kj, ko, kf, false, kc, kl, ki, kz, kg, kx, ke⟩ s0 (State.pairFails s a2) := by
  unfold State.pairFails
  extract_lets -underBinder x1
  have h2 : Keeps h.kept s0 x1 := h.setDue
  exact h2.put.post

theorem Keeps.pairSettle {s0 s} (h : Keeps ⟨km, kn, kp, false, kj, ko, kf, false, kc, kl, ki, kz, kg, kx, ke⟩ s0 s) : Keeps ⟨km, kn, kp, false, kj, ko, kf, false, kc, kl, ki, kz, kg, kx, ke⟩ s0 (State.pairSettle s) := by
  unfold State.pairSettle
  exact h.when (fun _ h2 => h2.setDue.setTb)

theorem Keeps.pairOwn {s0 s} (h : Keeps ⟨km, kn, kp, false, kj, ko, kf, false, kc, kl, ki, kz, kg, kx, ke⟩ s0 s) : Keeps ⟨km, kn, kp, false, kj, ko, kf, false, kc, kl, ki, kz, kg, kx, ke⟩ s0 (State.pairOwn s) := by
  unfold State.pairOwn
  extract_lets -underBinder x1
  have h2 : Keeps h.kept s0 x1 := h.showDigest
  exact Keeps.ite h2.pairFails (Keeps.ite h2.pairFails h2.setDue.pairSettle)

theorem Keeps.dueCtrlWrite {s0 s a2 a3} (h : Keeps ⟨km, kn, kp, false, kj, ko, false, false, kc, false, ki, kz, kg, kx, ke⟩ s0 s) : Keeps ⟨km, kn, kp, false, kj, ko, false, false, kc, false, ki, kz, kg, kx, ke⟩ s0 (State.dueCtrlWrite s a2 a3) := by
  unfold State.dueCtrlWrite
  extract_lets -underBinder x1 x2 x3 x4
  have h11 : Keeps h.kept s0 x1 := h.writeFields
  have h13 : Keeps h.kept s0 x2 := h11.when (fun _ h14 => h14.pairOwn)
  have h17 : Keeps h.kept s0 x3 := h13.when (fun _ h18 => (Keeps.ite h18.put (h18.when (fun _ h19 => h19.becomeSolo))))
  have h22 : Keeps h.kept s0 x4 := h17.when (fun _ h23 => (Keeps.ite h23.put (h23.when (fun _ h24 => h24.setDue))))
  exact h22.when (fun _ h26 => h26.detach)

theorem Keeps.dueCtrlBit {s0 s a2 a3} (h : Keeps ⟨km, kn, kp, false, kj, ko, false, false, kc, false, ki, kz, kg, kx, false⟩ s0 s) : Keeps ⟨km, kn, kp, false, kj, ko, false, false, kc, false, ki, kz, kg, kx, false⟩ s0 (State.dueCtrlBit s a2 a3) := by
  unfold State.dueCtrlBit
  exact h.ownerWrite (fun _ h2 => h2.dueCtrlWrite)

theorem Keeps.execPair {s0 a1 s} (h : Keeps ⟨km, kn, kp, false, kj, ko, false, false, kc, false, ki, kz, kg, kx, false⟩ s0 s) : OutKeeps ⟨km, kn, kp, false, kj, ko, false, false, kc, false, ki, kz, kg, kx, false⟩ s0 (Machine.execPair a1 s) := by
  unfold Machine.execPair
  refine .next ?_
  split
  · exact h.dueCtrlBit
  · exact h.when (fun _ h7 => h7.setDue.pairSettle)

theorem Keeps.execUnpair {s0 a1 s} (h : Keeps ⟨km, kn, kp, false, kj, ko, false, false, kc, false, ki, kz, kg, kx, false⟩ s0 s) : OutKeeps ⟨km, kn, kp, false, kj, ko, false, false, kc, false, ki, kz, kg, kx, false⟩ s0 (Machine.execUnpair a1 s) := by
  unfold Machine.execUnpair
  exact .next h.dueCtrlBit

theorem Keeps.execSwap {s0 a1 s} (h : Keeps ⟨km, kn, kp, false, kj, ko, false, false, kc, false, ki, kz, kg, kx, false⟩ s0 s) : OutKeeps ⟨km, kn, kp, false, kj, ko, false, false, kc, false, ki, kz, kg, kx, false⟩ s0 (Machine.execSwap a1 s) := by
  unfold Machine.execSwap
  exact .next h.dueCtrlBit

theorem Keeps.execDetach {s0 a1 s} (h : Keeps ⟨km, kn, kp, false, kj, ko, false, false, kc, false, ki, kz, kg, kx, false⟩ s0 s) : OutKeeps ⟨km, kn, kp, false, kj, ko, false, false, kc, false, ki, kz, kg, kx, false⟩ s0 (Machine.execDetach a1 s) := by
  unfold Machine.execDetach
  exact .next h.dueCtrlBit

theorem Keeps.showAllem {s0 s} (h : Keeps ⟨km, kn, kp, kt, kj, ko, kf, kd, kc, kl, ki, kz, kg, kx, ke⟩ s0 s) : Keeps ⟨km, kn, kp, kt, kj, ko, kf, kd, kc, kl, ki, kz, kg, kx, ke⟩ s0 (State.showAllem s) := by
  unfold State.showAllem
  exact h.put64

theorem Keeps.pairDone {s0 s} (h : Keeps ⟨km, kn, kp, false, kj, ko, false, false, kc, false, ki, kz, kg, kx, ke⟩ s0 s) : Keeps ⟨km, kn, kp, false, kj, ko, false, false, kc, false, ki, kz, kg, kx, ke⟩ s0 (State.pairDone s) := by
  unfold State.pairDone
  extract_lets -underBinder x1 x2 x3 x4 x5
  have h6 : Keeps h.kept s0 x2 := h.setRole.put
  have h7 : Keeps h.kept s0 x3 := h6.setDue
  have h8 : Keeps h.kept s0 x4 := h7.setTb
  have h9 : Keeps h.kept s0 x5 := h8.putI64.put.showAllem
  exact h9.post

theorem Keeps.execPairResult {s0 a1 s} (h : Keeps ⟨km, kn, kp, false, kj, ko, false, false, kc, false, ki, kz, kg, kx, ke⟩ s0 s) : OutKeeps ⟨km, kn, kp, false, kj, ko, false, false, kc, false, ki, kz, kg, kx, ke⟩ s0 (Machine.execPairResult a1 s) := by
  unfold Machine.execPairResult
  refine .next ?_
  split
  · extract_lets -underBinder x7
    have h8 : Keeps h.kept s0 x7 := h.showDigest
    split
    · exact h8.pairDone
    · exact Keeps.ite h8 h8.pairFails
    · exact h8.pairFails
  · exact h

theorem Keeps.execHb {s0 s} (h : Keeps ⟨km, kn, kp, kt, kj, ko, kf, false, kc, false, ki, kz, kg, kx, ke⟩ s0 s) : OutKeeps ⟨km, kn, kp, kt, kj, ko, kf, false, kc, false, ki, kz, kg, kx, ke⟩ s0 (Machine.execHb s) := by
  unfold Machine.execHb
  extract_lets -underBinder x1
  refine .next ?_
  have h2 : Keeps h.kept s0 x1 := h.setDue
  exact Keeps.ite h h2.duetSend

theorem Keeps.heard {s0 s a2} (h : Keeps ⟨km, kn, kp, kt, kj, ko, kf, false, kc, kl, ki, kz, kg, kx, ke⟩ s0 s) : Keeps ⟨km, kn, kp, kt, kj, ko, kf, false, kc, kl, ki, kz, kg, kx, ke⟩ s0 (State.heard s a2) := by
  unfold State.heard
  extract_lets -underBinder x1 x2 x3
  have h5 : Keeps h.kept s0 x2 := h.setDue
  have h6 : Keeps h.kept s0 x3 := h5.put
  exact h6.when (fun _ h8 => h8.post)

theorem Keeps.execHbIn {s0 a1 s} (h : Keeps ⟨km, kn, kp, kt, kj, ko, kf, false, kc, kl, ki, kz, kg, kx, ke⟩ s0 s) : OutKeeps ⟨km, kn, kp, kt, kj, ko, kf, false, kc, kl, ki, kz, kg, kx, ke⟩ s0 (Machine.execHbIn a1 s) := by
  unfold Machine.execHbIn
  exact .next (h.when (fun _ h3 => (h3.stsFrame.when (fun _ h4 => (Keeps.ite h4.count.pmcAdd h4.heard)))))

theorem Keeps.duetAck {s0 s a2 a3 a4 a5} (h : Keeps ⟨km, kn, kp, kt, kj, ko, kf, false, kc, false, ki, kz, kg, kx, ke⟩ s0 s) : Keeps ⟨km, kn, kp, kt, kj, ko, kf, false, kc, false, ki, kz, kg, kx, ke⟩ s0 (State.duetAck s a2 a3 a4 a5) := by
  unfold State.duetAck
  exact h.duetSend

theorem Keeps.peerAccessEnds {s0 s a2} (h : Keeps ⟨km, kn, kp, kt, kj, ko, kf, kd, kc, kl, ki, kz, kg, kx, ke⟩ s0 s) : Keeps ⟨km, kn, kp, kt, kj, ko, kf, kd, kc, kl, ki, kz, kg, kx, ke⟩ s0 (State.peerAccessEnds s a2) := by
  unfold State.peerAccessEnds
  extract_lets -underBinder x1 x2
  have h3 : Keeps h.kept s0 x1 := h.put.put
  exact h3.chHost

theorem Keeps.peerAccessFails {s0 s} (h : Keeps ⟨km, kn, kp, kt, kj, ko, kf, kd, kc, kl, ki, kz, kg, kx, ke⟩ s0 s) : Keeps ⟨km, kn, kp, kt, kj, ko, kf, kd, kc, kl, ki, kz, kg, kx, ke⟩ s0 (State.peerAccessFails s) := by
  unfold State.peerAccessFails
  exact h.when (fun _ h2 => h2.peerAccessEnds.post)

theorem Keeps.duetGap {s0 s a2 a3 a4} (h : Keeps ⟨km, kn, kp, kt, kj, ko, kf, false, kc, false, ki, kz, kg, kx, ke⟩ s0 s) : Keeps ⟨km, kn, kp, kt, kj, ko, kf, false, kc, false, ki, kz, kg, kx, ke⟩ s0 (State.duetGap s a2 a3 a4) := by
  unfold State.duetGap
  extract_lets -underBinder x1 x2
  have h4 : Keeps h.kept s0 x1 := h.post
  refine (Keeps.ite h4.count.pmcAdd (Keeps.ite (h4.each (fun _ _ h6 => ?_)) (Keeps.ite h4.peerAccessFails h4)))
  extract_lets -underBinder x7
  exact h6.setDue.duetAck

theorem Keeps.chanIn {s0 s a2 a3} (h : Keeps ⟨km, kn, kp, kt, kj, ko, kf, false, kc, false, ki, kz, kg, kx, ke⟩ s0 s) : Keeps ⟨km, kn, kp, kt, kj, ko, kf, false, kc, false, ki, kz, kg, kx, ke⟩ s0 (State.chanIn s a2 a3) := by
  unfold State.chanIn
  extract_lets -underBinder x1 x2
  have h4 : Keeps h.kept s0 x2 := h.setDue
  exact Keeps.ite h.setDue (h4.when (fun _ h6 => h6.duetGap))

theorem Keeps.hbIn {s0 s a2} (h : Keeps ⟨km, kn, kp, kt, kj, ko, kf, false, kc, kl, ki, kz, kg, kx, ke⟩ s0 s) : Keeps ⟨km, kn, kp, kt, kj, ko, kf, false, kc, kl, ki, kz, kg, kx, ke⟩ s0 (State.hbIn s a2) := by
  unfold State.hbIn
  exact h.put.setDue.heard

theorem Keeps.resend {s0 s a2 a3} (h : Keeps ⟨km, kn, kp, kt, kj, ko, kf, false, kc, false, ki, kz, kg, kx, ke⟩ s0 s) : Keeps ⟨km, kn, kp, kt, kj, ko, kf, false, kc, false, ki, kz, kg, kx, ke⟩ s0 (State.resend s a2 a3) := by
  unfold State.resend
  split
  · exact h
  · extract_lets -underBinder x6 x7
    have h8 : Keeps h.kept s0 x6 := h.setDue
    have h9 : Keeps h.kept s0 x7 := h8.peerPut
    exact h9.count.pmcAdd

theorem Keeps.ackIn {s0 s a2} (h : Keeps ⟨km, kn, kp, kt, kj, ko, kf, false, kc, false, ki, kz, kg, kx, ke⟩ s0 s) : Keeps ⟨km, kn, kp, kt, kj, ko, kf, false, kc, false, ki, kz, kg, kx, ke⟩ s0 (State.ackIn s a2) := by
  unfold State.ackIn
  extract_lets -underBinder x1 x2
  exact Keeps.ite h.resend h.setDue

theorem Keeps.execChan {s0 a1 a2 a3 a4 s} (h : Keeps ⟨km, kn, kp, kt, kj, ko, kf, false, kc, false, ki, kz, kg, kx, false⟩ s0 s) : OutKeeps ⟨km, kn, kp, kt, kj, ko, kf, false, kc, false, ki, kz, kg, kx, false⟩ s0 (Machine.execChan a1 a2 a3 a4 s) := by
  unfold Machine.execChan
  extract_lets -underBinder x1
  refine .next ?_
  have h2 : Keeps h.kept s0 x1 := h.chanIn
  exact Keeps.ite h (Keeps.ite h (Keeps.ite h.peerDiscard (Keeps.ite h2.hbIn (Keeps.ite h2.ackIn h2))))

theorem Keeps.execDuetNakTimeout {s0 s} (h : Keeps ⟨km, kn, kp, kt, kj, ko, false, false, kc, false, ki, kz, kg, kx, ke⟩ s0 s) : OutKeeps ⟨km, kn, kp, kt, kj, ko, false, false, kc, false, ki, kz, kg, kx, ke⟩ s0 (Machine.execDuetNakTimeout s) := by
  unfold Machine.execDuetNakTimeout
  exact .next (Keeps.ite h.setDue.detach h)

theorem Keeps.standbyFeed {s0 s a2} (h : Keeps ⟨km, kn, kp, false, kj, ko, kf, kd, kc, kl, ki, kz, kg, kx, ke⟩ s0 s) : Keeps ⟨km, kn, kp, false, kj, ko, kf, kd, kc, kl, ki, kz, kg, kx, ke⟩ s0 (State.standbyFeed s a2) := by
  unfold State.standbyFeed
  refine (Keeps.ite h (Keeps.ite h.feed ?_))
  split
  · exact Keeps.ite h.feed h
  · exact h

theorem Keeps.restartGap {s0 s a2} (h : Keeps ⟨km, kn, kp, false, kj, ko, kf, kd, kc, kl, ki, kz, kg, kx, ke⟩ s0 s) : Keeps ⟨km, kn, kp, false, kj, ko, kf, kd, kc, kl, ki, kz, kg, kx, ke⟩ s0 (State.restartGap s a2) := by
  unfold State.restartGap
  split
  · exact h
  · exact Keeps.ite h h.setTb

theorem Keeps.execTiming {s0 a1 a2 a3 a4 s} (h : Keeps ⟨km, kn, kp, false, kj, ko, kf, false, kc, kl, ki, kz, kg, kx, ke⟩ s0 s) : OutKeeps ⟨km, kn, kp, false, kj, ko, kf, false, kc, kl, ki, kz, kg, kx, ke⟩ s0 (Machine.execTiming a1 a2 a3 a4 s) := by
  unfold Machine.execTiming
  extract_lets -underBinder x1 x2
  refine .next ?_
  have h3 : Keeps h.kept s0 x2 := h.setDue
  exact Keeps.ite h (Keeps.ite h3.put.restartGap.standbyFeed h3.setDue)

theorem Keeps.execStDueTimingLocal {s0 a1 s} (h : Keeps ⟨km, kn, kp, false, kj, ko, kf, false, kc, kl, ki, kz, kg, kx, ke⟩ s0 s) : OutKeeps ⟨km, kn, kp, false, kj, ko, kf, false, kc, kl, ki, kz, kg, kx, ke⟩ s0 (Machine.execStDueTimingLocal a1 s) := by
  unfold Machine.execStDueTimingLocal
  extract_lets -underBinder x1 x2
  refine .next ?_
  have h4 : Keeps h.kept s0 x1 := by
    unfold x1
    split
    · exact Keeps.ite h.feed h
    · exact h
  have h10 : Keeps h.kept s0 x2 := h4.put
  exact Keeps.ite h (h10.when (fun _ h12 => h12.setDue.post))

theorem Keeps.exchangeAll {s0 s} (h : Keeps ⟨km, kn, kp, kt, kj, false, kf, kd, kc, false, ki, kz, kg, kx, ke⟩ s0 s) : Keeps ⟨km, kn, kp, kt, kj, false, kf, kd, kc, false, ki, kz, kg, kx, ke⟩ s0 (State.exchangeAll s) := by
  unfold State.exchangeAll
  exact h.each (fun _ _ h2 => h2.ttReq)

theorem Keeps.claim {s0 s} (h : Keeps ⟨false, kn, kp, kt, false, false, false, false, false, false, ki, kz, false, kx, ke⟩ s0 s) : Keeps ⟨false, kn, kp, kt, false, false, false, false, false, false, ki, kz, false, kx, ke⟩ s0 (State.claim s) := by
  unfold State.claim
  extract_lets -underBinder x1 x2 x3 x4 x5
  have h7 : Keeps h.kept s0 x2 := h.setRole
  have h8 : Keeps h.kept s0 x3 := h7.setDue
  have h9 : Keeps h.kept s0 x4 := h8.put.count.post
  have h11 : Keeps h.kept s0 x5 := h9.when (fun _ h12 => h12.post)
  exact h11.exchangeAll.driveCopied.dropCopied

theorem Keeps.bothLost {s0 s} (h : Keeps ⟨false, kn, kp, kt, false, false, false, false, false, false, ki, kz, false, kx, ke⟩ s0 s) : Keeps ⟨false, kn, kp, kt, false, false, false, false, false, false, ki, kz, false, kx, ke⟩ s0 (State.bothLost s) := by
  unfold State.bothLost
  extract_lets -underBinder x1
  have h3 : Keeps h.kept s0 x1 := h.setDue
  exact Keeps.ite h3.claim (h3.when (fun _ h5 => h5.put.setDue))

theorem Keeps.pathLost {s0 s a2} (h : Keeps ⟨km, kn, kp, kt, kj, ko, kf, false, kc, kl, ki, kz, kg, kx, ke⟩ s0 s) : Keeps ⟨km, kn, kp, kt, kj, ko, kf, false, kc, kl, ki, kz, kg, kx, ke⟩ s0 (State.pathLost s a2) := by
  unfold State.pathLost
  extract_lets -underBinder x1 x2 x3 x4
  have h6 : Keeps h.kept s0 x1 := h.setDue
  have h7 : Keeps h.kept s0 x2 := h6.put
  have h8 : Keeps h.kept s0 x3 := h7.put
  have h10 : Keeps h.kept s0 x4 := h8.when (fun _ h11 => h11.count.pmcAdd)
  exact h10.post

theorem Keeps.confirmed {s0 s} (h : Keeps ⟨km, kn, kp, kt, kj, ko, false, false, kc, false, ki, kz, kg, kx, ke⟩ s0 s) : Keeps ⟨km, kn, kp, kt, kj, ko, false, false, kc, false, ki, kz, kg, kx, ke⟩ s0 (State.confirmed s) := by
  unfold State.confirmed
  extract_lets -underBinder x1 x2
  have h3 : Keeps h.kept s0 x1 := h.setDue
  have h4 : Keeps h.kept s0 x2 := h3.setRole.setDue
  exact Keeps.ite h4.post.remainCopied h3.motionFree

theorem Keeps.confirmBy {s0 s a2 a3} (h : Keeps ⟨km, kn, kp, kt, kj, ko, false, false, kc, false, ki, kz, kg, kx, ke⟩ s0 s) : Keeps ⟨km, kn, kp, kt, kj, ko, false, false, kc, false, ki, kz, kg, kx, ke⟩ s0 (State.confirmBy s a2 a3) := by
  unfold State.confirmBy
  extract_lets -underBinder x1
  have h3 : Keeps h.kept s0 x1 := h.setDue
  exact Keeps.ite h (h3.when (fun _ h5 => h5.confirmed))

theorem Keeps.execStDueRevert {s0 s} (h : Keeps ⟨km, kn, kp, kt, kj, ko, false, false, kc, false, ki, kz, kg, kx, ke⟩ s0 s) : OutKeeps ⟨km, kn, kp, kt, kj, ko, false, false, kc, false, ki, kz, kg, kx, ke⟩ s0 (Machine.execStDueRevert s) := by
  unfold Machine.execStDueRevert
  refine .next ?_
  split
  · exact h
  · extract_lets -underBinder x6
    have h7 : Keeps h.kept s0 x6 := h.setRole.setDue
    exact Keeps.ite h h7.put.post

theorem Keeps.execStDuePeerLost {s0 s} (h : Keeps ⟨km, kn, kp, kt, kj, ko, false, false, kc, false, ki, kz, kg, kx, ke⟩ s0 s) : OutKeeps ⟨km, kn, kp, kt, kj, ko, false, false, kc, false, ki, kz, kg, kx, ke⟩ s0 (Machine.execStDuePeerLost s) := by
  unfold Machine.execStDuePeerLost
  refine .next ?_
  split
  · exact h
  · exact Keeps.ite h (h.when (fun _ h7 => h7.becomeSolo)).setDue.post

theorem Keeps.execDuetOwnRaise {s0 a1 s} (h : Keeps ⟨km, kn, kp, kt, kj, ko, false, false, kc, kl, ki, kz, kg, kx, ke⟩ s0 s) : OutKeeps ⟨km, kn, kp, kt, kj, ko, false, false, kc, kl, ki, kz, kg, kx, ke⟩ s0 (Machine.execDuetOwnRaise a1 s) := by
  unfold Machine.execDuetOwnRaise
  extract_lets -underBinder x1
  exact .next (Keeps.ite h h.setDue.motionFree)

theorem Keeps.applyOrder {s0 s a2} (h : Keeps ⟨false, kn, false, kt, false, false, false, false, false, false, false, kz, false, kx, ke⟩ s0 s) : Keeps ⟨false, kn, false, kt, false, false, false, false, false, false, false, kz, false, kx, ke⟩ s0 (State.applyOrder s a2) := by
  unfold State.applyOrder
  split
  · split
    · exact h.startChain
    · exact h
  · exact h.when (fun _ h13 => h13.enterSafeStop)
  · exact h.when (fun _ h18 => h18.endChains)
  · exact h

theorem Keeps.runOrders {s0 s} (h : Keeps ⟨false, kn, false, kt, false, false, false, false, false, false, false, kz, false, kx, ke⟩ s0 s) : Keeps ⟨false, kn, false, kt, false, false, false, false, false, false, false, kz, false, kx, ke⟩ s0 (State.runOrders s) := by
  unfold State.runOrders
  extract_lets -underBinder x1 x2
  exact h.setDue.each (fun _ _ h4 => h4.applyOrder)

theorem Keeps.execOrder {s0 a1 s} (h : Keeps ⟨false, kn, false, kt, false, false, false, false, false, false, false, kz, false, kx, ke⟩ s0 s) : OutKeeps ⟨false, kn, false, kt, false, false, false, false, false, false, false, kz, false, kx, ke⟩ s0 (Machine.execOrder a1 s) := by
  unfold Machine.execOrder
  refine .next ?_
  refine (Keeps.ite h ?_)
  split
  · exact h.runOrders
  · extract_lets -underBinder x4
    exact Keeps.ite h h.duetAck.setDue.runOrders

theorem Keeps.sendCopy {s0 s} (h : Keeps ⟨km, kn, kp, kt, kj, ko, kf, false, kc, false, ki, kz, kg, kx, ke⟩ s0 s) : Keeps ⟨km, kn, kp, kt, kj, ko, kf, false, kc, false, ki, kz, kg, kx, ke⟩ s0 (State.sendCopy s) := by
  unfold State.sendCopy
  extract_lets -underBinder x1 x2 x3
  have h4 : Keeps h.kept s0 x1 := h.showDigest
  exact Keeps.ite h h4.setDue.peerPut.pmcAdd

theorem Keeps.execState {s0 s} (h : Keeps ⟨km, kn, kp, kt, kj, ko, kf, false, kc, false, ki, kz, kg, kx, ke⟩ s0 s) : OutKeeps ⟨km, kn, kp, kt, kj, ko, kf, false, kc, false, ki, kz, kg, kx, ke⟩ s0 (Machine.execState s) := by
  unfold Machine.execState
  exact .next (Keeps.ite h h.setDue.sendCopy)

theorem Keeps.holdLines {s0 s a2 a3 a4 a5} (h : Keeps ⟨km, kn, kp, kt, false, ko, kf, kd, kc, kl, ki, kz, kg, kx, ke⟩ s0 s) : Keeps ⟨km, kn, kp, kt, false, ko, kf, kd, kc, kl, ki, kz, kg, kx, ke⟩ s0 (State.holdLines s a2 a3 a4 a5) := by
  unfold State.holdLines
  exact h.setJobs

theorem Keeps.copyRec {s0 s a2 a3} (h : Keeps ⟨false, kn, kp, kt, false, false, kf, false, false, kl, ki, kz, false, kx, ke⟩ s0 s) : Keeps ⟨false, kn, kp, kt, false, false, kf, false, false, kl, ki, kz, false, kx, ke⟩ s0 (State.copyRec s a2 a3) := by
  unfold State.copyRec
  extract_lets -underBinder x1 x2 x3
  have h4 : Keeps h.kept s0 x3 := by
    unfold x3
    have h5 : Keeps h.kept s0 x2 := h.setSmp
    split
    · exact h5
    · refine (h5.when (fun _ h12 => ?_))
      extract_lets -underBinder x13
      have h14 : Keeps h.kept s0 x13 := h12.setSmp
      exact h14.holdLines.put.post
  split
  · exact h4.smpTake
  · exact h4

theorem Keeps.diverge {s0 s a2 a3 a4} (h : Keeps ⟨km, kn, kp, kt, false, ko, kf, false, kc, kl, ki, kz, kg, kx, ke⟩ s0 s) : Keeps ⟨km, kn, kp, kt, false, ko, kf, false, kc, kl, ki, kz, kg, kx, ke⟩ s0 (State.diverge s a2 a3 a4) := by
  unfold State.diverge
  split
  · exact h
  · extract_lets -underBinder x6 x7
    have h9 : Keeps h.kept s0 x7 := h.each (fun _ _ h10 => h10.setDue.holdLines)
    exact h9.put.post

theorem Keeps.copyPlan {s0 s a2} (h : Keeps ⟨km, kn, kp, kt, false, ko, kf, kd, false, kl, ki, kz, kg, kx, ke⟩ s0 s) : Keeps ⟨km, kn, kp, kt, false, ko, kf, kd, false, kl, ki, kz, kg, kx, ke⟩ s0 (State.copyPlan s a2) := by
  unfold State.copyPlan
  extract_lets -underBinder x1 x2 x3 x4
  have h6 : Keeps h.kept s0 x2 := h.setCal
  refine (h6.when (fun _ h8 => ?_))
  extract_lets -underBinder x9 x10 x11
  have h13 : Keeps h.kept s0 x11 := h8.each (fun _ _ h14 => h14.setCal.holdLines)
  exact h13.put.post

theorem Keeps.copyItem {s0 s a2} (h : Keeps ⟨false, kn, kp, kt, false, false, false, false, false, false, false, kz, false, kx, ke⟩ s0 s) : Keeps ⟨false, kn, kp, kt, false, false, false, false, false, false, false, kz, false, kx, ke⟩ s0 (State.copyItem s a2) := by
  unfold State.copyItem
  split
  · exact h.copyRec
  · exact (h.when (fun _ h15 => h15.diverge)).queueBar
  · exact (h.when (fun _ h22 => h22.diverge)).queueXweb
  · extract_lets -underBinder x27 x28
    have h30 : Keeps h.kept s0 x28 := h.when (fun _ h31 => h31.diverge)
    exact h30.setJobs.showQueues
  · exact h.copyPlan
  · exact h.put.put.setCal
  · exact h.setCal
  · exact h.when (fun _ h45 => h45.setDue.post)
  · exact h.setDue
  · exact h.setDue
  · exact h.when (fun _ h57 => h57.detach)

theorem Keeps.execStateCopyReceive {s0 a1 s} (h : Keeps ⟨false, kn, kp, kt, false, false, false, false, false, false, false, kz, false, kx, ke⟩ s0 s) : OutKeeps ⟨false, kn, kp, kt, false, false, false, false, false, false, false, kz, false, kx, ke⟩ s0 (Machine.execStateCopyReceive a1 s) := by
  unfold Machine.execStateCopyReceive
  extract_lets -underBinder x1
  refine .next ?_
  have h3 : Keeps h.kept s0 x1 := h.showDigest.duetAck
  exact Keeps.ite h (h3.each (fun _ _ h5 => h5.copyItem)).setDue

theorem Keeps.execDigest {s0 a1 a2 s} (h : Keeps ⟨km, kn, kp, kt, kj, ko, kf, false, kc, kl, ki, kz, kg, kx, ke⟩ s0 s) : OutKeeps ⟨km, kn, kp, kt, kj, ko, kf, false, kc, kl, ki, kz, kg, kx, ke⟩ s0 (Machine.execDigest a1 a2 s) := by
  unfold Machine.execDigest
  extract_lets -underBinder x1
  exact .next (Keeps.ite h h.setDue)

theorem Keeps.execDigestGateTimeout {s0 s} (h : Keeps ⟨km, kn, kp, kt, false, false, false, false, false, false, false, kz, kg, kx, ke⟩ s0 s) : OutKeeps ⟨km, kn, kp, kt, false, false, false, false, false, false, false, kz, kg, kx, ke⟩ s0 (Machine.execDigestGateTimeout s) := by
  unfold Machine.execDigestGateTimeout
  extract_lets -underBinder x1
  exact .next (Keeps.ite h (h.each (fun _ _ h3 => h3.sendTurn)).freeShadow.pagesDone)

theorem Keeps.orderSwap {s0 s a2 a3 a4} (h : Keeps ⟨km, kn, kp, kt, kj, ko, kf, false, kc, false, ki, kz, kg, kx, ke⟩ s0 s) : Keeps ⟨km, kn, kp, kt, kj, ko, kf, false, kc, false, ki, kz, kg, kx, ke⟩ s0 (State.orderSwap s a2 a3 a4) := by
  unfold State.orderSwap
  extract_lets -underBinder x1
  exact h.order.setDue

theorem Keeps.execAllemandeStart {s0 a1 s} (h : Keeps ⟨km, kn, kp, kt, kj, ko, kf, false, kc, false, ki, kz, kg, kx, ke⟩ s0 s) : OutKeeps ⟨km, kn, kp, kt, kj, ko, kf, false, kc, false, ki, kz, kg, kx, ke⟩ s0 (Machine.execAllemandeStart a1 s) := by
  unfold Machine.execAllemandeStart
  extract_lets -underBinder x1 x2
  refine .next ?_
  refine (Keeps.ite h ?_)
  have h4 : Keeps h.kept s0 x2 := h.when (fun _ h5 => h5.setDue)
  split
  · exact h4
  · exact Keeps.ite h4 h4.orderSwap

theorem Keeps.execStDueAllemSkip {s0 s} (h : Keeps ⟨km, kn, kp, kt, kj, ko, kf, false, kc, kl, ki, kz, kg, kx, ke⟩ s0 s) : OutKeeps ⟨km, kn, kp, kt, kj, ko, kf, false, kc, kl, ki, kz, kg, kx, ke⟩ s0 (Machine.execStDueAllemSkip s) := by
  unfold Machine.execStDueAllemSkip
  refine .next ?_
  split
  · exact h
  · extract_lets -underBinder x6 x7 x8
    have h10 : Keeps h.kept s0 x7 := h.setDue
    have h12 : Keeps h.kept s0 x8 := h10.when (fun _ h13 => h13.setDue.showAllem)
    exact Keeps.ite h h12.put.post

theorem Keeps.execAllemandeCancel {s0 s} (h : Keeps ⟨km, kn, kp, kt, kj, ko, kf, false, kc, kl, ki, kz, kg, kx, ke⟩ s0 s) : OutKeeps ⟨km, kn, kp, kt, kj, ko, kf, false, kc, kl, ki, kz, kg, kx, ke⟩ s0 (Machine.execAllemandeCancel s) := by
  unfold Machine.execAllemandeCancel
  refine .next ?_
  split
  · split
    · exact h.when (fun _ h8 => h8.setDue)
    · exact h
  · exact h

theorem Keeps.handOver {s0 s} (h : Keeps ⟨km, kn, kp, kt, kj, ko, kf, false, kc, false, ki, kz, kg, kx, ke⟩ s0 s) : Keeps ⟨km, kn, kp, kt, kj, ko, kf, false, kc, false, ki, kz, kg, kx, ke⟩ s0 (State.handOver s) := by
  unfold State.handOver
  extract_lets -underBinder x1
  exact Keeps.ite h h.orderSwap

theorem Keeps.execHandover {s0 s} (h : Keeps ⟨km, kn, kp, kt, kj, ko, kf, false, kc, false, ki, kz, kg, kx, ke⟩ s0 s) : OutKeeps ⟨km, kn, kp, kt, kj, ko, kf, false, kc, false, ki, kz, kg, kx, ke⟩ s0 (Machine.execHandover s) := by
  unfold Machine.execHandover
  exact .next h.handOver

theorem Keeps.flip {s0 s a2} (h : Keeps ⟨false, kn, kp, kt, false, false, false, false, false, false, ki, kz, false, kx, ke⟩ s0 s) : Keeps ⟨false, kn, kp, kt, false, false, false, false, false, false, ki, kz, false, kx, ke⟩ s0 (State.flip s a2) := by
  unfold State.flip
  extract_lets -underBinder x1 x2 x3 x4
  have h6 : Keeps h.kept s0 x2 := h.when (fun _ h7 => h7.sendCopy)
  have h8 : Keeps h.kept s0 x3 := h6.setRole
  have h9 : Keeps h.kept s0 x4 := h8.setDue
  exact Keeps.ite h9.exchangeAll h9.driveCopied.dropCopied

theorem Keeps.execAllemandeSwapPoint {s0 s} (h : Keeps ⟨false, kn, kp, kt, false, false, false, false, false, false, ki, kz, false, kx, ke⟩ s0 s) : OutKeeps ⟨false, kn, kp, kt, false, false, false, false, false, false, ki, kz, false, kx, ke⟩ s0 (Machine.execAllemandeSwapPoint s) := by
  unfold Machine.execAllemandeSwapPoint
  refine .next ?_
  split
  · exact h.when (fun _ h5 => h5.flip)
  · exact h

theorem Keeps.execStDueAllemande {s0 s} (h : Keeps ⟨km, kn, kp, kt, kj, false, kf, false, kc, kl, ki, kz, kg, kx, ke⟩ s0 s) : OutKeeps ⟨km, kn, kp, kt, kj, false, kf, false, kc, kl, ki, kz, kg, kx, ke⟩ s0 (Machine.execStDueAllemande s) := by
  unfold Machine.execStDueAllemande
  refine .next ?_
  split
  · exact h
  · extract_lets -underBinder x7 x8 x9
    have h12 : Keeps h.kept s0 x7 := h.setDue
    have h15 : Keeps h.kept s0 x8 := h12.when (fun _ h16 => (h16.each (fun _ _ h17 => h17.timebase)))
    have h18 : Keeps h.kept s0 x9 := h15.count.showAllem.post
    exact Keeps.ite h h18

theorem Keeps.execStDuePathLoss {s0 s} (h : Keeps ⟨false, kn, kp, kt, false, false, false, false, false, false, ki, kz, false, kx, ke⟩ s0 s) : OutKeeps ⟨false, kn, kp, kt, false, false, false, false, false, false, ki, kz, false, kx, ke⟩ s0 (Machine.execStDuePathLoss s) := by
  unfold Machine.execStDuePathLoss
  extract_lets -underBinder x1 x2 x3 x4
  refine .next ?_
  have h8 : Keeps h.kept s0 x3 := by
    unfold x3
    split
    · exact h.when (fun _ h13 => h13.flip)
    · exact h
  have h18 : Keeps h.kept s0 x4 := (h8.when (fun _ h19 => h19.pathLost)).when (fun _ h20 => h20.pathLost)
  exact Keeps.ite h (h18.when (fun _ h22 => h22.bothLost))

end Sys2Proof.Machine
end

