-- ==== Sys2Proof/Laws/KeepsHost.lean ====
section
/-! SUPPORT. What the operations on the rings, the host, DRAM, the buses and the field inputs keep: the queue, the canonical maps and every part of the state that the operation does not change (the parts that its lemma leaves free). One lemma for each operation. -/

namespace Sys2Proof.Machine

variable {km kn kp kt kj ko kf kd kc kl ki kz kg kx ke : Bool}
variable {k : Kept}

theorem Keeps.showSlots {s0 s} (h : Keeps ⟨km, kn, kp, kt, kj, ko, kf, kd, kc, kl, ki, kz, kg, kx, ke⟩ s0 s) : Keeps ⟨km, kn, kp, kt, kj, ko, kf, kd, kc, kl, ki, kz, kg, kx, ke⟩ s0 (State.showSlots s) := by
  unfold State.showSlots
  exact h.put

theorem Keeps.ringOn {s0 s a2} (h : Keeps ⟨km, kn, kp, kt, kj, ko, kf, kd, kc, kl, ki, kz, kg, kx, ke⟩ s0 s) : Keeps ⟨km, kn, kp, kt, kj, ko, kf, kd, kc, kl, ki, kz, kg, kx, ke⟩ s0 (State.ringOn s a2) := by
  unfold State.ringOn
  extract_lets -underBinder x1 x2
  have h3 : Keeps h.kept s0 x1 := h.put.put.put
  have h4 : Keeps h.kept s0 x2 := h3.put.put.put
  exact h4.setRing.showSlots

theorem Keeps.ringOff {s0 s a2} (h : Keeps ⟨km, kn, kp, kt, kj, ko, kf, kd, kc, kl, ki, kz, kg, kx, ke⟩ s0 s) : Keeps ⟨km, kn, kp, kt, kj, ko, kf, kd, kc, kl, ki, kz, kg, kx, ke⟩ s0 (State.ringOff s a2) := by
  unfold State.ringOff
  extract_lets -underBinder x1 x2
  have h3 : Keeps h.kept s0 x1 := h.put.put
  exact h3.chHost.showSlots

theorem Keeps.ringDisable {s0 s a2} (h : Keeps ⟨km, kn, kp, kt, kj, ko, kf, kd, kc, kl, ki, kz, kg, kx, ke⟩ s0 s) : Keeps ⟨km, kn, kp, kt, kj, ko, kf, kd, kc, kl, ki, kz, kg, kx, ke⟩ s0 (State.ringDisable s a2) := by
  unfold State.ringDisable
  extract_lets -underBinder x1
  have h4 : Keeps h.kept s0 x1 := h.when (fun _ h5 => (h5.each (fun _ _ h6 => h6.completeAborted)))
  exact Keeps.ite h.put h4.ringOff

theorem Keeps.ringCfgWrite {s0 s a2 a3 a4} (h : Keeps ⟨km, kn, kp, kt, kj, ko, kf, kd, kc, kl, ki, kz, kg, kx, ke⟩ s0 s) : Keeps ⟨km, kn, kp, kt, kj, ko, kf, kd, kc, kl, ki, kz, kg, kx, ke⟩ s0 (State.ringCfgWrite s a2 a3 a4) := by
  unfold State.ringCfgWrite
  extract_lets -underBinder x1 x2 x3 x4 x5 x6 x7 x8
  have h9 : Keeps h.kept s0 x6 := h.writeFields.put
  have h10 : Keeps h.kept s0 x8 := h9.put
  exact Keeps.ite h.writeFields (Keeps.ite h.put (Keeps.ite (Keeps.ite h10.ringOn h10) (Keeps.ite h9.ringDisable h9)))

theorem Keeps.execRingEnable {s0 a1 a2 a3 s} (h : Keeps ⟨km, kn, kp, kt, kj, ko, kf, kd, kc, kl, ki, kz, kg, kx, false⟩ s0 s) : OutKeeps ⟨km, kn, kp, kt, kj, ko, kf, kd, kc, kl, ki, kz, kg, kx, false⟩ s0 (Machine.execRingEnable a1 a2 a3 s) := by
  unfold Machine.execRingEnable
  exact .next (Keeps.ite h (h.ownerWrite (fun _ h2 => h2.ringCfgWrite)))

theorem Keeps.stopFunction {s0 s a2} (h : Keeps ⟨false, kn, false, kt, false, false, kf, false, false, false, false, false, false, kx, ke⟩ s0 s) : Keeps ⟨false, kn, false, kt, false, false, kf, false, false, false, false, false, false, kx, ke⟩ s0 (State.stopFunction s a2) := by
  unfold State.stopFunction
  split
  · exact h.endChains.order
  · exact h.setIns
  · exact h.zipAbort
  · exact h.setPwr
  · exact h.calStop
  · exact h

theorem Keeps.doorbellBad {s0 s a2} (h : Keeps ⟨km, kn, kp, kt, kj, ko, kf, kd, kc, kl, ki, kz, kg, kx, ke⟩ s0 s) : Keeps ⟨km, kn, kp, kt, kj, ko, kf, kd, kc, kl, ki, kz, kg, kx, ke⟩ s0 (State.doorbellBad s a2) := by
  unfold State.doorbellBad
  exact h.rngCount.put.postLimited

theorem Keeps.dropPosted {s0 s a2} (h : Keeps ⟨km, kn, kp, kt, kj, ko, kf, kd, kc, kl, ki, kz, kg, kx, ke⟩ s0 s) : Keeps ⟨km, kn, kp, kt, kj, ko, kf, kd, kc, kl, ki, kz, kg, kx, ke⟩ s0 (State.dropPosted s a2) := by
  unfold State.dropPosted
  split
  · extract_lets -underBinder x5 x6
    exact Keeps.ite h.put.setRing.doorbellBad h
  · exact h

theorem Keeps.ringAbort {s0 s a2} (h : Keeps ⟨false, kn, false, kt, false, false, kf, false, false, false, false, false, false, kx, ke⟩ s0 s) : Keeps ⟨false, kn, false, kt, false, false, kf, false, false, false, false, false, false, kx, ke⟩ s0 (State.ringAbort s a2) := by
  unfold State.ringAbort
  extract_lets -underBinder x1 x2 x3 x4
  have h5 : Keeps h.kept s0 x1 := h.dropPosted
  have h6 : Keeps h.kept s0 x3 := h5.put.stopFunction
  exact h6.setRing

theorem Keeps.deviceAbort {s0 s} (h : Keeps ⟨false, kn, false, kt, false, false, kf, false, false, false, false, false, false, kx, ke⟩ s0 s) : Keeps ⟨false, kn, false, kt, false, false, kf, false, false, false, false, false, false, kx, ke⟩ s0 (State.deviceAbort s) := by
  unfold State.deviceAbort
  extract_lets -underBinder x1 x2 x3 x4
  have h6 : Keeps h.kept s0 x3 := (h.rngCount.each (fun _ _ h7 => h7.ringAbort)).endChains.order
  exact Keeps.ite h6.chHost h6.post

theorem Keeps.devAbortDone {s0 s} (h : Keeps ⟨km, kn, kp, kt, kj, ko, kf, kd, kc, kl, ki, kz, kg, kx, ke⟩ s0 s) : Keeps ⟨km, kn, kp, kt, kj, ko, kf, kd, kc, kl, ki, kz, kg, kx, ke⟩ s0 (State.devAbortDone s) := by
  unfold State.devAbortDone
  extract_lets -underBinder x1
  exact Keeps.ite h.chHost.post h

theorem Keeps.abortDone {s0 s a2} (h : Keeps ⟨km, kn, kp, kt, kj, ko, kf, kd, kc, kl, ki, kz, kg, kx, ke⟩ s0 s) : Keeps ⟨km, kn, kp, kt, kj, ko, kf, kd, kc, kl, ki, kz, kg, kx, ke⟩ s0 (State.abortDone s a2) := by
  unfold State.abortDone
  extract_lets -underBinder x1 x2 x3 x4 x5 x6 x7 x8
  have h10 : Keeps h.kept s0 x5 := h.each (fun _ _ h11 => h11.completeAborted)
  have h12 : Keeps h.kept s0 x6 := h10.put.put
  have h13 : Keeps h.kept s0 x8 := h12.put.setRing
  exact Keeps.ite h h13.post.devAbortDone

theorem Keeps.execStRingAborted {s0 a1 s} (h : Keeps ⟨km, kn, kp, kt, kj, ko, kf, kd, kc, kl, ki, kz, kg, kx, ke⟩ s0 s) : OutKeeps ⟨km, kn, kp, kt, kj, ko, kf, kd, kc, kl, ki, kz, kg, kx, ke⟩ s0 (Machine.execStRingAborted a1 s) := by
  unfold Machine.execStRingAborted
  exact .next h.abortDone

theorem Keeps.posted_ {s0 s a2 a3} (h : Keeps ⟨km, kn, kp, kt, kj, ko, kf, kd, kc, kl, ki, kz, kg, kx, ke⟩ s0 s) : Keeps ⟨km, kn, kp, kt, kj, ko, kf, kd, kc, kl, ki, kz, kg, kx, ke⟩ s0 (State.posted_ s a2 a3) := by
  unfold State.posted_
  extract_lets -underBinder x1 x2 x3
  have h5 : Keeps h.kept s0 x3 := h.when (fun _ h6 => h6.setRing)
  exact h5.rngCount.put.put

theorem Keeps.dbProd {s0 s a2 a3 a4} (h : Keeps ⟨km, kn, kp, kt, kj, ko, kf, kd, kc, kl, ki, kz, kg, kx, ke⟩ s0 s) : Keeps ⟨km, kn, kp, kt, kj, ko, kf, kd, kc, kl, ki, kz, kg, kx, ke⟩ s0 (State.dbProd s a2 a3 a4) := by
  unfold State.dbProd
  extract_lets -underBinder x1
  exact Keeps.ite h.doorbellBad h.posted_

theorem Keeps.dbHcons {s0 s a2 a3 a4} (h : Keeps ⟨km, kn, kp, kt, kj, ko, kf, kd, kc, kl, ki, kz, kg, kx, ke⟩ s0 s) : Keeps ⟨km, kn, kp, kt, kj, ko, kf, kd, kc, kl, ki, kz, kg, kx, ke⟩ s0 (State.dbHcons s a2 a3 a4) := by
  unfold State.dbHcons
  exact Keeps.ite h.doorbellBad h.rngCount.put

theorem Keeps.dbAbort {s0 s a2 a3 a4} (h : Keeps ⟨false, kn, false, kt, false, false, kf, false, false, false, false, false, false, kx, ke⟩ s0 s) : Keeps ⟨false, kn, false, kt, false, false, kf, false, false, false, false, false, false, kx, ke⟩ s0 (State.dbAbort s a2 a3 a4) := by
  unfold State.dbAbort
  extract_lets -underBinder x1
  exact Keeps.ite h.doorbellBad (Keeps.ite h.rngCount.deviceAbort (Keeps.ite h.rngCount h.rngCount.rngCount.ringAbort))

theorem Keeps.doorbell {s0 s a2 a3 a4 f5} (h : Keeps ⟨km, kn, kp, kt, kj, ko, kf, kd, kc, kl, ki, kz, kg, kx, ke⟩ s0 s) (kf5 : ∀ t0, Keeps ⟨km, kn, kp, kt, kj, ko, kf, kd, kc, kl, ki, kz, kg, kx, ke⟩ s0 t0 → Keeps ⟨km, kn, kp, kt, kj, ko, kf, kd, kc, kl, ki, kz, kg, kx, ke⟩ s0 (f5 t0)) : Keeps ⟨km, kn, kp, kt, kj, ko, kf, kd, kc, kl, ki, kz, kg, kx, ke⟩ s0 (State.doorbell s a2 a3 a4 f5) := by
  unfold State.doorbell
  exact Keeps.ite h (kf5 _ h.inbound)

theorem Keeps.execDbProd {s0 a1 a2 a3 s} (h : Keeps ⟨km, kn, kp, kt, kj, ko, kf, kd, kc, kl, ki, kz, kg, kx, ke⟩ s0 s) : OutKeeps ⟨km, kn, kp, kt, kj, ko, kf, kd, kc, kl, ki, kz, kg, kx, ke⟩ s0 (Machine.execDbProd a1 a2 a3 s) := by
  unfold Machine.execDbProd
  exact .next (h.doorbell (fun _ h2 => h2.dbProd))

theorem Keeps.execDbHcons {s0 a1 a2 a3 s} (h : Keeps ⟨km, kn, kp, kt, kj, ko, kf, kd, kc, kl, ki, kz, kg, kx, ke⟩ s0 s) : OutKeeps ⟨km, kn, kp, kt, kj, ko, kf, kd, kc, kl, ki, kz, kg, kx, ke⟩ s0 (Machine.execDbHcons a1 a2 a3 s) := by
  unfold Machine.execDbHcons
  exact .next (h.doorbell (fun _ h2 => h2.dbHcons))

theorem Keeps.execDbAbortRing {s0 a1 a2 a3 s} (h : Keeps ⟨false, kn, false, kt, false, false, kf, false, false, false, false, false, false, kx, ke⟩ s0 s) : OutKeeps ⟨false, kn, false, kt, false, false, kf, false, false, false, false, false, false, kx, ke⟩ s0 (Machine.execDbAbortRing a1 a2 a3 s) := by
  unfold Machine.execDbAbortRing
  exact .next (h.doorbell (fun _ h2 => h2.dbAbort))

theorem Keeps.execDbAbortDevice {s0 a1 a2 a3 s} (h : Keeps ⟨false, kn, false, kt, false, false, kf, false, false, false, false, false, false, kx, ke⟩ s0 s) : OutKeeps ⟨false, kn, false, kt, false, false, kf, false, false, false, false, false, false, kx, ke⟩ s0 (Machine.execDbAbortDevice a1 a2 a3 s) := by
  unfold Machine.execDbAbortDevice
  exact .next (h.doorbell (fun _ h2 => h2.dbAbort))

theorem Keeps.execDevAbort {s0 a1 a2 s} (h : Keeps ⟨false, kn, false, kt, false, false, kf, false, false, false, false, false, false, kx, false⟩ s0 s) : OutKeeps ⟨false, kn, false, kt, false, false, kf, false, false, false, false, false, false, kx, false⟩ s0 (Machine.execDevAbort a1 a2 s) := by
  unfold Machine.execDevAbort
  exact .next (h.ownerWrite (fun _ h3 => (h3.when (fun _ h4 => h4.deviceAbort))))

theorem Keeps.fetched {s0 s a2 a3} (h : Keeps ⟨km, kn, kp, kt, kj, ko, kf, kd, kc, kl, ki, kz, kg, kx, ke⟩ s0 s) : Keeps ⟨km, kn, kp, kt, kj, ko, kf, kd, kc, kl, ki, kz, kg, kx, ke⟩ s0 (State.fetched s a2 a3) := by
  unfold State.fetched
  extract_lets -underBinder x1 x2 x3 x4 x5 x6
  have h8 : Keeps h.kept s0 x3 := h.send
  have h9 : Keeps h.kept s0 x4 := h8.rngCount.put
  have h10 : Keeps h.kept s0 x6 := h9.setRing
  exact h10.each (fun _ _ h12 => h12.markStarted.complete)

theorem Keeps.execDescriptorFetch {s0 a1 a2 s} (h : Keeps ⟨km, kn, kp, kt, kj, ko, kf, kd, kc, kl, ki, kz, kg, kx, ke⟩ s0 s) : OutKeeps ⟨km, kn, kp, kt, kj, ko, kf, kd, kc, kl, ki, kz, kg, kx, ke⟩ s0 (Machine.execDescriptorFetch a1 a2 s) := by
  unfold Machine.execDescriptorFetch
  exact .next (h.when (fun _ h2 => h2.fetched))

theorem Keeps.execStRingFetchErr {s0 a1 s} (h : Keeps ⟨km, kn, kp, kt, kj, ko, kf, kd, kc, kl, ki, kz, kg, kx, ke⟩ s0 s) : OutKeeps ⟨km, kn, kp, kt, kj, ko, kf, kd, kc, kl, ki, kz, kg, kx, ke⟩ s0 (Machine.execStRingFetchErr a1 s) := by
  unfold Machine.execStRingFetchErr
  exact .next (h.when (fun _ h2 => h2.ringError))

theorem Keeps.execCqResume {s0 a1 s} (h : Keeps ⟨km, kn, kp, kt, kj, ko, kf, kd, kc, kl, ki, kz, kg, kx, ke⟩ s0 s) : OutKeeps ⟨km, kn, kp, kt, kj, ko, kf, kd, kc, kl, ki, kz, kg, kx, ke⟩ s0 (Machine.execCqResume a1 s) := by
  unfold Machine.execCqResume
  exact .next (h.when (fun _ h2 => h2.drainHeld))

theorem Keeps.execMsixModerationTimer {s0 a1 s} (h : Keeps ⟨km, kn, kp, kt, kj, ko, kf, kd, kc, kl, ki, kz, kg, kx, ke⟩ s0 s) : OutKeeps ⟨km, kn, kp, kt, kj, ko, kf, kd, kc, kl, ki, kz, kg, kx, ke⟩ s0 (Machine.execMsixModerationTimer a1 s) := by
  unfold Machine.execMsixModerationTimer
  refine .next ?_
  split
  · exact h
  · extract_lets -underBinder x6
    exact Keeps.ite h h.setRing.msixSend

theorem Keeps.setHost {s0 s a2} (h : Keeps ⟨km, kn, kp, kt, kj, ko, kf, kd, kc, kl, ki, kz, kg, kx, ke⟩ s0 s) : Keeps ⟨km, kn, kp, kt, kj, ko, kf, kd, kc, kl, ki, kz, kg, kx, ke⟩ s0 (State.setHost s a2) := by
  unfold State.setHost
  exact h.chHost

theorem Keeps.setClaimant {s0 s a2 a3} (h : Keeps ⟨km, kn, kp, kt, kj, ko, kf, kd, kc, kl, ki, kz, kg, kx, ke⟩ s0 s) : Keeps ⟨km, kn, kp, kt, kj, ko, kf, kd, kc, kl, ki, kz, kg, kx, ke⟩ s0 (State.setClaimant s a2 a3) := by
  unfold State.setClaimant
  exact h.put

theorem Keeps.renew {s0 s a2} (h : Keeps ⟨km, kn, kp, kt, kj, ko, kf, kd, kc, kl, ki, kz, kg, kx, ke⟩ s0 s) : Keeps ⟨km, kn, kp, kt, kj, ko, kf, kd, kc, kl, ki, kz, kg, kx, ke⟩ s0 (State.renew s a2) := by
  unfold State.renew
  exact h.setHost

theorem Keeps.makeOwner {s0 s a2} (h : Keeps ⟨km, kn, kp, kt, kj, ko, kf, kd, kc, kl, ki, kz, kg, kx, ke⟩ s0 s) : Keeps ⟨km, kn, kp, kt, kj, ko, kf, kd, kc, kl, ki, kz, kg, kx, ke⟩ s0 (State.makeOwner s a2) := by
  unfold State.makeOwner
  exact h.setClaimant.put.put

theorem Keeps.noOwner {s0 s} (h : Keeps ⟨km, kn, kp, kt, kj, ko, kf, kd, kc, kl, ki, kz, kg, kx, ke⟩ s0 s) : Keeps ⟨km, kn, kp, kt, kj, ko, kf, kd, kc, kl, ki, kz, kg, kx, ke⟩ s0 (State.noOwner s) := by
  unfold State.noOwner
  exact h.put.put

theorem Keeps.claimDevice {s0 s a2} (h : Keeps ⟨km, kn, kp, kt, kj, ko, kf, kd, kc, kl, ki, kz, kg, kx, ke⟩ s0 s) : Keeps ⟨km, kn, kp, kt, kj, ko, kf, kd, kc, kl, ki, kz, kg, kx, ke⟩ s0 (State.claimDevice s a2) := by
  unfold State.claimDevice
  extract_lets -underBinder x1
  have h2 : Keeps h.kept s0 x1 := h.renew
  split
  · exact h2.makeOwner.setHost.post
  · exact Keeps.ite h2 (Keeps.ite h2.makeOwner.setClaimant h2.setClaimant)

theorem Keeps.releaseDevice {s0 s a2} (h : Keeps ⟨km, kn, kp, kt, kj, ko, kf, kd, kc, kl, ki, kz, kg, kx, ke⟩ s0 s) : Keeps ⟨km, kn, kp, kt, kj, ko, kf, kd, kc, kl, ki, kz, kg, kx, ke⟩ s0 (State.releaseDevice s a2) := by
  unfold State.releaseDevice
  exact h.noOwner.setHost

theorem Keeps.handover {s0 s a2 a3} (h : Keeps ⟨km, kn, kp, kt, kj, ko, kf, kd, kc, kl, ki, kz, kg, kx, ke⟩ s0 s) : Keeps ⟨km, kn, kp, kt, kj, ko, kf, kd, kc, kl, ki, kz, kg, kx, ke⟩ s0 (State.handover s a2 a3) := by
  unfold State.handover
  extract_lets -underBinder x1
  have h2 : Keeps h.kept s0 x1 := h.makeOwner.setHost
  exact Keeps.ite h2.setClaimant.put.post h.put

theorem Keeps.ownCtrl {s0 s a2 a3 a4} (h : Keeps ⟨km, kn, kp, kt, kj, ko, kf, kd, kc, kl, ki, kz, kg, kx, false⟩ s0 s) : Keeps ⟨km, kn, kp, kt, kj, ko, kf, kd, kc, kl, ki, kz, kg, kx, false⟩ s0 (State.ownCtrl s a2 a3 a4) := by
  unfold State.ownCtrl
  exact Keeps.ite (Keeps.ite h.inbound.claimDevice h) (h.ownerWrite (fun _ h2 => (Keeps.ite h2.releaseDevice (Keeps.ite h2.handover h2))))

theorem Keeps.execClaim {s0 a1 s} (h : Keeps ⟨km, kn, kp, kt, kj, ko, kf, kd, kc, kl, ki, kz, kg, kx, false⟩ s0 s) : OutKeeps ⟨km, kn, kp, kt, kj, ko, kf, kd, kc, kl, ki, kz, kg, kx, false⟩ s0 (Machine.execClaim a1 s) := by
  unfold Machine.execClaim
  exact .next (h.when (fun _ h2 => h2.ownCtrl))

theorem Keeps.execRelease {s0 a1 s} (h : Keeps ⟨km, kn, kp, kt, kj, ko, kf, kd, kc, kl, ki, kz, kg, kx, false⟩ s0 s) : OutKeeps ⟨km, kn, kp, kt, kj, ko, kf, kd, kc, kl, ki, kz, kg, kx, false⟩ s0 (Machine.execRelease a1 s) := by
  unfold Machine.execRelease
  exact .next h.ownCtrl

theorem Keeps.execOwnHandover {s0 a1 a2 s} (h : Keeps ⟨km, kn, kp, kt, kj, ko, kf, kd, kc, kl, ki, kz, kg, kx, false⟩ s0 s) : OutKeeps ⟨km, kn, kp, kt, kj, ko, kf, kd, kc, kl, ki, kz, kg, kx, false⟩ s0 (Machine.execOwnHandover a1 a2 s) := by
  unfold Machine.execOwnHandover
  exact .next h.ownCtrl

theorem Keeps.heartbeat {s0 s a2} (h : Keeps ⟨km, kn, kp, kt, kj, ko, kf, kd, kc, kl, ki, kz, kg, kx, ke⟩ s0 s) : Keeps ⟨km, kn, kp, kt, kj, ko, kf, kd, kc, kl, ki, kz, kg, kx, ke⟩ s0 (State.heartbeat s a2) := by
  unfold State.heartbeat
  exact Keeps.ite h (h.inbound.when (fun _ h2 => h2.renew))

theorem Keeps.execDevOwnHb {s0 a1 s} (h : Keeps ⟨km, kn, kp, kt, kj, ko, kf, kd, kc, kl, ki, kz, kg, kx, ke⟩ s0 s) : OutKeeps ⟨km, kn, kp, kt, kj, ko, kf, kd, kc, kl, ki, kz, kg, kx, ke⟩ s0 (Machine.execDevOwnHb a1 s) := by
  unfold Machine.execDevOwnHb
  exact .next (h.when (fun _ h2 => h2.heartbeat))

theorem Keeps.ownerLost {s0 s} (h : Keeps ⟨false, kn, false, kt, false, false, false, false, false, false, false, kz, false, kx, ke⟩ s0 s) : Keeps ⟨false, kn, false, kt, false, false, false, false, false, false, false, kz, false, kx, ke⟩ s0 (State.ownerLost s) := by
  unfold State.ownerLost
  extract_lets -underBinder x1
  have h2 : Keeps h.kept s0 x1 := h.put.post
  split
  · exact h2.makeOwner.put.post
  · extract_lets -underBinder x8
    have h10 : Keeps h.kept s0 x8 := h2.noOwner
    exact h10.when (fun _ h12 => h12.safeStop)

theorem Keeps.checkLeases {s0 s} (h : Keeps ⟨false, kn, false, kt, false, false, false, false, false, false, false, kz, false, kx, ke⟩ s0 s) : Keeps ⟨false, kn, false, kt, false, false, false, false, false, false, false, kz, false, kx, ke⟩ s0 (State.checkLeases s) := by
  unfold State.checkLeases
  extract_lets -underBinder x1 x2
  have h4 : Keeps h.kept s0 x2 := h.each (fun _ _ h5 => h5.setClaimant)
  split
  · exact h4.when (fun _ h10 => h10.ownerLost)
  · exact h4

theorem Keeps.execLeaseCheck {s0 s} (h : Keeps ⟨false, kn, false, kt, false, false, false, false, false, false, false, kz, false, kx, ke⟩ s0 s) : OutKeeps ⟨false, kn, false, kt, false, false, false, false, false, false, false, kz, false, kx, ke⟩ s0 (Machine.execLeaseCheck s) := by
  unfold Machine.execLeaseCheck
  exact .next (h.when (fun _ h2 => h2.checkLeases))

theorem Keeps.portReset {s0 s a2} (h : Keeps ⟨false, kn, false, kt, false, false, false, false, false, false, false, false, false, kx, ke⟩ s0 s) : Keeps ⟨false, kn, false, kt, false, false, false, false, false, false, false, false, false, kx, ke⟩ s0 (State.portReset s a2) := by
  unfold State.portReset
  extract_lets -underBinder x1 x2 x3 x4 x5
  have h9 : Keeps h.kept s0 x3 := h.each (fun _ _ h10 => h10.ringOff)
  have h12 : Keeps h.kept s0 x4 := h9.each (fun _ _ h13 => h13.stopFunction)
  have h14 : Keeps h.kept s0 x5 := h12.setClaimant.post.devAbortDone
  exact h14.when (fun _ h16 => h16.ownerLost)

theorem Keeps.execStPortReset {s0 a1 s} (h : Keeps ⟨false, kn, false, kt, false, false, false, false, false, false, false, false, false, kx, ke⟩ s0 s) : OutKeeps ⟨false, kn, false, kt, false, false, false, false, false, false, false, false, false, kx, ke⟩ s0 (Machine.execStPortReset a1 s) := by
  unfold Machine.execStPortReset
  exact .next (h.when (fun _ h2 => h2.portReset))

theorem Keeps.execPerstAssert {s0 a1 s} (h : Keeps ⟨false, kn, false, kt, false, false, false, false, false, false, false, false, false, kx, ke⟩ s0 s) : OutKeeps ⟨false, kn, false, kt, false, false, false, false, false, false, false, false, false, kx, ke⟩ s0 (Machine.execPerstAssert a1 s) := by
  unfold Machine.execPerstAssert
  extract_lets -underBinder x1
  refine .next ?_
  have h3 : Keeps h.kept s0 x1 := h.setHost
  exact Keeps.ite h (h3.when (fun _ h5 => h5.portReset))

theorem Keeps.execPerstRelease {s0 a1 s} (h : Keeps ⟨km, kn, kp, kt, kj, ko, kf, kd, kc, kl, ki, kz, kg, kx, ke⟩ s0 s) : OutKeeps ⟨km, kn, kp, kt, kj, ko, kf, kd, kc, kl, ki, kz, kg, kx, ke⟩ s0 (Machine.execPerstRelease a1 s) := by
  unfold Machine.execPerstRelease
  exact .next (Keeps.ite h h.drawn.setHost)

theorem Keeps.mailboxGo {s0 s} (h : Keeps ⟨km, kn, kp, kt, kj, ko, kf, kd, kc, kl, ki, kz, kg, kx, ke⟩ s0 s) : Keeps ⟨km, kn, kp, kt, kj, ko, kf, kd, kc, kl, ki, kz, kg, kx, ke⟩ s0 (State.mailboxGo s) := by
  unfold State.mailboxGo
  exact Keeps.ite h.put h.put.pmcAdd.setHost

theorem Keeps.execMbxGo {s0 a1 s} (h : Keeps ⟨km, kn, kp, kt, kj, ko, kf, kd, kc, kl, ki, kz, kg, kx, false⟩ s0 s) : OutKeeps ⟨km, kn, kp, kt, kj, ko, kf, kd, kc, kl, ki, kz, kg, kx, false⟩ s0 (Machine.execMbxGo a1 s) := by
  unfold Machine.execMbxGo
  exact .next (h.ownerWrite (fun _ h2 => h2.mailboxGo))

theorem Keeps.mailboxReply {s0 s a2 a3 a4} (h : Keeps ⟨km, kn, kp, kt, kj, ko, kf, kd, kc, kl, ki, kz, kg, kx, ke⟩ s0 s) : Keeps ⟨km, kn, kp, kt, kj, ko, kf, kd, kc, kl, ki, kz, kg, kx, ke⟩ s0 (State.mailboxReply s a2 a3 a4) := by
  unfold State.mailboxReply
  extract_lets -underBinder x1 x2 x3 x4
  have h5 : Keeps h.kept s0 x3 := h.setWords
  have h6 : Keeps h.kept s0 x4 := h5.put.put.setHost
  exact h6.post

theorem Keeps.execStMbxReply {s0 a1 a2 a3 s} (h : Keeps ⟨km, kn, kp, kt, kj, ko, kf, kd, kc, kl, ki, kz, kg, kx, ke⟩ s0 s) : OutKeeps ⟨km, kn, kp, kt, kj, ko, kf, kd, kc, kl, ki, kz, kg, kx, ke⟩ s0 (Machine.execStMbxReply a1 a2 a3 s) := by
  unfold Machine.execStMbxReply
  extract_lets -underBinder x1
  refine .next ?_
  refine (Keeps.ite h ?_)
  split
  · exact h.mailboxReply.when (fun _ h6 => h6.pmcAdd)
  · exact h.mailboxReply

theorem Keeps.execStMbxTimeout {s0 s} (h : Keeps ⟨km, kn, kp, kt, kj, ko, kf, kd, kc, kl, ki, kz, kg, kx, ke⟩ s0 s) : OutKeeps ⟨km, kn, kp, kt, kj, ko, kf, kd, kc, kl, ki, kz, kg, kx, ke⟩ s0 (Machine.execStMbxTimeout s) := by
  unfold Machine.execStMbxTimeout
  refine .next ?_
  split
  · exact h
  · exact Keeps.ite h h.pmcAdd.mailboxReply

theorem Keeps.peerCtrlWrite {s0 s a2 a3} (h : Keeps ⟨km, kn, kp, kt, kj, ko, kf, false, kc, false, ki, kz, kg, kx, ke⟩ s0 s) : Keeps ⟨km, kn, kp, kt, kj, ko, kf, false, kc, false, ki, kz, kg, kx, ke⟩ s0 (State.peerCtrlWrite s a2 a3) := by
  unfold State.peerCtrlWrite
  extract_lets -underBinder x1 x2 x3 x4
  have h5 : Keeps h.kept s0 x2 := h.writeFields
  have h6 : Keeps h.kept s0 x4 := h5.setHost.put
  exact Keeps.ite h5 h6.duetSend

theorem Keeps.execDevPeerGo {s0 a1 a2 s} (h : Keeps ⟨km, kn, kp, kt, kj, ko, kf, false, kc, false, ki, kz, kg, kx, false⟩ s0 s) : OutKeeps ⟨km, kn, kp, kt, kj, ko, kf, false, kc, false, ki, kz, kg, kx, false⟩ s0 (Machine.execDevPeerGo a1 a2 s) := by
  unfold Machine.execDevPeerGo
  exact .next (h.ownerWrite (fun _ h2 => h2.peerCtrlWrite))

theorem Keeps.execPeerRegAnswer {s0 a1 a2 a3 s} (h : Keeps ⟨km, kn, kp, kt, kj, ko, kf, kd, kc, kl, ki, kz, kg, kx, ke⟩ s0 s) : OutKeeps ⟨km, kn, kp, kt, kj, ko, kf, kd, kc, kl, ki, kz, kg, kx, ke⟩ s0 (Machine.execPeerRegAnswer a1 a2 a3 s) := by
  unfold Machine.execPeerRegAnswer
  extract_lets -underBinder x1
  refine .next ?_
  have h3 : Keeps h.kept s0 x1 := h.when (fun _ h4 => h4.put)
  exact Keeps.ite h h3.peerAccessEnds

theorem Keeps.execStPeerRegFail {s0 a1 s} (h : Keeps ⟨km, kn, kp, kt, kj, ko, kf, kd, kc, kl, ki, kz, kg, kx, ke⟩ s0 s) : OutKeeps ⟨km, kn, kp, kt, kj, ko, kf, kd, kc, kl, ki, kz, kg, kx, ke⟩ s0 (Machine.execStPeerRegFail a1 s) := by
  unfold Machine.execStPeerRegFail
  refine .next ?_
  split
  · exact h
  · exact Keeps.ite h h.peerAccessFails

theorem Keeps.counterRead {s0 s a2 a3} (h : Keeps ⟨km, kn, kp, kt, kj, ko, kf, kd, kc, kl, ki, kz, kg, kx, ke⟩ s0 s) : Keeps ⟨km, kn, kp, kt, kj, ko, kf, kd, kc, kl, ki, kz, kg, kx, ke⟩ s0 (State.counterRead s a2 a3) := by
  unfold State.counterRead
  extract_lets -underBinder x1 x2
  have h4 : Keeps h.kept s0 x2 := h.when (fun _ h5 => h5.setHost)
  exact Keeps.ite h.send h4.send

theorem Keeps.execBar4Read {s0 a1 a2 a3 s} (h : Keeps ⟨km, kn, kp, kt, kj, ko, kf, kd, kc, kl, ki, kz, kg, kx, ke⟩ s0 s) : OutKeeps ⟨km, kn, kp, kt, kj, ko, kf, kd, kc, kl, ki, kz, kg, kx, ke⟩ s0 (Machine.execBar4Read a1 a2 a3 s) := by
  unfold Machine.execBar4Read
  extract_lets -underBinder x1
  refine .next ?_
  have h2 : Keeps h.kept s0 x1 := h.inbound
  exact Keeps.ite h (Keeps.ite h2.badSize.send h2.counterRead)

theorem Keeps.testAgain {s0 a1 s} (h : Keeps ⟨km, kn, kp, kt, kj, ko, kf, kd, kc, false, ki, kz, kg, kx, ke⟩ s0 s) : Keeps ⟨km, kn, kp, kt, kj, ko, kf, kd, kc, false, ki, kz, kg, kx, ke⟩ s0 (State.testAgain a1 s) := by
  unfold State.testAgain
  exact Keeps.ite h (h.each (fun _ _ h2 => h2.put.put.put.setLane))

theorem Keeps.cameraDrops {s0 a1 s} (h : Keeps ⟨km, kn, kp, kt, kj, ko, kf, kd, kc, kl, ki, kz, kg, kx, ke⟩ s0 s) : Keeps ⟨km, kn, kp, kt, kj, ko, kf, kd, kc, kl, ki, kz, kg, kx, ke⟩ s0 (State.cameraDrops a1 s) := by
  unfold State.cameraDrops
  exact Keeps.ite h h.post.discover

theorem Keeps.refLinksDown {s0 s a2} (h : Keeps ⟨false, kn, false, kt, false, false, false, false, false, false, false, false, false, kx, ke⟩ s0 s) : Keeps ⟨false, kn, false, kt, false, false, false, false, false, false, false, false, false, kx, ke⟩ s0 (State.refLinksDown s a2) := by
  unfold State.refLinksDown
  extract_lets -underBinder x1 x2 x3
  have h9 : Keeps h.kept s0 x1 := h.each (fun _ _ h10 => h10.testAgain.hpRestart)
  have h12 : Keeps h.kept s0 x2 := h9.each (fun _ _ h13 => h13.testAgain.peerRestart)
  have h16 : Keeps h.kept s0 x3 := h12.when (fun _ h17 => (h17.lanesStop.each (fun _ _ h18 => h18.cameraDrops)))
  exact h16.when (fun _ h20 => h20.portReset.portReset)

theorem Keeps.execRefClockLoss {s0 a1 s} (h : Keeps ⟨false, kn, false, kt, false, false, false, false, false, false, false, false, false, kx, false⟩ s0 s) : OutKeeps ⟨false, kn, false, kt, false, false, false, false, false, false, false, false, false, kx, false⟩ s0 (Machine.execRefClockLoss a1 s) := by
  unfold Machine.execRefClockLoss
  extract_lets -underBinder x1 x2 x3 x4 x5
  refine .next ?_
  have h6 : Keeps h.kept s0 x1 := h.setPwr
  have h8 : Keeps h.kept s0 x3 := h6.each (fun _ _ h9 => h9.put.put)
  have h10 : Keeps h.kept s0 x5 := h8.errRecord.post
  exact Keeps.ite h (Keeps.ite h6 h10.refLinksDown)

theorem Keeps.execRefClockRestore {s0 a1 s} (h : Keeps ⟨false, kn, false, kt, false, false, false, false, false, false, false, kz, false, kx, ke⟩ s0 s) : OutKeeps ⟨false, kn, false, kt, false, false, false, false, false, false, false, kz, false, kx, ke⟩ s0 (Machine.execRefClockRestore a1 s) := by
  unfold Machine.execRefClockRestore
  extract_lets -underBinder x1 x2 x3
  refine .next ?_
  have h8 : Keeps h.kept s0 x1 := h.setPwr
  have h10 : Keeps h.kept s0 x2 := h8.each (fun _ _ h11 => h11.hpRestart)
  have h13 : Keeps h.kept s0 x3 := h10.each (fun _ _ h14 => h14.peerRestart)
  exact Keeps.ite h (h13.when (fun _ h17 => (h17.each (fun _ _ h18 => h18.discover))))

theorem Keeps.memPop {s0 s a2} (h : Keeps ⟨km, kn, kp, kt, kj, ko, kf, kd, kc, kl, ki, kz, kg, kx, ke⟩ s0 s) : Keeps ⟨km, kn, kp, kt, kj, ko, kf, kd, kc, kl, ki, kz, kg, kx, ke⟩ s0 (State.memPop s a2) := by
  unfold State.memPop
  exact Keeps.ite h.hostSet h.put

theorem Keeps.execMemPopWrite {s0 a1 s} (h : Keeps ⟨km, kn, kp, kt, kj, ko, kf, kd, kc, kl, ki, kz, kg, kx, ke⟩ s0 s) : OutKeeps ⟨km, kn, kp, kt, kj, ko, kf, kd, kc, kl, ki, kz, kg, kx, ke⟩ s0 (Machine.execMemPopWrite a1 s) := by
  unfold Machine.execMemPopWrite
  exact .next (Keeps.ite h (Keeps.ite h.memPop h.memPop.put))

theorem Keeps.execDramTraining {s0 a1 s} (h : Keeps ⟨km, kn, kp, kt, kj, ko, kf, kd, kc, kl, ki, kz, false, kx, ke⟩ s0 s) : OutKeeps ⟨km, kn, kp, kt, kj, ko, kf, kd, kc, kl, ki, kz, false, kx, ke⟩ s0 (Machine.execDramTraining a1 s) := by
  unfold Machine.execDramTraining
  refine .next ?_
  split
  · exact Keeps.ite h (h.each (fun _ _ h3 => h3.put.put))
  · extract_lets -underBinder x6 x7 x8 x9
    have h12 : Keeps h.kept s0 x7 := h.each (fun _ _ h13 => h13.trainEnds)
    have h14 : Keeps h.kept s0 x9 := h12.showMemory
    exact Keeps.ite h (Keeps.ite h12 (Keeps.ite h14.post.put (h14.when (fun _ h16 => h16.post))))

theorem Keeps.execRefresh {s0 s} (h : Keeps ⟨km, kn, kp, kt, kj, ko, kf, kd, kc, kl, ki, kz, false, kx, ke⟩ s0 s) : OutKeeps ⟨km, kn, kp, kt, kj, ko, kf, kd, kc, kl, ki, kz, false, kx, ke⟩ s0 (Machine.execRefresh s) := by
  unfold Machine.execRefresh
  extract_lets -underBinder x1 x2 x3
  refine .next ?_
  refine (Keeps.ite h ?_)
  have h4 : Keeps h.kept s0 x3 := h.setDram
  split
  · exact h4
  · exact Keeps.ite h4 h4.setDram.put.post

theorem Keeps.execRefreshRatePoll {s0 a1 s} (h : Keeps ⟨false, kn, false, kt, false, false, false, false, false, false, false, kz, false, kx, ke⟩ s0 s) : OutKeeps ⟨false, kn, false, kt, false, false, false, false, false, false, false, kz, false, kx, ke⟩ s0 (Machine.execRefreshRatePoll a1 s) := by
  unfold Machine.execRefreshRatePoll
  extract_lets -underBinder x1 x2 x3 x4 x5 x6 x7
  refine .next ?_
  refine (Keeps.ite h ?_)
  have h10 : Keeps h.kept s0 x2 := h.each (fun _ _ h11 => h11.putB)
  have h12 : Keeps h.kept s0 x6 := h10.setDram
  have h14 : Keeps h.kept s0 x7 := Keeps.ite h10.setDram (h12.when (fun _ h15 => h15.put))
  clear_value x4
  split
  · exact h14
  · extract_lets -underBinder x20 x21
    have h23 : Keeps h.kept s0 x21 := h14.put.postLimited
    exact h23.when (fun _ h25 => h25.safeStop)

theorem Keeps.execPowerDownTimer {s0 a1 a2 s} (h : Keeps ⟨km, kn, kp, kt, kj, ko, kf, kd, kc, kl, ki, kz, false, kx, ke⟩ s0 s) : OutKeeps ⟨km, kn, kp, kt, kj, ko, kf, kd, kc, kl, ki, kz, false, kx, ke⟩ s0 (Machine.execPowerDownTimer a1 a2 s) := by
  unfold Machine.execPowerDownTimer
  exact .next (Keeps.ite h h.setDram)

theorem Keeps.trackWrites {s0 s a2 a3} (h : Keeps ⟨km, kn, kp, kt, kj, ko, kf, kd, kc, kl, ki, kz, false, kx, ke⟩ s0 s) : Keeps ⟨km, kn, kp, kt, kj, ko, kf, kd, kc, kl, ki, kz, false, kx, ke⟩ s0 (State.trackWrites s a2 a3) := by
  unfold State.trackWrites
  extract_lets -underBinder x1 x2 x3 x4
  have h7 : Keeps h.kept s0 x3 := h.each (fun _ _ h8 => h8.putI)
  have h9 : Keeps h.kept s0 x4 := h7.setDram
  exact h9.when (fun _ h11 => h11.put.post)

theorem Keeps.execWriteTracking {s0 a1 s} (h : Keeps ⟨km, kn, kp, kt, kj, ko, kf, kd, kc, kl, ki, kz, false, kx, ke⟩ s0 s) : OutKeeps ⟨km, kn, kp, kt, kj, ko, kf, kd, kc, kl, ki, kz, false, kx, ke⟩ s0 (Machine.execWriteTracking a1 s) := by
  unfold Machine.execWriteTracking
  extract_lets -underBinder x1
  refine .next ?_
  have h3 : Keeps h.kept s0 x1 := h.setDram
  exact Keeps.ite h (h3.each (fun _ _ h5 => h5.trackWrites))

theorem Keeps.retrain {s0 s a2} (h : Keeps ⟨km, kn, kp, kt, kj, ko, kf, kd, kc, kl, ki, kz, false, kx, ke⟩ s0 s) : Keeps ⟨km, kn, kp, kt, kj, ko, kf, kd, kc, kl, ki, kz, false, kx, ke⟩ s0 (State.retrain s a2) := by
  unfold State.retrain
  exact Keeps.ite h.retrainStarts h.put

theorem Keeps.execMcRetrain {s0 a1 a2 s} (h : Keeps ⟨km, kn, kp, kt, kj, ko, kf, kd, kc, kl, ki, kz, false, kx, false⟩ s0 s) : OutKeeps ⟨km, kn, kp, kt, kj, ko, kf, kd, kc, kl, ki, kz, false, kx, false⟩ s0 (Machine.execMcRetrain a1 a2 s) := by
  unfold Machine.execMcRetrain
  refine .next ?_
  refine (Keeps.ite h ?_)
  split
  · exact h.ownerWrite (fun _ h6 => (h6.when (fun _ h7 => h7.retrain)))
  · exact h.retrain
  · exact Keeps.ite h.retrainEnds h

theorem Keeps.execStMemCe {s0 a1 s} (h : Keeps ⟨km, kn, kp, kt, kj, ko, kf, kd, kc, kl, ki, kz, false, kx, false⟩ s0 s) : OutKeeps ⟨km, kn, kp, kt, kj, ko, kf, kd, kc, kl, ki, kz, false, kx, false⟩ s0 (Machine.execStMemCe a1 s) := by
  unfold Machine.execStMemCe
  exact .next h.dramCe

theorem Keeps.freezeLog {s0 s a2 a3} (h : Keeps ⟨km, kn, kp, kt, kj, ko, kf, kd, kc, kl, ki, kz, kg, kx, false⟩ s0 s) : Keeps ⟨km, kn, kp, kt, kj, ko, kf, kd, kc, kl, ki, kz, kg, kx, false⟩ s0 (State.freezeLog s a2 a3) := by
  unfold State.freezeLog
  extract_lets -underBinder x1 x2 x3 x4 x5 x6 x7 x8
  have h9 : Keeps h.kept s0 x2 := h.put.put
  have h10 : Keeps h.kept s0 x3 := h9.put.put.put
  have h11 : Keeps h.kept s0 x4 := h10.put64.put64
  have h12 : Keeps h.kept s0 x5 := h11.put.put
  have h13 : Keeps h.kept s0 x6 := Keeps.ite h h12.put.put.put
  have h14 : Keeps h.kept s0 x7 := h13.setWords
  exact Keeps.ite h13 h14.chErr

theorem Keeps.freezeRequests {s0 s} (h : Keeps ⟨km, kn, kp, kt, kj, ko, kf, kd, kc, kl, false, kz, false, kx, ke⟩ s0 s) : Keeps ⟨km, kn, kp, kt, kj, ko, kf, kd, kc, kl, false, kz, false, kx, ke⟩ s0 (State.freezeRequests s) := by
  unfold State.freezeRequests
  extract_lets -underBinder x1 x2 x3 x4 x5 x6
  have h9 : Keeps h.kept s0 x3 := h.setDram
  have h10 : Keeps h.kept s0 x5 := h9.chIns
  have h12 : Keeps h.kept s0 x6 := h10.each (fun _ _ h13 => h13.complete)
  exact h12.each (fun _ _ h15 => h15.complete)

theorem Keeps.execMemFreeze {s0 a1 s} (h : Keeps ⟨false, kn, false, kt, false, false, false, false, false, false, false, kz, false, kx, false⟩ s0 s) : OutKeeps ⟨false, kn, false, kt, false, false, false, false, false, false, false, kz, false, kx, false⟩ s0 (Machine.execMemFreeze a1 s) := by
  unfold Machine.execMemFreeze
  refine .next ?_
  refine (Keeps.ite h ?_)
  split
  · exact h
  · extract_lets -underBinder x7 x8 x9 x10
    have h12 : Keeps h.kept s0 x8 := h.put.freezeLog
    have h14 : Keeps h.kept s0 x9 := h12.each (fun _ _ h15 => h15.lineLate)
    have h16 : Keeps h.kept s0 x10 := h14.errRecord.post
    exact h16.freezeRequests.freeze

theorem Keeps.execPatrolScrub {s0 a1 s} (h : Keeps ⟨km, kn, kp, kt, kj, ko, kf, kd, kc, kl, ki, kz, false, kx, false⟩ s0 s) : OutKeeps ⟨km, kn, kp, kt, kj, ko, kf, kd, kc, kl, ki, kz, false, kx, false⟩ s0 (Machine.execPatrolScrub a1 s) := by
  unfold Machine.execPatrolScrub
  exact .next (Keeps.ite h (h.each (fun _ _ h2 => h2.dramCe)))

theorem Keeps.patternGo {s0 s a2 a3 a4} (h : Keeps ⟨km, kn, kp, kt, kj, ko, kf, kd, kc, kl, ki, kz, kg, kx, ke⟩ s0 s) : Keeps ⟨km, kn, kp, kt, kj, ko, kf, kd, kc, kl, ki, kz, kg, kx, ke⟩ s0 (State.patternGo s a2 a3 a4) := by
  unfold State.patternGo
  exact Keeps.ite h.put (Keeps.ite h h.put64.count)

theorem Keeps.execMcPgGo {s0 a1 a2 a3 a4 s} (h : Keeps ⟨km, kn, kp, kt, kj, ko, kf, kd, kc, kl, ki, kz, kg, kx, ke⟩ s0 s) : OutKeeps ⟨km, kn, kp, kt, kj, ko, kf, kd, kc, kl, ki, kz, kg, kx, ke⟩ s0 (Machine.execMcPgGo a1 a2 a3 a4 s) := by
  unfold Machine.execMcPgGo
  extract_lets -underBinder x1 x2
  refine .next ?_
  have h4 : Keeps h.kept s0 x2 := h.hostSet
  exact Keeps.ite h (h4.when (fun _ h6 => h6.patternGo))

theorem Keeps.mraGo {s0 s a2 a3} (h : Keeps ⟨km, kn, kp, kt, kj, ko, kf, kd, kc, kl, ki, kz, kg, kx, ke⟩ s0 s) : Keeps ⟨km, kn, kp, kt, kj, ko, kf, kd, kc, kl, ki, kz, kg, kx, ke⟩ s0 (State.mraGo s a2 a3) := by
  unfold State.mraGo
  exact Keeps.ite h.put (Keeps.ite h.put h)

theorem Keeps.execMcMraGo {s0 a1 a2 a3 s} (h : Keeps ⟨km, kn, kp, kt, kj, ko, kf, kd, kc, kl, ki, kz, kg, kx, ke⟩ s0 s) : OutKeeps ⟨km, kn, kp, kt, kj, ko, kf, kd, kc, kl, ki, kz, kg, kx, ke⟩ s0 (Machine.execMcMraGo a1 a2 a3 s) := by
  unfold Machine.execMcMraGo
  extract_lets -underBinder x1 x2
  refine .next ?_
  have h4 : Keeps h.kept s0 x2 := h.hostSet
  exact Keeps.ite h (h4.when (fun _ h6 => h6.mraGo))

theorem Keeps.writePlain {s0 s a2 a3 a4} (h : Keeps ⟨km, kn, kp, kt, kj, ko, kf, kd, kc, kl, ki, kz, kg, kx, ke⟩ s0 s) : Keeps ⟨km, kn, kp, kt, kj, ko, kf, kd, kc, kl, ki, kz, kg, kx, ke⟩ s0 (State.writePlain s a2 a3 a4) := by
  unfold State.writePlain
  extract_lets -underBinder x1
  clear_value x1
  split
  · exact h.writeFields
  · exact Keeps.ite h.writeFields h.put

theorem Keeps.writeDEV {s0 s a2 a3 a4} (h : Keeps ⟨false, false, false, false, false, false, false, false, false, false, false, false, false, false, false⟩ s0 s) : Keeps ⟨false, false, false, false, false, false, false, false, false, false, false, false, false, false, false⟩ s0 (State.writeDEV s a2 a3 a4) := by
  unfold State.writeDEV
  exact Keeps.ite (h.when (fun _ h3 => h3.modeRequest)) (Keeps.ite h.resetWrite (Keeps.ite (h.when (fun _ h4 => h4.deviceAbort)) (Keeps.ite h.peerCtrlWrite (Keeps.ite h h.writeFields))))

theorem Keeps.writePWR {s0 s a2 a3 a4} (h : Keeps ⟨km, kn, false, kt, kj, ko, kf, false, kc, false, ki, kz, kg, kx, ke⟩ s0 s) : Keeps ⟨km, kn, false, kt, kj, ko, kf, false, kc, false, ki, kz, kg, kx, ke⟩ s0 (State.writePWR s a2 a3 a4) := by
  unfold State.writePWR
  exact Keeps.ite h.domRequest (Keeps.ite h.levelWrite (Keeps.ite (h.when (fun _ h2 => h2.bootGo)) h.writeFields))

theorem Keeps.writeTime {s0 s a2 a3 a4} (h : Keeps ⟨km, kn, kp, false, false, ko, false, false, kc, false, false, kz, kg, kx, ke⟩ s0 s) : Keeps ⟨km, kn, kp, false, false, ko, false, false, kc, false, false, kz, kg, kx, ke⟩ s0 (State.writeTime s a2 a3 a4) := by
  unfold State.writeTime
  extract_lets -underBinder x1 x2 x3
  have h9 : Keeps h.kept s0 x2 := h.writeFields
  exact Keeps.ite (Keeps.ite h (h9.when (fun _ h15 => h15.restartFollow.setTb.announceAll))) (Keeps.ite (h9.when (fun _ h16 => h16.restartFollow)) (Keeps.ite (h.when (fun _ h17 => h17.writeFields)) (Keeps.ite (h.writeFields.each (fun _ _ h18 => h18.requestTest)) (Keeps.ite (h.commitWrite (fun _ h19 => h19.barCommit)) h.writePlain))))

theorem Keeps.writePrint {s0 s a2 a3 a4} (h : Keeps ⟨false, kn, kp, kt, false, false, kf, false, false, false, false, kz, false, kx, ke⟩ s0 s) : Keeps ⟨false, kn, kp, kt, false, false, kf, false, false, false, false, kz, false, kx, ke⟩ s0 (State.writePrint s a2 a3 a4) := by
  unfold State.writePrint
  extract_lets -underBinder x1
  exact Keeps.ite (h.trigger (fun _ h6 => h6.commitMap)) (Keeps.ite (h.trigger (fun _ h7 => h7.commitMove)) (Keeps.ite (h.commitWrite (fun _ h8 => h8.xwebCommit)) (Keeps.ite (h.commitWrite (fun _ h9 => h9.trimCommit)) (Keeps.ite h.xferWrite (Keeps.ite h.peek (Keeps.ite h.calCtrlWrite (Keeps.ite h.stitchWrite h.writePlain)))))))

theorem Keeps.fmtWrite {s0 s a2 a3 a4} (h : Keeps ⟨km, kn, kp, kt, kj, ko, kf, kd, kc, kl, ki, kz, kg, kx, ke⟩ s0 s) : Keeps ⟨km, kn, kp, kt, kj, ko, kf, kd, kc, kl, ki, kz, kg, kx, ke⟩ s0 (State.fmtWrite s a2 a3 a4) := by
  unfold State.fmtWrite
  extract_lets -underBinder x1 x2
  exact Keeps.ite h.writeFields (Keeps.ite h.put (Keeps.ite h.writeFields.showDemand (h.budgeted (fun _ h4 => h4.writeFields))))

theorem Keeps.camEvtWrite {s0 s a2 a3 a4} (h : Keeps ⟨km, kn, kp, kt, kj, ko, kf, kd, kc, kl, ki, kz, kg, kx, ke⟩ s0 s) : Keeps ⟨km, kn, kp, kt, kj, ko, kf, kd, kc, kl, ki, kz, kg, kx, ke⟩ s0 (State.camEvtWrite s a2 a3 a4) := by
  unfold State.camEvtWrite
  extract_lets -underBinder x1 x2
  have h3 : Keeps h.kept s0 x2 := h.writeFields
  exact h3.put

theorem Keeps.writeCAM {s0 s a2 a3 a4} (h : Keeps ⟨false, kn, kp, kt, false, false, kf, false, false, false, false, kz, false, kx, ke⟩ s0 s) : Keeps ⟨false, kn, kp, kt, false, false, kf, false, false, false, false, kz, false, kx, ke⟩ s0 (State.writeCAM s a2 a3 a4) := by
  unfold State.writeCAM
  extract_lets -underBinder x1
  exact Keeps.ite h.writePlain (Keeps.ite h.camCtrlWrite (Keeps.ite h.fmtWrite (Keeps.ite (Keeps.ite h.writeFields (h.budgeted (fun _ h3 => h3.writeFields))) (Keeps.ite h.ccWrite (Keeps.ite h.camEvtWrite h.writeFields)))))

theorem Keeps.msixWrite {s0 s a2 a3 a4} (h : Keeps ⟨km, kn, kp, kt, kj, ko, kf, kd, kc, kl, ki, kz, kg, kx, ke⟩ s0 s) : Keeps ⟨km, kn, kp, kt, kj, ko, kf, kd, kc, kl, ki, kz, kg, kx, ke⟩ s0 (State.msixWrite s a2 a3 a4) := by
  unfold State.msixWrite
  extract_lets -underBinder x1 x2 x3 x4 x5
  have h6 : Keeps h.kept s0 x1 := h.writeFields
  exact Keeps.ite h6 (Keeps.ite h6.put.msixSend h6)

theorem Keeps.writeHost {s0 s a2 a3 a4} (h : Keeps ⟨km, kn, kp, false, kj, ko, false, false, kc, false, ki, kz, kg, kx, ke⟩ s0 s) : Keeps ⟨km, kn, kp, false, kj, ko, false, false, kc, false, ki, kz, kg, kx, ke⟩ s0 (State.writeHost s a2 a3 a4) := by
  unfold State.writeHost
  exact Keeps.ite h.zipRing (Keeps.ite h.ringCfgWrite (Keeps.ite h.dueCtrlWrite (Keeps.ite (h.writePlain.when (fun _ h2 => h2.showAllem)) h.writePlain)))

theorem Keeps.writeFLD {s0 s a2 a3 a4} (h : Keeps ⟨km, kn, kp, kt, kj, ko, false, kd, kc, kl, ki, kz, kg, kx, ke⟩ s0 s) : Keeps ⟨km, kn, kp, kt, kj, ko, false, kd, kc, kl, ki, kz, kg, kx, ke⟩ s0 (State.writeFLD s a2 a3 a4) := by
  unfold State.writeFLD
  extract_lets -underBinder x1
  have h4 : Keeps h.kept s0 x1 := h.writeFields
  exact Keeps.ite ((h4.when (fun _ h7 => h7.armField)).when (fun _ h8 => h8.statusReq)) (Keeps.ite h.outSet (Keeps.ite h.latchClr (Keeps.ite h.motionCmd.outputs (Keeps.ite h.motionTarget h.writeFields))))

theorem Keeps.writeERR {s0 s a2 a3 a4} (h : Keeps ⟨km, kn, kp, kt, kj, ko, kf, kd, kc, kl, ki, kz, kg, kx, false⟩ s0 s) : Keeps ⟨km, kn, kp, kt, kj, ko, kf, kd, kc, kl, ki, kz, kg, kx, false⟩ s0 (State.writeERR s a2 a3 a4) := by
  unfold State.writeERR
  exact Keeps.ite h.errCtrlWrite (Keeps.ite h.pmcCtrlWrite (Keeps.ite h.pmcModeWrite (Keeps.ite (h.when (fun _ h2 => h2.mailboxGo)) h.writePlain)))

theorem Keeps.writeInst {s0 s a2 a3 a4} (h : Keeps ⟨false, kn, false, kt, false, false, false, false, false, false, false, kz, false, kx, ke⟩ s0 s) : Keeps ⟨false, kn, false, kt, false, false, false, false, false, false, false, kz, false, kx, ke⟩ s0 (State.writeInst s a2 a3 a4) := by
  unfold State.writeInst
  extract_lets -underBinder x1 x2 x3 x4
  exact Keeps.ite (Keeps.ite (h.when (fun _ h9 => h9.engineTest)) h.writeFields) (Keeps.ite (Keeps.ite h.hpCtrlWrite (Keeps.ite (Keeps.ite h.put h.writeFields.headMode) h.writePlain)) (Keeps.ite (Keeps.ite h.lCtrlWrite (Keeps.ite h.txeqWrite (Keeps.ite h.rxeqWrite (Keeps.ite h.lBsWrite (Keeps.ite h.lPrbsWrite h.writePlain))))) (Keeps.ite (h.when (fun _ h10 => h10.retrain)) (Keeps.ite (h.writeFields.when (fun _ h11 => h11.drawn.drawn.patternGo)) (Keeps.ite (h.writeFields.when (fun _ h12 => h12.drawn.mraGo)) (Keeps.ite (Keeps.ite h.writeFields h.memPop) h.writePlain))))))

theorem Keeps.writeHeld {s0 s a2 a3 a4} (h : Keeps ⟨km, kn, kp, false, kj, ko, false, kd, kc, kl, ki, kz, kg, kx, ke⟩ s0 s) : Keeps ⟨km, kn, kp, false, kj, ko, false, kd, kc, kl, ki, kz, kg, kx, ke⟩ s0 (State.writeHeld s a2 a3 a4) := by
  unfold State.writeHeld
  exact Keeps.ite h.encoutCommit (Keeps.ite (Keeps.ite h.writeFields h.setTb) h.writeFieldHeld)

theorem Keeps.writeReg {s0 s a2 a3 a4} (h : Keeps ⟨false, false, false, false, false, false, false, false, false, false, false, false, false, false, false⟩ s0 s) : Keeps ⟨false, false, false, false, false, false, false, false, false, false, false, false, false, false, false⟩ s0 (State.writeReg s a2 a3 a4) := by
  unfold State.writeReg
  exact Keeps.ite h.writeHeld (Keeps.ite h.writeDEV (Keeps.ite h.writePWR (Keeps.ite h.writeTime (Keeps.ite h.writePrint (Keeps.ite h.writeCAM (Keeps.ite h.msixWrite (Keeps.ite h.writeHost (Keeps.ite h.writeFLD (Keeps.ite h.writeERR (Keeps.ite h.writeInst h.msixWrite))))))))))

theorem Keeps.commitPair {s0 s a2 a3 a4} (h : Keeps ⟨km, false, kp, kt, kj, false, kf, kd, kc, false, ki, kz, kg, kx, ke⟩ s0 s) : Keeps ⟨km, false, kp, kt, kj, false, kf, kd, kc, false, ki, kz, kg, kx, ke⟩ s0 (State.commitPair s a2 a3 a4) := by
  unfold State.commitPair
  extract_lets -underBinder x1 x2
  refine (Keeps.ite h.merSet (Keeps.ite (h.when (fun _ h4 => h4.reportAccess)) (Keeps.ite h ?_)))
  split
  · exact h.put
  · exact h.hostSet.hostSet

theorem Keeps.bufferLo {s0 s a2 a3 a4} (h : Keeps ⟨km, kn, kp, kt, kj, ko, kf, kd, kc, kl, ki, kz, kg, kx, ke⟩ s0 s) : Keeps ⟨km, kn, kp, kt, kj, ko, kf, kd, kc, kl, ki, kz, kg, kx, ke⟩ s0 (State.bufferLo s a2 a3 a4) := by
  unfold State.bufferLo
  exact h.setHost

theorem Keeps.writeAt {s0 s a2 a3 a4} (h : Keeps ⟨false, false, false, false, false, false, false, false, false, false, false, false, false, false, false⟩ s0 s) : Keeps ⟨false, false, false, false, false, false, false, false, false, false, false, false, false, false, false⟩ s0 (State.writeAt s a2 a3 a4) := by
  unfold State.writeAt
  extract_lets -underBinder x1
  split
  · exact h
  · exact Keeps.ite h (Keeps.ite h.commitPair (Keeps.ite h.bufferLo h.writeReg))

theorem Keeps.showHostLane {s0 s a2} (h : Keeps ⟨km, kn, kp, kt, kj, ko, kf, kd, kc, kl, ki, kz, kg, kx, ke⟩ s0 s) : Keeps ⟨km, kn, kp, kt, kj, ko, kf, kd, kc, kl, ki, kz, kg, kx, ke⟩ s0 (State.showHostLane s a2) := by
  unfold State.showHostLane
  extract_lets -underBinder x1 x2 x3 x4 x5 x6 x7 x8
  have h9 : Keeps h.kept s0 x8 := h.put.put.put
  exact Keeps.ite h h9.put.put

theorem Keeps.clearRead {s0 s a2} (h : Keeps ⟨km, kn, kp, kt, kj, ko, kf, kd, kc, kl, ki, kz, kg, kx, ke⟩ s0 s) : Keeps ⟨km, kn, kp, kt, kj, ko, kf, kd, kc, kl, ki, kz, kg, kx, ke⟩ s0 (State.clearRead s a2) := by
  unfold State.clearRead
  extract_lets -underBinder x1 x2
  refine (Keeps.ite h ?_)
  split
  · extract_lets -underBinder x11 x12
    have h13 : Keeps h.kept s0 x12 := h.setWord
    exact h13.chFresh
  · exact h.setWord

theorem Keeps.readAt {s0 s a2 a3} (h : Keeps ⟨km, kn, kp, kt, kj, ko, kf, kd, kc, kl, ki, kz, kg, kx, ke⟩ s0 s) : Keeps ⟨km, kn, kp, kt, kj, ko, kf, kd, kc, kl, ki, kz, kg, kx, ke⟩ s0 (State.readAt s a2 a3).2 := by
  unfold State.readAt
  extract_lets -underBinder x1
  split
  · dsimp only
    exact h
  · split
    · dsimp only
      exact h
    · split
      · dsimp only
        exact h.setHost
      · split
        · dsimp only
          exact h.clearRead
        · dsimp only
          exact h

theorem Keeps.windowRefused {s0 s a2 a3 a4} (h : Keeps ⟨km, kn, kp, kt, kj, ko, kf, kd, kc, kl, ki, kz, kg, kx, ke⟩ s0 s) : Keeps ⟨km, kn, kp, kt, kj, ko, kf, kd, kc, kl, ki, kz, kg, kx, ke⟩ s0 (State.windowRefused s a2 a3 a4) := by
  unfold State.windowRefused
  extract_lets -underBinder x1
  have h2 : Keeps h.kept s0 x1 := h.put
  exact h2.put.pmcAdd.reportAccess

theorem Keeps.windowWrite {s0 s a2 a3 a4} (h : Keeps ⟨false, kn, kp, kt, kj, ko, kf, kd, kc, kl, ki, kz, false, kx, false⟩ s0 s) : Keeps ⟨false, kn, kp, kt, kj, ko, kf, kd, kc, kl, ki, kz, false, kx, false⟩ s0 (State.windowWrite s a2 a3 a4) := by
  unfold State.windowWrite
  extract_lets -underBinder x1 x2
  exact Keeps.ite h.windowRefused (Keeps.ite h.windowRefused (Keeps.ite h.dramStore h.chErr))

theorem Keeps.windowRead {s0 s a2 a3 a4} (h : Keeps ⟨false, kn, false, kt, false, false, false, false, false, false, false, false, false, kx, false⟩ s0 s) : Keeps ⟨false, kn, false, kt, false, false, false, false, false, false, false, false, false, kx, false⟩ s0 (State.windowRead s a2 a3 a4).2 := by
  unfold State.windowRead
  extract_lets -underBinder x1 x2 x3 x4
  have h5 : Keeps h.kept s0 x4 := by
    unfold x4
    clear_value x2
    split
    · exact h.sramHit
    · exact h
  split
  · dsimp only
    exact h.windowRefused
  · split
    · dsimp only
      exact h.dramLoad
    · split
      · clear_value x3
        split
        · dsimp only
          exact h5.put
        · dsimp only
          exact h5
      · clear_value x3
        split
        · dsimp only
          exact h5.put
        · dsimp only
          exact h5.drawn

theorem Keeps.wordWrite {s0 s a2 a3 a4} (h : Keeps ⟨false, false, false, false, false, false, false, false, false, false, false, false, false, false, false⟩ s0 s) : Keeps ⟨false, false, false, false, false, false, false, false, false, false, false, false, false, false, false⟩ s0 (State.wordWrite s a2 a3 a4) := by
  unfold State.wordWrite
  exact Keeps.ite h (Keeps.ite h.ownCtrl (Keeps.ite h.heartbeat (Keeps.ite (Keeps.ite h.inbound.windowWrite h) (h.ownerWrite (fun _ h2 => h2.writeAt)))))

theorem Keeps.wordRead {s0 s a2 a3 a4} (h : Keeps ⟨false, kn, false, kt, false, false, false, false, false, false, false, false, false, kx, false⟩ s0 s) : Keeps ⟨false, kn, false, kt, false, false, false, false, false, false, false, false, false, kx, false⟩ s0 (State.wordRead s a2 a3 a4).2 := by
  unfold State.wordRead
  split
  · exact h.windowRead
  · split
    · dsimp only
      exact h.offDomain
    · exact h.readAt

theorem Keeps.logAer {s0 s a2} (h : Keeps ⟨km, kn, kp, kt, kj, ko, kf, kd, kc, kl, ki, kz, kg, kx, ke⟩ s0 s) : Keeps ⟨km, kn, kp, kt, kj, ko, kf, kd, kc, kl, ki, kz, kg, kx, ke⟩ s0 (State.logAer s a2) := by
  unfold State.logAer
  exact Keeps.ite h h.setHost.send

theorem Keeps.busWrite {s0 s a2 a3 a4 a5 a6} (h : Keeps ⟨false, false, false, false, false, false, false, false, false, false, false, false, false, false, false⟩ s0 s) : Keeps ⟨false, false, false, false, false, false, false, false, false, false, false, false, false, false, false⟩ s0 (State.busWrite s a2 a3 a4 a5 a6) := by
  unfold State.busWrite
  extract_lets -underBinder x1 x2
  exact Keeps.ite h (Keeps.ite h.inbound.badSize.logAer (Keeps.ite h.wordWrite (Keeps.ite (Keeps.ite (h.doorbell (fun _ h6 => h6.dbProd)) (Keeps.ite (h.doorbell (fun _ h7 => h7.dbHcons)) (Keeps.ite (h.doorbell (fun _ h8 => h8.dbAbort)) h.inbound))) h.inbound)))

theorem Keeps.busRead {s0 s a2 a3 a4 a5 a6} (h : Keeps ⟨false, kn, false, kt, false, false, false, false, false, false, false, false, false, kx, false⟩ s0 s) : Keeps ⟨false, kn, false, kt, false, false, false, false, false, false, false, false, false, kx, false⟩ s0 (State.busRead s a2 a3 a4 a5 a6) := by
  unfold State.busRead
  extract_lets -underBinder x1
  have h2 : Keeps h.kept s0 x1 := h.inbound
  refine (Keeps.ite h (Keeps.ite h2.badSize.send (Keeps.ite ?_ (Keeps.ite h2.send h2.counterRead))))
  split
  · rename_i y6
    have h7 := Keeps.snd y6 h2.wordRead
    exact h7.send

theorem Keeps.execRegisterWrite {s0 a1 a2 a3 a4 a5 s} (h : Keeps ⟨false, false, false, false, false, false, false, false, false, false, false, false, false, false, false⟩ s0 s) : OutKeeps ⟨false, false, false, false, false, false, false, false, false, false, false, false, false, false, false⟩ s0 (Machine.execRegisterWrite a1 a2 a3 a4 a5 s) := by
  unfold Machine.execRegisterWrite
  exact .next h.busWrite

theorem Keeps.execLoReadSnapshot {s0 a1 a2 s} (h : Keeps ⟨false, kn, false, kt, false, false, false, false, false, false, false, false, false, kx, false⟩ s0 s) : OutKeeps ⟨false, kn, false, kt, false, false, false, false, false, false, false, false, false, kx, false⟩ s0 (Machine.execLoReadSnapshot a1 a2 s) := by
  unfold Machine.execLoReadSnapshot
  exact .next (h.when (fun _ h2 => h2.busRead))

theorem Keeps.execLoWriteBuffer {s0 a1 a2 a3 s} (h : Keeps ⟨false, false, false, false, false, false, false, false, false, false, false, false, false, false, false⟩ s0 s) : OutKeeps ⟨false, false, false, false, false, false, false, false, false, false, false, false, false, false, false⟩ s0 (Machine.execLoWriteBuffer a1 a2 a3 s) := by
  unfold Machine.execLoWriteBuffer
  exact .next (h.when (fun _ h2 => h2.busWrite))

theorem Keeps.execHiWriteCommit {s0 a1 a2 a3 s} (h : Keeps ⟨false, false, false, false, false, false, false, false, false, false, false, false, false, false, false⟩ s0 s) : OutKeeps ⟨false, false, false, false, false, false, false, false, false, false, false, false, false, false, false⟩ s0 (Machine.execHiWriteCommit a1 a2 a3 s) := by
  unfold Machine.execHiWriteCommit
  exact .next (h.when (fun _ h2 => h2.busWrite))

theorem Keeps.execRcReadClear {s0 a1 a2 a3 a4 s} (h : Keeps ⟨false, kn, false, kt, false, false, false, false, false, false, false, false, false, kx, false⟩ s0 s) : OutKeeps ⟨false, kn, false, kt, false, false, false, false, false, false, false, false, false, kx, false⟩ s0 (Machine.execRcReadClear a1 a2 a3 a4 s) := by
  unfold Machine.execRcReadClear
  exact .next h.busRead

theorem Keeps.execDebugWindowRead {s0 a1 a2 a3 a4 s} (h : Keeps ⟨false, kn, false, kt, false, false, false, false, false, false, false, false, false, kx, false⟩ s0 s) : OutKeeps ⟨false, kn, false, kt, false, false, false, false, false, false, false, false, false, kx, false⟩ s0 (Machine.execDebugWindowRead a1 a2 a3 a4 s) := by
  unfold Machine.execDebugWindowRead
  exact .next (h.when (fun _ h2 => h2.busRead))

theorem Keeps.execDebugWindowWrite {s0 a1 a2 a3 a4 s} (h : Keeps ⟨false, false, false, false, false, false, false, false, false, false, false, false, false, false, false⟩ s0 s) : OutKeeps ⟨false, false, false, false, false, false, false, false, false, false, false, false, false, false, false⟩ s0 (Machine.execDebugWindowWrite a1 a2 a3 a4 s) := by
  unfold Machine.execDebugWindowWrite
  exact .next (h.when (fun _ h2 => h2.busWrite))

theorem Keeps.execCfgCommit {s0 a1 a2 a3 s} (h : Keeps ⟨false, false, false, false, false, false, false, false, false, false, false, false, false, false, false⟩ s0 s) : OutKeeps ⟨false, false, false, false, false, false, false, false, false, false, false, false, false, false, false⟩ s0 (Machine.execCfgCommit a1 a2 a3 s) := by
  unfold Machine.execCfgCommit
  exact .next (h.when (fun _ h2 => h2.busWrite))

theorem Keeps.regAnswer {s0 s a2 a3 a4 a5} (h : Keeps ⟨km, kn, kp, kt, kj, ko, kf, false, kc, false, ki, kz, kg, kx, ke⟩ s0 s) : Keeps ⟨km, kn, kp, kt, kj, ko, kf, false, kc, false, ki, kz, kg, kx, ke⟩ s0 (State.regAnswer s a2 a3 a4 a5) := by
  unfold State.regAnswer
  exact h.drawn.duetSend

theorem Keeps.execReg {s0 a1 a2 a3 a4 s} (h : Keeps ⟨false, false, false, false, false, false, false, false, false, false, false, false, false, false, false⟩ s0 s) : OutKeeps ⟨false, false, false, false, false, false, false, false, false, false, false, false, false, false, false⟩ s0 (Machine.execReg a1 a2 a3 a4 s) := by
  unfold Machine.execReg
  extract_lets -underBinder x1
  refine .next ?_
  refine (Keeps.ite h (Keeps.ite h.badSize.regAnswer (Keeps.ite h.wordWrite.regAnswer ?_)))
  split
  · rename_i y5
    have h6 := Keeps.snd y5 h.wordRead
    exact h6.regAnswer

theorem Keeps.consoleReply {s0 s a2} (h : Keeps ⟨km, kn, kp, kt, kj, ko, kf, kd, kc, kl, ki, kz, kg, kx, ke⟩ s0 s) : Keeps ⟨km, kn, kp, kt, kj, ko, kf, kd, kc, kl, ki, kz, kg, kx, ke⟩ s0 (State.consoleReply s a2) := by
  unfold State.consoleReply
  exact h.uartFrames.send

theorem Keeps.consoleError {s0 s a2} (h : Keeps ⟨km, kn, kp, kt, kj, ko, kf, kd, kc, kl, ki, kz, kg, kx, ke⟩ s0 s) : Keeps ⟨km, kn, kp, kt, kj, ko, kf, kd, kc, kl, ki, kz, kg, kx, ke⟩ s0 (State.consoleError s a2) := by
  unfold State.consoleError
  exact h.consoleReply

theorem Keeps.consoleLine {s0 s a2} (h : Keeps ⟨false, false, false, false, false, false, false, false, false, false, false, false, false, false, false⟩ s0 s) : Keeps ⟨false, false, false, false, false, false, false, false, false, false, false, false, false, false, false⟩ s0 (State.consoleLine s a2) := by
  unfold State.consoleLine
  extract_lets -underBinder x1
  refine (Keeps.ite h.consoleError ?_)
  clear_value x1
  split
  · exact h.consoleError
  · refine (Keeps.ite (Keeps.ite h.badSize.consoleError ?_) ?_)
    · split
      · rename_i y8
        have h9 := Keeps.snd y8 (Keeps.ite2 h.wordRead h)
        exact h9.consoleReply
    · split
      · extract_lets -underBinder x15 x16
        have h17 : Keeps h.kept s0 x16 := h.wordWrite
        exact Keeps.ite h.badSize.consoleError (Keeps.ite h17.consoleReply h17.consoleError)
      · exact h.consoleError

theorem Keeps.consoleByte {s0 a1 s} (h : Keeps ⟨false, false, false, false, false, false, false, false, false, false, false, false, false, false, false⟩ s0 s) : Keeps ⟨false, false, false, false, false, false, false, false, false, false, false, false, false, false, false⟩ s0 (State.consoleByte a1 s) := by
  unfold State.consoleByte
  exact Keeps.ite h.setFld.consoleLine h.setFld

theorem Keeps.consoleBytes {s0 s a2} (h : Keeps ⟨false, false, false, false, false, false, false, false, false, false, false, false, false, false, false⟩ s0 s) : Keeps ⟨false, false, false, false, false, false, false, false, false, false, false, false, false, false, false⟩ s0 (State.consoleBytes s a2) := by
  unfold State.consoleBytes
  extract_lets -underBinder x1 x2 x3 x4
  have h7 : Keeps h.kept s0 x3 := h.uartFrames.count
  have h9 : Keeps h.kept s0 x4 := h7.each (fun _ _ h10 => h10.consoleByte)
  exact h9.when (fun _ h12 => h12.put.postLimited)

theorem Keeps.execUartRx {s0 a1 s} (h : Keeps ⟨false, false, false, false, false, false, false, false, false, false, false, false, false, false, false⟩ s0 s) : OutKeeps ⟨false, false, false, false, false, false, false, false, false, false, false, false, false, false, false⟩ s0 (Machine.execUartRx a1 s) := by
  unfold Machine.execUartRx
  exact .next (h.when (fun _ h2 => h2.consoleBytes))

theorem Keeps.execDiChange {s0 a1 a2 s} (h : Keeps ⟨km, kn, kp, kt, kj, ko, false, kd, kc, kl, ki, kz, kg, kx, ke⟩ s0 s) : OutKeeps ⟨km, kn, kp, kt, kj, ko, false, kd, kc, kl, ki, kz, kg, kx, ke⟩ s0 (Machine.execDiChange a1 a2 s) := by
  unfold Machine.execDiChange
  extract_lets -underBinder x1 x2
  refine .next ?_
  have h4 : Keeps h.kept s0 x2 := h.inputReads.actInputs
  exact h4.when (fun _ h6 => h6.sendInState)

theorem Keeps.interlocks {s0 s a2} (h : Keeps ⟨false, kn, false, kt, false, false, false, false, false, false, false, kz, false, kx, ke⟩ s0 s) : Keeps ⟨false, kn, false, kt, false, false, false, false, false, false, false, kz, false, kx, ke⟩ s0 (State.interlocks s a2) := by
  unfold State.interlocks
  extract_lets -underBinder x1 x2 x3 x4 x5 x6
  have h10 : Keeps h.kept s0 x4 := h.setFld
  have h12 : Keeps h.kept s0 x5 := h10.each (fun _ _ h13 => h13.put.pmcAdd.post)
  have h15 : Keeps h.kept s0 x6 := h12.each (fun _ _ h16 => h16.post)
  exact h15.when (fun _ h18 => h18.safeStop)

theorem Keeps.webBreaks {s0 s a2} (h : Keeps ⟨false, kn, false, kt, false, false, false, false, false, false, false, kz, false, kx, ke⟩ s0 s) : Keeps ⟨false, kn, false, kt, false, false, false, false, false, false, false, kz, false, kx, ke⟩ s0 (State.webBreaks s a2) := by
  unfold State.webBreaks
  extract_lets -underBinder x1 x2 x3 x4 x5
  have h8 : Keeps h.kept s0 x4 := h.setFld
  have h10 : Keeps h.kept s0 x5 := h8.each (fun _ _ h11 => h11.put.pmcAdd.post)
  exact h10.when (fun _ h13 => h13.safeStop)

theorem Keeps.execInState {s0 s} (h : Keeps ⟨false, kn, false, kt, false, false, false, false, false, false, false, kz, false, kx, ke⟩ s0 s) : OutKeeps ⟨false, kn, false, kt, false, false, false, false, false, false, false, kz, false, kx, ke⟩ s0 (Machine.execInState s) := by
  unfold Machine.execInState
  extract_lets -underBinder x1 x2 x3 x4 x5
  refine .next ?_
  have h6 : Keeps h.kept s0 x3 := h.put.put
  have h7 : Keeps h.kept s0 x4 := h6.put.pmcAdd
  exact Keeps.ite h h7.interlocks.webBreaks

theorem Keeps.execStFldLost {s0 s} (h : Keeps ⟨km, kn, kp, false, kj, ko, false, false, kc, false, ki, kz, kg, kx, ke⟩ s0 s) : OutKeeps ⟨km, kn, kp, false, kj, ko, false, false, kc, false, ki, kz, kg, kx, ke⟩ s0 (Machine.execStFldLost s) := by
  unfold Machine.execStFldLost
  extract_lets -underBinder x1 x2 x3
  refine .next ?_
  have h4 : Keeps h.kept s0 x2 := h.setFld
  have h5 : Keeps h.kept s0 x3 := h4.put.put.timeLock
  exact Keeps.ite h h5.post.handOver

theorem Keeps.mirrorHealth {s0 a1 a2 s} (h : Keeps ⟨km, kn, kp, kt, kj, ko, kf, kd, kc, kl, ki, kz, kg, kx, ke⟩ s0 s) : Keeps ⟨km, kn, kp, kt, kj, ko, kf, kd, kc, kl, ki, kz, kg, kx, ke⟩ s0 (State.mirrorHealth a1 a2 s) := by
  unfold State.mirrorHealth
  extract_lets -underBinder x1 x2 x3 x4
  have h7 : Keeps h.kept s0 x1 := h.each (fun _ _ h8 => h8.putI)
  have h10 : Keeps h.kept s0 x2 := h7.each (fun _ _ h11 => h11.put)
  have h12 : Keeps h.kept s0 x3 := h10.put.putB
  have h13 : Keeps h.kept s0 x4 := h12.put.put
  exact h13.putB

theorem Keeps.headTemp {s0 a1 a2 s} (h : Keeps ⟨km, kn, kp, kt, kj, ko, kf, kd, false, kl, ki, kz, kg, kx, ke⟩ s0 s) : Keeps ⟨km, kn, kp, kt, kj, ko, kf, kd, false, kl, ki, kz, kg, kx, ke⟩ s0 (State.headTemp a1 a2 s) := by
  unfold State.headTemp
  extract_lets -underBinder x1 x2 x3 x4 x5 x6
  have h9 : Keeps h.kept s0 x2 := h.setCal
  have h10 : Keeps h.kept s0 x3 := h9.putI
  have h12 : Keeps h.kept s0 x4 := h10.when (fun _ h13 => h13.setCal.put)
  exact h12.when (fun _ h15 => h15.calDue)

theorem Keeps.headHeat {s0 a1 a2 s} (h : Keeps ⟨km, kn, false, kt, kj, ko, kf, kd, kc, kl, ki, kz, kg, kx, ke⟩ s0 s) : Keeps ⟨km, kn, false, kt, kj, ko, kf, kd, kc, kl, ki, kz, kg, kx, ke⟩ s0 (State.headHeat a1 a2 s) := by
  unfold State.headHeat
  extract_lets -underBinder x1 x2 x3 x4
  have h5 : Keeps h.kept s0 x4 := h.chPwr
  exact Keeps.ite (Keeps.ite h h5.put.post) (Keeps.ite h.chPwr h)

theorem Keeps.headCrc {s0 a1 a2 s} (h : Keeps ⟨km, kn, kp, kt, kj, false, kf, kd, kc, false, ki, kz, kg, kx, false⟩ s0 s) : Keeps ⟨km, kn, kp, kt, kj, false, kf, kd, kc, false, ki, kz, kg, kx, false⟩ s0 (State.headCrc a1 a2 s) := by
  unfold State.headCrc
  extract_lets -underBinder x1 x2
  exact h.setPort.when (fun _ h4 => h4.crcBurst)

theorem Keeps.execHpHealth {s0 a1 a2 s} (h : Keeps ⟨false, kn, false, kt, false, false, false, false, false, false, false, kz, false, kx, false⟩ s0 s) : OutKeeps ⟨false, kn, false, kt, false, false, false, false, false, false, false, kz, false, kx, false⟩ s0 (Machine.execHpHealth a1 a2 s) := by
  unfold Machine.execHpHealth
  extract_lets -underBinder x1 x2 x3 x4
  refine .next ?_
  have h5 : Keeps h.kept s0 x2 := h.mirrorHealth
  have h6 : Keeps h.kept s0 x3 := h5.setPort
  have h7 : Keeps h.kept s0 x4 := h6.headCrc.headTemp.headHeat
  exact Keeps.ite h h7.headLocked.confirmBy

end Sys2Proof.Machine
end

