-- ==== Sys2Proof/Laws/KeepsStep.lean ====
section
/-! SUPPORT. What the operations on a clock cycle and every command keep: the queue, the canonical maps and every part of the state that the operation does not change (the parts that its lemma leaves free). One lemma for each operation. -/

namespace Sys2Proof.Machine

variable {km kn kp kt kj ko kf kd kc kl ki kz kg kx ke : Bool}
variable {k : Kept}

theorem Keeps.meridian {s0 s} (h : Keeps ⟨km, false, kp, false, kj, ko, kf, kd, kc, kl, ki, kz, kg, kx, ke⟩ s0 s) : Keeps ⟨km, false, kp, false, kj, ko, kf, kd, kc, kl, ki, kz, kg, kx, ke⟩ s0 (State.meridian s) := by
  unfold State.meridian
  extract_lets -underBinder x1 x2
  have h3 : Keeps h.kept s0 x2 := h.setTb
  clear_value x2
  exact { h3 with now := nofun }

theorem Keeps.countLevels {s0 s} (h : Keeps ⟨km, kn, kp, kt, kj, ko, kf, kd, kc, kl, ki, kz, kg, kx, false⟩ s0 s) : Keeps ⟨km, kn, kp, kt, kj, ko, kf, kd, kc, kl, ki, kz, kg, kx, false⟩ s0 (State.countLevels s) := by
  unfold State.countLevels
  extract_lets -underBinder x1 x2 x3
  have h6 : Keeps h.kept s0 x2 := h.each (fun _ _ h7 => (Keeps.ite h7.pmcAdd (h7.when (fun _ h8 => h8.pmcAdd))))
  exact h6.chErr

theorem Keeps.loadWindow {s0 s} (h : Keeps ⟨km, kn, kp, kt, false, ko, kf, kd, kc, kl, ki, kz, kg, kx, ke⟩ s0 s) : Keeps ⟨km, kn, kp, kt, false, ko, kf, kd, kc, kl, ki, kz, kg, kx, ke⟩ s0 (State.loadWindow s) := by
  unfold State.loadWindow
  extract_lets -underBinder x1 x2 x3
  have h5 : Keeps h.kept s0 x3 := h.chEng
  refine (h5.each (fun _ _ h7 => ?_))
  extract_lets -underBinder x8
  exact h7.put.put

theorem Keeps.linksTick {s0 s} (h : Keeps ⟨km, kn, kp, kt, kj, false, kf, kd, kc, false, ki, kz, kg, kx, ke⟩ s0 s) : Keeps ⟨km, kn, kp, kt, kj, false, kf, kd, kc, false, ki, kz, kg, kx, ke⟩ s0 (State.linksTick s) := by
  unfold State.linksTick
  extract_lets -underBinder x1
  have h4 : Keeps h.kept s0 x1 := h.each (fun _ _ h5 => h5.headDrain)
  exact h4.each (fun _ _ h7 => h7.peerDrain)

theorem Keeps.tick {s0 s} (h : Keeps ⟨km, false, false, false, false, false, kf, false, kc, false, false, kz, false, kx, false⟩ s0 s) : Keeps ⟨km, false, false, false, false, false, kf, false, kc, false, false, kz, false, kx, false⟩ s0 (State.tick s) := by
  unfold State.tick
  extract_lets -underBinder x1 x2
  have h5 : Keeps h.kept s0 x1 := h.tellStop
  have h6 : Keeps h.kept s0 x2 := h5.meridian
  exact Keeps.ite h6 ((h6.when (fun _ h9 => h9.bootStep.voutRead)).countLevels.settleSlips.prbsTick.linksTick.memPath.dramTick.when (fun _ h10 => h10.loadWindow))

end Sys2Proof.Machine
end

