-- ==== Sys2Proof/Laws/KeepsExec.lean ====
section
/-! SUPPORT. What every command keeps: the queue, the canonical maps, and every part of the block that the command does not change. -/

namespace Sys2Proof.Machine

/-- The parts that a command does not change. -/
def Kept.of (c : Instr) : Kept :=
  ⟨!(changedBy c).contains .memory, !(changedBy c).contains .time, !(changedBy c).contains .power, !(changedBy c).contains .sequencers, !(changedBy c).contains .printing, !(changedBy c).contains .ports, !(changedBy c).contains .field, !(changedBy c).contains .duet, !(changedBy c).contains .calibration, !(changedBy c).contains .links, !(changedBy c).contains .cameras, !(changedBy c).contains .compression, !(changedBy c).contains .dram, !(changedBy c).contains .testPort, !(changedBy c).contains .errors⟩

/-- Every command keeps the queue, the canonical maps and the parts that it does not change. -/
theorem Keeps.exec (s : State) (c : Instr) : OutKeeps (Kept.of c) s (Machine.exec c s) :=
  match c with
  | .registerWrite .. => (Keeps.refl s).execRegisterWrite
  | .loReadSnapshot .. => (Keeps.refl s).execLoReadSnapshot
  | .loWriteBuffer .. => (Keeps.refl s).execLoWriteBuffer
  | .hiWriteCommit .. => (Keeps.refl s).execHiWriteCommit
  | .rcReadClear .. => (Keeps.refl s).execRcReadClear
  | .debugWindowRead .. => (Keeps.refl s).execDebugWindowRead
  | .debugWindowWrite .. => (Keeps.refl s).execDebugWindowWrite
  | .merSet .. => (Keeps.refl s).execMerSet
  | .ptmDialogue .. => (Keeps.refl s).execPtmDialogue
  | .stationTimeExchange .. => (Keeps.refl s).execStationTimeExchange
  | .stMerHoldover => (Keeps.refl s).execStMerHoldover
  | .stMerHoldLimit => (Keeps.refl s).execStMerHoldLimit
  | .encoderCount .. => (Keeps.refl s).execEncoderCount
  | .quadratureError .. => (Keeps.refl s).execQuadratureError
  | .encCheckCompare => (Keeps.refl s).execEncCheckCompare
  | .encoderIndex .. => (Keeps.refl s).execEncoderIndex
  | .encoutMCommit .. => (Keeps.refl s).execEncoutMCommit
  | .edgeReport .. => (Keeps.refl s).execEdgeReport
  | .edgeReportReceive .. => (Keeps.refl s).execEdgeReportReceive
  | .reportStale .. => (Keeps.refl s).execReportStale
  | .troikaVote .. => (Keeps.refl s).execTroikaVote
  | .barUpdateCommit .. => (Keeps.refl s).execBarUpdateCommit
  | .trkSelftest .. => (Keeps.refl s).execTrkSelftest
  | .trkSelftestDone .. => (Keeps.refl s).execTrkSelftestDone
  | .trkShadowEnd .. => (Keeps.refl s).execTrkShadowEnd
  | .stLateWork .. => (Keeps.refl s).execStLateWork
  | .job .. => (Keeps.refl s).execJob
  | .page .. => (Keeps.refl s).execPage
  | .pageReplaceDecision .. => (Keeps.refl s).execPageReplaceDecision
  | .bandDispatch => (Keeps.refl s).execBandDispatch
  | .bandComplete .. => (Keeps.refl s).execBandComplete
  | .chainStart .. => (Keeps.refl s).execChainStart
  | .chainEnd => (Keeps.refl s).execChainEnd
  | .screenPreloadDone .. => (Keeps.refl s).execScreenPreloadDone
  | .segmentFetch .. => (Keeps.refl s).execSegmentFetch
  | .tickReadComplete .. => (Keeps.refl s).execTickReadComplete
  | .engineLineCompute .. => (Keeps.refl s).execEngineLineCompute
  | .xwebUpdateCommit .. => (Keeps.refl s).execXwebUpdateCommit
  | .trimTempUpdateCommit .. => (Keeps.refl s).execTrimTempUpdateCommit
  | .fabMapCommit .. => (Keeps.refl s).execFabMapCommit
  | .fabMoveCommit .. => (Keeps.refl s).execFabMoveCommit
  | .fabMoveLoadDone .. => (Keeps.refl s).execFabMoveLoadDone
  | .spotCheck .. => (Keeps.refl s).execSpotCheck
  | .seSelftest .. => (Keeps.refl s).execSeSelftest
  | .seSelftestDone .. => (Keeps.refl s).execSeSelftestDone
  | .seSelftestTimeout .. => (Keeps.refl s).execSeSelftestTimeout
  | .smpUpdate .. => (Keeps.refl s).execSmpUpdate
  | .recordDelivery .. => (Keeps.refl s).execRecordDelivery
  | .smpLoad .. => (Keeps.refl s).execSmpLoad
  | .smpSave .. => (Keeps.refl s).execSmpSave
  | .smpXferDone .. => (Keeps.refl s).execSmpXferDone
  | .smpPeek .. => (Keeps.refl s).execSmpPeek
  | .hpPortEnable .. => (Keeps.refl s).execHpPortEnable
  | .hpBringupStep .. => (Keeps.refl s).execHpBringupStep
  | .hpBringupTimeout .. => (Keeps.refl s).execHpBringupTimeout
  | .hpRetryTimer .. => (Keeps.refl s).execHpRetryTimer
  | .hpSignalLoss .. => (Keeps.refl s).execHpSignalLoss
  | .hpContinue .. => (Keeps.refl s).execHpContinue
  | .hpRetrain .. => (Keeps.refl s).execHpRetrain
  | .hpFlush .. => (Keeps.refl s).execHpFlush
  | .hpTxTwi .. => (Keeps.refl s).execHpTxTwi
  | .hpHeadTxTwi .. => (Keeps.refl s).execHpHeadTxTwi
  | .hpSkip .. => (Keeps.refl s).execHpSkip
  | .hpSkipReceive .. => (Keeps.refl s).execHpSkipReceive
  | .hpBeacon .. => (Keeps.refl s).execHpBeacon
  | .hpTtReq .. => (Keeps.refl s).execHpTtReq
  | .hpTtRsp .. => (Keeps.refl s).execHpTtRsp
  | .hpTime .. => (Keeps.refl s).execHpTime
  | .hpTimeStatusTimeout .. => (Keeps.refl s).execHpTimeStatusTimeout
  | .hpIdent .. => (Keeps.refl s).execHpIdent
  | .hpHealth .. => (Keeps.refl s).execHpHealth
  | .hpAck .. => (Keeps.refl s).execHpAck
  | .hpFault _ _ _ d => (Keeps.refl s).execHpFault (a4 := d)
  | .hpSensePacket .. => (Keeps.refl s).execHpSensePacket
  | .hpUplinkDiscard .. => (Keeps.refl s).execHpUplinkDiscard
  | .hpBlockLockLoss .. => (Keeps.refl s).execHpBlockLockLoss
  | .hpHealthTimeout .. => (Keeps.refl s).execHpHealthTimeout
  | .hpAckTimeout .. => (Keeps.refl s).execHpAckTimeout
  | .linePacketSend .. => (Keeps.refl s).execLinePacketSend
  | .hpTapLoad .. => (Keeps.refl s).execHpTapLoad
  | .hpHeadMode .. => (Keeps.refl s).execHpHeadMode
  | .refClockLoss .. => (Keeps.refl s).execRefClockLoss
  | .refClockRestore .. => (Keeps.refl s).execRefClockRestore
  | .lTxeqWrite .. => (Keeps.refl s).execLTxeqWrite
  | .eyeGo .. => (Keeps.refl s).execEyeGo
  | .eyeMeasureDone .. => (Keeps.refl s).execEyeMeasureDone
  | .eyePeriodic .. => (Keeps.refl s).execEyePeriodic
  | .reeq .. => (Keeps.refl s).execReeq
  | .reeqDone .. => (Keeps.refl s).execReeqDone
  | .bitslip .. => (Keeps.refl s).execBitslip
  | .loop .. => (Keeps.refl s).execLoop
  | .prbsGenEn .. => (Keeps.refl s).execPrbsGenEn
  | .laneSelftest .. => (Keeps.refl s).execLaneSelftest
  | .laneSelftestRun .. => (Keeps.refl s).execLaneSelftestRun
  | .laneSelftestDone .. => (Keeps.refl s).execLaneSelftestDone
  | .announce .. => (Keeps.refl s).execAnnounce
  | .announceReceive .. => (Keeps.refl s).execAnnounceReceive
  | .announceTimeout .. => (Keeps.refl s).execAnnounceTimeout
  | .chan .. => (Keeps.refl s).execChan
  | .stPeerCrcBurst .. => (Keeps.refl s).execStPeerCrcBurst
  | .peerRetryTimer .. => (Keeps.refl s).execPeerRetryTimer
  | .camPortEnable .. => (Keeps.refl s).execCamPortEnable
  | .camDiscoveryDone .. => (Keeps.refl s).execCamDiscoveryDone
  | .retry .. => (Keeps.refl s).execRetry
  | .stCamLinkDown .. => (Keeps.refl s).execStCamLinkDown
  | .send .. => (Keeps.refl s).execSend
  | .stCamCcDone .. => (Keeps.refl s).execStCamCcDone
  | .stCamCcTimeout .. => (Keeps.refl s).execStCamCcTimeout
  | .stCamEvent .. => (Keeps.refl s).execStCamEvent
  | .cameraTrigger .. => (Keeps.refl s).execCameraTrigger
  | .cameraLineReceive .. => (Keeps.refl s).execCameraLineReceive
  | .lineWindowClose .. => (Keeps.refl s).execLineWindowClose
  | .statsRecordWrite => (Keeps.refl s).execStatsRecordWrite
  | .capture .. => (Keeps.refl s).execCapture
  | .stats .. => (Keeps.refl s).execStats
  | .setload .. => (Keeps.refl s).execSetload
  | .replay .. => (Keeps.refl s).execReplay
  | .setCameraWrites .. => (Keeps.refl s).execSetCameraWrites
  | .calAgeDue .. => (Keeps.refl s).execCalAgeDue
  | .run .. => (Keeps.refl s).execRun
  | .gutter .. => (Keeps.refl s).execGutter
  | .calRunStart => (Keeps.refl s).execCalRunStart
  | .calBatchForm .. => (Keeps.refl s).execCalBatchForm
  | .calCellMeasure .. => (Keeps.refl s).execCalCellMeasure
  | .calPassEnd .. => (Keeps.refl s).execCalPassEnd
  | .stop .. => (Keeps.refl s).execStop
  | .stCalTimeout => (Keeps.refl s).execStCalTimeout
  | .go .. => (Keeps.refl s).execGo
  | .calLaneSweep => (Keeps.refl s).execCalLaneSweep
  | .pair .. => (Keeps.refl s).execPair
  | .pairResult .. => (Keeps.refl s).execPairResult
  | .unpair .. => (Keeps.refl s).execUnpair
  | .detach .. => (Keeps.refl s).execDetach
  | .swap .. => (Keeps.refl s).execSwap
  | .hb => (Keeps.refl s).execHb
  | .hbIn .. => (Keeps.refl s).execHbIn
  | .stDuePathLoss => (Keeps.refl s).execStDuePathLoss
  | .stDueRevert => (Keeps.refl s).execStDueRevert
  | .stDuePeerLost => (Keeps.refl s).execStDuePeerLost
  | .duetOwnRaise .. => (Keeps.refl s).execDuetOwnRaise
  | .timing .. => (Keeps.refl s).execTiming
  | .stDueTimingLocal .. => (Keeps.refl s).execStDueTimingLocal
  | .order .. => (Keeps.refl s).execOrder
  | .state => (Keeps.refl s).execState
  | .stateCopyReceive .. => (Keeps.refl s).execStateCopyReceive
  | .duetNakTimeout => (Keeps.refl s).execDuetNakTimeout
  | .digest .. => (Keeps.refl s).execDigest
  | .digestGateTimeout => (Keeps.refl s).execDigestGateTimeout
  | .allemandeStart .. => (Keeps.refl s).execAllemandeStart
  | .allemandeSwapPoint => (Keeps.refl s).execAllemandeSwapPoint
  | .stDueAllemande => (Keeps.refl s).execStDueAllemande
  | .handover => (Keeps.refl s).execHandover
  | .reg .. => (Keeps.refl s).execReg
  | .claim .. => (Keeps.refl s).execClaim
  | .release .. => (Keeps.refl s).execRelease
  | .ownHandover .. => (Keeps.refl s).execOwnHandover
  | .devOwnHb .. => (Keeps.refl s).execDevOwnHb
  | .leaseCheck => (Keeps.refl s).execLeaseCheck
  | .ringEnable .. => (Keeps.refl s).execRingEnable
  | .dbProd .. => (Keeps.refl s).execDbProd
  | .dbHcons .. => (Keeps.refl s).execDbHcons
  | .dbAbortRing .. => (Keeps.refl s).execDbAbortRing
  | .dbAbortDevice .. => (Keeps.refl s).execDbAbortDevice
  | .devAbort .. => (Keeps.refl s).execDevAbort
  | .stRingAborted .. => (Keeps.refl s).execStRingAborted
  | .descriptorFetch .. => (Keeps.refl s).execDescriptorFetch
  | .stRingFetchErr .. => (Keeps.refl s).execStRingFetchErr
  | .cqResume .. => (Keeps.refl s).execCqResume
  | .msixModerationTimer .. => (Keeps.refl s).execMsixModerationTimer
  | .stPortReset .. => (Keeps.refl s).execStPortReset
  | .mbxGo .. => (Keeps.refl s).execMbxGo
  | .stMbxReply .. => (Keeps.refl s).execStMbxReply
  | .stMbxTimeout => (Keeps.refl s).execStMbxTimeout
  | .devPeerGo .. => (Keeps.refl s).execDevPeerGo
  | .peerRegAnswer _ _ d => (Keeps.refl s).execPeerRegAnswer (a3 := d)
  | .stPeerRegFail .. => (Keeps.refl s).execStPeerRegFail
  | .bar4Read .. => (Keeps.refl s).execBar4Read
  | .deflate .. => (Keeps.refl s).execDeflate
  | .inflate .. => (Keeps.refl s).execInflate
  | .zipRingWrite .. => (Keeps.refl s).execZipRingWrite
  | .memPopWrite .. => (Keeps.refl s).execMemPopWrite
  | .dramTraining .. => (Keeps.refl s).execDramTraining
  | .refresh => (Keeps.refl s).execRefresh
  | .refreshRatePoll .. => (Keeps.refl s).execRefreshRatePoll
  | .powerDownTimer .. => (Keeps.refl s).execPowerDownTimer
  | .writeTracking .. => (Keeps.refl s).execWriteTracking
  | .mcRetrain .. => (Keeps.refl s).execMcRetrain
  | .stMemCe .. => (Keeps.refl s).execStMemCe
  | .memFreeze .. => (Keeps.refl s).execMemFreeze
  | .patrolScrub .. => (Keeps.refl s).execPatrolScrub
  | .mcPgGo .. => (Keeps.refl s).execMcPgGo
  | .mcMraGo .. => (Keeps.refl s).execMcMraGo
  | .bcnM .. => (Keeps.refl s).execBcnM
  | .bcnF .. => (Keeps.refl s).execBcnF
  | .stFldLost => (Keeps.refl s).execStFldLost
  | .mainDieLost => (Keeps.refl s).execMainDieLost
  | .cfgCommit .. => (Keeps.refl s).execCfgCommit
  | .cfgAck .. => (Keeps.refl s).execCfgAck
  | .cfgAckTimeout => (Keeps.refl s).execCfgAckTimeout
  | .arm .. => (Keeps.refl s).execArm
  | .outSet .. => (Keeps.refl s).execOutSet
  | .outState .. => (Keeps.refl s).execOutState
  | .statusReq .. => (Keeps.refl s).execStatusReq
  | .latchClr .. => (Keeps.refl s).execLatchClr
  | .outputLatch .. => (Keeps.refl s).execOutputLatch
  | .safe24Undervoltage => (Keeps.refl s).execSafe24Undervoltage
  | .safe24Restore .. => (Keeps.refl s).execSafe24Restore
  | .diChange .. => (Keeps.refl s).execDiChange
  | .inState => (Keeps.refl s).execInState
  | .encLineFault .. => (Keeps.refl s).execEncLineFault
  | .spdSet => (Keeps.refl s).execSpdSet
  | .replayCmd .. => (Keeps.refl s).execReplayCmd
  | .uartRx .. => (Keeps.refl s).execUartRx
  | .barrierFrameDiscard .. => (Keeps.refl s).execBarrierFrameDiscard
  | .fieldFault _ i _ => (Keeps.refl s).execFieldFault (a2 := i)
  | .fieldHealth .. => (Keeps.refl s).execFieldHealth
  | .axEnable .. => (Keeps.refl s).execAxEnable
  | .axDisable .. => (Keeps.refl s).execAxDisable
  | .axStart .. => (Keeps.refl s).execAxStart
  | .axGoto .. => (Keeps.refl s).execAxGoto
  | .axMoveStop .. => (Keeps.refl s).execAxMoveStop
  | .axResume .. => (Keeps.refl s).execAxResume
  | .axSetPos .. => (Keeps.refl s).execAxSetPos
  | .axTarget .. => (Keeps.refl s).execAxTarget
  | .axRemainSet .. => (Keeps.refl s).execAxRemainSet
  | .motionControlTick .. => (Keeps.refl s).execMotionControlTick
  | .stMotStall .. => (Keeps.refl s).execStMotStall
  | .stMotFollow .. => (Keeps.refl s).execStMotFollow
  | .stMotCoil .. => (Keeps.refl s).execStMotCoil
  | .brakeDelay .. => (Keeps.refl s).execBrakeDelay
  | .holdDelay .. => (Keeps.refl s).execHoldDelay
  | .motionDescriptor .. => (Keeps.refl s).execMotionDescriptor
  | .modeRequest .. => (Keeps.refl s).execModeRequest
  | .modePendingComplete => (Keeps.refl s).execModePendingComplete
  | .derateChange => (Keeps.refl s).execDerateChange
  | .mode .. => (Keeps.refl s).execMode
  | .spit .. => (Keeps.refl s).execSpit
  | .devReset .. => (Keeps.refl s).execDevReset
  | .resetNAssert => (Keeps.refl s).execResetNAssert
  | .resetNRelease .. => (Keeps.refl s).execResetNRelease
  | .supplyFault .. => (Keeps.refl s).execSupplyFault
  | .supplyFaultRelease .. => (Keeps.refl s).execSupplyFaultRelease
  | .perstAssert .. => (Keeps.refl s).execPerstAssert
  | .pwrBootGo .. => (Keeps.refl s).execPwrBootGo
  | .bootImageVerify .. => (Keeps.refl s).execBootImageVerify
  | .stBootDone => (Keeps.refl s).execStBootDone
  | .pwrDomReq .. => (Keeps.refl s).execPwrDomReq
  | .domainSwitchDone => (Keeps.refl s).execDomainSwitchDone
  | .thermalSample .. => (Keeps.refl s).execThermalSample
  | .sensorTestStep .. => (Keeps.refl s).execSensorTestStep
  | .thermalLevelFall => (Keeps.refl s).execThermalLevelFall
  | .powerLevelEval .. => (Keeps.refl s).execPowerLevelEval
  | .pwrLevelReq .. => (Keeps.refl s).execPwrLevelReq
  | .stPwrSurgeEnd => (Keeps.refl s).execStPwrSurgeEnd
  | .surgeUnbar => (Keeps.refl s).execSurgeUnbar
  | .vrAck .. => (Keeps.refl s).execVrAck
  | .stPwrVrFail => (Keeps.refl s).execStPwrVrFail
  | .vrAlert .. => (Keeps.refl s).execVrAlert
  | .vrPgoodLoss => (Keeps.refl s).execVrPgoodLoss
  | .sramEccHit .. => (Keeps.refl s).execSramEccHit
  | .sramRegionTestDone .. => (Keeps.refl s).execSramRegionTestDone
  | .sramScrub .. => (Keeps.refl s).execSramScrub
  | .stErrLockstep .. => (Keeps.refl s).execStErrLockstep
  | .svcLoadWindow .. => (Keeps.refl s).execSvcLoadWindow
  | .snap .. => (Keeps.refl s).execSnap
  | .clear .. => (Keeps.refl s).execClear
  | .clearLog .. => (Keeps.refl s).execClearLog
  | .peerBringupStep .. => (Keeps.refl s).execPeerBringupStep
  | .peerBringupTimeout .. => (Keeps.refl s).execPeerBringupTimeout
  | .hpTwiEnter .. => (Keeps.refl s).execHpTwiEnter
  | .timeLockClear => (Keeps.refl s).execTimeLockClear
  | .zipDescriptorDone .. => (Keeps.refl s).execZipDescriptorDone
  | .stDueAllemSkip => (Keeps.refl s).execStDueAllemSkip
  | .allemandeCancel => (Keeps.refl s).execAllemandeCancel
  | .perstRelease .. => (Keeps.refl s).execPerstRelease

end Sys2Proof.Machine
end

