-- ==== Sys2Proof/Tests/Slice0.lean ====
section
/-! SUPPORT. The model's own tests: an ill-formed term for each check of WellFormed, and for every statement that has hypotheses a state
and operands that meet them all. -/

set_option maxRecDepth 4000

open Sys2Proof Sys2Proof.Machine

/-! ### WellFormed and the table's words -/

theorem test_wf_refuses_ax_1 :
    ([.axEnable 0 4, .axDisable 0 4, .axStart 0 4 0 0, .axGoto 0 4, .axMoveStop 0 4, .axResume 0 4, .axSetPos 0 4, .axTarget 0 4
      0#32, .axRemainSet 4 0, .stMotStall 4, .stMotFollow 4, .stMotCoil 4 0, .brakeDelay 4, .holdDelay 4] : List Instr).all (fun i => !i.wf) = true := by decide

theorem test_wf_refuses_axis_1 :
    ([.duetOwnRaise 4] : List Instr).all (fun i => !i.wf) = true := by decide

theorem test_wf_refuses_bar_1 :
    ([.registerWrite 0 3 0 0 0#32, .rcReadClear 0 3 0 0] : List Instr).all (fun i => !i.wf) = true := by decide

theorem test_wf_refuses_block_1 :
    ([.spotCheck 4608 0 false false] : List Instr).all (fun i => !i.wf) = true := by decide

theorem test_wf_refuses_channel_1 :
    ([.edgeReportReceive 3 ⟨false, false, 0, 0, false, 0, 0⟩ 0, .reportStale 3 0, .trkSelftestDone 3 false, .trkShadowEnd 3,
      .bandComplete 8 none, .replayCmd 3, .zipDescriptorDone 8 false] : List Instr).all (fun i => !i.wf) = true := by decide

theorem test_wf_refuses_engine_1 :
    ([.segmentFetch 64 0 0, .tickReadComplete 64 0 0 false, .engineLineCompute 64 0 0, .seSelftest 0 64, .seSelftestDone 64 false,
      .seSelftestTimeout 64] : List Instr).all (fun i => !i.wf) = true := by decide

theorem test_wf_refuses_gn_1 :
    ([.calCellMeasure 0 0 2359296 0] : List Instr).all (fun i => !i.wf) = true := by decide

theorem test_wf_refuses_input_1 :
    ([.encoderCount 2 ⟨true, 0⟩, .quadratureError 2, .encoderIndex 2, .diChange 12 0] : List Instr).all (fun i => !i.wf) = true := by decide

theorem test_wf_refuses_lane_1 :
    ([.stationTimeExchange 256 0 0 ⟨0, 0⟩ 0, .hpSignalLoss 256, .hpSkip 256, .hpSkipReceive 0 8 0, .hpBlockLockLoss 256 [] ⟨0, false,
      false⟩, .lTxeqWrite 0 256 0#32, .eyeGo 0 256, .eyeMeasureDone 256 0 0, .eyePeriodic 256, .reeq 0 256, .reeqDone 256 0 0 ⟨0#32,
      []⟩, .bitslip 0 256, .loop 0 256 0, .prbsGenEn 0 256 false, .laneSelftest 0 256, .laneSelftestRun 256, .laneSelftestDone 256
      .bringup, .chan 256 0 0 0] : List Instr).all (fun i => !i.wf) = true := by decide

theorem test_wf_refuses_link_1 :
    ([.hpSkipReceive 105 0 0, .announce 9, .announceReceive 9 0 0 0, .announceTimeout 9, .stPeerCrcBurst 9 [], .peerRetryTimer 9,
      .peerBringupStep 9 ⟨true, [], [], []⟩, .peerBringupTimeout 9] : List Instr).all (fun i => !i.wf) = true := by decide

theorem test_wf_refuses_mc_1 :
    ([.powerDownTimer 16 0, .mcRetrain 16 .firmware, .mcPgGo 16 0#32 0 0, .mcMraGo 16 0#32 0] : List Instr).all (fun i => !i.wf) = true := by decide

theorem test_wf_refuses_mem_1 :
    ([.sramRegionTestDone 69 0 []] : List Instr).all (fun i => !i.wf) = true := by decide

theorem test_wf_refuses_output_1 :
    ([.outputLatch 8 false] : List Instr).all (fun i => !i.wf) = true := by decide

theorem test_wf_refuses_port_1 :
    ([.stLateWork 96 0 0, .hpPortEnable 0 96 false, .hpBringupStep 96 ⟨true, [], [], []⟩, .hpBringupTimeout 96, .hpRetryTimer 96,
      .hpContinue 0 96, .hpRetrain 0 96, .hpFlush 0 96, .hpTxTwi 0 96 false, .hpHeadTxTwi 0 96 false, .hpBeacon 96, .hpTtReq 96,
      .hpTtRsp 96 0, .hpTime 96 ⟨0, true, 0, 0, 0⟩, .hpTimeStatusTimeout 96 0, .hpIdent 96 ⟨1, 0, 0, 0, 0, 0, 0, 0, 0, 0, []⟩,
      .hpHealth 96 ⟨0, 0, 0, true, true, false, [], []⟩, .hpAck 96 0 0 0, .hpFault 96 0 false 0, .hpSensePacket 96 ⟨0, 0, 0, []⟩,
      .hpUplinkDiscard 96 ⟨0, []⟩, .hpHealthTimeout 96, .hpAckTimeout 96 0, .linePacketSend 96] : List Instr).all (fun i => !i.wf) = true := by decide

theorem test_wf_refuses_port_2 :
    ([.hpTapLoad 96 0, .hpHeadMode 0 96 0#32, .camPortEnable 0 8 0#32, .camDiscoveryDone 8 0 0, .retry 0 8, .stCamLinkDown 8, .send 0
      8 0#32, .stCamCcDone 8 [] false, .stCamCcTimeout 8, .stCamEvent 8 [], .cameraTrigger 8, .cameraLineReceive 8 0 ⟨false, false, 0,
      1, 8, 0⟩ [] 0 false, .lineWindowClose 8, .setCameraWrites 8 0, .calAgeDue 96, .calBatchForm 96, .digest 96 [], .dbProd 2 0 0,
      .dbHcons 2 0 0, .dbAbortRing 2 0 0, .dbAbortDevice 2 0 0, .stPortReset 2, .bar4Read 2 0 0, .perstAssert 2] : List Instr).all (fun i => !i.wf) = true := by decide

theorem test_wf_refuses_port_3 :
    ([.hpTwiEnter 96, .perstRelease 2] : List Instr).all (fun i => !i.wf) = true := by decide

theorem test_wf_refuses_ref_1 :
    ([.refClockLoss 7, .refClockRestore 7] : List Instr).all (fun i => !i.wf) = true := by decide

theorem test_wf_refuses_req_1 :
    ([.modeRequest 0 16] : List Instr).all (fun i => !i.wf) = true := by decide

theorem test_wf_refuses_ring_1 :
    ([.job 256 [], .page 256 [], .pageReplaceDecision 256 0 [], .smpUpdate 256, .capture 256, .stats 256, .setload 256 [], .replay
      256 [], .run 256, .gutter 256, .ringEnable 0 256 0#32, .dbProd 0 256 0, .dbHcons 0 256 0, .dbAbortRing 0 256 0, .dbAbortDevice 0
      256 0, .stRingAborted 256, .descriptorFetch 256 [], .stRingFetchErr 256, .cqResume 256, .msixModerationTimer 256, .deflate 256
      none false, .inflate 256 none false, .zipRingWrite 0 256 0#32, .motionDescriptor 256] : List Instr).all (fun i => !i.wf) = true := by decide

theorem test_wf_refuses_ring_2 :
    ([.mode 256, .spit 256 []] : List Instr).all (fun i => !i.wf) = true := by decide

theorem test_wf_refuses_row_1 :
    ([.stLateWork 0 1536 0, .segmentFetch 0 1536 0, .tickReadComplete 0 1536 0 false, .engineLineCompute 0 1536 0, .hpTapLoad 0 16] : List Instr).all (fun i => !i.wf) = true := by decide

theorem test_wf_refuses_sensor_1 :
    ([.sensorTestStep 25 0] : List Instr).all (fun i => !i.wf) = true := by decide

theorem test_wf_refuses_slot_1 :
    ([.registerWrite 4 0 0 0 0#32, .loReadSnapshot 4 0, .loWriteBuffer 4 0 0#32, .hiWriteCommit 4 0 0#32, .rcReadClear 4 0 0 0,
      .debugWindowRead 4 0 0 none, .debugWindowWrite 4 0 0 0#32, .merSet 4 0#32, .encoutMCommit 4 0#32, .barUpdateCommit 4 0#32,
      .trkSelftest 4 0, .xwebUpdateCommit 4 0#32, .trimTempUpdateCommit 4 0#32, .fabMapCommit 4 0#32, .fabMoveCommit 4 0#32,
      .seSelftest 4 0, .smpLoad 4 0 0, .smpSave 4 0 0, .smpPeek 4 0#32, .hpPortEnable 4 0 false, .hpContinue 4 0, .hpRetrain 4 0,
      .hpFlush 4 0, .hpTxTwi 4 0 false] : List Instr).all (fun i => !i.wf) = true := by decide

theorem test_wf_refuses_slot_2 :
    ([.hpHeadTxTwi 4 0 false, .hpHeadMode 4 0 0#32, .lTxeqWrite 4 0 0#32, .eyeGo 4 0, .reeq 4 0, .bitslip 4 0, .loop 4 0 0,
      .prbsGenEn 4 0 false, .laneSelftest 4 0, .camPortEnable 4 0 0#32, .retry 4 0, .send 4 0 0#32, .setCameraWrites 0 4, .stop 4
      0#32, .go 4 0#32, .unpair 4, .detach 4, .swap 4, .claim 4, .release 4, .ownHandover 4 0, .devOwnHb 4, .ringEnable 4 0 0#32,
      .devAbort 4 0#32] : List Instr).all (fun i => !i.wf) = true := by decide

theorem test_wf_refuses_slot_3 :
    ([.mbxGo 4, .devPeerGo 4 0#32, .zipRingWrite 4 0 0#32, .cfgCommit 4 0 0#32, .arm 4, .outSet 4 0#32, .statusReq 4, .latchClr 4
      0#32, .axEnable 4 0, .axDisable 4 0, .axStart 4 0 0 0, .axGoto 4 0, .axMoveStop 4 0, .axResume 4 0, .axSetPos 4 0, .axTarget 4 0
      0#32, .modeRequest 4 0, .devReset 4 0#32, .pwrBootGo 4, .pwrDomReq 4 0#32, .pwrLevelReq 4 0#32, .snap 4, .clear 4, .clearLog 4] : List Instr).all (fun i => !i.wf) = true := by decide

theorem test_wf_refuses_tag_1 :
    ([.stPeerRegFail 256] : List Instr).all (fun i => !i.wf) = true := by decide

theorem test_wf_refuses_target_1 :
    ([.ownHandover 0 4] : List Instr).all (fun i => !i.wf) = true := by decide

theorem test_wf_admits_1 :
    ([.registerWrite 3 2 0 0 0#32, .loReadSnapshot 3 0, .loWriteBuffer 3 0 0#32, .hiWriteCommit 3 0 0#32, .rcReadClear 3 2 0 0,
      .debugWindowRead 3 0 0 none, .debugWindowWrite 3 0 0 0#32, .merSet 3 0#32, .stationTimeExchange 255 0 0 ⟨0, 0⟩ 0, .encoderCount
      1 ⟨true, 0⟩, .quadratureError 1, .encoderIndex 1, .encoutMCommit 3 0#32, .edgeReportReceive 2 ⟨false, false, 0, 0, false, 0, 0⟩
      0, .reportStale 2 0, .barUpdateCommit 3 0#32, .trkSelftest 3 0, .trkSelftestDone 2 false, .trkShadowEnd 2, .stLateWork 95 1535
      0, .job 255 [], .page 255 [], .pageReplaceDecision 255 0 [], .bandComplete 7 none] : List Instr).all Instr.wf = true := by decide

theorem test_wf_admits_2 :
    ([.segmentFetch 63 1535 0, .tickReadComplete 63 1535 0 false, .engineLineCompute 63 1535 0, .xwebUpdateCommit 3 0#32,
      .trimTempUpdateCommit 3 0#32, .fabMapCommit 3 0#32, .fabMoveCommit 3 0#32, .spotCheck 4607 0 false false, .seSelftest 3 63,
      .seSelftestDone 63 false, .seSelftestTimeout 63, .smpUpdate 255, .smpLoad 3 0 0, .smpSave 3 0 0, .smpPeek 3 0#32, .hpPortEnable
      3 95 false, .hpBringupStep 95 ⟨true, [], [], []⟩, .hpBringupTimeout 95, .hpRetryTimer 95, .hpSignalLoss 255, .hpContinue 3 95,
      .hpRetrain 3 95, .hpFlush 3 95, .hpTxTwi 3 95 false] : List Instr).all Instr.wf = true := by decide

theorem test_wf_admits_3 :
    ([.hpHeadTxTwi 3 95 false, .hpSkip 255, .hpSkipReceive 104 7 0, .hpBeacon 95, .hpTtReq 95, .hpTtRsp 95 0, .hpTime 95 ⟨0, true, 0,
      0, 0⟩, .hpTimeStatusTimeout 95 0, .hpIdent 95 ⟨1, 0, 0, 0, 0, 0, 0, 0, 0, 0, []⟩, .hpHealth 95 ⟨0, 0, 0, true, true, false, [],
      []⟩, .hpAck 95 0 0 0, .hpFault 95 0 false 0, .hpSensePacket 95 ⟨0, 0, 0, []⟩, .hpUplinkDiscard 95 ⟨0, []⟩, .hpBlockLockLoss 255
      [] ⟨0, false, false⟩, .hpHealthTimeout 95, .hpAckTimeout 95 0, .linePacketSend 95, .hpTapLoad 95 15, .hpHeadMode 3 95 0#32,
      .refClockLoss 6, .refClockRestore 6, .lTxeqWrite 3 255 0#32, .eyeGo 3 255] : List Instr).all Instr.wf = true := by decide

theorem test_wf_admits_4 :
    ([.eyeMeasureDone 255 0 0, .eyePeriodic 255, .reeq 3 255, .reeqDone 255 0 0 ⟨0#32, []⟩, .bitslip 3 255, .loop 3 255 0, .prbsGenEn
      3 255 false, .laneSelftest 3 255, .laneSelftestRun 255, .laneSelftestDone 255 .bringup, .announce 8, .announceReceive 8 0 0 0,
      .announceTimeout 8, .chan 255 0 0 0, .stPeerCrcBurst 8 [], .peerRetryTimer 8, .camPortEnable 3 7 0#32, .camDiscoveryDone 7 0 0,
      .retry 3 7, .stCamLinkDown 7, .send 3 7 0#32, .stCamCcDone 7 [] false, .stCamCcTimeout 7, .stCamEvent 7 []] : List Instr).all Instr.wf = true := by decide

theorem test_wf_admits_5 :
    ([.cameraTrigger 7, .cameraLineReceive 7 0 ⟨false, false, 0, 1, 8, 0⟩ [] 0 false, .lineWindowClose 7, .capture 255, .stats 255,
      .setload 255 [], .replay 255 [], .setCameraWrites 7 3, .calAgeDue 95, .run 255, .gutter 255, .calBatchForm 95, .calCellMeasure 0
      0 2359295 0, .stop 3 0#32, .go 3 0#32, .unpair 3, .detach 3, .swap 3, .duetOwnRaise 3, .digest 95 [], .claim 3, .release 3,
      .ownHandover 3 3, .devOwnHb 3] : List Instr).all Instr.wf = true := by decide

theorem test_wf_admits_6 :
    ([.ringEnable 3 255 0#32, .dbProd 1 255 0, .dbHcons 1 255 0, .dbAbortRing 1 255 0, .dbAbortDevice 1 255 0, .devAbort 3 0#32,
      .stRingAborted 255, .descriptorFetch 255 [], .stRingFetchErr 255, .cqResume 255, .msixModerationTimer 255, .stPortReset 1,
      .mbxGo 3, .devPeerGo 3 0#32, .stPeerRegFail 255, .bar4Read 1 0 0, .deflate 255 none false, .inflate 255 none false,
      .zipRingWrite 3 255 0#32, .powerDownTimer 15 0, .mcRetrain 15 .firmware, .mcPgGo 15 0#32 0 0, .mcMraGo 15 0#32 0, .cfgCommit 3 0
      0#32] : List Instr).all Instr.wf = true := by decide

theorem test_wf_admits_7 :
    ([.arm 3, .outSet 3 0#32, .statusReq 3, .latchClr 3 0#32, .outputLatch 7 false, .diChange 11 0, .replayCmd 2, .axEnable 3 3,
      .axDisable 3 3, .axStart 3 3 0 0, .axGoto 3 3, .axMoveStop 3 3, .axResume 3 3, .axSetPos 3 3, .axTarget 3 3 0#32, .axRemainSet 3
      0, .stMotStall 3, .stMotFollow 3, .stMotCoil 3 0, .brakeDelay 3, .holdDelay 3, .motionDescriptor 255, .modeRequest 3 15, .mode
      255] : List Instr).all Instr.wf = true := by decide

theorem test_wf_admits_8 :
    ([.spit 255 [], .devReset 3 0#32, .perstAssert 1, .pwrBootGo 3, .pwrDomReq 3 0#32, .sensorTestStep 24 0, .pwrLevelReq 3 0#32,
      .sramRegionTestDone 68 0 [], .snap 3, .clear 3, .clearLog 3, .peerBringupStep 8 ⟨true, [], [], []⟩, .peerBringupTimeout 8,
      .hpTwiEnter 95, .zipDescriptorDone 7 false, .perstRelease 1] : List Instr).all Instr.wf = true := by decide

/-! ### The spec's worked examples -/

/-- spec/02_meridian_troika.md, "Worked example: 600 lpi at 5.29 m/s": TICK, the candidate of step 2, the vote of step 3 and
the outvote named after it. -/
theorem test_spec_tick : ({ v := 93062664175 } : Seq).tick 45455070549 = 32010 := by decide
theorem test_spec_due :
    ({ v := 93062664175, ts := 1000001200 } : Seq).due (222 * 65536) = some (1000192655 + 480000) := by decide
theorem test_spec_vote :
    (fun v : Verdict => (v.val, v.out, v.noMaj))
      (voteOf [(0, some (some 1000192655)), (1, some (some 1000192657)), (2, some (some 1000192654))])
      = (some 1000192655, [], false) := by decide
theorem test_spec_outvote :
    (fun v : Verdict => (v.val, v.out, v.noMaj))
      (voteOf [(0, some (some 1000192655)), (1, some (some 1000192657)), (2, some (some 1000192662))])
      = (some 1000192657, [2], false) := by decide

/-- spec/03_jobs_pages.md, "Worked example: a ramp gap on a label press": G_min, and the window of job 42. -/
theorem test_spec_gap : gapMin 125000 45455070549 = 2779 := by decide
def job42 : JobBody :=
  { id := 42, res := 1, join := 2, index := false, cal := false, fmax := 12500, bandLines := 512, depth := 0, cres := 1,
    cw := 20316, xorg := 0, ofs := 3000, geomLen := 0, screenAddr := 0, screenLen := 0 }
theorem test_spec_window :
    (fun w : Window => (w.w, w.lineBytes, w.req))
      (windowOf job42 [⟨0, 0, 0, 22727535274, 0⟩, ⟨16, 1, 87500 * 2 ^ 32, 22727535274, 0⟩, ⟨32, 2, 181250 * 2 ^ 32, 22727535274, 0⟩,
        ⟨48, 3, 275000 * 2 ^ 32, 22727535274, 0⟩] 0 6) = (53812, 81920, 4408279040) := by decide

/-- spec/04_swath_engines.md, "Worked example: a mid-web label press": f_ceil and TRK_TICK_MIN. -/
theorem test_spec_ceiling : (fCeil 1500 48, fCeil 1000 48, tickMin 12000) = (244140, 162760, 33334) := by decide

/-- spec/13_memory.md, the example after the table of DRAM address fields: MC5 is disabled. -/
def tPress : State := ((State.reset.put Reg.MEM_STS.EN_MASK 0xDF).put Reg.MEM_CFG.GRAIN 12).put Reg.MEM_POP.WIDTH 1
theorem test_spec_subChannel :
    tPress.subChannel 0x20123456 = some (1, 0x0494E456) := by decide
theorem test_spec_localAddr :
    (fun a : LocalAddr => (a.c, a.bg, a.ba, a.rank, a.row)) (tPress.localAddr 0x0494E456) = (17, 2, 2, 0, 1172) := by decide

/-- spec/06_mladant_link.md, "Worked example: a full port at 125 kHz": SEQ. -/
theorem test_spec_seq : lineSeq 0 1000000 = 0x00F42400 := by decide

/-- spec/15_motion.md, "Worked example: an interlock stops a gantry lift": GOTO 102,400 from rest, its phases in ps, and the stop
from cruise, whose two jerk phases take 1.0 mm. -/
theorem test_spec_move :
    (planMove ⟨0, 0, 0⟩ (102400 * posUnit) 204800 2048000 40960000).map (·.2 / 10 ^ 9) = [50, 50, 50, 350, 50, 50, 50] := by decide
theorem test_spec_stop :
    let m : Motion := ⟨46080 * posUnit, 204800 * velUnit, 0⟩
    let ps := velPhases m 0 4096000 81920000
    ps.map (·.2 / 10 ^ 9) = [50, 0, 50] ∧ (m.run ps).x / posUnit = 56320 := by decide

/-- No row of the table gives bits, so no word spells a command. -/
theorem test_decodeTableWord : decodeTableWord 32 0x12345678 = none := by decide

theorem test_reset_wf : State.reset.regs = [] ∧ State.reset.mem = [] ∧ State.reset.pending = [] := by decide

/-! ### Hypotheses that are met -/

/-- A state, 0.25 s after reset, in which slot 0 owns the device and every power domain is on. -/
def tOwned : State := { (State.reset.put Reg.DEV_OWN_STS.OWNED 1).put Reg.PWR_DOM_STS.ON 0x1FFFFF with now := 1000000000 }

theorem test_hyp_CycleCountsMeridian : State.reset.pending = [] := rfl

theorem test_hyp_StepKeepsTheMapsCanonical : State.reset.Wf ∧ step State.reset = .next State.reset.tick := ⟨⟨Sparse.nil_wf _, Sparse.nil_wf _⟩, rfl⟩

theorem test_hyp_CommandsStayWithinTheirUnits :
    (∃ t, exec (.encoderCount 0 ⟨true, 0⟩) State.reset = .next t) ∧ Part.memory ∉ changedBy (.encoderCount 0 ⟨true, 0⟩) := ⟨⟨_, rfl⟩, by decide⟩

theorem test_hyp_OnlyTheOwnerWrites :
    ownersWrite (.mbxGo 3) = some (3, Reg.MBX_CTRL.AT) ∧ tOwned.reach 3 = true ∧ (tOwned.inbound 3).addrOn Reg.MBX_CTRL.AT = true
      ∧ (tOwned.inbound 3).isOwner 3 = false ∧ (State.reset.inbound 0).addrOn (Reg.HP_CTRL.AT 95) = false
      ∧ { State.reset with pwr := { State.reset.pwr with resetLow := true } }.reach 0 = false := by decide

theorem test_hyp_DroppedWriteReport : (3 : Nat) < 4 ∧ 0x3FFFFFF < 0x4000000 := by decide

theorem test_hyp_AccessTypes :
    (Reg.mask Reg.TRK_CTRL.AT .rw).testBit 0 = true ∧ (Reg.mask Reg.TRK_CTRL.AT .rwl).testBit 0 = false
      ∧ (Reg.mask Reg.TRK_CTRL.AT .rw).testBit 31 = false := by decide

theorem test_hyp_PlainRegisterWrite :
    tOwned.mayWrite 0 Reg.TRK_CRAWL.AT ∧ (Reg.find Reg.TRK_CRAWL.AT).isSome = true ∧ (Reg.find Reg.TRK_CRAWL.AT).all (fun e => e.2 = 0 && !e.1.pair) = true
      ∧ Reg.writable Reg.TRK_CRAWL.AT = true ∧ fieldHeld Reg.TRK_CRAWL.AT = false ∧ (tOwned.inbound 0).rangeTrkCal Reg.TRK_CRAWL.AT 32000 = none
      ∧ tOwned.mayWrite 0 0x3FFFC ∧ Reg.find 0x3FFFC = none := by decide

theorem test_hyp_PairReads :
    tOwned.reach 3 = true ∧ (tOwned.inbound 3).addrOn Reg.MER_TIME.AT = true
      ∧ (Reg.find Reg.MER_TIME.AT).map (fun e => (e.1.pair, e.2)) = some (true, 0)
      ∧ (Reg.find (Reg.MER_TIME.AT + 4)).map (fun e => (e.1.pair, e.2)) = some (true, 4) := by decide

theorem test_hyp_PairWrites :
    (Reg.find Reg.TRK_BUPD_LINE.PAIR.addr).map (fun e => (e.1.pair, e.2)) = some (true, 0)
      ∧ (Reg.find (Reg.TRK_BUPD_LINE.PAIR.addr + 4)).map (fun e => (e.1.pair, e.2)) = some (true, 4)
      ∧ Reg.writable Reg.TRK_BUPD_LINE.PAIR.addr = true ∧ tOwned.mayWrite 0 Reg.TRK_BUPD_LINE.PAIR.addr
      ∧ tOwned.mayWrite 0 (Reg.TRK_BUPD_LINE.PAIR.addr + 4)
      ∧ (tOwned.inbound 0).pairDropped Reg.TRK_BUPD_LINE.PAIR.addr 7 = none
      ∧ ((tOwned.inbound 0).lockedAt Reg.TRK_BUPD_LINE.PAIR.addr && Reg.mask Reg.TRK_BUPD_LINE.PAIR.addr .rwl ≠ 0) = false
      ∧ tOwned.host.loBuf.lookup (pairKey 0 Reg.TRK_BUPD_LINE.PAIR.addr) = none
      ∧ (((tOwned.put Reg.JOB_CTRL.LOCK 1).inbound 0).lockedAt Reg.JOB_PAGE_BASE.PAIR.addr && Reg.mask Reg.JOB_PAGE_BASE.PAIR.addr .rwl ≠ 0) = true := by decide

theorem test_hyp_ReadClearsForTheOwner :
    tOwned.reach 0 = true ∧ (Reg.find Reg.ZIP_PAGE_SLACK.AT).map (fun e => (e.1.pair, e.2)) = some (false, 0)
      ∧ (tOwned.inbound 0).addrOn Reg.ZIP_PAGE_SLACK.AT = true ∧ (tOwned.inbound 0).isOwner 0 = true ∧ (tOwned.inbound 1).isOwner 1 = false
      ∧ ({ State.reset with now := 400000000 }.inbound 0).addrOn Reg.ZIP_PAGE_SLACK.AT = false := by decide

/-- A state in M3 in which slot 0's window reaches DRAM. -/
def tWindow : State :=
  ((((tOwned.put Reg.DEV_DBG_CTRL.EN 1).put Reg.DEV_DBG_CTRL.WR_EN 1).put Reg.DEV_MODE.MODE 3).put Reg.DEV_DBG_BASE.BASE 8192).put64 Reg.MEM_CAP.PAIR (2 ^ 33)
theorem test_hyp_DebugWindow :
    tWindow.reach 0 = true ∧ 0x4000000000 ≤ (tWindow.inbound 0).windowAt 0x3FFFFFC ∧ (tWindow.inbound 0).windowOk ((tWindow.inbound 0).windowAt 0x3FFFFFC) = true
      ∧ (tWindow.inbound 0).flag Reg.DEV_DBG_CTRL.WR_EN = true ∧ (tWindow.inbound 0).modeIn 3 4 = true ∧ (tWindow.inbound 0).isOwner 0 = true
      ∧ ((tWindow.put Reg.DEV_DBG_CTRL.WR_EN 0).inbound 0).flag Reg.DEV_DBG_CTRL.WR_EN = false ∧ (tWindow.inbound 1).isOwner 1 = false := by decide

/-- A follower in M4, 1 s after its last good exchange. -/
def tFollow : State :=
  ((({ State.reset with now := 4000000000, tb := { State.reset.tb with missed := 3, lastGood := some 0 } }.put Reg.MER_CTRL.ROLE 2).put
    (Reg.L_STS.LINK_STATE 248) 8).setPeer 1 (fun p => { p with annRole := 1 }))
theorem test_hyp_MeridianTimeCommands :
    tOwned.mayWrite 0 (Reg.MER_SET.PAIR.addr + 4) ∧ (tOwned.inbound 0).modeIn 2 4 = true ∧ (tOwned.inbound 0).get Reg.MER_CTRL.ROLE ≠ 2
      ∧ (tOwned.put Reg.MER_CTRL.ROLE 2).mayWrite 0 (Reg.MER_SET.PAIR.addr + 4) ∧ ((tOwned.put Reg.MER_CTRL.ROLE 2).inbound 0).get Reg.MER_CTRL.ROLE = 2
      ∧ tOwned.awake = true ∧ (tOwned.put Reg.MER_PTM_CTRL.EN 1).flag Reg.MER_PTM_CTRL.EN = true ∧ tOwned.tb.ptmAt = none
      ∧ tOwned.reach 0 = true ∧ State.reset.reach 0 = false := by decide
theorem test_hyp_MeridianTimeCommands_exchange :
    tFollow.awake = true ∧ tFollow.peerLink 1 = 8 ∧ tFollow.requests (tFollow.roleAt 5) 1 = true ∧ (tFollow.peer 1).annRole = 1
      ∧ tFollow.steeredBy (tFollow.roleAt 5) = some 1 ∧ (tFollow.setPeer 1 (fun p => { p with annRole := 0 })).requests 2 1 = true
      ∧ ((tFollow.put Reg.MER_CTRL.ROLE 1).put Reg.MER_STN_CFG.TX_MASK 1).requests 1 1 = false
      ∧ ((tFollow.put Reg.MER_CTRL.ROLE 1).put Reg.MER_STN_CFG.TX_MASK 1).answers 1 1 = true
      ∧ (tFollow.put Reg.MER_CTRL.ROLE 1).answers 1 1 = false := by decide
theorem test_hyp_MeridianTimeCommands_holdover :
    tFollow.steering = some 1 ∧ tFollow.flag Reg.MER_STN_STS.HOLD = false ∧ 3 ≤ tFollow.tb.missed
      ∧ (tFollow.put Reg.MER_STN_STS.HOLD 1).flag Reg.MER_STN_STS.HOLD = true ∧ tFollow.tb.holdTold = false
      ∧ tFollow.get Reg.MER_STN_CFG.HOLD_LIM * 4000000000 < (tFollow.now - tFollow.tb.lastGood.getD 0) * tFollow.get Reg.MER_STN_CFG.HOLD_PPB := by decide

/-- A state whose field die decodes its encoder inputs. -/
def tEnc : State := { State.reset with fld := { State.reset.fld with state := .active } }
theorem test_hyp_EncoderCommands :
    tEnc.decodes = true ∧ tEnc.mainInput 0 = true ∧ tEnc.mainInput 1 = false ∧ tEnc.fget Reg.ENC_CTRL.FILT ≤ 100
      ∧ (tEnc.setFld ({ · with applied := [(Reg.ENC_CTRL.AT, 0x00000100)] })).decodes = true
      ∧ tEnc.flag Reg.ENC_CTRL.CHK_EN = false ∧ (tEnc.put Reg.ENC_CTRL.CHK_EN 1).flag Reg.ENC_CTRL.CHK_EN = true
      ∧ tEnc.get Reg.ENC_CHK_TOL.TOL * 2 ^ 24 < ((1000000 : Int) * 2 ^ 24 - 0 * tEnc.get Reg.ENC_CHK_RATIO.RATIO).natAbs := by decide
theorem test_hyp_EncoderCommands_burst :
    ((List.replicate 15 0).filter (fun t => State.reset.now < t + 4000000)).length = 15 := by decide
theorem test_hyp_EncoderCommands_pair :
    tOwned.mayWrite 0 Reg.ENCOUT_M.AT ∧ (tOwned.inbound 0).lockedAt Reg.ENCOUT_M.AT = false
      ∧ ((tOwned.put Reg.ENC_CTRL.LOCK 1).inbound 0).lockedAt Reg.ENCOUT_M.AT = true := by decide

theorem test_hyp_PredictorArithmetic : ({ fresh := false } : Seq).fresh = false ∧ ({} : Seq).fresh = true := by decide

/-- A state with a locked field die, in its boundary 0, with no report in. -/
def tLock : State := { (tOwned.put Reg.FLD_STS.TIME_LOCK 1) with
  fld := { State.reset.fld with lock := true, state := .active }, tb := { State.reset.tb with lockFrom := some 0 } }
def tLine : PLine := ⟨0, 5, 7, 0, 0, 0, some Code.ST_SE_OUT, [], 0, 0, 0, 0, 0, 0⟩
theorem test_hyp_TroikaCommands :
    tLock.fld.lock = true ∧ tLock.fld.rptAt ≠ some 0 ∧ tLock.flag Reg.FLD_STS.TIME_LOCK = true ∧ tLock.votesOwn = true
      ∧ tLock.expects 0 = true ∧ tLock.lastDue 0 = false ∧ (tLock.loadChannels 0).votesOwn = true
      ∧ ((tLock.put Reg.DUE_STS.ROLE 2).loadChannels 0).votesOwn = false
      ∧ 1000 ≤ 1000 / 2 ^ tLock.get Reg.TRK_CFG.RPT_LOG * 2 ^ tLock.get Reg.TRK_CFG.RPT_LOG + 1000
      ∧ (tLock.seq 2).testing = false ∧ (tLock.seq 2).lastTk ≠ some 0 ∧ tLock.tb.lastVote ≠ some 0 ∧ tLock.reportsIn 0 = true
      ∧ tLock.mayWrite 0 Reg.TRK_CTRL.AT := by decide
theorem test_hyp_TroikaCommands_lines :
    ((tLock.setSeq 2 ({ · with testing := true, replays := true })).seq 2).testing = true
      ∧ ((tLock.setSeq 2 ({ · with testing := true, replays := true })).seq 2).loadAt = none
      ∧ ((tLock.setSeq 2 ({ · with shadow := some 0 })).seq 2).shadow = some 0
      ∧ ((tLock.setSeq 2 ({ · with shadow := some 0, shadowBad := true })).seq 2).shadowBad = true
      ∧ ([tLine].find? (fun l => l.row = 16 * 0 + 5 && l.line = 7)) = some tLine ∧ tLine.incomplete = true
      ∧ tLock.mayWrite 0 Reg.TRK_BUPD_CTRL.AT ∧ bit (256 : Word).toNat 8 = true ∧ bit (0 : Word).toNat 8 = false
      ∧ ((tLock.inbound 0).writeFields 0 Reg.TRK_BUPD_CTRL.AT 256).get Reg.DUE_STS.ROLE ≠ 2
      ∧ (((tLock.put Reg.DUE_STS.ROLE 2).inbound 0).writeFields 0 Reg.TRK_BUPD_CTRL.AT 256).get Reg.DUE_STS.ROLE = 2 := by decide

def tB (l : List Nat) : List Byte := l.map (BitVec.ofNat 8)
/-- A calibration job of one row, and its geometry table. -/
def tJobDesc : Desc := ⟨0, tB ([1] ++ List.replicate 15 0 ++ [7, 0, 0, 16, 100, 0, 64, 0, 0, 0, 0, 0, 0, 1, 0, 0] ++ List.replicate 24 0 ++ [48, 0, 0, 0, 0, 0, 0, 0]), false⟩
def tGeom : List Byte := tB ([1, 0, 0, 0, 2] ++ List.replicate 11 0 ++ List.replicate 16 0 ++ [0, 0, 0, 0, 1, 0, 0, 0] ++ List.replicate 8 0)
/-- Ring 0 runs as a ring of type `ty` with descriptor `d` at its head, in mode `m`. -/
def tRing (ty m : Nat) (d : Desc) : State :=
  ((((tOwned.put (Reg.RNG_R_CFG.TYPE 0) ty).put (Reg.RNG_R_STS.STATE 0) 1).put Reg.DEV_MODE.MODE m).setRing 0 { flight := [d] })
theorem test_hyp_JobAndPageCommands :
    (tRing 1 9 tJobDesc).headDesc 0 = some tJobDesc ∧ (tRing 1 9 tJobDesc).ringType 0 = 1 ∧ tJobDesc.kind = 1 ∧ tJobDesc.jobBody.cal = true
      ∧ (tRing 1 9 tJobDesc).mode = 9 ∧ ((tRing 1 9 tJobDesc).jobRefusal tJobDesc tJobDesc.jobBody tGeom).1 = none
      ∧ (tRing 1 9 tJobDesc).jobHeld tJobDesc.jobBody = false := by decide
def tBand : Band := ⟨0, 3, 0, 0, .waiting, 0⟩
def tPage : Page := ⟨0, 0, 16, false, false, 0, 0, 0, [tBand], false, []⟩
def tJob : Job := ⟨7, 1, 0, 0, 100, 64, 0, 0, 1, 0, 0, 0, [0], 256, false, [], none, 1, 16, [tPage], 0, .valid, some 0, 0, 2, 0, [(9, 0, 16)], none⟩
def tChain : Chain := ⟨1, false, false, false, false, 0, 0, [⟨0, 0, 0, 4294967296, 0⟩], 0, 2, 0, none, 1000, 256, 0, 0, 100, none, false, false, [], [], []⟩
/-- A chain with one job, whose page has one band that waits. -/
def tPrint : State := { tOwned with job := { tOwned.job with jobs := [tJob], chains := [tChain] } }.put Reg.ZIP_CFG.PAGE_MASK 1
/-- The second page of that job, and a replacement of its first. -/
def tPageDesc (no flags : Nat) : Desc := ⟨0, tB ([2] ++ List.replicate 15 0 ++ [7, 0, flags, 0, no, 0, 0, 0, 16, 0, 0, 0, 1, 0, 0, 0] ++ List.replicate 32 0), false⟩
def tTable : List Byte := tB (List.replicate 16 0)
theorem test_hyp_JobAndPageCommands_page :
    (tPageDesc 1 0).kind = 2 ∧ pageFormatBad (tPageDesc 1 0) = false ∧ tPrint.job.jobs.find? (·.id = (tPageDesc 1 0).at_ 16 2) = some tJob
      ∧ bit ((tPageDesc 1 0).at_ 18 2) 1 = false ∧ (tPageDesc 1 0).at_ 20 4 = tJob.nextPage ∧ tJob.total = none
      ∧ (pageBands tJob ((tPageDesc 1 0).at_ 24 4) tTable ((tPageDesc 1 0).at_ 28 4)).isSome = true := by decide
theorem test_hyp_JobAndPageCommands_replace :
    ({ tRing 1 6 (tPageDesc 0 2) with job := tPrint.job }.replacement 0) = some (tPageDesc 0 2, tJob, some tPage)
      ∧ (tPageDesc 0 2).at_ 24 4 = tPage.lines ∧ (tRing 1 6 (tPageDesc 0 2)).get Reg.DUE_STS.ROLE ≠ 2 := by decide
theorem test_hyp_JobAndPageCommands_done :
    ({ tRing 1 6 (tPageDesc 9 2) with job := tPrint.job }.replacement 0) = some (tPageDesc 9 2, tJob, none)
      ∧ tJob.done.find? (·.1 = (tPageDesc 9 2).at_ 20 4) = some (9, 0, 16) ∧ (tPageDesc 9 2).at_ 24 4 = 16 := by decide
theorem test_hyp_JobAndPageCommands_held :
    ({ tRing 1 9 tJobDesc with job := { tPrint.job with busyFor := some 3 } }.jobHeld tJobDesc.jobBody) = true
      ∧ (tRing 1 6 (tPageDesc 1 0)).job.refused.contains ((tPageDesc 1 0).at_ 16 2) = false
      ∧ pageBands tJob 16 [] 1 = none ∧ pageFormatBad (tPageDesc 1 8) = true
      ∧ ({ tOwned with due := { tOwned.due with orders := [.replace 0 true] } }.put Reg.DUE_STS.ROLE 2).due.orders = [.replace 0 true] := by decide
theorem test_hyp_JobAndPageCommands_band :
    tPrint.waitingBands = [(tJob, tPage, tBand)] ∧ tPrint.idlePageChannel = some 0 ∧ tPrint.chain? tJob.chain = some tChain
      ∧ tPrint.slotFree tChain (tPage.first + tBand.idx * tJob.bandLines + bandSpan tJob tPage tBand.idx - 1) = true ∧ tPrint.domOn 11 = true
      ∧ ((tPrint.setBand 7 0 0 0 ({ · with st := .running 0 })).runningBand 0).isSome = true
      ∧ bandResult false 0 (some (tB [3, 0])) = ([], 2, none) := by decide

/-- A chain that waits in M6, with the vote expected; its index twin; and one in flight that has ended. -/
def tWait : State := { (((tOwned.put Reg.DEV_MODE.MODE 6).put Reg.FLD_STS.TIME_LOCK 1).put Reg.TRK_STS.CRAWL 0) with job := { tOwned.job with chains := [tChain] }, tb := { tOwned.tb with lockFrom := some 0 } }
theorem test_hyp_ChainAndScreenCommands :
    tWait.waitingChain = some tChain ∧ tChain.index = false ∧ tChain.cal = false ∧ tWait.modeIn 6 7 = true ∧ tWait.get Reg.DUE_STS.ROLE ≠ 2
      ∧ tWait.expects 0 = true ∧ tWait.pwr.printFrom ≤ 0 ∧ tWait.tb.dirRev = false ∧ tWait.flag Reg.TRK_STS.CRAWL = false ∧ tWait.tb.noMaj = false
      ∧ { tWait with job := { tWait.job with chains := [{ tChain with index := true }] } }.waitingChain = some { tChain with index := true } := by decide
def tEnded : Chain := { tChain with started := true, total := some 0, geo := [] }
theorem test_hyp_ChainAndScreenCommands_end :
    { tOwned with job := { tOwned.job with chains := [tEnded] } }.flying.find? { tOwned with job := { tOwned.job with chains := [tEnded] } }.chainDone = some tEnded
      ∧ screenFails [] 0 [] = some 12 := by decide
theorem test_hyp_ChainAndScreenCommands_set :
    (tOwned.job.lines.any (fun l => l.bank = 0 && l.blocks.any (·.words = none))) = false
      ∧ (some (0, 64, 0, Preload.loading)) = ({ tOwned with job := { tOwned.job with lastSet := some (0, 64, 0, .loading) } }).job.lastSet := by decide

/-- Engine 5 has block 0 of line 7 of row 0 to fetch; then to compute. -/
def tBlk : Blk := ⟨0, some 5, none, false, none, none⟩
def tEngLine (b : Blk) : PLine := ⟨1, 0, 7, 0, 10000000000, 0, none, [b], 0, 0, 0, 0, 0, 0⟩
def tEng (b : Blk) : State := { tPrint with job := { tPrint.job with lines := [tEngLine b] } }
def tFetched : Blk := ⟨0, some 5, some 0, true, none, none⟩
theorem test_hyp_EngineCommands :
    (tEng tBlk).lineOf 0 7 = some (tEngLine tBlk) ∧ (tEng tBlk).engineOut 5 = false ∧ (tEngLine tBlk).blocks.any (fun b => b.toFetch 5) = true
      ∧ ((tEng tBlk).lineCtx (tEngLine tBlk)).isSome = true ∧ ((tEng tBlk).lineCtx (tEngLine tBlk)).all (fun x => !x.j.cal) = true
      ∧ (tEng tBlk).frozen = false := by decide
theorem test_hyp_EngineCommands_compute :
    (tEng tFetched).readyBlocks 5 (tEngLine tFetched) ≠ [] ∧ (tEng tFetched).workFits ((tEng tFetched).readyBlocks 5 (tEngLine tFetched)).length 10000000000 = true
      ∧ (tEng tFetched).workFits ((tEng tFetched).readyBlocks 5 (tEngLine tFetched)).length 0 = false
      ∧ ∀ x ∈ (tEng tFetched).job.lines, ¬ x.tf < 10000000000 := by decide
/-- Block 0 is served by engine 5, which engine 6 checks. -/
def tSpot : State := ((tOwned.put (mapByte 0) 133).put Reg.FAB_STS.MAP_VALID 1).put Reg.FAB_CTRL.SPOT_EN 1
theorem test_hyp_EngineCommands_tests :
    tSpot.lineOf 0 0 = none ∧ tSpot.servedBy 0 = some 5 ∧ tSpot.flag Reg.FAB_CTRL.SPOT_EN = true ∧ tSpot.engineOut 5 = false
      ∧ tSpot.get (Reg.SE_CHECKER.CHECKED_BY 5) ≠ 5 ∧ tOwned.mayWrite 0 (Reg.SE_CTRL.AT 63) ∧ (tOwned.inbound 0).eng.tests = []
      ∧ (tOwned.inbound 0).engineOut 63 = false ∧ [(63, 0, 0)].find? (fun t : Nat × Nat × Nat => t.1 = 63) = some (63, 0, 0) := by decide

theorem test_hyp_FabricCommands :
    tOwned.mayWrite 0 Reg.FAB_XUPD_CTRL.AT ∧ bit (256 : Word).toNat 8 = true ∧ tOwned.mayWrite 0 Reg.FAB_TUPD_CTRL.AT
      ∧ ((tOwned.inbound 0).writeFields 0 Reg.FAB_XUPD_CTRL.AT 256).get Reg.DUE_STS.ROLE ≠ 2
      ∧ ((tOwned.inbound 0).writeFields 0 Reg.FAB_TUPD_CTRL.AT 256).get Reg.DUE_STS.ROLE ≠ 2
      ∧ tOwned.mayWrite 0 Reg.FAB_CTRL.AT ∧ bit (2 : Word).toNat 1 = true
      ∧ tOwned.mayWrite 0 Reg.FAB_MOVE_CTRL.AT ∧ bit (0x2000 : Word).toNat 13 = true
      ∧ (⟨0, 1, false, [], [], []⟩ : Move).loaded = false := by decide

def tRecord : Desc := ⟨0, tB ([3] ++ List.replicate 63 0), false⟩
theorem test_hyp_StarmapCommands :
    (tRing 5 4 tRecord).headDesc 0 = some tRecord ∧ (tRing 5 4 tRecord).ringType 0 = 5 ∧ tRecord.kind = 3
      ∧ ((tRing 5 4 tRecord).markStarted 0 0).smpMisdirected tRecord = false
      ∧ (((tRing 5 4 tRecord).put Reg.DUE_STS.ROLE 2).markStarted 0 0).smpMisdirected tRecord = true := by decide
def tXfer (dir : Nat) : State := ((tOwned.put Reg.DEV_MODE.MODE 3).inbound 0).writeFields 0 Reg.SMP_XFER_CTRL.AT (xferWord dir 95 1)
theorem test_hyp_StarmapCommands_transfer :
    (tXfer 0).get Reg.SMP_XFER_CTRL.FIRST_HP = 95 ∧ (tXfer 0).get Reg.SMP_XFER_CTRL.COUNT = 1 ∧ (tXfer 0).flag Reg.SMP_XFER_CTRL.DIR = false
      ∧ (tXfer 0).smp.xfer = none ∧ (tXfer 0).mode = 3 ∧ (tXfer 0).get Reg.JOB_STS.CHAINS = 0 ∧ (tXfer 1).flag Reg.SMP_XFER_CTRL.DIR = true
      ∧ (tXfer 1).get Reg.SMP_XFER_CTRL.FIRST_HP = 95 ∧ (tXfer 1).get Reg.SMP_XFER_CTRL.COUNT = 1 ∧ (tXfer 1).modeIn 3 9 = true
      ∧ tOwned.mayWrite 0 Reg.SMP_XFER_CTRL.AT ∧ tOwned.mayWrite 0 Reg.SMP_PEEK_GN.AT
      ∧ crc32Bytes [] = tOwned.get Reg.SMP_XFER_CRC.CRC ∧ tOwned.loadFails [] 0 0 = none ∧ ([] : List Byte).length = 0 * portImage
      ∧ ([0] : List Byte).length ≠ 0 * portImage := by decide
theorem test_hyp_StarmapCommands_refused :
    ((tXfer 0).put Reg.SMP_XFER_CTRL.COUNT 0).smp.xfer.isSome = false ∧ (tXfer 0).get Reg.SMP_XFER_CTRL.COUNT ≠ 0
      ∧ ((tXfer 1).put Reg.DEV_MODE.MODE 2).modeIn 3 9 = false := by decide

def tPort (word : Nat) : State := (tOwned.setWord (Reg.HP_CTRL.AT 95) (BitVec.ofNat 32 word)).inbound 0
theorem test_hyp_HeadPortControl :
    tOwned.mayWrite 0 (Reg.HP_CTRL.AT 95) ∧ tOwned.mayWrite 0 (Reg.HP_HEAD_CMD.AT 95) ∧ wbits 3 0 3 ≤ 3 ∧ 3 < wbits 4 0 3
      ∧ (tPort 2).inChain 95 = false ∧ wbit (wordBit 2 6 true) (Reg.HP_CTRL.TX_TWI 95).lo = true ∧ (tPort 2).flag (Reg.HP_CTRL.TX_TWI 95) = false
      ∧ (tOwned.put (Reg.HP_LINK_STS.STATE 95) 8).get (Reg.HP_LINK_STS.STATE 95) = 8 := by decide
theorem test_hyp_HeadPortControl_chain : { tOwned with job := { tOwned.job with chains := [{ tChain with started := true }] } }.inChain 0 = true := by decide

def tUp (st : Nat) : State := (tOwned.put (Reg.HP_CTRL.EN 95) 1).put (Reg.HP_LINK_STS.STATE 95) st
def tObs : BringupObs := ⟨true, [(false, 26), (false, 26)], [], []⟩
theorem test_hyp_HeadBringup :
    (tUp 1).flag (Reg.HP_CTRL.EN 95) = true ∧ (tUp 1).linkHeld (headLanes 95) = false
      ∧ (tUp 1).flag (Reg.HP_LINK_STS.HEAD_TX_TWI 95) = false ∧ [1, 2, 3, 4, 5, 6, 7].map (fun n => (tUp n).get (Reg.HP_LINK_STS.STATE 95)) = [1, 2, 3, 4, 5, 6, 7]
      ∧ (tUp 4).flag (Reg.HP_CTRL.MANUAL 95) = false ∧ ((tUp 4).put (Reg.HP_CTRL.MANUAL 95) 1).flag (Reg.HP_CTRL.MANUAL 95) = true
      ∧ ((tUp 4).port 95).relock = false ∧ ((tUp 9).put (Reg.HP_LINK_STS.HEAD_TX_TWI 95) 1).flag (Reg.HP_LINK_STS.HEAD_TX_TWI 95) = true
      ∧ stepLimit 2 = some 400000 ∧ ((tUp 2).port 95).since + 400000 ≤ (tUp 2).now ∧ stepLimit 7 = some 20000000 := by decide
theorem test_hyp_HeadBringup_loss :
    (((tUp 10).setPort 95 ({ · with failedAt := some 0 })).port 95).failedAt = some 0 ∧ linkLane 191 = true ∧ linkLane 255 = true
      ∧ (tOwned.put (Reg.L_STS.BLOCK_LOCK 191) 1).flag (Reg.L_STS.BLOCK_LOCK 191) = true
      ∧ errorBurst false [] = false ∧ errorBurst false (List.replicate 16 (3, 0)) = true := by decide
theorem test_hyp_HeadBringup_health :
    (((tUp 8).setPort 95 ({ · with lastHealth := some 0 })).port 95).lastHealth = some 0 ∧ 0 + 20000000 ≤ (tUp 8).now
      ∧ (tUp 8).flag (Reg.HP_LINK_STS.HEAD_TX_TWI (190 / 2)) = false ∧ (tUp 8).get (Reg.HP_LINK_STS.STATE (191 / 2)) = 8 := by decide

def tExch : State := (tUp 8).setPort 95 ({ · with exch := [⟨0, 0, some 500⟩] })
theorem test_hyp_HeadTimeExchange :
    (104 : Nat) < 105 ∧ 1 < linkWidth 95 ∧ linkFirst 95 + 1 = 191 ∧ 7 < linkWidth 96 ∧ 0 < linkWidth 104 ∧ linkFirst 104 = 255
      ∧ linkLane 191 = true ∧ linkLane 255 = true ∧ (tUp 8).transmits (linkOf 191) = true
      ∧ (tUp 8).dataMode 95 = true ∧ ((tUp 8).setPort 95 ({ · with named := true })).exchanges 95 = true
      ∧ (tOwned.put (Reg.L_STS.LINK_STATE 191) 2).get (Reg.L_STS.LINK_STATE 191) = 2 ∧ (tOwned.put (Reg.L_STS.LINK_STATE 191) 9).get (Reg.L_STS.LINK_STATE 191) = 9
      ∧ ((tUp 8).port 95).reqAt = none ∧ (tExch.port 95).exch.find? (fun e => e.xid = 0) = some ⟨0, 0, some 500⟩
      ∧ 0 + 800000 ≤ tExch.now := by decide

def tIdent (rate : Nat) : Ident := ⟨1, 0, 0, 0, 1, rate, 0, 0, 0, 0, 4 :: List.replicate 15 0⟩
def tCmd (n : Nat) : HeadCmd := ⟨7, 2, [], some 0, n, 0⟩
theorem test_hyp_HeadStatusPackets :
    (tUp 8).dataMode 95 = true ∧ identFits (tIdent 1000) = true ∧ identFits (tIdent 999) = false ∧ (95 : Nat) < 96
      ∧ (tUp 8).get (Reg.HP_LINK_STS.STATE 95) = 8 ∧ (tUp 8).flag (Reg.HP_LINK_STS.HEAD_TX_TWI 95) = false
      ∧ (((tUp 8).setPort 95 ({ · with cmds := [tCmd 0] })).port 95).cmds.find? (fun c => c.id = 7 && c.op = 2) = some (tCmd 0)
      ∧ ([] : List SenseWord).length ≤ (tUp 8).rowCols (16 * 95 + 15) ∧ (tCmd 3).sentAt = some 0 ∧ 0 + 800000 ≤ (tUp 8).now
      ∧ readPacket [1, 2] [] = .malformed ∧ readPacket [1, 2] [.sop 1 1, .data 0, .eop 1] = .badCrc
      ∧ readPacket [1, 2] [.sop 3 1, .data 0, .eop 1] ≠ .malformed
      ∧ readPacket [1, 2] [.sop 3 1, .data 0, .eop 1] ≠ .badCrc := by decide

def tTap : State := ((tUp 8).put (Reg.HP_LINK_STS.UP 95) 1).setPort 95 ({ · with taps := [⟨15, 0, 0, 0, false, false, false⟩] })
theorem test_hyp_LineAndTapPackets :
    (tTap.foldTaps 95 15).nextTap 95 15 = some ⟨15, 0, 0, 0, false, false, false⟩ ∧ (tTap.foldTaps 95 15).portUp 95 = true
      ∧ (tTap.foldTaps 95 15).bankBusy 95 15 (1 - (((tTap.foldTaps 95 15).port 95).tbank.lookup 15).getD 0) = false := by decide

def tLane (word : Nat) : State := (tOwned.setWord (Reg.L_CTRL.AT 247) (BitVec.ofNat 32 word)).inbound 0
theorem test_hyp_LaneTraining :
    tOwned.mayWrite 0 (Reg.L_TXEQ.AT 247) ∧ tOwned.mayWrite 0 (Reg.L_CTRL.AT 247) ∧ laneGroup 247 = 3 ∧ laneGroup 191 = 0
      ∧ wbits (0x98 : Word) 0 4 + wbits (0x98 : Word) 4 5 = 17 ∧ wbits (0x13F : Word) 0 4 + wbits (0x13F : Word) 4 5 = 34
      ∧ (tOwned.put (Reg.L_EYE.BUSY 7) 1).flag (Reg.L_EYE.BUSY 7) = true ∧ tOwned.laneUp 7 = false
      ∧ ((tOwned.setLane 7 ({ · with reeq := some 0 })).lane 7).reeq.isSome = true := by decide
theorem test_hyp_LaneTraining_due :
    let s := { (tOwned.put (Reg.HP_LINK_STS.UP 3) 1).setLane 7 ({ · with eyeAt := some 5 }) with now := 4000000005 }
    s.laneUp 7 = true ∧ s.flag (Reg.L_EYE.BUSY 7) = false ∧ (s.lane 7).eyeAt = some 5 ∧ (s.lane 7).reeq = none := by decide

theorem test_hyp_LaneTests :
    tOwned.mayWrite 0 (Reg.L_BS.AT 247) ∧ tOwned.mayWrite 0 (Reg.L_PRBS.AT 247) ∧ tOwned.mayWrite 0 (Reg.L_BS.AT 191)
      ∧ linkLane 247 = true ∧ (tOwned.put (Reg.L_SELFTEST.PENDING 247) 1).flag (Reg.L_SELFTEST.PENDING 247) = true
      ∧ tOwned.testInterval 247 = true ∧ (linkLanes 247).any (fun n => ((tOwned.setLane 247 ({ · with test := 1 })).lane n).test = 1) = true
      ∧ (linkLanes 247).any (fun n => ((tOwned.setLane 247 ({ · with test := 2 })).lane n).test = 2) = true
      ∧ (tOwned.put (Reg.L_STS.LINK_STATE 247) 8).get (Reg.L_STS.LINK_STATE 247) = 8
      ∧ (tOwned.put (Reg.L_STS.LINK_STATE 247) 10).get (Reg.L_STS.LINK_STATE 247) = 10 := by decide

def tLost (ref : Nat) : State := tOwned.setPwr (fun p => { p with refLost := ref :: p.refLost })
theorem test_hyp_ReferenceClocks :
    tOwned.pwr.refLost.contains 5 = false ∧ (tLost 5).refLanes 5 ≠ [] ∧ (tLost 5).awake = true ∧ (tLost 5).pwr.refLost.contains 5 = true
      ∧ (tLost 4).pwr.refLost.contains 4 = true ∧ tOwned.domOn 8 = true ∧ (6 : Nat) < 7
      ∧ (tOwned.put Reg.PWR_DOM_STS.ON 1).refLanes 5 = [] := by decide

def tPeer (l st : Nat) : State := ((tOwned.put (Reg.L_STS.LINK_STATE (peerLane l)) st).put (Reg.L_CTRL.EN (peerLane l)) 1).setPeer l ({ · with annIn := some 0 })
theorem test_hyp_PeerLinkCommands :
    (tPeer 8 1).peerLink 8 = 1 ∧ (tPeer 8 7).peerEnabled 8 = true ∧ (tPeer 8 7).linkHeld (peerLanes 8) = false ∧ (tPeer 8 7).eyesBad (peerLanes 8) = false
      ∧ stepLimit 2 ≠ none ∧ (tPeer 8 2).peerLink 8 = 2 ∧ (tPeer 8 8).peerLink 8 = 8 ∧ ((tPeer 8 8).peer 8).annIn = some 0 ∧ 20000000 ≤ (tPeer 8 8).now
      ∧ (((tPeer 8 8).setPeer 8 ({ · with failedAt := some 0 })).peer 8).failedAt = some 0
      ∧ (tPeer 8 8).peerData 8 = true ∧ ((tPeer 8 8).peer 8).sentAt = none ∧ ((tPeer 8 7).peer 8).training = false
      ∧ lanePeer 240 = 0 ∧ lanePeer 255 ≠ 0 ∧ (tPeer 0 8).peerLink (lanePeer 240) = 8
      ∧ (((tPeer 8 8).put Reg.MER_CTRL.ROLE 1).setPeer 8 ({ · with annIn := some 0 })).get Reg.MER_CTRL.ROLE = 1 := by decide
def tHello : State := (tPeer 8 7).setLane (peerLane 8) ({ · with eye := some 3 })
theorem test_hyp_PeerLinkCommands_up :
    tHello.peerLink 8 = 7 ∧ tHello.eyesBad (peerLanes 8) = false ∧ tHello.eyesGood (peerLanes 8) = true ∧ (tHello.peer 8).annIn.isSome = true := by decide
def tTrainObs : BringupObs := ⟨true, [(false, 26)], [], [List.replicate 64 (1, (⟨true, 0, 0, 0, true, false⟩ : Train).payload)]⟩
theorem test_hyp_PeerLinkCommands_states :
    [1, 2, 3, 4, 5, 6].all (fun i => decide ((tPeer 8 i).peerLink 8 = i)) = true
      ∧ (obsIds true (peerLanes 8) tTrainObs).isSome = true ∧ obsReady true (peerLanes 8) tTrainObs = true := by decide

def tDue (role : Nat) : State := (tOwned.put Reg.DUE_STS.ROLE role).put (Reg.L_STS.LINK_STATE 240) 8
theorem test_hyp_DuetPairing :
    tOwned.mayWrite 0 Reg.DUE_CTRL.AT ∧ (tDue 1).duetUp = true ∧ (tDue 1).duetRole = 1
      ∧ ((tDue 1).setDue ({ · with bothAt := some 0 })).due.bothAt = some 0 ∧ 8000000 ≤ (tDue 1).now
      ∧ ((tDue 3).setDue ({ · with claimAt := some 0 })).due.claimAt = some 0
      ∧ (((tDue 1).put Reg.DUE_STS.PEER_ROLE 2).setFld ({ · with lost := true })).fld.lost = true
      ∧ (((tDue 1).put Reg.DUE_STS.PEER_ROLE 2).setFld ({ · with lost := true })).due.swap = none
      ∧ ((tDue 0).setDue ({ · with pairAt := some 0, peerPair := some 0 })).due.pairAt = some 0 := by decide

def tSil : State := (tDue 1).setDue ({ · with laneHb := some 0, hbAt := none, missing := [(1, 1, 0)], raising := true })
def tAlive : State := { tOwned with pwr := { tOwned.pwr with rails := [], resetLow := false, shut := false }, fld := { tOwned.fld with state := .active } }
theorem test_hyp_DuetChannels :
    tSil.due.hbAt ≠ some (tSil.now / 400000) ∧ (tDue 1).due.await = false ∧ (tDue 1).due.copyAt ≠ some ((tDue 1).now / 4000000)
      ∧ (tDue 2).duetUp = true ∧ (tDue 2).duetRole = 2 ∧ 4096 % 2 ^ (tDue 2).get Reg.TRK_CFG.RPT_LOG = 0
      ∧ (tDue 2).tb.lastVote ≠ some 4096 ∧ (tDue 2).due.peer = none
      ∧ ((tDue 2).setDue ({ · with lastDigest := some 0 })).due.lastDigest = some 0 ∧ tAlive.fieldOn = true ∧ tAlive.awake = true
      ∧ tSil.due.missing.any (fun m => m.2.2 + 400000 ≤ tSil.now) = true ∧ tSil.due.raising = true ∧ (3 : Nat) < 4
      ∧ tSil.due.laneLost = false ∧ tSil.pathSilent tSil.due.laneHb = true ∧ hbCodeOf 0 = 7 := by decide
theorem test_hyp_DuetChannels_quiet :
    ({ tSil with now := 10 ^ 12 }).mot.axes.all (fun x => x.encAt + ({ tSil with now := 10 ^ 12 } : State).get Reg.DUE_CFG.MOT_QUIET * 4000000 ≤ 10 ^ 12) = true := by decide

def tSwap (x : Swap) : State := ((tDue 1).put Reg.DUE_STS.PEER_ROLE 2).setDue ({ · with swap := some x })
theorem test_hyp_Allemandes :
    (tSwap ⟨0, none, 0, false, false⟩).duetRole = 1 ∧ (tSwap ⟨0, none, 0, false, false⟩).due.swapped = none
      ∧ (tSwap ⟨0, none, 0, false, false⟩).allemReady = true ∧ 1008000 * 4096 % 2 ^ (tSwap ⟨0, none, 0, false, false⟩).get Reg.TRK_CFG.RPT_LOG = 0
      ∧ (tSwap ⟨0, none, 0, false, false⟩).swapPlace (1008000 * 4096) = true
      ∧ (tSwap ⟨0, none, 0, false, false⟩).now + 8000000 ≤ 1008000 * 4096
      ∧ (tSwap ⟨0, some 9, 0, true, false⟩).swapPoint = some 9 ∧ 9 ≤ (tSwap ⟨0, some 9, 0, true, false⟩).now
      ∧ ({ tSwap ⟨0, none, 0, false, false⟩ with now := 2400000000000 }).due.swap.isSome = true
      ∧ ((tDue 1).setDue ({ · with swapped := some (0, true) })).due.swapped = some (0, true) := by decide

def tCam (st : Nat) : State := (tOwned.put (Reg.CAM_P_STS.STATE 7) st).inbound 0
theorem test_hyp_CameraLinkCommands :
    tOwned.mayWrite 0 (Reg.CAM_P_CTRL.AT 7) ∧ (tCam 0).lockedAt (Reg.CAM_P_CTRL.AT 7) = false ∧ (tCam 0).flag (Reg.CAM_P_CTRL.EN 7) = false
      ∧ wbit (0x11 : Word) 0 = true ∧ wbits (0x11 : Word) 4 3 ≠ 0 ∧ wbits (0x11 : Word) 2 2 ≠ 3
      ∧ (tOwned.put (Reg.CAM_P_CTRL.EN 7) 1).flag (Reg.CAM_P_CTRL.EN 7) = true ∧ wbit (0x10 : Word) 0 = false
      ∧ (tCam 3).camState 7 = 3 ∧ (tCam 1).camState 7 = 1 ∧ (tCam 2).camState 7 = 2
      ∧ tOwned.mayWrite 0 (Reg.CAM_P_CC_CTRL.AT 7) ∧ wbit (0x4000 : Word) 14 = true ∧ (tCam 2).flag (Reg.CAM_P_CC_CTRL.BUSY 7) = false
      ∧ (tOwned.put (Reg.CAM_P_CC_CTRL.BUSY 7) 1).flag (Reg.CAM_P_CC_CTRL.BUSY 7) = true ∧ (tOwned.cam 7).ccSlot = none
      ∧ (tOwned.cam 7).ccAt + 800000000 ≤ tOwned.now ∧ (tOwned.put (Reg.CAM_P_EVT.COUNT 7) 4).get (Reg.CAM_P_EVT.COUNT 7) = 4
      ∧ (tCam 2).get (Reg.CAM_P_EVT.COUNT 7) = 0 := by decide
theorem test_hyp_CameraLinkCommands_budget :
    let w := ((((tCam 0).put (Reg.CAM_P_TRIG_MIN.TRIG_MIN 7) 400000).put (Reg.CAM_P_FMT.PX 7) 16).writeFields 0 (Reg.CAM_P_CTRL.AT 7) 0x11).discover 7
    (w.flag (Reg.CAM_P_CTRL.EN 7) && w.overBudget 7) = false := by decide +kernel
theorem test_hyp_CameraLinkCommands_over :
    let w := ((tCam 0).writeFields 0 (Reg.CAM_P_CTRL.AT 7) 0x11).discover 7
    (w.flag (Reg.CAM_P_CTRL.EN 7) && w.overBudget 7) = true := by decide +kernel

def tTrig (sent : Bool) : State := (tCam 2).setCam 7 ({ · with trigs := [⟨0, 0, 5, 0, sent, false⟩] })
def tSetX : CamSet := ⟨tB (List.replicate 9 0 ++ [1]), ⟨0, 0⟩, true, none, 0, 0, none, false⟩
theorem test_hyp_CameraLineCommands :
    ((tTrig false).cam 7).trigs.find? (fun t => !t.sent) = some ⟨0, 0, 5, 0, false, false⟩
      ∧ (((tTrig false)).setsTake 7 ⟨0, 0⟩).skipsTrigger 7 ⟨0, 0, 5, 0, false, false⟩ = true
      ∧ ((((tTrig false).put (Reg.CAM_P_CTRL.TRIG_EN 7) 1)).setsTake 7 ⟨0, 0⟩).skipsTrigger 7 ⟨0, 0, 5000, 0, false, false⟩ = false
      ∧ ((tTrig true).cam 7).trigs.find? (fun t => t.sent) = some ⟨0, 0, 5, 0, true, false⟩
      ∧ 5 + (tTrig true).get (Reg.CAM_P_LAT.MAX 7) * 1000 < (tTrig true).now
      ∧ ((tTrig true).count (Reg.CAM_P_CNT.CNT 7 5) 0).inWindow 7 5 ⟨0, 0, 5, 0, true, false⟩ = true
      ∧ ((tTrig true).put (Reg.CAM_P_FMT.PX 7) 1).takesStream 7 ⟨⟨false, false, 0, 1, 8, 0⟩, [0], 0, false⟩ = true
      ∧ (tTrig true).takesStream 7 ⟨⟨false, true, 0, 1, 8, 0⟩, [0], 0, false⟩ = false
      ∧ setWrites tSetX.bytes ≠ 0
      ∧ ((tCam 2).setCam 7 ({ · with sets := [(3, tSetX)], next := some (0, 0) })).writesWait 7 3 tSetX = true
      ∧ (tCam 2).get Reg.ERR_STS.SHED = 0 := by decide

/-- A capture descriptor of port 0: its operation, lines and buffer length, for job 7. -/
def tCap (op lines len : Nat) : Desc := ⟨0, tB ([5] ++ List.replicate 15 0 ++ [op, 0, 0, 0, 0, 0, 0, 0, lines, 0, 0, 0, 1, 0, 0, 0]
  ++ List.replicate 16 0 ++ [len, 0, 0, 0, 7, 0] ++ List.replicate 10 0), false⟩
def tCapRing (d : Desc) (en : Nat) : State := { (tRing 2 6 d).put (Reg.CAM_P_CTRL.EN 0) en with job := tPrint.job }
theorem test_hyp_CaptureDescriptors :
    [tCap 1 2 32, tCap 2 1 64, tCap 3 0 0, tCap 4 0 0].all (fun d => (tCapRing d 1).ringType 0 = 2 && (tCapRing d 1).headDesc 0 = some d) = true
      ∧ [tCap 1 2 32, tCap 2 1 64, tCap 3 0 0, tCap 4 0 0].map (·.capOp) = [1, 2, 3, 4]
      ∧ (tCapRing (tCap 1 2 32) 1).capFits (tCap 1 2 32) = true ∧ (tCapRing (tCap 1 2 32) 0).flag (Reg.CAM_P_CTRL.EN 0) = false
      ∧ (tCapRing (tCap 1 2 32) 1).flag (Reg.CAM_P_CTRL.EN (tCap 1 2 32).capPort) = true
      ∧ (tCapRing (tCap 1 2 32) 1).capChainLine (tCap 1 2 32) = some (1, 0)
      ∧ (tCap 1 2 32).capLines * (tCap 1 2 32).capStride (((tCapRing (tCap 1 2 32) 1).markStarted 0 0).camComps 0) = 32
      ∧ (((tCapRing (tCap 1 2 32) 1).markStarted 0 0).cam 0).lastGot = none
      ∧ (⟨1, 0⟩ : CamAt).le ⟨1, 4⟩ = true ∧ (tCap 2 1 64).capLen = 64 * (tCap 2 1 64).capLines := by decide
theorem test_hyp_CaptureDescriptors_record :
    let s := (tCapRing (tCap 2 1 64) 1).setIns (fun i => { i with recs := [⟨[], 0⟩], stats := [(0, 0, 0)] })
    s.ins.recs.head? = some ⟨[], 0⟩ ∧ s.ins.stats.head? = some (0, 0, 0) ∧ (s.ring 0).flight.find? (·.index = 0) = some (tCap 2 1 64)
      ∧ s.get Reg.ERR_STS.SHED = 0 := by decide

def tCal : State := (((tOwned.put Reg.CAL_CTRL.EN 1).put Reg.CAL_CTRL.LANE_EN 1).put Reg.DEV_MODE.MODE 6).put Reg.CAL_LANE.PERIOD 0
def tNoz : CalNoz := { gn := 0, pre := [], since := 0, tap := 0 }
def tBatch (set : Nat) (cells : List CalCell) : CalBatch := ⟨0, 0, 0, 1, set, 0, 0, [tNoz], cells, 0, none, 0, 0, 0, 0⟩
theorem test_hyp_CalibrationWork :
    { tCal.put Reg.CAL_TRIG.AGE 1 with now := 240000000001 }.get Reg.CAL_TRIG.AGE = 1
      ∧ { tCal.put Reg.CAL_TRIG.AGE 1 with now := 240000000001 }.get (Reg.CAL_PORT_TS.VAL 95) = 0
      ∧ tCal.flag (Reg.CAL_PORT_STS.DUE 95) = false ∧ tCal.flag (Reg.CAL_PORT_STS.RUNNING 95) = false ∧ tCal.calRuns = true
      ∧ tCal.get Reg.ERR_STS.SHED = 0 ∧ (tCal.put Reg.ERR_STS.SHED 2).get Reg.ERR_STS.SHED = 2 ∧ (tCal.put Reg.ERR_STS.SHED 2).calRuns = true
      ∧ (tCal.setCal ({ · with runs := [⟨0, 0, [], 0, [], false⟩] })).cal.runs.find? (·.port = 0) = some ⟨0, 0, [], 0, [], false⟩
      ∧ tCal.get Reg.DUE_STS.ROLE ≠ 2 ∧ (tBatch 0 []).noz.find? (·.gn = 0) = some tNoz
      ∧ (tBatch 0 [⟨0, 0, some 5, [0], [0], [], false⟩]).cells.find? (fun x => x.no = 0 && x.slot = some 5 && x.left.contains 0)
          = some ⟨0, 0, some 5, [0], [0], [], false⟩
      ∧ (tCal.setCal ({ · with batches := [tBatch 0 []] })).cal.batches.find? (·.id = 0) = some (tBatch 0 [])
      ∧ (tCal.setCal ({ · with batches := [tBatch 1 []], stitch := some ⟨0, [], 0, [], none⟩ })).cal.batches.find? (·.id = 0) = some (tBatch 1 [])
      ∧ tCal.flag Reg.CAL_CTRL.LANE_EN = true ∧ (tCal.put Reg.CAL_LANE.PERIOD 1).get Reg.CAL_LANE.PERIOD ≠ 0
      ∧ tCal.cal.sweep = [] ∧ tCal.cal.sweeping = [] ∧ tCal.cal.sweepAt = 0 ∧ tCal.cal.stitch = none
      ∧ tCal.cellPassed (tBatch 0 []) 5 = true := by decide

/-- A RUN of ports 0 to 3, a stitch of bar 2, and a gutter band of job 7 from its line 0 on. -/
def tRun (flags : Nat) : Desc := ⟨0, tB ([2] ++ List.replicate 15 0 ++ [flags, 0, 0, 4, 2] ++ List.replicate 43 0), false⟩
def tGut (lines : Nat) : Desc := ⟨0, tB ([1] ++ List.replicate 15 0 ++ [7, 0, 1, 0, 0, 0, 0, 0, 0, 0, 0, 0, 0, 0, 0, 0, lines, 1] ++ List.replicate 30 0), false⟩
def tCalRing (d : Desc) : State := { tRing 5 6 d with job := tPrint.job }
theorem test_hyp_CalibrationOrders :
    [tRun 0, tRun 1, tRun 2, tGut 0, tGut 255].all (fun d => (tCalRing d).ringType 0 = 5 && (tCalRing d).headDesc 0 = some d) = true
      ∧ (tRun 0).kind = 2 ∧ (tRun 0).runBad = false ∧ bit ((tRun 0).at_ 16 2) 0 = false
      ∧ (tRun 1).kind = 2 ∧ (tRun 1).runBad = false ∧ bit ((tRun 1).at_ 16 2) 0 = true ∧ (tRun 2).runBad = true
      ∧ (tGut 255).kind = 1 ∧ (tGut 255).gutterBad = false ∧ (tCalRing (tGut 255)).job.jobs.find? (·.id = (tGut 255).at_ 16 2) = some tJob
      ∧ tJob.z < farLine ∧ (tCalRing (tGut 255)).chain? tJob.chain = some tChain
      ∧ tOwned.mayWrite 0 Reg.CAL_STITCH_CTRL.AT ∧ wbits (0x404 : Word) 0 8 = 4 ∧ bit (0x404 : Word).toNat 10 = true
      ∧ (tOwned.inbound 0).lockedAt Reg.CAL_STITCH_CTRL.AT = false ∧ tOwned.mayWrite 0 Reg.CAL_CTRL.AT ∧ bit (0x10 : Word).toNat 4 = true := by decide
theorem test_hyp_CalibrationOrders_band :
    (tCalRing (tGut 255)).gutterFrom tChain ((tGut 255).at_ 18 2) (tJob.z + (tGut 255).at_ 24 8) ≤ tJob.z + (tGut 255).at_ 24 8 + (tGut 255).at_ 32 4 - 1 := by decide

def tFree : State := { State.reset.put Reg.PWR_DOM_STS.ON 0x1FFFFF with now := 1000000000 }
def tClaims (c : Nat) (lease : List (Nat × Nat)) : State := (tOwned.put Reg.DEV_OWN_STS.CLAIMANTS c).setHost ({ · with lease := lease })
theorem test_hyp_Ownership :
    tFree.reach 0 = true ∧ ((tFree.inbound 0).renew 0).owner = none ∧ ((tOwned.inbound 0).renew 0).owner = some 0
      ∧ ((tOwned.inbound 2).renew 2).owner = some 0 ∧ ((tOwned.inbound 2).renew 2).outclaims 2 0 = false
      ∧ tOwned.isOwner 0 = true ∧ tOwned.mayWrite 0 Reg.DEV_OWN_CTRL.AT
      ∧ ((tClaims 8 [(3, 2000000000)]).inbound 0).claimants.contains 3 = true ∧ ((tClaims 8 [(3, 2000000000)]).inbound 0).leaseLive 3 = true
      ∧ (((tClaims 0 []).inbound 0).claimants.contains 3 && ((tClaims 0 []).inbound 0).leaseLive 3) = false
      ∧ tOwned.awake = true ∧ ((tClaims 0 []).host.lease.lookup 0).getD 0 < (tClaims 0 []).now
      ∧ ¬ ((tClaims 0 [(0, 2000000000)]).host.lease.lookup 0).getD 0 < (tClaims 0 []).now := by decide

def tMbx (cmd : Nat) : State := ((tOwned.setWord (Reg.MBX_REQ.AT 0) (BitVec.ofNat 32 cmd)).put Reg.MBX_STS.BUSY 1).setHost ({ · with mbxAt := some 0 })
theorem test_hyp_PeerAccessAndMailbox :
    tOwned.mayWrite 0 Reg.DEV_PEER_CTRL.AT ∧ (tOwned.inbound 0).flag Reg.DEV_PEER_CTRL.BUSY = false ∧ wbit (1 : Word) 0 = true
      ∧ (tOwned.setHost ({ · with peerAt := some 0 })).host.peerAt = some 0 ∧ (tOwned.setHost ({ · with peerAt := some 0 })).now ≥ 800000
      ∧ tOwned.flag Reg.DEV_PEER_CTRL.WRITE = false ∧ (tOwned.put Reg.DEV_PEER_CTRL.WRITE 1).flag Reg.DEV_PEER_CTRL.WRITE = true
      ∧ (tDue 1).awake = true ∧ (tDue 1).duetUp = true ∧ tOwned.mayWrite 0 Reg.MBX_CTRL.AT ∧ (tOwned.inbound 0).flag Reg.MBX_STS.BUSY = false
      ∧ (tMbx 3).flag Reg.MBX_STS.BUSY = true ∧ ((tMbx 3).inbound 0).flag Reg.MBX_STS.BUSY = true ∧ (tMbx 3).pwr.svcHalted = false
      ∧ bits ((tMbx 3).word (Reg.MBX_REQ.AT 0)).toNat 0 16 = 3 ∧ bits ((tMbx 4).word (Reg.MBX_REQ.AT 0)).toNat 0 16 = 4
      ∧ (tMbx 3).host.mbxAt = some 0 ∧ 40000000 ≤ (tMbx 3).now := by decide

theorem test_hyp_PortsAndCounterPage :
    tOwned.host.perst.getD 0 false = false ∧ (tOwned.setHost (fun h => { h with perst := h.perst.set 0 true })).awake = true
      ∧ (tOwned.setHost (fun h => { h with perst := h.perst.set 1 true })).host.perst.getD 1 false = true ∧ tOwned.reach 1 = true
      ∧ (tOwned.inbound 1).flag Reg.DEV_CTRL.PERF_USER_EN = false ∧ 65532 % 4 = 0 ∧ 65532 % 8 ≠ 0 ∧ 4088 % 8 = 0
      ∧ ((tOwned.put Reg.DEV_CTRL.PERF_USER_EN 1).inbound 1).flag Reg.DEV_CTRL.PERF_USER_EN = true := by decide

theorem test_hyp_RingCommands :
    tOwned.mayWrite 0 (Reg.RNG_R_CFG.AT 255) ∧ (tOwned.inbound 0).lockedAt (Reg.RNG_R_CFG.AT 255) = false
      ∧ wbits (0x4000126 : Word) 6 4 = 4 ∧ wbit (0x4000126 : Word) 26 = true ∧ (tOwned.inbound 0).ringState 255 = 0
      ∧ (tOwned.inbound 0).flag (Reg.RNG_R_CFG.EN 255) = false
      ∧ (((tOwned.inbound 0).writeFields 0 (Reg.RNG_R_CFG.AT 255) 0x4000106).put (Reg.RNG_R_CFG.EN 255) 0).enableFault 255 = 0
      ∧ (((tOwned.inbound 0).writeFields 0 (Reg.RNG_R_CFG.AT 255) 0x4000100).put (Reg.RNG_R_CFG.EN 255) 0).enableFault 255 = 6
      ∧ tOwned.mayWrite 0 Reg.DEV_ABORT.AT ∧ tOwned.reach 0 = true := by decide
/-- Ring 0 is a submission ring whose completion ring is 1, in state `st`, its producer at `prod`. -/
def tSub (st prod : Nat) : State :=
  ((((((tOwned.put (Reg.RNG_R_CFG.TYPE 0) 1).put (Reg.RNG_R_CFG.LOG2 0) 4).put (Reg.RNG_R_CFG.CQ 0) 1).put (Reg.RNG_R_STS.STATE 0) st).put
    (Reg.RNG_R_PROD.VAL 0) prod).put (Reg.RNG_R_CFG.TYPE 1) 6).put (Reg.RNG_R_STS.STATE 1) 1 |>.put (Reg.RNG_R_CFG.LOG2 1) 4
theorem test_hyp_RingCommands_doorbell :
    ((tSub 1 0).inbound 0).doorbellOk 0 0 submissionType = true ∧ ((tSub 1 0).inbound 0).ringState 0 = 1
      ∧ (5 + 2 ^ 32 - ((tSub 1 0).inbound 0).ringCons 0) % 2 ^ 32 ≤ ((tSub 1 0).inbound 0).ringSize 0
      ∧ ((tSub 0 0).inbound 0).doorbellOk 0 0 submissionType = false
      ∧ ((tSub 1 0).inbound 0).doorbellOk 0 1 (fun t => t = 6 || t = 7) = true ∧ (tSub 1 3).fetches 0 = true
      ∧ ((tSub 1 0).setRing 1 { held := [⟨[], false⟩] }).ringSpace 1 = true
      ∧ (((tSub 1 0).put (Reg.RNG_R_CFG.IRQ_EN 1) 1).setRing 1 { firstRec := some 0 }).flag (Reg.RNG_R_CFG.IRQ_EN 1) = true
      ∧ 4000 * (tSub 1 0).get (Reg.RNG_R_MOD.TIME 1) ≤ (tSub 1 0).now := by decide
theorem test_hyp_RingCommands_abort :
    (tSub 2 3).ringState 0 = 2 ∧ ((tSub 2 3).ring ((tSub 2 3).get (Reg.RNG_R_CFG.CQ 0))).held = []
      ∧ ((tSub 2 3).openDescs 0).length = 3 ∧ (tSub 2 3).ringSize 1 = 16 ∧ (tSub 2 3).host.devAbort = false
      ∧ ((tSub 2 3).each ((tSub 2 3).openDescs 0) (fun i t => t.completeAborted 0 i)).host.devAbort = false := by decide

/-- A compression descriptor: OP, LEVEL and the lengths of its input and output. -/
def tZip (op level src dst : Nat) : Desc := ⟨0, tB ([1] ++ List.replicate 15 0 ++ [op, 0, level, 0, src] ++ List.replicate 11 0 ++ [dst] ++ List.replicate 31 0), false⟩
def tZipRing (d : Desc) (stream : Nat) : State := (tRing 3 6 d).put (Reg.ZIP_RING.STREAM 0) stream
def tZJob (lost : Bool) : ZJob := ⟨7, 0, 0, none, 1, false, 1, false, some [], 0, 4, 0, lost⟩
theorem test_hyp_CompressionCommands :
    [tZip 1 6 4 8, tZip 2 0 4 8, tZip 3 0 4 8].all (fun d => (tZipRing d 0).ringType 0 = 3 && (tZipRing d 0).headDesc 0 = some d) = true
      ∧ (tZipRing (tZip 1 6 4 8) 0).domOn 11 = true ∧ (tZipRing (tZip 1 6 4 8) 0).isStream 0 = false
      ∧ (tZipRing (tZip 1 6 4 8) 1).isStream 0 = true ∧ (tZipRing (tZip 1 6 4 8) 1).zip.runs.any (·.ring = 0) = false ∧ tOwned.frozen = false
      ∧ zipFormatBad false (tZip 1 6 4 8) = false ∧ zipFormatBad false (tZip 2 0 4 8) = false ∧ zipFormatBad false (tZip 3 0 4 8) = true
      ∧ zipFormatBad true (tZip 1 6 4 8) = false ∧ (tZipRing (tZip 1 6 4 8) 0).idleRingChannel ≠ none
      ∧ (tZip 1 6 4 8).at_ 16 1 = 1 ∧ (tZip 2 0 4 8).at_ 16 1 = 2
      ∧ (tOwned.setZip (fun z => { z with runs := [tZJob true] })).zip.runs.find? (·.channel = 7) = some (tZJob true)
      ∧ (tOwned.setZip (fun z => { z with runs := [tZJob false] })).zip.runs.find? (·.channel = 7) = some (tZJob false)
      ∧ tOwned.mayWrite 0 (Reg.ZIP_RING.AT 255) ∧ (tOwned.inbound 0).ringState 255 = 0 ∧ ((tSub 1 0).inbound 0).ringState 0 ≠ 0
      ∧ ((tOwned.inbound 0).writeFields 0 (Reg.ZIP_RING.AT 255) 5).isStream 255 = false := by decide

def tTrain (st : Nat) : State := (tOwned.put Reg.DEV_MODE.MODE 2).put (Reg.MC_STS.STATE 15) st
theorem test_hyp_DramBringupCommands :
    (tTrain 1).mode = 2 ∧ popFits 0xF0000 = true ∧ popFits 0x70000 = false ∧ ((tTrain 0).put Reg.MEM_POP.POP 0xF000).get Reg.MEM_POP.POP ≠ 0
      ∧ (tTrain 0).get Reg.PWR_BOOT_STS.RESULT ≠ 7 ∧ (tTrain 1).get (Reg.MC_STS.STATE 15) = 1
      ∧ ((tTrain 1).trainEnds ⟨15, 3, 0, []⟩).showMemory.subChannels = [] ∧ ((tTrain 1).trainEnds ⟨15, 1, 0, []⟩).showMemory.subChannels ≠ []
      ∧ (((tTrain 1).put (Reg.MC_STS.STATE 0) 2).trainEnds ⟨15, 3, 0, []⟩).showMemory.subChannels ≠ []
      ∧ ((tTrain 2).put Reg.DEV_MODE.MODE 9).get (Reg.MC_STS.STATE 15) = 2 ∧ ((tTrain 2).put Reg.DEV_MODE.MODE 9).mode = 9
      ∧ (tTrain 2).get Reg.JOB_STS.CHAINS = 0 ∧ (tTrain 2).frozen = false ∧ tOwned.mayWrite 0 (Reg.MC_CTRL.AT 15) := by decide
theorem test_hyp_DramBringupCommands_helpers :
    let u := fun (st : Nat) (d : Word) => (tTrain st).setWord (Reg.MC_PG_CTRL.AT 15)
      (Reg.merge (Reg.MC_PG_CTRL.AT 15) ((tTrain st).lockedAt (Reg.MC_PG_CTRL.AT 15)) ((tTrain st).word (Reg.MC_PG_CTRL.AT 15)) d)
    let v := fun (st : Nat) (d : Word) => (tTrain st).setWord (Reg.MC_MRA.AT 15) (Reg.merge (Reg.MC_MRA.AT 15) false ((tTrain st).word (Reg.MC_MRA.AT 15)) d)
    (u 1 0x11).training 15 = true ∧ (u 1 0x11).get (Reg.MC_PG_CTRL.OP 15) ≠ 0 ∧ (u 2 0x11).training 15 = false
      ∧ (v 1 0x1800).training 15 = true ∧ (v 2 0x1800).training 15 = false := by decide

def tMem : State := (tOwned.put Reg.MEM_STS.EN_MASK 0x8000).put (Reg.MC_STS.STATE 15) 2
theorem test_hyp_DramServiceCommands :
    tMem.subChannels ≠ [] ∧ tMem.flag Reg.MEM_STS.REF2X = false ∧ tMem.dram.lastRef ≠ some (tMem.now / 15600 * 15600) ∧ tMem.dram.wantDbl = none
      ∧ 5 < tMem.now / 15600 * 15600 ∧ tMem.frozen = false ∧ tMem.subChannels.contains 15 = true
      ∧ (tMem.put Reg.MEM_CTRL.SCRUB_EN 1).flag Reg.MEM_CTRL.SCRUB_EN = true
      ∧ ((tMem.put Reg.MEM_CTRL.TRACK_EN 1).setDram ({ · with refs := 64 })).flag Reg.MEM_CTRL.TRACK_EN = true
      ∧ tMem.get (Reg.MC_STS.STATE 15) = 2 ∧ (tMem.put Reg.MEM_PD.TIMER 1).get Reg.MEM_PD.TIMER ≠ 0
      ∧ 0 ≤ tMem.get Reg.MEM_POP.RANKS ∧ tMem.dram.down.contains (15, 0) = false
      ∧ (tMem.dram.lastCmd.lookup 30).getD 0 + 4 ≤ tMem.now ∧ (tMem.subQ 15).reads = [] ∧ (tMem.subQ 15).writes.any (·.at_.rank = 0) = false
      ∧ (tMem.subChannel 0).isSome = true ∧ (tMem.put Reg.MEM_STS.REF2X 1).flag Reg.MEM_STS.REF2X = true := by decide

def tFld (st : FieldState) : State := (tOwned.setFld ({ · with state := st, lastM := some 0, lastF := some 0, lock := true })).put Reg.FLD_STS.STATE 2
def tCommit : Commit := ⟨Reg.TRK_CFG.AT, 3, 0, 1, 0⟩
theorem test_hyp_FieldLinkCommands :
    (tFld .held).fld.beat ≠ some ((tFld .held).now / 16384) ∧ (tFld .held).awake = true ∧ (tFld .held).fld.state = .held
      ∧ (tFld .held).get Reg.FLD_STS.STATE = 2 ∧ ((tFld .held).put Reg.FLD_STS.STATE 1).get Reg.FLD_STS.STATE ≠ 2
      ∧ (tFld .held).fld.lastF = some 0 ∧ 1920000 ≤ (tFld .held).now ∧ (tFld .held).fld.lost = false ∧ (tFld .held).fld.lock = true
      ∧ (tFld .active).fld.state = .active ∧ tOwned.mayWrite 0 Reg.FLD_CTRL.AT ∧ ((tFld .held).inbound 0).fld.state = .held
      ∧ ((tFld .held).inbound 0).get Reg.FLD_STS.STATE = 2 ∧ fieldHeld Reg.TRK_CFG.AT = true
      ∧ ((tFld .held).setFld ({ · with commits := [tCommit] })).fieldResult tCommit = 0
      ∧ ((tFld .off).setFld ({ · with commits := [tCommit] })).fieldResult tCommit = 3
      ∧ tCommit.sent + 80000 ≤ (tFld .held).now ∧ (tFld .held).fld.spdSent ≠ some ((tFld .held).get Reg.PWR_CEIL.CEIL) := by decide

theorem test_hyp_FieldPanelCommands :
    tOwned.mayWrite 0 Reg.FLD_OUT_VAL.AT ∧ tOwned.mayWrite 0 Reg.FLD_OUT_CLR.AT
      ∧ (tFld .held).fieldOn = true ∧ (tFld .off).fld.state = .off
      ∧ (tFld .active).fld.state ≠ .off ∧ (tFld .active).fld.state ≠ .pwrFail
      ∧ ((tFld .active).fld.outRec = (tFld .active).get Reg.FLD_OUT_VAL.VALUE)
      ∧ (((((tFld .active).inputReads 11 1).actInputs).fld.level, (((tFld .active).inputReads 11 1).actInputs).fld.band)
          ≠ ((tFld .active).fld.level, (tFld .active).fld.band))
      ∧ ((((tFld .active).inputReads 11 0).actInputs).fld.level = (tFld .active).fld.level)
      ∧ (tFld .active).fld.test = none ∧ ((tFld .active).setFld ({ · with test := some (1, 2, 3) })).fld.test = some (1, 2, 3)
      ∧ (tFld .active).awake = true ∧ (tFld .active).fieldOn = true ∧ (tFld .active).takesFrame 0 0 = false ∧ (tFld .active).takesFrame 3 0 = false
      ∧ ((tFld .active).setFld ({ · with state := .pwrFail, uvAt := some 0 })).fld.uvAt.getD 0 + 40000000 ≤ (tFld .active).now := by decide
theorem test_hyp_FieldPanelCommands_out :
    ((tFld .active).setFld ({ · with outOn := 0x80, outVal := 0x80, outAt := [] })).outChecked 7 = true := by decide

def tAxis (st : AxisState) : State := ((tFld .active).put Reg.DEV_MODE.MODE 6).setAxis 3 ({ · with st := st, posValid := true })
theorem test_hyp_AxisCommands :
    tOwned.mayWrite 0 (Reg.AX_CMD.AT 3) ∧ (tAxis .standing).mayWrite 0 (Reg.AX_CMD.AT 3) ∧ (tAxis .standing).flag Reg.DUE_STS.MOT_HELD = false
      ∧ ((tAxis .standing).inbound 0).flag Reg.DUE_STS.MOT_HELD = false
      ∧ [1, 2, 3, 4, 5, 6, 7].all (fun a => (((tAxis .standing).inbound 0).cmdFrame 0x19 (3 + 4 * a)).axisBar 3 = none) = true
      ∧ (((tOwned).inbound 0).cmdFrame 0x19 (3 + 4 * 2)).axisBar 3 ≠ none
      ∧ (((tAxis .standing).put Reg.DUE_STS.MOT_HELD 1).inbound 0).flag Reg.DUE_STS.MOT_HELD = true
      ∧ ((tAxis .standing).put Reg.DUE_STS.MOT_HELD 1).mayWrite 0 (Reg.AX_CMD.AT 3)
      ∧ (((tAxis .standing).put Reg.DUE_STS.MOT_HELD 1).inbound 0).mot.held.length < 8
      ∧ (tAxis .standing).mayWrite 0 (Reg.AX_TARGET.AT 3) ∧ (((tAxis .standing).cmdFrame 0x1B 3).axis 3).st = .standing
      ∧ (((tAxis .plan).cmdFrame 0x1B 3).axis 3).st = .plan := by decide

def tMotDesc (op ax : Nat) : Desc := ⟨0, tB ([1] ++ List.replicate 15 0 ++ [op, ax] ++ List.replicate 46 0), false⟩
theorem test_hyp_AxisEvents :
    (tAxis .plan).fld.state ≠ .off ∧ (tAxis .plan).fld.state ≠ .pwrFail
      ∧ (((tAxis .off).setAxis 3 ({ · with brkPend := some true })).axis 3).brkPend = some true
      ∧ (((tAxis .off).setAxis 3 ({ · with brkPend := some false })).axis 3).brkPend = some false
      ∧ ((tAxis .standing).axis 3).brkAt + (tAxis .standing).brkDelay 3 ≤ (tAxis .standing).now
      ∧ ((tAxis .standing).axis 3).restAt + 4000000 * (tAxis .standing).fget (Reg.AX_CUR2.HOLD_DELAY 3) ≤ (tAxis .standing).now
      ∧ 20 ≤ (((tAxis .plan).setAxis 3 (fun x => { x with coils := ({ x.coils.1 with weak := 20 }, x.coils.2) })).coil 3 0).weak
      ∧ ((tAxis .standing).axis 3).st = .standing ∧ ((tAxis .plan).axis 3).st = .plan ∧ ((tAxis .plan).axis 3).st.moving = true
      ∧ (tAxis .plan).fget (Reg.AX_ADAPT.STALL_T 3) ≤ 1000
      ∧ [tMotDesc 0 0, tMotDesc 8 0, tMotDesc 3 3].all (fun d => (tRing 4 6 d).ringType 0 = 4 && (tRing 4 6 d).headDesc 0 = some d
          && !(tRing 4 6 d).flag Reg.DUE_STS.MOT_HELD) = true
      ∧ (tMotDesc 8 0).at_ 16 1 = 8 ∧ (tMotDesc 0 0).at_ 16 1 = 0 ∧ (tMotDesc 3 3).at_ 16 1 = 3 ∧ (tMotDesc 3 3).at_ 17 1 = 3
      ∧ (tMotDesc 3 3).at_ 18 2 = 0 ∧ (tMotDesc 3 3).at_ 20 4 = 0 ∧ (tMotDesc 3 3).at_ 24 32 = 0 := by decide

def tMode (m : Nat) : State := (tOwned.put Reg.DEV_MODE.MODE m)
def tMnt (op a : Nat) : Desc := ⟨0, tB ([2] ++ List.replicate 15 0 ++ [op, a] ++ List.replicate 46 0), false⟩
theorem test_hyp_ModeCommands :
    (tMode 4).mayWrite 0 Reg.DEV_MODE.AT ∧ (modeAccepts ((tMode 4).inbound 0).mode).contains 11 = false
      ∧ (modeAccepts ((tMode 4).inbound 0).mode).contains 3 = true
      ∧ (((tMode 4).inbound 0).cancelMode Code.ST_MODE_CANCELLED).modeReady 3 = true
      ∧ (modeAccepts ((tMode 3).inbound 0).mode).contains 4 = true
      := by decide
theorem test_hyp_ModeCommands_desc :
    [tMnt 0x40 3, tMnt 0x40 12, tMnt 0x41 9].all (fun d => (tRing 4 6 d).ringType 0 = 4 && (tRing 4 6 d).headDesc 0 = some d) = true
      ∧ (tMnt 0x40 3).at_ 16 1 = 0x40 ∧ (tMnt 0x40 3).zeroAt 18 38 = true ∧ (tMnt 0x40 3).at_ 17 1 = 3 ∧ (tMnt 0x41 9).at_ 16 1 = 0x41
      := by decide
theorem test_hyp_ModeCommands_state :
    (tMode 6).mode = 6 ∧ (tMode 7).mode = 7 ∧ (tMode 7).derated = none ∧ ((tMode 6).put Reg.PWR_LEVEL.IN_FORCE 3).derated ≠ none
      := by decide
theorem test_hyp_ModeCommands_domain :
    ((tMode 4).put Reg.PWR_DOM_STS.ON 7).mayWrite 0 Reg.PWR_DOM_CTRL.AT ∧ (((tMode 4).put Reg.PWR_DOM_STS.ON 7).inbound 0).domRefusal 7 = 0 ∧ ((tMode 6).inbound 0).domRefusal 0 = 1
      := by decide
theorem test_hyp_ModeCommands_spit :
    ((tRing 4 6 (tMnt 0x41 9)).markStarted 0 0).spitBad (tMnt 0x41 9) [] = true
      ∧ (((tRing 4 6 (tMnt 0x41 9)).markStarted 0 0).complete 0 0 Code.ST_DESC_FORMAT).pwr.spits = [] := by decide
theorem test_hyp_ModeCommands_wait :
    let s := (tMode 6).setWord Reg.JOB_STS.AT 0xFFFFFFFF
    ((modeAccepts (s.inbound 0).mode).filter (fun t => !((s.inbound 0).cancelMode Code.ST_MODE_CANCELLED).modeReady t)) ≠ [] := by decide

def tPwr (l p : Nat) : State := (tMode 6).put Reg.PWR_LEVEL.POWER p |>.put Reg.PWR_LEVEL.IN_FORCE l
def tEst (l p : Nat) (es : List Nat) : State := (tPwr l p).setPwr ({ · with ests := es })
theorem test_hyp_PowerCommands :
    (tMode 6).mayWrite 0 Reg.PWR_LEVEL.AT ∧ (((tMode 6).setPwr ({ · with surgeBar := true })).inbound 0).pwr.surgeBar = true
      ∧ (tPwr 2 3).awake = true ∧ (tPwr 2 3).mode ≠ 11
      ∧ levelLimit 2 * ((tEst 2 3 [135001]).estSum 100).2 < ((tEst 2 3 [135001]).estSum 100).1
      ∧ ((tEst 2 3 [0]).estSum 10000).1 + 10000 * ((tEst 2 3 [0]).estSum 10000).2 ≤ levelLimit (3 - 1) * ((tEst 2 3 [0]).estSum 10000).2 := by decide
theorem test_hyp_PowerCommands_surge :
    480000000000 ≤ { (tMode 6).setPwr ({ · with surgeSince := some 0 }) with now := 480000000000 }.surgeTime
      ∧ (tMode 6).surgeTime ≤ 240000000000 ∧ (tMode 6).pwr.surgeBar = false ∧ levelVolt 0 ≤ 790 + 10 ∧ (tMode 6).pwr.vrPend = none
      ∧ ((tMode 6).setPwr ({ · with vrPend := some (2, 0, 0) })).pwr.vrPend = some (2, 0, 0) := by decide

def tCool : State := (tMode 4).setPwr ({ · with firstThm := false })
theorem test_hyp_ThermalCommands :
    tCool.pwr.resetLow = false ∧ tCool.pwr.rails = [] ∧ tCool.pwr.shut = false ∧ tCool.awake = true ∧ tCool.sensorBroken 23 = false
      ∧ (tCool.setPwr ({ · with resetLow := true })).pwr.resetLow = true ∧ (tCool.setPwr ({ · with shut := true })).pwr.shut = true
      ∧ (tCool.setPwr ({ · with fallAt := some 0 })).pwr.fallAt = some 0 ∧ 400000000 ≤ tCool.now ∧ tCool.pwr.fallAt = none := by decide

def tBoot : State := ((tMode 2).put Reg.PWR_BOOT_STS.RESULT 0).setPwr ({ · with rails := [], resetLow := false, shut := false })
def tBooted : State := ((tBoot.put Reg.PWR_BOOT_STS.STEP 4).put Reg.MEM_STS.EN_MASK 15)
theorem test_hyp_ResetAndBoot :
    tBoot.pwr.resetLow = false ∧ tBoot.pwr.rails = [] ∧ tBoot.pwr.shut = false ∧ (4, 7) ∈ (tBoot.setPwr ({ · with rails := [(4, 7)] })).pwr.rails
      ∧ tBoot.seeking = true ∧ tBoot.bootSource = 0 ∧ imageFault none = some 2 ∧ tBooted.awake = true ∧ 4 ≤ tBooted.get Reg.PWR_BOOT_STS.STEP
      ∧ tBooted.get Reg.PWR_BOOT_STS.RESULT = 0 ∧ tBooted.subChannels ≠ [] ∧ tBooted.mode = 2
      ∧ tOwned.mayWrite 0 Reg.DEV_RESET.AT ∧ tOwned.mayWrite 0 Reg.PWR_BOOT_CTRL.AT := by decide

theorem test_hyp_FaultCommands :
    tOwned.mayWrite 0 Reg.PMC_CTRL.AT ∧ tOwned.mayWrite 0 Reg.ERR_CTRL.AT ∧ tOwned.awake = true ∧ tOwned.domOn 20 = true
      ∧ (tOwned.put Reg.ERR_CTRL.SCRUB_EN 1).flag Reg.ERR_CTRL.SCRUB_EN = true ∧ tOwned.get Reg.ERR_STS.SHED = 0
      ∧ (tOwned.put Reg.ERR_STS.SHED 3).get Reg.ERR_STS.SHED = 3
      ∧ (tOwned.setErr ({ · with tests := [⟨1, 2, [], false⟩] })).err.tests.find? (fun t => t.mem = 1 && t.region = 2) = some ⟨1, 2, [], false⟩
      ∧ 0 * 100 < tOwned.get Reg.ERR_SVC_CFG.SHED_LO * 32768
      ∧ tOwned.get Reg.ERR_SVC_CFG.SHED_LO * 32768 ≤ 24000 * 100 ∧ 24000 * 100 ≤ tOwned.get Reg.ERR_SVC_CFG.SHED_HI * 32768 := by decide

theorem test_hyp_UnassignedOffsets :
    Reg.find (canonAt 0 0x1FFFFFC) = none ∧ Reg.find (canonAt 0 0x3FFFC) = none ∧ tOwned.mayWrite 0 0x3FFFC ∧ tOwned.reach 1 = true := by decide

theorem test_hyp_DroppedRegisterWrite :
    tOwned.reach 1 = true ∧ (tOwned.inbound 1).addrOn Reg.TRK_CTRL.AT = true ∧ (tOwned.inbound 1).isOwner 1 = false
      ∧ ({ State.reset with now := 400000000 }.inbound 0).addrOn Reg.ZIP_CTRL.AT = false
      ∧ { State.reset with now := 400000000 }.reach 0 = true := by decide

theorem test_hyp_ReadByAnother :
    canonAt 1 Reg.PWR_SAFESTOP.AT = Reg.PWR_SAFESTOP.AT ∧ (Reg.find Reg.PWR_SAFESTOP.AT).map (fun e => (e.1.pair, e.2)) = some (false, 0)
      ∧ (tOwned.inbound 1).addrOn Reg.PWR_SAFESTOP.AT = true ∧ tOwned.reach 1 = true ∧ (tOwned.inbound 1).isOwner 1 = false
      ∧ (tOwned.inbound 0).isOwner 0 = true ∧ (tOwned.inbound 0).fresh.lookup Reg.PWR_SAFESTOP.AT = none
      ∧ (({ tOwned with fresh := [((Reg.DEV_NONOWN_CNT.AT 0), 3, 0)] }).inbound 0).fresh.lookup (Reg.DEV_NONOWN_CNT.AT 0) = some (3, 0)
      ∧ (Reg.find (Reg.DEV_NONOWN_CNT.AT 0)).map (fun e => (e.1.pair, e.2)) = some (false, 0)
      ∧ BitVec.ofNat 32 (Reg.mask (Reg.DEV_NONOWN_CNT.AT 0) .rc) ≠ 0 := by decide

theorem test_hyp_ReadyNeedsImages :
    (tMode 4).mayWrite 0 Reg.DEV_MODE.AT ∧ ((tMode 4).inbound 0).mode = 4 ∧ ((tMode 4).inbound 0).flag Reg.SMP_STS.IMG_VALID = false
      ∧ (((tMode 4).putB Reg.SMP_STS.IMG_VALID true).put (Reg.TRK_ROW_CFG.EN 17) 1).enabledRows = [17] := by decide
end

section
/-! PROOF. What each step keeps, read part by part, and what one bit of a written register comes to. -/

namespace Sys2Proof.Machine

/-! ### What every step keeps -/

/-- Every command keeps the canonical form of the two maps. -/
theorem exec_keeps_wf {c : Instr} {s t : State} (h : exec c s = .next t) (hs : s.Wf) : t.Wf :=
  (Keeps.exec s c t h).wf hs

/-- Whether a part of the block is among those that are kept. -/
def Kept.part (k : Kept) : Part → Bool
  | .memory => k.mem
  | .time => k.now
  | .power => k.pwr
  | .sequencers => k.tb
  | .printing => k.print
  | .ports => k.ports
  | .field => k.field
  | .duet => k.due
  | .calibration => k.cal
  | .links => k.links
  | .cameras => k.cams
  | .compression => k.zip
  | .dram => k.dram
  | .testPort => k.tap
  | .errors => k.err

theorem Keeps.same {k : Kept} {s t : State} (h : Keeps k s t) {p : Part} (hp : k.part p = true) : p.same s t := by
  cases p with
  | memory => exact h.mem hp
  | time => exact h.now hp
  | power => exact h.pwr hp
  | sequencers => exact h.tb hp
  | printing => exact ⟨h.job hp, h.eng hp, h.smp hp, h.rows hp⟩
  | ports => exact h.ports hp
  | field => exact ⟨h.fld hp, h.mot hp⟩
  | duet => exact h.due hp
  | calibration => exact h.cal hp
  | links => exact ⟨h.lanes hp, h.peers hp⟩
  | cameras => exact ⟨h.cams hp, h.ins hp⟩
  | compression => exact h.zip hp
  | dram => exact h.dram hp
  | testPort => exact h.tap hp
  | errors => exact h.err hp

/-- The parts that `Kept.of` marks for a command are those that the table `changedBy` does not name. -/
theorem Kept.of_part (c : Instr) (p : Part) : (Kept.of c).part p = !(changedBy c).contains p := by
  cases p <;> rfl

/-! ### Access types -/

/-- One bit of what a write leaves in a register, by the masks of the access types. -/
theorem Reg.merge_getLsbD (a : Nat) (locked : Bool) (old new : Word) {i : Nat} (hi : i < 32) :
    (Reg.merge a locked old new).getLsbD i =
      ((new.getLsbD i && ((Reg.mask a .rw).testBit i || (!locked && (Reg.mask a .rwl).testBit i)))
        || (old.getLsbD i && ((Reg.mask a .ro).testBit i || (Reg.mask a .rc).testBit i || (locked && (Reg.mask a .rwl).testBit i)))
        || (old.getLsbD i && (Reg.mask a .w1c).testBit i && !new.getLsbD i)
        || ((old.getLsbD i || new.getLsbD i) && (Reg.mask a .w1s).testBit i)) := by
  cases locked <;>
    simp only [Reg.merge, BitVec.getLsbD_or, BitVec.getLsbD_and, BitVec.getLsbD_not, BitVec.getLsbD_ofNat, BitVec.ofNat_eq_ofNat, hi,
      decide_true, Nat.zero_testBit, Bool.true_and, Bool.false_and, Bool.not_true, Bool.not_false, Bool.or_false, Bool.or_assoc,
      if_true, if_false, Bool.false_eq_true]

end Sys2Proof.Machine
end

section
/-! PROOF. What a register access comes to at every BAR0 offset below the debug window: its routing, reads of single registers
and of pairs, and writes (R7 to R15, R31, R350). -/

namespace Sys2Proof.Machine

/-! ### Where an access goes -/

theorem canonAt_low {off : Nat} (h : off < 0xD8000) (slot : Nat) : canonAt slot off = off := by
  unfold canonAt
  rw [if_neg (by omega), if_neg (by omega)]

/-- An aligned 32-bit read in BAR0 by a slot that the device hears answers what `wordRead` gives. -/
theorem State.busRead_word {s : State} {slot off : Nat} (hslot : slot < 4) (halign : off % 4 = 0) (hoff : off < 0x4000000)
    (hreach : s.reach slot = true) (hit : Option SramHit) :
    s.busRead slot 0 off 4 hit =
      ((s.inbound slot).wordRead slot off hit).2.send (.readData slot 0 off ((s.inbound slot).wordRead slot off hit).1) := by
  simp [State.busRead, hreach, halign, Nat.not_le.2 hslot, Nat.not_le.2 hoff]

/-- An aligned 32-bit write in BAR0 by a slot that the device hears is a `wordWrite`. -/
theorem State.busWrite_word {s : State} {slot off : Nat} (hslot : slot < 4) (halign : off % 4 = 0)
    (hreach : s.reach slot = true) (data : Word) : s.busWrite slot 0 off 4 data = s.wordWrite slot off data := by
  simp [State.busWrite, hreach, halign, Nat.not_le.2 hslot]

/-! #### Reads -/

theorem State.wordRead_on {s : State} {slot off : Nat} (hoff : off < 0x2000000) (hon : s.addrOn off = true) (hit : Option SramHit) :
    s.wordRead slot off hit = s.readAt slot off := by
  simp [State.wordRead, hon, Nat.not_le.2 hoff]

theorem State.wordRead_off {s : State} {slot off : Nat} (hoff : off < 0x2000000) (hon : s.addrOn off = false) (hit : Option SramHit) :
    s.wordRead slot off hit = (0, s.offDomain off) := by
  simp [State.wordRead, hon, Nat.not_le.2 hoff]

section
variable {s : State} {slot off : Nat} {r : RegRow}

theorem State.readAt_none (h : Reg.find (canonAt slot off) = none) : s.readAt slot off = (0, s) := by
  simp only [State.readAt, h]

theorem State.readAt_hi (h : Reg.find (canonAt slot off) = some (r, 4)) :
    s.readAt slot off = (BitVec.ofNat 32 ((s.host.loSnap.lookup (pairKey slot (canonAt slot off - 4))).getD 0), s) := by
  simp only [State.readAt, h, if_true]

theorem State.readAt_lo (h : Reg.find (canonAt slot off) = some (r, 0)) (hpair : r.pair = true) :
    s.readAt slot off = (s.view slot (canonAt slot off), s.setHost (fun h => { h with
      loSnap := Sparse.insert (pairKey slot (canonAt slot off)) (s.view slot (canonAt slot off + 4)).toNat h.loSnap })) := by
  simp [State.readAt, h, hpair]

theorem State.readAt_owner (h : Reg.find (canonAt slot off) = some (r, 0)) (hpair : r.pair = false) (ho : s.isOwner slot = true) :
    s.readAt slot off = (s.ownerView slot (canonAt slot off), s.clearRead (canonAt slot off)) := by
  simp [State.readAt, h, hpair, ho]

theorem State.readAt_other (h : Reg.find (canonAt slot off) = some (r, 0)) (hpair : r.pair = false) (ho : s.isOwner slot = false) :
    s.readAt slot off = (s.view slot (canonAt slot off), s) := by
  simp [State.readAt, h, hpair, ho]

end

/-- The read of a register whose domain is on, as a command. -/
theorem exec_rcReadClear_on {s : State} {slot off : Nat} (hslot : slot < 4) (halign : off % 4 = 0) (hoff : off < 0x2000000)
    (hreach : s.reach slot = true) (hon : (s.inbound slot).addrOn off = true) :
    exec (.rcReadClear slot 0 off 4) s =
      .next (((s.inbound slot).readAt slot off).2.send (.readData slot 0 off ((s.inbound slot).readAt slot off).1)) := by
  show execRcReadClear slot 0 off 4 s = _
  rw [execRcReadClear, State.busRead_word hslot halign (by omega) hreach, State.wordRead_on hoff hon]

/-- R31: the read of a register whose domain is off. -/
theorem exec_rcReadClear_off {s : State} {slot off : Nat} (hslot : slot < 4) (halign : off % 4 = 0) (hoff : off < 0x2000000)
    (hreach : s.reach slot = true) (hon : (s.inbound slot).addrOn off = false) :
    exec (.rcReadClear slot 0 off 4) s = .next (((s.inbound slot).offDomain off).send (.readData slot 0 off 0)) := by
  show execRcReadClear slot 0 off 4 s = _
  rw [execRcReadClear, State.busRead_word hslot halign (by omega) hreach, State.wordRead_off hoff hon]

/-! #### What the owner's read leaves -/

section
variable (s : State) {a : Nat}

theorem State.ownerView_quiet (slot : Nat) (hf : s.fresh.lookup a = none) : s.ownerView slot a = s.view slot a := by
  simp only [State.ownerView, hf]

theorem State.ownerView_events (slot : Nat) {before set : Word} (hf : s.fresh.lookup a = some (before, set)) :
    s.ownerView slot a = (s.view slot a &&& ~~~ BitVec.ofNat 32 (Reg.mask a .rc)) ||| (before &&& BitVec.ofNat 32 (Reg.mask a .rc)) := by
  simp only [State.ownerView, hf]

theorem State.clearRead_out : (s.clearRead a).out = s.out := by
  unfold State.clearRead
  extract_lets m rest
  split
  · rfl
  · split <;> rfl

theorem State.clearRead_word_ne {b : Nat} (h : b ≠ a) : (s.clearRead a).word b = s.word b := by
  unfold State.clearRead
  extract_lets m rest
  split
  · rfl
  · split <;> exact s.word_setWord_ne h _

/-- Without events in this clock the read leaves every RC bit 0, but for the smallest slack. -/
theorem State.clearRead_word_quiet (hf : s.fresh.lookup a = none) (ha : a ≠ Reg.ZIP_PAGE_SLACK.AT) :
    (s.clearRead a).word a = s.word a &&& ~~~ BitVec.ofNat 32 (Reg.mask a .rc) := by
  unfold State.clearRead
  extract_lets m rest
  split
  · rename_i hm
    rw [show BitVec.ofNat 32 (Reg.mask a .rc) = 0#32 from hm, BitVec.not_zero, BitVec.and_allOnes]
  · simp [hf, rest, ha, m]

/-- With events in this clock the RC fields keep those alone (R8). -/
theorem State.clearRead_word_events {r : RegRow} {part : Nat} {before set : Word} (hf : s.fresh.lookup a = some (before, set))
    (hfind : Reg.find a = some (r, part)) (hm : BitVec.ofNat 32 (Reg.mask a .rc) ≠ 0) :
    (s.clearRead a).word a = (s.word a &&& ~~~ BitVec.ofNat 32 (Reg.mask a .rc))
      ||| BitVec.ofNat 32 (r.fields.foldl (fun acc f => acc + keptRc a before (s.word a) f) 0) := by
  unfold State.clearRead
  extract_lets m rest
  rw [if_neg hm]
  simp only [hf, hfind]
  exact State.word_setWord_same _ _ _

end

/-! #### Pairs -/

theorem pairPart_low {off part : Nat} {r : RegRow} (hoff : off < 0xD8000) (slot : Nat) (hfind : Reg.find off = some (r, part))
    (hpair : r.pair = true) : pairPart slot off = some part := by
  simp [pairPart, canonAt_low hoff, hfind, hpair]

/-- A read of the _LO half of a pair whose domain is on, as a command. -/
theorem exec_loReadSnapshot {s : State} {slot off : Nat} {r : RegRow} (hslot : slot < 4) (halign : off % 4 = 0) (hoff : off < 0xD0000)
    (hreach : s.reach slot = true) (hon : (s.inbound slot).addrOn off = true) (hfind : Reg.find off = some (r, 0)) (hpair : r.pair = true) :
    exec (.loReadSnapshot slot off) s =
      .next (((s.inbound slot).readAt slot off).2.send (.readData slot 0 off ((s.inbound slot).readAt slot off).1)) := by
  show execLoReadSnapshot slot off s = _
  rw [execLoReadSnapshot, pairPart_low (by omega) slot hfind hpair, decide_eq_true rfl, State.when_true,
    State.busRead_word hslot halign (by omega) hreach, State.wordRead_on (by omega) hon]

/-! #### Writes -/

/-- No pair lies at the two registers that any slot may write (R346, R347). -/
theorem Reg.not_anySlot_of_pair {off part : Nat} {r : RegRow} (hfind : Reg.find off = some (r, part)) (hpair : r.pair = true) :
    off ≠ Reg.DEV_OWN_CTRL.AT ∧ off ≠ Reg.DEV_OWN_HB.AT := by
  have hsingle : (Reg.find Reg.DEV_OWN_CTRL.AT).all (fun e => !e.1.pair) = true
      ∧ (Reg.find Reg.DEV_OWN_HB.AT).all (fun e => !e.1.pair) = true := by decide
  constructor <;> rintro rfl
  · simpa [hfind, hpair] using hsingle.1
  · simpa [hfind, hpair] using hsingle.2

theorem Reg.not_anySlot_of_none {slot off : Nat} (hfind : Reg.find (canonAt slot off) = none) :
    off ≠ Reg.DEV_OWN_CTRL.AT ∧ off ≠ Reg.DEV_OWN_HB.AT := by
  have hsome : Reg.find Reg.DEV_OWN_CTRL.AT ≠ none ∧ Reg.find Reg.DEV_OWN_HB.AT ≠ none := by decide
  constructor <;> rintro rfl
  · exact hsome.1 (by rwa [canonAt_low (by decide)] at hfind)
  · exact hsome.2 (by rwa [canonAt_low (by decide)] at hfind)

/-- The owner's write below the debug window, at an offset that is not open to any slot. -/
theorem State.busWrite_owner {s : State} {slot off : Nat} (hslot : slot < 4) (halign : off % 4 = 0) (hoff : off < 0x2000000)
    (hany : off ≠ Reg.DEV_OWN_CTRL.AT ∧ off ≠ Reg.DEV_OWN_HB.AT) (hmay : s.mayWrite slot off) (data : Word) :
    s.busWrite slot 0 off 4 data = (s.inbound slot).writeAt slot off data := by
  rw [State.busWrite_word hslot halign hmay.1, State.wordWrite, if_neg (by simp; omega), if_neg hany.1, if_neg hany.2, if_neg (by omega),
    State.ownerWrite_may hmay]

section
variable {s : State} {slot off : Nat} {r : RegRow} (data : Word)

theorem State.writeAt_none (h : Reg.find (canonAt slot off) = none) : s.writeAt slot off data = s := by
  simp only [State.writeAt, h]

theorem State.writeAt_lo (h : Reg.find (canonAt slot off) = some (r, 0)) (hw : Reg.writable (canonAt slot off) = true)
    (hpair : r.pair = true) : s.writeAt slot off data = s.bufferLo slot (canonAt slot off) data := by
  simp [State.writeAt, h, hw, hpair]

theorem State.writeAt_hi (h : Reg.find (canonAt slot off) = some (r, 4)) (hw : Reg.writable (canonAt slot off - 4) = true) :
    s.writeAt slot off data = s.commitPair slot (canonAt slot off - 4) data := by
  simp [State.writeAt, h, hw]

theorem State.writeAt_single (h : Reg.find (canonAt slot off) = some (r, 0)) (hw : Reg.writable (canonAt slot off) = true)
    (hpair : r.pair = false) : s.writeAt slot off data = s.writeReg slot (canonAt slot off) data := by
  simp [State.writeAt, h, hw, hpair]

end

/-- The owner's write of a register below the debug window, as a command. -/
theorem exec_registerWrite {s : State} {slot off : Nat} (hslot : slot < 4) (halign : off % 4 = 0) (hoff : off < 0x2000000)
    (hany : off ≠ Reg.DEV_OWN_CTRL.AT ∧ off ≠ Reg.DEV_OWN_HB.AT) (hmay : s.mayWrite slot off) (data : Word) :
    exec (.registerWrite slot 0 off 4 data) s = .next ((s.inbound slot).writeAt slot off data) := by
  show execRegisterWrite slot 0 off 4 data s = _
  rw [execRegisterWrite, State.busWrite_owner hslot halign hoff hany hmay]

/-! #### Writes of pairs -/

theorem State.pairWritten_unbuffered {s : State} {slot a : Nat} (h : s.host.loBuf.lookup (pairKey slot a) = none) (hi : Word) :
    s.pairWritten slot a hi = 2 ^ 32 * hi.toNat := by
  simp [State.pairWritten, h]

theorem State.pairWritten_bufferLo (s : State) (slot a : Nat) (low hi : Word) :
    (s.bufferLo slot a low).pairWritten slot a hi = low.toNat + 2 ^ 32 * hi.toNat := by
  simp [State.pairWritten, State.bufferLo, Sparse.lookup_insert_same]

section
variable {s : State} {slot lo : Nat} (hi : Word)

/-- An unlocked pair outside the rings takes both halves by its access types, where no range of its own drops the value. -/
theorem State.commitPair_unlocked (hset : lo ≠ Reg.MER_SET.PAIR.addr) (hlo : lo < 0xD0000)
    (hlock : (s.lockedAt lo && Reg.mask lo .rwl ≠ 0) = false) (hdrop : s.pairDropped lo (s.pairWritten slot lo hi) = none) :
    s.commitPair slot lo hi = (s.hostSet lo false (BitVec.ofNat 32 (s.pairWritten slot lo hi))).hostSet (lo + 4) false hi := by
  unfold State.commitPair
  extract_lets v loW
  rw [if_neg hset, if_neg (Bool.eq_false_iff.1 hlock), if_neg (by omega), hdrop]

/-- R15: a locked pair is kept, and the write reported where it would change it. -/
theorem State.commitPair_locked (hset : lo ≠ Reg.MER_SET.PAIR.addr) (hlock : (s.lockedAt lo && Reg.mask lo .rwl ≠ 0) = true) :
    s.commitPair slot lo hi = if s.get64 ⟨lo⟩ = s.pairWritten slot lo hi then s else s.reportAccess slot 0 (lo + 4) 1 := by
  unfold State.commitPair
  extract_lets v loW
  rw [if_neg hset, if_pos hlock]
  by_cases h : s.get64 ⟨lo⟩ = v <;> simp [h, v]

end

/-- The owner's write of the _LO half of a writable pair, as a command. -/
theorem exec_loWriteBuffer {s : State} {slot lo : Nat} {r : RegRow} (hslot : slot < 4) (halign : lo % 4 = 0) (hlo : lo < 0xD0000)
    (hfind : Reg.find lo = some (r, 0)) (hpair : r.pair = true) (hw : Reg.writable lo = true) (hmay : s.mayWrite slot lo) (low : Word) :
    exec (.loWriteBuffer slot lo low) s = .next ((s.inbound slot).bufferLo slot lo low) := by
  have hcanon : canonAt slot lo = lo := canonAt_low (by omega) slot
  show execLoWriteBuffer slot lo low s = _
  rw [execLoWriteBuffer, pairPart_low (by omega) slot hfind hpair, decide_eq_true rfl, State.when_true,
    State.busWrite_owner hslot halign (by omega) (Reg.not_anySlot_of_pair hfind hpair) hmay,
    State.writeAt_lo low (by rw [hcanon, hfind]) (by rw [hcanon, hw]) hpair, hcanon]

/-- The owner's write of the _HI half of a writable pair, as a command. -/
theorem exec_hiWriteCommit {s : State} {slot lo : Nat} {r : RegRow} (hslot : slot < 4) (halign : lo % 4 = 0) (hlo : lo < 0xD0000)
    (hfind : Reg.find (lo + 4) = some (r, 4)) (hpair : r.pair = true) (hw : Reg.writable lo = true) (hmay : s.mayWrite slot (lo + 4))
    (hi : Word) : exec (.hiWriteCommit slot (lo + 4) hi) s = .next ((s.inbound slot).commitPair slot lo hi) := by
  have hcanon : canonAt slot (lo + 4) = lo + 4 := canonAt_low (by omega) slot
  show execHiWriteCommit slot (lo + 4) hi s = _
  rw [execHiWriteCommit, pairPart_low (by omega) slot hfind hpair, decide_eq_true rfl, State.when_true,
    State.busWrite_owner hslot (by omega) (by omega) (Reg.not_anySlot_of_pair hfind hpair) hmay,
    State.writeAt_hi hi (by rw [hcanon, hfind]) (by rw [hcanon, Nat.add_sub_cancel, hw]), hcanon, Nat.add_sub_cancel]

/-! #### Writes of single registers -/

theorem State.writeFields_eq (s : State) (slot a : Nat) (data : Word) :
    s.writeFields slot a data = if s.lockedAt a && Reg.changesLocked a (s.word a) data
      then ((s.hostSet a (s.lockedAt a) data).reportAccess slot 0 a 1).when (inFab a) (·.put Reg.FAB_STS.CFG_ERR 1)
      else s.hostSet a (s.lockedAt a) data := rfl

/-- A value that no stated range forbids enters by the access types (`rangeTrkCal` holds the ranges below INS's and CAM's windows). -/
theorem State.writePlain_inRange {s : State} {a : Nat} {data : Word} (ha : a < 0xB0000) (h : s.rangeTrkCal a data = none) (slot : Nat) :
    s.writePlain slot a data = s.writeFields slot a data := by
  unfold State.writePlain
  extract_lets bad
  simp only [bad, if_pos ha, h]

/-- The registers of MER, TRK, ENC, JOB, FAB, SMP and CAL whose write starts more than what their fields take. -/
def ownRowsTimePrint : List Nat :=
  [Reg.MER_CTRL.AT, Reg.MER_RATE.AT, Reg.TRK_CTRL.AT, Reg.TRK_BUPD_CTRL.AT, Reg.FAB_CTRL.AT, Reg.FAB_MOVE_CTRL.AT, Reg.FAB_XUPD_CTRL.AT,
    Reg.FAB_TUPD_CTRL.AT, Reg.SMP_XFER_CTRL.AT, Reg.SMP_PEEK_GN.AT, Reg.CAL_CTRL.AT, Reg.CAL_STITCH_CTRL.AT]

section
variable {s : State} {a : Nat} {data : Word}

/-- R41: a follower whose UPLINK changes follows anew. -/
theorem State.writeTime_stnCfg (slot : Nat) :
    s.writeTime slot Reg.MER_STN_CFG.AT data =
      if (s.writeFields slot Reg.MER_STN_CFG.AT data).get Reg.MER_STN_CFG.UPLINK ≠ s.get Reg.MER_STN_CFG.UPLINK
          ∧ (s.writeFields slot Reg.MER_STN_CFG.AT data).get Reg.MER_CTRL.ROLE = 2
        then (s.writeFields slot Reg.MER_STN_CFG.AT data).restartFollow else s.writeFields slot Reg.MER_STN_CFG.AT data := by
  unfold State.writeTime
  rw [if_neg (by decide), if_pos rfl]
  simp only [State.when, Bool.and_eq_true, decide_eq_true_eq]

theorem State.writeTime_plain (hrow : a ∉ ownRowsTimePrint) (hstn : a ≠ Reg.MER_STN_CFG.AT) (ha : a < 0x60000)
    (hrange : s.rangeTrkCal a data = none) (slot : Nat) : s.writeTime slot a data = s.writeFields slot a data := by
  simp only [ownRowsTimePrint, List.mem_cons, not_or] at hrow
  simp only [State.writeTime, hrow, hstn, if_false]
  exact State.writePlain_inRange (by omega) hrange slot

theorem State.writePrint_plain (hrow : a ∉ ownRowsTimePrint) (ha : a < 0xA0000)
    (hrange : s.rangeTrkCal a data = none) (slot : Nat) : s.writePrint slot a data = s.writeFields slot a data := by
  simp only [ownRowsTimePrint, List.mem_cons, not_or] at hrow
  simp only [State.writePrint, hrow, if_false]
  exact State.writePlain_inRange (by omega) hrange slot

end

theorem State.writeReg_time {s : State} {slot a : Nat} {data : Word} (hheld : fieldHeld a = false) (h1 : 0x30000 ≤ a) (h2 : a < 0x60000) :
    s.writeReg slot a data = s.writeTime slot a data := by
  rw [State.writeReg, if_neg (by simp [hheld]), if_neg (by omega), if_neg (by omega), if_pos h2]

theorem State.writeReg_print {s : State} {slot a : Nat} {data : Word} (hheld : fieldHeld a = false) (h1 : 0x60000 ≤ a) (h2 : a < 0xA0000) :
    s.writeReg slot a data = s.writePrint slot a data := by
  rw [State.writeReg, if_neg (by simp [hheld]), if_neg (by omega), if_neg (by omega), if_neg (by omega), if_pos h2]

end Sys2Proof.Machine
end

section
/-! PROOF. Bytes and words of memory: what was written is read back, and what a store of one word leaves. -/

namespace Sys2Proof.Machine

/-! ### Bytes of memory -/

theorem State.bytesAt_zero (s : State) (a : Nat) : s.bytesAt a 0 = [] := rfl

theorem State.bytesAt_succ (s : State) (a n : Nat) : s.bytesAt a (n + 1) = s.byte a :: s.bytesAt (a + 1) n := by
  simp only [State.bytesAt, List.range_succ_eq_map, List.map_cons, List.map_map, Nat.add_zero]
  congr 1
  refine List.map_congr_left fun i _ => ?_
  simp only [Function.comp_apply, Nat.succ_eq_add_one, Nat.add_assoc, Nat.add_comm 1 i]

/-- Bytes that were written are read back. -/
theorem State.bytesAt_setBytes (bs : List Byte) : ∀ (s : State) (a : Nat), (s.setBytes a bs).bytesAt a bs.length = bs := by
  induction bs with
  | nil => exact fun s a => s.bytesAt_zero a
  | cons b bs ih =>
    intro s a
    have hfirst : ((s.setByte a b).setBytes (a + 1) bs).byte a = b := by
      rw [State.byte_setBytes_out bs _ _ (.inl (Nat.lt_succ_self a)), State.byte_setByte_same]
    rw [List.length_cons, State.bytesAt_succ, State.setBytes, hfirst, ih]

/-- Writing bytes changes memory alone. -/
theorem State.setBytes_eq (bs : List Byte) : ∀ (s : State) (a : Nat), s.setBytes a bs = { s with mem := (s.setBytes a bs).mem } := by
  induction bs with
  | nil => exact fun _ _ => rfl
  | cons b bs ih => exact fun s a => ih (s.setByte a b) (a + 1)

theorem leBytes_succ (n x : Nat) : leBytes (n + 1) x = BitVec.ofNat 8 x :: leBytes n (x / 256) := by
  simp only [leBytes, List.range_succ_eq_map, List.map_cons, List.map_map, Nat.pow_zero, Nat.div_one]
  congr 1
  refine List.map_congr_left fun i _ => ?_
  rw [Function.comp_apply, Nat.succ_eq_add_one, Nat.pow_succ', Nat.div_div_eq_div_mul]

theorem leBytes_length (n x : Nat) : (leBytes n x).length = n := by
  simp [leBytes]

/-- Little-endian bytes, read as a number. -/
theorem leAt_leBytes (n : Nat) : ∀ x, leAt (leBytes n x) 0 n = x % 256 ^ n := by
  induction n with
  | zero => intro x; simp [leAt, Nat.mod_one]
  | succ n ih =>
    intro x
    have hrest : leAt (leBytes (n + 1) x) 0 (n + 1) = x % 256 + 256 * leAt (leBytes n (x / 256)) 0 n := by
      simp [leAt, leBytes_succ]
    rw [hrest, ih, Nat.pow_succ', Nat.mod_mul]

/-- A word stored in DRAM is read back. -/
theorem State.memWord_setBytes (s : State) (a : Nat) (data : Word) : (s.setBytes a (leBytes 4 data.toNat)).memWord a = data.toNat := by
  have hread : (s.setBytes a (leBytes 4 data.toNat)).bytesAt a 4 = leBytes 4 data.toNat := by
    simpa only [leBytes_length] using State.bytesAt_setBytes (leBytes 4 data.toNat) s a
  rw [State.memWord, hread, leAt_leBytes]
  exact Nat.mod_eq_of_lt data.isLt

/-- What a store of one word in DRAM leaves. -/
theorem State.dramStore_word (s : State) (cls i : Nat) (data : Word) :
    (s.dramStore cls i (leBytes 4 data.toNat)).memWord i = data.toNat
      ∧ (∀ b, b < i ∨ i + 4 ≤ b → (s.dramStore cls i (leBytes 4 data.toNat)).byte b = s.byte b)
      ∧ ∃ d, s.dramStore cls i (leBytes 4 data.toNat) = { s with mem := (s.dramStore cls i (leBytes 4 data.toNat)).mem, dram := d } := by
  obtain ⟨d, hd⟩ := State.dramStore_only s cls i (leBytes 4 data.toNat)
  rw [hd]
  refine ⟨State.memWord_setBytes s i data, fun b hb => ?_, d, ?_⟩
  · exact State.byte_setBytes_out _ s i (by rwa [leBytes_length])
  · rw [State.setBytes_eq]

end Sys2Proof.Machine
end

section
/-! PROOF. The debug window (R34 to R36): one equation for each outcome of a read and of a write. -/

namespace Sys2Proof.Machine

/-! ### The debug window (R34 to R36) -/

theorem State.wordRead_window (s : State) (slot : Nat) {off : Nat} (hoff : 0x2000000 ≤ off) (hit : Option SramHit) :
    s.wordRead slot off hit = s.windowRead slot off hit := by
  rw [State.wordRead, if_pos hoff]

/-- A read through the window by a slot that the device hears, as a command. -/
theorem exec_debugWindowRead {s : State} {slot off : Nat} (hslot : slot < 4) (hlo : 0x2000000 ≤ off) (hhi : off < 0x4000000)
    (halign : off % 4 = 0) (hreach : s.reach slot = true) (hit : Option SramHit) :
    exec (.debugWindowRead slot off 4 hit) s = .next (((s.inbound slot).windowRead slot off hit).2.send
      (.readData slot 0 off ((s.inbound slot).windowRead slot off hit).1)) := by
  show execDebugWindowRead slot off 4 hit s = _
  have hc : (decide (0x2000000 ≤ off) && decide (off < 0x4000000)) = true := by simp [hlo, hhi]
  rw [execDebugWindowRead, hc, State.when_true, State.busRead_word hslot halign hhi hreach, State.wordRead_window _ _ hlo]

/-- A write through the window by a slot that the device hears, as a command. -/
theorem exec_debugWindowWrite {s : State} {slot off : Nat} (hslot : slot < 4) (hlo : 0x2000000 ≤ off) (hhi : off < 0x4000000)
    (halign : off % 4 = 0) (hreach : s.reach slot = true) (data : Word) :
    exec (.debugWindowWrite slot off 4 data) s = .next ((s.inbound slot).windowWrite slot off data) := by
  show execDebugWindowWrite slot off 4 data s = _
  have hc : (decide (0x2000000 ≤ off) && decide (off < 0x4000000)) = true := by simp [hlo, hhi]
  rw [execDebugWindowWrite, hc, State.when_true, State.busWrite_word hslot halign hreach, State.wordWrite,
    if_neg (by simp; omega), if_neg (by simp only [Reg.DEV_OWN_CTRL.AT]; omega), if_neg (by simp only [Reg.DEV_OWN_HB.AT]; omega),
    if_pos hlo, if_pos hreach]

section
variable {s : State} {off : Nat} (slot : Nat)

theorem State.windowRead_refused (h : s.windowOk (s.windowAt off) = false) (hit : Option SramHit) :
    s.windowRead slot off hit = (0, s.windowRefused slot off 2) := by
  simp [State.windowRead, h]

theorem State.windowRead_dram (h : s.windowOk (s.windowAt off) = true) (hi : 0x4000000000 ≤ s.windowAt off) (hit : Option SramHit) :
    s.windowRead slot off hit = (BitVec.ofNat 32 (s.memWord (s.windowAt off)), s.dramLoad (s.windowAt off) 4) := by
  simp [State.windowRead, h, hi]

end

/-- The state after the ECC hit, if any, that a read of on-die SRAM meets. -/
def State.afterHit (s : State) : Option SramHit → State
  | some h => s.sramHit h
  | none => s

/-- A word of on-die SRAM as the window reads it: what was last written there through the window, else an open value. -/
def State.sramWord (s : State) (i : Nat) : Word × State :=
  match s.err.sram.lookup i with
  | some w => (w, s)
  | none => (BitVec.ofNat 32 (s.open_ 32), s.drawn)

section
variable {s : State} {off : Nat} {hit : Option SramHit} (slot : Nat)

theorem State.windowRead_lost (h : s.windowOk (s.windowAt off) = true) (hi : s.windowAt off < 0x4000000000)
    (hlost : (hit.filter (fun h => hitIsAt h (s.windowAt off))).filter s.hitLost ≠ none) :
    s.windowRead slot off hit = (0xFFFFFFFF,
      (s.afterHit (hit.filter (fun h => hitIsAt h (s.windowAt off)))).put Reg.DEV_DBG_STS.UNCORR 1) := by
  obtain ⟨x, hx⟩ := Option.ne_none_iff_exists'.1 hlost
  simp only [State.windowRead, h, hx, Nat.not_le.2 hi]
  rfl

theorem State.windowRead_sram (h : s.windowOk (s.windowAt off) = true) (hi : s.windowAt off < 0x4000000000)
    (hkept : (hit.filter (fun h => hitIsAt h (s.windowAt off))).filter s.hitLost = none) :
    s.windowRead slot off hit = (s.afterHit (hit.filter (fun h => hitIsAt h (s.windowAt off)))).sramWord (s.windowAt off) := by
  simp only [State.windowRead, h, hkept, Nat.not_le.2 hi]
  rfl

/-! #### Writes -/

theorem State.windowWrite_other (h : s.isOwner slot = false) (data : Word) :
    s.windowWrite slot off data = s.windowRefused slot off 0 := by
  simp [State.windowWrite, h]

variable {slot}

theorem State.windowWrite_refused (ho : s.isOwner slot = true)
    (h : (s.windowOk (s.windowAt off) && s.flag Reg.DEV_DBG_CTRL.WR_EN && s.modeIn 3 4) = false) (data : Word) :
    s.windowWrite slot off data = s.windowRefused slot off 2 := by
  have hbad : (!s.windowOk (s.windowAt off) || !s.flag Reg.DEV_DBG_CTRL.WR_EN || !s.modeIn 3 4) = true := by
    rw [← Bool.not_and, ← Bool.not_and, h, Bool.not_false]
  simp only [State.windowWrite, ho, hbad]
  rfl

variable (hok : s.windowOk (s.windowAt off) = true) (hen : s.flag Reg.DEV_DBG_CTRL.WR_EN = true) (hmode : s.modeIn 3 4 = true)
  (ho : s.isOwner slot = true)
include hok hen hmode ho

theorem State.windowWrite_dram (hi : 0x4000000000 ≤ s.windowAt off) (data : Word) :
    s.windowWrite slot off data = s.dramStore 3 (s.windowAt off) (leBytes 4 data.toNat) := by
  simp [State.windowWrite, hok, hen, hmode, ho, hi]

theorem State.windowWrite_sram (hi : s.windowAt off < 0x4000000000) (data : Word) :
    s.windowWrite slot off data = { s with err := { s.err with sram := Sparse.insert (s.windowAt off) data s.err.sram } } := by
  simp [State.windowWrite, hok, hen, hmode, ho, Nat.not_le.2 hi]

end

end Sys2Proof.Machine
end

section
/-! PROOF. The statements of the scope family (spec/00_scope.md), settled from the laws above. -/

namespace Sys2Proof.Machine

/-- Settles O4: a step is one command or one clock cycle, and each keeps the canonical form (`Keeps.exec`, `Keeps.tick`). -/
theorem stepKeepsTheMapsCanonical : Obligations.StepKeepsTheMapsCanonical := by
  intro s t hs h
  unfold step at h
  split at h
  case h_1 =>
    cases h
    exact ((Keeps.refl s).tick (km := true) (kf := true) (kc := true) (kz := true) (kx := true)).wf hs
  case h_2 c cs _ => exact exec_keeps_wf h hs

/-- Settles O6: `Keeps.exec` says it of every command, part by part. -/
theorem commandsStayWithinTheirUnits : Obligations.CommandsStayWithinTheirUnits := by
  intro c s t p h hp
  refine (Keeps.exec s c t h).same ?_
  rw [Kept.of_part, Bool.not_eq_true', ← Bool.not_eq_true, List.contains_iff_mem]
  exact hp

/-- Settles O9: bit by bit, `Reg.merge_getLsbD`, where one mask holds the bit, or none. -/
theorem accessTypes : Obligations.AccessTypes := by
  intro a locked old new i hi
  rw [Reg.merge_getLsbD a locked old new hi]
  constructor
  · intro acc hacc hother
    have masked : ∀ x, (Reg.mask a x).testBit i = decide (x = acc) := fun x => by
      by_cases hx : x = acc
      · simpa [hx] using hacc
      · simpa [hx] using hother x hx
    simp only [masked]
    cases acc <;> cases locked <;> simp
  · intro hnone
    simp [hnone]

/-- Settles O10: outside the rows with a command of their own, a write comes to `State.writeFields`. -/
theorem plainRegisterWrite : Obligations.PlainRegisterWrite := by
  intro s slot a data hslot halign hlo hhi hmay
  have hcanon : canonAt slot a = a := canonAt_low (by omega) slot
  rw [exec_registerWrite hslot halign (by omega) (by simp only [Reg.DEV_OWN_CTRL.AT, Reg.DEV_OWN_HB.AT]; omega) hmay]
  constructor
  · intro r hfind hpair hw hheld hrow hrange u late t v
    have hwrite : u.writeAt slot a data = u.writeReg slot a data := by
      rw [State.writeAt_single data (by rw [hcanon, hfind]) (by rw [hcanon, hw]) hpair, hcanon]
    have hv : u.writeFields slot a data = v := State.writeFields_eq u slot a data
    rw [hwrite]
    congr 1
    by_cases htime : a < 0x60000
    · rw [State.writeReg_time hheld hlo htime]
      by_cases hstn : a = Reg.MER_STN_CFG.AT
      · subst hstn
        rw [State.writeTime_stnCfg, hv]
        simp
      · rw [State.writeTime_plain hrow hstn htime hrange, hv]
        simp [hstn]
    · have hstn : a ≠ Reg.MER_STN_CFG.AT := by
        rintro rfl
        exact htime (by decide)
      rw [State.writeReg_print hheld (by omega) hhi, State.writePrint_plain hrow hhi hrange, hv]
      simp [hstn]
  · intro hfind
    rw [State.writeAt_none data (by rw [hcanon, hfind])]

/-- Settles O11: `State.readAt_lo` keeps the snapshot, `State.readAt_hi` answers it. -/
theorem pairReads : Obligations.PairReads := by
  intro s slot a r hslot halign ha hreach hon
  have hcanon : canonAt slot a = a := canonAt_low (by omega) slot
  constructor
  · intro hfind hpair u
    rw [exec_loReadSnapshot hslot halign ha hreach hon hfind hpair, State.readAt_lo (by rw [hcanon, hfind]) hpair, hcanon]
    exact ⟨_, rfl, rfl, Sparse.lookup_insert_same _ _ _, fun k hk => Sparse.lookup_insert_other hk _ _, rfl, rfl⟩
  · intro hfind
    rw [exec_rcReadClear_on hslot halign (by omega) hreach hon, State.readAt_hi (by rw [hcanon, hfind]), hcanon]

/-- Settles O12: `State.bufferLo` for the write of _LO, `State.commitPair_unlocked` and `State.commitPair_locked` for that of _HI. -/
theorem pairWrites : Obligations.PairWrites := by
  intro s slot lo r low hi hslot halign hlo hpair hset hfindLo hfindHi hw
  refine ⟨fun hmay => ?_, fun h => State.pairWritten_unbuffered h hi, fun hmay => ?_⟩
  · exact ⟨_, exec_loWriteBuffer hslot halign hlo hfindLo hpair hw hmay low, rfl, rfl, rfl, State.pairWritten_bufferLo _ _ _ _ _,
      fun k hk => Sparse.lookup_insert_other hk _ _⟩
  · intro u v
    rw [exec_hiWriteCommit hslot halign hlo hfindHi hpair hw hmay]
    exact ⟨fun hlock hdrop => by rw [State.commitPair_unlocked hi hset hlo hlock hdrop],
      fun hlock => by rw [State.commitPair_locked hi hset hlock]⟩

/-- Settles O14: one equation for each outcome of `State.windowRead` and `State.windowWrite`; a store's effect is `State.dramStore_word`. -/
theorem debugWindow : Obligations.DebugWindow := by
  intro s slot off data hit hslot hlo hhi halign hreach u i
  rw [exec_debugWindowRead hslot hlo hhi halign hreach, exec_debugWindowWrite hslot hlo hhi halign hreach]
  refine ⟨fun hok hi => ?_, fun hok hi t ht => ⟨fun hkept => ?_, fun hlost => ?_⟩, fun hok => ?_, fun hok hen hmode ho hi => ?_,
    fun hok hen hmode ho hi => ?_, fun ho h => ?_, fun ho => ?_⟩
  · rw [State.windowRead_dram slot hok hi]
    exact ⟨rfl, State.dramLoad_only u i 4⟩
  · have ht' : t = u.afterHit (hit.filter (fun h => hitIsAt h i)) := ht
    rw [State.windowRead_sram slot hok hi hkept, ← ht', State.sramWord]
    cases t.err.sram.lookup i <;> rfl
  · have ht' : t = u.afterHit (hit.filter (fun h => hitIsAt h i)) := ht
    rw [State.windowRead_lost slot hok hi hlost, ← ht']
  · rw [State.windowRead_refused slot hok]
  · rw [State.windowWrite_dram hok hen hmode ho hi]
    obtain ⟨hword, hbytes, hrest⟩ := State.dramStore_word u 3 i data
    refine ⟨_, rfl, hword, hbytes, ?_, hrest⟩
    obtain ⟨d, hd⟩ := hrest
    rw [hd]
  · rw [State.windowWrite_sram hok hen hmode ho hi]
  · rw [State.windowWrite_refused ho h]
  · rw [State.windowWrite_other slot ho]

/-- Settles O3: both maps are empty at reset, so every register and byte reads what an unlisted one gives. -/
theorem resetState : Obligations.ResetState :=
  ⟨⟨Sparse.nil_wf _, Sparse.nil_wf _⟩, rfl, rfl, rfl, by decide, by decide, rfl, rfl, fun _ => rfl, fun _ => rfl⟩

/-- Settles O13: the owner's read clears, another's does not, and one of a domain that is off is recorded. -/
theorem readClearsForTheOwner : Obligations.ReadClearsForTheOwner := by
  intro s slot a r hslot halign ha hreach u
  have hcanon : canonAt slot a = a := canonAt_low (by omega) slot
  constructor
  · intro hfind hpair hon
    rw [← hcanon] at hfind
    rw [exec_rcReadClear_on hslot halign (by omega) hreach hon]
    constructor
    · intro ho
      rw [State.readAt_owner hfind hpair ho, hcanon]
    · intro ho
      rw [State.readAt_other hfind hpair ho, hcanon]
  · exact exec_rcReadClear_off hslot halign (by omega) hreach

/-- Settles O57: no register lies there, so `State.readAt_none` answers 0 and `State.writeAt_none` changes nothing. -/
theorem unassignedOffsets : Obligations.UnassignedOffsets := by
  intro s slot off hslot halign hoff hreach hfind u
  have hon (h : u.addrOn off = true) : exec (.rcReadClear slot 0 off 4) s = .next (u.send (.readData slot 0 off 0)) := by
    rw [exec_rcReadClear_on hslot halign hoff hreach h, State.readAt_none hfind]
  refine ⟨hon, ?_, fun data hmay => ?_⟩
  · cases h : u.addrOn off with
    | true => exact ⟨_, hon h, rfl⟩
    | false => exact ⟨_, exec_rcReadClear_off hslot halign hoff hreach h, rfl⟩
  · rw [exec_registerWrite hslot halign hoff (Reg.not_anySlot_of_none hfind) hmay, State.writeAt_none data hfind]

/-- Settles O59: another slot's read changes no register; the owner's read leaves what `State.clearRead` does. -/
theorem readByAnother : Obligations.ReadByAnother := by
  intro s slot a r hslot halign ha hcanon hreach hfind hpair u rc hon
  have hcfind : Reg.find (canonAt slot a) = some (r, 0) := by rw [hcanon, hfind]
  rw [exec_rcReadClear_on hslot halign ha hreach hon]
  constructor
  · intro ho
    rw [State.readAt_other hcfind hpair ho, hcanon]
  · intro ho
    rw [State.readAt_owner hcfind hpair ho, hcanon]
    refine ⟨_, rfl, fun hf => ⟨?_, State.clearRead_word_quiet u hf⟩, fun before set hf => ⟨?_, State.clearRead_word_events u hf hfind⟩,
      fun b hb => State.clearRead_word_ne u hb⟩
    · rw [State.send_out, State.clearRead_out, State.ownerView_quiet u slot hf]
    · rw [State.send_out, State.clearRead_out, State.ownerView_events u slot hf]

end Sys2Proof.Machine
end

section
/-! PROOF. The statements of the architecture family (spec/01_architecture.md): a register write that R31 or R350 drops. -/

namespace Sys2Proof.Machine

/-- A register write that the device hears is judged by `State.ownerWrite`, at every offset below the debug window but the two that any
slot may write (R346, R347). -/
theorem exec_registerWrite_ownerWrite {s : State} {slot off : Nat} (hslot : slot < 4) (halign : off % 4 = 0) (hoff : off < 0x2000000)
    (hreach : s.reach slot = true) (hctrl : off ≠ Reg.DEV_OWN_CTRL.AT) (hhb : off ≠ Reg.DEV_OWN_HB.AT) (data : Word) :
    exec (.registerWrite slot 0 off 4 data) s = .next (s.ownerWrite slot off (·.writeAt slot off data)) := by
  show execRegisterWrite slot 0 off 4 data s = _
  rw [execRegisterWrite, State.busWrite_word hslot halign hreach, State.wordWrite, if_neg (by simp; omega), if_neg hctrl, if_neg hhb,
    if_neg (by omega)]

/-- Settles O58: `State.ownerWrite_off` where the domain is off, `State.ownerWrite_other` where it is on and another slot writes. -/
theorem droppedRegisterWrite : Obligations.DroppedRegisterWrite := by
  intro s slot off data hslot halign hoff hreach hctrl hhb u
  rw [exec_registerWrite_ownerWrite hslot halign hoff hreach hctrl hhb]
  constructor
  · intro hoffDomain
    rw [State.ownerWrite_off hreach hoffDomain]
  · intro hon hother
    rw [State.ownerWrite_other hreach hon hother]

end Sys2Proof.Machine
end

section
/-! PROOF. One clock cycle (R37): what follows the Meridian counter in a cycle leaves the counter and its accumulator. -/

namespace Sys2Proof.Machine

theorem State.meridian_now (s : State) : s.meridian.now = s.now + ((s.tb.frac : Int) + 4 * (2 ^ 40 + s.rate)).toNat / 2 ^ 40 := rfl

theorem State.meridian_frac (s : State) : s.meridian.tb.frac = ((s.tb.frac : Int) + 4 * (2 ^ 40 + s.rate)).toNat % 2 ^ 40 := rfl

/-- What a cycle does once the counter has gone on touches neither Meridian time, nor the sequencers, nor Duet. -/
theorem Keeps.tick_of_meridian {s0 s : State} {km kn kt kf kd kc kz kx : Bool}
    (h : Keeps ⟨km, kn, false, kt, false, false, kf, kd, kc, false, false, kz, false, kx, false⟩ s0 s.tellStop.meridian) :
    Keeps h.kept s0 s.tick := by
  unfold State.tick
  extract_lets u t
  exact Keeps.ite h ((h.when (fun _ h' => h'.bootStep.voutRead)).countLevels.settleSlips.prbsTick.linksTick.memPath.dramTick.when
    (fun _ h' => h'.loadWindow))

theorem step_of_empty {s : State} (h : s.pending = []) : step s = .next s.tick := by
  simp only [step, h]

/-- Settles O2: the telling of a Safe-stop leaves the counter, `State.meridian` moves it on, and the rest of the cycle keeps it. -/
theorem cycleCountsMeridian : Obligations.CycleCountsMeridian := by
  intro s hempty
  have tell : Keeps ⟨true, true, false, true, true, true, true, false, true, false, true, true, true, true, false⟩ s s.tellStop :=
    (Keeps.refl s).tellStop
  have rest : Keeps ⟨true, true, false, true, false, false, true, true, true, false, false, true, false, true, false⟩
      s.tellStop.meridian s.tick := (Keeps.refl _).tick_of_meridian
  have all : Keeps ⟨true, false, false, false, false, false, true, false, true, false, false, true, false, true, false⟩ s s.tick :=
    (Keeps.refl s).tick
  refine ⟨s.tick, step_of_empty hempty, ?_, ?_, all.pending.trans hempty, all.mem rfl, all.fld rfl, all.mot rfl, all.cal rfl, all.zip rfl,
    all.tap rfl, rest.due rfl⟩
  · rw [rest.now rfl, State.meridian_now, tell.now rfl, tell.tb rfl]
  · rw [rest.tb rfl, State.meridian_frac, tell.tb rfl]

end Sys2Proof.Machine
end

section
/-! PROOF. Meridian time (R38 to R42): a written MER_SET, a PTM dialogue that is due, an exchange on a peer link that is up, and
holdover. -/

namespace Sys2Proof.Machine

/-! ### MER_SET (R38) -/

theorem exec_merSet {s : State} {slot : Nat} (h : s.mayWrite slot (Reg.MER_SET.PAIR.addr + 4)) (hi : Word) :
    exec (.merSet slot hi) s = .next ((s.inbound slot).merSet slot hi) :=
  congrArg Host.Outcome.next (State.ownerWrite_may h _)

theorem State.merSet_taken {s : State} (hmode : s.modeIn 2 4 = true) (hrole : s.get Reg.MER_CTRL.ROLE ≠ 2) (slot : Nat) (hi : Word) :
    s.merSet slot hi = { s.retime with now := s.pairWritten slot Reg.MER_SET.PAIR.addr hi } := by
  simp [State.merSet, hmode, hrole]

theorem State.merSet_refused {s : State} (h : s.modeIn 2 4 = false ∨ s.get Reg.MER_CTRL.ROLE = 2) (slot : Nat) (hi : Word) :
    s.merSet slot hi = s.reportAccess slot 0 (Reg.MER_SET.PAIR.addr + 4) 1 := by
  have hshut : (s.modeIn 2 4 && decide (s.get Reg.MER_CTRL.ROLE ≠ 2)) = false := by
    rcases h with h | h <;> simp [h]
  simp only [State.merSet, hshut]
  rfl

/-! ### The PTM dialogue (R39) -/

/-- How a PTM dialogue ends: without an answer, or with the root's time, latched beside Meridian time. -/
def State.ptmEnds (s : State) : Option Nat → State
  | none => s.put Reg.MER_PTM_CTRL.FAIL 1
  | some r =>
    let s := (s.put64 Reg.MER_PTM_ROOT.PAIR r).put64 Reg.MER_PTM_MT.PAIR s.now
    (s.put Reg.MER_PTM_CTRL.VALID 1).put Reg.MER_PTM_CTRL.SEQ (s.get Reg.MER_PTM_CTRL.SEQ + 1)

/-- A dialogue that is due on a running device: it goes to the selected port where that one answers, and ends. -/
theorem exec_ptmDialogue_due {s : State} (hawake : s.awake = true) (hen : s.flag Reg.MER_PTM_CTRL.EN = true)
    (hdue : ∀ t, s.tb.ptmAt = some t → t + 4000000 * 2 ^ min (s.get Reg.MER_PTM_CTRL.PERIOD) 10 ≤ s.now) (root : Option Nat) :
    exec (.ptmDialogue root) s = .next
      ((((s.setTb ({ · with ptmAt := some s.now })).pmcAdd 454).when (s.reach (s.get Reg.MER_PTM_CTRL.PORT))
        (·.send (.ptm (s.get Reg.MER_PTM_CTRL.PORT)))).ptmEnds (root.filter (fun _ => s.reach (s.get Reg.MER_PTM_CTRL.PORT)))) := by
  show execPtmDialogue root s = _
  cases hlast : s.tb.ptmAt with
  | none =>
    simp only [execPtmDialogue, hawake, hen, hlast]
    rfl
  | some t =>
    simp only [execPtmDialogue, hawake, hen, hlast, hdue t hlast]
    rfl

/-! ### Time exchanges (R40, R41, R251, R319) -/

/-- No two peer links have the same link lane 0. -/
theorem find?_peerLane {l : Nat} (h : l < 9) : (List.range 9).find? (fun x => peerLane x = peerLane l) = some l := by
  revert l
  decide

/-- An exchange on a peer link that is up, by who requests and who answers there. -/
theorem exec_stationTimeExchange {s : State} {l : Nat} (hl : l < 9) (hawake : s.awake = true) (hup : s.peerLink l = 8)
    (xid t1 t2 t3 t4 : Nat) :
    exec (.stationTimeExchange (peerLane l) xid t1 ⟨t2, t3⟩ t4) s = .next (
      if s.requests (s.roleAt t1) l then
        if l ≠ 0 && (s.peer l).annRole ≠ 1 then s
        else if s.steeredBy (s.roleAt t1) = some l then (s.peerTtReq l).follow t1 t2 t3 t4
        else s.peerTtReq l
      else s.when (s.answers (s.roleAt t2) l) (·.peerAnswer l xid t2 t3)) := by
  show execStationTimeExchange (peerLane l) xid t1 ⟨t2, t3⟩ t4 s = _
  rw [execStationTimeExchange, find?_peerLane hl]
  simp [hawake, hup]

/-! ### Holdover (R42) -/

/-- A follower's holdover begins where it has not begun and its master is lost. -/
theorem exec_stMerHoldover {s : State} {l : Nat} (hsteer : s.steering = some l) :
    exec .stMerHoldover s = .next (
      if s.flag Reg.MER_STN_STS.HOLD
        || !(decide (s.tb.lastGood.getD (s.peer l).since + 3 * 4000000 ≤ s.now) || 3 ≤ s.tb.missed || s.peerLink l ≠ 8) then s
      else ((((s.setTb (fun t => { t with goodRun := 0, holdTold := false })).put Reg.MER_STN_STS.LOCKED 0).put
        Reg.MER_STN_STS.HOLD 1).put Reg.MER_STN_STS.LOCK_LOST 1).post (ev Code.ST_MER_HOLDOVER srcMER)) := by
  show execStMerHoldover s = _
  rw [execStMerHoldover, hsteer]

/-- The limit is told where a holdover that has not been told passes it. -/
theorem exec_stMerHoldLimit (s : State) :
    exec .stMerHoldLimit s = .next (
      if s.flag Reg.MER_STN_STS.HOLD = true ∧ s.tb.holdTold = false
        ∧ s.get Reg.MER_STN_CFG.HOLD_LIM * 4000000000 < (s.now - s.tb.lastGood.getD 0) * s.get Reg.MER_STN_CFG.HOLD_PPB
      then ((s.put Reg.MER_STN_STS.HOLD_LIM_EXC 1).setTb ({ · with holdTold := true })).post (ev Code.ST_MER_HOLD_LIMIT srcMER)
      else s) := by
  show execStMerHoldLimit s = _
  rw [execStMerHoldLimit, State.when]
  simp only [Bool.and_eq_true, Bool.not_eq_true', decide_eq_true_eq, and_assoc, gt_iff_lt]

/-- Settles O15: an equation for each of the five commands, which its conditions then decide. -/
theorem meridianTimeCommands : Obligations.MeridianTimeCommands := by
  refine ⟨?setting, ?dialogue, ?exchange, ?holdover, ?limit⟩
  case setting =>
    intro s slot hi hmay
    rw [exec_merSet hmay]
    exact ⟨fun hmode hrole => by rw [State.merSet_taken hmode hrole], fun h => by rw [State.merSet_refused h]⟩
  case dialogue =>
    intro s hawake hen hdue
    dsimp only
    simp only [exec_ptmDialogue_due hawake hen hdue]
    refine ⟨fun hheard root => ?_, fun hheard => ?_, fun hsilent root => ?_⟩
    · rw [hheard]
      rfl
    · rw [hheard]
      rfl
    · rw [hsilent]
      cases root <;> rfl
  case exchange =>
    intro s l xid t1 t2 t3 t4 hl hawake hup
    rw [exec_stationTimeExchange hl hawake hup]
    have declared (h : l = 0 ∨ (s.peer l).annRole = 1) : ¬(l ≠ 0 && (s.peer l).annRole ≠ 1) = true := by
      rcases h with h | h <;> simp [h]
    refine ⟨fun hreq hmaster hsteer => ?_, fun hreq hmaster hsteer => ?_, fun hreq hstation hmaster => ?_, fun hreq hans => ?_,
      fun hreq hans => ?_⟩
    · rw [if_pos hreq, if_neg (declared hmaster), if_pos hsteer]
    · rw [if_pos hreq, if_neg (declared hmaster), if_neg hsteer]
    · simp [hreq, hstation, hmaster]
    · simp [hreq, hans]
    · simp [hreq, hans]
  case holdover =>
    intro s l hsteer
    rw [exec_stMerHoldover hsteer]
    refine ⟨fun hhold hlost => ?_, fun hhold => ?_⟩
    · rcases hlost with h | h | h <;> simp [hhold, h]
    · simp [hhold]
  case limit =>
    intro s
    dsimp only
    rw [exec_stMerHoldLimit]
    refine ⟨fun hhold htold hpast => ?_, fun h => ?_⟩
    · rw [if_pos ⟨hhold, htold, hpast⟩]
    · rw [if_neg]
      rintro ⟨hhold, htold, hpast⟩
      rcases h with h | h | h
      · simp [h] at hhold
      · simp [h] at htold
      · exact Nat.not_lt.2 h hpast

end Sys2Proof.Machine
end

section
/-! PROOF. The web encoder inputs (R43 to R48): counts, quadrature errors, the comparison, the index, and the ENCOUT pair. -/

namespace Sys2Proof.Machine

section
variable {s : State} {input : Nat}

/-! ### Counts and quadrature errors (R43, R44) -/

theorem exec_encoderCount_main (hdec : s.decodes = true) (hin : input < 2) (hmain : s.mainInput input = true) {level : Nat}
    (hlong : s.fget Reg.ENC_CTRL.FILT ≤ level) (forward : Bool) :
    exec (.encoderCount input ⟨forward, level⟩) s = .next (s.webCount (forward != s.fflag Reg.ENC_CTRL.INV)) := by
  show execEncoderCount input ⟨forward, level⟩ s = _
  simp [execEncoderCount, hdec, Nat.not_le.2 hin, hmain, Nat.not_lt.2 hlong]

theorem exec_encoderCount_check (hdec : s.decodes = true) (hin : input < 2) (hother : s.mainInput input = false) {level : Nat}
    (hlong : s.fget Reg.ENC_CTRL.FILT ≤ level) (forward : Bool) :
    exec (.encoderCount input ⟨forward, level⟩) s = .next
      (s.setTb (fun t => { t with incChk := t.incChk + (if forward != s.fflag Reg.ENC_CTRL.INV then 1 else -1) })) := by
  show execEncoderCount input ⟨forward, level⟩ s = _
  simp [execEncoderCount, hdec, Nat.not_le.2 hin, hother, Nat.not_lt.2 hlong]

theorem exec_encoderCount_short {level : Nat} (hshort : level < s.fget Reg.ENC_CTRL.FILT) (forward : Bool) :
    exec (.encoderCount input ⟨forward, level⟩) s = .next s := by
  show execEncoderCount input ⟨forward, level⟩ s = _
  simp [execEncoderCount, hshort]

theorem State.webCount_eq (s : State) (fwd : Bool) :
    let c := (s.get64 Reg.ENC_COUNT.PAIR + (if fwd then 1 else 2 ^ 48 - 1)) % 2 ^ 48
    let a := (s.put64 Reg.ENC_COUNT.PAIR c).pmcAdd (if fwd then 456 else 457)
    let b := a.setFld ({ · with edgeAt := some a.now })
    let t := (b.encoutStep fwd).encoutDrive.setTb (fun t => { t with incMain := t.incMain + (if fwd then 1 else -1) })
    s.webCount fwd = if t.flag Reg.ENC_STS.DIR = fwd then t.turnWeb (!fwd) else t := by
  intro c a b t
  show (if t.flag Reg.ENC_STS.DIR == fwd then t.turnWeb (!fwd) else t) = _
  simp only [beq_iff_eq]

/-- A quadrature error of the selected input, once it is counted and its time kept. -/
theorem exec_quadratureError_main (hdec : s.decodes = true) (hmain : s.mainInput input = true) :
    let a := ((s.put Reg.ENC_STS.QERR 1).count Reg.ENC_QERR_CNT.CNT).pmcAdd 458
    let old := a.tb.qerrs.filter (fun t => a.now < t + 4000000)
    let bursting := a.tb.qburst && 16 ≤ old.length
    let b := a.setTb ({ · with qerrs := (a.now :: old).take 64, qburst := bursting || 16 ≤ old.length + 1 })
    exec (.quadratureError input) s = .next (if bursting = false ∧ 16 ≤ old.length + 1
      then State.safeStop Code.ST_ENC_QERR_BURST ((b.put Reg.ENC_STS.QERR_BURST 1).post (ev Code.ST_ENC_QERR_BURST srcENC)) else b) := by
  intro a old bursting b
  have counted : exec (.quadratureError input) s = .next (if (!bursting && 16 ≤ old.length + 1) = true
      then State.safeStop Code.ST_ENC_QERR_BURST ((b.put Reg.ENC_STS.QERR_BURST 1).post (ev Code.ST_ENC_QERR_BURST srcENC)) else b) := by
    show execQuadratureError input s = _
    simp only [execQuadratureError, hdec, hmain]
    rfl
  rw [counted]
  simp only [Bool.and_eq_true, Bool.not_eq_true', decide_eq_true_eq]

/-! ### The comparison and the index (R45, R46) -/

theorem exec_encCheckCompare (s : State) :
    exec .encCheckCompare s = .next (
      if s.flag Reg.ENC_CTRL.CHK_EN = true
        ∧ s.get Reg.ENC_CHK_TOL.TOL * 2 ^ 24 < (s.tb.incMain * 2 ^ 24 - s.tb.incChk * s.get Reg.ENC_CHK_RATIO.RATIO).natAbs
      then
        let t := ((s.setTb ({ · with incMain := 0, incChk := 0 })).put Reg.ENC_STS.CHK_MISMATCH 1).post
          (ev Code.ST_ENC_CHECK_MISMATCH srcENC)
        if t.flag Reg.ENC_CTRL.CHK_ACT then State.safeStop Code.ST_ENC_CHECK_MISMATCH t else t
      else s.setTb ({ · with incMain := 0, incChk := 0 })) := by
  show execEncCheckCompare s = _
  rw [execEncCheckCompare, State.when]
  simp only [Bool.and_eq_true, decide_eq_true_eq, gt_iff_lt]
  rfl

/-- The state in which the index finds the count: a waiting pair is applied, and Z shows the index (R48). -/
def State.indexed (s : State) : State :=
  (match s.tb.encoutPend with
    | some (n, m) => s.encoutTake n m
    | none => s).encoutIndex

/-- An index loads the count where IDX_MODE lets it (R46). -/
theorem exec_encoderIndex_main (hdec : s.decodes = true) (hmain : s.mainInput input = true) :
    let a := s.indexed
    let pre := a.get64 Reg.ENC_COUNT.PAIR
    let val := signed 32 (a.fget Reg.ENC_IDX_VAL.VAL)
    let b := (((a.put64 Reg.ENC_COUNT.PAIR (unsigned 48 val)).putSat Reg.ENC_IDX_JUMP.JUMP (wrapCount ((pre : Int) - val))).put
      Reg.ENC_STS.IDX 1).put Reg.ENC_CTRL.ARM 0
    exec (.encoderIndex input) s = .next (
      if a.fget Reg.ENC_CTRL.IDX_MODE = 1 ∨ a.fget Reg.ENC_CTRL.IDX_MODE = 2 ∧ a.flag Reg.ENC_CTRL.ARM = true
      then ((b.setFld (fun f => { f with idxAt := some (pre % 2 ^ 18, b.now) })).pmcAdd 459).post (ev Code.ST_ENC_INDEX srcENC)
      else a) := by
  intro a pre val b
  have loaded : exec (.encoderIndex input) s = .next (
      if (a.fget Reg.ENC_CTRL.IDX_MODE = 1 || (a.fget Reg.ENC_CTRL.IDX_MODE = 2 && a.flag Reg.ENC_CTRL.ARM)) = true
      then ((b.setFld (fun f => { f with idxAt := some (pre % 2 ^ 18, b.now) })).pmcAdd 459).post (ev Code.ST_ENC_INDEX srcENC)
      else a) := by
    show execEncoderIndex input s = _
    simp only [execEncoderIndex, hdec, hmain]
    rfl
  rw [loaded]
  simp only [Bool.or_eq_true, Bool.and_eq_true, decide_eq_true_eq]

end

/-! ### The ENCOUT pair (R48) -/

theorem exec_encoutMCommit {s : State} {slot : Nat} (h : s.mayWrite slot Reg.ENCOUT_M.AT) (data : Word) :
    exec (.encoutMCommit slot data) s = .next ((s.inbound slot).encoutCommit slot data) :=
  congrArg Host.Outcome.next (State.ownerWrite_may h _)

/-- The numerator that a write of ENCOUT_M pairs: the one written before it, else the one in force. -/
def State.encoutNext (s : State) : Nat := s.tb.encoutBuf.getD (s.get Reg.ENCOUT_N.N)

section
variable {s : State} (slot : Nat) {data : Word}

theorem State.encoutCommit_valid (hlock : (s.setTb ({ · with encoutBuf := none })).lockedAt Reg.ENCOUT_M.AT = false)
    (hpos : 1 ≤ s.encoutNext) (hle : s.encoutNext ≤ data.toNat) :
    s.encoutCommit slot data = ((s.setTb ({ · with encoutBuf := none })).commitField Reg.ENCOUT_N.AT
      (BitVec.ofNat 32 s.encoutNext)).commitField Reg.ENCOUT_M.AT data := by
  have hgood : ¬(s.encoutNext = 0 ∨ data.toNat < s.encoutNext) := by omega
  simp only [State.encoutNext] at hgood
  simp [State.encoutCommit, hlock, hgood, State.encoutNext]

theorem State.encoutCommit_invalid (hlock : (s.setTb ({ · with encoutBuf := none })).lockedAt Reg.ENCOUT_M.AT = false)
    (hbad : s.encoutNext = 0 ∨ data.toNat < s.encoutNext) :
    s.encoutCommit slot data = (s.setTb ({ · with encoutBuf := none })).put Reg.ENC_STS.CFG_ERR 1 := by
  simp only [State.encoutNext] at hbad
  simp [State.encoutCommit, hlock, hbad]

theorem State.encoutCommit_locked (hlock : (s.setTb ({ · with encoutBuf := none })).lockedAt Reg.ENCOUT_M.AT = true) :
    s.encoutCommit slot data =
      let u := s.setTb ({ · with encoutBuf := none })
      if u.get Reg.ENCOUT_M.M ≠ data.toNat ∨ u.get Reg.ENCOUT_N.N ≠ s.encoutNext
      then u.reportAccess slot 0 Reg.ENCOUT_M.AT 1 else u := by
  rw [State.encoutCommit]
  simp only [hlock, if_true, State.when, Bool.or_eq_true, decide_eq_true_eq]
  rfl

end

/-- Settles O16: a count is `State.webCount_eq`, an ENCOUT pair one of the three `State.encoutCommit` equations. -/
theorem encoderCommands : Obligations.EncoderCommands := by
  refine ⟨?count, ?quadrature, ?compare, ?index, ?pair⟩
  case count =>
    intro s input level forward hdec hin
    refine ⟨fun hmain hlong => ?_, fun hother hlong => ?_, fun hshort => ?_⟩
    · rw [exec_encoderCount_main hdec hin hmain hlong, State.webCount_eq]
    · rw [exec_encoderCount_check hdec hin hother hlong]
    · rw [exec_encoderCount_short hshort]
  case quadrature =>
    intro s input hdec hmain
    exact exec_quadratureError_main hdec hmain
  case compare =>
    intro s
    dsimp only
    rw [exec_encCheckCompare]
    refine ⟨fun hen hfar => ?_, fun h => ?_⟩
    · rw [if_pos ⟨hen, hfar⟩]
    · rw [if_neg]
      rintro ⟨hen, hfar⟩
      rcases h with h | h
      · simp [h] at hen
      · exact Nat.not_lt.2 h hfar
  case index =>
    intro s input hdec hmain
    exact exec_encoderIndex_main hdec hmain
  case pair =>
    intro s slot data hmay
    rw [exec_encoutMCommit hmay]
    exact ⟨fun hlock hpos hle => congrArg _ (State.encoutCommit_valid slot hlock hpos hle),
      fun hlock hbad => congrArg _ (State.encoutCommit_invalid slot hlock hbad),
      fun hlock => congrArg _ (State.encoutCommit_locked slot hlock)⟩

end Sys2Proof.Machine
end

section
/-! PROOF. The position predictor (R51): a report's count, the move it makes, and the high-water position after it. -/

namespace Sys2Proof.Machine

/-- The index jump that a report leaves removed from the counts (R46): none before the first report. -/
def Seq.jumpAfter (x : Seq) (idxVal : Int) (r : EdgeReport) : Int :=
  if x.fresh then 0 else if r.idx then x.jump + wrapCount (fullPre x.lastC r.cpre - idxVal) else x.jump

/-- The predictor's move at a report whose corrected position is `c`: the first report sets it, one with an edge follows R51. -/
def Seq.moved (x : Seq) (kp kv rpt : Nat) (c : Int) (r : EdgeReport) : Seq :=
  if x.fresh then { x with ps := wrap48 c, v := 0, ts := r.te, fresh := false }
  else if !r.edge then x
  else
    let pp := x.ps + sar (x.v * ((r.te : Int) - x.ts)) 32
    let e := wrap48 (c - pp)
    { x with ps := wrap48 (pp + sar e kp), v := x.v + sar (e * 2 ^ 32) (kv + rpt), ts := r.te }

/-- A forward report raises the high-water position to a position ahead of it. -/
def Seq.raised (x : Seq) (reverse : Bool) : Seq :=
  if !reverse && 0 < wrap48 (x.ps - x.hwm) then { x with hwm := x.ps } else x

theorem Seq.take_eq (x : Seq) (kp kv rpt : Nat) (idxVal adj : Int) (r : EdgeReport) (tk : Nat) :
    x.take kp kv rpt idxVal adj r tk =
      { (x.moved kp kv rpt (((r.count : Int) + x.jumpAfter idxVal r - adj) * 65536) r).raised r.reverse with
        jump := x.jumpAfter idxVal r, lastTk := some tk, lastC := r.count, lastRev := r.reverse } := by
  have jump : (if x.fresh then 0 else
      if r.idx && !x.fresh then x.jump + wrapCount (fullPre x.lastC r.cpre - idxVal) else x.jump) = x.jumpAfter idxVal r := by
    cases h : x.fresh <;> simp [Seq.jumpAfter, h]
  rw [← jump]
  rfl

section
variable (x : Seq) (reverse : Bool)

@[simp] theorem Seq.raised_ps : (x.raised reverse).ps = x.ps := by
  unfold Seq.raised
  split <;> rfl

@[simp] theorem Seq.raised_v : (x.raised reverse).v = x.v := by
  unfold Seq.raised
  split <;> rfl

@[simp] theorem Seq.raised_ts : (x.raised reverse).ts = x.ts := by
  unfold Seq.raised
  split <;> rfl

@[simp] theorem Seq.raised_fresh : (x.raised reverse).fresh = x.fresh := by
  unfold Seq.raised
  split <;> rfl

theorem Seq.raised_hwm_forward : (x.raised false).hwm = if 0 < wrap48 (x.ps - x.hwm) then x.ps else x.hwm := by
  simp only [Seq.raised, Bool.not_false, Bool.true_and, decide_eq_true_eq]
  split <;> rfl

theorem Seq.raised_hwm_reverse : (x.raised true).hwm = x.hwm := rfl

end

section
variable {x : Seq} {r : EdgeReport} (kp kv rpt : Nat) (c : Int)

theorem Seq.moved_first (h : x.fresh = true) :
    x.moved kp kv rpt c r = { x with ps := wrap48 c, v := 0, ts := r.te, fresh := false } := by
  rw [Seq.moved, if_pos h]

theorem Seq.moved_still (h : x.fresh = false) (hedge : r.edge = false) : x.moved kp kv rpt c r = x := by
  simp [Seq.moved, h, hedge]

theorem Seq.moved_edge (h : x.fresh = false) (hedge : r.edge = true) :
    x.moved kp kv rpt c r =
      let pp := x.ps + sar (x.v * ((r.te : Int) - x.ts)) 32
      let e := wrap48 (c - pp)
      { x with ps := wrap48 (pp + sar e kp), v := x.v + sar (e * 2 ^ 32) (kv + rpt), ts := r.te } := by
  simp [Seq.moved, h, hedge]

end

/-- Settles O17: `Seq.take_eq`, with the predictor's move by the kind of report. -/
theorem predictorArithmetic : Obligations.PredictorArithmetic := by
  refine ⟨?edge, ?still, ?first⟩
  case edge =>
    intro x kp kv rpt idxVal adj r tk hfresh hidx hedge
    have hjump : x.jumpAfter idxVal r = x.jump := by simp [Seq.jumpAfter, hfresh, hidx]
    simp only [Seq.take_eq, hjump, Seq.moved_edge _ _ _ _ hfresh hedge, Seq.raised_ps, Seq.raised_v, Seq.raised_ts, true_and]
    refine ⟨fun hforward => ?_, fun hreverse => ?_⟩
    · rw [hforward, Seq.raised_hwm_forward]
    · rw [hreverse, Seq.raised_hwm_reverse]
  case still =>
    intro x kp kv rpt idxVal adj r tk hfresh hedge
    simp only [Seq.take_eq, Seq.moved_still _ _ _ _ hfresh hedge, Seq.raised_ps, Seq.raised_v, Seq.raised_ts, and_self]
  case first =>
    intro x kp kv rpt idxVal adj r tk hfresh
    have hjump : x.jumpAfter idxVal r = 0 := by simp [Seq.jumpAfter, hfresh]
    simp only [Seq.take_eq, hjump, Seq.moved_first _ _ _ _ hfresh, Seq.raised_ps, Seq.raised_v, Seq.raised_ts, Seq.raised_fresh, add_zero,
      and_self]

end Sys2Proof.Machine
end

section
/-! PROOF. Edge reports, the vote, the channels' self-tests, bar updates and late lines (R50 to R67, R430, R432, R559). -/

namespace Sys2Proof.Machine

section
variable {s : State}

/-! ### Edge reports and the vote -/

/-- Each channel sends its report, or replays, and the interval's edge, index and replay counts start anew. -/
theorem exec_edgeReport_sent {boundary : Nat} (hlock : s.fld.lock = true) (hgrid : boundary % 2 ^ s.fget Reg.TRK_CFG.RPT_LOG = 0)
    (hpast : boundary ≤ s.now) (hnew : s.fld.rptAt ≠ some boundary) :
    exec (.edgeReport boundary) s = .next ((s.each [0, 1, 2] (fun ch u =>
        if u.fld.replay.any (fun e => e.1 = ch) then
          (u.drawn.sendFrameAt boundary ch 5 (u.open_ 68 % 2 ^ 34)).sendFrameAt (boundary + 164) ch 6 (u.open_ 68 / 2 ^ 34 % 2 ^ 33)
        else u.reportFrames ch boundary)).setFld (fun f => { f with
      edgeAt := none, idxAt := none, rptAt := some boundary,
      replay := (f.replay.map (fun e => (e.1, e.2 - 1))).filter (fun e => e.2 ≠ 0) })) := by
  show Host.Outcome.next (if _ then s else _) = _
  rw [if_neg]
  simp [hlock, hgrid, Nat.not_lt.2 hpast, hnew]

/-- The state that a report enters: the channels that load have done so, and the jump of an index in the report is shown (R46, R63). -/
def State.readyFor (s : State) (channel : Nat) (rpt : EdgeReport) (tk : Nat) : State :=
  let a := s.loadChannels tk
  a.when (rpt.idx && !(a.seq channel).fresh)
    (·.putSat Reg.ENC_IDX_JUMP.JUMP (wrapCount (fullPre (a.seq channel).lastC rpt.cpre - a.getI Reg.ENC_IDX_VAL.VAL)))

theorem State.readyFor_eq_if (s : State) (channel : Nat) (rpt : EdgeReport) (tk : Nat) :
    let a := s.loadChannels tk
    s.readyFor channel rpt tk = if rpt.idx = true ∧ (a.seq channel).fresh = false
      then a.putSat Reg.ENC_IDX_JUMP.JUMP (wrapCount (fullPre (a.seq channel).lastC rpt.cpre - a.getI Reg.ENC_IDX_VAL.VAL)) else a := by
  simp only [State.readyFor, State.when, Bool.and_eq_true, Bool.not_eq_true']

/-- A report enters its channel's sequencer, or on a standby the shadow of it (R66, R322). -/
def State.enter (s : State) (channel : Nat) (rpt : EdgeReport) (tk : Nat) : State :=
  if s.votesOwn then s.seqReport channel tk s.due.adjOwn rpt
  else s.setDue (fun d => { d with shadow := updateAt d.shadow channel (s.taken rpt tk 0) })

theorem State.enter_own (h : s.votesOwn = true) (channel : Nat) (rpt : EdgeReport) (tk : Nat) :
    s.enter channel rpt tk = s.seqReport channel tk s.due.adjOwn rpt := if_pos h

theorem State.enter_standby (h : s.votesOwn = false) (channel : Nat) (rpt : EdgeReport) (tk : Nat) :
    s.enter channel rpt tk = s.setDue (fun d => { d with shadow := updateAt d.shadow channel (s.taken rpt tk 0) }) :=
  if_neg (Bool.not_eq_true _ ▸ h)

/-- An expected report that arrives in time enters and is kept. -/
theorem exec_edgeReportReceive_taken {channel arrival : Nat} (rpt : EdgeReport) :
    let tk := arrival / 2 ^ s.get Reg.TRK_CFG.RPT_LOG * 2 ^ s.get Reg.TRK_CFG.RPT_LOG
    channel < 3 → s.flag Reg.FLD_STS.TIME_LOCK = true → s.expects tk = true → s.lastDue tk = false → arrival ≤ tk + 1000 →
    exec (.edgeReportReceive channel rpt arrival) s
      = .next (((s.readyFor channel rpt tk).enter channel rpt tk).keepLocal channel tk (some rpt)) := by
  intro tk hch hlock hexp hdue hin
  show Host.Outcome.next (if _ then s else ((s.readyFor channel rpt tk).enter channel rpt tk).keepLocal channel tk (some rpt)) = _
  rw [if_neg]
  simp [Nat.not_le.2 hch, hlock, hexp, hdue, Nat.not_lt.2 hin, tk]

theorem exec_reportStale_late {channel boundary : Nat} (hch : channel < 3) (hgrid : boundary % 2 ^ s.get Reg.TRK_CFG.RPT_LOG = 0)
    (hpast : boundary + 1000 ≤ s.now) (hexp : s.expects boundary = true)
    (htest : (if s.votesOwn then s.seq channel else s.due.shadow.getD channel {}).testing = false)
    (hnone : (if s.votesOwn then s.seq channel else s.due.shadow.getD channel {}).lastTk ≠ some boundary) :
    exec (.reportStale channel boundary) s
      = .next ((s.put Reg.ENC_STS.STALE (putBit (s.get Reg.ENC_STS.STALE) channel true)).keepLocal channel boundary none) := by
  show execReportStale channel boundary s = _
  simp [-List.getD_eq_getElem?_getD, execReportStale, Nat.not_le.2 hch, hgrid, Nat.not_lt.2 hpast, hexp, htest, hnone]

theorem exec_troikaVote_taken {boundary : Nat} (hgrid : boundary % 2 ^ s.get Reg.TRK_CFG.RPT_LOG = 0) (hpast : boundary ≤ s.now)
    (hnew : s.tb.lastVote ≠ some boundary) (hexp : s.expects boundary = true ∨ s.votesOwn = false) (hin : s.reportsIn boundary = true) :
    exec (.troikaVote boundary) s
      = .next (((((s.loadChannels boundary).feedPeer boundary).countDiff boundary).report boundary).calWatch) := by
  show execTroikaVote boundary s = _
  have hvotes : (s.expects boundary || !s.votesOwn) = true := by
    rcases hexp with h | h <;> simp [h]
  simp [execTroikaVote, hgrid, Nat.not_lt.2 hpast, hnew, hvotes, hin]

/-! ### Self-tests of a channel (R63, R64) -/

theorem exec_trkSelftest {slot : Nat} (h : s.mayWrite slot Reg.TRK_CTRL.AT) (channels : Nat) :
    exec (.trkSelftest slot channels) s = .next ((s.inbound slot).each (bitList 3 channels) State.requestTest) :=
  congrArg Host.Outcome.next (State.ownerWrite_may h _)

theorem State.requestTest_eq (s : State) (ch : Nat) :
    s.requestTest ch =
      if bit (s.get Reg.TRK_STS.TESTING) ch = true then s
      else if bit (s.get Reg.TRK_STS.IN) ch = false then s.channelTest ch
      else if s.inVote.length = 3 then (s.leaveVote ch).channelTest ch
      else s := by
  simp only [State.requestTest, Bool.not_eq_true']

section
variable {channel : Nat} (hch : channel < 3)
include hch

/-- The replay of a channel under test ends: it loads where the replay matched and the field die had carried it out, else it fails. -/
theorem exec_trkSelftestDone_tested (htest : (s.seq channel).testing = true) (hload : (s.seq channel).loadAt = none)
    (replayMatches : Bool) :
    exec (.trkSelftestDone channel replayMatches) s = .next (if (replayMatches && (s.seq channel).replays) = true
      then s.setSeq channel (fun x => { x with
        loadAt := some ((s.now / 2 ^ s.get Reg.TRK_CFG.RPT_LOG + 1) * 2 ^ s.get Reg.TRK_CFG.RPT_LOG) })
      else s.channelFails channel) := by
  show execTrkSelftestDone channel replayMatches s = _
  cases replayMatches <;> cases hreplay : (s.seq channel).replays <;>
    simp [execTrkSelftestDone, Nat.not_le.2 hch, htest, hload, hreplay]

theorem exec_trkShadowEnd_ended (hshadow : (s.seq channel).shadow = some 0) :
    exec (.trkShadowEnd channel) s = .next (if (s.seq channel).shadowBad = true then s.channelFails channel
      else
        let a := s.put Reg.TRK_STS.TESTING (putBit (s.get Reg.TRK_STS.TESTING) channel false)
        let b := a.put Reg.TRK_STS.FAILED (putBit (a.get Reg.TRK_STS.FAILED) channel false)
        let c := b.put Reg.TRK_STS.IN (putBit (b.get Reg.TRK_STS.IN) channel true)
        let d := (c.putB Reg.TRK_STS.DUAL (c.get Reg.TRK_STS.IN ≠ 7)).setSeq channel ({ · with shadow := none })
        (d.post (ev Code.ST_TRK_SELFTEST_PASS (srcT channel))).channelOutcome channel 1) := by
  show execTrkShadowEnd channel s = _
  simp [execTrkShadowEnd, Nat.not_le.2 hch, hshadow]

end

/-! ### Late lines and bar updates (R67, R55) -/

theorem exec_stLateWork_late {port row line : Nat} {l : PLine}
    (hline : s.job.lines.find? (fun l => l.row = 16 * port + row && l.line = line) = some l) (hdue : l.tf ≤ s.now + 16000)
    (hlate : l.incomplete = true) : exec (.stLateWork port row line) s = .next (s.deadline l) := by
  show execStLateWork port row line s = _
  rw [execStLateWork, hline]
  simp [Nat.not_lt.2 hdue, hlate]

end

theorem exec_barUpdateCommit {s : State} {slot : Nat} (h : s.mayWrite slot Reg.TRK_BUPD_CTRL.AT) (data : Word) :
    exec (.barUpdateCommit slot data) s
      = .next ((s.inbound slot).commitWrite slot Reg.TRK_BUPD_CTRL.AT data State.barCommit) :=
  congrArg Host.Outcome.next (State.ownerWrite_may h _)

section
variable (s : State) (slot a : Nat) (f : State → State) {data : Word}

/-- A write of a control register of updates without COMMIT. -/
theorem State.commitWrite_fields (h : bit data.toNat 8 = false) :
    s.commitWrite slot a data f = (s.writeFields slot a data).showQueues := by
  rw [State.commitWrite, State.trigger, h, State.when_false]

theorem State.commitWrite_standby (h : bit data.toNat 8 = true) (hrole : (s.writeFields slot a data).get Reg.DUE_STS.ROLE = 2) :
    s.commitWrite slot a data f = ((s.writeFields slot a data).put Reg.DUE_EVT.CFG_ERR 1).showQueues := by
  rw [State.commitWrite, State.trigger, h, State.when_true, if_pos hrole]

theorem State.commitWrite_carried (h : bit data.toNat 8 = true) (hrole : (s.writeFields slot a data).get Reg.DUE_STS.ROLE ≠ 2) :
    s.commitWrite slot a data f = (f (s.writeFields slot a data)).showQueues := by
  rw [State.commitWrite, State.trigger, h, State.when_true, if_neg hrole]

end

theorem State.barUpdate_eq (s : State) (b line sc : Nat) (ofs : Int) :
    s.barUpdate b line sc ofs = (s.barResult b line sc ofs,
      match s.barResult b line sc ofs with
      | 0 => s.queueBar b line sc ofs
      | 1 => s.post (ev Code.ST_TRK_UPDATE_PAST srcTRK none line (dataBar b))
      | 2 => s.post (ev Code.ST_TRK_UPDATE_LIMIT srcTRK none line (dataBar b))
      | _ => s) := by
  rw [State.barUpdate]
  match s.barResult b line sc ofs with
  | 0 => rfl
  | 1 => rfl
  | 2 => rfl
  | _ + 3 => rfl

/-- TRK_BUPD_CTRL.COMMIT: the update of the control registers is judged, and RESULT shows how (R55). -/
theorem State.barCommit_eq (s : State) :
    let b := s.get Reg.TRK_BUPD_CTRL.BAR
    let line := s.get64 Reg.TRK_BUPD_LINE.PAIR
    let sc := s.get Reg.TRK_BUPD_S.S
    let ofs := s.getI Reg.TRK_BUPD_B.B
    s.barCommit = ((match s.barResult b line sc ofs with
      | 0 => s.queueBar b line sc ofs
      | 1 => s.post (ev Code.ST_TRK_UPDATE_PAST srcTRK none line (dataBar b))
      | 2 => s.post (ev Code.ST_TRK_UPDATE_LIMIT srcTRK none line (dataBar b))
      | _ => s).put Reg.TRK_BUPD_CTRL.RESULT (s.barResult b line sc ofs)).showQueues := by
  simp only [State.barCommit, State.barUpdate_eq]

/-- Settles O18: an equation for each command that meets its conditions; a report enters by `State.readyFor_eq_if`, an update is judged by
`State.barCommit_eq`. -/
theorem troikaCommands : Obligations.TroikaCommands := by
  refine ⟨?send, ?receive, ?stale, ?vote, ?ask, ?request, ?replay, ?shadow, ?late, ?update⟩
  case send =>
    intro s boundary hlock hgrid hpast hnew
    exact exec_edgeReport_sent hlock hgrid hpast hnew
  case receive =>
    intro s channel arrival rpt tk hch hlock hexp hdue hin a b
    have ready : s.readyFor channel rpt tk = b := State.readyFor_eq_if s channel rpt tk
    rw [exec_edgeReportReceive_taken rpt hch hlock hexp hdue hin, ready]
    exact ⟨fun hown => by rw [State.enter_own hown], fun hstandby => by rw [State.enter_standby hstandby]⟩
  case stale =>
    intro s channel boundary hch hgrid hpast hexp mine htest hnone
    exact exec_reportStale_late hch hgrid hpast hexp htest hnone
  case vote =>
    intro s boundary hgrid hpast hnew hexp hin
    exact exec_troikaVote_taken hgrid hpast hnew hexp hin
  case ask =>
    intro s slot channels hmay
    exact exec_trkSelftest hmay channels
  case request => exact State.requestTest_eq
  case replay =>
    intro s channel hch htest hload
    refine ⟨fun hruns => ?_, ?_, fun hignored => ?_⟩
    · rw [exec_trkSelftestDone_tested hch htest hload, hruns, Bool.and_true, if_pos rfl]
    · rw [exec_trkSelftestDone_tested hch htest hload, Bool.false_and, if_neg Bool.false_ne_true]
    · rw [exec_trkSelftestDone_tested hch htest hload, hignored, Bool.and_false, if_neg Bool.false_ne_true]
  case shadow =>
    intro s channel hch hshadow
    rw [exec_trkShadowEnd_ended hch hshadow]
    exact ⟨fun hclean => by rw [if_neg (by simp [hclean])], fun hbad => by rw [if_pos hbad]⟩
  case late =>
    intro s port row line l hline hdue hlate
    exact exec_stLateWork_late hline hdue hlate
  case update =>
    intro s slot data hmay w b line sc ofs
    rw [exec_barUpdateCommit hmay]
    refine ⟨fun h => ?_, fun h hrole => ?_, fun h hrole => ?_⟩
    · rw [State.commitWrite_fields _ _ _ _ h]
    · rw [State.commitWrite_standby _ _ _ _ h hrole]
    · rw [State.commitWrite_carried _ _ _ _ h hrole]
      exact congrArg (fun u => Host.Outcome.next u.showQueues) (State.barCommit_eq w)

end Sys2Proof.Machine
end

section
/-! PROOF. The start of a chain, its end, and the end of a screen set's preload (R53, R89, R92, R97, R119, R144). -/

namespace Sys2Proof.Machine

section
variable {s : State}

/-! ### Chains start (R53, R89) -/

/-- A chain starts with its origin: the start is ordered to a standby, and calibration batches take their cells. -/
def State.started (s : State) (c : Chain) (boundary : Nat) (base : Int) : State :=
  let o := wrap48 (base + c.ofs * 65536)
  let t := (s.startChain c o).order [0, boundary, unsigned 64 o]
  t.each ((t.cal.batches.map (·.bar)).eraseDups) (fun b s => s.assignShare b)

/-- Whether a chain may start at a boundary (R89): its mode and first printing boundary, no standby, and what publication asks. -/
structure State.MayStart (s : State) (c : Chain) (boundary : Nat) : Prop where
  mode : if c.cal then s.mode = 9 else s.modeIn 6 7 = true ∧ s.pwr.printFrom ≤ boundary
  role : s.get Reg.DUE_STS.ROLE ≠ 2
  expected : s.expects boundary = true
  forward : s.tb.dirRev = false
  moving : s.flag Reg.TRK_STS.CRAWL = false
  majority : s.tb.noMaj = false
  past : boundary ≤ s.now
  grid : boundary % 2 ^ s.get Reg.TRK_CFG.RPT_LOG = 0

/-- The model's test of a start, as a chain that may start meets it. -/
theorem State.MayStart.allowed {c : Chain} {boundary : Nat} (h : s.MayStart c boundary) :
    ((if c.cal then s.mode = 9 else s.modeIn 6 7 && s.pwr.printFrom ≤ boundary) && s.get Reg.DUE_STS.ROLE ≠ 2 && s.expects boundary
      && !s.tb.dirRev && !s.flag Reg.TRK_STS.CRAWL && !s.tb.noMaj && s.now ≥ boundary
      && boundary % 2 ^ s.get Reg.TRK_CFG.RPT_LOG = 0) = true := by
  obtain ⟨hmode, hrole, hexp, hforward, hmoving, hmaj, hpast, hgrid⟩ := h
  have mode : (if c.cal then decide (s.mode = 9) else s.modeIn 6 7 && decide (s.pwr.printFrom ≤ boundary)) = true := by
    cases hcal : c.cal <;> simp_all
  simp [mode, hrole, hexp, hforward, hmoving, hmaj, hpast, hgrid]

theorem exec_chainStart_lead {c : Chain} {boundary : Nat} (hwait : s.waitingChain = some c) (hmay : s.MayStart c boundary)
    (hindex : c.index = false) (indexTe : Option Nat) :
    exec (.chainStart boundary indexTe) s = .next (s.started c boundary s.leadSeq.hwm) := by
  show execChainStart boundary indexTe s = _
  simp only [execChainStart, hwait, hindex, hmay.allowed]
  rfl

theorem exec_chainStart_index {c : Chain} {boundary : Nat} (hwait : s.waitingChain = some c) (hmay : s.MayStart c boundary)
    (hindex : c.index = true) (te : Nat) :
    exec (.chainStart boundary (some te)) s
      = .next (s.started c boundary (s.leadSeq.ps + sar (s.leadSeq.v * ((te : Int) - s.leadSeq.ts)) 32)) := by
  show execChainStart boundary (some te) s = _
  simp only [execChainStart, hwait, hindex, hmay.allowed]
  rfl

/-! ### Chains end (R97) -/

theorem exec_chainEnd_done {c : Chain} (hdone : s.flying.find? s.chainDone = some c) :
    let u := s.closeChainFrames c.id
    let t := (((u.pagesDone.finishChain c).refire c.id (u.chainAfter c.id)).pagesDone).settleMove.refreshCeil
    exec .chainEnd s = .next (t.each ((t.cal.batches.map (·.bar)).eraseDups) (fun b s => s.assignShare b)) := by
  show execChainEnd s = _
  rw [execChainEnd, hdone]

/-! ### A preload ends (R119, R144) -/

section
variable {set : List Byte} {addr len bank : Nat} (hset : s.job.lastSet = some (addr, len, bank, .loading))
    (hfree : s.job.lines.any (fun l => l.bank = bank && l.blocks.any (·.words = none)) = false) (bad : List Nat)

/-- The bars that the job whose set it is prints with. -/
def State.setBars (s : State) : List Nat := (s.job.busyFor.bind (fun id => (s.job.jobs.find? (·.id = id)).map (·.bars))).getD []

/-- The bank holds the set: valid in every engine but those whose copy failed twice, each of which is told. -/
def State.fillBank (s : State) (set : List Byte) (addr len bank : Nat) (bad : List Nat) : State :=
  let held := s.setEng (fun e => { e with
    bankA := if bank = 0 then set else e.bankA, bankB := if bank = 1 then set else e.bankB,
    badCopy := (bad.filter (· < 64)).map (fun n => (n, bank)) ++ e.badCopy })
  let shown := held.each (List.range 64) (fun n u => u.put (Reg.SE_STS.SHADOW n) (if bad.contains n then 3 else 2))
  (shown.each (bad.filter (· < 64)) (fun n u => u.post (ev Code.ST_SCREEN_SET_BAD (srcSE n)))).setJobs
    ({ · with lastSet := some (addr, len, bank, .valid) })

/-- A job that waited for the set is ready from its chain's reach on, or bad where its own bars fail. -/
def State.jobLoaded (set : List Byte) (x : Job) (u : State) : State :=
  match barsFail set x.bars with
  | some off => (u.setJob x.id ({ · with preload := .bad })).screenBad off
  | none => u.setJob x.id (fun y => { y with
      preload := .valid, readyLine := some (max (u.chainReach x.chain) (if y.z < farLine then y.z else 0)) })

include hset hfree

theorem exec_screenPreloadDone_failed {off : Nat} (hfails : screenFails set len s.setBars = some off) :
    exec (.screenPreloadDone set bad) s = .next (s.screenFailed addr len bank off) := by
  show execScreenPreloadDone set bad s = _
  rw [State.setBars] at hfails
  simp only [execScreenPreloadDone, hset, hfree, hfails]
  rfl

theorem exec_screenPreloadDone_valid (hvalid : screenFails set len s.setBars = none) :
    exec (.screenPreloadDone set bad) s = .next (
      (s.fillBank set addr len bank bad).each
        ((s.fillBank set addr len bank bad).job.jobs.filter (fun x => x.bank = bank && x.preload = .loading)) (State.jobLoaded set)) := by
  show execScreenPreloadDone set bad s = _
  rw [State.setBars] at hvalid
  simp only [execScreenPreloadDone, hset, hfree, hvalid]
  rfl

end
end

/-- Settles O20: a chain that `State.MayStart` starts from its base position; a set that passes its checks fills its bank. -/
theorem chainAndScreenCommands : Obligations.ChainAndScreenCommands := by
  refine ⟨?start, ?finish, ?preload⟩
  case start =>
    intro s boundary c hwait hmode hrole hexp hforward hmoving hmaj hpast hgrid
    have hmay : s.MayStart c boundary := ⟨hmode, hrole, hexp, hforward, hmoving, hmaj, hpast, hgrid⟩
    exact ⟨fun hindex indexTe => exec_chainStart_lead hwait hmay hindex indexTe,
      fun hindex te => exec_chainStart_index hwait hmay hindex te⟩
  case finish =>
    intro s c hdone
    exact exec_chainEnd_done hdone
  case preload =>
    intro s set bad addr len bank hset hfree
    exact ⟨fun off hfails => exec_screenPreloadDone_failed hset hfree bad hfails,
      fun hvalid => exec_screenPreloadDone_valid hset hfree bad hvalid⟩

end Sys2Proof.Machine
end

section
/-! PROOF. Jobs, pages, replacements and bands (R76 to R87, R93, R98, R379): an equation for each outcome of their commands. -/

namespace Sys2Proof.Machine

section
variable {s : State} {ring : Nat} {d : Desc}

/-! ### Job descriptors (R79, R93, R98) -/

/-- Whether a job descriptor's turn has come: it stands at the head of a running job ring, in the mode that its kind needs (R98). -/
structure State.JobTurn (s : State) (ring : Nat) (d : Desc) : Prop where
  head : s.headDesc ring = some d
  type : s.ringType ring = 1
  kind : d.kind = 1
  mode : if d.jobBody.cal then s.mode = 9 else s.modeIn 4 7 = true

/-- The model's test of a job descriptor's turn, as one whose turn has come meets it. -/
theorem State.JobTurn.allowed (h : s.JobTurn ring d) :
    (s.ringType ring ≠ 1 || d.kind ≠ 1 || !(if d.jobBody.cal then s.mode = 9 else s.modeIn 4 7)) = false := by
  obtain ⟨-, htype, hkind, hmode⟩ := h
  have mode : (if d.jobBody.cal then decide (s.mode = 9) else s.modeIn 4 7) = true := by
    cases hcal : d.jobBody.cal <;> simpa [hcal] using hmode
  simp [htype, hkind, mode]

/-- The geometry table of a job descriptor is read from the host. -/
def State.readGeometry (s : State) (ring : Nat) (d : Desc) : State :=
  s.send (.hostRead (s.ringPort ring) (d.at_ 40 8) d.jobBody.geomLen)

/-- A job is held till a chain or a screen set is free (R93). -/
def State.holdJob (s : State) (b : JobBody) : State :=
  (s.setJobs ({ · with held := some (b.join, b.id) })).put Reg.JOB_STS.HELD 1

/-- A job is refused: its number is kept for its pages, it is no longer held, and its descriptor completes with the check's code (R79). -/
def State.refuseJob (s : State) (ring : Nat) (d : Desc) (code : Nat) : State :=
  let x := s.setJobs (fun j => { j with refused := d.jobBody.id :: j.refused.filter (· ≠ d.jobBody.id) })
  State.pageEnds (if x.job.held.any (fun h => h.2 = d.jobBody.id) then x.notHeld else x) ring d code

section
variable (h : s.JobTurn ring d) {geom : List Byte} {v : State}
include h

theorem exec_job_accepted (hpass : (s.readGeometry ring d).jobRefusal d d.jobBody geom = (none, v))
    (hfree : v.jobHeld d.jobBody = false) : exec (.job ring geom) s = .next (v.acceptJob ring d.index d.jobBody geom) := by
  show execJob ring geom s = _
  rw [State.readGeometry] at hpass
  simp only [execJob, h.head, h.allowed, hpass, hfree, Bool.false_eq_true, if_false]

theorem exec_job_held (hpass : (s.readGeometry ring d).jobRefusal d d.jobBody geom = (none, v))
    (hheld : v.jobHeld d.jobBody = true) : exec (.job ring geom) s = .next (v.holdJob d.jobBody) := by
  show execJob ring geom s = _
  rw [State.readGeometry] at hpass
  simp only [execJob, h.head, h.allowed, hpass, hheld]
  rfl

theorem exec_job_refused {code : Nat} (hfails : (s.readGeometry ring d).jobRefusal d d.jobBody geom = (some code, v)) :
    exec (.job ring geom) s = .next (v.refuseJob ring d code) := by
  show execJob ring geom s = _
  rw [State.readGeometry] at hfails
  simp only [execJob, h.head, h.allowed, hfails]
  rfl

end

/-! ### Page descriptors (R81, R82) -/

/-- Whether a page descriptor stands at the head of a running job ring. -/
structure State.PageTurn (s : State) (ring : Nat) (d : Desc) : Prop where
  head : s.headDesc ring = some d
  type : s.ringType ring = 1
  kind : d.kind = 2

/-- The model's test of a page descriptor's turn, as one whose turn has come meets it. -/
theorem State.PageTurn.allowed (h : s.PageTurn ring d) : (s.ringType ring ≠ 1 || d.kind ≠ 2) = false := by
  simp [h.type, h.kind]

section
variable (h : s.PageTurn ring d) (table : List Byte)
include h

theorem exec_page_ofRefusedJob (hrefused : s.job.refused.contains (d.at_ 16 2) = true) :
    exec (.page ring table) s = .next (s.pageEnds ring d Code.ST_JOB_REFUSED) := by
  show execPage ring table s = _
  simp only [execPage, h.head, h.allowed, hrefused, Bool.false_eq_true, if_false, if_true]

section
variable (htaken : s.job.refused.contains (d.at_ 16 2) = false)
include htaken

theorem exec_page_malformed (hbad : pageFormatBad d = true) :
    exec (.page ring table) s = .next (s.pageEnds ring d Code.ST_JOB_FORMAT) := by
  show execPage ring table s = _
  simp only [execPage, h.head, h.allowed, htaken, hbad, Bool.false_eq_true, if_false, if_true]

section
variable (hgood : pageFormatBad d = false)
include hgood

/-- A page of a job that has not been accepted waits with its job, and is malformed where no such job waits. -/
theorem exec_page_jobless (hnone : s.job.jobs.find? (·.id = d.at_ 16 2) = none) :
    exec (.page ring table) s = .next (if s.jobWaits (d.at_ 16 2) then s else s.pageEnds ring d Code.ST_JOB_FORMAT) := by
  show execPage ring table s = _
  simp only [execPage, h.head, h.allowed, htaken, hgood, hnone]
  rfl

section
variable {j : Job} (hjob : s.job.jobs.find? (·.id = d.at_ 16 2) = some j) (hnew : bit (d.at_ 18 2) 1 = false)
include hjob hnew

theorem exec_page_outOfOrder (horder : d.at_ 20 4 ≠ j.nextPage ∨ j.total.isSome = true) :
    exec (.page ring table) s = .next (s.pageEnds ring d Code.ST_PAGE_ORDER) := by
  have order : (d.at_ 20 4 ≠ j.nextPage || j.total.isSome) = true := by simpa using horder
  show execPage ring table s = _
  simp only [execPage, h.head, h.allowed, htaken, hgood, hjob, hnew, order, Bool.false_eq_true, if_false, if_true]

/-- The page that its job takes next joins it with its bands, and completes where its band table does not fit. -/
theorem exec_page_next (hno : d.at_ 20 4 = j.nextPage) (hopen : j.total.isSome = false) :
    let u := s.send (.hostRead (s.ringPort ring) (d.at_ 32 8) (16 * d.at_ 28 4))
    exec (.page ring table) s = .next ((pageBands j (d.at_ 24 4) table (d.at_ 28 4)).elim
      (u.pageEnds ring d Code.ST_JOB_FORMAT) (u.addPage ring d j)) := by
  have order : (d.at_ 20 4 ≠ j.nextPage || j.total.isSome) = false := by simp [hno, hopen]
  show execPage ring table s = _
  simp only [execPage, h.head, h.allowed, htaken, hgood, hjob, hnew, order]
  cases pageBands j (d.at_ 24 4) table (d.at_ 28 4) <;> rfl

end
end
end
end

/-! ### Replacements (R86, R87) -/

section
variable {j : Job} {boundary : Nat} (table : List Byte)

section
variable {p : Page} (h : s.replacement ring = some (d, j, some p))
include h

theorem exec_pageReplaceDecision_otherLines (hlines : d.at_ 24 4 ≠ p.lines) :
    exec (.pageReplaceDecision ring boundary table) s = .next (s.pageEnds ring d Code.ST_REPLACE_LINES) := by
  show execPageReplaceDecision ring boundary table s = _
  simp only [execPageReplaceDecision, h, if_pos hlines]

variable (hlines : d.at_ 24 4 = p.lines)
include hlines

/-- The chain's rows decide, at the boundary last voted. -/
theorem exec_pageReplaceDecision_byReach (hrole : s.get Reg.DUE_STS.ROLE ≠ 2) (hvote : s.tb.lastVote = some boundary) :
    exec (.pageReplaceDecision ring boundary table) s
      = .next (s.decideReplace ring table d j p (s.chainReach j.chain + s.get Reg.JOB_RPL_GUARD.GUARD ≤ p.first)) := by
  show execPageReplaceDecision ring boundary table s = _
  simp only [execPageReplaceDecision, h, if_neg (not_not.2 hlines), if_neg hrole, if_neg (not_not.2 hvote)]

/-- The primary's decision, first in a standby's queue of orders, decides there. -/
theorem exec_pageReplaceDecision_byPrimary {a : Bool} {l : List Order} (hrole : s.get Reg.DUE_STS.ROLE = 2)
    (horder : s.due.orders = .replace p.first a :: l) :
    exec (.pageReplaceDecision ring boundary table) s = .next ((s.setDue (fun x => { x with
      orders := x.orders.filter (fun o => o ≠ .replace p.first a) })).decideReplace ring table d j p a) := by
  show execPageReplaceDecision ring boundary table s = _
  simp only [execPageReplaceDecision, h, if_neg (not_not.2 hlines), if_pos hrole, horder, List.findSome?_cons, if_true]

end

section
variable {no first lines : Nat} (h : s.replacement ring = some (d, j, none))
    (hdone : j.done.find? (·.1 = d.at_ 20 4) = some (no, first, lines))
include h hdone

theorem exec_pageReplaceDecision_doneOtherLines (hlines : d.at_ 24 4 ≠ lines) :
    exec (.pageReplaceDecision ring boundary table) s = .next (s.pageEnds ring d Code.ST_REPLACE_LINES) := by
  show execPageReplaceDecision ring boundary table s = _
  simp only [execPageReplaceDecision, h, hdone, if_pos hlines]

theorem exec_pageReplaceDecision_late (hlines : d.at_ 24 4 = lines) (hvote : s.tb.lastVote = some boundary) :
    exec (.pageReplaceDecision ring boundary table) s = .next (s.pageEnds ring d Code.ST_REPLACE_LATE) := by
  show execPageReplaceDecision ring boundary table s = _
  simp only [execPageReplaceDecision, h, hdone, if_neg (not_not.2 hlines), hvote, decide_true, State.when_true]

end
end

/-! ### Bands (R83, R84, R379) -/

section
variable {j : Job} {p : Page} {b : Band} {c : Chain} {ch : Nat} (hchain : s.chain? j.chain = some c)

/-- The last chain line of a band. -/
def bandEnd (j : Job) (p : Page) (b : Band) : Nat := p.first + b.idx * j.bandLines + bandSpan j p b.idx - 1

include hchain

theorem exec_bandDispatch_starts {l : List (Job × Page × Band)} (hwait : s.waitingBands = (j, p, b) :: l)
    (hidle : s.idlePageChannel = some ch) (hnear : p.first < farLine) (hfree : s.slotFree c (bandEnd j p b) = true)
    (hon : s.domOn 11 = true) :
    let u := s.setBand j.id p.no b.idx b.bar ({ · with st := .running ch })
    exec .bandDispatch s = .next ((u.put Reg.ZIP_STS.PAGE_BUSY (putBit (u.get Reg.ZIP_STS.PAGE_BUSY) ch true)).send
      (.hostRead (u.ringPort p.ring) b.addr b.len)) := by
  show execBandDispatch s = _
  rw [bandEnd] at hfree
  simp only [execBandDispatch, hwait, hidle, hchain, hfree, hon, decide_eq_false (Nat.not_le.2 hnear)]
  rfl

/-- A band's stream has ended: its lines are written and its channel is free. -/
def State.bandWritten (s : State) (ch : Nat) (c : Chain) (j : Job) (p : Page) (b : Band) (out : List Byte) (used : Nat)
    (bad : Option (Nat × Option Nat)) : State :=
  ((s.writeBand c j p b out).put Reg.ZIP_STS.PAGE_BUSY (putBit (s.get Reg.ZIP_STS.PAGE_BUSY) ch false)).zipWork ch used out.length
    (bad.any (·.2.isSome))

section
variable {stream : Option (List Byte)} {out : List Byte} {used : Nat} (hrun : s.runningBand ch = some (j, p, b))
include hrun

theorem exec_bandComplete_inflated
    (hresult : bandResult p.zlib (bandSpan j p b.idx * j.cw * (1 + j.depth)) (stream.map (fun bs => bs.take b.len)) = (out, used, none)) :
    let u := s.bandWritten ch c j p b out used none
    exec (.bandComplete ch stream) s = .next (u.setBand j.id p.no b.idx b.bar ({ · with st := .complete, doneAt := u.now })) := by
  show execBandComplete ch stream s = _
  simp only [execBandComplete, hrun, hchain, hresult]
  rfl

theorem exec_bandComplete_failed {code : Nat} {why : Option Nat}
    (hresult : bandResult p.zlib (bandSpan j p b.idx * j.cw * (1 + j.depth)) (stream.map (fun bs => bs.take b.len))
      = (out, used, some (code, why))) :
    exec (.bandComplete ch stream) s
      = .next (((s.bandWritten ch c j p b out used (some (code, why))).setBand j.id p.no b.idx b.bar ({ · with st := .failed code })).post
          (ev code srcJOB why (some (bandLineArg j p b)) (dataBar b.bar))) := by
  show execBandComplete ch stream s = _
  simp only [execBandComplete, hrun, hchain, hresult]
  rfl

end
end
end

/-- Settles O19: an equation for each outcome of a descriptor whose turn has come, of a replacement, and of a band's start and end. -/
theorem jobAndPageCommands : Obligations.JobAndPageCommands := by
  refine ⟨?job, ?page, ?replace, ?replaceDone, ?dispatch, ?complete⟩
  case job =>
    intro s ring geom d hhead htype hkind hmode u v
    have turn : s.JobTurn ring d := ⟨hhead, htype, hkind, hmode⟩
    exact ⟨fun hpass hfree => exec_job_accepted turn (Prod.ext hpass rfl) hfree,
      fun hpass hheld => exec_job_held turn (Prod.ext hpass rfl) hheld,
      fun code hfails => exec_job_refused turn (Prod.ext hfails rfl)⟩
  case page =>
    intro s ring table d hhead htype hkind found
    have turn : s.PageTurn ring d := ⟨hhead, htype, hkind⟩
    refine ⟨exec_page_ofRefusedJob turn table, exec_page_malformed turn table, exec_page_jobless turn table, ?_⟩
    intro j htaken hgood hjob hnew
    refine ⟨exec_page_outOfOrder turn table htaken hgood hjob hnew, fun hno hopen => ?_⟩
    rw [exec_page_next turn table htaken hgood hjob hnew hno hopen]
    exact ⟨fun bands hbands => by rw [hbands]; rfl, fun hbands => by rw [hbands]; rfl⟩
  case replace =>
    intro s ring boundary table d j p hreplace
    refine ⟨exec_pageReplaceDecision_otherLines table hreplace, exec_pageReplaceDecision_byReach table hreplace, ?_⟩
    intro first l a hlines hrole hfirst horders
    exact exec_pageReplaceDecision_byPrimary table hreplace hlines hrole (hfirst ▸ horders)
  case replaceDone =>
    intro s ring boundary table d j no first lines hreplace hdone
    exact ⟨exec_pageReplaceDecision_doneOtherLines table hreplace hdone, exec_pageReplaceDecision_late table hreplace hdone⟩
  case dispatch =>
    intro s j p b l ch c hwait hidle hchain hnear hfree hon
    exact exec_bandDispatch_starts hchain hwait hidle hnear hfree hon
  case complete =>
    intro s ch stream j p b c out used bad hrun hchain hresult v u
    exact ⟨fun hbad => by subst hbad; exact exec_bandComplete_inflated hchain hrun hresult,
      fun code why hbad => by subst hbad; exact exec_bandComplete_failed hchain hrun hresult⟩

end Sys2Proof.Machine
end

section
/-! PROOF. The commands of the swath engines (R105 to R107, R137 to R142): an equation for each outcome of a line's fetch and work, of
a spot-check and of a self-test. -/

namespace Sys2Proof.Machine

section
variable {s : State} {engine row line : Nat} {l : PLine} (hline : s.lineOf row line = some l)

/-! ### A line's reads (R106, R107, R404, R405, R416, R417) -/

/-- The segments that an engine's blocks of a line have yet to read; a line of a calibration job reads none. -/
def State.unread (s : State) (engine : Nat) (l : PLine) (x : LineCtx) : List Nat :=
  if x.j.cal then [] else ((l.blocks.filter (fun b => b.toFetch engine)).flatMap (fun b => s.segments x b.nb)).eraseDups

/-- A block whose reads are issued now: one that needs no segment is present, and a frozen controller takes no read. -/
def State.readsIssued (s : State) (engine : Nat) (segs : List Nat) (b : Blk) : Blk :=
  if b.toFetch engine then { b with
    issued := some s.now, present := segs = [], cause := if s.frozen && segs ≠ [] then some Code.ST_MEM_FROZEN else none }
  else b

/-- A block whose reads end now: present, or withheld where they met an error or a frozen controller. -/
def State.readEnds (s : State) (uncorrectable : Bool) (b : Blk) : Blk :=
  if b.issued.isNone || b.present || b.cause.isSome then b
  else if uncorrectable || s.frozen then { b with cause := some Code.ST_MEM_FROZEN } else { b with present := true }

include hline

theorem exec_segmentFetch_issued {x : LineCtx} (hin : s.engineOut engine = false)
    (hwork : l.blocks.any (fun b => b.toFetch engine) = true) (hctx : s.lineCtx l = some x) :
    let segs := s.unread engine l x
    exec (.segmentFetch engine row line) s
      = .next ((s.setLine l (·.blocksOf engine (s.readsIssued engine segs))).tickFetch (engine, row, line) segs) := by
  intro segs
  show execSegmentFetch engine row line s = _
  simp only [execSegmentFetch, hline, hin, hwork, hctx, Bool.not_true, Bool.or_false, Bool.false_eq_true, if_false]
  rfl

theorem exec_tickReadComplete_line (uncorrectable : Bool) :
    exec (.tickReadComplete engine row line uncorrectable) s
      = .next ((s.tickDone (engine, row, line)).setLine l (·.blocksOf engine (s.readEnds uncorrectable))) := by
  show execTickReadComplete engine row line uncorrectable s = _
  simp only [execTickReadComplete, hline]
  rfl

/-! ### A line's work (R105, R137, R139) -/

/-- Whether an engine's blocks of a line are the work that it takes next: some are ready, the engine and memory serve, and no line with
an earlier deadline is ready. -/
structure State.WorkTurn (s : State) (engine : Nat) (l : PLine) : Prop where
  ready : s.readyBlocks engine l ≠ []
  serves : s.engineOut engine = false
  thawed : s.frozen = false
  first : ∀ x ∈ s.job.lines, x.tf < l.tf → s.readyBlocks engine x = []

omit hline in
/-- The model's test against a line's work, as a line whose turn it is meets it. -/
theorem State.WorkTurn.allowed (h : s.WorkTurn engine l) :
    (s.readyBlocks engine l = [] || s.engineOut engine || s.frozen
      || s.job.lines.any (fun x => x.tf < l.tf && s.readyBlocks engine x ≠ [])) = false := by
  obtain ⟨hready, hserves, hthawed, hfirst⟩ := h
  have nearer : s.job.lines.any (fun x => x.tf < l.tf && s.readyBlocks engine x ≠ []) = false := by
    simpa using hfirst
  simp only [hready, hserves, hthawed, nearer, decide_false, Bool.or_false]

variable (hturn : s.WorkTurn engine l)
include hturn

theorem exec_engineLineCompute_late (hlate : s.workFits (s.readyBlocks engine l).length l.tf = false) :
    exec (.engineLineCompute engine row line) s = .next (s.setLine l (·.blocksOf engine (fun b =>
      if (s.readyBlocks engine l).contains b then { b with cause := some Code.ST_LATE_WORK } else b))) := by
  show execEngineLineCompute engine row line s = _
  simp only [execEngineLineCompute, hline, hturn.allowed, hlate, Bool.not_false, Bool.false_eq_true, if_false, if_true]

theorem exec_engineLineCompute_composed {x : LineCtx} (hfits : s.workFits (s.readyBlocks engine l).length l.tf = true)
    (hctx : s.lineCtx l = some x) :
    exec (.engineLineCompute engine row line) s
      = .next (((s.each (s.readyBlocks engine l) (fun b s => s.compose x b.nb)).tellDigest row line).pipeWorks engine
          (128 * (s.readyBlocks engine l).length)) := by
  show execEngineLineCompute engine row line s = _
  simp only [execEngineLineCompute, hline, hturn.allowed, hfits, hctx, Bool.not_true, Bool.false_eq_true, if_false]

end

/-! ### Spot-checks (R140, R141) -/

/-- The published line whose segment of a block is composed. -/
def State.composedLine (s : State) (block line : Nat) : Option PLine :=
  (s.lineOf (block / 3) line).filter (fun l => ((l.blk block).bind (·.words)).isSome)

/-- The engine whose block a spot-check takes: the one that composed the segment, else the one that serves the block. -/
def State.spotEngine (s : State) (block line : Nat) : Option Nat :=
  match s.composedLine block line with
  | some l => (l.blk block).bind (·.engine)
  | none => s.servedBy block

/-- Whether an engine's block is checked at a line: by another engine, at the block's turn or while its engine is suspect. -/
structure State.SpotTurn (s : State) (n block line : Nat) : Prop where
  engine : s.spotEngine block line = some n
  enabled : s.flag Reg.FAB_CTRL.SPOT_EN = true
  serves : s.engineOut n = false
  other : s.get (Reg.SE_CHECKER.CHECKED_BY n) ≠ n
  turn : (line + block) % 64 = 0 ∨ s.flag (Reg.SE_STS.SUSPECT n) = true

/-- The model's test against a spot-check, as a block whose turn it is meets it. -/
theorem State.SpotTurn.allowed {s : State} {n block line : Nat} (h : s.SpotTurn n block line) :
    (!s.flag Reg.FAB_CTRL.SPOT_EN || s.engineOut n || s.get (Reg.SE_CHECKER.CHECKED_BY n) = n
      || !((line + block) % 64 = 0 || s.flag (Reg.SE_STS.SUSPECT n))) = false := by
  obtain ⟨-, henabled, hserves, hother, hturn⟩ := h
  have turn : (decide ((line + block) % 64 = 0) || s.flag (Reg.SE_STS.SUSPECT n)) = true := by simpa using hturn
  simp only [henabled, hserves, hother, turn, Bool.not_true, decide_false, Bool.or_false]

theorem exec_spotCheck_taken {s : State} {n block line : Nat} (h : s.SpotTurn n block line) (finished matched : Bool) :
    exec (.spotCheck block line finished matched) s = .next (
      if finished then (s.count (Reg.SE_SPOT.DONE n)).when (!matched) (·.spotMismatch n block (s.composedLine block line))
      else s.count (Reg.SE_SPOT.SKIP n)) := by
  show execSpotCheck block line finished matched s = _
  unfold execSpotCheck
  extract_lets l checked
  have engine : checked = some n := h.engine
  simp only [engine, h.allowed, Bool.false_eq_true, if_false]
  cases finished
  · simp only [Bool.not_false, if_true, Bool.false_eq_true, if_false]
  · simp only [Bool.not_true, Bool.false_eq_true, if_false, if_true]
    rfl

/-! ### Self-tests (R142) -/

theorem State.when_not_eq_if (s : State) (c : Bool) (f : State → State) : s.when (!c) f = if c then s else f s := by
  cases c <;> rfl

theorem exec_seSelftest {s : State} {slot engine : Nat} (h : s.mayWrite slot (Reg.SE_CTRL.AT engine)) (hengine : engine < 64) :
    exec (.seSelftest slot engine) s = .next ((s.inbound slot).engineTest engine 0) := by
  show Host.Outcome.next (s.ownerWrite slot (Reg.SE_CTRL.AT engine) _) = _
  rw [State.ownerWrite_may h, decide_eq_true hengine, State.when_true]

section
variable {s : State} {n : Nat} (cause : Nat)

theorem State.engineTest_running (h : s.eng.tests.any (fun t => t.1 = n) = true) : s.engineTest n cause = s := if_pos h

theorem State.engineTest_starts (h : s.eng.tests.any (fun t => t.1 = n) = false) :
    let a := s.testStarted.setEng (fun e => { e with tests := (n, cause, s.now) :: e.tests })
    let b := (a.put (Reg.SE_SELFTEST.RUNNING n) 1).put (Reg.SE_SELFTEST.CAUSE n) cause
    s.engineTest n cause = if b.engineOut n then b else b.put (Reg.SE_STS.STATE n) 2 := by
  intro a b
  rw [State.engineTest, h, if_neg Bool.false_ne_true]
  exact State.when_not_eq_if b (b.engineOut n) _

end

section
variable {s : State} {engine cause start : Nat} (hrun : s.eng.tests.find? (fun t => t.1 = engine) = some (engine, cause, start))
include hrun

theorem exec_seSelftestDone_running (pass : Bool) :
    exec (.seSelftestDone engine pass) s = .next (s.engineTestEnds engine cause (if pass then 1 else 2)) := by
  show execSeSelftestDone engine pass s = _
  rw [execSeSelftestDone, hrun]

theorem exec_seSelftestTimeout_due (hdue : start + 400000000 ≤ s.now) :
    exec (.seSelftestTimeout engine) s = .next (s.engineTestEnds engine cause 3) := by
  show execSeSelftestTimeout engine s = _
  simp only [execSeSelftestTimeout, hrun, if_neg (Nat.not_lt.2 hdue)]

end

/-- Settles O21: an equation for each outcome of a line's fetch and work, of a spot-check whose turn it is, and of a self-test. -/
theorem engineCommands : Obligations.EngineCommands := by
  refine ⟨?fetch, ?read, ?compute, ?spot, ?request, ?ends⟩
  case fetch =>
    intro s engine row line l x hline hin hwork hctx segs
    exact exec_segmentFetch_issued hline hin hwork hctx
  case read =>
    intro s engine row line l uncorrectable hline u
    exact exec_tickReadComplete_line hline uncorrectable
  case compute =>
    intro s engine row line l hline hready hserves hthawed hfirst
    have turn : s.WorkTurn engine l := ⟨hready, hserves, hthawed, hfirst⟩
    exact ⟨exec_engineLineCompute_late hline turn, fun x hfits hctx => exec_engineLineCompute_composed hline turn hfits hctx⟩
  case spot =>
    intro s block line n l hengine henabled hserves hother hturn
    have turn : s.SpotTurn n block line := ⟨hengine, henabled, hserves, hother, hturn⟩
    exact ⟨exec_spotCheck_taken turn true true, exec_spotCheck_taken turn true false, exec_spotCheck_taken turn false⟩
  case request =>
    intro s slot engine hengine hmay u
    rw [exec_seSelftest hmay hengine]
    exact ⟨fun hruns => congrArg _ (State.engineTest_running 0 hruns), fun hfree => congrArg _ (State.engineTest_starts 0 hfree)⟩
  case ends =>
    intro s engine cause start hrun
    exact ⟨exec_seSelftestDone_running hrun true, exec_seSelftestDone_running hrun false, exec_seSelftestTimeout_due hrun⟩

end Sys2Proof.Machine
end

section
/-! PROOF. The commands of the fabric (R111, R125, R132, R136, R329): its updates, the commit of its map, and the move of an engine's
blocks. -/

namespace Sys2Proof.Machine

section
variable (s : State) (slot a : Nat) (data : Word) (f : State → State)

/-- A write of a control register: its fields alone, or what its bit `i` starts as well. -/
theorem State.trigger_eq_if (i : Nat) :
    s.trigger slot a data i f = if bit data.toNat i = false then s.writeFields slot a data else f (s.writeFields slot a data) := by
  cases h : bit data.toNat i
  · rw [State.trigger, h, State.when_false, if_pos rfl]
  · rw [State.trigger, h, State.when_true, if_neg Bool.true_eq_false.mp]

/-! ### Updates (R111, R125) -/

/-- A write of a control register of updates: its fields alone, a COMMIT that a standby drops (R329), or one that is carried out. -/
theorem State.commitWrite_eq_if :
    let w := s.writeFields slot a data
    s.commitWrite slot a data f = State.showQueues (
      if bit data.toNat 8 = false then w else if w.get Reg.DUE_STS.ROLE = 2 then w.put Reg.DUE_EVT.CFG_ERR 1 else f w) :=
  congrArg State.showQueues (State.trigger_eq_if s slot a data _ 8)

end

section
variable {s : State} {slot : Nat} (data : Word)

theorem exec_xwebUpdateCommit (h : s.mayWrite slot Reg.FAB_XUPD_CTRL.AT) :
    exec (.xwebUpdateCommit slot data) s
      = .next ((s.inbound slot).commitWrite slot Reg.FAB_XUPD_CTRL.AT data State.xwebCommit) :=
  congrArg Host.Outcome.next (State.ownerWrite_may h _)

theorem exec_trimTempUpdateCommit (h : s.mayWrite slot Reg.FAB_TUPD_CTRL.AT) :
    exec (.trimTempUpdateCommit slot data) s
      = .next ((s.inbound slot).commitWrite slot Reg.FAB_TUPD_CTRL.AT data State.trimCommit) :=
  congrArg Host.Outcome.next (State.ownerWrite_may h _)

theorem exec_fabMapCommit (h : s.mayWrite slot Reg.FAB_CTRL.AT) :
    exec (.fabMapCommit slot data) s = .next ((s.inbound slot).trigger slot Reg.FAB_CTRL.AT data 1
      (·.commitMap (s.lockedAt Reg.FAB_CTRL.AT))) :=
  congrArg Host.Outcome.next (State.ownerWrite_may h _)

theorem exec_fabMoveCommit (h : s.mayWrite slot Reg.FAB_MOVE_CTRL.AT) :
    exec (.fabMoveCommit slot data) s
      = .next ((s.inbound slot).trigger slot Reg.FAB_MOVE_CTRL.AT data 13 State.commitMove) :=
  congrArg Host.Outcome.next (State.ownerWrite_may h _)

end

theorem State.xwebUpdate_eq (s : State) (b line sx : Nat) (bx : Int) :
    s.xwebUpdate b line sx bx = (s.xwebResult b line sx bx,
      match s.xwebResult b line sx bx with
      | 0 => s.queueXweb b line sx bx
      | 1 => s.post (ev Code.ST_FAB_XUPD_PAST srcFAB none line (dataBar b))
      | 2 => s.post (ev Code.ST_FAB_XUPD_LIMIT srcFAB none line (dataBar b))
      | _ => s) := by
  rw [State.xwebUpdate]
  match s.xwebResult b line sx bx with
  | 0 => rfl
  | 1 => rfl
  | 2 => rfl
  | _ + 3 => rfl

/-- FAB_XUPD_CTRL.COMMIT: the update of the control registers is judged, and RESULT shows how (R111). -/
theorem State.xwebCommit_eq (s : State) :
    let b := s.get Reg.FAB_XUPD_CTRL.BAR
    let line := s.get64 Reg.FAB_XUPD_LINE.PAIR
    let sx := s.get Reg.FAB_XUPD_SX.SX
    let bx := s.getI Reg.FAB_XUPD_BX.BX
    s.xwebCommit = ((match s.xwebResult b line sx bx with
      | 0 => s.queueXweb b line sx bx
      | 1 => s.post (ev Code.ST_FAB_XUPD_PAST srcFAB none line (dataBar b))
      | 2 => s.post (ev Code.ST_FAB_XUPD_LIMIT srcFAB none line (dataBar b))
      | _ => s).put Reg.FAB_XUPD_CTRL.RESULT (s.xwebResult b line sx bx)).showQueues := by
  simp only [State.xwebCommit, State.xwebUpdate_eq]

/-! ### The map and moves (R132, R136) -/

theorem State.commitMap_eq_if (s : State) (locked : Bool) :
    let t := s.put Reg.FAB_STS.MAP_RESULT (s.mapResult locked)
    s.commitMap locked = if s.mapResult locked = 0 then t.takeMap else t := by
  simp only [State.commitMap, State.when, decide_eq_true_eq]

theorem State.commitMove_eq_if (s : State) :
    let src := s.get Reg.FAB_MOVE_CTRL.SRC
    let dst := s.get Reg.FAB_MOVE_CTRL.DST
    let t := s.put Reg.FAB_MOVE_CTRL.RESULT (s.moveRefused src dst)
    s.commitMove = if s.moveRefused src dst = 0 then t.beginMove src dst else t := by
  simp only [State.commitMove, State.when, decide_eq_true_eq]

theorem exec_fabMoveLoadDone_loads {s : State} {m : Move} (hmove : s.eng.move = some m) (hnew : m.loaded = false) (bad : List Nat) :
    let rows := ((s.engineBlocks m.src).map (· / 3)).eraseDups
    let t := s.setEng ({ · with move := some { m with loaded := true, rows := rows, badRows := bad } })
    exec (.fabMoveLoadDone bad) s = .next (if rows = [] then t.finishMove else t.settleMove) := by
  intro rows t
  show execFabMoveLoadDone bad s = _
  simp only [execFabMoveLoadDone, hmove, hnew, Bool.false_eq_true, if_false]
  rfl

/-- The rows of a move that are in no chain take the target at once. -/
theorem State.settleMove_of_move {s : State} {m : Move} (h : s.eng.move = some m) :
    s.settleMove = s.each (m.rows.filter (fun k => (s.rowSt k).chain.isNone)) (fun k u => u.moveRow k) := by
  rw [State.settleMove, h]

/-- Settles O22: a commit is a write that its register carries out by `State.commitWrite_eq_if` or `State.trigger_eq_if`, then what the
unit makes of it; a loaded move's rows switch by `State.settleMove_of_move`. -/
theorem fabricCommands : Obligations.FabricCommands := by
  refine ⟨?xweb, ?trim, ?map, ?move, ?load⟩
  case xweb =>
    intro s slot data hmay w b line sx bx
    rw [exec_xwebUpdateCommit data hmay, State.commitWrite_eq_if]
    have carried := if_congr (Iff.refl (w.get Reg.DUE_STS.ROLE = 2)) (Eq.refl (w.put Reg.DUE_EVT.CFG_ERR 1)) (State.xwebCommit_eq w)
    exact congrArg (fun u => Host.Outcome.next (State.showQueues u)) (if_congr Iff.rfl rfl carried)
  case trim =>
    intro s slot data hmay w r
    rw [exec_trimTempUpdateCommit data hmay, State.commitWrite_eq_if]
    rfl
  case map =>
    intro s slot data hmay w r t
    rw [exec_fabMapCommit data hmay, State.trigger_eq_if, State.commitMap_eq_if]
  case move =>
    intro s slot data hmay w src dst r t
    rw [exec_fabMoveCommit data hmay, State.trigger_eq_if, State.commitMove_eq_if]
    rfl
  case load =>
    intro s bad m hmove hnew rows t
    have moving : t.eng.move = some { m with loaded := true, rows := rows, badRows := bad } := rfl
    rw [exec_fabMoveLoadDone_loads hmove hnew, State.settleMove_of_move moving]

end Sys2Proof.Machine
end

section
/-! PROOF. The commands of the Starmap store (R153, R154, R157, R169, R170, R172, R176, R312): update records and their delivery, the
start and the end of a transfer, and the peek. -/

namespace Sys2Proof.Machine

/-! ### Update records (R153, R154, R157, R172) -/

section
variable {s : State} {ring : Nat} {d : Desc} (hhead : s.headDesc ring = some d) (htype : s.ringType ring = 5) (hkind : d.kind = 3)
include hhead htype hkind

theorem exec_smpUpdate_misdirected (hmis : (s.markStarted ring d.index).smpMisdirected d = true) :
    exec (.smpUpdate ring) s = .next ((((s.markStarted ring d.index).count Reg.SMP_UPD_REF.CNT).pmcAdd 385).complete ring d.index
      Code.ST_SMP_UPD_FORMAT) := by
  show execSmpUpdate ring s = _
  simp only [execSmpUpdate, hhead, htype, hkind, hmis, ne_eq, not_true_eq_false, decide_false, Bool.or_false, Bool.false_eq_true,
    if_false, if_true]

theorem exec_smpUpdate_submitted (hfit : (s.markStarted ring d.index).smpMisdirected d = false) :
    let r := (s.markStarted ring d.index).smpSubmit d.smpReq
    exec (.smpUpdate ring) s = .next (r.2.calWatch.complete ring d.index (r.1.getD Code.ST_OK)) := by
  show execSmpUpdate ring s = _
  simp only [execSmpUpdate, hhead, htype, hkind, hfit, ne_eq, not_true_eq_false, decide_false, Bool.or_false, Bool.false_eq_true,
    if_false]

end

/-! ### Transfers start (R169, R170) -/

/-- The word that starts a transfer has GO set. -/
theorem bit_xferWord_go {dir : Nat} (hdir : dir < 2) (first n : Nat) : bit (xferWord dir first n).toNat 17 = true := by
  simp only [bit, xferWord, BitVec.toNat_ofNat, decide_eq_true_eq]
  omega

theorem State.xferWrite_go {dir : Nat} (hdir : dir < 2) (s : State) (slot first n : Nat) :
    s.xferWrite slot (xferWord dir first n) = (s.writeFields slot Reg.SMP_XFER_CTRL.AT (xferWord dir first n)).xferGo slot := by
  rw [State.xferWrite, State.trigger, bit_xferWord_go hdir, State.when_true]

section
variable {s : State} {slot : Nat}

theorem exec_smpLoad (h : s.mayWrite slot Reg.SMP_XFER_CTRL.AT) (first n : Nat) :
    exec (.smpLoad slot first n) s
      = .next (((s.inbound slot).writeFields slot Reg.SMP_XFER_CTRL.AT (xferWord 0 first n)).xferGo slot) := by
  show Host.Outcome.next (s.ownerWrite slot Reg.SMP_XFER_CTRL.AT _) = _
  rw [State.ownerWrite_may h, State.xferWrite_go Nat.zero_lt_two]

theorem exec_smpSave (h : s.mayWrite slot Reg.SMP_XFER_CTRL.AT) (first n : Nat) :
    exec (.smpSave slot first n) s
      = .next (((s.inbound slot).writeFields slot Reg.SMP_XFER_CTRL.AT (xferWord 1 first n)).xferGo slot) := by
  show Host.Outcome.next (s.ownerWrite slot Reg.SMP_XFER_CTRL.AT _) = _
  rw [State.ownerWrite_may h, State.xferWrite_go Nat.one_lt_two]

theorem exec_smpPeek (h : s.mayWrite slot Reg.SMP_PEEK_GN.AT) (data : Word) :
    exec (.smpPeek slot data) s = .next ((s.inbound slot).peek slot data) :=
  congrArg Host.Outcome.next (State.ownerWrite_may h _)

end

/-- Whether the mode permits a transfer: a save in M3 to M9, a load in M3 or M4 with no chain in flight (R169). -/
def State.xferMay (s : State) : Bool :=
  if s.flag Reg.SMP_XFER_CTRL.DIR then s.modeIn 3 9 else (s.mode = 3 || s.mode = 4) && s.get Reg.JOB_STS.CHAINS = 0

/-- The state in which a transfer runs. -/
def State.xferRuns (s : State) (slot : Nat) : State :=
  ((s.setSmp ({ · with xfer := some (s.get Reg.SMP_XFER_CTRL.FIRST_HP, s.get Reg.SMP_XFER_CTRL.COUNT,
    s.flag Reg.SMP_XFER_CTRL.DIR, slot) })).put Reg.SMP_XFER_CTRL.BUSY 1).put Reg.SMP_STS.XFER_BUSY 1

/-- A GO by its four outcomes: ignored, dropped, refused by the mode, or carried out. -/
theorem State.xferGo_eq (w : State) (slot : Nat) :
    let first := w.get Reg.SMP_XFER_CTRL.FIRST_HP
    let n := w.get Reg.SMP_XFER_CTRL.COUNT
    let u := w.xferRuns slot
    w.xferGo slot =
      if w.smp.xfer.isSome = true then w
      else if n = 0 ∨ 96 < first + n then w.put Reg.SMP_STS.CFG_ERR 1
      else if w.xferMay = false then
        if w.flag Reg.SMP_XFER_CTRL.DIR then w.put Reg.SMP_XFER_CTRL.RESULT 1
        else (w.put Reg.SMP_XFER_CTRL.RESULT 1).post (ev Code.ST_SMP_LOAD_BAD srcSMP)
      else if w.flag Reg.SMP_XFER_CTRL.DIR then u
      else u.send (.hostRead slot (u.get64 Reg.SMP_XFER_HADDR.PAIR) (n * portImage)) := by
  simp only [State.xferGo, State.when_not_eq_if, Bool.or_eq_true, decide_eq_true_eq, Bool.not_eq_true']
  rfl

/-! ### Transfers end (R169, R170) -/

/-- The state in which no transfer runs any more. -/
def State.xferOver (s : State) : State :=
  ((s.setSmp ({ · with xfer := none })).put Reg.SMP_XFER_CTRL.BUSY 0).put Reg.SMP_STS.XFER_BUSY 0

section
variable {s : State} {first n slot : Nat} (bytes : List Byte)

theorem exec_smpXferDone_save (h : s.smp.xfer = some (first, n, true, slot)) :
    let u := s.xferOver
    let out := u.saveBytes first n
    exec (.smpXferDone bytes) s = .next (((u.send (.hostWrite slot (u.get64 Reg.SMP_XFER_HADDR.PAIR) out)).put
      Reg.SMP_XFER_CRC.CRC (crc32Bytes out)).put Reg.SMP_XFER_CTRL.RESULT 0) := by
  show execSmpXferDone bytes s = _
  rw [execSmpXferDone, h]
  rfl

theorem exec_smpXferDone_load (h : s.smp.xfer = some (first, n, false, slot)) :
    let u := s.xferOver
    exec (.smpXferDone bytes) s = .next (
      if bytes.length ≠ n * portImage ∨ crc32Bytes bytes ≠ u.get Reg.SMP_XFER_CRC.CRC then
        (u.put Reg.SMP_XFER_CTRL.RESULT 2).post (ev Code.ST_SMP_LOAD_BAD srcSMP)
      else match u.loadFails bytes first n with
        | some gn => ((u.put Reg.SMP_XFER_CTRL.RESULT 3).put Reg.SMP_XFER_BADGN.BADGN gn).post (ev Code.ST_SMP_LOAD_BAD srcSMP)
        | none => (u.loadImage bytes first n).put Reg.SMP_XFER_CTRL.RESULT 0) := by
  show execSmpXferDone bytes s = _
  simp only [execSmpXferDone, h, Bool.or_eq_true, decide_eq_true_eq, Bool.false_eq_true, if_false]
  rfl

end

/-- Settles O23: a record by `exec_smpUpdate_misdirected` or `exec_smpUpdate_submitted`, a GO by `State.xferGo_eq`, and the end of a
transfer by its direction. -/
theorem starmapCommands : Obligations.StarmapCommands := by
  refine ⟨?update, ?delivery, ?start, ?go, ?done, ?peek⟩
  case update =>
    intro s ring d hhead htype hkind u
    exact ⟨exec_smpUpdate_misdirected hhead htype hkind, exec_smpUpdate_submitted hhead htype hkind⟩
  case delivery =>
    intro s seq
    rfl
  case start =>
    intro s slot first n hmay
    exact ⟨exec_smpLoad hmay first n, exec_smpSave hmay first n⟩
  case go =>
    intro w slot first n save may u
    rw [State.xferGo_eq]
    have good (hn : n ≠ 0) (hfit : first + n ≤ 96) : ¬(n = 0 ∨ 96 < first + n) := not_or.2 ⟨hn, Nat.not_lt.2 hfit⟩
    refine ⟨fun hruns => if_pos hruns, fun hfree hbad => ?_, fun hfree hn hfit hmay => ?_, fun hfree hn hfit hmay => ?_⟩
    · rw [hfree, if_neg Bool.false_ne_true, if_pos hbad]
    · have refuses : w.xferMay = false := hmay
      rw [hfree, if_neg Bool.false_ne_true, if_neg (good hn hfit), if_pos refuses]
    · have permits : ¬w.xferMay = false := Bool.not_eq_false _ ▸ hmay
      rw [hfree, if_neg Bool.false_ne_true, if_neg (good hn hfit), if_neg permits]
      rfl
  case done =>
    intro s bytes first n slot save hxfer u
    cases save
    · exact exec_smpXferDone_load bytes hxfer
    · exact exec_smpXferDone_save bytes hxfer
  case peek =>
    intro s slot data hmay w
    exact exec_smpPeek hmay data

end Sys2Proof.Machine
end

section
/-! PROOF. Requests for a mode (R171, R483, R484): what the change from Configure to Ready needs, and what a refusal leaves. -/

namespace Sys2Proof.Machine

section
variable {s : State} {slot : Nat}

/-- A write of DEV_MODE whose REQ names a mode. -/
theorem exec_modeRequest (h : s.mayWrite slot Reg.DEV_MODE.AT) {req : Nat} (hreq : req % 16 ≠ 0) :
    exec (.modeRequest slot req) s = .next ((s.inbound slot).modeRequest (req % 16) none) := by
  show Host.Outcome.next (s.ownerWrite slot Reg.DEV_MODE.AT _) = _
  rw [State.ownerWrite_may h, decide_eq_true hreq, State.when_true]

/-- Ready needs a valid image and each port of an enabled row loaded (R171). -/
theorem State.readyRefusal_of_noImage
    (h : s.flag Reg.SMP_STS.IMG_VALID = false ∨ ∃ j ∈ s.enabledRows, j / 16 ∉ s.smp.loaded) : ∃ c, s.readyRefusal = some c := by
  have missing : (!s.flag Reg.SMP_STS.IMG_VALID
      || ((s.enabledRows.map (· / 16)).eraseDups).any (fun p => !s.smp.loaded.contains p)) = true := by
    rcases h with hinvalid | ⟨j, hrow, hport⟩
    · simp [hinvalid]
    · have unloaded : ∃ p ∈ (s.enabledRows.map (· / 16)).eraseDups, p ∉ s.smp.loaded :=
        ⟨j / 16, by simpa using ⟨j, hrow, rfl⟩, hport⟩
      simpa using Or.inr unloaded
  simp only [State.readyRefusal, missing, if_true]
  split
  · exact ⟨_, rfl⟩
  · split <;> exact ⟨_, rfl⟩

/-- A request for Ready that a check of R484 refuses. -/
theorem State.modeRequest_ready_refused {c : Nat} (hmode : s.mode = 4) (hrefused : s.readyRefusal = some c) (desc : Option (Nat × Nat)) :
    s.modeRequest 5 desc = (s.modeRefuse c desc).post (ev c srcPWR) := by
  simp [State.modeRequest, hmode, hrefused, modeAccepts]

/-- A refused request of DEV_MODE and its event leave the registers below the rings' window, but for RESULT. -/
theorem State.low_modeRefuse_post (s : State) (c : Nat) (e : Event) :
    (s.put Reg.DEV_MODE.RESULT 1).low ((s.modeRefuse c none).post e) :=
  State.low_post (State.low_post (State.low_refl _) _) e

end

/-- Settles O60: without its images Ready is refused (`State.readyRefusal_of_noImage`), and a refusal writes RESULT alone. -/
theorem readyNeedsImages : Obligations.ReadyNeedsImages := by
  intro s slot hmay u hmode hmissing
  obtain ⟨c, hrefused⟩ := State.readyRefusal_of_noImage hmissing
  have low := State.low_modeRefuse_post u c (ev c srcPWR)
  refine ⟨(u.modeRefuse c none).post (ev c srcPWR), ?_, ?_, ?_⟩
  · rw [exec_modeRequest hmay (by decide)]
    exact congrArg Host.Outcome.next (State.modeRequest_ready_refused hmode hrefused none)
  · rw [State.mode, State.low_get low (by decide), State.get_put_other _ (by decide) (by decide)]
    exact hmode
  · rw [State.low_get low (by decide), State.get_put_same _ (by decide)]
    rfl

end Sys2Proof.Machine
end

section
/-! PROOF. The commands of a head port's HP_CTRL, head modes and TWI_ENTER (R188, R190, R193, R200, R205, R212, R217, R218, R350). -/

namespace Sys2Proof.Machine

/-! ### What a condition starts -/

section
variable (s : State) (f : State → State)

theorem State.when_of {c : Bool} (h : c = true) : s.when c f = f s := if_pos h

theorem State.when_bne_eq_if (x y : Bool) : s.when (x != y) f = if x = y then s else f s := by
  cases x <;> cases y <;> rfl

theorem State.when_bne_or_ne_eq_if (x y : Bool) (m n : Nat) :
    s.when (x != y || m ≠ n) f = if x = y ∧ m = n then s else f s := by
  by_cases h : m = n <;> cases x <;> cases y <;> simp [State.when, h]

end

/-! ### HP_CTRL (R188, R190, R193, R212, R217) -/

section
variable {s : State} {slot p : Nat}

/-- A command of HP_CTRL is the owner's write of the register as it stands with a bit changed. -/
theorem State.hpCtrlBits_may (h : s.mayWrite slot (Reg.HP_CTRL.AT p)) (f : Word → Word) :
    s.hpCtrlBits slot p f = (s.inbound slot).hpCtrlWrite slot p (f ((s.inbound slot).word (Reg.HP_CTRL.AT p))) :=
  State.ownerWrite_may h _

theorem exec_hpHeadMode (h : s.mayWrite slot (Reg.HP_HEAD_CMD.AT p)) (data : Word) :
    let u := s.inbound slot
    exec (.hpHeadMode slot p data) s = .next (if 3 < wbits data 0 3 then u.put (Reg.HP_LINK_EVT.CFG_ERR p) 1
      else (u.writeFields slot (Reg.HP_HEAD_CMD.AT p) data).headMode (wbits data 0 3) p) :=
  congrArg Host.Outcome.next (State.ownerWrite_may h _)

end

/-- A TWI_ENTER that arrives in state 7 or 8 (R218). -/
theorem exec_hpTwiEnter_heard {s : State} {p : Nat} (hlow : 7 ≤ s.get (Reg.HP_LINK_STS.STATE p))
    (hhigh : s.get (Reg.HP_LINK_STS.STATE p) ≤ 8) :
    let u := (s.put (Reg.HP_LINK_STS.HEAD_TX_TWI p) 1).setPort p ({ · with exch := [] })
    exec (.hpTwiEnter p) s = .next (if u.flag (Reg.HP_CTRL.RX_TWI_EN p)
      then ((u.put (Reg.HP_LINK_STS.RX_TWI p) 1).lanesShow (headLanes p) Reg.L_STS.RX_TWI 1).hpState p 9 else u) := by
  have heard : ¬(s.get (Reg.HP_LINK_STS.STATE p) < 7 || 8 < s.get (Reg.HP_LINK_STS.STATE p)) = true := by
    simp [hlow, hhigh]
  exact congrArg Host.Outcome.next (if_neg heard)

/-- Settles O24: a command of HP_CTRL is `State.hpCtrlBits_may`, and what a write starts follows its bits in turn. -/
theorem headPortControl : Obligations.HeadPortControl := by
  refine ⟨?commands, ?write, ?mode, ?sleep⟩
  case commands =>
    intro s slot p hmay u w
    have bits (f : Word → Word) := congrArg (Host.Outcome.next (φ := Fault) (ρ := Refusal)) (State.hpCtrlBits_may hmay f)
    exact ⟨fun on => bits (wordBit · 1 on), bits (wordBit · 3 true), bits (wordBit · 4 true), bits (wordBit · 5 true),
      fun on => bits (wordBit · 6 on), fun on => bits (wordBit · 7 on)⟩
  case write =>
    intro u slot p d rise fall tx head a on b c e f g h i
    refine ⟨fun hasks hchain => ?_, fun hmay => ?_⟩
    · exact if_pos (Bool.and_eq_true_iff.2 ⟨hasks, hchain⟩)
    · have taken : ¬((rise tx || rise head) && u.inChain p) = true := by
        rcases hmay with hmay | hmay <;> simp [hmay]
      refine (if_neg taken).trans ?_
      rw [State.when_bne_eq_if]
      rfl
  case mode =>
    intro s slot p data hmay
    rw [exec_hpHeadMode hmay]
    exact ⟨fun hfits => by rw [if_neg (Nat.not_lt.2 hfits)], fun hbad => by rw [if_pos hbad]⟩
  case sleep =>
    intro s p hlow hhigh u
    exact exec_hpTwiEnter_heard hlow hhigh

end Sys2Proof.Machine
end

section
/-! PROOF. A head port's bring-up and what takes its link down (R188 to R193, R199, R218 to R220, R228, R233). -/

namespace Sys2Proof.Machine

/-! ### Bring-up steps (the table "Bring-up steps") -/

/-- What a report starts in each bring-up state of a port whose uplink is awake. -/
def State.hpStepIn (s : State) (p : Nat) (o : BringupObs) (st : Nat) : State :=
  let ns := headLanes p
  let wake := (s.port p).relock
  match st with
  | 1 => if o.ok then (s.lanesShow ns Reg.L_STS.SIG 1).hpState p 2 else s
  | 2 => if o.ok then ((s.lanesShow ns Reg.L_STS.CDR 1).each ns State.adapt).hpState p 3 else s
  | 3 => if o.ok then
      (State.lanePolarity ns o wake (if wake then s else s.put (Reg.HP_LINK_STS.RX_INV p) (obsInv o))).hpState p 4 else s
  | 4 => s.hpSearch p o
  | 5 => match obsIds false ns o with
    | none => s
    | some ids => (if wake then s else (s.putB (Reg.HP_LINK_STS.RX_SWAP p) (ids.headD 0 = 1)).laneIds ns ids).hpState p 6
  | 6 => if obsDeskews false ns o then s.hpDeskewed p else s.hpFail p
  | 7 => if (s.port p).training then (if obsReady false ns o then s.hpDataMode p else s) else if o.ok then s.hpTryUp p else s
  | _ => s

section
variable {s : State} {p : Nat} (o : BringupObs)

/-- On an enabled port whose lanes nothing holds, a report is the bring-up's. -/
theorem exec_hpBringupStep (hen : s.flag (Reg.HP_CTRL.EN p) = true) (hfree : s.linkHeld (headLanes p) = false) :
    exec (.hpBringupStep p o) s = .next (s.hpStep p o) := by
  show execHpBringupStep p o s = _
  rw [execHpBringupStep, hen, hfree]
  rfl

theorem State.hpStep_asleep (h : s.flag (Reg.HP_LINK_STS.HEAD_TX_TWI p) = true) :
    s.hpStep p o = if o.ok then s.hpRelock p else s :=
  if_pos h

/-- An awake uplink's port goes by its state. -/
theorem State.hpStep_awake (h : s.flag (Reg.HP_LINK_STS.HEAD_TX_TWI p) = false) :
    s.hpStep p o = s.hpStepIn p o (s.get (Reg.HP_LINK_STS.STATE p)) := by
  rw [State.hpStep, h, if_neg Bool.false_ne_true]
  simp only [State.when_not_eq_if]
  rfl

/-- The host runs the search under MANUAL, but not on a wake (R190, R218). -/
theorem State.hpSearch_manual (hman : s.flag (Reg.HP_CTRL.MANUAL p) = true) (hwake : (s.port p).relock = false) :
    s.hpSearch p o = s.laneDetect false (headLanes p) o := by
  rw [State.hpSearch, hman, hwake]
  rfl

theorem State.hpSearch_auto (h : s.flag (Reg.HP_CTRL.MANUAL p) = false ∨ (s.port p).relock = true) :
    let u := s.laneSearch false (headLanes p) o
    s.hpSearch p o = if u.lanesLocked (headLanes p) then u.hpState p 5 else u.hpFail p := by
  have auto : ¬(s.flag (Reg.HP_CTRL.MANUAL p) && !(s.port p).relock) = true := by
    rcases h with h | h <;> simp [h]
  exact if_neg auto

end

/-! ### Limits, loss of signal and loss of lock (R188, R193, R220) -/

section
variable {s : State} {p : Nat}

theorem exec_hpBringupTimeout_past {d : Nat} (hlimit : stepLimit (s.get (Reg.HP_LINK_STS.STATE p)) = some d)
    (hpast : (s.port p).since + d ≤ s.now) :
    exec (.hpBringupTimeout p) s
      = .next (State.hpFail p (if s.get (Reg.HP_LINK_STS.STATE p) = 7 then s.noEq (headLanes p) else s)) := by
  show execHpBringupTimeout p s = _
  simp only [execHpBringupTimeout, hlimit, if_neg (Nat.not_lt.2 hpast), State.when, decide_eq_true_eq]

theorem exec_hpRetryTimer_past {t : Nat} (hfailed : (s.port p).failedAt = some t) (hpast : t + 4000000 ≤ s.now) :
    exec (.hpRetryTimer p) s = .next (s.hpRestart p) := by
  show execHpRetryTimer p s = _
  simp only [execHpRetryTimer, hfailed, State.when, decide_eq_true_eq, if_pos hpast]

theorem exec_hpHealthTimeout_past {t : Nat} (hstate : s.get (Reg.HP_LINK_STS.STATE p) = 8)
    (hawake : s.flag (Reg.HP_LINK_STS.HEAD_TX_TWI p) = false) (hlast : (s.port p).lastHealth = some t) (hpast : t + 20000000 ≤ s.now) :
    exec (.hpHealthTimeout p) s = .next (s.hpRestart p) := by
  show execHpHealthTimeout p s = _
  simp only [execHpHealthTimeout, hstate, hawake, hlast, State.when, Bool.and_eq_true, decide_eq_true_eq, Bool.not_false,
    and_true, true_and, if_pos hpast]

end

section
variable {s : State} {lane : Nat}

theorem exec_hpSignalLoss (h : linkLane lane = true) : exec (.hpSignalLoss lane) s = .next (s.signalLoss lane) := by
  show execHpSignalLoss lane s = _
  rw [execHpSignalLoss, h, State.when_true]

/-- Loss of signal on a head lane: a sleeping uplink has none to lose (R217). -/
theorem State.signalLoss_head (h : lane < 192) :
    let st := s.get (Reg.HP_LINK_STS.STATE (lane / 2))
    let u := (s.put (Reg.L_EVT.SIG_LOSS lane) 1).put (Reg.L_STS.SIG lane) 0
    s.signalLoss lane = if s.flag (Reg.HP_LINK_STS.HEAD_TX_TWI (lane / 2)) then s
      else if 2 ≤ st ∧ st ≤ 8 then u.hpRestart (lane / 2) else u := by
  simp only [State.signalLoss, if_pos h, State.when, Bool.and_eq_true, decide_eq_true_eq]

theorem State.signalLoss_peer (h : 240 ≤ lane) :
    let st := s.peerLink (lanePeer lane)
    let u := (s.put (Reg.L_EVT.SIG_LOSS lane) 1).put (Reg.L_STS.SIG lane) 0
    s.signalLoss lane = if 2 ≤ st ∧ st ≤ 8 then u.peerRestart (lanePeer lane) else u := by
  have notHead : ¬lane < 192 := by omega
  simp only [State.signalLoss, if_neg notHead, State.when, Bool.and_eq_true, decide_eq_true_eq]

/-- Blocks that a locked lane receives lose its lock or count their errors. -/
theorem exec_hpBlockLockLoss (hlane : linkLane lane = true) (hlocked : s.flag (Reg.L_STS.BLOCK_LOCK lane) = true)
    (blocks : List (Nat × Nat)) (seen : RxFaults) :
    let peer := decide (192 ≤ lane)
    let bs := blocks.drop (2 - seen.afterEnd)
    let u := s.count (Reg.L_CNT.CNT lane 0) (badBlocks peer bs)
    exec (.hpBlockLockLoss lane blocks seen) s = .next (
      if errorBurst peer bs || seen.elastic || (seen.askew && 7 ≤ s.get (Reg.L_STS.LINK_STATE lane))
      then s.lockLoss lane (badBlocks peer bs) seen.elastic
      else if lane < 192 then u.count (Reg.HP_CNT.CNT (lane / 2) 4) (badBlocks peer bs) else u) := by
  intro peer bs u
  have received : ¬(!linkLane lane || !s.flag (Reg.L_STS.BLOCK_LOCK lane)) = true := by simp [hlane, hlocked]
  show execHpBlockLockLoss lane blocks seen s = _
  rw [execHpBlockLockLoss, if_neg received]
  simp only [State.when, decide_eq_true_eq]
  rfl

end

/-- Settles O25: a report by `State.hpStep_asleep` or `State.hpStep_awake`, and an equation for each limit and each loss. -/
theorem headBringup : Obligations.HeadBringup := by
  refine ⟨?step, ?timeout, ?retry, ?headLoss, ?peerLoss, ?lock, ?health⟩
  case step =>
    intro s p o hen hfree st ns wake
    rw [exec_hpBringupStep o hen hfree]
    refine ⟨fun hsleeps => by rw [State.hpStep_asleep o hsleeps], fun hawake => ?_⟩
    rw [State.hpStep_awake o hawake]
    have at_ {n : Nat} (hst : st = n) : (.next (s.hpStepIn p o st) : Host.Outcome State Fault Refusal) = .next (s.hpStepIn p o n) :=
      hst ▸ rfl
    refine ⟨at_, at_, at_, fun hst hman hwake => ?_, fun hst hauto => ?_, at_, at_, at_⟩
    · exact (at_ hst).trans (congrArg _ (State.hpSearch_manual o hman hwake))
    · exact (at_ hst).trans (congrArg _ (State.hpSearch_auto o hauto))
  case timeout =>
    intro s p d hlimit hpast
    exact exec_hpBringupTimeout_past hlimit hpast
  case retry =>
    intro s p t hfailed hpast
    exact exec_hpRetryTimer_past hfailed hpast
  case headLoss =>
    intro s lane hlane st u
    have link : linkLane lane = true := by simp [linkLane, hlane]
    rw [exec_hpSignalLoss link, State.signalLoss_head hlane]
    exact ⟨fun hsleeps => by rw [if_pos hsleeps], fun hawake => by rw [hawake, if_neg Bool.false_ne_true]⟩
  case peerLoss =>
    intro s lane hlow hhigh u
    have link : linkLane lane = true := by simp [linkLane, hlow, hhigh]
    rw [exec_hpSignalLoss link, State.signalLoss_peer hlow]
  case lock =>
    intro s lane blocks seen hlane hlocked peer bs lost u
    rw [exec_hpBlockLockLoss hlane hlocked]
    exact ⟨fun hlost => by rw [if_pos hlost], fun hkept => by rw [if_neg (Bool.eq_false_iff.1 hkept)]⟩
  case health =>
    intro s p t hstate hawake hlast hpast
    exact exec_hpHealthTimeout_past hstate hawake hlast hpast

end Sys2Proof.Machine
end

section
/-! PROOF. SKIP, BEACON and the time exchanges of a head port (R184 to R186, R188, R194 to R200, R247). -/

namespace Sys2Proof.Machine

/-! ### SKIP and BEACON (R184 to R186) -/

theorem exec_hpSkip_sends {s : State} {lane : Nat} (hlane : linkLane lane = true) (hsends : s.transmits (linkOf lane) = true) :
    let k := linkOf lane
    let at_ := nextCount (s.tx k).blocks 2048 0
    exec (.hpSkip lane) s = .next (s.fillTo k at_ (at_ + 2) (s.sendsData k) (s.sendsReady k)) :=
  congrArg Host.Outcome.next (State.when_of _ _ (Bool.and_eq_true_iff.2 ⟨hlane, hsends⟩))

theorem exec_hpBeacon_sends {s : State} {p : Nat} (hdata : s.dataMode p = true) :
    let at_ := nextCount (s.tx p).blocks 1024 512
    exec (.hpBeacon p) s = .next (s.fillTo p at_ (at_ + 1) true false) :=
  congrArg Host.Outcome.next (State.when_of _ _ hdata)

/-- A SKIP sequence on a lane of a link in states 2 to 9: before deskew the lane decides alone, after it link lane 0 for all. -/
theorem exec_hpSkipReceive_heard {s : State} {link n : Nat} (hlink : link < 105) (hlane : n < linkWidth link)
    (hlow : 2 ≤ s.get (Reg.L_STS.LINK_STATE (linkFirst link + n))) (hhigh : s.get (Reg.L_STS.LINK_STATE (linkFirst link + n)) ≤ 9)
    (fill : Int) :
    let lane := linkFirst link + n
    let u := s.setLane lane ({ · with fill := fill })
    exec (.hpSkipReceive link n fill) s = .next (
      if s.get (Reg.L_STS.LINK_STATE lane) < 7 then u.skipLeave (leaveFor fill) lane
      else if u.rxLane lane = 0 then u.each (linkLanes lane) (State.skipLeave (leaveFor fill)) else u) := by
  intro lane u
  have heard : ¬(105 ≤ link || linkWidth link ≤ n || s.get (Reg.L_STS.LINK_STATE lane) < 2
      || 9 < s.get (Reg.L_STS.LINK_STATE lane)) = true := by
    simp only [Bool.or_eq_true, decide_eq_true_eq, lane]
    omega
  show execHpSkipReceive link n fill s = _
  rw [execHpSkipReceive, if_neg heard]
  simp only [State.when, decide_eq_true_eq]
  rfl

/-! ### Exchanges (R195 to R199) -/

section
variable {s : State} {p : Nat} (hruns : s.exchanges p = true)
include hruns

theorem exec_hpTtReq_due (hdue : ∀ t, (s.port p).reqAt = some t → t + s.exchangeTime p ≤ s.now) :
    exec (.hpTtReq p) s = .next (s.ttReq p) := by
  have due : (match (s.port p).reqAt with
      | some t => decide (t + s.exchangeTime p ≤ s.now)
      | none => true) = true := by
    cases hlast : (s.port p).reqAt with
    | none => rfl
    | some t => exact decide_eq_true (hdue t hlast)
  exact congrArg Host.Outcome.next (State.when_of _ _ (Bool.and_eq_true_iff.2 ⟨hruns, due⟩))

/-- A TIME status ends the exchange that it names, once its answer has come. -/
theorem exec_hpTime_runs (st : TimeStatus) :
    let u := s.putSat (Reg.HP_OFFSET.THETA p) st.theta
    exec (.hpTime p st) s = .next (State.headLocked p st.locked (match (u.port p).exch.find? (fun e => e.xid = st.xid) with
      | some e => (match e.t4 with
        | some t4 => u.takeTime p st e t4
        | none => u)
      | none => u)) := by
  have runs : ¬(!s.exchanges p) = true := by simp [hruns]
  exact congrArg Host.Outcome.next (if_neg runs)

end

theorem exec_hpTimeStatusTimeout_past {s : State} {p xid : Nat} {e : Exchange}
    (hexch : (s.port p).exch.find? (fun e => e.xid = xid) = some e) (hpast : e.t1 + 800000 ≤ s.now) :
    exec (.hpTimeStatusTimeout p xid) s = .next (s.voidExchange p xid) := by
  show execHpTimeStatusTimeout p xid s = _
  simp only [execHpTimeStatusTimeout, hexch, State.when, decide_eq_true_eq, if_pos hpast]

/-- Settles O26: an equation for each of the commands, whose conditions then decide. -/
theorem headTimeExchange : Obligations.HeadTimeExchange := by
  refine ⟨?skip, ?skipReceive, ?beacon, ?request, ?answer, ?status, ?timeout⟩
  case skip =>
    intro s lane hlane hsends k at_
    exact exec_hpSkip_sends hlane hsends
  case skipReceive =>
    intro s link n fill hlink hn hlow hhigh lane u
    rw [exec_hpSkipReceive_heard hlink hn hlow hhigh]
    exact ⟨fun hbefore => by rw [if_pos hbefore], fun hafter => by rw [if_neg (Nat.not_lt.2 hafter)]⟩
  case beacon =>
    intro s p hdata at_
    exact exec_hpBeacon_sends hdata
  case request =>
    intro s p hruns hdue xid
    exact exec_hpTtReq_due hruns hdue
  case answer =>
    intro s p xid
    rfl
  case status =>
    intro s p st hruns u
    exact exec_hpTime_runs hruns st
  case timeout =>
    intro s p xid e hexch hpast
    exact exec_hpTimeStatusTimeout_past hexch hpast

end Sys2Proof.Machine
end

section
/-! PROOF. A head's status packets, ACKs, faults and what the uplink loses (R182, R200, R201, R203 to R207, R210, R220). -/

namespace Sys2Proof.Machine

section
variable {s : State} {p : Nat}

/-! ### IDENT, HEALTH and FAULT (R205 to R207) -/

theorem exec_hpIdent_heard (h : s.dataMode p = true ∨ s.flag (Reg.HP_LINK_STS.TX_TWI p) = true) (id : Ident) :
    exec (.hpIdent p id) s = .next (if identFits id then s.takeIdent p id
      else ((s.put (Reg.HP_LINK_EVT.IDENT_BAD p) 1).post (ev Code.ST_HP_IDENT_BAD (srcHP p) none none (s.dataPort p))).hpFail p) := by
  have heard : ¬(!s.dataMode p && !s.flag (Reg.HP_LINK_STS.TX_TWI p)) = true := by
    rcases h with h | h <;> simp [h]
  exact congrArg Host.Outcome.next (if_neg heard)

theorem exec_hpHealth_heard (hp : p < 96) (hlow : 7 ≤ s.get (Reg.HP_LINK_STS.STATE p)) (hhigh : s.get (Reg.HP_LINK_STS.STATE p) ≤ 8)
    (hawake : s.flag (Reg.HP_LINK_STS.HEAD_TX_TWI p) = false) (h : HealthStatus) :
    let u := s.mirrorHealth p h
    let v := u.setPort p (fun x => { x with lastHealth := some u.now, fatal := x.fatal && h.fault })
    exec (.hpHealth p h) s = .next (((((v.headCrc p h).headTemp p h).headHeat p h).headLocked p h.locked).confirmBy p h.tsrc) := by
  have heard : ¬(96 ≤ p || s.get (Reg.HP_LINK_STS.STATE p) < 7 || 8 < s.get (Reg.HP_LINK_STS.STATE p)
      || s.flag (Reg.HP_LINK_STS.HEAD_TX_TWI p)) = true := by
    simp [hp, hlow, hhigh, hawake]
  exact congrArg Host.Outcome.next (if_neg heard)

/-! ### Commands to the head (R205, R210, R220) -/

/-- The ACK of a command that waits for one: failed, or carried out. -/
theorem exec_hpAck_awaited {cmdId op : Nat} {c : HeadCmd}
    (hcmd : (s.port p).cmds.find? (fun c => c.id = cmdId && c.op = op) = some c) (result : Nat) :
    let u := s.setPort p (fun x => { x with cmds := x.cmds.filter (fun y => !(y.id = cmdId && y.op = op)) })
    exec (.hpAck p cmdId op result) s = .next (
      if result = 1 ∨ result = 3 then
        (u.put (Reg.HP_LINK_EVT.HEAD_FAULT p) 1).post (ev Code.ST_HP_HEAD_FAULT (srcHP p) op none (u.dataPort p))
      else if op = 2 then u.tapAcked p c.row result else u) := by
  show execHpAck p cmdId op result s = _
  simp only [execHpAck, hcmd, State.when, Bool.or_eq_true, decide_eq_true_eq]

/-- A command without its ACK waits to be sent again, or the port starts again. -/
theorem exec_hpAckTimeout_past {cmdId sent : Nat} {c : HeadCmd} (hcmd : (s.port p).cmds.find? (fun c => c.id = cmdId) = some c)
    (hsent : c.sentAt = some sent) (hpast : sent + 800000 ≤ s.now) :
    exec (.hpAckTimeout p cmdId) s = .next (
      if c.resends < 3 then s.setPort p (fun x => { x with
        cmds := x.cmds.map (fun y => if y.id = cmdId then { y with sentAt := none, resends := y.resends + 1 } else y),
        hctl := x.hctl ++ [c.blocks] })
      else ((s.put (Reg.HP_LINK_EVT.ACK_TIMEOUT p) 1).post
        (ev Code.ST_HP_ACK_TIMEOUT (srcHP p) none none (s.dataPort p))).hpRestart p) := by
  show execHpAckTimeout p cmdId s = _
  simp only [execHpAckTimeout, hcmd, hsent, decide_eq_true hpast, Bool.not_true, Bool.false_eq_true, if_false]

/-! ### Packets of the uplink (R182, R201, R204, R220) -/

theorem exec_hpSensePacket_fits {pkt : SensePacket} (hdata : s.dataMode p = true) (hrow : pkt.row < 16)
    (hcols : pkt.words.length ≤ s.rowCols (16 * p + pkt.row)) :
    exec (.hpSensePacket p pkt) s = .next (match (s.port p).sensed.find? (fun x => x.row = pkt.row && x.seq = pkt.seq) with
      | none => s
      | some x => State.calWatch (((s.count (Reg.HP_CNT.CNT p 5)).setPort p (fun y => { y with sensed := y.sensed.filter (· ≠ x) })).each
          pkt.words.zipIdx (fun e u => u.sense (rowGn (16 * p + pkt.row) + e.2) x.chain x.line e.1))) := by
  have fits : ¬(!s.dataMode p || 16 ≤ pkt.row || s.rowCols (16 * p + pkt.row) < pkt.words.length) = true := by
    simp [hdata, hrow, hcols]
  exact congrArg Host.Outcome.next (if_neg fits)

section
variable {first : Nat} {blocks : List (Nat × Nat)} (hstate : 7 ≤ s.get (Reg.HP_LINK_STS.STATE p))
include hstate

theorem exec_hpUplinkDiscard_malformed (hfate : readPacket [1, 2] (blocks.map (readBlock false)) = .malformed) :
    exec (.hpUplinkDiscard p ⟨first, blocks⟩) s = .next
      ((s.packetErrors (headLanes p) false first blocks).count (Reg.HP_CNT.CNT p 4) (max 1 (badBlocks false blocks))) := by
  show execHpUplinkDiscard p ⟨first, blocks⟩ s = _
  rw [execHpUplinkDiscard, if_neg (Nat.not_lt.2 hstate), hfate]

theorem exec_hpUplinkDiscard_badCrc (hfate : readPacket [1, 2] (blocks.map (readBlock false)) = .badCrc) :
    let times := s.now :: (s.port p).crcTimes.filter (fun t => s.now < t + 4000000)
    let u := (s.count (Reg.HP_CNT.CNT p 3)).setPort p ({ · with crcTimes := times.take 8 })
    exec (.hpUplinkDiscard p ⟨first, blocks⟩) s = .next (if 8 ≤ times.length then u.crcBurst p else u) := by
  show execHpUplinkDiscard p ⟨first, blocks⟩ s = _
  rw [execHpUplinkDiscard, if_neg (Nat.not_lt.2 hstate), hfate]
  simp only [State.when, decide_eq_true_eq]

/-- A packet of a type that the port does not know is only discarded. -/
theorem exec_hpUplinkDiscard_unknown (hform : readPacket [1, 2] (blocks.map (readBlock false)) ≠ .malformed)
    (hcrc : readPacket [1, 2] (blocks.map (readBlock false)) ≠ .badCrc) : exec (.hpUplinkDiscard p ⟨first, blocks⟩) s = .next s := by
  show execHpUplinkDiscard p ⟨first, blocks⟩ s = _
  rw [execHpUplinkDiscard, if_neg (Nat.not_lt.2 hstate)]
  split
  · exact absurd ‹_› hform
  · exact absurd ‹_› hcrc
  · rfl

end
end

/-- Settles O27: an equation for each packet that is heard, each ACK that a command awaits, and each fate of a discarded packet. -/
theorem headStatusPackets : Obligations.HeadStatusPackets := by
  refine ⟨?ident, ?health, ?ack, ?fault, ?sense, ?discard, ?timeout⟩
  case ident =>
    intro s p id h
    rw [exec_hpIdent_heard h]
    exact ⟨fun hfits => by rw [if_pos hfits], fun hbad => by rw [if_neg (Bool.eq_false_iff.1 hbad)]⟩
  case health =>
    intro s p h hp hlow hhigh hawake u v
    exact exec_hpHealth_heard hp hlow hhigh hawake h
  case ack =>
    intro s p cmdId op result c hcmd u
    rw [exec_hpAck_awaited hcmd]
    exact ⟨fun hfailed => by rw [if_pos hfailed], fun h1 h3 => by rw [if_neg (not_or.2 ⟨h1, h3⟩)]⟩
  case fault =>
    intro s p code detail u
    exact ⟨congrArg Host.Outcome.next (State.when_false u _), congrArg Host.Outcome.next (State.when_true u _)⟩
  case sense =>
    intro s p pkt hdata hrow hcols
    exact exec_hpSensePacket_fits hdata hrow hcols
  case discard =>
    intro s p first blocks hstate fate times t
    exact ⟨exec_hpUplinkDiscard_malformed hstate, exec_hpUplinkDiscard_badCrc hstate, exec_hpUplinkDiscard_unknown hstate⟩
  case timeout =>
    intro s p cmdId sent c hcmd hsent hpast
    rw [exec_hpAckTimeout_past hcmd hsent hpast]
    exact ⟨fun hfew => by rw [if_pos hfew], fun hmany => by rw [if_neg (Nat.not_lt.2 hmany)]⟩

end Sys2Proof.Machine
end

section
/-! PROOF. A port's turn on its link and the tap loads of its rows (R208 to R211, R219). -/

namespace Sys2Proof.Machine

/-- The load of a row's next tap change: held while the port is not UP or a line uses the bank, else sent. -/
theorem exec_hpTapLoad_next {s : State} {p row : Nat} {t : TapChange} (hnext : (s.foldTaps p row).nextTap p row = some t) :
    let u := s.foldTaps p row
    let bank := if t.again then t.bank else 1 - ((u.port p).tbank.lookup row).getD 0
    exec (.hpTapLoad p row) s = .next (
      if u.portUp p = false ∨ u.bankBusy p row bank = true then u
      else (u.setPort p (fun x => { x with
        taps := x.taps.map (fun y => if y = t then { y with sent := true, bank := bank } else y) })).tapLoad p row t.chain t.line bank) := by
  show execHpTapLoad p row s = _
  simp only [execHpTapLoad, hnext, Bool.or_eq_true, Bool.not_eq_true']

theorem exec_hpTapLoad_none {s : State} {p row : Nat} (hnone : (s.foldTaps p row).nextTap p row = none) :
    exec (.hpTapLoad p row) s = .next (s.foldTaps p row) := by
  show execHpTapLoad p row s = _
  simp only [execHpTapLoad, hnone]

/-- Settles O28: a turn is `State.sendTurn` step by step, and a load follows the row's next change. -/
theorem lineAndTapPackets : Obligations.LineAndTapPackets := by
  refine ⟨?turn, ?load⟩
  case turn =>
    intro s p whole rest a b c t
    rfl
  case load =>
    intro s p row u
    cases hnext : u.nextTap p row with
    | none => exact exec_hpTapLoad_none hnext
    | some t => exact exec_hpTapLoad_next hnext

end Sys2Proof.Machine
end

section
/-! PROOF. The equaliser, the eye and the re-adaptation of a lane, and L_CTRL (R190, R229 to R232, R234, R235, R241, R242, R245, R246,
R255). -/

namespace Sys2Proof.Machine

/-! ### L_TXEQ and L_CTRL (R229, R235, R241, R245, R246) -/

section
variable {s : State} {slot lane : Nat}

theorem exec_lTxeqWrite (h : s.mayWrite slot (Reg.L_TXEQ.AT lane)) (data : Word) :
    exec (.lTxeqWrite slot lane data) s = .next ((s.inbound slot).txeqWrite slot lane data) :=
  congrArg Host.Outcome.next (State.ownerWrite_may h _)

/-- A command of L_CTRL is the owner's write of the register as it stands with bits changed. -/
theorem State.lCtrlBits_may (h : s.mayWrite slot (Reg.L_CTRL.AT lane)) (f : Word → Word) :
    s.lCtrlBits slot lane f = (s.inbound slot).lCtrlWrite slot lane (f ((s.inbound slot).word (Reg.L_CTRL.AT lane))) :=
  State.ownerWrite_may h _

end

/-- A write of L_TXEQ is dropped on host and camera lanes, and where PRE and POST ask for more than 24 steps (R229). -/
theorem State.txeqWrite_eq_if (s : State) (slot lane : Nat) (data : Word) :
    s.txeqWrite slot lane data =
      if laneGroup lane = 1 ∨ laneGroup lane = 2 ∨ 24 < wbits data 0 4 + wbits data 4 5 then s.laneDrop lane
      else s.writeFields slot (Reg.L_TXEQ.AT lane) data := by
  simp only [State.txeqWrite, Bool.or_eq_true, decide_eq_true_eq, or_assoc]

/-! ### Measurements and re-adaptations (R231, R232, R234, R235, R255) -/

section
variable {s : State} {lane : Nat}

/-- A measurement shows its result; on a link that is UP a good one keeps the receiver's values, and a lesser one is MARGINAL. -/
theorem State.showEye_eq_if (s : State) (lane ew eh : Nat) (v : RxVals) :
    let q := s.eyeQual lane ew eh
    let u := (((((s.put (Reg.L_EYE.EW lane) ew).put (Reg.L_EYE.EH lane) eh).put (Reg.L_EYE.QUAL lane) q).put
      (Reg.L_EYE.VALID lane) 1).put (Reg.L_EYE.BUSY lane) 0).setLane lane ({ · with eyeGo := none, eyeAt := some s.now, eye := some q })
    s.showEye lane ew eh v = if u.laneUp lane = false then u
      else if q = 3 then (u.put (Reg.L_STS.MARGINAL lane) 0).setLane lane ({ · with good := some v })
      else u.setMarginal lane := by
  have now (t : State) (f : Fld) (x : Nat) : (t.put f x).now = t.now := State.put_now t f x
  simp only [State.showEye, Bool.not_eq_true', now]

theorem exec_eyeMeasureDone_runs (h : s.flag (Reg.L_EYE.BUSY lane) = true) (ew eh : Nat) :
    exec (.eyeMeasureDone lane ew eh) s = .next (s.showEye lane ew eh (s.rxVals lane)) :=
  congrArg Host.Outcome.next (State.when_of _ _ h)

theorem exec_eyePeriodic_due (hup : s.laneUp lane = true) (hidle : s.flag (Reg.L_EYE.BUSY lane) = false)
    (hdue : ∀ t, (s.lane lane).eyeAt = some t → t + 4000000000 ≤ s.now) :
    exec (.eyePeriodic lane) s = .next (State.eyeStart lane (
      if s.get (Reg.L_RXEQ.MODE lane) = 0 ∧ (s.lane lane).reeq = none then s.adapt lane else s)) := by
  have due : (match (s.lane lane).eyeAt with
      | some t => decide (t + 4000000000 ≤ s.now)
      | none => true) = true := by
    cases hlast : (s.lane lane).eyeAt with
    | none => rfl
    | some t => exact decide_eq_true (hdue t hlast)
  have adapts : s.when (s.get (Reg.L_RXEQ.MODE lane) = 0 && (s.lane lane).reeq.isNone) (State.adapt lane)
      = if s.get (Reg.L_RXEQ.MODE lane) = 0 ∧ (s.lane lane).reeq = none then s.adapt lane else s := by
    simp only [State.when, Bool.and_eq_true, decide_eq_true_eq, Option.isNone_iff_eq_none]
  rw [← adapts]
  exact congrArg Host.Outcome.next (State.when_of _ _
    (Bool.and_eq_true_iff.2 ⟨Bool.and_eq_true_iff.2 ⟨hup, due⟩, hidle.symm ▸ rfl⟩))

theorem exec_reeqDone_runs (h : (s.lane lane).reeq.isSome = true) (ew eh : Nat) (found : RxSetting) :
    exec (.reeqDone lane ew eh found) s = .next (s.reeqEnds lane ew eh ⟨found.rxeq.toNat / 16 % 2 ^ 12, found.taps⟩) := by
  show execReeqDone lane ew eh found s = _
  rw [execReeqDone, h, State.when_true]

end

/-- Settles O29: an equation for each write and for each measurement or re-adaptation that starts or ends. -/
theorem laneTraining : Obligations.LaneTraining := by
  refine ⟨?txeq, ?commands, ?write, ?measured, ?due, ?adapted⟩
  case txeq =>
    intro s slot lane data hmay
    rw [exec_lTxeqWrite hmay, State.txeqWrite_eq_if]
    refine ⟨fun h1 h2 hsum => ?_, fun hbad => ?_⟩
    · rw [if_neg (not_or.2 ⟨h1, not_or.2 ⟨h2, Nat.not_lt.2 hsum⟩⟩)]
    · rw [if_pos (or_rotate.1 hbad)]
  case commands =>
    intro s slot lane hmay u w
    have bits (f : Word → Word) := congrArg (Host.Outcome.next (φ := Fault) (ρ := Refusal)) (State.lCtrlBits_may hmay f)
    exact ⟨bits (wordBit · 6 true), bits (wordBit · 5 true), bits (wordBit · 7 true),
      fun mode => bits (fun w => wordBit (wordBit w 3 (bit mode 0)) 4 (bit mode 1))⟩
  case write =>
    intro u slot lane data g loop old drop on x a b c d e
    refine ⟨fun hdrop => if_pos hdrop, fun hkeep => (if_neg (Bool.eq_false_iff.1 hkeep)).trans ?_⟩
    rw [State.when_bne_eq_if, State.when_bne_or_ne_eq_if]
    rfl
  case measured =>
    intro s lane ew eh hruns q u
    rw [exec_eyeMeasureDone_runs hruns, State.showEye_eq_if]
  case due =>
    intro s lane hup hidle hdue
    exact exec_eyePeriodic_due hup hidle hdue
  case adapted =>
    intro s lane ew eh found hruns
    exact exec_reeqDone_runs hruns ew eh found

end Sys2Proof.Machine
end

section
/-! PROOF. Bit slips, patterns and self-tests of a lane (R236, R237, R240 to R242, R245, R246, R255). -/

namespace Sys2Proof.Machine

/-- A change that starts where a condition rises. -/
theorem State.when_not_and_eq_if (s : State) (x y : Bool) (f : State → State) :
    s.when (!x && y) f = if x = false ∧ y = true then f s else s := by
  cases x <;> cases y <;> rfl

/-! ### L_BS and L_PRBS (R236, R240, R245, R246) -/

theorem wbit_or_one_zero (w : Word) : wbit (w ||| 1) 0 = true := by
  simp [wbit, bit]

section
variable {s : State} {slot lane : Nat}

theorem exec_bitslip (h : s.mayWrite slot (Reg.L_BS.AT lane)) :
    let u := s.inbound slot
    exec (.bitslip slot lane) s = .next (u.lBsWrite slot lane (u.word (Reg.L_BS.AT lane) ||| 1)) :=
  congrArg Host.Outcome.next (State.ownerWrite_may h _)

theorem exec_prbsGenEn (h : s.mayWrite slot (Reg.L_PRBS.AT lane)) (on : Bool) :
    let u := s.inbound slot
    exec (.prbsGenEn slot lane on) s = .next (u.lPrbsWrite slot lane (wordBit (u.word (Reg.L_PRBS.AT lane)) 4 on)) :=
  congrArg Host.Outcome.next (State.ownerWrite_may h _)

end

/-- A write of L_BS that sets BITSLIP: dropped on host and camera lanes, and while a slip is in progress (R236, R245, R246). -/
theorem State.lBsWrite_bitslip (s : State) (slot lane : Nat) {data : Word} (hslip : wbit data 0 = true) :
    let w := s.settleSlips.writeFields slot (Reg.L_BS.AT lane) data
    s.lBsWrite slot lane data =
      if laneGroup lane = 1 ∨ laneGroup lane = 2 then s.settleSlips.laneDrop lane
      else if w.flag (Reg.L_BS.PENDING lane) = true then w.laneDrop lane else w.slip lane := by
  have asked : ¬(!wbit data 0) = true := by simp [hslip]
  simp only [State.lBsWrite, if_neg asked, Bool.or_eq_true, decide_eq_true_eq]

/-- A write of L_PRBS: its drops, then the fields, a rise of GEN_EN, a rise of CHK_EN, and CHK_EN at 0 (R240, R245, R246). -/
theorem State.lPrbsWrite_eq_if (s : State) (slot lane : Nat) (d : Word) :
    let g := laneGroup lane
    let drop : Bool := g = 2 || (g = 1 && wbit d 4 != s.flag (Reg.L_PRBS.GEN_EN lane)) || 4 < wbits d 0 3
      || (wbit d 4 && !s.flag (Reg.L_PRBS.GEN_EN lane) && s.laneInChain lane)
    let a := s.writeFields slot (Reg.L_PRBS.AT lane) d
    let b := if s.flag (Reg.L_PRBS.GEN_EN lane) = false ∧ a.flag (Reg.L_PRBS.GEN_EN lane) = true then a.laneRestart lane else a
    let c := if s.flag (Reg.L_PRBS.CHK_EN lane) = false ∧ b.flag (Reg.L_PRBS.CHK_EN lane) = true
      then (b.put64 (Reg.L_PRBS_BITS.PAIR lane) 0).setLane lane ({ · with chk := {} }) else b
    s.lPrbsWrite slot lane d =
      if drop then s.laneDrop lane else if c.flag (Reg.L_PRBS.CHK_EN lane) then c else c.put (Reg.L_PRBS.CHK_LOCK lane) 0 := by
  simp only [State.lPrbsWrite, State.when_not_and_eq_if, State.when_not_eq_if]

/-! ### Lane self-tests (R242) -/

section
variable {s : State} {lane : Nat}

theorem exec_laneSelftestRun_due (hlane : linkLane lane = true) (hdue : s.flag (Reg.L_SELFTEST.PENDING lane) = true)
    (hfree : s.testInterval lane = true) :
    exec (.laneSelftestRun lane) s = .next ((s.testStarted.testDown lane).each (linkLanes lane) (fun n t =>
      (((t.put (Reg.L_SELFTEST.PENDING n) 0).put (Reg.L_SELFTEST.RUNNING n) 1).put (Reg.L_PRBS.CHK_LOCK n) 1).setLane n
        ({ · with test := 1 }))) := by
  have runs : ¬(!linkLane lane || !s.flag (Reg.L_SELFTEST.PENDING lane) || !s.testInterval lane) = true := by
    simp [hlane, hdue, hfree]
  exact congrArg Host.Outcome.next (if_neg runs)

/-- The loopback of a test in progress ends. -/
theorem exec_laneSelftestDone_loopback (h : (linkLanes lane).any (fun n => (s.lane n).test = 1) = true) (errors : List Nat) :
    exec (.laneSelftestDone lane (.loopback errors)) s = .next (s.loopbackEnds (linkLanes lane) errors) :=
  congrArg Host.Outcome.next (State.when_of _ _ h)

/-- The bring-up after a loopback ends with the link UP or failed. -/
theorem exec_laneSelftestDone_bringup (h : (linkLanes lane).any (fun n => (s.lane n).test = 2) = true)
    (hended : s.get (Reg.L_STS.LINK_STATE lane) = 8 ∨ s.get (Reg.L_STS.LINK_STATE lane) = 10) :
    exec (.laneSelftestDone lane .bringup) s = .next (s.testBringup (linkLanes lane)) := by
  have ended : (decide (s.get (Reg.L_STS.LINK_STATE lane) = 8) || decide (s.get (Reg.L_STS.LINK_STATE lane) = 10)) = true := by
    simpa using hended
  exact congrArg Host.Outcome.next (State.when_of _ _ (Bool.and_eq_true_iff.2 ⟨h, ended⟩))

end

/-- Settles O30: an equation for each of the two writes, and for a test that runs, ends its loopback or ends its bring-up. -/
theorem laneTests : Obligations.LaneTests := by
  refine ⟨?slip, ?pattern, ?run, ?loopback, ?bringup⟩
  case slip =>
    intro s slot lane hmay u w
    rw [exec_bitslip hmay, State.lBsWrite_bitslip u slot lane (wbit_or_one_zero _)]
  case pattern =>
    intro s slot lane on hmay u d g drop a b c
    rw [exec_prbsGenEn hmay, State.lPrbsWrite_eq_if]
  case run =>
    intro s lane hlane hdue hfree
    exact exec_laneSelftestRun_due hlane hdue hfree
  case loopback =>
    intro s lane errors htest
    exact exec_laneSelftestDone_loopback htest errors
  case bringup =>
    intro s lane htest hended
    exact exec_laneSelftestDone_bringup htest hended

end Sys2Proof.Machine
end

section
/-! PROOF. Loss and return of a reference clock (R226, R228, R255, R543, R544). -/

namespace Sys2Proof.Machine

section
variable {s : State} {ref : Nat}

/-- The loss of a reference not yet lost: kept, and told where the die is awake and lanes of it are on. -/
theorem exec_refClockLoss_new (href : ref < 7) (hnew : s.pwr.refLost.contains ref = false) :
    let u := s.setPwr (fun p => { p with refLost := ref :: p.refLost })
    let ns := u.refLanes ref
    exec (.refClockLoss ref) s = .next (
      if u.awake = false ∨ ns = [] then u
      else ((((u.each ns (fun n t => (t.put (Reg.L_STS.CDR n) 0).put (Reg.L_EVT.REF_LOSS n) 1)).errRecord
        (er Code.ST_LANE_REF_LOSS (srcL (ns.headD 0)) 3 1 0 (ns.headD 0))).post (ev Code.ST_LANE_REF_LOSS (srcL (ns.headD 0)))).refLinksDown
          ref)) := by
  have isNew : ¬(7 ≤ ref || s.pwr.refLost.contains ref) = true := by simpa [href] using hnew
  show execRefClockLoss ref s = _
  rw [execRefClockLoss, if_neg isNew]
  simp only [Bool.or_eq_true, Bool.not_eq_true', decide_eq_true_eq]

/-- The return of a lost reference restarts its head ports, its peer links and, for the cameras' reference, the discoveries. -/
theorem exec_refClockRestore_lost (hlost : s.pwr.refLost.contains ref = true) :
    let u := s.setPwr (fun p => { p with refLost := p.refLost.filter (· ≠ ref) })
    let v := u.each ((refPorts ref).filter (fun _ => u.domOn (4 + ref))) State.hpRestart
    let w := v.each ((refPeers ref).filter (fun _ => v.domOn 3)) State.peerRestart
    exec (.refClockRestore ref) s = .next (
      if ref = 4 ∧ w.domOn 8 = true then w.each ((List.range 8).filter (fun p => w.flag (Reg.CAM_P_CTRL.EN p))) (fun p t => t.discover p)
      else w) := by
  have wasLost : ¬(!s.pwr.refLost.contains ref) = true := by rw [hlost]; decide
  show execRefClockRestore ref s = _
  rw [execRefClockRestore, if_neg wasLost]
  simp only [State.when, Bool.and_eq_true, decide_eq_true_eq]

end

/-- Settles O31: a new loss by whether the die is awake and has lanes of it on, and a return link by link. -/
theorem referenceClocks : Obligations.ReferenceClocks := by
  refine ⟨?loss, ?restore⟩
  case loss =>
    intro s ref href hnew u ns
    rw [exec_refClockLoss_new href hnew]
    exact ⟨fun hquiet => by rw [if_pos hquiet],
      fun hawake hlanes => by rw [if_neg (not_or.2 ⟨hawake.trans_ne (by decide), hlanes⟩)]⟩
  case restore =>
    intro s ref hlost u v w
    exact exec_refClockRestore_lost hlost

end Sys2Proof.Machine
end

section
/-! PROOF. Peer links: bring-up, ANNOUNCE, discards and CHAN packets (R248 to R254, R320). -/

namespace Sys2Proof.Machine

/-! ### Bring-up (the table "Bring-up steps", R233, R247, R248) -/

section
variable {s : State} {l : Nat} (o : BringupObs)

/-- On an enabled link whose lanes nothing holds, a report is the bring-up's. -/
theorem exec_peerBringupStep (hl : l < 9) (hen : s.peerEnabled l = true) (hfree : s.linkHeld (peerLanes l) = false) :
    exec (.peerBringupStep l o) s = .next (s.peerStep l o) := by
  show execPeerBringupStep l o s = _
  rw [execPeerBringupStep, hen, hfree, decide_eq_true hl]
  rfl

theorem State.peerStep_signal (hst : s.peerLink l = 1) :
    s.peerStep l o = if o.ok then (s.lanesShow (peerLanes l) Reg.L_STS.SIG 1).peerState l 2 else s := by
  rw [State.peerStep, hst]
  rfl

theorem State.peerStep_clock (hst : s.peerLink l = 2) :
    s.peerStep l o
      = if o.ok then ((s.lanesShow (peerLanes l) Reg.L_STS.CDR 1).each (peerLanes l) State.adapt).peerState l 3 else s := by
  rw [State.peerStep, hst]
  rfl

theorem State.peerStep_polarity (hst : s.peerLink l = 3) :
    s.peerStep l o = if o.ok then (s.lanePolarity (peerLanes l) o false).peerState l 4 else s := by
  rw [State.peerStep, hst]
  rfl

theorem State.peerStep_lock (hst : s.peerLink l = 4) :
    let t := s.laneSearch true (peerLanes l) o
    s.peerStep l o = if t.lanesLocked (peerLanes l) then t.peerState l 5 else t.peerFail l := by
  rw [State.peerStep, hst]
  rfl

theorem State.peerStep_numbers (hst : s.peerLink l = 5) {ids : List Nat} (hids : obsIds true (peerLanes l) o = some ids) :
    s.peerStep l o = (s.laneIds (peerLanes l) ids).peerState l 6 := by
  simp only [State.peerStep, hst, hids]

theorem State.peerStep_deskew (hst : s.peerLink l = 6) :
    s.peerStep l o = if obsDeskews true (peerLanes l) o
      then (s.setPeer l ({ · with annIn := none, sentAt := none, training := true })).peerState l 7 else s.peerFail l := by
  rw [State.peerStep, hst]
  rfl

theorem State.peerStep_training (hst : s.peerLink l = 7) (htrain : (s.peer l).training = true) :
    s.peerStep l o = if obsReady true (peerLanes l) o then s.peerDataMode l else s := by
  simp only [State.peerStep, hst, htrain, if_true, State.when]

/-- HELLO: past training, the eyes and an ANNOUNCE decide. -/
theorem State.peerStep_hello (hst : s.peerLink l = 7) (htrain : (s.peer l).training = false) : s.peerStep l o = s.peerTryUp l := by
  simp only [State.peerStep, hst, htrain, Bool.false_eq_true, if_false]

theorem State.peerTryUp_bad (hbad : s.eyesBad (peerLanes l) = true) : s.peerTryUp l = (s.noEq (peerLanes l)).peerFail l :=
  if_pos hbad

theorem State.peerTryUp_good (hbad : s.eyesBad (peerLanes l) = false) (hgood : s.eyesGood (peerLanes l) = true)
    (hann : (s.peer l).annIn.isSome = true) : s.peerTryUp l = s.peerUp l := by
  simp only [State.peerTryUp, hbad, hgood, hann, Bool.false_eq_true, if_false, Bool.and_self, State.when_true]

end

/-! ### Limits (R233, R248) -/

section
variable {s : State} {l : Nat}

theorem exec_peerBringupTimeout_past {d : Nat} (hl : l < 9) (hlimit : stepLimit (s.peerLink l) = some d)
    (hpast : (s.peer l).since + d ≤ s.now) :
    exec (.peerBringupTimeout l) s = .next ((if s.peerLink l = 7 then s.noEq (peerLanes l) else s).peerFail l) := by
  have past : ¬(9 ≤ l || s.now < (s.peer l).since + d) = true := by simp [hl, hpast]
  show execPeerBringupTimeout l s = _
  simp only [execPeerBringupTimeout, hlimit, if_neg past, State.when, decide_eq_true_eq]

theorem exec_peerRetryTimer_past {t : Nat} (hfailed : (s.peer l).failedAt = some t) (hpast : t + 4000000 ≤ s.now) :
    exec (.peerRetryTimer l) s = .next (s.peerRestart l) := by
  show execPeerRetryTimer l s = _
  simp only [execPeerRetryTimer, hfailed, State.when, decide_eq_true_eq, if_pos hpast]

/-! ### ANNOUNCE and discards (R249, R250, R253, R254) -/

theorem State.announce_data (hdata : s.peerData l = true) :
    let what := (s.get Reg.MER_CTRL.ROLE, s.get Reg.PWR_CEIL.CEIL)
    s.announce l = (s.setPeer l ({ · with sentAt := some s.now, sent := what })).peerPut l
      ⟨1, 2, [what.1, what.2, Config.fuseSerial % 2 ^ 64], none⟩ := by
  rw [State.announce, hdata]
  rfl

/-- An ANNOUNCE is due where none was sent, or the last one 1 ms ago. -/
theorem exec_announce_due (hl : l < 9) (hdue : ∀ t, (s.peer l).sentAt = some t → t + 4000000 ≤ s.now) :
    exec (.announce l) s = .next (s.announce l) := by
  show execAnnounce l s = _
  cases hsent : (s.peer l).sentAt with
  | none => simp only [execAnnounce, hsent, hl, decide_true, Bool.and_self, State.when_true]
  | some t => simp only [execAnnounce, hsent, hl, hdue t hsent, decide_true, Bool.and_self, State.when_true]

theorem exec_announceReceive_data (hl : l < 9) (hdata : s.peerData l = true) (role ceil serial : Nat) :
    let u := s.setPeer l ({ · with annIn := some s.now, annRole := role, annCeil := ceil, annSerial := serial })
    exec (.announceReceive l role ceil serial) s = .next (
      if l = 0 then (u.setDue ({ · with peerCeil := ceil })).refreshCeil
      else if u.get Reg.MER_CTRL.ROLE = 1 ∧ role = 1 then
        u.postLimited (ev Code.ST_STN_TWO_MASTERS (srcL (peerLane l))) l 4000000000
      else u) := by
  have heard : ¬(9 ≤ l || !s.peerData l) = true := by simp [hl, hdata]
  show execAnnounceReceive l role ceil serial s = _
  rw [execAnnounceReceive, if_neg heard]
  simp only [State.when, Bool.and_eq_true, decide_eq_true_eq]

/-- 5 ms since the last ANNOUNCE, or since UP where none has come. -/
theorem exec_announceTimeout_late (hl : l < 9) (hup : s.peerLink l = 8)
    (hlate : ((s.peer l).annIn.getD (s.peer l).since) + 20000000 ≤ s.now) :
    exec (.announceTimeout l) s = .next (s.peerFail l) := by
  show execAnnounceTimeout l s = _
  cases hann : (s.peer l).annIn with
  | none =>
    have late : (s.peer l).since + 20000000 ≤ s.now := by simpa [hann] using hlate
    simp only [execAnnounceTimeout, hann, hl, hup, late, decide_true, Bool.and_self, State.when_true]
  | some t =>
    have late : t + 20000000 ≤ s.now := by simpa [hann] using hlate
    simp only [execAnnounceTimeout, hann, hl, hup, late, decide_true, Bool.and_self, State.when_true]

theorem exec_stPeerCrcBurst_data (hl : l < 9) (hdata : s.peerData l = true) (packets : List (List (Nat × Nat))) :
    let bad := packets.filter (fun p => readPacket [1, 2, 3] (p.map (readBlock true)) ≠ .good)
    exec (.stPeerCrcBurst l packets) s
      = .next ((s.each bad (fun p t => t.packetErrors (peerLanes l) true 0 p)).peerDiscard l bad.length) := by
  have heard : ¬(9 ≤ l || !s.peerData l) = true := by simp [hl, hdata]
  exact congrArg Host.Outcome.next (if_neg heard)

end

/-! ### CHAN packets (R252, R320, R321) -/

/-- A CHAN packet on a lane of a link that is UP: taken on the Duet link in a listed channel, else discarded. -/
theorem exec_chan_up {s : State} {lane : Nat} (hlow : 240 ≤ lane) (hhigh : lane < 256) (hup : s.peerLink (lanePeer lane) = 8)
    (ch seq b1 : Nat) :
    exec (.chan lane ch seq b1) s = .next (
      if lanePeer lane ≠ 0 ∨ 6 < ch then s.peerDiscard (lanePeer lane) 1
      else if ch = 0 then (s.chanIn ch seq).hbIn b1
      else if ch = 6 then (s.chanIn ch seq).ackIn b1
      else s.chanIn ch seq) := by
  have peerLaneIn : ¬(lane < 240 || 256 ≤ lane) = true := by simp [hlow, hhigh]
  show execChan lane ch seq b1 s = _
  rw [execChan, if_neg peerLaneIn, if_neg (not_not.2 hup)]
  simp only [Bool.or_eq_true, decide_eq_true_eq]

/-- Settles O32: a report by the step of its state, and an equation for each limit, each ANNOUNCE, the discards and a CHAN packet. -/
theorem peerLinkCommands : Obligations.PeerLinkCommands := by
  refine ⟨?step, ?timeout, ?retry, ?data, ?silent, ?chan⟩
  case step =>
    intro s l o hl hen hfree ns r
    have run : r = .next (s.peerStep l o) := exec_peerBringupStep o hl hen hfree
    rw [run]
    refine ⟨fun hst hok => ?_, fun hst hok => ?_, fun hst hok => ?_, fun hst => ?_, fun hst ids hids => ?_, fun hst => ?_,
      fun hst htrain hready => ?_, fun hst htrain hbad => ?_, fun hst htrain hbad hgood hann => ?_⟩
    · rw [State.peerStep_signal o hst, if_pos hok]
    · rw [State.peerStep_clock o hst, if_pos hok]
    · rw [State.peerStep_polarity o hst, if_pos hok]
    · rw [State.peerStep_lock o hst]
    · rw [State.peerStep_numbers o hst hids]
    · rw [State.peerStep_deskew o hst]
    · rw [State.peerStep_training o hst htrain, if_pos hready]
    · rw [State.peerStep_hello o hst htrain, State.peerTryUp_bad hbad]
    · rw [State.peerStep_hello o hst htrain, State.peerTryUp_good hbad hgood hann]
  case timeout =>
    intro s l d hl hlimit hpast
    exact exec_peerBringupTimeout_past hl hlimit hpast
  case retry =>
    intro s l t hfailed hpast
    exact exec_peerRetryTimer_past hfailed hpast
  case data =>
    intro s l hl hdata
    refine ⟨fun hdue => ?_, exec_announceReceive_data hl hdata, exec_stPeerCrcBurst_data hl hdata⟩
    rw [exec_announce_due hl hdue, State.announce_data hdata]
  case silent =>
    intro s l hl hup hlate
    exact exec_announceTimeout_late hl hup hlate
  case chan =>
    intro s lane ch seq b1 hlow hhigh hup
    exact exec_chan_up hlow hhigh hup ch seq b1

end Sys2Proof.Machine
end

section
/-! PROOF. Camera ports: CAM_P_CTRL, discovery, the control channel and events (R260 to R264, R275, R292, R294). -/

namespace Sys2Proof.Machine

/-! ### CAM_P_CTRL (R260, R275, R294) -/

section
variable {s : State} {slot p : Nat}

theorem exec_retry (hp : p < 8) (h : s.mayWrite slot (Reg.CAM_P_CTRL.AT p)) :
    let u := s.inbound slot
    exec (.retry slot p) s = .next (if u.camState p = 3 then u.discover p else u) := by
  show execRetry slot p s = _
  rw [execRetry, if_neg (Nat.not_le.2 hp), State.ownerWrite_may h]

theorem exec_camPortEnable (hp : p < 8) (h : s.mayWrite slot (Reg.CAM_P_CTRL.AT p)) (data : Word) :
    exec (.camPortEnable slot p data) s = .next ((s.inbound slot).camCtrlWrite slot p data) := by
  show execCamPortEnable slot p data s = _
  rw [execCamPortEnable, if_neg (Nat.not_le.2 hp), State.ownerWrite_may h]

end

section
variable {u : State} {slot p : Nat} {data : Word}

theorem State.camCtrlWrite_locked (hlock : u.lockedAt (Reg.CAM_P_CTRL.AT p) = true) :
    let w := u.writeFields slot (Reg.CAM_P_CTRL.AT p) data
    u.camCtrlWrite slot p data = if wbit data 8 && w.camState p = 3 then w.discover p else w :=
  if_pos hlock

section
variable (hlock : u.lockedAt (Reg.CAM_P_CTRL.AT p) = false)
include hlock

theorem State.camCtrlWrite_dropped (hbad : wbits data 4 3 = 0 ∨ wbits data 2 2 = 3) :
    u.camCtrlWrite slot p data = u.put (Reg.CAM_P_STS.CFG_ERR p) 1 := by
  have bad : (wbits data 4 3 = 0 || wbits data 2 2 = 3) = true := by simpa using hbad
  rw [State.camCtrlWrite, if_neg (Bool.eq_false_iff.1 hlock), if_pos bad]

variable (hrate : wbits data 4 3 ≠ 0) (hconn : wbits data 2 2 ≠ 3)
include hrate hconn

/-- An unlocked write that is not dropped goes by what it makes of EN. -/
theorem State.camCtrlWrite_taken :
    let was := u.flag (Reg.CAM_P_CTRL.EN p)
    let w := u.writeFields slot (Reg.CAM_P_CTRL.AT p) data
    u.camCtrlWrite slot p data =
      if !was && wbit data 0 then
        u.budgeted p (fun t => (t.writeFields slot (Reg.CAM_P_CTRL.AT p) data).discover p)
      else if was && !wbit data 0 then ((u.camOff p).writeFields slot (Reg.CAM_P_CTRL.AT p) data).showDemand
      else if wbit data 0 && w.camState p = 3 then w.discover p else w := by
  have fit : ¬(wbits data 4 3 = 0 || wbits data 2 2 = 3) = true := by simp [hrate, hconn]
  exact (if_neg (Bool.eq_false_iff.1 hlock)).trans (if_neg fit)

theorem State.camCtrlWrite_enables (hwas : u.flag (Reg.CAM_P_CTRL.EN p) = false) (hen : wbit data 0 = true) :
    let v := (u.writeFields slot (Reg.CAM_P_CTRL.AT p) data).discover p
    u.camCtrlWrite slot p data =
      if v.flag (Reg.CAM_P_CTRL.EN p) && v.overBudget p then u.post (ev Code.ST_CAM_BUDGET (srcCP p)) else v.showDemand := by
  have rises : (!u.flag (Reg.CAM_P_CTRL.EN p) && wbit data 0) = true := by rw [hwas, hen]; rfl
  exact (State.camCtrlWrite_taken hlock hrate hconn).trans (if_pos rises)

theorem State.camCtrlWrite_disables (hwas : u.flag (Reg.CAM_P_CTRL.EN p) = true) (hen : wbit data 0 = false) :
    u.camCtrlWrite slot p data = ((u.camOff p).writeFields slot (Reg.CAM_P_CTRL.AT p) data).showDemand := by
  rw [State.camCtrlWrite_taken hlock hrate hconn, hwas, hen]
  rfl

theorem State.camCtrlWrite_keepsEn (hsame : u.flag (Reg.CAM_P_CTRL.EN p) = wbit data 0) :
    let w := u.writeFields slot (Reg.CAM_P_CTRL.AT p) data
    u.camCtrlWrite slot p data = if wbit data 0 && w.camState p = 3 then w.discover p else w := by
  rw [State.camCtrlWrite_taken hlock hrate hconn, hsame, Bool.not_and_self, Bool.and_not_self, if_neg Bool.false_ne_true,
    if_neg Bool.false_ne_true]

end
end

/-! ### Discovery (R260, R261) -/

section
variable {s : State} {p : Nat}

theorem exec_camDiscoveryDone_runs (hp : p < 8) (hruns : s.camState p = 1) (found reached : Nat) :
    let want := s.camConns p
    let rate := s.get (Reg.CAM_P_CTRL.RATE p)
    let u := (s.put (Reg.CAM_P_STS.CONN_FOUND p) (min found 7)).put (Reg.CAM_P_STS.RATE_FOUND p) (min reached rate)
    exec (.camDiscoveryDone p found reached) s = .next (
      if found < want || reached < rate then (u.put (Reg.CAM_P_STS.STATE p) 3).post (ev Code.ST_CAM_DISCOVERY_FAIL (srcCP p))
      else ((u.put (Reg.CAM_P_STS.STATE p) 2).showCamLanes p want rate).post (ev Code.ST_CAM_LINK_UP (srcCP p))) := by
  have runs : ¬(8 ≤ p || s.camState p ≠ 1) = true := by simp [hp, hruns]
  exact congrArg Host.Outcome.next (if_neg runs)

theorem exec_stCamLinkDown_up (hp : p < 8) (hup : s.camState p = 2) :
    exec (.stCamLinkDown p) s = .next ((s.post (ev Code.ST_CAM_LINK_DOWN (srcCP p))).discover p) := by
  have up : ¬(8 ≤ p || s.camState p ≠ 2) = true := by simp [hp, hup]
  exact congrArg Host.Outcome.next (if_neg up)

end

/-! ### The control channel (R262, R292) -/

theorem exec_send {s : State} {slot p : Nat} (hp : p < 8) (h : s.mayWrite slot (Reg.CAM_P_CC_CTRL.AT p)) (data : Word) :
    exec (.send slot p data) s = .next ((s.inbound slot).ccWrite p data) := by
  show execSend slot p data s = _
  rw [execSend, if_neg (Nat.not_le.2 hp), State.ownerWrite_may h]

section
variable {u : State} {p : Nat} {data : Word}

theorem State.ccWrite_noSend (hsend : wbit data 14 = false) :
    u.ccWrite p data = u.hostSet (Reg.CAM_P_CC_CTRL.AT p) false data := by
  rw [State.ccWrite, hsend]
  rfl

theorem State.ccWrite_busy (hsend : wbit data 14 = true) (hbusy : u.flag (Reg.CAM_P_CC_CTRL.BUSY p) = true) :
    u.ccWrite p data = (u.hostSet (Reg.CAM_P_CC_CTRL.AT p) false data).put (Reg.CAM_P_STS.CFG_ERR p) 1 := by
  rw [State.ccWrite, hsend, hbusy]
  rfl

section
variable (hsend : wbit data 14 = true) (hidle : u.flag (Reg.CAM_P_CC_CTRL.BUSY p) = false)
include hsend hidle

/-- A set's write that is due goes first, and SEND is dropped (R292). -/
theorem State.ccWrite_setFirst {e : Nat × CamSet} :
    let w := u.hostSet (Reg.CAM_P_CC_CTRL.AT p) false data
    (w.cam p).sets.find? (fun e => w.get Reg.ERR_STS.SHED ≠ 3 && w.writesWait p e.1 e.2) = some e →
    u.ccWrite p data = (w.sendWrite p e.1).put (Reg.CAM_P_STS.CFG_ERR p) 1 := by
  intro w hdue
  rw [State.ccWrite, hsend, hidle, hdue]
  rfl

theorem State.ccWrite_sends :
    let w := u.hostSet (Reg.CAM_P_CC_CTRL.AT p) false data
    (w.cam p).sets.find? (fun e => w.get Reg.ERR_STS.SHED ≠ 3 && w.writesWait p e.1 e.2) = none →
    u.ccWrite p data = w.ccSend p := by
  intro w hnone
  rw [State.ccWrite, hsend, hidle, hnone]
  rfl

end
end

section
variable {s : State} {p : Nat} (hp : p < 8) (hbusy : s.flag (Reg.CAM_P_CC_CTRL.BUSY p) = true)
include hp hbusy

/-- An acknowledge ends the transaction of a set's write, or of the host. -/
theorem exec_stCamCcDone_busy (bytes : List Byte) (ok : Bool) :
    let b := bytes.take 1024
    let u := s.setWords (Reg.CAM_P_RXBUF.VAL p 0).addr (wordsOf b (ceilDiv b.length 4))
    exec (.stCamCcDone p bytes ok) s = .next (match (s.cam p).ccSlot with
      | some slot => (if ok then s.setAcked p slot else s.setFails p slot).ccNext p (some slot)
      | none => (((u.put (Reg.CAM_P_CC_CTRL.RXLEN p) b.length).put (Reg.CAM_P_CC_CTRL.DONE p) 1).post
        (ev Code.ST_CAM_CC_DONE (srcCP p))).ccNext p none) := by
  have outstanding : ¬(8 ≤ p || !s.flag (Reg.CAM_P_CC_CTRL.BUSY p)) = true := by simp [hp, hbusy]
  exact congrArg Host.Outcome.next (if_neg outstanding)

/-- 200 ms without an acknowledge end it too. -/
theorem exec_stCamCcTimeout_late (hlate : (s.cam p).ccAt + 800000000 ≤ s.now) :
    exec (.stCamCcTimeout p) s = .next (match (s.cam p).ccSlot with
      | some slot => (s.setFails p slot).ccNext p (some slot)
      | none => ((s.put (Reg.CAM_P_CC_CTRL.TIMEOUT p) 1).post (ev Code.ST_CAM_CC_TIMEOUT (srcCP p))).ccNext p none) := by
  have late : ¬(8 ≤ p || !s.flag (Reg.CAM_P_CC_CTRL.BUSY p) || s.now < (s.cam p).ccAt + 800000000) = true := by
    simp [hp, hbusy, hlate]
  exact congrArg Host.Outcome.next (if_neg late)

end

/-! ### Events (R263) -/

/-- An event packet on a connected port: OVF where all four slots are taken, else the next slot. -/
theorem exec_stCamEvent_up {s : State} {p : Nat} {bytes : List Byte} (hp : p < 8) (hup : s.camState p = 2) (hfits : bytes.length ≤ 256) :
    let i := s.get (Reg.CAM_P_EVT.HEAD p)
    let u := s.setWords (Reg.CAM_P_EVBUF.VAL p (64 * i)).addr (wordsOf bytes (ceilDiv bytes.length 4))
    exec (.stCamEvent p bytes) s = .next (
      if 4 ≤ s.get (Reg.CAM_P_EVT.COUNT p) then s.put (Reg.CAM_P_EVT.OVF p) 1
      else ((u.put (Reg.CAM_P_EVT.HEAD p) (i + 1)).count (Reg.CAM_P_EVT.COUNT p)).post (ev Code.ST_CAM_EVENT (srcCP p))) := by
  have heard : ¬(8 ≤ p || s.camState p ≠ 2 || 256 < bytes.length) = true := by simp [hp, hup, hfits]
  exact congrArg Host.Outcome.next (if_neg heard)

/-- Settles O36: a write of CAM_P_CTRL by what it makes of EN, and an equation for each end of discovery, each use of the control
channel and an event. -/
theorem cameraLinkCommands : Obligations.CameraLinkCommands := by
  refine ⟨?ctrl, ?discovered, ?down, ?send, ?ended, ?event⟩
  case ctrl =>
    intro s slot p data hp hmay a u w was
    rw [exec_camPortEnable hp hmay]
    refine ⟨exec_retry hp hmay, fun hlock => ?_, fun hlock hbad => ?_, fun hlock hrate hconn =>
      ⟨fun hwas hen => ?_, fun hwas hen => ?_, fun hsame => ?_⟩⟩
    · rw [State.camCtrlWrite_locked hlock]
    · rw [State.camCtrlWrite_dropped hlock hbad]
    · rw [State.camCtrlWrite_enables hlock hrate hconn hwas hen]
    · rw [State.camCtrlWrite_disables hlock hrate hconn hwas hen]
    · rw [State.camCtrlWrite_keepsEn hlock hrate hconn hsame]
  case discovered =>
    intro s p found reached hp hruns
    exact exec_camDiscoveryDone_runs hp hruns found reached
  case down =>
    intro s p hp hup
    exact exec_stCamLinkDown_up hp hup
  case send =>
    intro s slot p data hp hmay u w due
    rw [exec_send hp hmay]
    refine ⟨fun hsend => ?_, fun hsend hbusy => ?_, fun hsend hidle => ?_⟩
    · rw [State.ccWrite_noSend hsend]
    · rw [State.ccWrite_busy hsend hbusy]
    · exact ⟨fun e hdue => by rw [State.ccWrite_setFirst hsend hidle hdue], fun hnone => by rw [State.ccWrite_sends hsend hidle hnone]⟩
  case ended =>
    intro s p bytes hp hbusy late
    refine ⟨fun hhost => ⟨fun ok => ?_, fun hlate => ?_⟩, fun slot hset => ⟨fun ok => ?_, fun hlate => ?_⟩⟩
    · rw [exec_stCamCcDone_busy hp hbusy, hhost]
    · rw [exec_stCamCcTimeout_late hp hbusy hlate, hhost]
    · rw [exec_stCamCcDone_busy hp hbusy, hset]
    · rw [exec_stCamCcTimeout_late hp hbusy hlate, hset]
  case event =>
    intro s p bytes hp hup hfits
    rw [exec_stCamEvent_up hp hup hfits]
    exact ⟨fun hfull => by rw [if_pos hfull], fun hfree => by rw [if_neg (Nat.not_le.2 hfree)]⟩

end Sys2Proof.Machine
end

section
/-! PROOF. Triggers, camera lines and the camera writes of a set (R258, R266 to R268, R271, R272, R524). -/

namespace Sys2Proof.Machine

/-! ### Triggers (R266 to R268) -/

section
variable {s : State} {p : Nat} {t : Trigger}

theorem exec_cameraTrigger_due (hp : p < 8) (hnext : (s.cam p).trigs.find? (fun t => !t.sent) = some t) (hdue : t.t ≤ s.now + 8) :
    exec (.cameraTrigger p) s = .next (s.cameraTrigger p t) := by
  have due : ¬(8 ≤ p || s.now + 8 < t.t) = true := by simp [hp, hdue]
  show execCameraTrigger p s = _
  simp only [execCameraTrigger, hnext, if_neg due]

theorem State.cameraTrigger_sent (h : (s.setsTake p ⟨t.chain, t.q⟩).skipsTrigger p t = false) :
    s.cameraTrigger p t = (((s.setsTake p ⟨t.chain, t.q⟩).send (.trigger p t.t)).count (Reg.CAM_P_CNT.CNT p 3)).setCam p (fun x =>
      { x with lastTrig := some t.t, trigs := x.trigs.map (fun y => if y = t then { y with sent := true } else y) }) :=
  if_neg (Bool.eq_false_iff.1 h)

theorem State.cameraTrigger_skipped (h : (s.setsTake p ⟨t.chain, t.q⟩).skipsTrigger p t = true) :
    let l : CamAt := ⟨t.chain, t.q⟩
    s.cameraTrigger p t = ((((((s.setsTake p l).count (Reg.CAM_P_CNT.CNT p 4)).pmcAdd (472 + p)).setCam p (fun x =>
      { x with trigs := x.trigs.filter (· ≠ t) })).openFrame p l).tellOnce p l 0 Code.ST_CAM_TRIG_SKIP).lineAbsent p l :=
  if_pos h

theorem exec_lineWindowClose_past (hp : p < 8) (hsent : (s.cam p).trigs.find? (fun t => t.sent) = some t)
    (hpast : t.t + s.get (Reg.CAM_P_LAT.MAX p) * 1000 < s.now) :
    let l : CamAt := ⟨t.chain, t.q⟩
    exec (.lineWindowClose p) s = .next ((((s.setCam p (fun x => { x with trigs := x.trigs.filter (· ≠ t) })).openFrame p
      l).tellOnce p l 1 Code.ST_CAM_LINE_MISSING).lineAbsent p l) := by
  have past : ¬(8 ≤ p || s.now ≤ t.t + s.get (Reg.CAM_P_LAT.MAX p) * 1000) = true := by simp [hp, hpast]
  show execLineWindowClose p s = _
  simp only [execLineWindowClose, hsent, if_neg past]

end

/-! ### Stream lines (R258, R267, R268) -/

section
variable {s : State} {p : Nat}

theorem exec_cameraLineReceive_up (hp : p < 8) (hup : s.camState p = 2) (arrival : Nat) (x : StreamLine) :
    exec (.cameraLineReceive p arrival x.head x.pixels x.crcErrors x.full) s = .next (s.receiveLine p arrival x) := by
  have up : ¬(8 ≤ p || s.camState p ≠ 2) = true := by simp [hp, hup]
  exact congrArg Host.Outcome.next (if_neg up)

/-- The state in which a stream line's CRC errors and heartbeats have counted. -/
def State.lineHeard (s : State) (p : Nat) (x : StreamLine) : State :=
  (s.count (Reg.CAM_P_CNT.CNT p 5) x.crcErrors).setCam p (fun c => { c with beats := c.beats + x.head.beats })

/-- The state in which a stream line that falls in no window has counted. -/
def State.lineStray (s : State) (p : Nat) (x : StreamLine) : State :=
  ((s.lineHeard p x).count (Reg.CAM_P_CNT.CNT p 2)).pmcAdd (480 + p)

/-- A heard stream line as the line of the trigger in whose window it falls. -/
def State.triggerLine (u : State) (p : Nat) (x : StreamLine) (t : Trigger) : State :=
  let w := ((u.count (Reg.CAM_P_CNT.CNT p 0)).pmcAdd (352 + p)).put64 (Reg.CAM_P_LINE.PAIR p) t.q
  (w.setCam p (fun c => { c with trigs := c.trigs.filter (· ≠ t), lastGot := some ⟨t.chain, t.q⟩ })).lineFate p
    ⟨⟨t.chain, t.q⟩, some x.pixels, x.full⟩

variable {arrival : Nat} {x : StreamLine}

/-- A stream line by whether the port takes it, the trigger in whose window it falls, and the frame that is open. -/
theorem State.receiveLine_eq (s : State) (p arrival : Nat) (x : StreamLine) :
    let u := s.lineHeard p x
    let v := s.lineStray p x
    s.receiveLine p arrival x =
      if !u.takesStream p x then u.postLimited (ev Code.ST_CAM_FORMAT (srcCP p)) p 4000000000
      else match (u.cam p).trigs.find? (u.inWindow p arrival) with
        | none => match (v.cam p).frames.head? with
          | some f => v.tellOnce p ⟨f.chain, 4096 * f.no⟩ 2 Code.ST_CAM_LINE_STRAY
          | none => v.post (ev Code.ST_CAM_LINE_STRAY (srcCP p))
        | some t => u.triggerLine p x t := rfl

theorem State.receiveLine_refused (h : (s.lineHeard p x).takesStream p x = false) :
    s.receiveLine p arrival x = (s.lineHeard p x).postLimited (ev Code.ST_CAM_FORMAT (srcCP p)) p 4000000000 := by
  rw [State.receiveLine_eq, h]
  rfl

section
variable (htakes : (s.lineHeard p x).takesStream p x = true)
include htakes

theorem State.receiveLine_triggered {t : Trigger}
    (ht : ((s.lineHeard p x).cam p).trigs.find? ((s.lineHeard p x).inWindow p arrival) = some t) :
    s.receiveLine p arrival x = (s.lineHeard p x).triggerLine p x t := by
  rw [State.receiveLine_eq, htakes, ht]
  rfl

variable (hstray : ((s.lineHeard p x).cam p).trigs.find? ((s.lineHeard p x).inWindow p arrival) = none)
include hstray

theorem State.receiveLine_strayOpen {f : CamFrame} (hopen : ((s.lineStray p x).cam p).frames.head? = some f) :
    s.receiveLine p arrival x = (s.lineStray p x).tellOnce p ⟨f.chain, 4096 * f.no⟩ 2 Code.ST_CAM_LINE_STRAY := by
  rw [State.receiveLine_eq, htakes, hstray, hopen]
  rfl

theorem State.receiveLine_strayClosed (hclosed : ((s.lineStray p x).cam p).frames.head? = none) :
    s.receiveLine p arrival x = (s.lineStray p x).post (ev Code.ST_CAM_LINE_STRAY (srcCP p)) := by
  rw [State.receiveLine_eq, htakes, hstray, hclosed]
  rfl

end
end

/-! ### Camera writes of a set (R271, R272, R524) -/

theorem exec_setCameraWrites_due {s : State} {p slot : Nat} {x : CamSet} (hp : p < 8) (hset : (s.cam p).sets.lookup slot = some x)
    (hwait : s.writesWait p slot x = true) :
    exec (.setCameraWrites p slot) s = .next (
      if s.get Reg.ERR_STS.SHED = 3 then s.pmcAdd 435
      else if s.flag (Reg.CAM_P_CC_CTRL.BUSY p) then s.setCam p (fun y => { y with waiting := y.waiting ++ [slot] })
      else s.sendWrite p slot) := by
  have due : ¬(8 ≤ p || !s.writesWait p slot x) = true := by simp [hp, hwait]
  show execSetCameraWrites p slot s = _
  simp only [execSetCameraWrites, hset, if_neg due]

/-- Settles O37: a trigger that is sent or skipped, a line by its format and its trigger, a window that closes, and a set's writes. -/
theorem cameraLineCommands : Obligations.CameraLineCommands := by
  refine ⟨?trigger, ?line, ?window, ?writes⟩
  case trigger =>
    intro s p t hp hnext hdue l u
    rw [exec_cameraTrigger_due hp hnext hdue]
    exact ⟨fun hsend => by rw [State.cameraTrigger_sent hsend], fun hskip => by rw [State.cameraTrigger_skipped hskip]⟩
  case line =>
    intro s p arrival x hp hup u v
    rw [exec_cameraLineReceive_up hp hup]
    refine ⟨fun hbad => ?_, fun htakes hstray => ?_, fun t htakes ht => ?_⟩
    · exact congrArg Host.Outcome.next (State.receiveLine_refused hbad)
    · exact ⟨fun hclosed => congrArg Host.Outcome.next (State.receiveLine_strayClosed htakes hstray hclosed),
        fun f hopen => congrArg Host.Outcome.next (State.receiveLine_strayOpen htakes hstray hopen)⟩
    · exact congrArg Host.Outcome.next (State.receiveLine_triggered htakes ht)
  case window =>
    intro s p t hp hsent hpast
    exact exec_lineWindowClose_past hp hsent hpast
  case writes =>
    intro s p slot x hp hset hwait
    exact exec_setCameraWrites_due hp hset hwait

end Sys2Proof.Machine
end

section
/-! PROOF. The descriptors of a camera capture ring and the statistics records (R271, R288 to R291, R524). -/

namespace Sys2Proof.Machine

/-! ### The ring's head -/

theorem State.capHead_of {s : State} {r : Nat} {d : Desc} {ops : Nat → Bool} (htype : s.ringType r = 2) (hhead : s.headDesc r = some d)
    (hop : ops d.capOp = true) : s.capHead r ops = some d := by
  rw [State.capHead, if_neg (not_not.2 htype), hhead, Option.filter_some, if_pos hop]

section
variable {s : State} {r : Nat} {d : Desc} (htype : s.ringType r = 2) (hhead : s.headDesc r = some d)
include htype hhead

/-- CAPTURE's command takes CAPTURE and every OP that names nothing. -/
theorem exec_capture_head (hop : d.capOp < 2 ∨ 5 ≤ d.capOp) : exec (.capture r) s = .next (s.startCapture r d) := by
  have takes : (d.capOp = 1 || d.capOp = 0 || 5 ≤ d.capOp) = true := by
    simp only [Bool.or_eq_true, decide_eq_true_eq]
    omega
  show execCapture r s = _
  rw [execCapture, State.capHead_of (ops := fun op => op = 1 || op = 0 || 5 ≤ op) htype hhead takes]

theorem exec_setload_head (hop : d.capOp = 3) (bytes : List Byte) : exec (.setload r bytes) s = .next (s.setload r d bytes) := by
  show execSetload r bytes s = _
  rw [execSetload, State.capHead_of htype hhead (decide_eq_true hop)]

theorem exec_replay_head (hop : d.capOp = 4) (bytes : List Byte) : exec (.replay r bytes) s = .next (s.replayDesc r d bytes) := by
  show execReplay r bytes s = _
  rw [execReplay, State.capHead_of htype hhead (decide_eq_true hop)]

theorem exec_stats_head (hop : d.capOp = 2) :
    let u := s.markStarted r d.index
    exec (.stats r) s = .next (
      if d.capLen < 64 * d.capLines then u.complete r d.index Code.ST_CAP_SHORT
      else if d.capLines = 0 then u.complete r d.index Code.ST_OK
      else u.setIns (fun i => { i with stats := i.stats ++ [(r, d.index, 0)] })) := by
  show execStats r s = _
  rw [execStats, State.capHead_of htype hhead (decide_eq_true hop)]

end

/-! ### Captures (R289 to R291) -/

section
variable {s : State} {r : Nat} {d : Desc}

theorem State.startCapture_unfit (hfit : s.capFits d = false) :
    s.startCapture r d = (s.markStarted r d.index).complete r d.index Code.ST_DESC_FORMAT := by
  rw [State.startCapture, hfit]
  rfl

theorem State.startCapture_off (hfit : s.capFits d = true) (hen : s.flag (Reg.CAM_P_CTRL.EN d.capPort) = false) :
    s.startCapture r d = (s.markStarted r d.index).complete r d.index Code.ST_CAM_DOWN := by
  rw [State.startCapture, hfit, hen]
  rfl

/-- Whether a camera line has gone by: the port has taken it or a later one. -/
def CamSt.gone (x : CamSt) (first : CamAt) : Bool :=
  match x.lastGot with
  | some g => first.le g
  | none => false

theorem CamSt.gone_of {x : CamSt} {first : CamAt} (h : ∃ g, x.lastGot = some g ∧ first.le g = true) : x.gone first = true := by
  obtain ⟨g, hgot, hle⟩ := h
  rw [CamSt.gone, hgot]
  exact hle

theorem CamSt.not_gone_of {x : CamSt} {first : CamAt} (h : ∀ g, x.lastGot = some g → first.le g = false) : x.gone first = false := by
  cases hgot : x.lastGot with
  | none => rw [CamSt.gone, hgot]
  | some g =>
    rw [CamSt.gone, hgot]
    exact h g hgot

/-- A capture of an enabled port, whose job has its place, by its buffer, its first line and its number of lines. -/
theorem State.startCapture_placed {c m : Nat} (hfit : s.capFits d = true) (hen : s.flag (Reg.CAM_P_CTRL.EN d.capPort) = true)
    (hline : s.capChainLine d = some (c, m)) :
    let u := s.markStarted r d.index
    let first : CamAt := ⟨c, m / s.lineGroup⟩
    s.startCapture r d =
      if d.capLen < d.capLines * d.capStride (u.camComps d.capPort) then u.complete r d.index Code.ST_CAP_SHORT
      else if (u.cam d.capPort).gone first then u.complete r d.index Code.ST_CAP_LATE
      else if d.capLines = 0 then u.complete r d.index Code.ST_OK
      else u.setIns (fun i => { i with caps := i.caps ++ [⟨r, d.index, d.capPort, first, 0, false⟩] }) := by
  rw [State.startCapture, hfit, hen, hline]
  rfl

end

/-! ### Statistics records (R288, R524) -/

section
variable {s : State} {x : StatRec} (hrec : s.ins.recs.head? = some x)
include hrec

theorem exec_statsRecordWrite_shed (hload : 1 ≤ s.get Reg.ERR_STS.SHED) :
    exec .statsRecordWrite s = .next ((s.setIns (fun i => { i with recs := i.recs.drop 1 })).pmcAdd 433) := by
  show execStatsRecordWrite s = _
  simp only [execStatsRecordWrite, hrec, if_pos hload]

section
variable {r i n : Nat} (hload : s.get Reg.ERR_STS.SHED = 0) (hbuf : s.ins.stats.head? = some (r, i, n))
include hload hbuf

theorem exec_statsRecordWrite_written {d : Desc} (hflight : (s.ring r).flight.find? (·.index = i) = some d) :
    exec .statsRecordWrite s = .next (s.writeStat x r i n d) := by
  have quiet : ¬1 ≤ s.get Reg.ERR_STS.SHED := Nat.not_le.2 (hload ▸ Nat.one_pos)
  show execStatsRecordWrite s = _
  simp only [execStatsRecordWrite, hrec, hbuf, if_neg quiet, hflight]

/-- A buffer whose descriptor is no longer in flight is given up. -/
theorem exec_statsRecordWrite_gone (hflight : (s.ring r).flight.find? (·.index = i) = none) :
    exec .statsRecordWrite s = .next (s.setIns (fun i => { i with stats := i.stats.drop 1 })) := by
  have quiet : ¬1 ≤ s.get Reg.ERR_STS.SHED := Nat.not_le.2 (hload ▸ Nat.one_pos)
  show execStatsRecordWrite s = _
  simp only [execStatsRecordWrite, hrec, hbuf, if_neg quiet, hflight]

end
end

/-- Settles O38: a capture by what refuses it, the other operations by their command, and a record by the load and its buffer. -/
theorem captureDescriptors : Obligations.CaptureDescriptors := by
  refine ⟨?capture, ?others, ?record⟩
  case capture =>
    intro s r d htype hhead hop p u short
    rw [exec_capture_head htype hhead hop]
    refine ⟨fun hbad => ?_, fun hfit hoff => ?_, fun c m hfit hen hline => ?_⟩
    · rw [State.startCapture_unfit hbad]
    · rw [State.startCapture_off hfit hoff]
    · rw [State.startCapture_placed hfit hen hline]
      refine ⟨fun hshort => ?_, fun hlong hgone => ?_, fun hlong hahead => ?_⟩
      · rw [if_pos hshort]
      · rw [if_neg hlong, if_pos (CamSt.gone_of hgone)]
      · rw [if_neg hlong, if_neg (Bool.eq_false_iff.1 (CamSt.not_gone_of hahead))]
  case others =>
    intro s r d bytes htype hhead
    exact ⟨fun hop => exec_setload_head htype hhead hop bytes, fun hop => exec_replay_head htype hhead hop bytes,
      exec_stats_head htype hhead⟩
  case record =>
    intro s x r i n hrec
    exact ⟨exec_statsRecordWrite_shed hrec, fun hload hbuf =>
      ⟨fun d => exec_statsRecordWrite_written hrec hload hbuf, exec_statsRecordWrite_gone hrec hload hbuf⟩⟩

end Sys2Proof.Machine
end

section
/-! PROOF. The work of the calibration unit (R295 to R298, R302 to R304, R307, R308, R310, R311, R524): due ports, runs, batches, marks,
passes, lane sweeps and the time limit. -/

namespace Sys2Proof.Machine

/-! ### Due ports and runs (R295, R296, R524) -/

section
variable {s : State} {p : Nat}

theorem exec_calAgeDue_old (hp : p < 96) (hage : s.get Reg.CAL_TRIG.AGE ≠ 0)
    (hold : s.get (Reg.CAL_PORT_TS.VAL p) * 2 ^ 32 + s.get Reg.CAL_TRIG.AGE * 240000000000 < s.now) :
    exec (.calAgeDue p) s = .next (s.calDue p 2) := by
  have old : ¬(96 ≤ p || s.get Reg.CAL_TRIG.AGE = 0
      || s.now ≤ s.get (Reg.CAL_PORT_TS.VAL p) * 2 ^ 32 + s.get Reg.CAL_TRIG.AGE * 240000000000) = true := by
    simpa [hp, hage] using hold
  exact congrArg Host.Outcome.next (if_neg old)

variable (hruns : s.calRuns = true)
include hruns

/-- Where runs may take place, the load decides whether work starts or is counted as shed. -/
theorem exec_calRunStart_allowed :
    exec .calRunStart s = .next (
      if 2 ≤ s.get Reg.ERR_STS.SHED then s.when (s.cal.due ≠ []) (·.pmcAdd 434) else State.startFirst s.cal.due s.tryStitch) := by
  show execCalRunStart s = _
  rw [execCalRunStart, hruns]
  rfl

theorem exec_calBatchForm_running {r : CalRun} (hrun : s.cal.runs.find? (·.port = p) = some r) :
    exec (.calBatchForm p) s = .next (if 2 ≤ s.get Reg.ERR_STS.SHED then s.pmcAdd 434 else (s.formBatch r).tryStitch) := by
  show execCalBatchForm p s = _
  simp only [execCalBatchForm, hrun, hruns]
  rfl

end

/-! ### Marks and passes (R302 to R304, R308) -/

section
variable {s : State} {i : Nat} {b : CalBatch} (hrole : s.get Reg.DUE_STS.ROLE ≠ 2) (hbatch : s.cal.batches.find? (·.id = i) = some b)
include hrole hbatch

theorem exec_calCellMeasure_passed {cell gn slot : Nat} {x : CalCell} {n : CalNoz} (hnoz : b.noz.find? (·.gn = gn) = some n)
    (hcell : b.cells.find? (fun x => x.no = cell && x.slot = some slot && x.left.contains gn) = some x)
    (hpassed : s.cellPassed b slot = true) : exec (.calCellMeasure i cell gn slot) s = .next (s.measureCell b x n) := by
  have measures : ¬(s.get Reg.DUE_STS.ROLE = 2 || !s.cellPassed b slot) = true := by simp [hrole, hpassed]
  show execCalCellMeasure i cell gn slot s = _
  simp only [execCalCellMeasure, hbatch, Option.bind_some, hnoz, hcell, if_neg measures]

variable (hcells : b.cells = [])
include hcells

theorem exec_calPassEnd_run (hset : b.set = 0) : exec (.calPassEnd i) s = .next (s.endPass b).tryStitch := by
  show execCalPassEnd i s = _
  simp [execCalPassEnd, hbatch, hcells, hrole, hset]

/-- A measured set of a stitch ends; set B waits for set A's result. -/
theorem exec_calPassEnd_stitch {t : Stitch} (hset : b.set ≠ 0) (hstitch : s.cal.stitch = some t)
    (hresult : b.set ≠ 2 ∨ t.ea.isSome = true) : exec (.calPassEnd i) s = .next (s.endSet b t).tryStitch := by
  have known : ¬(b.set = 2 && t.ea.isNone) = true := by
    rcases hresult with h | h
    · simp [h]
    · simp [← Option.not_isSome, h]
  show execCalPassEnd i s = _
  simp only [execCalPassEnd, hbatch, hcells, hrole, if_neg hset, hstitch, if_neg known]
  rfl

end

/-! ### Lane sweeps (R310) -/

/-- Whether the periodic sweep of the lanes is due. -/
def State.sweepDue (s : State) : Prop :=
  s.get Reg.CAL_LANE.PERIOD ≠ 0 ∧ s.cal.sweep = [] ∧ s.cal.sweeping = []
    ∧ s.cal.sweepAt + s.get Reg.CAL_LANE.PERIOD * 4000000000 ≤ s.now

section
variable {s : State} (hen : s.flag Reg.CAL_CTRL.LANE_EN = true)
include hen

theorem exec_calLaneSweep_due (hdue : s.sweepDue) :
    let u := s.setCal ({ · with sweepAt := s.now, sweep := s.upLanes, periodic := s.upLanes ≠ [] })
    exec .calLaneSweep s = .next (if s.upLanes = [] then u.post (ev Code.ST_CAL_LANE_DONE srcCAL) else u.sweepOn) := by
  obtain ⟨hperiod, hsweep, hsweeping, hpast⟩ := hdue
  show execCalLaneSweep s = _
  simp [execCalLaneSweep, hen, hperiod, hsweep, hsweeping, hpast]

theorem exec_calLaneSweep_between (hdue : ¬s.sweepDue) :
    let moved := s.movedLanes.filter (fun n => !s.cal.sweep.contains n && !s.cal.sweeping.contains n)
    exec .calLaneSweep s = .next (s.setCal (fun c => { c with sweep := c.sweep ++ moved })).sweepOn := by
  have between : ¬(s.get Reg.CAL_LANE.PERIOD ≠ 0 && (s.cal.sweep = [] && s.cal.sweeping = [])
      && s.cal.sweepAt + s.get Reg.CAL_LANE.PERIOD * 4000000000 ≤ s.now) = true := by
    simpa [State.sweepDue, and_assoc] using hdue
  show execCalLaneSweep s = _
  simp only [execCalLaneSweep, hen, if_neg between]
  rfl

end

/-! ### The time limit (R307) -/

/-- The nozzles of the batches that have been out for MAX_TIME. -/
def State.overdue (s : State) : List (CalBatch × CalNoz) :=
  s.cal.batches.flatMap (fun b =>
    (b.noz.filter (fun n => n.since + s.get Reg.CAL_CFG.MAX_TIME * 4000000000 ≤ s.now)).map (fun n => (b, n)))

/-- The state in which they have been abandoned. -/
def State.giveUpOverdue (s : State) : State := s.each s.overdue (fun e t => t.timeOut e.1 e.2)

section
variable {s : State} (hrole : s.get Reg.DUE_STS.ROLE ≠ 2)
include hrole

theorem exec_stCalTimeout_idle (hstitch : s.giveUpOverdue.cal.stitch = none) :
    exec .stCalTimeout s = .next s.giveUpOverdue.tryStitch := by
  rw [State.giveUpOverdue, State.overdue] at hstitch
  show execStCalTimeout s = _
  simp only [execStCalTimeout, if_neg hrole, hstitch]
  rfl

/-- A stitch under way ends where its last nozzles were abandoned just now. -/
theorem exec_stCalTimeout_stitching {t : Stitch} (hstitch : s.giveUpOverdue.cal.stitch = some t) :
    exec .stCalTimeout s = .next (
      if s.giveUpOverdue.cal.batches.any (fun b => b.set ≠ 0) || !s.overdue.any (fun e => e.1.set ≠ 0) then s.giveUpOverdue
      else s.giveUpOverdue.stitchEnds t.bar Code.ST_CAL_TIMEOUT) := by
  rw [State.giveUpOverdue, State.overdue] at hstitch
  show execStCalTimeout s = _
  simp only [execStCalTimeout, if_neg hrole, hstitch]
  rfl

end

/-- Settles O39: each command under the conditions that let it work, by the load, the set, the sweep that is due and the stitch under
way. -/
theorem calibrationWork : Obligations.CalibrationWork := by
  refine ⟨?age, ?runs, ?cell, ?pass, ?sweep, ?limit⟩
  case age =>
    intro s p hp hage hold
    exact exec_calAgeDue_old hp hage hold
  case runs =>
    intro s hruns
    rw [exec_calRunStart_allowed hruns]
    refine ⟨fun hquiet => ?_, fun hload hdue => ?_, fun p r hrun => ?_⟩
    · rw [if_neg (Nat.not_le.2 hquiet)]
    · rw [if_pos hload, decide_eq_true hdue, State.when_true]
    · exact exec_calBatchForm_running hruns hrun
  case cell =>
    intro s i cell gn slot b x n hrole hbatch hnoz hcell hpassed
    exact exec_calCellMeasure_passed hrole hbatch hnoz hcell hpassed
  case pass =>
    intro s i b hrole hbatch hcells
    exact ⟨exec_calPassEnd_run hrole hbatch hcells, fun t => exec_calPassEnd_stitch hrole hbatch hcells⟩
  case sweep =>
    intro s hen
    exact ⟨exec_calLaneSweep_due hen, exec_calLaneSweep_between hen⟩
  case limit =>
    intro s hrole
    exact ⟨exec_stCalTimeout_idle hrole, fun t => exec_stCalTimeout_stitching hrole⟩

end Sys2Proof.Machine
end

section
/-! PROOF. What the host orders of the calibration unit (R295, R299, R307, R308, R312): RUN and GUTTER descriptors, GO and STOP. -/

namespace Sys2Proof.Machine

/-! ### Descriptors (R299, R307) -/

theorem State.calHead_of {s : State} {r kind : Nat} {d : Desc} (htype : s.ringType r = 5) (hhead : s.headDesc r = some d)
    (hkind : d.kind = kind) : s.calHead r kind = some d := by
  rw [State.calHead, if_neg (not_not.2 htype), hhead, Option.filter_some, if_pos (decide_eq_true hkind)]

section
variable {s : State} {r : Nat} {d : Desc} (htype : s.ringType r = 5) (hhead : s.headDesc r = some d)
include htype hhead

/-- A RUN is refused, queues its bar's stitch, or makes its ports due. -/
theorem exec_run_head (hkind : d.kind = 2) :
    let u := s.markStarted r d.index
    let b := d.at_ 20 1
    let ports := (List.range (d.at_ 19 1)).map (d.at_ 18 1 + ·)
    exec (.run r) s = .next (
      if d.runBad then u.complete r d.index Code.ST_DESC_FORMAT
      else if bit (d.at_ 16 2) 0 then
        (u.setCal (fun c => { c with
          descs := c.descs ++ [⟨r, d.index, [], some b, Code.ST_OK⟩],
          stitchQ := if c.stitchQ.contains b then c.stitchQ else c.stitchQ ++ [b] })).tryStitch
      else (u.setCal (fun c => { c with descs := c.descs ++ [⟨r, d.index, ports, none, Code.ST_OK⟩] })).each ports
        (fun p t => t.calDue p 4)) := by
  show execRun r s = _
  rw [execRun, State.calHead_of htype hhead hkind]

variable (hkind : d.kind = 1)
include hkind

theorem exec_gutter_unfit (hbad : d.gutterBad = true) :
    exec (.gutter r) s = .next ((s.markStarted r d.index).complete r d.index Code.ST_DESC_FORMAT) := by
  show execGutter r s = _
  rw [execGutter, State.calHead_of htype hhead hkind]
  simp only [if_pos hbad]

variable (hfit : d.gutterBad = false)
include hfit

theorem exec_gutter_unknown (hjob : s.job.jobs.find? (·.id = d.at_ 16 2) = none) :
    exec (.gutter r) s = .next ((s.markStarted r d.index).complete r d.index Code.ST_CAL_GUTTER_LATE) := by
  show execGutter r s = _
  rw [execGutter, State.calHead_of htype hhead hkind]
  simp only [if_neg (Bool.eq_false_iff.1 hfit), hjob]

variable {j : Job} (hjob : s.job.jobs.find? (·.id = d.at_ 16 2) = some j) (hplace : j.z < farLine)
include hjob hplace

theorem exec_gutter_ended (hchain : s.chain? j.chain = none) :
    exec (.gutter r) s = .next ((s.markStarted r d.index).complete r d.index Code.ST_CAL_GUTTER_LATE) := by
  show execGutter r s = _
  rw [execGutter, State.calHead_of htype hhead hkind]
  simp only [if_neg (Bool.eq_false_iff.1 hfit), hjob, if_neg (Nat.not_le.2 hplace), hchain]

/-- A band of a job in its place, by whether any of its lines is still usable. -/
theorem exec_gutter_placed {c : Chain} (hchain : s.chain? j.chain = some c) :
    let first := j.z + d.at_ 24 8
    let last := first + d.at_ 32 4 - 1
    let lo := s.gutterFrom c (d.at_ 18 2) first
    let g : Gutter := ⟨c.id, d.at_ 18 2, lo, last, bit (d.at_ 20 1) 0⟩
    let v := ((s.setCal (fun x => { x with bands := x.bands ++ [g] })).markStarted r d.index).complete r d.index Code.ST_OK
    exec (.gutter r) s = .next (
      if last < lo then (s.markStarted r d.index).complete r d.index Code.ST_CAL_GUTTER_LATE
      else v.each (bitList 16 g.bars) (fun b t => t.assignShare b)) := by
  show execGutter r s = _
  rw [execGutter, State.calHead_of htype hhead hkind]
  simp only [if_neg (Bool.eq_false_iff.1 hfit), hjob, if_neg (Nat.not_le.2 hplace), hchain]

end

/-! ### CAL_STITCH_CTRL and CAL_CTRL (R295, R308, R312) -/

section
variable {s : State} {slot : Nat} (data : Word)

theorem exec_go (h : s.mayWrite slot Reg.CAL_STITCH_CTRL.AT) :
    exec (.go slot data) s = .next ((s.inbound slot).stitchWrite slot data) :=
  congrArg Host.Outcome.next (State.ownerWrite_may h _)

theorem exec_stop (h : s.mayWrite slot Reg.CAL_CTRL.AT) :
    exec (.stop slot data) s = .next ((s.inbound slot).calCtrlWrite slot data) :=
  congrArg Host.Outcome.next (State.ownerWrite_may h _)

end

/-- Settles O40: a RUN by `exec_run_head`, a GUTTER by its fields, its job and its chain, and a write by what its register starts. -/
theorem calibrationOrders : Obligations.CalibrationOrders := by
  refine ⟨?descriptors, ?go, ?stop⟩
  case descriptors =>
    intro s r d htype hhead u
    refine ⟨fun hkind hbad => ?_, fun hkind hfit hports => ?_, fun hkind hfit hstitch => ?_, fun hkind hbad => ?_,
      fun hkind hfit hjob => ?_, fun j hkind hfit hjob hplace => ⟨fun hchain => ?_, fun c hchain => ?_⟩⟩
    · rw [exec_run_head htype hhead hkind, if_pos hbad]
    · rw [exec_run_head htype hhead hkind, if_neg (Bool.eq_false_iff.1 hfit), if_neg (Bool.eq_false_iff.1 hports)]
    · rw [exec_run_head htype hhead hkind, if_neg (Bool.eq_false_iff.1 hfit), if_pos hstitch]
    · exact exec_gutter_unfit htype hhead hkind hbad
    · exact exec_gutter_unknown htype hhead hkind hfit hjob
    · exact exec_gutter_ended htype hhead hkind hfit hjob hplace hchain
    · exact exec_gutter_placed htype hhead hkind hfit hjob hplace hchain
  case go =>
    intro s slot data hmay u w
    rw [exec_go data hmay, State.stitchWrite, State.trigger, State.when]
  case stop =>
    intro s slot data hmay w
    rw [exec_stop data hmay, State.calCtrlWrite, State.trigger, State.when]

end Sys2Proof.Machine
end

section
/-! PROOF. DUE_CTRL, pairing, and how a paired die falls back or hands over (R317 to R319, R331, R333, R336, R338 to R340). -/

namespace Sys2Proof.Machine

/-! ### DUE_CTRL (R317, R318, R340) -/

theorem State.dueCtrlBit_may {s : State} {slot : Nat} (h : s.mayWrite slot Reg.DUE_CTRL.AT) (i : Nat) :
    let u := s.inbound slot
    s.dueCtrlBit slot i = u.dueCtrlWrite slot (wordBit (u.word Reg.DUE_CTRL.AT) i true) :=
  State.ownerWrite_may h _

theorem State.pairOwn_eq_if (s : State) :
    let u := s.showDigest
    s.pairOwn = if u.mayPair = false then u.pairFails 8 else if u.duetUp = false then u.pairFails 7
      else (u.setDue ({ · with pairAt := some u.now })).pairSettle := by
  simp only [State.pairOwn, Bool.not_eq_true']

/-! ### Pairing (R318, R319) -/

section
variable {s : State}

theorem exec_pair_peer (hup : s.duetUp = true) (side pref : Nat) :
    exec (.pair (.peer side pref)) s
      = .next ((s.setDue ({ · with peerPair := some s.now, peerSide := side, peerPref := pref })).pairSettle) :=
  congrArg Host.Outcome.next (State.when_of _ _ hup)

/-- With both PAIRs seen, the first check that fails decides; a missing lock alone has 10 ms from the later of the two. -/
theorem exec_pairResult_both (peer : PeerFacts) {a b : Nat} (hown : s.due.pairAt = some a) (hpeer : s.due.peerPair = some b) :
    let u := s.showDigest
    exec (.pairResult peer) s = .next (
      if u.pairCheck peer = 0 then u.pairDone
      else if u.pairCheck peer = 6 ∧ u.now < max a b + 40000000 then u
      else u.pairFails (u.pairCheck peer)) := by
  show execPairResult peer s = _
  simp only [execPairResult, hown, hpeer]
  split
  next hpass => rw [if_pos hpass]
  next hunlocked =>
    rw [hunlocked]
    simp only [OfNat.ofNat_ne_zero, if_false, true_and]
  next hfails hlocked => rw [if_neg hfails, if_neg (fun h => hlocked h.1)]

/-! ### Falling back and handing over (R331, R333, R336, R338, R339) -/

theorem exec_stDuePeerLost_past {t : Nat} (hboth : s.due.bothAt = some t) (hpast : t + 4000000000 ≤ s.now) :
    exec .stDuePeerLost s = .next (((if s.duetRole = 1 ∨ s.duetRole = 2 ∨ s.duetRole = 4 then s.becomeSolo else s).setDue
      ({ · with bothAt := none })).post (ev Code.ST_DUE_PEER_LOST srcDUE)) := by
  show execStDuePeerLost s = _
  simp only [execStDuePeerLost, hboth, if_neg (Nat.not_lt.2 hpast), State.when, Bool.or_eq_true, decide_eq_true_eq, or_assoc]

theorem exec_stDueRevert_past {t : Nat} (hclaim : s.due.claimAt = some t) (hpast : t + 8000000 ≤ s.now) :
    exec .stDueRevert s = .next ((((s.setRole 4).setDue ({ · with claimAt := none, tsrc := [] })).put Reg.DUE_EVT.REVERT 1).post
      (ev Code.ST_DUE_REVERT srcDUE)) := by
  show execStDueRevert s = _
  simp only [execStDueRevert, hclaim, if_neg (Nat.not_lt.2 hpast)]

/-- A primary whose field die is lost orders a handover at the first boundary at least 200 µs ahead, unless one stands. -/
theorem exec_handover_lost (hrole : s.duetRole = 1) (hlost : s.fld.lost = true) (hpeer : s.get Reg.DUE_STS.PEER_ROLE = 2)
    (hnone : ∀ x, s.due.swap = some x → x.handover = false) :
    let rpt := 2 ^ s.get Reg.TRK_CFG.RPT_LOG
    exec .handover s = .next (s.orderSwap 5 (ceilDiv (s.now + 800000) rpt * rpt) ⟨s.now, none, 0, false, true⟩) := by
  have stands : s.due.swap.any (·.handover) = false := by
    cases hswap : s.due.swap with
    | none => rfl
    | some x => exact hnone x hswap
  show Host.Outcome.next s.handOver = _
  simp [State.handOver, hrole, hlost, hpeer, stands]

end

/-- Settles O33: the four bits by `State.dueCtrlBit_may`, pairing by `State.pairOwn_eq_if` and `exec_pairResult_both`, and an equation
for each fall back and for the handover. -/
theorem duetPairing : Obligations.DuetPairing := by
  refine ⟨?bits, ?write, ?own, ?peer, ?result, ?lost, ?revert, ?handover⟩
  case bits =>
    intro s slot hmay u d
    exact ⟨congrArg Host.Outcome.next (State.dueCtrlBit_may hmay 1), congrArg Host.Outcome.next (State.dueCtrlBit_may hmay 2),
      congrArg Host.Outcome.next (State.dueCtrlBit_may hmay 3), congrArg Host.Outcome.next (State.dueCtrlBit_may hmay 4)⟩
  case write =>
    intro s slot data a b c e
    rfl
  case own =>
    exact State.pairOwn_eq_if
  case peer =>
    intro s side pref hup
    exact exec_pair_peer hup side pref
  case result =>
    intro s peer a b hown hpeer
    exact exec_pairResult_both peer hown hpeer
  case lost =>
    intro s t hboth hpast
    exact exec_stDuePeerLost_past hboth hpast
  case revert =>
    intro s t hclaim hpast
    exact exec_stDueRevert_past hclaim hpast
  case handover =>
    intro s hrole hlost hpeer hnone
    exact exec_handover_lost hrole hlost hpeer hnone

end Sys2Proof.Machine
end

section
/-! PROOF. What the Duet's channels carry: heartbeats, state copies, orders, reports, digests, and what a gap or a silent path leaves
(R320 to R322, R325 to R328, R330, R331, R334, R335, R338, R559). -/

namespace Sys2Proof.Machine

/-! ### Heartbeats (R330, R429) -/

section
variable {s : State}

theorem exec_hb_due (hdue : s.due.hbAt ≠ some (s.now / 400000)) :
    let u := s.setDue ({ · with hbAt := some (s.now / 400000) })
    exec .hb s = .next (u.duetSend 0 [s.duetRole + s.get Reg.DUE_STS.LOCAL_SRC * 2 ^ 3 + s.get Reg.DUE_STS.EPOCH * 2 ^ 8
      + s.now / 4000000 % 2 ^ 32 * 2 ^ 16]) :=
  congrArg Host.Outcome.next (if_neg hdue)

theorem exec_hbIn_on (hon : s.fieldOn = true) (width : Nat) :
    let u := s.stsFrame 0x26 (hbCodeOf width)
    exec (.hbIn width) s = .next (
      if s.awake = false then u else if hbCodeOf width = 7 then (u.count (Reg.DUE_CNT.CNT 1)).pmcAdd 412 else u.heard false) := by
  show Host.Outcome.next (s.when s.fieldOn _) = _
  rw [State.when_of _ _ hon]
  cases s.awake <;> rfl

/-! ### State copies (R326, R327, R335) -/

theorem exec_state_due (hrole : s.duetRole = 1) (hawait : s.due.await = false) (hdue : s.due.copyAt ≠ some (s.now / 4000000)) :
    exec .state s = .next ((s.setDue ({ · with copyAt := some (s.now / 4000000) })).sendCopy) := by
  have due : ¬(s.duetRole ≠ 1 || s.due.await || s.due.copyAt = some (s.now / 4000000)) = true := by simp [hrole, hawait, hdue]
  exact congrArg Host.Outcome.next (if_neg due)

theorem exec_stateCopyReceive_heard (hup : s.duetUp = true) (htakes : s.duetRole = 2 ∨ s.due.await = true) (items : List CopyItem) :
    let u := s.showDigest.duetAck 3 ((s.due.seqRx.lookup 3).getD 0) false []
    exec (.stateCopyReceive items) s = .next ((u.each items (fun i t => t.copyItem i)).setDue ({ · with await := false })) := by
  have heard : ¬(!s.duetUp || !(s.duetRole = 2 || s.due.await)) = true := by simpa [hup, or_iff_not_imp_left] using htakes
  exact congrArg Host.Outcome.next (if_neg heard)

/-! ### Orders (R325) -/

theorem exec_order_none (hrole : s.duetRole = 2) : exec (.order none) s = .next s.runOrders :=
  congrArg Host.Outcome.next (if_neg (not_not.2 hrole))

/-- An order that arrives is acknowledged, kept, and carried out with those whose tags are reached. -/
theorem exec_order_some (hrole : s.duetRole = 2) (hup : s.duetUp = true) (o : Order) :
    let more := match o with
      | .swap _ => [unsigned 64 (s.getI64 Reg.DUE_CNT_OFS.PAIR)]
      | _ => []
    exec (.order (some o)) s = .next ((s.duetAck 2 ((s.due.seqRx.lookup 2).getD 0) false more).setDue
      (fun d => { d with orders := d.orders ++ [o] })).runOrders := by
  have heard : ¬(!s.duetUp) = true := by simp [hup]
  exact congrArg Host.Outcome.next ((if_neg (not_not.2 hrole)).trans (if_neg heard))

/-! ### Reports (R322, R559) -/

/-- TIMING of a boundary: the standby votes what it names, any other member moves its shadow of the peer's die. -/
theorem exec_timing_boundary (hup : s.duetUp = true) {tk : Nat} (hgrid : tk % 2 ^ s.get Reg.TRK_CFG.RPT_LOG = 0) (own : Bool)
    (reports : List EdgeReport) (stale : List Bool) :
    let u := s.setDue ({ · with peer := some ⟨tk, !own, reports, stale⟩, localTold := false })
    exec (.timing tk own reports stale) s = .next (
      if u.duetRole = 2 then ((u.put Reg.DUE_STS.LOCAL_SRC 0).restartGap tk).standbyFeed ⟨tk, !own, reports, stale⟩
      else u.setDue (fun x => { x with
        shadow := x.shadow.zipIdx.map (fun e => match reports[e.2]? with
          | some r => if stale.getD e.2 true then e.1 else u.taken r tk 0 e.1
          | none => e.1) })) := by
  have heard : ¬(!s.duetUp || tk % 2 ^ s.get Reg.TRK_CFG.RPT_LOG ≠ 0) = true := by simp [hup, hgrid]
  exact congrArg Host.Outcome.next (if_neg heard)

/-- A boundary 3,000 mt past with neither a vote nor TIMING: the standby votes its own die's reports of it. -/
theorem exec_stDueTimingLocal_missing {b : Nat} (hrole : s.duetRole = 2) (hgrid : b % 2 ^ s.get Reg.TRK_CFG.RPT_LOG = 0)
    (hpast : b + 3000 ≤ s.now) (hvote : s.tb.lastVote ≠ some b) (hpeer : s.due.peer.map (·.tk) ≠ some b) :
    let u := match s.due.local_ with
      | some d => if d.tk = b then s.feed d (s.getI64 Reg.DUE_CNT_OFS.PAIR) else s
      | none => s
    let v := u.put Reg.DUE_STS.LOCAL_SRC 1
    exec (.stDueTimingLocal b) s = .next (if v.due.localTold then v
      else (v.setDue ({ · with localTold := true })).post (ev Code.ST_DUE_TIMING_LOCAL srcDUE)) := by
  have missing : ¬(s.duetRole ≠ 2 || b % 2 ^ s.get Reg.TRK_CFG.RPT_LOG ≠ 0 || s.now < b + 3000
      || s.tb.lastVote = some b || (s.due.peer.map (·.tk)) = some b) = true := by
    simp only [hrole, hgrid, hvote, hpeer, Nat.not_lt.2 hpast, ne_eq, not_true, decide_false, Bool.or_self, Bool.false_eq_true,
      not_false_eq_true]
  intro u v
  exact congrArg Host.Outcome.next ((if_neg missing).trans (State.when_not_eq_if v _ _))

/-! ### Digests (R328) -/

theorem exec_digest_standby (hup : s.duetUp = true) (hrole : s.duetRole = 2) {p : Nat} (hp : p < 96) (lines : List (Nat × Nat × Bool)) :
    let live := lines.filter (fun e => s.digestLive p e.1)
    exec (.digest p lines) s = .next (s.setDue (fun d => { d with
      lastDigest := some s.now,
      digests := d.digests.filter (fun x => !(x.port = p && live.any (fun e => e.1 = x.seq)))
        ++ live.map (fun e => ⟨p, e.1, e.2.1, e.2.2⟩) })) := by
  have heard : ¬(!s.duetUp || s.duetRole ≠ 2 || 96 ≤ p) = true := by simp [hup, hrole, hp]
  exact congrArg Host.Outcome.next (if_neg heard)

theorem exec_digestGateTimeout_silent (hrole : s.duetRole = 2) (hsilent : ∀ t, s.due.lastDigest = some t → t + 80000 ≤ s.now) :
    exec .digestGateTimeout s = .next (s.each s.upPorts (fun p u => u.sendTurn p)).freeShadow.pagesDone := by
  show execDigestGateTimeout s = _
  cases hlast : s.due.lastDigest with
  | none => simp [execDigestGateTimeout, hlast, hrole]
  | some t => simp [execDigestGateTimeout, hlast, hrole, hsilent t hlast]

/-! ### Gaps, silent paths, and the outputs after a claim (R321, R330, R331, R334, R338) -/

theorem exec_duetNakTimeout_past (hlate : s.due.missing.any (fun m => m.2.2 + 400000 ≤ s.now) = true) :
    exec .duetNakTimeout s = .next (s.setDue ({ · with missing := [] })).detach :=
  congrArg Host.Outcome.next (if_pos hlate)

theorem exec_duetOwnRaise_quiet {axis : Nat} (haxis : axis < 4) (hraising : s.due.raising = true) (hrole : s.duetRole = 1)
    (hquiet : s.mot.axes.all (fun x => x.encAt + s.get Reg.DUE_CFG.MOT_QUIET * 4000000 ≤ s.now) = true) :
    exec (.duetOwnRaise axis) s = .next (s.setDue ({ · with own := true, raising := false })).motionFree := by
  have raises : ¬(4 ≤ axis || !s.due.raising || s.duetRole ≠ 1
      || !s.mot.axes.all (fun x => x.encAt + s.get Reg.DUE_CFG.MOT_QUIET * 4000000 ≤ s.now)) = true := by
    simp [haxis, hraising, hrole, hquiet]
  exact congrArg Host.Outcome.next (if_neg raises)

theorem exec_allemandeSwapPoint_none (hpoint : s.swapPoint = none) : exec .allemandeSwapPoint s = .next s := by
  show execAllemandeSwapPoint s = _
  rw [execAllemandeSwapPoint, hpoint]

theorem exec_allemandeSwapPoint_some {ts : Nat} (hpoint : s.swapPoint = some ts) :
    exec .allemandeSwapPoint s = .next (if ts ≤ s.now then s.flip ts else s) := by
  show execAllemandeSwapPoint s = _
  simp only [execAllemandeSwapPoint, hpoint, State.when, decide_eq_true_eq]

/-- A path is told lost from what AllemandeSwapPoint leaves: a swap point that has passed comes first. -/
theorem exec_stDuePathLoss_silent {u : State} (hpoint : exec .allemandeSwapPoint s = .next u) :
    let lane := !s.due.laneLost && s.pathSilent s.due.laneHb
    let pin := !s.due.pinLost && s.pathSilent s.due.pinHb
    let v := if lane then u.pathLost true else u
    let w := if pin then v.pathLost false else v
    lane = true ∨ pin = true → exec .stDuePathLoss s = .next (if w.due.laneLost && w.due.pinLost then w.bothLost else w) := by
  obtain rfl := Host.Outcome.next.inj hpoint
  intro lane pin v w hsilent
  have silent : ¬(!lane && !pin) = true := by simpa [imp_iff_not_or] using hsilent
  exact congrArg Host.Outcome.next (if_neg silent)

end

/-- Settles O34: an equation for each thing a channel carries and for each thing that fails to come; a silent path is told after
`execAllemandeSwapPoint`. -/
theorem duetChannels : Obligations.DuetChannels := by
  refine ⟨?hb, ?pin, ?copy, ?copied, ?order, ?timing, ?missing, ?digest, ?gate, ?gap, ?raise, ?paths⟩
  case hb =>
    intro s hdue
    exact exec_hb_due hdue
  case pin =>
    intro s width hon
    exact exec_hbIn_on hon width
  case copy =>
    intro s hrole hawait hdue
    exact exec_state_due hrole hawait hdue
  case copied =>
    intro s items hup htakes
    exact exec_stateCopyReceive_heard hup htakes items
  case order =>
    intro s hrole
    exact ⟨exec_order_none hrole, fun o hup => exec_order_some hrole hup o⟩
  case timing =>
    intro s tk own reports stale hup hgrid
    exact exec_timing_boundary hup hgrid own reports stale
  case missing =>
    intro s b hrole hgrid hpast hvote hpeer
    exact exec_stDueTimingLocal_missing hrole hgrid hpast hvote hpeer
  case digest =>
    intro s p lines hup hrole hp
    exact exec_digest_standby hup hrole hp lines
  case gate =>
    intro s hrole hsilent
    exact exec_digestGateTimeout_silent hrole hsilent
  case gap =>
    intro s hlate
    exact exec_duetNakTimeout_past hlate
  case raise =>
    intro s axis haxis hraising hrole hquiet
    exact exec_duetOwnRaise_quiet haxis hraising hrole hquiet
  case paths =>
    intro s lane pin u
    have point : exec .allemandeSwapPoint s = .next u := by
      show _ = Host.Outcome.next (match s.swapPoint with | some ts => if ts ≤ s.now then s.flip ts else s | none => s)
      cases hpoint : s.swapPoint with
      | none => exact exec_allemandeSwapPoint_none hpoint
      | some ts => exact exec_allemandeSwapPoint_some hpoint
    exact exec_stDuePathLoss_silent point

end Sys2Proof.Machine
end

section
/-! PROOF. Exchanges of the roles (R334, R335, R337, R558): the order, its withdrawal, a skip, the swap point and its end. -/

namespace Sys2Proof.Machine

section
variable {s : State}

/-- A primary past its last exchange orders one at `ts`, from the state in which the exchange stands. -/
theorem exec_allemandeStart_ready (hrole : s.duetRole = 1) (hpast : s.due.swapped = none) (ts : Nat) :
    let begins := s.due.swap.isNone && s.flag Reg.DUE_CFG.ALLEM_EN && s.get64 Reg.DUE_ALLEM_NEXT.PAIR ≤ s.now
    let u := if begins then s.setDue ({ · with swap := some ⟨s.now, none, 0, false, false⟩ }) else s
    ∀ x, u.due.swap = some x → x.at_ = none → u.allemReady = true → u.swapPlace ts = true →
    ts % 2 ^ u.get Reg.TRK_CFG.RPT_LOG = 0 → u.now + 8000000 ≤ ts → exec (.allemandeStart ts) s = .next (u.orderSwap 4 ts x) := by
  intro begins u x hswap hat hready hplace hgrid hahead
  have may : ¬(s.duetRole ≠ 1 || s.due.swapped.isSome) = true := by simp [hrole, hpast]
  have orders : ¬(x.at_.isSome || !u.allemReady || !u.swapPlace ts || ts % 2 ^ u.get Reg.TRK_CFG.RPT_LOG ≠ 0 || ts < u.now + 8000000)
      = true := by simp [hat, hready, hplace, hgrid, hahead]
  refine congrArg Host.Outcome.next ((if_neg may).trans ?_)
  show (match u.due.swap with | none => u | some x => _) = _
  rw [hswap]
  exact if_neg orders

/-- 1 ms before its point, an exchange that the standby has not acknowledged is withdrawn. -/
theorem exec_allemandeCancel_unacked {x : Swap} {ts : Nat} (hswap : s.due.swap = some x) (hat : x.at_ = some ts)
    (hacked : x.acked = false) (hplain : x.handover = false) (hnear : ts ≤ s.now + 4000000) :
    exec .allemandeCancel s = .next (s.setDue ({ · with swap := some { x with at_ := none } })) := by
  show execAllemandeCancel s = _
  simp only [execAllemandeCancel, hswap, hat, hacked, hplain, hnear, Bool.not_false, decide_true, Bool.and_self, State.when_true]

/-- An exchange that has waited 10 minutes is skipped; a period that is over starts again where it was due. -/
theorem exec_stDueAllemSkip_late {x : Swap} (hswap : s.due.swap = some x) (hat : x.at_ = none) (hplain : x.handover = false)
    (hlate : x.since + 2400000000000 ≤ s.now) :
    let next := s.get64 Reg.DUE_ALLEM_NEXT.PAIR
    let u := s.setDue ({ · with swap := none })
    let v := if next ≤ s.now then (u.setDue ({ · with lastSwap := next })).showAllem else u
    exec .stDueAllemSkip s = .next ((v.put Reg.DUE_EVT.ALLEM_SKIP 1).post (ev Code.ST_DUE_ALLEM_SKIP srcDUE)) := by
  have late : ¬(x.at_.isSome || x.handover || s.now < x.since + 2400000000000) = true := by simp [hat, hplain, hlate]
  show execStDueAllemSkip s = _
  simp only [execStDueAllemSkip, hswap, if_neg late, State.when, ↓decide_eq_true_eq, State.setDue_now]

/-- 100 µs after the point the outputs' drive follows the role, and a new primary's TIMEBASE goes out. -/
theorem exec_stDueAllemande_past {ts : Nat} {lead : Bool} (hswapped : s.due.swapped = some (ts, lead)) (hpast : ts + 400000 ≤ s.now) :
    let u := s.setDue (fun d => { d with swapped := none, drive := lead, own := lead })
    let v := if lead then u.each u.upPorts (fun p t => t.timebase p (t.port p).xid) else u
    exec .stDueAllemande s = .next (((v.count (Reg.DUE_CNT.CNT 6)).showAllem).post (ev Code.ST_DUE_ALLEMANDE srcDUE)) := by
  show execStDueAllemande s = _
  simp only [execStDueAllemande, hswapped, if_neg (Nat.not_lt.2 hpast), State.when]

end

/-- Settles O35: an equation for the order, its withdrawal, the skip and the end; at the point, `exec_allemandeSwapPoint_some`. -/
theorem allemandes : Obligations.Allemandes := by
  refine ⟨?start, ?cancel, ?skip, ?point, ?done⟩
  case start =>
    intro s ts hrole hpast
    exact exec_allemandeStart_ready hrole hpast ts
  case cancel =>
    intro s x ts hswap hat hacked hplain hnear
    exact exec_allemandeCancel_unacked hswap hat hacked hplain hnear
  case skip =>
    intro s x hswap hat hplain hlate
    exact exec_stDueAllemSkip_late hswap hat hplain hlate
  case point =>
    intro s ts hpoint hpast
    rw [exec_allemandeSwapPoint_some hpoint, if_pos hpast]
  case done =>
    intro s ts lead hswapped hpast
    exact exec_stDueAllemande_past hswapped hpast

end Sys2Proof.Machine
end

section
/-! PROOF. Accesses to the Duet peer's registers (R321, R339, R351, R373) and the mailbox (R341, R372, R520, R521). -/

namespace Sys2Proof.Machine

/-! ### This member's access to the peer (R373) -/

section
variable {s : State}

/-- A write of DEV_PEER_CTRL: its fields, then GO unless an access was under way before it. -/
theorem exec_devPeerGo {slot : Nat} (hmay : s.mayWrite slot Reg.DEV_PEER_CTRL.AT) (data : Word) :
    let u := s.inbound slot
    let w := u.writeFields slot Reg.DEV_PEER_CTRL.AT data
    let tag := (w.host.peerTag + 1) % 256
    let v := (w.setHost ({ · with peerTag := tag, peerAt := some w.now })).put Reg.DEV_PEER_CTRL.BUSY 1
    exec (.devPeerGo slot data) s = .next (
      if u.flag Reg.DEV_PEER_CTRL.BUSY || !wbit data 0 then w
      else v.duetSend 5 [v.get Reg.DEV_PEER_ADDR.ADDR + tag * 2 ^ 32 + v.get Reg.DEV_PEER_CTRL.WRITE * 2 ^ 40, v.get Reg.DEV_PEER_DATA.DATA]) :=
  congrArg Host.Outcome.next (State.ownerWrite_may hmay _)

section
variable {t : Nat} (hsent : s.host.peerAt = some t)
include hsent

theorem exec_peerRegAnswer_awaited (data : Word) (status : Nat) :
    exec (.peerRegAnswer s.host.peerTag data status) s = .next
      ((if s.flag Reg.DEV_PEER_CTRL.WRITE then s else s.put Reg.DEV_PEER_DATA.DATA data.toNat).peerAccessEnds Reg.DEV_PEER_CTRL.DONE) := by
  have awaited : ¬(s.host.peerAt.isNone || s.host.peerTag ≠ s.host.peerTag) = true := by simp [hsent]
  refine congrArg Host.Outcome.next ((if_neg awaited).trans ?_)
  exact congrArg (State.peerAccessEnds · Reg.DEV_PEER_CTRL.DONE) (State.when_not_eq_if s _ _)

theorem exec_stPeerRegFail_past (hpast : t + 800000 ≤ s.now) :
    exec (.stPeerRegFail s.host.peerTag) s
      = .next ((s.peerAccessEnds Reg.DEV_PEER_CTRL.FAIL).post (ev Code.ST_PEER_REG_FAIL srcDEV)) := by
  have past : ¬(s.host.peerTag ≠ s.host.peerTag || s.now < t + 800000) = true := by simp [hpast]
  have fails : exec (.stPeerRegFail s.host.peerTag) s = .next s.peerAccessFails := by
    show execStPeerRegFail s.host.peerTag s = _
    simp only [execStPeerRegFail, hsent, if_neg past]
  exact fails.trans (congrArg Host.Outcome.next (State.when_of _ _ (Option.isSome_of_eq_some hsent)))

end

/-! ### The peer's access to this member (R351, R373) -/

/-- An access of the peer is slot 2's, and answered whatever comes of it. -/
theorem exec_reg_heard {off : Nat} (hawake : s.awake = true) (hup : s.duetUp = true) (hoff : off < 2 ^ 26) (tag : Nat) (data : Word)
    (write : Bool) :
    exec (.reg off tag write data) s = .next (
      if off % 4 ≠ 0 then (s.badSize 2 0 off).regAnswer off tag write 0
      else if write then (s.wordWrite 2 off data).regAnswer off tag write data
      else (s.wordRead 2 off none).2.regAnswer off tag write (s.wordRead 2 off none).1) := by
  have heard : ¬(!s.awake || !s.duetUp) = true := by simp [hawake, hup]
  show execReg off tag write data s = _
  rw [execReg, Nat.mod_eq_of_lt hoff, if_neg heard]

/-! ### The mailbox (R372) -/

theorem exec_mbxGo {slot : Nat} (hmay : s.mayWrite slot Reg.MBX_CTRL.AT) :
    let u := s.inbound slot
    exec (.mbxGo slot) s = .next (if u.flag Reg.MBX_STS.BUSY then u.put Reg.MBX_STS.CFG_ERR 1
      else ((u.put Reg.MBX_STS.BUSY 1).pmcAdd 436).setHost ({ · with mbxAt := some u.now })) :=
  congrArg Host.Outcome.next (State.ownerWrite_may hmay _)

/-- What service firmware answers, by the command that waits. -/
theorem State.mailboxAnswer_eq (s : State) (version log : List Byte) :
    let cmd := bits (s.word (Reg.MBX_REQ.AT 0)).toNat 0 16
    let page := log.take 1012
    (cmd = 1 → s.mailboxAnswer version log = some ((version ++ List.replicate 16 0).take 16))
    ∧ (cmd = 2 → s.mailboxAnswer version log = some s.telemetry)
    ∧ (cmd = 3 → s.mailboxAnswer version log = some (leBytes 4 ((s.word (Reg.MBX_REQ.AT 1)).toNat + page.length) ++ page))
    ∧ (cmd = 0 ∨ 3 < cmd → s.mailboxAnswer version log = none) := by
  refine ⟨fun hcmd => ?_, fun hcmd => ?_, fun hcmd => ?_, fun hcmd => ?_⟩
  · exact if_pos hcmd
  · simp [State.mailboxAnswer, hcmd]
  · simp [State.mailboxAnswer, hcmd]
  · rw [State.mailboxAnswer, if_neg (by omega), if_neg (by omega), if_neg (by omega)]

section
variable {version log : List Byte} (hbusy : s.flag Reg.MBX_STS.BUSY = true) (hruns : s.pwr.svcHalted = false) (sensors : Bool)
include hbusy hruns

theorem exec_stMbxReply_answered {b : List Byte} (hanswer : s.mailboxAnswer version log = some b) :
    let late := bits (s.word (Reg.MBX_REQ.AT 0)).toNat 0 16 = 2 && s.telemetryLate sensors
    let u := s.mailboxReply Code.ST_OK b late
    exec (.stMbxReply version log sensors) s = .next (if late then u.pmcAdd 438 else u) := by
  have replies : ¬(!s.flag Reg.MBX_STS.BUSY || s.pwr.svcHalted) = true := by simp [hbusy, hruns]
  show execStMbxReply version log sensors s = _
  simp only [execStMbxReply, if_neg replies, hanswer, State.when]

theorem exec_stMbxReply_unknown (hanswer : s.mailboxAnswer version log = none) :
    exec (.stMbxReply version log sensors) s = .next (s.mailboxReply Code.ST_MBX_UNKNOWN [] false) := by
  have replies : ¬(!s.flag Reg.MBX_STS.BUSY || s.pwr.svcHalted) = true := by simp [hbusy, hruns]
  show execStMbxReply version log sensors s = _
  simp only [execStMbxReply, if_neg replies, hanswer]

end

theorem exec_stMbxTimeout_past {t : Nat} (hsent : s.host.mbxAt = some t) (hpast : t + 40000000 ≤ s.now) :
    exec .stMbxTimeout s = .next ((s.pmcAdd 437).mailboxReply Code.ST_MBX_TIMEOUT [] false) := by
  show execStMbxTimeout s = _
  simp only [execStMbxTimeout, hsent, if_neg (Nat.not_lt.2 hpast)]

end

/-- Settles O42: an access of the peer is `exec_reg_heard` by its alignment and direction, a reply the answer of
`State.mailboxAnswer_eq`, and the rest an equation each. -/
theorem peerAccessAndMailbox : Obligations.PeerAccessAndMailbox := by
  refine ⟨?go, ?answer, ?access, ?mailbox, ?reply, ?timeout⟩
  case go =>
    intro s slot data hmay
    exact exec_devPeerGo hmay data
  case answer =>
    intro s data status t hsent
    exact ⟨exec_peerRegAnswer_awaited hsent data status, exec_stPeerRegFail_past hsent⟩
  case access =>
    intro s off tag data hawake hup hoff
    refine ⟨fun hodd w => ?_, fun halign => ⟨?_, ?_⟩⟩
    · rw [exec_reg_heard hawake hup hoff, if_pos hodd]
    · rw [exec_reg_heard hawake hup hoff, if_neg (not_not.2 halign), if_pos rfl]
    · rw [exec_reg_heard hawake hup hoff, if_neg (not_not.2 halign), if_neg Bool.false_ne_true]
  case mailbox =>
    intro s slot hmay
    exact exec_mbxGo hmay
  case reply =>
    intro s version log sensors hbusy hruns cmd late page reply
    obtain ⟨hversion, htelemetry, hlog, hother⟩ := s.mailboxAnswer_eq version log
    exact ⟨fun hcmd => exec_stMbxReply_answered hbusy hruns sensors (hversion hcmd),
      fun hcmd => exec_stMbxReply_answered hbusy hruns sensors (htelemetry hcmd),
      fun hcmd => exec_stMbxReply_answered hbusy hruns sensors (hlog hcmd),
      fun hcmd => exec_stMbxReply_unknown hbusy hruns sensors (hother hcmd)⟩
  case timeout =>
    intro s t hsent hpast
    exact exec_stMbxTimeout_past hsent hpast

end Sys2Proof.Machine
end

section
/-! PROOF. The queue and the step: every command answers a next state and leaves the queue (spec/opcode_table.json). -/

namespace Sys2Proof.Machine

/-- Settles O1: with a command at the front of the queue, `step` is `exec` by definition. -/
theorem stepRunsTheFrontCommand : Obligations.StepRunsTheFrontCommand := fun _ _ _ => rfl

/-- No command's meaning faults or is refused. -/
theorem exec_next (c : Instr) (s : State) : ∃ t, exec c s = .next t := by
  cases c <;> exact ⟨_, rfl⟩

/-- Settles O5: `exec_next` gives the next state, and `Keeps.exec` its queue. -/
theorem commandsLeaveTheQueue : Obligations.CommandsLeaveTheQueue := by
  intro c s
  obtain ⟨t, ht⟩ := exec_next c s
  exact ⟨t, ht, (Keeps.exec s c t ht).pending⟩

end Sys2Proof.Machine
end

section
/-! PROOF. Writes of registers with a command of their own: who may write them, and the report of one that is dropped (R31, R350, R562). -/

namespace Sys2Proof.Machine

/-! ### Writes by a slot that may not (R31, R350) -/

theorem State.axisWrite_axis {n : Nat} (h : n < 4) (s : State) (slot act first last : Nat) :
    s.axisWrite slot n act first last = s.ownerWrite slot (Reg.AX_CMD.AT n)
      (fun t => (t.motionCmd n (BitVec.ofNat 32 (act + 256 * (first % 64) + 65536 * (last % 64)))).outputs) :=
  if_neg (Nat.not_le.2 h)

/-- A row that names its register's element only below a bound. -/
theorem bounded_of_some {n b slot slot' a a' : Nat} (h : (if n < b then some (slot', a') else none) = some (slot, a)) :
    n < b ∧ slot' = slot ∧ a' = a := by
  simpa using h

/-- Each command that `ownersWrite` names is an owner's write of the register that it names. -/
theorem exec_ownersWrite {c : Instr} {slot a : Nat} (h : ownersWrite c = some (slot, a)) (s : State) :
    ∃ f, exec c s = .next (s.ownerWrite slot a f) := by
  cases c
  case camPortEnable | retry | send | ringEnable | zipRingWrite | axTarget =>
    obtain ⟨hn, rfl, rfl⟩ := bounded_of_some h
    exact ⟨_, congrArg Host.Outcome.next (if_neg (Nat.not_le.2 hn))⟩
  case axEnable | axDisable | axStart | axGoto | axMoveStop | axResume | axSetPos =>
    obtain ⟨hn, rfl, rfl⟩ := bounded_of_some h
    exact ⟨_, congrArg Host.Outcome.next (State.axisWrite_axis hn s _ _ _ _)⟩
  case mcRetrain step =>
    cases step with
    | write =>
      obtain ⟨hn, rfl, rfl⟩ := bounded_of_some h
      exact ⟨_, congrArg Host.Outcome.next (if_neg (Nat.not_le.2 hn))⟩
    | firmware => cases h
    | done => cases h
  case pair step =>
    cases step <;> cases h
    exact ⟨_, rfl⟩
  case ownHandover =>
    cases h
    exact ⟨_, congrArg Host.Outcome.next (if_neg (by decide))⟩
  all_goals cases h <;> exact ⟨_, rfl⟩

/-- Settles O7: each such command is an owner's write (`exec_ownersWrite`), which goes by the domain, then by the owner. -/
theorem onlyTheOwnerWrites : Obligations.OnlyTheOwnerWrites := by
  intro c s slot a hc
  obtain ⟨f, hf⟩ := exec_ownersWrite hc s
  rw [hf]
  refine ⟨fun hreach hon hother => ?_, fun hreach hoff => ?_, fun hunheard => ?_⟩
  · rw [State.ownerWrite_other hreach hon hother]
  · rw [State.ownerWrite_off hreach hoff]
  · rw [State.ownerWrite_unheard hunheard]

/-! ### The report (R350, R562) -/

section
variable (s : State) (slot off : Nat)

/-- What a report of a dropped write in BAR0 writes in registers below the rings' window. -/
def State.reported : State :=
  ((s.recordAccess slot 0 off).count (Reg.DEV_NONOWN_CNT.CNT slot)).put Reg.DEV_ACC_STS.NONOWNER 1

/-- Counting and posting a report leave the registers below the rings' window as `State.reported` does. -/
theorem State.reportAccess_low (reason : Nat) : (s.reported slot off).low (s.reportAccess slot 0 off reason) :=
  State.low_postLimited (State.low_when (State.low_refl _) _ (fun _ h => State.low_pmcAdd h _ _)) _ _ _

variable {slot off}

theorem State.reported_addr (hslot : slot < 4) (hoff : off < 0x4000000) : (s.reported slot off).get Reg.DEV_ACC_ADDR.ADDR = off := by
  rw [State.reported, State.count, State.get_put_ne _ (by decide),
    State.get_put_ne _ (by simp only [Reg.DEV_ACC_ADDR.ADDR, Reg.DEV_NONOWN_CNT.CNT]; omega), State.recordAccess,
    State.get_put_ne _ (by decide), State.get_put_ne _ (by decide)]
  simp [State.get, Reg.DEV_ACC_ADDR.ADDR, Reg.DEV_ACC_ADDR.AT, bits]
  omega

theorem State.reported_slot (hslot : slot < 4) : (s.reported slot off).get Reg.DEV_ACC_STS.LAST_SLOT = slot := by
  rw [State.reported, State.count, State.get_put_other _ (by decide) (by decide),
    State.get_put_ne _ (by simp only [Reg.DEV_ACC_STS.LAST_SLOT, Reg.DEV_NONOWN_CNT.CNT]; omega), State.recordAccess,
    State.get_put_other _ (by decide) (by decide), State.get_put_same _ (by decide)]
  exact Nat.mod_eq_of_lt hslot

theorem State.reported_bar : (s.reported slot off).get Reg.DEV_ACC_STS.LAST_BAR = 0 := by
  rw [State.reported, State.count, State.get_put_other _ (by decide) (by decide),
    State.get_put_ne _ (by simp only [Reg.DEV_ACC_STS.LAST_BAR, Reg.DEV_NONOWN_CNT.CNT]; omega), State.recordAccess,
    State.get_put_same _ (by decide)]
  rfl

theorem State.reported_count :
    (s.reported slot off).get (Reg.DEV_NONOWN_CNT.CNT slot) = min (s.get (Reg.DEV_NONOWN_CNT.CNT slot) + 1) (2 ^ 32 - 1) := by
  have hsts : (Reg.DEV_NONOWN_CNT.CNT slot).addr ≠ Reg.DEV_ACC_STS.AT := by
    simp only [Reg.DEV_NONOWN_CNT.CNT, Reg.DEV_ACC_STS.AT]
    omega
  have haddr : (Reg.DEV_NONOWN_CNT.CNT slot).addr ≠ Reg.DEV_ACC_ADDR.AT := by
    simp only [Reg.DEV_NONOWN_CNT.CNT, Reg.DEV_ACC_ADDR.AT]
    omega
  have hbefore : (s.recordAccess slot 0 off).get (Reg.DEV_NONOWN_CNT.CNT slot) = s.get (Reg.DEV_NONOWN_CNT.CNT slot) := by
    rw [State.recordAccess, State.get_put_ne _ hsts, State.get_put_ne _ hsts, State.get, State.word_setWord_ne _ haddr]
    rfl
  rw [State.reported, State.get_put_ne _ hsts, State.count, State.get_put_same _ (by simp [Reg.DEV_NONOWN_CNT.CNT]), hbefore]
  exact Nat.mod_eq_of_lt (Nat.lt_of_le_of_lt (Nat.min_le_right _ _) (Nat.sub_lt (Nat.two_pow_pos _) Nat.one_pos))

theorem State.reported_word {b : Nat} (haddr : b ≠ Reg.DEV_ACC_ADDR.AT) (hsts : b ≠ Reg.DEV_ACC_STS.AT)
    (hcnt : b ≠ Reg.DEV_NONOWN_CNT.AT slot) : (s.reported slot off).word b = s.word b := by
  rw [State.reported, State.word_put_ne _ hsts, State.count, State.word_put_ne _ hcnt, State.recordAccess, State.word_put_ne _ hsts,
    State.word_put_ne _ hsts, State.word_setWord_ne _ haddr]

end

/-- Settles O8: below the rings' window a report writes what `State.reported` does, and beside the registers it keeps every part. -/
theorem droppedWriteReport : Obligations.DroppedWriteReport := by
  intro s slot off reason hslot hoff
  have hlow := s.reportAccess_low slot off reason
  refine ⟨_, rfl, ?_, ?_, ?_, ?_, ?_, fun b hb haddr hsts hcnt => ?_, fun p => ?_⟩
  · rw [State.low_get hlow (by decide), State.reported_addr s hslot hoff]
  · rw [State.low_get hlow (by decide), State.reported_slot s hslot]
  · rw [State.low_get hlow (by decide), State.reported_bar]
  · rw [State.low_get hlow (by decide), State.reported, State.get_put_same _ (by decide)]
    rfl
  · rw [State.low_get hlow (by simp only [Reg.DEV_NONOWN_CNT.CNT]; omega), State.reported_count]
  · rw [hlow b hb, State.reported_word s haddr hsts hcnt]
  · exact (Keeps.reportAccess (Keeps.refl s)
      (km := true) (kn := true) (kp := true) (kt := true) (kj := true) (ko := true) (kf := true) (kd := true) (kc := true) (kl := true)
      (ki := true) (kz := true) (kg := true) (kx := true) (ke := true)).same (by cases p <;> rfl)

end Sys2Proof.Machine
end

section
/-! PROOF. Claims, releases, handovers and leases (R344 to R350, R374). -/

namespace Sys2Proof.Machine

section
variable {s : State} {slot : Nat}

theorem exec_claim_reaching (hslot : slot < 4) (hreach : s.reach slot = true) :
    exec (.claim slot) s = .next ((s.inbound slot).claimDevice slot) :=
  congrArg Host.Outcome.next ((State.when_of _ _ (decide_eq_true hslot)).trans ((if_pos rfl).trans (if_pos hreach)))

theorem State.claimDevice_unowned (hnone : (s.renew slot).owner = none) :
    s.claimDevice slot = (((s.renew slot).makeOwner slot).setHost ({ · with claimAt := some s.now })).post
      (ev Code.ST_OWN_CLAIMED srcDEV) := by
  simp only [State.claimDevice, hnone]
  rfl

theorem State.claimDevice_owned {o : Nat} (howner : (s.renew slot).owner = some o) :
    s.claimDevice slot = if o = slot then s.renew slot
      else if (s.renew slot).outclaims slot o then ((s.renew slot).makeOwner slot).setClaimant o true
      else (s.renew slot).setClaimant slot true := by
  simp only [State.claimDevice, howner]

theorem exec_devOwnHb_reaching (hslot : slot < 4) (hreach : s.reach slot = true) :
    exec (.devOwnHb slot) s = .next (
      if s.isOwner slot || s.claimants.contains slot then (s.inbound slot).renew slot else s.inbound slot) := by
  have hears : ¬(!s.reach slot) = true := by simp [hreach]
  exact congrArg Host.Outcome.next ((State.when_of _ _ (decide_eq_true hslot)).trans (if_neg hears))

/-- Of DEV_OWN_CTRL's actions all but CLAIM are the owner's alone (R348, R350). -/
theorem State.ownCtrl_may (hmay : s.mayWrite slot Reg.DEV_OWN_CTRL.AT) {act : Nat} (hact : act ≠ 1) (target : Nat) :
    s.ownCtrl slot act target = if act = 2 then (s.inbound slot).releaseDevice slot
      else if act = 3 then (s.inbound slot).handover slot target else s.inbound slot := by
  rw [State.ownCtrl, if_neg hact, State.ownerWrite_may hmay]

theorem exec_ownHandover_may (hmay : s.mayWrite slot Reg.DEV_OWN_CTRL.AT) {target : Nat} (htarget : target < 4) :
    exec (.ownHandover slot target) s = .next ((s.inbound slot).handover slot target) := by
  show Host.Outcome.next (s.ownCtrl slot 3 (target % 4)) = _
  rw [State.ownCtrl_may hmay (by decide), Nat.mod_eq_of_lt htarget, if_neg (by decide), if_pos rfl]

end

section
variable (s : State)

/-- Whether a slot's lease is over. -/
def State.leaseOver (slot : Nat) : Bool := decide ((s.host.lease.lookup slot).getD 0 < s.now)

/-- The state without the claimants whose lease is over. -/
def State.claimantsLeft : State := s.each (s.claimants.filter s.leaseOver) (fun c t => t.setClaimant c false)

theorem State.checkLeases_eq : s.checkLeases = match s.claimantsLeft.owner with
    | some o => s.claimantsLeft.when (s.leaseOver o) State.ownerLost
    | none => s.claimantsLeft := rfl

variable {s} (hawake : s.awake = true)
include hawake

theorem exec_leaseCheck_owned {o : Nat} (howner : s.claimantsLeft.owner = some o) :
    exec .leaseCheck s = .next (if s.leaseOver o then s.claimantsLeft.ownerLost else s.claimantsLeft) := by
  refine congrArg Host.Outcome.next ((State.when_of _ _ hawake).trans ?_)
  rw [State.checkLeases_eq, howner]
  rfl

theorem exec_leaseCheck_unowned (hnone : s.claimantsLeft.owner = none) : exec .leaseCheck s = .next s.claimantsLeft := by
  refine congrArg Host.Outcome.next ((State.when_of _ _ hawake).trans ?_)
  rw [State.checkLeases_eq, hnone]

end

/-- An owner that is lost: the best live claimant is elected, or there is none. -/
theorem State.ownerLost_elects (s : State) :
    let u := (s.put Reg.DEV_OWN_STS.EXPIRED 1).post (ev Code.ST_OWN_LEASE_EXPIRED srcDEV)
    (∀ w : Nat, u.elected = some w → s.ownerLost = ((u.makeOwner w).put Reg.DEV_OWN_STS.ELECTED 1).post (ev Code.ST_OWN_ELECTED srcDEV w))
    ∧ (u.elected = none → s.ownerLost =
      if u.noOwner.flag Reg.DEV_OWN_CFG.LOSS_ACT && decide (u.noOwner.flying ≠ []) then u.noOwner.safeStop Code.ST_OWN_LEASE_EXPIRED
      else u.noOwner) := by
  intro u
  refine ⟨fun w helected => ?_, fun hnone => ?_⟩
  · simp only [State.ownerLost, show ((s.put Reg.DEV_OWN_STS.EXPIRED 1).post _).elected = some w from helected]
    rfl
  · simp only [State.ownerLost, show ((s.put Reg.DEV_OWN_STS.EXPIRED 1).post _).elected = none from hnone]
    rfl

/-- Settles O41: a claim by whether the device has an owner, the owner's other actions by `State.ownCtrl_may`, and an equation for the
check of the leases and for the loss of the owner. -/
theorem ownership : Obligations.Ownership := by
  refine ⟨?claim, ?owner, ?leases, State.ownerLost_elects⟩
  case claim =>
    intro s slot hslot hreach u
    refine ⟨fun hnone => ?_, fun o howner => ?_, exec_devOwnHb_reaching hslot hreach⟩
    · rw [exec_claim_reaching hslot hreach, State.claimDevice_unowned hnone]
      rfl
    · rw [exec_claim_reaching hslot hreach, State.claimDevice_owned howner]
  case owner =>
    intro s slot target hmay htarget u h
    exact ⟨congrArg Host.Outcome.next (State.ownCtrl_may hmay (by decide) 0), exec_ownHandover_may hmay htarget⟩
  case leases =>
    intro s hawake
    exact ⟨fun o => exec_leaseCheck_owned hawake, exec_leaseCheck_unowned hawake⟩

end Sys2Proof.Machine
end

section
/-! PROOF. Resets of a PCIe port and the counter page (R344, R349, R371, R491, R544, R554). -/

namespace Sys2Proof.Machine

/-! ### Port resets (R344, R491, R544) -/

section
variable {s : State} {port : Nat} (hport : port < 2)
include hport

theorem exec_perstAssert_high (hhigh : s.host.perst.getD port false = false) :
    let u := s.setHost (fun h => { h with perst := h.perst.set port true })
    exec (.perstAssert port) s = .next (if s.awake then u.portReset port else u) := by
  have falls : ¬(2 ≤ port || s.host.perst.getD port false) = true := by simp only [hhigh]; simp [hport]
  exact congrArg Host.Outcome.next (if_neg falls)

theorem exec_perstRelease_low (hlow : s.host.perst.getD port false = true) :
    exec (.perstRelease port) s = .next (s.drawn.setHost (fun h => { h with
      perst := h.perst.set port false, readyAt := h.readyAt.set port (s.now + 400000000), trained := h.trained.set port s.free })) := by
  have rises : ¬(2 ≤ port || !s.host.perst.getD port false) = true := by simp only [hlow]; simp [hport]
  exact congrArg Host.Outcome.next (if_neg rises)

theorem exec_stPortReset_reaching (hreach : s.reach port = true) : exec (.stPortReset port) s = .next (s.portReset port) := by
  have resets : (port < 2 && s.reach port) = true := by simp [hport, hreach]
  exact congrArg Host.Outcome.next (State.when_of _ _ resets)

end

/-- A port's reset: its rings are off, what they started stops, and its slot loses its claim and its ownership. -/
theorem State.portReset_eq (s : State) (port : Nat) :
    let rs := s.liveRings.filter (fun r => s.ringPort r = port)
    let u := (s.each rs (fun r t => t.ringOff r)).each (rs.filter (fun r => submissionType (s.ringType r))) (fun r t => t.stopFunction r)
    let v := ((u.setClaimant port false).post (ev Code.ST_PORT_RESET (srcPort port))).devAbortDone
    s.portReset port = if v.owner = some port then v.ownerLost else v := by
  intro rs u v
  exact if_congr decide_eq_true_iff rfl rfl

/-! ### The counter page (R12, R351, R371) -/

section
variable {s : State} {port off : Nat} (hport : port < 2) (hoff : off < 65536) (hreach : s.reach port = true)
include hport hoff hreach

theorem exec_bar4Read_reaching (size : Nat) :
    exec (.bar4Read port off size) s = .next (
      if size ≠ 4 ∨ off % 4 ≠ 0 then ((s.inbound port).badSize port 2 off).send (.unsupported port 2 off)
      else (s.inbound port).counterRead port off) := by
  have heard : ¬(2 ≤ port || 65536 ≤ off || !s.reach port) = true := by simp [hport, hoff, hreach]
  exact congrArg Host.Outcome.next ((if_neg heard).trans (if_congr (by simp) rfl rfl))

end

/-- What a port reads of the counter page, by where the word lies: the live counters, the snapshot, or nothing. -/
theorem State.counterRead_eq (s : State) (port off : Nat) :
    let answer := fun (t : State) (w : Nat) => t.send (.readData port 2 off (BitVec.ofNat 32 w))
    s.counterRead port off =
      if s.flag Reg.DEV_CTRL.PERF_USER_EN = false then answer s 0
      else if 8192 ≤ off then answer s 0
      else if 4096 ≤ off then answer s (s.get64 (Reg.PMC_SNAP.PAIR (off % 4096 / 8)) / 2 ^ (off % 8 * 8) % 2 ^ 32)
      else if off % 8 = 0 then answer (s.setHost (fun h => { h with
          bar4Hi := Sparse.insert port (s.pmc (off / 8) / 2 ^ 32) h.bar4Hi })) (s.pmc (off / 8) % 2 ^ 32)
      else answer s ((s.host.bar4Hi.lookup port).getD 0) := by
  intro answer
  unfold State.counterRead State.counterWord
  by_cases hen : s.flag Reg.DEV_CTRL.PERF_USER_EN = false
  · rw [if_pos hen, if_pos (by simp [hen])]
    rfl
  rw [if_neg hen, if_neg (by simpa using hen)]
  by_cases hlive : off < 4096
  · have hsnap : ¬4096 ≤ off := Nat.not_le.2 hlive
    have hpast : ¬8192 ≤ off := by omega
    by_cases hlow : off % 8 = 0
    · simp [hlive, hsnap, hpast, hlow, Nat.mod_eq_of_lt hlive, answer]
    · simp [hlive, hsnap, hpast, hlow, answer]
  · have hlive' : 4096 ≤ off := Nat.not_lt.1 hlive
    by_cases hsnap : off < 8192
    · simp [hlive, hlive', hsnap, Nat.not_le.2 hsnap, answer]
    · simp [hlive, hsnap, Nat.not_lt.1 hsnap, answer]

/-- Settles O43: an equation for each change of PERST and for a port's reset, and a read of the counter page by `State.counterRead_eq`. -/
theorem portsAndCounterPage : Obligations.PortsAndCounterPage := by
  refine ⟨fun s port hport => exec_perstAssert_high hport, fun s port hport => exec_perstRelease_low hport,
    fun s port hport => exec_stPortReset_reaching hport, State.portReset_eq, ?page⟩
  case page =>
    intro s port off hport hoff hreach u answer
    refine ⟨fun size hbad => ?_, fun halign => ?_⟩
    · rw [exec_bar4Read_reaching hport hoff hreach, if_pos hbad]
    · rw [exec_bar4Read_reaching hport hoff hreach, if_neg (by simp [halign]), State.counterRead_eq]

end Sys2Proof.Machine
end

section
/-! PROOF. Rings: enabling, doorbells, fetches, held completions, interrupts and aborts (R353 to R369, R374). -/

namespace Sys2Proof.Machine

/-! ### Enabling and disabling (R353) -/

section
variable {s : State} {slot r : Nat} {data : Word}

theorem exec_ringEnable_may (hr : r < 256) (hmay : s.mayWrite slot (Reg.RNG_R_CFG.AT r)) :
    exec (.ringEnable slot r data) s = .next ((s.inbound slot).ringCfgWrite slot r data) :=
  congrArg Host.Outcome.next ((if_neg (Nat.not_le.2 hr)).trans (State.ownerWrite_may hmay _))

theorem State.ringCfgWrite_locked (hlock : s.lockedAt (Reg.RNG_R_CFG.AT r) = true) :
    s.ringCfgWrite slot r data = s.writeFields slot (Reg.RNG_R_CFG.AT r) data := if_pos hlock

variable (hlock : s.lockedAt (Reg.RNG_R_CFG.AT r) = false)
include hlock

theorem State.ringCfgWrite_bad
    (hbad : (wbits data 6 4 < 4 || 10 < wbits data 6 4
      || (s.ringState r ≠ 0 && (s.word (Reg.RNG_R_CFG.AT r) ^^^ data) &&& 0x3FFD7#32 ≠ 0)) = true) :
    s.ringCfgWrite slot r data = s.put Reg.RNG_STS.CFG_ERR 1 :=
  (if_neg (by simp [hlock])).trans (if_pos hbad)

theorem State.ringCfgWrite_good
    (hgood : (wbits data 6 4 < 4 || 10 < wbits data 6 4
      || (s.ringState r ≠ 0 && (s.word (Reg.RNG_R_CFG.AT r) ^^^ data) &&& 0x3FFD7#32 ≠ 0)) = false) :
    let was := s.flag (Reg.RNG_R_CFG.EN r)
    let w := (s.writeFields slot (Reg.RNG_R_CFG.AT r) data).put (Reg.RNG_R_CFG.EN r) was.toNat
    let v := w.put Reg.RNG_STS.CFG_RESULT (w.enableFault r)
    s.ringCfgWrite slot r data =
      if wbit data 26 && !was then (if w.enableFault r = 0 then v.ringOn r else v)
      else if !wbit data 26 && was then w.ringDisable r
      else w :=
  (if_neg (by simp [hlock])).trans (if_neg (Bool.not_eq_true _ ▸ hgood))

end

/-! ### Doorbells (R357, R358, R367 to R369, R374) -/

section
variable {s : State} {port r v : Nat}

/-- A doorbell page takes a 32-bit value from a port that answers. -/
theorem State.doorbell_heard (hport : port < 2) (hr : r < 256) (hv : v < 2 ^ 32) (hreach : s.reach port = true) (f : State → State) :
    s.doorbell port r v f = f (s.inbound port) :=
  if_neg (by simpa [hport, hr, hreach] using hv)

variable (s port r v)

theorem State.dbProd_eq :
    s.dbProd port r v =
      if s.doorbellOk port r submissionType && (s.ringState r = 1 || s.ringState r = 3)
          && (v + 2 ^ 32 - s.ringProd r) % 2 ^ 32 < 2 ^ 31 && (v + 2 ^ 32 - s.ringCons r) % 2 ^ 32 ≤ s.ringSize r then
        s.posted_ r v
      else s.doorbellBad r := by
  refine (if_congr ?_ rfl rfl).trans (ite_not _ _ _)
  simp [imp_iff_not_or]

theorem State.dbHcons_eq :
    s.dbHcons port r v =
      if s.doorbellOk port r (fun t => t = 6 || t = 7)
          && (v + 2 ^ 32 - s.ringHcons r) % 2 ^ 32 ≤ (s.ringCons r + 2 ^ 32 - s.ringHcons r) % 2 ^ 32 then
        (s.rngCount 0).put (Reg.RNG_R_HCONS.VAL r) v
      else s.doorbellBad r := by
  refine (if_congr ?_ rfl rfl).trans (ite_not _ _ _)
  simp [imp_iff_not_or]

theorem State.dbAbort_eq :
    s.dbAbort port r v =
      if s.doorbellOk port r submissionType && v / 2 ^ 16 = 0xA5A5 && v % 2 ^ 16 < 4 && v % 4 ≠ 0 then
        (if bit v 1 then (s.rngCount 0).deviceAbort
          else if s.ringState r ≠ 1 then s.rngCount 1 else ((s.rngCount 0).rngCount 6).ringAbort r)
      else s.doorbellBad r := by
  refine (if_congr ?_ rfl rfl).trans (ite_not _ _ _)
  simp [imp_iff_not_or]
  tauto

end

/-! ### Fetches, held completions and interrupts (R356, R359 to R362, R366) -/

section
variable {s : State} {r : Nat}

/-- A ring that fetches is a submission ring that runs. -/
theorem State.fetches_iff : s.fetches r = true ↔ s.awake = true ∧ submissionType (s.ringType r) = true ∧ s.ringState r = 1
    ∧ s.ringCons r ≠ s.ringProd r ∧ (s.ring (s.get (Reg.RNG_R_CFG.CQ r))).held = [] := by
  simp [State.fetches, and_assoc]

theorem exec_descriptorFetch_fetches (hfetch : s.fetches r = true) {bytes : List Byte} (hlen : bytes.length = 64) :
    exec (.descriptorFetch r bytes) s = .next (s.fetched r bytes) :=
  congrArg Host.Outcome.next (State.when_of _ _ (by simp [hfetch, hlen]))

theorem exec_stRingFetchErr_fetches (hfetch : s.fetches r = true) :
    exec (.stRingFetchErr r) s = .next (((s.put (Reg.RNG_R_STS.STATE r) 4).put (Reg.RNG_R_STS.FETCH_ERR r) 1).post
      (ev Code.ST_RING_FETCH_ERR srcRNG r)) := by
  obtain ⟨-, htype, hruns, -, -⟩ := State.fetches_iff.1 hfetch
  exact congrArg Host.Outcome.next ((State.when_of _ _ hfetch).trans (if_neg (by simp [htype, hruns])))

theorem exec_cqResume_enabled (htype : s.ringType r = 6) (hon : s.ringState r ≠ 0) :
    exec (.cqResume r) s = .next (State.drainHeld r (s.ring r).held.length s) :=
  congrArg Host.Outcome.next (State.when_of _ _ (by simp [htype, hon]))

theorem State.drainHeld_cons {n : Nat} {h : HeldRec} {hs : List HeldRec} (hheld : (s.ring r).held = h :: hs) :
    State.drainHeld r (n + 1) s =
      if s.ringSpace r then State.drainHeld r n ((s.setRing r { s.ring r with held := hs }).writeCompletion r h.bytes h.irq) else s := by
  simp only [State.drainHeld, hheld]

theorem exec_msixModerationTimer_due {t : Nat} (hfirst : (s.ring r).firstRec = some t) (hpast : t + 4000 * s.get (Reg.RNG_R_MOD.TIME r) ≤ s.now)
    (hirq : s.flag (Reg.RNG_R_CFG.IRQ_EN r) = true) (hon : s.ringState r ≠ 0) :
    exec (.msixModerationTimer r) s
      = .next ((s.setRing r { s.ring r with since := 0, firstRec := none }).msixSend (s.ringPort r) (s.get (Reg.RNG_R_CFG.VEC r))) := by
  show execMsixModerationTimer r s = _
  simp only [execMsixModerationTimer, hfirst]
  rw [if_neg (by simp [hpast, hirq, hon])]

/-! ### Aborts that complete (R368) -/

theorem exec_stRingAborted_room (habort : s.ringState r = 2) (hheld : (s.ring (s.get (Reg.RNG_R_CFG.CQ r))).held = [])
    (hroom : (s.openDescs r).length ≤ s.ringSize (s.get (Reg.RNG_R_CFG.CQ r))
      - (s.ringCons (s.get (Reg.RNG_R_CFG.CQ r)) + 2 ^ 32 - s.ringHcons (s.get (Reg.RNG_R_CFG.CQ r))) % 2 ^ 32) :
    let u := s.each (s.openDescs r) (fun i t => t.completeAborted r i)
    let v := (u.put (Reg.RNG_R_CONS.VAL r) (u.ringProd r)).put (Reg.RNG_R_STS.STATE r) 3
    exec (.stRingAborted r) s = .next (((v.put (Reg.RNG_R_STS.ABORT_DONE r) 1).setRing r { v.ring r with aborted := 0 }).post
      (ev Code.ST_RING_ABORTED srcRNG r ((s.ring r).aborted + (s.openDescs r).length))).devAbortDone :=
  congrArg Host.Outcome.next (if_neg (by simpa [habort, hheld] using hroom))

end

/-- Settles O44: a write of RNG_R_CFG by the lock and the checks of its value, a doorbell by whether it is in its range, and an equation
for each of the rest. -/
theorem ringCommands : Obligations.RingCommands := by
  refine ⟨?enable, ?doorbells, ?fetch, ?resume, ?drain, ?timer, ?abort, ?aborted⟩
  case enable =>
    intro s slot r data hr hmay a u was bad w v
    rw [exec_ringEnable_may hr hmay]
    exact ⟨fun hlock => by rw [State.ringCfgWrite_locked hlock], fun hlock hbad => by rw [State.ringCfgWrite_bad hlock hbad],
      fun hlock hgood => by rw [State.ringCfgWrite_good hlock hgood]⟩
  case doorbells =>
    intro s port r v hport hr hv hreach u own prod same x cons abort aborted
    have heard (f : State → State) := congrArg (Host.Outcome.next (φ := Fault) (ρ := Refusal))
      (State.doorbell_heard hport hr hv hreach f)
    have habort := (heard (fun t => t.dbAbort port r v)).trans (congrArg Host.Outcome.next (u.dbAbort_eq port r v))
    exact ⟨(heard _).trans (congrArg Host.Outcome.next (u.dbProd_eq port r v)),
      (heard _).trans (congrArg Host.Outcome.next (u.dbHcons_eq port r v)), habort, habort⟩
  case fetch =>
    intro s r hfetch
    exact ⟨fun bytes => exec_descriptorFetch_fetches hfetch, exec_stRingFetchErr_fetches hfetch⟩
  case resume =>
    intro s r htype hon
    exact exec_cqResume_enabled htype hon
  case drain =>
    intro s r n h hs hheld
    exact State.drainHeld_cons hheld
  case timer =>
    intro s r t hfirst hpast hirq hon
    exact exec_msixModerationTimer_due hfirst hpast hirq hon
  case abort =>
    intro s slot data hmay
    refine congrArg Host.Outcome.next ((State.ownerWrite_may hmay _).trans ?_)
    exact if_congr decide_eq_true_iff rfl rfl
  case aborted =>
    intro s r habort hheld cq n hroom u v
    exact exec_stRingAborted_room habort hheld hroom

end Sys2Proof.Machine
end

section
/-! PROOF. Compression descriptors and the ring table (R376 to R378, R386 to R389, R393, R394). -/

namespace Sys2Proof.Machine

/-! ### Starts (R378, R387, R393) -/

/-- A well-formed descriptor on a channel: a block ring's runs, a stream ring's only as its context takes it. -/
def State.zipBegins (s : State) (ch r : Nat) (d : Desc) (src : Option (List Byte)) (lost : Bool) : State :=
  let slot := s.get (Reg.ZIP_RING.CTX r)
  let u := (s.ctxTakes slot d).2
  if s.isStream r = false then s.zipRun ch r d none src false
  else if (s.ctxTakes slot d).1 then u.zipRun ch r d (some slot) src lost else u.zipEnds r d Code.ST_ZCTX_BAD

section
variable {s : State} {r : Nat} {d : Desc} (src : Option (List Byte)) (lost : Bool) (htype : s.ringType r = 3) (hon : s.domOn 11 = true)
  (hhead : s.headDesc r = some d) (hsingle : s.isStream r = true → s.zip.runs.any (·.ring = r) = false)
include htype hon hhead hsingle

theorem State.zipStart_head (op : Nat) :
    s.zipStart r op src lost =
      if zipFormatBad (s.isStream r) d then s.zipEnds r d Code.ST_ZDESC_FORMAT
      else if d.at_ 16 1 ≠ op then s
      else s.idleRingChannel.elim s (fun ch => s.zipBegins ch r d src lost) := by
  have reads : ¬(s.ringType r ≠ 3 || !s.domOn 11) = true := by simp [htype, hon]
  have free : ¬(s.isStream r && s.zip.runs.any (·.ring = r)) = true := by
    cases hstream : s.isStream r
    · simp
    · simp [hsingle hstream]
  rw [State.zipStart, if_neg reads]
  simp only [hhead, if_neg free]
  refine if_congr Iff.rfl rfl (if_congr Iff.rfl rfl ?_)
  cases s.idleRingChannel with
  | none => rfl
  | some ch => exact if_congr (by simp) rfl rfl

theorem State.zipStart_malformed (hbad : zipFormatBad (s.isStream r) d = true) (op : Nat) :
    s.zipStart r op src lost = s.zipEnds r d Code.ST_ZDESC_FORMAT := by
  rw [State.zipStart_head src lost htype hon hhead hsingle, if_pos hbad]

theorem State.zipStart_fits (hfits : zipFormatBad (s.isStream r) d = false) {ch : Nat} (hidle : s.idleRingChannel = some ch) {op : Nat}
    (hop : d.at_ 16 1 = op) : s.zipStart r op src lost = s.zipBegins ch r d src lost := by
  rw [State.zipStart_head src lost htype hon hhead hsingle, if_neg (by simp [hfits]), if_neg (not_not.2 hop), hidle, Option.elim]

end

/-! ### Ends (R388, R389, R393, R394, R521) -/

section
variable {s : State} {ch : Nat} {j : ZJob} (hrun : s.zip.runs.find? (·.channel = ch) = some j)
include hrun

theorem exec_zipDescriptorDone_frozen (hfrozen : (s.frozen && j.slot.isSome) = true) (written : Bool) :
    exec (.zipDescriptorDone ch written) s = .next (s.zipFails j Code.ST_MEM_FROZEN) := by
  show execZipDescriptorDone ch written s = _
  simp only [execZipDescriptorDone, hrun, if_pos hfrozen]

variable (hthaw : (s.frozen && j.slot.isSome) = false)
include hthaw

theorem exec_zipDescriptorDone_lost (hlost : j.lost = true) (written : Bool) :
    exec (.zipDescriptorDone ch written) s = .next (s.zipFails j Code.ST_ZCTX_LOST) := by
  show execZipDescriptorDone ch written s = _
  simp only [execZipDescriptorDone, hrun, hthaw, if_pos hlost, Bool.false_eq_true, if_false]

variable (hkept : j.lost = false)
include hkept

theorem exec_zipDescriptorDone_failed {written : Bool} (hfail : j.src = none ∨ written = false) :
    exec (.zipDescriptorDone ch written) s = .next (s.zipFails j Code.ST_ZDMA_ERR) := by
  show execZipDescriptorDone ch written s = _
  simp only [execZipDescriptorDone, hrun, hthaw, hkept, Bool.false_eq_true, if_false]
  cases hsrc : j.src with
  | none => rfl
  | some src =>
    rw [hfail.resolve_left (by simp [hsrc])]
    rfl

theorem exec_zipDescriptorDone_written {src : List Byte} (hsrc : j.src = some src) :
    let e := s.zipEnd j src
    let u := s.drawn.zipIdle j
    let v := match j.slot with
      | some slot => u.ctxAfter slot e
      | none => u
    exec (.zipDescriptorDone ch true) s
      = .next ((v.zipWork ch e.used e.out.length (e.status ≠ Code.ST_OK && e.status ≠ Code.ST_ZSUSPEND)).zipDone j e) := by
  intro e u v
  show execZipDescriptorDone ch true s = _
  simp only [execZipDescriptorDone, hrun, hthaw, hkept, hsrc, Bool.false_eq_true, if_false, Bool.not_true]
  rfl

end

/-! ### The ring table (R386) -/

theorem exec_zipRingWrite_may {s : State} {slot r : Nat} (hr : r < 256) (hmay : s.mayWrite slot (Reg.ZIP_RING.AT r)) (data : Word) :
    exec (.zipRingWrite slot r data) s = .next ((s.inbound slot).zipRing slot r data) :=
  congrArg Host.Outcome.next ((if_neg (Nat.not_le.2 hr)).trans (State.ownerWrite_may hmay _))

/-- Settles O45: a start by `State.zipStart_head`, an end by what became of the descriptor's context and of its transfers. -/
theorem compressionCommands : Obligations.CompressionCommands := by
  refine ⟨?starts, ?ends, ?ring⟩
  case starts =>
    intro s r d src lost htype hon hhead hsingle slot u start
    refine ⟨fun hbad => ?_, fun ch hfits hidle => ?_⟩
    · have ends (op : Nat) := congrArg (Host.Outcome.next (φ := Fault) (ρ := Refusal))
        (State.zipStart_malformed src lost htype hon hhead hsingle hbad op)
      exact ⟨ends 1, ends 2⟩
    · have begins {op : Nat} (hop : d.at_ 16 1 = op) := congrArg (Host.Outcome.next (φ := Fault) (ρ := Refusal))
        (State.zipStart_fits src lost htype hon hhead hsingle hfits hidle hop)
      exact ⟨begins, begins⟩
  case ends =>
    intro s ch j hrun frozen
    exact ⟨exec_zipDescriptorDone_frozen hrun, exec_zipDescriptorDone_lost hrun,
      fun w hthaw hkept => exec_zipDescriptorDone_failed hrun hthaw hkept,
      fun src hthaw hkept => exec_zipDescriptorDone_written hrun hthaw hkept⟩
  case ring =>
    intro s slot r data hr hmay u w taken
    exact exec_zipRingWrite_may hr hmay data

end Sys2Proof.Machine
end

section
/-! PROOF. The population, training and helpers of DRAM (R398, R410 to R412, R418, R420, R490). -/

namespace Sys2Proof.Machine

/-! ### The population and boot training (R398, R410, R411, R490) -/

section
variable {s : State}

theorem exec_memPopWrite_booting (hmode : s.mode = 2) (data : Word) :
    exec (.memPopWrite data) s = .next (if popFits data then s.hostSet Reg.MEM_POP.AT false data
      else (s.put Reg.MEM_STS.CFG_ERR 1).put Reg.PWR_BOOT_STS.RESULT 7) := by
  refine congrArg Host.Outcome.next ((if_neg (not_not.2 hmode)).trans ?_)
  cases hfits : popFits data <;> simp [State.memPop, hfits]

theorem exec_dramTraining_start (hmode : s.mode = 2) (hpop : s.get Reg.MEM_POP.POP ≠ 0) (hresult : s.get Reg.PWR_BOOT_STS.RESULT ≠ 7) :
    exec (.dramTraining .start) s
      = .next (s.each (bitList 16 (s.get Reg.MEM_POP.POP)) (fun mc t => (t.put (Reg.MC_STS.STATE mc) 1).put Reg.PWR_BOOT_STS.STEP 5)) :=
  congrArg Host.Outcome.next (if_neg (by simp [hmode, hpop, hresult]))

/-- Trainings that end: the last of them shows the memory, and tells of sub-channels that are lost. -/
theorem exec_dramTraining_done (outcomes : List TrainOutcome) :
    let mine := outcomes.filter (fun o => o.mc < 16 && s.get (Reg.MC_STS.STATE o.mc) = 1)
    let u := s.each mine (fun o t => t.trainEnds o)
    let failed := (List.range 16).filter (fun mc => u.get (Reg.MC_STS.STATE mc) = 3)
    let v := u.showMemory
    let src := srcMC (failed.headD 0)
    mine ≠ [] → exec (.dramTraining (.done outcomes)) s = .next (
      if (List.range 16).any (fun mc => u.get (Reg.MC_STS.STATE mc) = 1) then u
      else if v.subChannels = [] then (v.post (ev Code.ST_MEM_NONE src)).put Reg.PWR_BOOT_STS.RESULT 8
      else if failed ≠ [] then v.post (ev Code.ST_MEM_REDUCED src (some (v.get64 Reg.MEM_CAP.PAIR / 2 ^ 30)))
      else v) := by
  intro mine u failed v src hmine
  refine congrArg Host.Outcome.next ((if_neg hmine).trans ?_)
  exact if_congr Iff.rfl rfl (if_congr Iff.rfl rfl (if_congr decide_eq_true_iff rfl rfl))

end

/-! ### Full retrains (R412, R418) -/

section
variable {s : State} {mc : Nat} (hmc : mc < 16)
include hmc

theorem exec_mcRetrain_firmware : exec (.mcRetrain mc .firmware) s = .next (s.retrain mc) :=
  congrArg Host.Outcome.next (if_neg (Nat.not_le.2 hmc))

theorem exec_mcRetrain_write {slot : Nat} (hmay : s.mayWrite slot (Reg.MC_CTRL.AT mc)) (data : Word) :
    exec (.mcRetrain mc (.write slot data)) s
      = .next (if wbit data 0 then (s.inbound slot).retrain mc else s.inbound slot) :=
  congrArg Host.Outcome.next ((if_neg (Nat.not_le.2 hmc)).trans (State.ownerWrite_may hmay _))

theorem exec_mcRetrain_done {o : TrainOutcome} (ho : o.mc = mc) : exec (.mcRetrain mc (.done o)) s = .next (s.retrainEnds o) :=
  congrArg Host.Outcome.next ((if_neg (Nat.not_le.2 hmc)).trans (if_pos ho))

/-! ### Training helpers (R410, R420) -/

theorem exec_mcPgGo_control (data : Word) (mask errors : Nat) :
    let u := s.hostSet (Reg.MC_PG_CTRL.AT mc) (s.lockedAt (Reg.MC_PG_CTRL.AT mc)) data
    exec (.mcPgGo mc data mask errors) s = .next (if wbit data 0 then u.patternGo mc mask errors else u) :=
  congrArg Host.Outcome.next (if_neg (Nat.not_le.2 hmc))

theorem exec_mcMraGo_control (data : Word) (answer : Nat) :
    let v := s.hostSet (Reg.MC_MRA.AT mc) false data
    exec (.mcMraGo mc data answer) s = .next (if wbit data 12 then v.mraGo mc answer else v) :=
  congrArg Host.Outcome.next (if_neg (Nat.not_le.2 hmc))

end

section
variable {s : State} {mc : Nat}

theorem State.training_iff :
    s.training mc = true ↔ s.get (Reg.MC_STS.STATE mc) = 1 ∨ s.get (Reg.MC_STS.STATE mc) = 4 := by
  simp [State.training]

theorem State.patternGo_idle (hidle : ¬(s.get (Reg.MC_STS.STATE mc) = 1 ∨ s.get (Reg.MC_STS.STATE mc) = 4)) (mask errors : Nat) :
    s.patternGo mc mask errors = s.put Reg.MEM_STS.CFG_ERR 1 :=
  if_pos (by simpa [← State.training_iff] using hidle)

theorem State.patternGo_training (htrain : s.get (Reg.MC_STS.STATE mc) = 1 ∨ s.get (Reg.MC_STS.STATE mc) = 4) (mask errors : Nat) :
    s.patternGo mc mask errors = if s.get (Reg.MC_PG_CTRL.OP mc) = 0 then s
      else (s.put64 (Reg.MC_CMP_MASK.PAIR mc) (s.get64 (Reg.MC_CMP_MASK.PAIR mc) ||| mask % 2 ^ 40)).count (Reg.MC_CMP_CNT.CNT mc) errors :=
  if_neg (by simp [State.training_iff.2 htrain])

theorem State.mraGo_idle (hidle : ¬(s.get (Reg.MC_STS.STATE mc) = 1 ∨ s.get (Reg.MC_STS.STATE mc) = 4)) (answer : Nat) :
    s.mraGo mc answer = s.put Reg.MEM_STS.CFG_ERR 1 :=
  if_pos (by simpa [← State.training_iff] using hidle)

theorem State.mraGo_training (htrain : s.get (Reg.MC_STS.STATE mc) = 1 ∨ s.get (Reg.MC_STS.STATE mc) = 4) (answer : Nat) :
    s.mraGo mc answer = if s.flag (Reg.MC_MRA.READ mc) then s.put (Reg.MC_MRA.DATA mc) answer else s :=
  if_neg (by simp [State.training_iff.2 htrain])

end

/-- Settles O46: an equation for each command, and a training helper's GO by whether its sub-channel trains. -/
theorem dramBringupCommands : Obligations.DramBringupCommands := by
  refine ⟨fun s data hmode => exec_memPopWrite_booting hmode data, fun s => exec_dramTraining_start,
    fun s outcomes => exec_dramTraining_done outcomes, ?retrain, ?helpers⟩
  case retrain =>
    intro s mc hmc retrain
    exact ⟨exec_mcRetrain_firmware hmc, fun slot data hmay => exec_mcRetrain_write hmc hmay data, fun o => exec_mcRetrain_done hmc⟩
  case helpers =>
    intro s mc mask errors answer data hmc training u v
    rw [exec_mcPgGo_control hmc, exec_mcMraGo_control hmc]
    refine ⟨fun hgo => ?_, fun hgo hidle => ?_, fun hgo htrain => ?_, fun hgo => ?_, fun hgo hidle => ?_, fun hgo htrain => ?_⟩
    · rw [if_neg (by simp [hgo])]
    · rw [if_pos hgo, State.patternGo_idle hidle]
    · rw [if_pos hgo, State.patternGo_training htrain]
    · rw [if_neg (by simp [hgo])]
    · rw [if_pos hgo, State.mraGo_idle hidle]
    · rw [if_pos hgo, State.mraGo_training htrain]

end Sys2Proof.Machine
end

section
/-! PROOF. Refresh, tracking, scrubbing, power-down, errors and the freeze of DRAM (R405 to R408, R412 to R418, R522). -/

namespace Sys2Proof.Machine

/-! ### Refresh (R406, R407, R418) -/

section
variable {s : State}

/-- A refresh that is due, and the start of doubled refresh at a multiple of 15,600 mt after its wish. -/
theorem exec_refresh_due (hsubs : s.subChannels ≠ []) :
    let trefi := if s.flag Reg.MEM_STS.REF2X then 7800 else 15600
    let due := s.now / trefi * trefi
    s.dram.lastRef ≠ some due →
    let u := s.setDram (fun d => { d with lastRef := some due, refs := d.refs + 1 })
    (s.dram.wantDbl = none → exec .refresh s = .next u)
    ∧ (∀ t : Nat, s.dram.wantDbl = some t → exec .refresh s = .next (
      if due % 15600 ≠ 0 || due ≤ t then u
      else ((u.setDram ({ · with wantDbl := none })).put Reg.MEM_STS.REF2X 1).post (ev Code.ST_MEM_REF2X
          (srcMC (((List.range 16).find? (fun mc => u.flag (Reg.MC_STS.REF2X_REQ mc))).getD 0))))) := by
  intro trefi due hnew u
  have refreshes : ¬(s.subChannels = [] || s.dram.lastRef = some due) = true := by simp [hsubs, hnew]
  refine ⟨fun hnone => ?_, fun t hwant => ?_⟩
  · refine congrArg Host.Outcome.next ((if_neg refreshes).trans ?_)
    simp only [State.setDram_dram, hnone]
    rfl
  · refine congrArg Host.Outcome.next ((if_neg refreshes).trans ?_)
    simp only [State.setDram_dram, hwant]
    rfl

/-- What a poll of the refresh-rate status leaves before a hotter rank is told. -/
def State.ratePolled (s : State) (ranks : List RankStatus) : State :=
  let u := s.each s.subChannels (fun mc t => t.putB (Reg.MC_STS.REF2X_REQ mc) (ranks.any (fun r => r.mc = mc && r.doubled)))
  let want := ranks.any (·.doubled)
  let since := u.dram.calmAt.getD u.now
  let v := u.setDram ({ · with calmAt := some since, wantDbl := none })
  if want || ranks.filter (·.hotter) ≠ [] then
    u.setDram (fun d => { d with
      calmAt := none, wantDbl := if want && !u.flag Reg.MEM_STS.REF2X then d.wantDbl.or (some u.now) else d.wantDbl })
  else if since + 400000000 ≤ v.now then v.put Reg.MEM_STS.REF2X 0 else v

/-- A rank hotter still is shown and told, and where the device is to act on it the device stops. -/
def State.rankHot (s : State) (r : RankStatus) : State :=
  let tell := s.mayPost Code.ST_MEM_HOT 0 4000000000
  let x := (s.put Reg.MEM_STS.HOT 1).postLimited (ev Code.ST_MEM_HOT (srcMC r.mc)) 0 4000000000
  if tell && x.flag Reg.MEM_CTRL.HOT_ACT then x.safeStop Code.ST_MEM_HOT else x

section
variable (hthaw : s.frozen = false) {all ranks : List RankStatus} (hranks : ranks = all.filter (fun r => s.subChannels.contains r.mc))
  (hsome : ranks ≠ [])
include hthaw hranks hsome

theorem exec_refreshRatePoll_some :
    exec (.refreshRatePoll all) s = .next ((ranks.filter (·.hotter)).head?.elim (s.ratePolled ranks) (s.ratePolled ranks).rankHot) := by
  subst hranks
  refine congrArg Host.Outcome.next ((if_neg (by simp only [hthaw, hsome]; decide)).trans ?_)
  have calm (t : State) (c : Prop) [Decidable c] : t.when (decide c) (·.put Reg.MEM_STS.REF2X 0) = if c then t.put Reg.MEM_STS.REF2X 0 else t :=
    if_congr decide_eq_true_iff rfl rfl
  simp only [calm]
  generalize hhot : List.filter (fun r : RankStatus => r.hotter) _ = hot
  cases hot <;> simp only [State.ratePolled, hhot] <;> rfl

end

/-! ### Tracking and power-down (R408, R412, R418) -/

theorem exec_writeTracking_due (hen : s.flag Reg.MEM_CTRL.TRACK_EN = true) (hthaw : s.frozen = false) (hrefs : 64 ≤ s.dram.refs)
    (found : List (Nat × Int)) :
    let u := s.setDram (fun d => { d with refs := d.refs % 64 })
    exec (.writeTracking found) s
      = .next (u.each (found.filter (fun c => u.get (Reg.MC_STS.STATE c.1) = 2)) (fun c t => t.trackWrites c.1 c.2)) :=
  congrArg Host.Outcome.next (if_neg (by simp [hen, hthaw, hrefs]))

theorem exec_patrolScrub_on (hen : s.flag Reg.MEM_CTRL.SCRUB_EN = true) (hthaw : s.frozen = false) (hits : List DramCe) :
    exec (.patrolScrub hits) s = .next (s.each hits (fun e t => t.dramCe e)) :=
  congrArg Host.Outcome.next (if_neg (by simp [hen, hthaw]))

/-! ### The freeze (R416, R417, R522) -/

theorem exec_memFreeze_mapped (hthaw : s.frozen = false) {x : DramStop} {mc rest : Nat} (hmc : s.subChannel x.dpa = some (mc, rest)) :
    let code := if x.cause = 3 then Code.ST_MEM_CMD_ERR else Code.ST_MEM_UE
    let u := (s.put Reg.MEM_STS.FROZEN 1).freezeLog mc x
    let v := u.each u.job.lines (fun l t => t.lineLate l Code.ST_MEM_FROZEN (srcHP (l.row / 16)))
    exec (.memFreeze x) s = .next ((((v.errRecord (er code (srcMC mc) 3 3 0 x.dpa)).post (ev code (srcMC mc) none x.dpa)).freezeRequests).freeze
      code) := by
  refine congrArg Host.Outcome.next ((if_neg (by simp [hthaw])).trans ?_)
  simp only [hmc]

end

/-- Settles O47: an equation for each command; a poll by whether a rank is hotter still. -/
theorem dramServiceCommands : Obligations.DramServiceCommands := by
  refine ⟨fun s => exec_refresh_due, ?poll, fun _ _ => rfl, fun s hits hen hthaw => exec_patrolScrub_on hen hthaw hits,
    fun s found hen hthaw hrefs => exec_writeTracking_due hen hthaw hrefs found, ?down, fun s x mc rest hthaw => exec_memFreeze_mapped hthaw⟩
  case poll =>
    intro s all hthaw ranks u want hot since v w hsome
    have poll := exec_refreshRatePoll_some hthaw rfl hsome
    refine ⟨fun hcalm => ?_, fun r rs hhot => ?_⟩
    · rw [poll, show List.filter (fun r : RankStatus => r.hotter) ranks = [] from hcalm]
      rfl
    · intro tell x
      rw [poll, show List.filter (fun r : RankStatus => r.hotter) ranks = r :: rs from hhot]
      rfl
  case down =>
    intro s mc rank htimer hthaw hsub hrank hup hstate hidle hreads hwrites
    refine congrArg Host.Outcome.next (if_neg ?_)
    simp only [hthaw, hsub, hup, hreads, hwrites]
    simp [htimer, hrank, hstate, hidle]

end Sys2Proof.Machine
end

section
/-! PROOF. Modes, derating, domains and SPIT (R418, R482 to R485, R492, R494, R508, R509). -/

namespace Sys2Proof.Machine

/-! ### Requests for a mode (R483, R484, R494) -/

section
variable {s : State}

theorem exec_modeRequest_may {slot req : Nat} (hmay : s.mayWrite slot Reg.DEV_MODE.AT) (hreq : req < 16) :
    let u := s.inbound slot
    exec (.modeRequest slot req) s = .next (if req = 0 then u else u.modeRequest req none) := by
  intro u
  refine congrArg Host.Outcome.next ((State.ownerWrite_may hmay _).trans ?_)
  rw [Nat.mod_eq_of_lt hreq]
  exact (if_congr decide_eq_true_iff rfl rfl).trans (ite_not _ _ _)

/-- A request that is accepted: a pending one is cancelled, and this one is carried out, or waits. -/
def State.modeGoes (s : State) (req : Nat) (desc : Option (Nat × Nat)) : State :=
  let v := s.cancelMode Code.ST_MODE_CANCELLED
  if v.modeReady req then (v.enterMode req).modeDesc desc Code.ST_OK 0
  else { v.put Reg.DEV_MODE.RESULT 2 with pwr := { v.pwr with modeReq := some ⟨req, desc⟩ } }

variable {req : Nat} (desc : Option (Nat × Nat)) (hstop : req ≠ 10)
include hstop

theorem State.modeRequest_illegal (hillegal : (modeAccepts s.mode).contains req = false) :
    s.modeRequest req desc = s.modeRefuse Code.ST_MODE_ILLEGAL desc :=
  (if_neg hstop).trans (if_pos (by rw [hillegal]; rfl))

variable (haccepts : (modeAccepts s.mode).contains req = true)
include haccepts

theorem State.modeRequest_goes (hready : (if s.mode = 4 && req = 5 then s.readyRefusal else none) = none) :
    s.modeRequest req desc = s.modeGoes req desc := by
  rw [State.modeRequest, if_neg hstop, if_neg (by rw [haccepts]; decide), hready]
  rfl

end

/-- A request for a mode: refused, a Safe-stop, carried out, or waiting. -/
theorem State.modeRequest_eq (u : State) (req : Nat) (desc : Option (Nat × Nat)) :
    let refuse := fun (c : Nat) => ((u.put Reg.DEV_MODE.RESULT 1).post (ev Code.ST_MODE_REFUSED srcPWR c)).modeDesc desc Code.ST_MODE_REFUSED c
    let v := u.cancelMode Code.ST_MODE_CANCELLED
    let go := if v.modeReady req then (v.enterMode req).modeDesc desc Code.ST_OK 0
      else { v.put Reg.DEV_MODE.RESULT 2 with pwr := { v.pwr with modeReq := some ⟨req, desc⟩ } }
    (req = 10 → u.modeRequest req desc = u.requestStop desc)
    ∧ (req ≠ 10 → (modeAccepts u.mode).contains req = false → u.modeRequest req desc = refuse Code.ST_MODE_ILLEGAL)
    ∧ (req ≠ 10 → (modeAccepts u.mode).contains req = true →
      (u.mode ≠ 4 ∨ req ≠ 5 → u.modeRequest req desc = go)
      ∧ (u.mode = 4 → req = 5 → u.readyRefusal = none → u.modeRequest req desc = go)
      ∧ (∀ c, u.mode = 4 → req = 5 → u.readyRefusal = some c → u.modeRequest req desc = (refuse c).post (ev c srcPWR))) := by
  intro refuse v go
  refine ⟨fun hstop => if_pos hstop, State.modeRequest_illegal desc, fun hstop haccepts => ⟨fun hother => ?_, fun hmode hfive hready => ?_,
    fun c hmode hfive hrefuse => ?_⟩⟩
  · exact State.modeRequest_goes desc hstop haccepts (if_neg (by simpa [imp_iff_not_or] using hother))
  · exact State.modeRequest_goes desc hstop haccepts ((if_pos (by simp [hmode, hfive])).trans hready)
  · subst hfive
    exact State.modeRequest_ready_refused hmode hrefuse desc

section
variable {s : State}

theorem exec_modePendingComplete_ready {q : ModeReq} (hreq : s.pwr.modeReq = some q) (hready : s.modeReady q.target = true) :
    exec .modePendingComplete s
      = .next ((({ s with pwr := { s.pwr with modeReq := none } }).enterMode q.target).modeDesc q.desc Code.ST_OK 0) := by
  show Host.Outcome.next s.modePending = _
  simp only [State.modePending, hreq, if_pos hready]

/-- The descriptor at a maintenance ring's head that is neither a motion nor a SPIT descriptor. -/
theorem exec_mode_head {r : Nat} {d : Desc} (htype : s.ringType r = 4) (hhead : s.headDesc r = some d)
    (hop : d.at_ 16 1 = 0x40 ∨ 0x42 ≤ d.at_ 16 1) :
    let u := s.markStarted r d.index
    exec (.mode r) s = .next (
      if d.at_ 16 1 ≠ 0x40 ∨ 11 < d.at_ 17 1 ∨ d.zeroAt 18 38 = false then u.complete r d.index Code.ST_DESC_FORMAT
      else if d.at_ 17 1 = 0 then u.modeRefuse Code.ST_MODE_ILLEGAL (some (r, d.index))
      else u.modeRequest (d.at_ 17 1) (some (r, d.index))) := by
  intro u
  have mine : ¬(s.ringType r ≠ 4 || (d.at_ 16 1 ≠ 0x40 && d.at_ 16 1 < 0x42)) = true := by simp [htype]; omega
  show execMode r s = _
  simp only [execMode, hhead, if_neg mine]
  exact congrArg Host.Outcome.next (if_congr (by simp [or_assoc]) rfl rfl)

/-! ### Derating (R485) -/

theorem exec_derateChange_derated {c : Nat} (hderated : s.derated = some c) :
    (s.mode = 6 → exec .derateChange s = .next (({ s with pwr := { s.pwr with derateCode := c } }).autoMode 7 c))
    ∧ (s.mode = 7 → exec .derateChange s = .next { s with pwr := { s.pwr with derateCode := c } }) := by
  refine ⟨fun hmode => ?_, fun hmode => ?_⟩
  · refine congrArg Host.Outcome.next ((State.when_of _ _ (by simp [hmode])).trans ?_)
    simp only [State.derate, hderated]
    exact if_pos hmode
  · refine congrArg Host.Outcome.next ((State.when_of _ _ (by simp [hmode])).trans ?_)
    simp only [State.derate, hderated]
    exact if_neg (fun h => absurd (hmode.symm.trans h) (by decide))

theorem exec_derateChange_restored (hmode : s.mode = 7) (hrestored : s.derated = none) :
    exec .derateChange s = .next (s.autoMode 6 s.pwr.derateCode) := by
  refine congrArg Host.Outcome.next ((State.when_of _ _ (by simp [hmode])).trans ?_)
  simp only [State.derate, hrestored, if_pos hmode]

/-! ### Domains (R418, R492) -/

theorem exec_domainSwitchDone_free {want : Nat} (hpend : s.pwr.domPend = some want) (hfree : s.retrainHolds want = false) :
    exec .domainSwitchDone s = .next (({ s with pwr := { s.pwr with domPend := none } }).setDomains want) := by
  show Host.Outcome.next s.domDone = _
  simp only [State.domDone, hpend, hfree, Bool.false_eq_true, if_false]

/-! ### SPIT (R509) -/

section
variable (s) (r : Nat) (go : List Nat)

/-- Each running SPIT of a ring has its turn. -/
def State.spitTurns : State := s.each (s.pwr.spits.filter (fun x => x.ring = r)) (fun x t => t.spitTurn x go)

variable {s r}

theorem exec_spit_head {d : Desc} (htype : s.ringType r = 4) (hhead : s.headDesc r = some d) (hop : d.at_ 16 1 = 0x41) :
    exec (.spit r go) s = .next ((s.spitBegin r d).spitTurns r go) := by
  show execSpit r go s = _
  simp only [execSpit, hhead, if_neg (show ¬(s.ringType r ≠ 4 || d.at_ 16 1 ≠ 0x41) = true by simp [htype, hop])]
  rfl

theorem exec_spit_other (hother : ∀ d, s.headDesc r = some d → s.ringType r ≠ 4 ∨ d.at_ 16 1 ≠ 0x41) :
    exec (.spit r go) s = .next (s.spitTurns r go) := by
  show execSpit r go s = _
  cases hhead : s.headDesc r with
  | none =>
    simp only [execSpit, hhead]
    rfl
  | some d =>
    simp only [execSpit, hhead, if_pos (show (s.ringType r ≠ 4 || d.at_ 16 1 ≠ 0x41) = true by simpa using hother d hhead)]
    rfl

end

/-- The start of a SPIT descriptor, by its body and the mode. -/
theorem State.spitBegin_eq (s : State) (r : Nat) (d : Desc) :
    let u := s.markStarted r d.index
    let ports := (bitList 96 (d.at_ 24 12)).filter u.portUp
    (u.spitBad d ports = true → s.spitBegin r d = u.complete r d.index Code.ST_DESC_FORMAT)
    ∧ (u.spitBad d ports = false → u.mode ≠ 8 → s.spitBegin r d = u.drawn.complete r d.index Code.ST_MODE_REFUSED (u.open_ 32))
    ∧ (u.spitBad d ports = false → u.mode = 8 →
      let x : Spit := ⟨r, d.index, d.at_ 36 4, d.at_ 40 4, d.at_ 17 1, d.at_ 18 1,
        (u.spitRows d ports).map (fun k => (k, u.spitStart k (d.at_ 18 1), 0)), ports.map (fun p => (p, (u.port p).spits)), 0⟩
      s.spitBegin r d = (u.each ports (fun p t => t.setPort p (fun y => { y with spits := (y.spits + x.lines) % 2 ^ 28 }))).setPwr
        (fun y => { y with spits := y.spits ++ [x] })) := by
  intro u ports
  refine ⟨fun hbad => if_pos hbad, fun hfits hmode => ?_, fun hfits hmode => ?_⟩
  · exact (if_neg (Bool.eq_false_iff.1 hfits)).trans (if_pos hmode)
  · exact (if_neg (Bool.eq_false_iff.1 hfits)).trans (if_neg (not_not.2 hmode))

end

/-- Settles O52: a request by `State.modeRequest_eq`, a SPIT by what is at its ring's head, and an equation for each of the rest. -/
theorem modeCommands : Obligations.ModeCommands := by
  refine ⟨fun s slot req => exec_modeRequest_may, State.modeRequest_eq, fun s q => exec_modePendingComplete_ready,
    fun s r d => exec_mode_head, ?derate, ?domains, fun s want => exec_domainSwitchDone_free, ?spit, State.spitBegin_eq, ?turns⟩
  case derate =>
    intro s
    exact ⟨fun c hmode hderated => (exec_derateChange_derated hderated).1 hmode,
      fun c hmode hderated => (exec_derateChange_derated hderated).2 hmode, exec_derateChange_restored⟩
  case domains =>
    intro s slot data hmay u want v
    exact congrArg Host.Outcome.next (State.ownerWrite_may hmay _)
  case spit =>
    intro s r d go htype hhead hop u
    exact exec_spit_head go htype hhead hop
  case turns =>
    intro s r go hother
    exact exec_spit_other go hother

end Sys2Proof.Machine
end

section
/-! PROOF. Power levels, Surge and the core regulator (R504, R505, R507, R541, R542). -/

namespace Sys2Proof.Machine

/-! ### Requested levels and Surge (R504, R507) -/

section
variable {s : State}

/-- A requested level: a larger value is dropped, a Surge that cannot be in force is told. -/
theorem State.levelWrite_eq (s : State) (data : Word) :
    let r := wbits data 0 3
    let v := s.surgeEnds.put Reg.PWR_LEVEL.REQ r
    s.levelWrite data =
      if 4 < r then s
      else if r ≤ 1 ∧ (v.pwr.surgeBar = true ∨ 2 ≤ v.get Reg.PWR_LEVEL.THERM) then (v.post (ev Code.ST_PWR_SURGE_REFUSED srcPWR)).relevel
      else v.relevel := by
  intro r v
  refine if_congr Iff.rfl rfl ((apply_ite State.relevel _ _ _).trans (if_congr ?_ rfl rfl))
  simp [v, r]

theorem exec_stPwrSurgeEnd_eq_if :
    exec .stPwrSurgeEnd s = .next (if s.pwr.surgeBar = true ∨ s.surgeTime < 480000000000 then s
      else (((((s.showSurge).put Reg.PWR_LEVEL.SURGE_OK 0).setPwr ({ · with surgeBar := true })).post
        (ev Code.ST_PWR_SURGE_END srcPWR)).relevel)) :=
  congrArg Host.Outcome.next (if_congr (by simp) rfl rfl)

theorem exec_surgeUnbar_eq_if :
    exec .surgeUnbar s = .next (if s.pwr.surgeBar = false ∨ 240000000000 < s.surgeTime then s
      else (((s.showSurge).put Reg.PWR_LEVEL.SURGE_OK 1).setPwr ({ · with surgeBar := false })).relevel) :=
  congrArg Host.Outcome.next (if_congr (by simp) rfl rfl)

/-! ### The core regulator (R505, R541, R542) -/

section
variable (hawake : s.awake = true)
include hawake

theorem exec_vrAck_unawaited (hnone : s.pwr.vrPend = none) (v : Nat) :
    exec (.vrAck v) s = .next (s.put Reg.PWR_VSENSE.VSENSE (min v 1023)) := by
  refine congrArg Host.Outcome.next ((if_neg (by simp [hawake])).trans ?_)
  simp only [State.put_pwr, hnone]

theorem exec_vrAck_awaited {c l t : Nat} (hpend : s.pwr.vrPend = some (c, l, t)) (v : Nat) :
    let u := s.put Reg.PWR_VSENSE.VSENSE (min v 1023)
    exec (.vrAck v) s = .next (
      if v + 10 < levelVolt l ∨ u.mode = 11 then u
      else ((u.setPwr ({ · with vrPend := none })).put Reg.PWR_VR_STS.BUSY 0).setClock l) := by
  intro u
  refine congrArg Host.Outcome.next ((if_neg (by simp [hawake])).trans ?_)
  simp only [State.put_pwr, hpend]
  exact if_congr (by simp [u]) rfl rfl

end

theorem exec_stPwrVrFail_awaited {c l t : Nat} (hpend : s.pwr.vrPend = some (c, l, t)) :
    exec .stPwrVrFail s = .next (
      if s.now < t + 800000 ∨ s.mode = 11 then s
      else ((((((s.put Reg.PWR_VR_STS.FAIL 1).count Reg.PWR_VR_STS.FAILS).put Reg.PWR_VR_STS.BUSY 0).setPwr ({ · with
        vrPend := none, vrHold := some (c, s.now + 400000000) })).post (ev Code.ST_PWR_VR_FAIL srcPWR)).relevel)) := by
  show execStPwrVrFail s = _
  simp only [execStPwrVrFail, hpend]
  exact congrArg Host.Outcome.next (if_congr (by simp) rfl rfl)

end

/-- Settles O53: a requested level by `State.levelWrite_eq`, and an equation for each of the rest. -/
theorem powerCommands : Obligations.PowerCommands := by
  refine ⟨?request, ?eval, fun s => ⟨exec_stPwrSurgeEnd_eq_if, exec_surgeUnbar_eq_if⟩, ?ack, fun s c l t => exec_stPwrVrFail_awaited,
    ?alert⟩
  case request =>
    intro s slot data hmay r v
    exact congrArg Host.Outcome.next ((State.ownerWrite_may hmay _).trans (State.levelWrite_eq _ data))
  case eval =>
    intro s dynamic leakage rest hawake hmode
    exact congrArg Host.Outcome.next (if_neg (by simp [hawake, hmode]))
  case ack =>
    intro s v hawake u
    exact ⟨fun hnone => exec_vrAck_unawaited hawake hnone v, fun c l t hpend => exec_vrAck_awaited hawake hpend v⟩
  case alert =>
    intro s status hawake
    exact congrArg Host.Outcome.next (State.when_of _ _ hawake)

end Sys2Proof.Machine
end

section
/-! PROOF. Thermal samples, sensors' self-tests and the fall of the thermal level (R497 to R501, R504). -/

namespace Sys2Proof.Machine

section
variable {s : State}

theorem exec_thermalSample_running (rs : List SensorReading) (hreset : s.pwr.resetLow = false) (hrails : s.pwr.rails = [])
    (hshut : s.pwr.shut = false) :
    let u := s.readSensors rs
    let v := (u.each ((rs.zipIdx.take 24).filter (fun r => brokenBy r.1 ≠ 0)) (fun r t => t.sensorBreaks r.2 (brokenBy r.1))).thermal
    let trip := v.tripped s.pwr.firstThm
    exec (.thermalSample rs) s = .next (if 2 ≤ trip.length then v.shutdown trip else v) := by
  intro u v trip
  refine congrArg Host.Outcome.next ((if_neg (by simp [hreset, hrails])).trans ((if_neg (by simp [hshut])).trans ?_))
  exact if_congr decide_eq_true_iff rfl rfl

theorem exec_thermalSample_held (rs : List SensorReading) (hheld : s.pwr.resetLow = true ∨ s.pwr.rails ≠ []) :
    exec (.thermalSample rs) s
      = .next (s.setPwr ({ · with hot := (rs.filter (fun r => r.defect = 0 && 1808 ≤ r.temp16)).length })) :=
  congrArg Host.Outcome.next (if_pos (by simpa using hheld))

theorem exec_thermalSample_shut (rs : List SensorReading) (hreset : s.pwr.resetLow = false) (hrails : s.pwr.rails = [])
    (hshut : s.pwr.shut = true) : exec (.thermalSample rs) s = .next (s.readSensors rs) :=
  congrArg Host.Outcome.next ((if_neg (by simp [hreset, hrails])).trans (if_pos hshut))

theorem exec_sensorTestStep_awake (hawake : s.awake = true) (i : Nat) (moved : Int) :
    let u := (s.sensorBreaks i 4).thermal
    let trip := u.tripped false
    exec (.sensorTestStep i moved) s = .next (
      if i < 24 ∧ s.sensorBroken i = false ∧ (moved < 256 ∨ 384 < moved) then (if 2 ≤ trip.length then u.shutdown trip else u) else s) := by
  intro u trip
  refine congrArg Host.Outcome.next ((if_congr ?_ rfl (if_congr decide_eq_true_iff rfl rfl)).trans (ite_not _ _ _))
  simp [hawake, imp_iff_not_or]
  tauto

theorem exec_thermalLevelFall_asked {t : Nat} (hfall : s.pwr.fallAt = some t) :
    let l := s.get Reg.PWR_LEVEL.THERM - 1
    let u := s.put Reg.PWR_LEVEL.THERM l
    exec .thermalLevelFall s = .next (
      if s.now < t + 400000000 then s
      else (u.setPwr ({ · with fallAt := if u.thermTarget < l then some (t + 400000000) else none })).relevel) := by
  show execThermalLevelFall s = _
  simp only [execThermalLevelFall, hfall]

theorem exec_thermalLevelFall_unasked (hnone : s.pwr.fallAt = none) : exec .thermalLevelFall s = .next s := by
  show execThermalLevelFall s = _
  simp only [execThermalLevelFall, hnone]

end

/-- Settles O54: a sample by what holds the die, and an equation for each of the rest. -/
theorem thermalCommands : Obligations.ThermalCommands :=
  ⟨fun _ rs => exec_thermalSample_running rs, fun _ rs => exec_thermalSample_held rs, fun _ rs => exec_thermalSample_shut rs,
    fun _ i moved hawake => exec_sensorTestStep_awake hawake i moved, fun _ _ => exec_thermalLevelFall_asked,
    fun _ => exec_thermalLevelFall_unasked⟩

end Sys2Proof.Machine
end

section
/-! PROOF. Reset, supply faults and Boot (R487 to R491, R501, R540, R541, R543, R554). -/

namespace Sys2Proof.Machine

/-! ### Reset and supply faults (R487, R540, R541, R543, R554) -/

section
variable {s : State}

theorem exec_resetNRelease_eq_if (straps : Straps) :
    exec (.resetNRelease straps) s = .next (
      if s.pwr.resetLow = true then (s.setPwr ({ · with resetLow := false, straps := straps })).release else s) :=
  congrArg Host.Outcome.next ((if_congr (by simp) rfl rfl).trans (ite_not _ _ _))

theorem exec_supplyFaultRelease_faulted (straps : Straps) {rail t : Nat} (hrail : (rail, t) ∈ s.pwr.rails) :
    let left := s.pwr.rails.filter (·.1 ≠ rail)
    let u := s.setPwr ({ · with rails := left })
    exec (.supplyFaultRelease ⟨rail, straps⟩) s = .next (if left ≠ [] then u else (u.setPwr ({ · with straps := straps })).release) := by
  intro left u
  have faulted : s.pwr.rails.any (·.1 = rail) = true := List.any_eq_true.2 ⟨_, hrail, decide_eq_true rfl⟩
  exact congrArg Host.Outcome.next (if_neg (by rw [faulted]; decide))

theorem exec_supplyFault_monitored {rail : Nat} (hrail : rail = 0 ∨ 4 ≤ rail ∧ rail ≤ 9) :
    exec (.supplyFault rail) s = .next (s.supplyFault rail) :=
  congrArg Host.Outcome.next (if_pos (by simpa using hrail))

/-! ### Boot (R488 to R491) -/

section
variable (hseek : s.seeking = true) (hport : s.bootSource = 2 → s.pwr.bootPort.isSome = true) {img : Option (List Nat)}
include hseek hport

/-- The image comes from the source that the boot reads. -/
theorem bootImageVerify_read : ¬(!s.seeking || s.bootSource ≠ s.bootSource || (s.bootSource = 2 && s.pwr.bootPort.isNone)) = true := by
  simpa [hseek] using fun hhost => Option.isSome_iff_ne_none.1 (hport hhost)

theorem exec_bootImageVerify_taken (hgood : imageFault img = none) :
    exec (.bootImageVerify ⟨s.bootSource, img⟩) s
      = .next ((((s.put Reg.PWR_BOOT_STS.RESULT 0).put Reg.PWR_BOOT_STS.STEP 4).putB Reg.PWR_BOOT_STS.SLOT (s.bootSource = 1)).put
          Reg.PWR_BOOT_STS.SVN (imageField (img.getD []) 12 4)) := by
  refine congrArg Host.Outcome.next ((if_neg (bootImageVerify_read hseek hport)).trans ?_)
  simp only [hgood]

theorem exec_bootImageVerify_refused {r : Nat} (hfault : imageFault img = some r) :
    exec (.bootImageVerify ⟨s.bootSource, img⟩) s
      = .next (((s.put Reg.PWR_BOOT_STS.RESULT (if s.bootSource = 1 then 9 else r)).setPwr (fun x => { x with
          bootPort := none, bootFails := if s.bootSource = 2 then x.bootFails else x.bootFails ++ [(s.bootSource, r)] })).bootStep) := by
  refine congrArg Host.Outcome.next ((if_neg (bootImageVerify_read hseek hport)).trans ?_)
  simp only [hfault]

end

theorem exec_stBootDone_trained (hmode : s.mode = 2) (hawake : s.awake = true) (hstep : 4 ≤ s.get Reg.PWR_BOOT_STS.STEP)
    (hpop : s.get Reg.PWR_BOOT_STS.RESULT ≠ 7) (hnone : s.get Reg.PWR_BOOT_STS.RESULT ≠ 8) (hsubs : s.subChannels ≠ []) :
    let u := (((s.put Reg.PWR_BOOT_STS.RESULT 1).put Reg.PWR_BOOT_STS.STEP 6))
    let v := (u.setDomains (u.m3Domains true)).autoMode 3 Code.ST_BOOT_DONE
    let w := v.post (ev Code.ST_BOOT_DONE srcPWR (some (v.get Reg.PWR_BOOT_STS.SLOT)) (some (v.get Reg.PWR_BOOT_STS.SVN)))
    let x := w.each w.pwr.bootFails (fun f t => t.post (ev Code.ST_BOOT_SLOT_FAIL srcPWR f.2))
    exec .stBootDone s = .next (x.post (ev Code.ST_PWR_RESET_CAUSE srcPWR (x.get Reg.PWR_RST_CAUSE.CAUSE))) :=
  congrArg Host.Outcome.next (if_neg (by simp [hmode, hawake, hstep, hpop, hnone, hsubs]))

end

/-- Settles O55: RESET_N, the supply and the boot by what holds the die and what the boot reads; the owner's two writes reach it. -/
theorem resetAndBoot : Obligations.ResetAndBoot := by
  refine ⟨fun s => ⟨rfl, rfl⟩, fun s straps => ⟨exec_resetNRelease_eq_if straps, fun rail t => exec_supplyFaultRelease_faulted straps⟩,
    fun s rail => exec_supplyFault_monitored, ?image, fun s => exec_stBootDone_trained, ?writes⟩
  case image =>
    intro s img hseek hport
    exact ⟨exec_bootImageVerify_taken hseek hport, fun r => exec_bootImageVerify_refused hseek hport⟩
  case writes =>
    intro s slot
    exact ⟨fun data hmay => congrArg Host.Outcome.next (State.ownerWrite_may hmay _),
      fun hmay => congrArg Host.Outcome.next (State.ownerWrite_may hmay _)⟩

end Sys2Proof.Machine
end

section
/-! PROOF. Beacons, settings and commands between the dies (R425 to R436, R440, R452). -/

namespace Sys2Proof.Machine

/-! ### Beacons and time (R426 to R429, R440) -/

section
variable {s : State}

theorem exec_bcnM_due (hdue : s.fld.beat ≠ some (s.now / 16384)) (hawake : s.awake = true) (err : Int) (accepted : Bool) :
    let u := s.beaconOut
    exec (.bcnM err accepted) s = .next (
      if accepted && u.fieldOn then ((u.beaconIn err).beaconCarries s.hbNext).fieldBeacon (u.now / 16384 * 16384 + 2000)
      else u.setFld (fun f => { f with missing := f.missing + 1, good := 0 })) :=
  congrArg Host.Outcome.next (if_neg (by simp [hdue, hawake]))

/-- A beacon of the field die that runs: of its states, HELD, ACTIVE and PWR_FAIL are told when they are new. -/
theorem exec_bcnF_heard (hawake : s.awake = true) (hon : s.fieldOn = true) (rtt : Int) :
    let old := s.get Reg.FLD_STS.STATE
    let st := s.fld.state
    let u := s.setFld (fun f => { f with lastF := some s.now, lost := false, rtts := (rtt :: f.rtts).take 64 })
    let v := (u.put Reg.FLD_STS.STATE st.code).putB Reg.FLD_STS.SAFE24_OK (st ≠ .off && st ≠ .pwrFail)
    let w := v.timeLock (st = .held || st = .active || st = .orphan)
    exec (.bcnF rtt) s = .next (
      if st = .held ∧ old ≠ 2 then w.post (ev Code.ST_FLD_LINK srcFLD)
      else if st = .active ∧ old ≠ 3 then w.post (ev Code.ST_FLD_ACTIVE srcFLD)
      else if st = .pwrFail ∧ old ≠ 5 then (w.put Reg.FLD_EVT.PWR_FAIL 1).post (ev Code.ST_FLD_PWR_FAIL srcFLD)
      else w) := by
  intro old st u v w
  have told : s.beaconBack rtt
      = ((w.when (st = .held && old ≠ 2) (·.post (ev Code.ST_FLD_LINK srcFLD))).when (st = .active && old ≠ 3)
          (·.post (ev Code.ST_FLD_ACTIVE srcFLD))).when (st = .pwrFail && old ≠ 5)
          (fun s => (s.put Reg.FLD_EVT.PWR_FAIL 1).post (ev Code.ST_FLD_PWR_FAIL srcFLD)) := rfl
  refine congrArg Host.Outcome.next ((State.when_of _ _ (by simp [hawake, hon])).trans (told.trans ?_))
  clear_value w old st
  cases st <;> simp [State.when]

/-- The field die's loss: 480 µs without BCN_F (R428, R336). -/
theorem exec_stFldLost_silent {t : Nat} (hlast : s.fld.lastF = some t) (hsilent : t + 1920000 ≤ s.now) (hlost : s.fld.lost = false)
    (hawake : s.awake = true) :
    exec .stFldLost s = .next ((((((s.setFld ({ · with lost := true })).put Reg.FLD_EVT.LOST 1).put Reg.FLD_STS.STATE 0).timeLock
      false).post (ev Code.ST_FLD_LOST srcFLD)).handOver) := by
  show execStFldLost s = _
  simp only [execStFldLost, hlast]
  rw [if_neg (by simp [hsilent, hlost, hawake])]

theorem exec_timeLockClear_silent (hlock : s.fld.lock = true)
    (hsilent : 16 ≤ s.fld.missing ∨ ∀ t, s.fld.lastM = some t → t + 16 * 16384 ≤ s.now ∨ s.now < t) :
    exec .timeLockClear s = .next (s.setFld ({ · with lock := false, good := 0 })) := by
  show execTimeLockClear s = _
  cases hlast : s.fld.lastM with
  | none =>
    simp only [execTimeLockClear, hlast]
    rw [State.when_of _ _ (by simp [hlock])]
  | some t =>
    simp only [execTimeLockClear, hlast]
    rw [State.when_of _ _ (by simpa [hlock, hlast] using hsilent)]

section
variable {t : Nat} (hlast : s.fld.lastM = some t) (hsilent : t + 1920000 ≤ s.now ∨ s.now < t)
include hlast hsilent

theorem exec_mainDieLost_held (hheld : s.fld.state = .held) :
    exec .mainDieLost s
      = .next ((s.setFld ({ · with state := .start, lock := false, good := 0, line := [] })).fieldPins.encoutDrive) := by
  show execMainDieLost s = _
  simp only [execMainDieLost, hlast]
  rw [if_neg (by simpa [imp_iff_not_or] using hsilent)]
  simp only [hheld]

theorem exec_mainDieLost_active (hactive : s.fld.state = .active) :
    exec .mainDieLost s
      = .next ((s.setFld ({ · with state := .orphan, lock := false, good := 0, line := [] })).resetActions) := by
  show execMainDieLost s = _
  simp only [execMainDieLost, hlast]
  rw [if_neg (by simpa [imp_iff_not_or] using hsilent)]
  simp only [hactive]

end

/-! ### Commits (R433 to R435) -/

section
variable {c : Commit} {cs : List Commit} (hcommits : s.fld.commits = c :: cs)
include hcommits

theorem exec_cfgAck_oldest (hawake : s.awake = true) (hon : s.fieldOn = true) (crc : Nat) :
    let u := s.setFld ({ · with commits := cs })
    exec (.cfgAck c.index crc) s = .next (
      if crc ≠ c.crc then s.commitRetry
      else if s.fieldResult c = 0 then (u.acknowledged c).sendCommit
      else (u.put Reg.FLD_EVT.CFG_ERR 1).sendCommit) := by
  intro u
  refine congrArg Host.Outcome.next ((State.when_of _ _ (by simp [hawake, hon])).trans ?_)
  simp only [State.cfgAck, hcommits]
  rw [if_neg (not_not.2 rfl)]
  exact if_congr ne_comm rfl (apply_ite State.sendCommit _ _ _)

theorem exec_cfgAckTimeout_past (hawake : s.awake = true) (hpast : c.sent + 80000 ≤ s.now) :
    exec .cfgAckTimeout s = .next s.commitRetry := by
  show execCfgAckTimeout s = _
  simp only [execCfgAckTimeout, hcommits]
  rw [State.when_of _ _ (by simp [hawake, hpast])]

theorem State.commitRetry_cons :
    s.commitRetry = (if c.tries < 4 then ((s.sendCommit).count (Reg.FLD_CNT.CNT 5)).pmcAdd 452
      else (((s.put Reg.FLD_EVT.CMD_FAIL 1).post (ev Code.ST_FLD_CMD_FAIL srcFLD)).setFld ({ · with commits := cs })).sendCommit) := by
  simp only [State.commitRetry, hcommits]

end

/-- ARM, where both dies see HELD, makes the field die ACTIVE with the settings that the frames carried. -/
theorem State.armField_eq (u : State) :
    let v := u.armFrames
    u.armField =
      if u.get Reg.FLD_STS.STATE ≠ 2 ∨ u.fld.state ≠ .held then u.put Reg.FLD_EVT.CFG_ERR 1
      else (v.setFld (fun f => { f with
        state := .active, applied := v.armValues, outRec := v.get Reg.FLD_OUT_VAL.VALUE, outUndo := none,
        ceil := none, spdSent := none, hbLow := false })).bandSafe.outputs.actInputs := by
  intro v
  exact if_congr (by simp) rfl rfl

/-! ### REPLAY and SPD_SET (R432, R452) -/

theorem exec_replayCmd_channel {ch : Nat} (hch : ch < 3) :
    let u := s.cmdFrame 0x15 ch
    exec (.replayCmd ch) s = .next (
      if u.fld.lock && u.fld.replay.all (fun e => e.1 ≠ ch) then
        u.setFld (fun f => { f with replay := f.replay ++ [(ch, 4000000 / 2 ^ u.fget Reg.TRK_CFG.RPT_LOG)] })
      else u) :=
  congrArg Host.Outcome.next (State.when_of _ _ (decide_eq_true hch))

theorem exec_spdSet_changed (hnew : s.fld.spdSent ≠ some (s.get Reg.PWR_CEIL.CEIL)) (hawake : s.awake = true) :
    exec .spdSet s = .next ((s.setFld (fun f => { f with
      spdSent := some (s.get Reg.PWR_CEIL.CEIL), ceil := if f.state = .active then some (s.get Reg.PWR_CEIL.CEIL) else f.ceil })).cmdFrame 0x17
        (s.get Reg.PWR_CEIL.CEIL)).fieldPins :=
  congrArg Host.Outcome.next (if_neg (by simp [hnew, hawake]))

end

/-- Settles O48: an equation for each beacon, each loss and each commit's end; ARM by `State.armField_eq`. -/
theorem fieldLinkCommands : Obligations.FieldLinkCommands := by
  refine ⟨fun s err accepted hdue hawake => exec_bcnM_due hdue hawake err accepted,
    fun s rtt hawake hon => exec_bcnF_heard hawake hon rtt, fun s t => exec_stFldLost_silent, fun s => exec_timeLockClear_silent,
    ?lost, ?commits, ?control, fun s slot off data hheld => congrArg Host.Outcome.next (State.when_of _ _ hheld),
    fun s ch => exec_replayCmd_channel, fun s => exec_spdSet_changed⟩
  case lost =>
    intro s t hlast hsilent
    exact ⟨exec_mainDieLost_held hlast hsilent, exec_mainDieLost_active hlast hsilent⟩
  case commits =>
    intro s c cs hcommits u
    exact ⟨fun crc hawake hon => exec_cfgAck_oldest hcommits hawake hon crc, exec_cfgAckTimeout_past hcommits,
      State.commitRetry_cons hcommits⟩
  case control =>
    intro s slot hmay u v
    exact ⟨congrArg Host.Outcome.next (State.ownerWrite_may hmay _),
      congrArg Host.Outcome.next ((State.ownerWrite_may hmay _).trans (State.armField_eq u))⟩

end Sys2Proof.Machine
end

section
/-! PROOF. Inputs, outputs, supply and reports of the field die (R425, R436, R438, R440 to R443, R446, R447, R450, R453, R516, R552). -/

namespace Sys2Proof.Machine

/-! ### Outputs (R436, R446, R447) -/

section
variable {s : State}

theorem exec_outputLatch_checked {n : Nat} (hn : n < 8) (hchecked : s.outChecked n = true) (strong : Bool) :
    let u := ((s.setFld (fun f => { f with latched := putBit f.latched n true })).outPut n none).faultFrame (if strong then 0x02 else 0x01) n
    let v := if strong then u.put Reg.FLD_OUT_EVT.OC (putBit (u.get Reg.FLD_OUT_EVT.OC) n true)
      else u.put Reg.FLD_OUT_EVT.RB (putBit (u.get Reg.FLD_OUT_EVT.RB) n true)
    exec (.outputLatch n strong) s = .next (
      if u.awake then (v.pmcAdd 461).post (ev Code.ST_FLD_OUT_LATCH (srcField 50 15 n)) else u) :=
  congrArg Host.Outcome.next (State.when_of _ _ (by simp [hn, hchecked]))

/-- An output report at the main die: mirrored, and compared with the commanded value. -/
theorem State.outState_eq (s : State) (readback : Nat) :
    let f := s.fld
    let u := ((s.put Reg.FLD_OUT_STS.VALUE f.outVal).put Reg.FLD_OUT_STS.READBACK readback).put Reg.FLD_OUT_STS.LATCHED f.latched
    let v := ((u.putB Reg.FLD_OUT_STS.OWN f.ownPin).putB Reg.FLD_STS.OWN f.ownPin).putB Reg.DUE_STS.OWN f.ownPin
    let want := v.get Reg.FLD_OUT_VAL.VALUE
    let differs := f.state = .active && (List.range 8).any (fun i => !bit f.latched i && !v.outBrake i && bit f.outRec i ≠ bit want i)
    let w := v.setFld ({ · with outUndo := none })
    s.outState readback =
      if !differs then w.setFld ({ · with outTries := 0 })
      else if f.outTries < 3 then
        (((w.setFld ({ · with outTries := f.outTries + 1 })).sendOutSet want).count (Reg.FLD_CNT.CNT 5)).pmcAdd 452
      else (w.put Reg.FLD_EVT.CMD_FAIL 1).post (ev Code.ST_FLD_CMD_FAIL srcFLD) := rfl

/-! ### Supply (R438, R440) -/

theorem exec_safe24Restore_due
    (hdue : s.fld.state = .off ∨ s.fld.state = .pwrFail ∧ s.fld.uvAt.getD 0 + 40000000 ≤ s.now) (high band : Nat) :
    exec (.safe24Restore high band) s = .next (s.setFld (fun f => { f with
      state := .start, level := (high &&& (0xFFF - (band &&& 0xFFF))) &&& 0xFFF, band := band &&& 0xFFF })).safe24Mode :=
  congrArg Host.Outcome.next (State.when_of _ _ (by simpa using hdue))

theorem exec_safe24Undervoltage_supplied (hoff : s.fld.state ≠ .off) (hfail : s.fld.state ≠ .pwrFail) :
    let u := s.setFld (fun f => { f with
      state := .pwrFail, lock := false, good := 0, missing := 0, bad := 0, applied := [], outOn := 0, outVal := 0, outRec := 0,
      latched := 0, outUndo := none, ceil := none, hbLow := false, replay := [], actI := 0, actB := 0, uvAt := some s.now, line := [] })
    let v := ((u.drawn.faultFrame (u.open_ 8)).fieldBeacon u.now).fieldPins
    exec .safe24Undervoltage s = .next (((v.encoutTake 1 1).encoutDrive).safe24Mode.each [0, 1, 2, 3] (fun n t =>
      let t := t.moveDone n Code.ST_MOT_STOPPED (unsigned 32 ((t.axis n).final - t.restPos n))
      t.setAxis n (fun x => { enc := x.enc, desc := x.desc }))) :=
  congrArg Host.Outcome.next (if_neg (by simp [hoff, hfail]))

/-! ### Inputs (R441, R443) -/

theorem exec_inState_heard (hawake : s.awake = true) (hon : s.fieldOn = true) :
    let chg := (s.fld.level ^^^ s.get Reg.FLD_DI_STS.LEVEL) % 2 ^ 12
    let u := (s.put Reg.FLD_DI_STS.LEVEL s.fld.level).put Reg.FLD_DI_STS.BAND s.fld.band
    let acts : Bool := s.fld.state = .active || s.fld.state = .orphan
    exec .inState s = .next ((((u.put Reg.FLD_DI_EVT.CHG (u.get Reg.FLD_DI_EVT.CHG ||| chg)).pmcAdd 460 (bitList 12 chg).length).interlocks
      acts).webBreaks acts) :=
  congrArg Host.Outcome.next (if_neg (by simp [hawake, hon]))

theorem exec_diChange_eq_if (input zone : Nat) :
    let u := (s.inputReads input zone).actInputs
    exec (.diChange input zone) s = .next (if (u.fld.level, u.fld.band) ≠ (s.fld.level, s.fld.band) then u.sendInState else u) :=
  congrArg Host.Outcome.next (if_congr decide_eq_true_iff rfl rfl)

/-! ### Faults, health and the console (R440, R450, R453, R516, R552) -/

theorem exec_encLineFault_on {i : Nat} (hi : i < 6) (hon : s.fieldOn = true) :
    let u := s.faultFrame 0x03 i
    exec (.encLineFault i) s = .next (
      if u.awake then (u.put Reg.FLD_EVT.ENC_LINE 1).postLimited (ev Code.ST_FLD_ENC_LINE
        (if i < 2 then srcField 48 11 i else srcField 48 12 (i - 2))) i 4000000000 else u) :=
  congrArg Host.Outcome.next (State.when_of _ _ (by simp [hi, hon]))

theorem exec_fieldFault_awake (hawake : s.awake = true) (code i detail : Nat) :
    exec (.fieldFault code i detail) s = .next (
      if code = 0x04 then (s.put Reg.FLD_EVT.HOT 1).post (ev Code.ST_FLD_HOT srcFLD)
      else if code = 0x05 then s.count (Reg.FLD_CNT.CNT 7)
      else if code = 0x06 then
        ((s.put Reg.FLD_EVT.UART_OVF 1).count (Reg.FLD_CNT.CNT 6) (max detail 1)).postLimited
          (ev Code.ST_FLD_UART_OVF srcFLD) 0 4000000000
      else if code = 0x07 then (s.put Reg.FLD_EVT.ORPHANED 1).post (ev Code.ST_FLD_ORPHANED srcFLD)
      else s) :=
  congrArg Host.Outcome.next (if_neg (by simp [hawake]))

section
variable (hawake : s.awake = true) (hon : s.fieldOn = true) (temp : Int) (v24 i24 : Nat)
include hawake hon

theorem exec_fieldHealth_heard : exec (.fieldHealth temp v24 i24) s = .next (s.fieldHealth temp v24 i24) :=
  congrArg Host.Outcome.next (State.when_of _ _ (by simp [hawake, hon]))

theorem exec_fieldHealth_untested
    (hnone : (((s.putI Reg.FLD_HEALTH.TEMP temp).put Reg.FLD_HEALTH.V24 v24).put Reg.FLD_HEALTH.I24 i24).fld.test = none) :
    exec (.fieldHealth temp v24 i24) s
      = .next (((s.putI Reg.FLD_HEALTH.TEMP temp).put Reg.FLD_HEALTH.V24 v24).put Reg.FLD_HEALTH.I24 i24) := by
  rw [exec_fieldHealth_heard hawake hon]
  simp only [State.fieldHealth, hnone]

theorem exec_fieldHealth_tested {ch n seq : Nat} :
    let u := ((s.putI Reg.FLD_HEALTH.TEMP temp).put Reg.FLD_HEALTH.V24 v24).put Reg.FLD_HEALTH.I24 i24
    u.fld.test = some (ch, n, seq) → exec (.fieldHealth temp v24 i24) s = .next (
      if n + 1 < 3 then (u.setFld ({ · with test := some (ch, n + 1, seq) })).statusReq
      else (u.setFld ({ · with test := none })).errOutcome seq Code.ST_FLD_BARRIER_BURST 1 srcFLD) := by
  intro u htest
  rw [exec_fieldHealth_heard hawake hon]
  simp only [State.fieldHealth, htest, u]

end

theorem exec_uartRx_heard (hawake : s.awake = true) (hstate : s.fld.state = .held ∨ s.fld.state = .active) (bytes : List (Nat × Bool)) :
    let good := (bytes.filter (·.2)).map (·.1)
    let past := good.length - 64
    let u := ((s.uartFrames 4 0x25 good).count (Reg.FLD_CNT.CNT 6) (bytes.length - good.length + past)).each (good.take 64) State.consoleByte
    exec (.uartRx bytes) s = .next (
      if 0 < past then (u.put Reg.FLD_EVT.UART_OVF 1).postLimited (ev Code.ST_FLD_UART_OVF srcFLD) 0 4000000000 else u) := by
  intro good past u
  refine congrArg Host.Outcome.next ((State.when_of _ _ (by simp [hawake, hstate])).trans ?_)
  exact if_congr decide_eq_true_iff rfl rfl

/-! ### Discarded frames (R425, R516) -/

section
variable {ch frame : Nat} (hch : ch < 7) (hbad : s.takesFrame ch frame = false)
include hch hbad

theorem exec_barrierFrameDiscard_field (hfield : ch = 3 ∨ ch = 5) :
    let u := if s.fieldOn then s.faultFrame 0x05 0 ch else s
    exec (.barrierFrameDiscard ⟨ch, frame⟩) s = .next (if ch = 3 && frame / 2 ^ 42 % 64 = 0x12 then u.outSetLost else u) := by
  intro u
  exact congrArg Host.Outcome.next ((if_neg (by simp [hch, hbad])).trans (if_pos (by simpa using hfield)))

theorem exec_barrierFrameDiscard_main (hthree : ch ≠ 3) (hfive : ch ≠ 5) (hawake : s.awake = true) :
    let a := (s.count (Reg.FLD_CNT.CNT (if ch < 3 then ch else if ch = 4 then 3 else 4))).pmcAdd 439
    let times := (a.fld.discards.filter (fun e => e.1 = ch && a.now < e.2 + 4000000)) ++ [(ch, a.now)]
    let b := a.setFld (fun f => { f with discards := f.discards.filter (fun e => e.1 ≠ ch) ++ times })
    let c : State := match b.fld.test with
      | some (_, _, seq) => (b.setFld ({ · with test := none, untested := some b.now })).errOutcome seq Code.ST_FLD_BARRIER_BURST 2 srcFLD
      | none => b
    let due : Bool := match c.posted.lookup (limitKey Code.ST_FLD_BARRIER_BURST ch) with
      | some t => t + 4000000 ≤ c.now
      | none => true
    let tested : Bool := match c.fld.untested with
      | some t => t + 4000000000 ≤ c.now
      | none => true
    let d := (c.put Reg.FLD_EVT.BURST 1).postLimited (ev Code.ST_FLD_BARRIER_BURST srcFLD ch) ch 4000000
    let e := d.errRecord (er Code.ST_FLD_BARRIER_BURST srcFLD (if tested then 0 else 3) 1 6 ch)
    exec (.barrierFrameDiscard ⟨ch, frame⟩) s = .next (
      if times.length < 16 then c
      else if !due then c
      else if tested then (e.testStarted.setFld ({ · with test := some (ch, 0, d.get Reg.ERR_LOG_HEAD.HEAD) })).statusReq else e) := by
  intro a times b c due tested d e
  exact congrArg Host.Outcome.next ((if_neg (by simp [hch, hbad])).trans ((if_neg (by simp [hthree, hfive])).trans (if_neg (by simp [hawake]))))

end

end

/-- Settles O49: an equation for each report, each change of the supply and each discarded frame. -/
theorem fieldPanelCommands : Obligations.FieldPanelCommands := by
  refine ⟨?writes, fun s n strong hn hchecked => exec_outputLatch_checked hn hchecked strong, ?report,
    fun s high band hdue => exec_safe24Restore_due hdue high band, fun s => exec_safe24Undervoltage_supplied,
    fun s => exec_inState_heard, fun s input zone => exec_diChange_eq_if input zone, fun s i => exec_encLineFault_on, ?faults, ?health,
    fun s bytes hawake hstate => exec_uartRx_heard hawake hstate bytes, ?discards⟩
  case writes =>
    intro s slot data
    exact ⟨fun hmay => congrArg Host.Outcome.next (State.ownerWrite_may hmay _),
      fun hmay => congrArg Host.Outcome.next (State.ownerWrite_may hmay _)⟩
  case report =>
    intro s readback hawake hon
    exact congrArg Host.Outcome.next ((State.when_of _ _ (by simp [hawake, hon])).trans (s.outState_eq readback))
  case faults =>
    intro s i detail hawake
    have fault (code : Nat) := exec_fieldFault_awake hawake code i detail
    exact ⟨fault 4, fault 5, fault 6, fault 7⟩
  case health =>
    intro s temp v24 i24 hawake hon u
    exact ⟨exec_fieldHealth_untested hawake hon temp v24 i24, fun ch n seq => exec_fieldHealth_tested hawake hon temp v24 i24⟩
  case discards =>
    intro s ch frame hch hbad
    exact ⟨exec_barrierFrameDiscard_field hch hbad, exec_barrierFrameDiscard_main hch hbad⟩

end Sys2Proof.Machine
end

section
/-! PROOF. The commands of an axis (R459 to R468, R475, R477). -/

namespace Sys2Proof.Machine

/-! ### The written word of AXn_CMD -/

theorem wbits_ofNat {x : Nat} (h : x < 2 ^ 32) (lo w : Nat) : wbits (BitVec.ofNat 32 x) lo w = bits x lo w :=
  congrArg (bits · lo w) (Nat.mod_eq_of_lt h)

/-- ACT, FIRST and LAST are read back from the word that a write of AXn_CMD carries. -/
theorem wbits_axisCmd {act first last : Nat} (hact : act < 8) (hfirst : first < 64) (hlast : last < 64) :
    let w := BitVec.ofNat 32 (act + 256 * first + 65536 * last)
    wbits w 0 3 = act ∧ wbits w 8 6 = first ∧ wbits w 16 6 = last := by
  have hlt : act + 256 * first + 65536 * last < 2 ^ 32 := by omega
  simp only [wbits_ofNat hlt, bits]
  omega

/-! ### Writes held under R468 -/

section
variable {s : State}

theorem State.holdMotion_unheld (hheld : s.flag Reg.DUE_STS.MOT_HELD = false) (n a : Nat) (data : Word) (act : Nat) :
    s.holdMotion n a data act = none := by
  simp [State.holdMotion, hheld]

theorem State.holdMotion_held (hheld : s.flag Reg.DUE_STS.MOT_HELD = true) (n a : Nat) (data : Word) (act : Nat) :
    s.holdMotion n a data act = some (
      if s.mot.held.length < 8 then s.setMot (fun m => { m with held := m.held ++ [(a, data)] })
      else (s.put Reg.MOT_EVT.HELD_DROP 1).axisRefuse n (some act) 7 none) := by
  simp only [State.holdMotion, hheld]
  exact (apply_ite some _ _ _).symm

/-! ### What the field die does with a MOVE -/

/-- The operation that a MOVE's ACT asks for, where nothing bars the axis. -/
def State.axisOp (s : State) (n act first last : Nat) (via : Option (Nat × Nat)) : State :=
  if act = 1 then s.axisStart n first last via
  else if act = 2 then s.axisGoto n via
  else if act = 3 then s.axisStopCmd n via
  else if act = 4 then s.axisResume n via
  else if act = 5 then s.axisEnable n via
  else if act = 6 then s.axisDisable n via
  else s.axisSetPos n via

theorem State.axisMove_eq_elim (s : State) (n act first last : Nat) (via : Option (Nat × Nat)) :
    s.axisMove n act first last via
      = (s.axisBar n).elim (s.axisOp n act first last via) (fun r => s.axisRefuse n (some act) r via) := by
  unfold State.axisMove
  cases s.axisBar n <;> rfl

theorem State.axisWrite_eq_motionCmd {slot n first last : Nat} (hn : n < 4) (hmay : s.mayWrite slot (Reg.AX_CMD.AT n)) (act : Nat)
    (hfirst : first < 64) (hlast : last < 64) :
    s.axisWrite slot n act first last
      = ((s.inbound slot).motionCmd n (BitVec.ofNat 32 (act + 256 * first + 65536 * last))).outputs := by
  rw [State.axisWrite_axis hn, State.ownerWrite_may hmay, Nat.mod_eq_of_lt hfirst, Nat.mod_eq_of_lt hlast]

section
variable {act first last : Nat} (hact : 0 < act ∧ act < 8) (hfirst : first < 64) (hlast : last < 64)
include hact hfirst hlast

theorem State.motionCmd_sent (hheld : s.flag Reg.DUE_STS.MOT_HELD = false) (n : Nat) :
    let v := s.cmdFrame 0x19 (n + 4 * act + 32 * first + 2048 * last)
    s.motionCmd n (BitVec.ofNat 32 (act + 256 * first + 65536 * last))
      = (v.axisBar n).elim (v.axisOp n act first last none) (fun r => v.axisRefuse n (some act) r none) := by
  obtain ⟨h0, h8, h16⟩ := wbits_axisCmd hact.2 hfirst hlast
  simp only [State.motionCmd, h0, h8, h16, if_neg hact.1.ne', State.holdMotion_unheld hheld]
  exact State.axisMove_eq_elim ..

theorem State.motionCmd_held (hheld : s.flag Reg.DUE_STS.MOT_HELD = true) (n : Nat) :
    let w := BitVec.ofNat 32 (act + 256 * first + 65536 * last)
    s.motionCmd n w =
      if s.mot.held.length < 8 then s.setMot (fun m => { m with held := m.held ++ [(Reg.AX_CMD.AT n, w)] })
      else (s.put Reg.MOT_EVT.HELD_DROP 1).axisRefuse n (some act) 7 none := by
  obtain ⟨h0, -, -⟩ := wbits_axisCmd hact.2 hfirst hlast
  simp only [State.motionCmd, h0, if_neg hact.1.ne', State.holdMotion_held hheld]

/-! ### The owner's write of AXn_CMD -/

theorem State.axisWrite_sent {slot n : Nat} (hn : n < 4) (hmay : s.mayWrite slot (Reg.AX_CMD.AT n))
    (hheld : (s.inbound slot).flag Reg.DUE_STS.MOT_HELD = false) :
    let v := (s.inbound slot).cmdFrame 0x19 (n + 4 * act + 32 * first + 2048 * last)
    s.axisWrite slot n act first last
      = ((v.axisBar n).elim (v.axisOp n act first last none) (fun r => v.axisRefuse n (some act) r none)).outputs :=
  (State.axisWrite_eq_motionCmd hn hmay act hfirst hlast).trans
    (congrArg State.outputs (State.motionCmd_sent hact hfirst hlast hheld n))

theorem State.axisWrite_held {slot n : Nat} (hn : n < 4) (hmay : s.mayWrite slot (Reg.AX_CMD.AT n))
    (hheld : (s.inbound slot).flag Reg.DUE_STS.MOT_HELD = true) :
    let u := s.inbound slot
    s.axisWrite slot n act first last =
      if u.mot.held.length < 8 then
        (u.setMot (fun m => { m with
          held := m.held ++ [(Reg.AX_CMD.AT n, BitVec.ofNat 32 (act + 256 * first + 65536 * last))] })).outputs
      else ((u.put Reg.MOT_EVT.HELD_DROP 1).axisRefuse n (some act) 7 none).outputs := by
  rw [State.axisWrite_eq_motionCmd hn hmay act hfirst hlast, State.motionCmd_held hact hfirst hlast hheld]
  exact apply_ite State.outputs _ _ _

end

/-! ### Targets and REMAIN_SET -/

theorem State.motionTarget_eq (s : State) (n : Nat) (data : Word) :
    s.motionTarget n data =
      if s.flag Reg.DUE_STS.MOT_HELD = false then
        ((s.setWord (Reg.AX_TARGET.AT n) data).cmdFrame 0x1A (n + 4 * data.toNat)).axisTarget n (signed 32 data.toNat)
      else if s.mot.held.length < 8 then s.setMot (fun m => { m with held := m.held ++ [(Reg.AX_TARGET.AT n, data)] })
      else (s.put Reg.MOT_EVT.HELD_DROP 1).axisRefuse n (some 0) 7 none := by
  cases hheld : s.flag Reg.DUE_STS.MOT_HELD with
  | false => simp only [State.motionTarget, State.holdMotion_unheld hheld, if_true]
  | true => simp only [State.motionTarget, State.holdMotion_held hheld, Bool.true_eq_false, if_false]

theorem exec_axTarget_owner {slot n : Nat} (hn : n < 4) (hmay : s.mayWrite slot (Reg.AX_TARGET.AT n)) (data : Word) :
    exec (.axTarget slot n data) s = .next ((s.inbound slot).motionTarget n data) :=
  congrArg Host.Outcome.next ((if_neg (Nat.not_le.2 hn)).trans (State.ownerWrite_may hmay _))

theorem exec_axRemainSet_axis {n : Nat} (hn : n < 4) (v : Int) :
    let u := s.cmdFrame 0x1B (n + 4 * unsigned 32 v)
    exec (.axRemainSet n v) s = .next (
      if (u.axis n).st = .off ∨ (u.axis n).st = .standing then u.setAxis n ({ · with remain := v })
      else (u.put Reg.MOT_EVT.FRAME_DROP 1).count (Reg.FLD_CNT.CNT 7)) :=
  congrArg Host.Outcome.next ((State.when_of _ _ (decide_eq_true hn)).trans (if_congr (by simp) rfl rfl))

end

/-! ### The obligation -/

/-- Settles O50: ACT, FIRST and LAST survive the written word; held or not, a write's end follows from `holdMotion`, and the bar of the
axis chooses between the operation and its refusal. -/
theorem axisCommands : Obligations.AxisCommands := by
  unfold Obligations.AxisCommands
  refine ⟨fun s slot n hn hmay => ?_, fun s slot n hn hmay => ?_, fun s slot n data hn hmay => ?_,
    fun s n v hn => exec_axRemainSet_axis hn v⟩
  · intro u sent refuse hheld
    have hsent : ∀ act first last : Nat, 0 < act ∧ act < 8 → first < 64 → last < 64 → _ := fun act first last hact hfirst hlast =>
      congrArg (Host.Outcome.next (φ := Fault) (ρ := Refusal)) (State.axisWrite_sent hact hfirst hlast hn hmay hheld)
    have plain : ∀ act : Nat, 0 < act ∧ act < 8 → _ := fun act hact => hsent act 0 0 hact (by decide) (by decide)
    exact ⟨fun first last => hsent 1 first last (by decide), plain 2 (by decide), plain 3 (by decide), plain 4 (by decide),
      plain 5 (by decide), plain 6 (by decide), plain 7 (by decide)⟩
  · intro u held hheld
    have hkept : ∀ act first last : Nat, 0 < act ∧ act < 8 → first < 64 → last < 64 → _ := fun act first last hact hfirst hlast =>
      congrArg (Host.Outcome.next (φ := Fault) (ρ := Refusal)) (State.axisWrite_held hact hfirst hlast hn hmay hheld)
    have plain : ∀ act : Nat, 0 < act ∧ act < 8 → _ := fun act hact => hkept act 0 0 hact (by decide) (by decide)
    exact ⟨fun first last => hkept 1 first last (by decide), plain 2 (by decide), plain 3 (by decide), plain 4 (by decide),
      plain 5 (by decide), plain 6 (by decide), plain 7 (by decide)⟩
  · exact (exec_axTarget_owner hn hmay data).trans (congrArg Host.Outcome.next (State.motionTarget_eq _ n data))

end Sys2Proof.Machine
end

section
/-! PROOF. What axes do in time, and motion descriptors (R457, R464, R469 to R479). -/

namespace Sys2Proof.Machine

section
variable {s : State}

theorem exec_motionControlTick_up (hoff : s.fld.state ≠ .off) (hfail : s.fld.state ≠ .pwrFail) (enc : List Int) (sense : MotionSense) :
    exec (.motionControlTick enc sense) s = .next (s.controlTick enc sense.est sense.cs).outputs :=
  congrArg Host.Outcome.next (State.when_of _ _ (by simp [hoff, hfail]))

/-! ### The brake and hold delays (R469, R475) -/

section
variable {n : Nat} (hdue : (s.axis n).brkAt + s.brkDelay n ≤ s.now)
include hdue

theorem exec_brakeDelay_enabled (hpend : (s.axis n).brkPend = some true) :
    exec (.brakeDelay n) s = .next (s.setAxis n ({ · with st := .standing, restAt := s.now, brkPend := none })).outputs := by
  show execBrakeDelay n s = _
  simp only [execBrakeDelay, if_neg (Nat.not_lt.2 hdue), hpend]

theorem exec_brakeDelay_disabled (hpend : (s.axis n).brkPend = some false) :
    exec (.brakeDelay n) s = .next (s.setAxis n ({ · with bridges := false, cur := 0, brkPend := none })) := by
  show execBrakeDelay n s = _
  simp only [execBrakeDelay, if_neg (Nat.not_lt.2 hdue), hpend]

end

theorem exec_holdDelay_due {n : Nat} (hn : n < 4) (hst : (s.axis n).st = .standing)
    (hdue : (s.axis n).restAt + 4000000 * s.fget (Reg.AX_CUR2.HOLD_DELAY n) ≤ s.now) :
    exec (.holdDelay n) s = .next (s.setAxis n ({ · with atHold := true, cur := 1000000 * s.fget (Reg.AX_CUR2.IHOLD n) })) :=
  congrArg Host.Outcome.next (State.when_of _ _ (by simp [hn, hst, hdue]))

/-! ### Coil, stall and following faults (R473, R474) -/

theorem State.when_emergency_when_move (s : State) (st : AxisState) (f g : State → State) :
    (s.when (st = .emergency) f).when (st = .table || st = .plan || st = .stopping) g
      = if st = .emergency then f s else if st = .table ∨ st = .plan ∨ st = .stopping then g s else s := by
  cases st <;> rfl

/-- A coil fault fails a lift, ends a move short, and leaves an axis at rest as it is, before the axis turns off. -/
theorem State.coilFault_eq (s : State) (n coil : Nat) :
    let st := (s.axis n).st
    let u := if st = .emergency then s.parkFail n else if st = .table ∨ st = .plan ∨ st = .stopping then s.moveShort n .standing else s
    s.coilFault n coil = (u.axisOff n).axisTold n 0x14 coil
      (fun t => (t.put (Reg.AX_EVT.COIL n) 1).post (ev Code.ST_MOT_COIL (srcAX n) coil)) :=
  congrArg (fun u : State => (u.axisOff n).axisTold n 0x14 coil
    (fun t => (t.put (Reg.AX_EVT.COIL n) 1).post (ev Code.ST_MOT_COIL (srcAX n) coil))) (s.when_emergency_when_move _ _ _)

section
variable {n : Nat} (hn : n < 4)
include hn

theorem exec_stMotCoil_due {coil : Nat} (hcoil : coil < 2) (hon : (s.axis n).st ≠ .off)
    (hbad : 20 ≤ (s.coil n coil).weak ∨ 20 ≤ (s.coil n coil).rail) :
    exec (.stMotCoil n coil) s = .next (s.coilFault n coil).outputs :=
  congrArg Host.Outcome.next (State.when_of _ _ (by simp [hn, hcoil, hon, hbad]))

theorem exec_stMotStall_due (hmoving : (s.axis n).st.moving = true) (hdue : s.fget (Reg.AX_ADAPT.STALL_T n) ≤ (s.axis n).stallT) :
    exec (.stMotStall n) s = .next (s.axisFault n true).outputs :=
  congrArg Host.Outcome.next (State.when_of _ _ (by simp [hn, hmoving, hdue]))

theorem exec_stMotFollow_due (hmoving : (s.axis n).st.moving = true) (hdue : 100 ≤ (s.axis n).followT) :
    exec (.stMotFollow n) s = .next (s.axisFault n false).outputs :=
  congrArg Host.Outcome.next (State.when_of _ _ (by simp [hn, hmoving, hdue]))

end

/-! ### Motion descriptors (R478) -/

/-- The move that a well-formed motion descriptor asks for, with the segments of a START alone. -/
theorem State.motionDesc_eq (s : State) (r : Nat) (d : Desc) :
    let u := s.markStarted r d.index
    let op := d.at_ 16 1
    let n := d.at_ 17 1
    let bad := d.at_ 24 32 ≠ 0 || 7 < op || 3 < n || (op = 1 && (63 < d.at_ 18 1 || 63 < d.at_ 19 1))
    let v := if (op = 2 || op = 7) && (u.axisBar n).isNone then
        (u.cmdFrame 0x1A (n + 4 * d.at_ 20 4)).axisTarget n (signed 32 (d.at_ 20 4)) else u
    let first := if op = 1 then d.at_ 18 1 else 0
    let last := if op = 1 then d.at_ 19 1 else 0
    s.motionDesc r d =
      if op = 0 then u.complete r d.index Code.ST_DESC_FORMAT
      else if bad then u.complete r d.index Code.ST_MOT_REFUSED 0
      else ((v.cmdFrame 0x19 (n + 4 * op + 32 * first + 2048 * last)).axisMove n op first last (some (r, d.index))).outputs := by
  by_cases hstart : d.at_ 16 1 = 1 <;> simp only [State.motionDesc, hstart, if_true, if_false]

theorem exec_motionDescriptor_unheld {r : Nat} {d : Desc} (htype : s.ringType r = 4) (hhead : s.headDesc r = some d)
    (hheld : s.flag Reg.DUE_STS.MOT_HELD = false) (hop : d.at_ 16 1 < 0x40) :
    exec (.motionDescriptor r) s = .next (s.motionDesc r d) := by
  show execMotionDescriptor r s = _
  simp only [execMotionDescriptor, hhead]
  exact congrArg Host.Outcome.next (if_neg (by simp [htype, hheld, hop]))

end

/-! ### The obligation -/

/-- Settles O51: each event is due under its hypotheses, and a motion descriptor's end is `motionDesc_eq`. -/
theorem axisEvents : Obligations.AxisEvents := by
  unfold Obligations.AxisEvents
  refine ⟨fun s enc sense hoff hfail => exec_motionControlTick_up hoff hfail enc sense,
    fun s n => ⟨fun hdue => ⟨exec_brakeDelay_enabled hdue, exec_brakeDelay_disabled hdue⟩, exec_holdDelay_due⟩,
    fun s n hn => ⟨fun coil hcoil hon hbad => ?_, exec_stMotStall_due hn, exec_stMotFollow_due hn⟩,
    fun s r d htype hhead hheld => ?_⟩
  · exact (exec_stMotCoil_due hn hcoil hon hbad).trans
      (congrArg (fun t => Host.Outcome.next (State.outputs t)) (State.coilFault_eq s n coil))
  · exact fun hop => (exec_motionDescriptor_unheld htype hhead hheld hop).trans
      (congrArg Host.Outcome.next (State.motionDesc_eq s r d))

end Sys2Proof.Machine
end
